-- ==== Sys2Proof/Word.lean ====
section
/-! DEFINITION. Bytes, words and the fixed-size tables the model is built from. -/
namespace Sys2Proof

/-- One byte of a message or of a dictionary value, carried least significant byte first (R4). -/
abbrev Byte := BitVec 8
/-- A 16-bit word. -/
abbrev W16 := BitVec 16
/-- A 32-bit word. -/
abbrev W32 := BitVec 32
/-- A 64-bit word. -/
abbrev W64 := BitVec 64

/-- A table of `n` like things, given by position. -/
def tab {α : Type} {n : Nat} (f : Fin n → α) : Vector α n := ⟨⟨List.ofFn f⟩, by simp⟩

/-- A table with the thing at position `i` changed. -/
def upd {α : Type} {n : Nat} (v : Vector α n) (i : Fin n) (f : α → α) : Vector α n := v.set i (f v[i])

/-- Every position of a table, in ascending order. -/
def all (n : Nat) : List (Fin n) := List.ofFn id

/-- The little-endian number that a list of bytes spells (R4). -/
def leNat : List Byte → Nat
  | [] => 0
  | b :: r => b.toNat + 256 * leNat r

/-- The `n` bytes of a number, least significant first (R4). -/
def leBytes : Nat → Nat → List Byte
  | 0, _ => []
  | n + 1, v => BitVec.ofNat 8 v :: leBytes n (v / 256)

end Sys2Proof
end

