-- ==== Sys2Proof/Machine/EntryKinds.lean ====
section
/-! DEFINITION. What a row of a dictionary entry table says of its entries (R4, R5, Tables 0.4 and 0.5). -/
namespace Sys2Proof.Machine

/-- The entry types of Table 0.4. -/
inductive Ty | bool | u8 | u16 | u32 | u64 | i16 | i32 | i64 | q15 | bfp | str | oct | time64
  deriving DecidableEq, Repr

/-- The access classes of Table 0.5. -/
inductive Acc | ro | rw | wo | cmd | own | safe
  deriving DecidableEq, Repr

/-- The keep classes of Table 0.5: volatile, persistent, factory. -/
inductive Keep | v | p | f
  deriving DecidableEq, Repr

/-- A dictionary value: a number, a block floating point pair of mantissa and exponent (R126), or a string of bytes. -/
inductive DVal | num (v : Int) | bfp (m e : Int) | oct (b : List Byte)
  deriving DecidableEq, Repr, Inhabited

/-- The Default column: one value, a value for each sub-index in turn (the last row of values then 0), the object's own
number, the axis generators against the others, a string, or nothing stated. -/
inductive Dflt
  | k (v : Int) | bfp (m e : Int) | bytes (b : List Nat) | zeros (n : Nat)
  | listed (l : List Int) | nth | axisOr (a o : Int) | open
  deriving DecidableEq, Repr

/-- The Range column: any value of the type, an interval, listed values, an interval or 0, an interval or 0xFF,
allowed bits, a BFP value from 0 to a number of millionths, or a length. -/
inductive Dom
  | any | upto (hi : Int) | range (lo hi : Int) | oneOf (l : List Int) | orZero (lo hi : Int) | orNone (lo hi : Int)
  | mask (m : Nat) | frac (millionths : Nat) | len (lo hi : Nat) | lenIn (l : List Nat)
  deriving DecidableEq, Repr

/-- One row of an entry table: `count` objects `stride` indexes apart from `base`, sub-indexes `subLo` to `subHi`. -/
structure Row where
  base : Nat
  stride : Nat
  count : Nat
  subLo : Nat
  subHi : Nat
  ty : Ty
  acc : Acc
  keep : Keep
  dflt : Dflt
  dom : Dom
  deriving DecidableEq, Repr

/-- A row with its columns in the manual's order. -/
def row (base stride count subLo subHi : Nat) (ty : Ty) (acc : Acc) (keep : Keep) (dflt : Dflt) (dom : Dom) : Row :=
  ⟨base, stride, count, subLo, subHi, ty, acc, keep, dflt, dom⟩

end Sys2Proof.Machine
end

