-- ==== Sys2Proof/Machine/Operands.lean ====
section
/-! DEFINITION. What a command of the TH-96 carries: the messages, frames and values that reach the block from outside. -/
namespace Sys2Proof

/-- The two sides of the barrier (Table 1.1). -/
inductive Side | host | field
  deriving DecidableEq, Repr

/-- The isolator lanes: HF from host to field, FH from field to host (R19). -/
inductive Lane | hf | fh
  deriving DecidableEq, Repr

/-- The handshake channels that have a stale timeout (Table 1.2); a time mark channel goes to each of five islands. -/
inductive Channel
  | timeMark (receiver : Fin 5) | safetyStop | safetyFeed | leaseState | peerTime | shadowState | loadCommand
  | loadStatus | metrologyFeed | lineLink
  deriving DecidableEq, Repr

/-- A tenon message as a barrier port receives it (R19, R20): whether the start delimiter was there, the header word, the
payload bytes received and the CRC word received. -/
structure TenonMsg where
  startOk : Bool
  header : W64
  payload : List Byte
  crc : W32
  deriving DecidableEq, Repr

/-- A CAN FD frame: identifier, whether it is an FD frame, payload bytes, and the start-of-frame stamp (R349, R358). -/
structure CanFrame where
  id : BitVec 11
  fd : Bool
  data : List Byte
  stamp : Nat
  deriving DecidableEq, Repr

/-- The transport connection a dictionary message comes by (Table 12.10): a controller and the host node, one of the four
TLS connections, the USB port, or the peer link. -/
inductive Conn | can (c : Fin 2) (node : BitVec 7) | tls (n : Fin 4) | usb | peer
  deriving DecidableEq, Repr

/-- What a host puts into a dictionary request besides its service, index and sub-index (Table 12.8): the connection, the
session, the correlation tag, the flags and the data bytes. -/
structure Ask where
  conn : Conn
  session : Byte
  tag : Byte
  flags : Byte
  data : List Byte
  deriving DecidableEq, Repr

/-- How a client authenticates when it opens a session (R375, R387): over TLS how many certificates its chain has, the host root that it
validates to, if any, and the SHA-256 of its leaf certificate; over USB the number of the maintenance public key that its signature
verifies against, if any, and whether it verifies against the commissioning key. -/
structure ClientAuth where
  chain : Nat
  root : Option (Fin 8)
  leafDigest : List Byte
  key : Option (Fin 4)
  commissioning : Bool
  deriving DecidableEq, Repr

/-- What a session notice says (Table 1.6): which session opens or closes, its transport and its identity digest. -/
structure SessionChange where
  session : Fin 6
  opening : Bool
  transport : Nat
  digest : List Byte
  deriving DecidableEq, Repr

/-- One Sync and Delay_Resp exchange (R389): the four event stamps in ns (t1 and t4 by the master, t2 and t3 by this
port), the UTC offset of the Announce messages in s, and the grandmaster's identity; with them the port, the domain, the transport
(1 IEEE 802.3) and the log sync interval of the master (R388). -/
structure PtpExchange where
  port : Fin 2
  domain : Nat
  transport : Nat
  interval : Int
  t1 : Int
  t2 : Int
  t3 : Int
  t4 : Int
  utcOffset : Int
  grandmaster : W64
  deriving DecidableEq, Repr

/-- One contactor of the ring (chapter 2). -/
inductive ContactorId | tie (j : Fin 12) | brick (k : Fin 24) | outlet (j : Fin 12)
  deriving DecidableEq, Repr

/-- A brick uplink frame as the module receives it (Table 3.7): whether both delimiters were there, and the fields. -/
structure BrickUp where
  framed : Bool
  header : W16
  epochSeen : W32
  legCurrent : Vector W16 4
  vOut : W16
  vRail : W16
  vDc : W16
  iOut : W16
  legFlags : Vector Byte 4
  status : Byte
  auxIndex : Byte
  auxValue : W16
  service : BitVec 24
  crc : W16
  deriving DecidableEq, Repr

/-- An axis drive uplink frame (Table 3.13). -/
structure AxisUp where
  framed : Bool
  header : W16
  epochSeen : W32
  position : Vector W32 3
  status : Vector Byte 3
  service : BitVec 24
  crc : W16
  deriving DecidableEq, Repr

/-- What a spline port has at its uplink deadline: nothing, a frame that came late, or a frame (R64). -/
inductive Uplink | missing | late | brick (f : BrickUp) | axis (f : AxisUp)
  deriving DecidableEq, Repr

/-- A brick downlink frame (Table 3.3). -/
structure BrickDown where
  framed : Bool
  late : Bool
  header : W16
  epoch : W32
  words : Vector W32 4
  control : Byte
  service : BitVec 24
  crc : W16
  deriving DecidableEq, Repr

/-- An axis drive downlink frame (Table 3.13). -/
structure AxisDown where
  framed : Bool
  late : Bool
  header : W16
  epoch : W32
  torque : Vector W16 3
  control : Byte
  service : BitVec 24
  crc : W16
  deriving DecidableEq, Repr

/-- A frame that reaches a card: brick cards 0 to 23, axis drives 24 to 27 (SP00 to SP27). -/
inductive Downlink | brick (f : BrickDown) | axis (f : AxisDown)
  deriving DecidableEq, Repr


/-- The head data of one head node (Tables 7.2 and 1.6): connection state, up to four pin temperatures in 0.1 °C (none where not
fitted), coolant temperatures, flow in 0.01 L/min, and an insulation reading where an IMD is wired to the head: resistance,
status and time. -/
structure HeadData where
  node : Fin 16
  connection : Fin 4
  pins : List (Option Int)
  supply : Int
  return_ : Int
  flow : Nat
  imd : Option (Nat × Nat × Int)
  deriving DecidableEq, Repr

/-- What a site power data message carries (R151, R359, R360): a front end's capacities in kW, its state and its reading time, or an IMD
reading for an outlet. -/
inductive SiteData
  | frontEnd (i : Fin 8) (imp exp status stamp : Nat)
  | imd (k : Fin 12) (kohm status : Nat) (stamp : Int)
  deriving DecidableEq, Repr

/-- The fields of a vehicle's energy request (Table 7.5): phase, target voltage in mV, current in 0.1 A, maximum charge and
discharge current, maximum, minimum and present voltage in mV, and its service and control mode. -/
structure VehicleRequest where
  phase : Fin 7
  targetV : Nat
  current : Int
  maxI : Nat
  maxDis : Nat
  maxV : Nat
  minV : Nat
  presentV : Nat
  bidirectional : Bool
  dynamic : Bool
  deriving DecidableEq, Repr

/-- A message of a vehicle as the host island reads it (R188 to R192): its protocol offer and whether it comes under TLS, its
identification (Plug and Charge with its contract chain, the mobility-operator root that the chain validates to, if any, and its
identity), its own data,
an energy request, a payload of more than 8192 bytes, a request for something not supported, or the end of its
connection. -/
inductive VehicleMsg
  | offer (protocols : List Nat) (tls : Bool)
  | identify (plugAndCharge : Bool) (root : Option (Fin 8)) (chain identity : List Byte)
  | data (identity : List Byte) (service soc : Nat)
  | request (r : VehicleRequest)
  | oversize (length : Nat)
  | unsupported
  | closed
  deriving DecidableEq, Repr


/-- A metering uplink frame (Table 8.1): whether both delimiters were there and the length was right, and the fields. -/
structure MeterUp where
  framed : Bool
  header : W16
  count : W32
  volts : Vector (BitVec 24) 8
  amps : Vector (BitVec 24) 8
  temp : W16
  status : W16
  service : BitVec 48
  crc : W32
  deriving DecidableEq, Repr


/-- A frame of the peer link as a peer port receives it (Table 11.3). -/
structure PeerFrame where
  port : Fin 2
  framed : Bool
  type : Byte
  reserved : Byte
  seq : W16
  payload : List Byte
  crc : W32
  deriving DecidableEq, Repr

/-- What a module's status frame says (Table 11.4, type 0x07). -/
structure PeerInfo where
  role : Fin 4
  inStep : Bool
  serial : W64
  rank : Nat
  indicative : Bool
  format : Nat
  pairCrc : Nat
  fx : Nat
  deriving DecidableEq, Repr

/-- An Eaveline block as received (R400): whether it came uplink, its content bytes and its CRC word. -/
structure EaveBlock where
  up : Bool
  content : List Byte
  crc : W32
  deriving DecidableEq, Repr

/-- The events that the manual names (R437). -/
inductive EventName
  | channelStale
  | referenceSwitch
  | tenonReject
  | tenonGap
  | barrierLost
  | islandReset
  | busOff
  | noAddress
  | addressConflict
  | groupForced
  | eventsLost
  | dmaDone
  | topologyRefusal
  | topologyFault
  | slotFault
  | release
  | moveFailed
  | moveReversed
  | safetyLeftEnabled
  | followingError
  | legFault
  | takeOver
  | syncLost
  | loadTrip
  | railSenseDisagreement
  | tieCloseAborted
  | tieTravelFault
  | brickTravelFault
  | outletTravelFault
  | contactDisagreement
  | tieOpenedUncommanded
  | brickOpenedUncommanded
  | fibreDelay
  | saturation
  | gridLimitExpired
  | frontEndStale
  | planningOverrun
  | moveEnded
  | outletCause
  | auditTrailFull
  | safetyOutputFault
  | safetyInputFault
  | contactorFeedbackFault
  | loadDissipation
  | senseDisagreement
  | externalSelectRefused
  | loadSupplyLow
  | linkFault
  | epochExhausted
  | swapFailed
  | resyncTimeout
  | pairTimeStep
  | orderingMismatch
  | nodeRefused
  | nodeLost
  | phaseWiring
  | keyUnusable
  | slotExhausted
  | confirmTimeout
  | leafWriteFailed
  | configInvalid
  | supplyRedundancyLost
  | holdupDegraded
  | domainStartFailed
  | coldPlateHigh
  deriving DecidableEq, Repr

end Sys2Proof
end

