-- ==== Sys2Proof/Machine/StateSite.lean ====
section
/-! DEFINITION. The state of the time base, the handshake channels, the barrier, the site bus, the dictionary server, the
DMA engine, the snapshots and the event log. -/
namespace Sys2Proof.Machine

/-- The states of an island as 0x1043 reports them (Table 1.9). -/
inductive IslandState | off | starting | running | inReset | updating
  deriving DecidableEq, Repr

/-- The site time base (R14 to R17) and the islands' copies of it. -/
structure Timebase where
  /-- The instant, in 10 ns steps since power first came; every timer of the model runs by it. -/
  now : Nat
  /-- The master count of the site time base in PD7 less `now` (R14): it starts at 0 with PD7, and the alignment of R17 steps it. -/
  base : Int
  /-- When PD7 was supplied. -/
  since : Nat
  /-- Whether REF_IN drives the master (R15). -/
  onRefIn : Bool
  /-- REF_IN against the TCXO in ppb, where REF_IN is present. -/
  refError : Option Int
  /-- Since when REF_IN has stood within 20 ppm of the TCXO (R15). -/
  goodSince : Option Nat
  /-- The master's frequency against the TCXO in ppb when it was last noted, and when: it moves by 0.1 ppm a second (R15). -/
  rate : Int
  rateAt : Nat
  /-- Size of the alignment step of R17. -/
  pairStep : Int
  /-- Whether the peer steering of R17 is suspended, and the last trim that it gave: −1, 0 or 1 step a transfer. -/
  steeringHeld : Bool
  trim : Int
  /-- Last measured copy minus master, ns, PD0 to PD7. -/
  offset : Vector Int 8
  /-- What each copy stands off the master after its last correction, in steps, and when it was last compared. -/
  error : Vector Int 8
  marked : Vector Nat 8
  /-- The fractional increment that each copy adds per local cycle. -/
  increment : Vector W32 8
  /-- Which copies run in holdover, and since when. -/
  holdover : Vector Bool 8
  holdoverFrom : Vector Nat 8
  /-- Whose time stamps are flagged after 100 ms of holdover. -/
  flagged : Vector Bool 8
  /-- When each of the things that happen at the multiples of a fixed span last happened: the three telemetry windows, the Eaveline cycle,
  the cold plate reading, the load command transfer, the CAN heartbeat, the wall-clock offset, the derating update. -/
  ticked : Vector Nat 9
  deriving DecidableEq, Repr

/-- One handshake channel: the last transfer, and whether it stands at its silence value (R11). -/
structure Chan where
  last : Nat
  stale : Bool
  deriving DecidableEq, Repr

/-- A tenon message waiting at a sending port: its type, session, tag, field-side island, fragment bits, the outlet or node
that its rate limit counts by, its payload where the manual lays it out, its contents in order where it does not, its
payload length and its arrival in the queue. -/
structure TenonOut where
  type : Nat
  session : Nat
  tag : Nat
  island : Nat
  first : Bool
  last : Bool
  key : Nat
  body : List Byte
  items : List Int
  length : Nat
  at_ : Nat
  deriving DecidableEq, Repr

/-- A transmission of the last second, for the limits of R25 and R26. -/
structure Sent where
  type : Nat
  key : Nat
  start : Nat
  dur : Nat
  deriving DecidableEq, Repr

/-- One isolator lane with its sending port's queues, one per priority class (R19 to R26). -/
structure LaneState where
  txSeq : W16
  /-- The sequence the receiver expects next; none before the first message. -/
  rxSeq : Option W16
  queue : Vector (List TenonOut) 4
  onLane : Option TenonOut
  /-- The header and the CRC-32 with which the message on the lane, or the last one, was sent (R20). -/
  header : W64
  crc : W32
  busyUntil : Nat
  recent : List Sent
  /-- Times of CRC failures of the last millisecond at the receiver, and how often it has re-aligned (R23). -/
  crcFails : List Nat
  realigned : Nat
  deriving DecidableEq, Repr

/-- What a side knows of the other side's heartbeat (R30). -/
inductive BarrierView | up | restartAwaited | lost
  deriving DecidableEq, Repr

/-- The barrier as one side sees it. -/
structure BarrierSide where
  view : BarrierView
  lastHeartbeat : Nat
  /-- The restart bound the last heartbeat announced, in steps. -/
  bound : Option Nat
  /-- The island-up mask of the last heartbeat. -/
  upMask : Byte
  powerFail : Bool
  deriving DecidableEq, Repr

/-- The barrier: both lanes and both sides. -/
structure Barrier where
  hf : LaneState
  fh : LaneState
  host : BarrierSide
  field : BarrierSide
  deriving DecidableEq, Repr

/-- The bus states of 0x120c.07. -/
inductive BusState | active | passive | off | disabled
  deriving DecidableEq, Repr

/-- One CAN FD controller with its transmit FIFO, staging queues and receive queues (R351, R352, R357). -/
structure CanCtl where
  bus : BusState
  fifo : List CanFrame
  urgent : List CanFrame
  normal : List CanFrame
  rxq0 : List CanFrame
  rxq1 : List CanFrame
  lastSent : Option Nat
  deriving DecidableEq, Repr

/-- The address states of 0x1200.03. -/
inductive AddrState | waiting | listening | claiming | held | conflict | noAddress
  deriving DecidableEq, Repr

/-- Address claiming (R362 to R364): the state, the ID claimed or held, when the state began, the IDs heard, the tries
made, whether a repeat of a corrupted claim is due, and the pins. -/
structure Addr where
  state : AddrState
  id : Nat
  since : Nat
  heard : BitVec 33
  tries : Nat
  addrInHigh : Bool
  addrOut : Bool
  deriving DecidableEq, Repr

/-- A dictionary message (Table 12.8). -/
structure DictMsg where
  service : Nat
  tag : Nat
  session : Nat
  flags : Nat
  index : Nat
  sub : Nat
  data : List Byte
  deriving DecidableEq, Repr

/-- A segmented transfer (R371 to R373): direction, entry, total length, the bytes received or copied, the last segment's
time. -/
structure Transfer where
  write : Bool
  key : Nat
  total : Nat
  data : List Byte
  last : Nat
  deriving DecidableEq, Repr

/-- One session slot (R374 to R377). A free slot has no connection. -/
structure Session where
  conn : Option Conn
  identity : List Byte
  last : Nat
  /-- The previous request, its time and its response, for the repeat rule R368. -/
  prev : Option (DictMsg × Nat)
  reply : Option DictMsg
  notice : Option DictMsg
  transfer : Option Transfer
  /-- The transfer was discarded by its timeout, which the next segment is told (R372). -/
  timedOut : Bool
  /-- Requests sent across the barrier whose response is outstanding (R369), by tag. -/
  outstanding : List Nat
  deriving DecidableEq, Repr

/-- A subscription (R382 to R385): its session, period in ms, entries, next sequence, share of its bandwidth bound and next publication
instant. -/
structure Sub where
  session : Nat
  period : Nat
  keys : List Nat
  seq : Nat
  share : Nat
  next : Nat
  deriving DecidableEq, Repr

/-- A TCP connection on the dictionary port (R387). -/
structure TlsConn where
  since : Nat
  established : Bool
  deriving DecidableEq, Repr

/-- Time following (R388 to R390). `wall` is UTC minus the site time base in ns; since `slipFrom` it runs on at the last rate estimate. -/
structure Ptp where
  state : Nat
  within : Nat
  beyond : Nat
  lastSync : Nat
  offset : Int
  rate : Int
  grandmaster : Nat
  wall : Int
  slipFrom : Option Nat
  synchronised : Bool
  deriving DecidableEq, Repr

/-- The site bus and the dictionary server of the host island. -/
structure HostSite where
  can : Vector CanCtl 2
  addr : Addr
  imdCount : Vector Nat 12
  sessions : Vector Session 6
  /-- The last answer to a request of no open session. -/
  stray : Option DictMsg
  /-- A USB challenge given and its time (R375). -/
  challenge : Option (List Byte × Nat)
  /-- Group owners by group number (field side; 0x06 on the host side), and as last reported across the barrier. -/
  owners : Vector Nat 60
  ownersSeen : Vector Nat 60
  /-- The sessions that session notices have opened on the field side, with their transport and identity digest (R375). -/
  fieldSession : Vector (Option (Nat × List Byte)) 6
  /-- The islands' states as last reported across the barrier (0x1043). -/
  islandSeen : Vector IslandState 8
  /-- Openings (true) and closings that the barrier could not carry, in order (R381). -/
  unsentNotices : List (Fin 6 × Bool)
  subs : Vector (Option Sub) 16
  tls : Vector (Option TlsConn) 4
  ethLink : Vector Nat 2
  ptp : Ptp
  deriving DecidableEq, Repr

/-- The states of a DMA channel (0x181c.05). -/
inductive DmaState | idle | running | waiting | stopped | ended
  deriving DecidableEq, Repr

/-- A DMA channel (R420 to R425): its state, the descriptor it is at (none for its own registers), whether a stop is asked, who started it
(0x80 internal), how many units of its transfer have moved, and the cause of a bus error of it (0 none). -/
structure DmaChan where
  state : DmaState
  current : Option (Fin 256)
  stopAsked : Bool
  starter : Nat
  moved : Nat
  cause : Nat
  deriving DecidableEq, Repr

/-- The states of capture memory (R427). -/
inductive CapState | free | filling | held
  deriving DecidableEq, Repr

/-- The DMA engine, the working memory and the capture memory (R419, R427). `mem` lists bytes by DMA address; `epoch`
counts the releases after which capture content is undefined. -/
structure Dma where
  chan : Vector DmaChan 16
  mem : List Host.Cell
  capState : CapState
  capOwner : Nat
  capUsed : Nat
  epoch : Nat
  deriving DecidableEq, Repr

/-- One snapshot set (R430 to R436): its header fields, which islands latched, with what offset in ns and whether with a flagged time
stamp (Table 1.4), the words each latched, and which parts are stored. -/
structure SnapSet where
  written : Bool
  seq : Nat
  source : Nat
  merged : Nat
  session : Nat
  time : Nat
  eventCode : Nat
  eventGroup : Nat
  latched : Vector Bool 8
  offset : Vector Int 8
  flagged : Vector Bool 8
  words : Vector (List Int) 8
  stored : Vector Bool 8
  valid : Bool
  deriving DecidableEq, Repr

/-- The scribe distributor and the eight snapshot sets. `fieldDue` is the set whose field control part is copied at the
next period boundary (R436); `snapOut` is the start of the last SNAP_OUT pulse (R434). -/
structure Snaps where
  sets : Vector SnapSet 8
  newest : Option (Fin 8)
  lastTrigger : Option Nat
  nextSeq : Nat
  fieldDue : Option (Fin 8)
  snapOut : Option Nat
  toPartner : Nat
  deriving DecidableEq, Repr

/-- An event in an island's send queue (R438); whether its time stamp is flagged (Table 1.4), which Table 14.7 gives no place. -/
structure EventRec where
  name : EventName
  time : Nat
  data : List Byte
  flagged : Bool
  deriving DecidableEq, Repr

/-- The event log (R437 to R440): each island's send queue and lost count, the ring of 32-byte entries with their
sequences, the next sequence, and how many of the newest entries are unflushed. -/
structure Log where
  queue : Vector (List EventRec) 8
  lost : Vector Nat 8
  ring : List (Nat × List Byte)
  nextSeq : Nat
  unflushed : Nat
  lastFlush : Nat
  /-- The copy of the ring in external flash. -/
  flash : List (Nat × List Byte)
  deriving DecidableEq, Repr

end Sys2Proof.Machine
end

