-- ==== Sys2Proof/Machine/StatePower.lean ====
section
/-! DEFINITION. The state of the ring, the bricks, the legs, their links and the cards (chapters 2 and 3). -/
namespace Sys2Proof.Machine

/-- One contact input: its raw state, since when, and its debounced state. -/
structure Contact where
  raw : Bool
  since : Nat
  deb : Bool
  deriving DecidableEq, Repr

/-- One contactor as the field control island keeps it (R40 to R48). `want` is the state asked of the interlock, `cmd` the
bit as sent, `travel` the start of a change in travel, `permits` for how many consecutive periods its close permit has
held and `lows` for how many its current has been below the open limit (each at most 3). -/
structure Contactor where
  want : Bool
  cmd : Bool
  travel : Option Nat
  frozen : Bool
  travelFault : Bool
  disagree : Bool
  /-- A refusal of the change now asked for has been reported (R44). -/
  refused : Bool
  /-- It has opened without a command (R55). -/
  dropped : Bool
  lastChange : Option Nat
  permits : Nat
  lows : Nat
  deriving DecidableEq, Repr

/-- The link states of 0x22kk.10 that the module itself keeps; holding and orphan are reported by the card. -/
inductive LinkState | down | starting | up | lost
  deriving DecidableEq, Repr

/-- Running sums of a block average (R88): the sum and the count of its window of 1 ms, 100 ms and 1 s. -/
structure Avg where
  sum : Vector Int 3
  n : Vector Nat 3
  deriving DecidableEq, Repr

/-- A brick as the field control island sees it: its link (R71), its last good samples (Table 3.7) and whether the present
period has one, its contact inputs (BRK, OUT, TIE), what the card reports, the averages and the peaks. -/
structure Brick where
  link : LinkState
  /-- Consecutive good uplinks with status bit 3 set (R71), and consecutive good uplinks of any kind (R72). -/
  goodRun : Nat
  goodUps : Nat
  missing : Nat
  lastGood : Nat
  fresh : Bool
  authority : Nat
  orphan : Bool
  conflict : Bool
  otherLive : Bool
  epochSeen : Nat
  vOut : Nat
  vRail : Nat
  vDc : Nat
  iOut : Int
  railGood : Bool
  outGood : Bool
  cardFault : Bool
  pllLocked : Bool
  holding : Bool
  aux : Vector Contact 3
  cardTemp : Int
  capTemp : Int
  gateSupply : Nat
  faultWord : Nat
  /-- Port delays in ns as written to the card (R66). -/
  delay : Vector Nat 2
  fibreRefused : Bool
  /-- Service words still to be written to the card, address and value (R65). -/
  serviceQ : List (Nat × Nat)
  contactor : Contactor
  /-- The loss of this card froze the OUT switch of its rail (R54). -/
  outFrozen : Bool
  power : Avg
  voltage : Avg
  peakI : Option (Int × Int)
  peakVdc : Option Nat
  deriving DecidableEq, Repr

/-- An axis drive as the field control island sees it (Table 3.13). -/
structure Drive where
  link : LinkState
  goodRun : Nat
  missing : Nat
  lastGood : Nat
  fresh : Bool
  authority : Nat
  orphan : Bool
  conflict : Bool
  otherLive : Bool
  epochSeen : Nat
  position : Vector Int 3
  status : Vector Byte 3
  delay : Vector Nat 2
  fibreRefused : Bool
  serviceQ : List (Nat × Nat)
  /-- Torques last sent, Q15. -/
  torque : Vector Int 3
  deriving DecidableEq, Repr

/-- The leg states (Table 3.16). -/
inductive LegState | off | standby | active | diodeEmu | shed | braking | fault | lost
  deriving DecidableEq, Repr

/-- Why a leg was shed (0x21nn.02). -/
inductive ShedCause | none | lightLoad | limitRule | move
  deriving DecidableEq, Repr

/-- A leg: its state (R78), latched fault causes, last samples, the word last sent (Table 3.5), the share commanded in A, the
consecutive-period counters of R79 and Table 3.16, its braking window, its recovery from LOST, averages and peaks. -/
structure Leg where
  state : LegState
  shedCause : ShedCause
  cause : Nat
  current : Int
  temp : Int
  flags : Byte
  word : W32
  share : Rat
  belowBd : Nat
  implausible : Nat
  /-- When its last braking window started (R84). -/
  brakeStart : Option Nat
  /-- The braking window has ended with no good sample to judge the leg by (R84). -/
  awaiting : Bool
  goodSince : Option Nat
  /-- A fault reset is to be sent, and how many good uplinks may still show that it has cleared the latched flags. -/
  resetBit : Bool
  resetWait : Nat
  /-- The current limit in force, in 0.1 A (0x21nn.07). -/
  limit : Nat
  avgI : Avg
  avgP : Avg
  avgT : Avg
  peakI : Option (Int × Int)
  peakT : Option Int
  deriving DecidableEq, Repr

/-- What the sequencer keeps for the segment headed by a rail (R80 to R85): since when the shed condition has held, the outlet
current and rail voltage (10 µV) of the last period, and whether it is at its limit. -/
structure SegCtl where
  shedSince : Option Nat
  /-- A leg of the segment was braking when it was last sequenced. -/
  braking : Bool
  prevI : Option Rat
  prevV : Option Int
  faulted : Bool
  atLimit : Bool
  deriving DecidableEq, Repr

/-- The sync states of 0x2300.04. -/
inductive SyncState | free | acquiring | locked | holdover
  deriving DecidableEq, Repr

/-- The period boundary and SYNC_IN (R73 to R76). `boundary` is the latest boundary's time, `count` the period count and
`trim` the correction of the next period in steps. -/
structure Sync where
  boundary : Nat
  /-- The count of boundaries that the frames carry (Table 3.4). -/
  count : Nat
  /-- The period count (0x2600.02, R75, R119). -/
  periods : Nat
  trim : Int
  state : SyncState
  error : Int
  inside : Nat
  lastEdge : Option Nat
  missed : Nat
  /-- The last edge interval was off rate (R74). -/
  offRate : Bool
  pulses : Nat
  /-- The SYNC_OUT pulses begun last, newest first, each from its start to its end (R76). -/
  outPulse : List (Nat × Nat)
  deriving DecidableEq, Repr

/-- What the two switches of a leg do in one carrier period (R60): the intervals from the period's start in which each
conducts, in units of 312.5 ps. -/
structure Switching where
  high : List (Nat × Nat)
  low : List (Nat × Nat)
  deriving DecidableEq, Repr

/-- A card: brick cards and axis drives (R67 to R70). `words` are in force, `next` the words accepted for the next
boundary; an axis drive holds its three torques in the first three. -/
structure Card where
  authority : Option (Fin 2)
  highest : Nat
  miss : Nat
  orphan : Bool
  conflictUntil : Option Nat
  words : Vector W32 4
  next : Option (Vector W32 4)
  braking : Bool
  control : Byte
  nextControl : Byte
  brkOpened : Bool
  lastAccepted : Nat
  count : Byte
  /-- Whether a good frame of any type came on each port in each of the last three periods, newest first (R69). -/
  portGood : Vector (Vector Bool 3) 2
  gotFrame : Vector Bool 2
  /-- Consecutive periods with output current below 2 A. -/
  low : Nat
  iOut : Int
  /-- Parameters by service address 0x08 to 0x14. -/
  params : Vector Nat 13
  /-- The answer that the next uplink carries on each port. -/
  answer : Vector (BitVec 24) 2
  /-- How far its boundary stands off its authority module's, in 10 ps, and whether its PLL is locked to that port (R66). -/
  boundary : Int
  locked : Bool
  /-- Its own last samples of the leg currents in 10 mA, whether the zero-current comparator ended conduction of a leg in the cycle (R61),
  and the switching pattern in force (R60). -/
  current : Vector Int 4
  zero : Vector Bool 4
  pattern : Vector Switching 4
  /-- A parameter write that takes effect at the next boundary, address less 8 and value (Table 3.9). -/
  nextWrite : Option (Nat × Nat)
  deriving DecidableEq, Repr

/-- The ring: tie and outlet contactors (brick contactors stand with the bricks), the segments as last derived, and
the segments zeroed for a topology fault or an uncommanded opening. -/
structure Ring where
  tie : Vector Contactor 12
  outlet : Vector Contactor 12
  /-- Head rail of each rail's segment as derived in the last period (R49). -/
  head : Vector (Fin 12) 12
  /-- The ties that join two rails for one rail loop, and the head rail of each group of rails that one rail loop regulates (R91, R106): a
  segment but while the close of a tie is in travel, when its two parts are still regulated apart. -/
  joined : Vector Bool 12
  group : Vector (Fin 12) 12
  /-- Rails held at zero current under R46, and under R55. -/
  faultZero : Vector Bool 12
  openZero : Vector Bool 12
  /-- Bricks whose legs are held at zero after an uncommanded opening (R55). -/
  brickZero : Vector Bool 24
  /-- Rails whose two cards disagreed in the last period (R42). -/
  senseDisagree : Vector Bool 12
  seg : Vector SegCtl 12
  /-- The field control island has restarted and sends legs off and contactor bits as reported (R72). -/
  restart : Bool
  /-- The topology fault of R46 is in force. -/
  broken : Bool
  deriving DecidableEq, Repr

end Sys2Proof.Machine
end

