-- ==== Sys2Proof/Machine/StateEngine.lean ====
section
/-! DEFINITION. The state of the rails, the loop engine, the profile generators and the injection channels (chapters 4
and 5). -/
namespace Sys2Proof.Machine

/-- A value as the engine holds it (R125, R126): a mantissa of 16 bits and, in block floating point, its exponent. In Q15 the mantissa
is a fraction of the full scale of its quantity and the exponent is 0. -/
structure Fixed where
  m : Int
  e : Int
  deriving DecidableEq, Repr
/-- The value 0, in either format. -/
def zeroFixed : Fixed := ⟨0, 0⟩

/-- The rail states (Table 4.4). -/
inductive RailState | free | precharging | joined | live | draining | isolated
  deriving DecidableEq, Repr

/-- The episodes of 0x24k0.09 (Table 4.2). -/
inductive Episode | none | start | coincidentTie | coincidentOutlet | ratiometric | stop
  deriving DecidableEq, Repr

/-- The episode results of 0x24k0.0D. -/
inductive EpResult | none | done | timeout | deviation | superseded | stopForced | senseLost | notFitted
  deriving DecidableEq, Repr

/-- The isolated causes of 0x24k0.0E. -/
inductive IsoCause | none | notFitted | command | drainIncomplete | senseLost
  deriving DecidableEq, Repr

/-- A rail (R91 to R114). `s` and `t` are the slewed set-point and the target in 10 µV, `rate` the rate in 0.01 V/ms. -/
structure Rail where
  state : RailState
  currentMode : Bool
  governing : Fin 12
  s : Int
  t : Int
  rate : Nat
  /-- The command stored for the next boundary (R98): target in 10 µV and rate. -/
  command : Option (Int × Nat)
  /-- The mode asked for at the next boundary (R95). -/
  modeAsked : Option Bool
  /-- Consecutive periods without a measured voltage (R104), and since when there has been one. -/
  missing : Nat
  validSince : Option Nat
  flagged : Bool
  episode : Episode
  /-- The leader rail of the ratiometric or stop episode the rail belongs to. -/
  leader : Option (Fin 12)
  epStart : Nat
  settleUntil : Nat
  /-- The tie a coincident tie episode is for. -/
  tie : Fin 12
  /-- The rail follows a joined cable check (R193) led by the outlet of this rail. -/
  follows : Option (Fin 12)
  paused : Bool
  inWindow : Bool
  /-- Consecutive metrology feed updates in which the outlet close permit held, at most 3 (R106). -/
  feedOk : Nat
  /-- The last measured voltages of the neighbour across the tie, newest first, at most 10, in 10 µV. -/
  neighbour : List Int
  /-- The measured voltage and the outlet current in A of the previous period (R95, R105, R107). -/
  vPrev : Option Int
  iPrev : Rat
  /-- The effective ceiling and floor as last looked at, in 10 µV (R101). -/
  ceil : Option Int
  floor : Option Int
  /-- The tracking parameters of Table 4.8 as its episode took them at its start, by sub-index less 1 (R116). -/
  par : Vector Nat 11
  result : EpResult
  isoCause : IsoCause
  /-- A stop waits for the current reference to fall to zero (R111). -/
  stopWaits : Bool
  /-- Legs are missing and the rail drains through the passive paths (R111). -/
  passive : Bool
  /-- How long a stop has run outside a safety stop, in steps (R112). -/
  drained : Nat
  /-- A safety stop bit held the rail in the last period (R113). -/
  stopHeld : Bool
  /-- The current reference in A and the at-limit bits (R131). -/
  iRef : Rat
  atLimit : Nat
  xv : Fixed
  xc : Fixed
  sPrev : Int
  deriving DecidableEq, Repr

/-- A ratiometric episode (R107 to R111) by its leader: members, end voltage in 10 µV, rate, progress, start voltages, the
end of the settle, how many periods x has been frozen in total, and whether it is a stop. -/
structure Ratio where
  mask : Vector Bool 12
  vEnd : Int
  rate : Nat
  x : Rat
  v0 : Vector Int 12
  settleUntil : Nat
  frozen : Nat
  stop : Bool
  deriving DecidableEq, Repr

/-- A collector cell (R121): its output record, which for a leg holds the next integrator states of both results too (R123), and its
written and fault flags. -/
structure Cell where
  out : List Rat
  next : List Fixed
  written : Bool
  fault : Bool
  deriving DecidableEq, Repr

/-- An axis slot's state (Table 5.4) with the flag of R140; the torque is the Q15 torque last computed. -/
structure Axis where
  xa : Fixed
  pPrev : Int
  follow : Nat
  error : Int
  flag : Bool
  torque : Int
  deriving DecidableEq, Repr

/-- A thermal slot's state (R133): the integrator, the duty last sent in Q15, whether its input is stale, and the last
temperature that its source delivered with its time. -/
structure Thermal where
  xt : Fixed
  duty : Int
  stale : Bool
  input : Option Int
  inputAt : Nat
  deriving DecidableEq, Repr

/-- The users of a generator (0x26gg.01). -/
inductive GenUser | outlet | allocator | axis | hostFree | hostThermal | none
  deriving DecidableEq, Repr

/-- The states of a generator (0x26gg.0A). -/
inductive GenState | rest | moving | held | override
  deriving DecidableEq, Repr

/-- One phase of a plan: its jerk in units/s³ and its length in seconds. -/
structure Phase where
  jerk : Rat
  time : Rat
  deriving DecidableEq, Repr

/-- A profile generator (R134 to R139): `p`, `v`, `a` and the target in the generator's unit with 24 fraction bits. -/
structure Gen where
  user : GenUser
  p : Int
  v : Int
  a : Int
  target : Int
  plan : List Phase
  state : GenState
  /-- A new target or limits await the next update (R137). -/
  replan : Bool
  /-- The period count at which a delayed start is due (R141). -/
  due : Option Nat
  /-- The handover limits taken with the generator while the allocator holds it (R163), in A/ms, A/ms² and A/ms³. -/
  handover : Option (Nat × Nat × Nat)
  deriving DecidableEq, Repr

/-- The states of an injection channel. -/
inductive InjState | idle | settling | measuring | done | aborted
  deriving DecidableEq, Repr

/-- An injection channel (R142 to R146): its state and abort cause, the sample number, the frequency and the sample within it
for a stepped sine, the phase accumulator, the shift register, the value added in this period, the accumulated X and Y
of each analysis frequency, the session that started it, and its capture frames. -/
structure Inj where
  state : InjState
  cause : Nat
  n : Nat
  step : Nat
  inStep : Nat
  phi : Nat
  lfsr : Nat
  value : Rat
  x : List (Rat × Rat)
  y : List (Rat × Rat)
  /-- Frequencies whose window has completed. -/
  complete : Nat
  session : Nat
  startTime : Nat
  frames : Nat
  deriving DecidableEq, Repr

/-- The loop engine (R117 to R128). -/
structure Engine where
  running : Nat
  w : Nat
  legX : Vector Fixed 96
  /-- Of every leg: whether the last result sent was the stop result, and whether its samples were reused (Table 5.4, leg word 5). -/
  legStop : Vector Bool 96
  legReused : Vector Bool 96
  axis : Vector Axis 12
  thermal : Vector Thermal 16
  /-- The two collector banks (R121). -/
  closed : Vector Cell 136
  filling : Vector Cell 136
  /-- Slots with an uncorrectable error in the last period (R124). -/
  faulted : List (Fin 136)
  /-- When each class last saturated (R128). -/
  satAt : Vector (Option Nat) 4
  gen : Vector Gen 28
  /-- Sequence timer owners: generator number, 0x40 or 0x41 for a channel (R141). -/
  timer : Vector (Option Nat) 4
  inj : Vector Inj 2
  /-- The safety stop mask sampled at 2.0 µs and 7.8 µs of the period (R13). -/
  stopFirst : Vector Bool 12
  stopSecond : Vector Bool 12
  /-- What the safety stop channel last brought: the outlet stop mask and the torque-off mask (Table 1.2). -/
  stopMask : Vector Bool 12
  torqueOff : Vector Bool 4
  /-- The duties that the load command transfer takes, those of the last period with w = 99, in Q15 (R119). -/
  loadDuty : Vector Int 16
  deriving DecidableEq, Repr

end Sys2Proof.Machine
end

