-- ==== Sys2Proof/Machine/StateField.lean ====
section
/-! DEFINITION. The state of the allocator, the outlets and the vehicle sessions (chapters 6 and 7). -/
namespace Sys2Proof.Machine

/-- The kinds of move (Table 6.3). -/
inductive MoveKind | join | split | addLegs | shedLegs | isolate | restore
  deriving DecidableEq, Repr

/-- The states of a move (Table 6.4). -/
inductive MoveState | queued | running | reversing | done | reversed | failed | dropped
  deriving DecidableEq, Repr

/-- The phases of a move (Table 6.10). -/
inductive MovePhase | none | track | close | handover | openWait | opening | permitWait
  deriving DecidableEq, Repr

/-- The causes of a move's end (Table 6.10). -/
inductive MoveCause
  | none | planChange | trackTimeout | travelFault | openRefused | handoverTimeout | stopOrRelease | driverLost | noLegs | noPermit
  deriving DecidableEq, Repr

/-- A move of the plan (R162 to R173): its tie, brick or segment head, a rail of its target segment and, for a join, one of
the joining part, the legs of its group, its start and the start of its phase, its generator, whether the contactor change
has been granted, and whether R164 holds the generator. `wait` counts the periods since a reversing handover began. -/
structure PlanMove where
  kind : MoveKind
  state : MoveState
  phase : MovePhase
  cause : MoveCause
  object : Nat
  rail : Fin 12
  other : Fin 12
  group : List (Fin 96)
  started : Nat
  elapsed : Nat
  phaseAt : Nat
  gen : Option (Fin 28)
  granted : Bool
  held : Bool
  /-- The cause of Table 6.5 that came while the contactor was in travel, for the phase reached (R170). -/
  pending : MoveCause
  /-- The active legs of its segment when the handover last looked (R165). -/
  legs : Nat
  /-- The planning headroom that its cap uses, in % (R166, R177). -/
  headroom : Nat
  deriving DecidableEq, Repr

/-- A plan (R155 to R161): final grants in 0.1 A, demands, limit causes, the segment of each outlet that has one (its
rails, upwards from its head), the ties closed in the layout, and its moves. -/
structure Plan where
  grant : Vector Int 12
  demand : Vector Int 12
  cause : Vector Nat 12
  layout : Vector (Option (List (Fin 12))) 12
  ties : Vector Bool 12
  moves : List PlanMove
  impKw : Rat
  expKw : Rat
  budgetLimited : Bool
  legsLimited : Bool
  deriving DecidableEq, Repr

/-- One front end's capacity in kW (R151): import, export, when it last came, whether it is stale, whether its stale hold
has ended. -/
structure FrontEnd where
  imp : Nat
  exp : Nat
  stamp : Nat
  at_ : Option Nat
  stale : Bool
  gone : Bool
  deriving DecidableEq, Repr

/-- The allocator (R149 to R177). -/
structure Alloc where
  /-- Grants in force, 0.1 A (R157, R166). -/
  grant : Vector Int 12
  plan : Plan
  planNo : Nat
  planTime : Nat
  /-- Why each grant in force stands where it does (0x2816), and the capability at the end of a move that bounds it until the next plan, in
  0.1 A (R166). -/
  cause : Vector Nat 12
  ceiling : Vector (Option Int) 12
  /-- The headroom, the efficiency and the handover limits of the present cycle (R177). -/
  par : Vector Nat 5
  /-- When the present cycle began, until its 8.00 ms; and the plan computed in it. -/
  cycle : Option Nat
  next : Option Plan
  /-- The written grid limits, in kW, and when they were written last (R152). -/
  written : Nat × Nat
  writtenAt : Option Nat
  /-- Whether the fallback limits are in force (R152). -/
  fallback : Bool
  front : Vector FrontEnd 8
  /-- Since when a planned segment's need has been a rail below its holding, by outlet (R159), and whether its hold has
  ended. -/
  surplusSince : Vector (Option Nat) 12
  surplusDue : Vector Bool 12
  /-- A failed restore is not planned again before this instant (Table 6.3). -/
  restoreAfter : Vector Nat 24
  overrun : Bool
  /-- Moves ended since the last plan. -/
  ended : Nat
  deriving DecidableEq, Repr

/-- The outlet states (Table 7.4), in the order of 0x30k0.01. -/
inductive OutState
  | idle | plugged | handshake | cableCheck | precharge | delivering | returning | winddown | weldCheck | ended | faulted
  | outOfService
  deriving DecidableEq, Repr

/-- The steps of a cable check (R193). -/
inductive CheckStep | wait | closing | raising | hold | passed
  deriving DecidableEq, Repr

/-- The events without a cause that may move an outlet at its boundary (Table 7.4): a vehicle connected or gone for 100 ms, the weld check
passed, a direction change completed, and the outlet's service and fault reset commands. -/
inductive OutEvent | plug | unplug | pass | turned | outOfService | toService | reset
  deriving DecidableEq, Repr

/-- An IMD reading (R196): resistance in kΩ, status (0 measuring, 1 valid, 2 warning, 3 fault, 4 disabled), stamp. -/
structure ImdReading where
  kohm : Nat
  status : Nat
  stamp : Int
  deriving DecidableEq, Repr

/-- An outlet (R179 to R209): its state machine, the last accepted update, the head's data, the cable check, the wind-down
and the cooling. Currents in 0.1 A, vehicle voltages in mV, the cable-side voltage in 10 µV. -/
structure Outlet where
  state : OutState
  cause : Nat
  faults : Nat
  since : Nat
  /-- The causes raised, bit n for cause n, and the events come since the outlet's last boundary (R182). -/
  raised : Nat
  events : List OutEvent
  /-- The last accepted target update: its count, when it came, its phase and flags. -/
  updCount : Option Nat
  updAt : Nat
  phase : Nat
  flags : Nat
  /-- The phase asked for has not yet taken effect (R186). -/
  phaseWaits : Bool
  targetV : Nat
  reqI : Int
  maxI : Nat
  maxDis : Nat
  vehMax : Option Int
  vehMin : Option Int
  presentV : Nat
  protocol : Nat
  /-- The connection state reported, and since when. -/
  conn : Nat
  connSince : Nat
  headAt : Option Nat
  headStale : Bool
  pin : Option Int
  supplyT : Int
  returnT : Int
  flow : Nat
  imdEnabled : Bool
  imd : Option ImdReading
  /-- The insulation evaluation: 0 unknown, 1 valid, 2 warning, 3 fault. -/
  insul : Nat
  step : CheckStep
  stepAt : Nat
  vcc : Nat
  /-- Periods in which the current-limit bit has been set during steps 4 and 5 (R195). -/
  shortTicks : Nat
  /-- A fast stop's starting output (24 fraction bits) and the boundary it began at. -/
  fast : Option (Int × Nat)
  /-- The current limit in 0.1 A of a rail that an end of session left in voltage mode (R184). -/
  heldLimit : Option Int
  /-- Consecutive periods below the outlet open limit, and metrology feed updates below the dead level. -/
  lows : Nat
  dead : Nat
  /-- The rail's stop is due once the contactor counts open (R502). -/
  stopDue : Bool
  /-- A direction change waits for its generator to rest (R199). -/
  turning : Bool
  /-- The cooling loop is enabled (R204). -/
  cooling : Bool
  /-- When the run-on began; the flow below its minimum since, at or above it since; the flow fault (R204, R206). -/
  runOn : Option Nat
  flowLow : Option Nat
  flowOk : Option Nat
  flowFault : Bool
  derated : Int
  /-- The cable-side voltage and current of the metrology feed. -/
  cableV : Option Int
  outI : Int
  statusCount : Nat
  statusAt : Nat
  /-- The state that the last status gave. -/
  shown : OutState
  /-- The switch-over target hold since a lease transfer (R336), and the bound on the grant that a hold of R30 or R336 sets. -/
  swHold : Option Nat
  grantCap : Option Int
  /-- The outlet has not yet left OUT_OF_SERVICE since the field control island started (R181). -/
  startDue : Bool
  deriving DecidableEq, Repr

/-- The host island's side of a vehicle session (R188 to R192): whether its TLS session is open, whether a result is
pending and since when, whether the vehicle is authorized, the last update sent, and the outlet status held. -/
structure Vehicle where
  tls : Bool
  pendingSince : Option Nat
  authorized : Bool
  protocol : Nat
  count : Nat
  lastSent : Nat
  update : List Byte
  status : List Byte
  deriving DecidableEq, Repr

end Sys2Proof.Machine
end

