-- ==== Sys2Proof/Machine/StateMetro.lean ====
section
/-! DEFINITION. The state of the metrology island (chapter 8). -/
namespace Sys2Proof.Machine

/-- The roles of a metering session (0x381k.08). -/
inductive MRole | meter | witness | handover | continuation
  deriving DecidableEq, Repr

/-- An open metering session (R226 to R230): the outlet session number, its role, whether it started late, its opening and
the readings and power-up count there, the handover marker, and what it has gathered: the metering gap in µs, frames below
the threshold, temperature substituted, head not paired, flow at cut. -/
structure MSession where
  number : Nat
  role : MRole
  late : Bool
  openedAt : Nat
  startD : Nat
  startR : Nat
  startPower : Nat
  marker : Option Nat
  gap : Nat
  below : Nat
  tempSub : Bool
  unpaired : Bool
  flowCut : Bool
  deriving DecidableEq, Repr

/-- A closed session that waits for its signature, with what Tables 8.7 and 8.8 say of it. -/
structure MRecord where
  outlet : Fin 12
  kind : Nat
  flags : Nat
  session : MSession
  closedAt : Nat
  endD : Nat
  endR : Nat
  endPower : Nat
  bound : Nat
  ident : List Byte
  evse : List Byte
  deriving DecidableEq, Repr

/-- A signed record in the metering-record ring, with the instant at which lane FH last took it; none while it waits for the lane (R31). -/
structure RingRec where
  seq : Nat
  payload : List Byte
  sentAt : Option Nat
  deriving DecidableEq, Repr

/-- What the samples of one metering interval have gathered (R218, R221): the interval's number, the delivered and returned
sums in 0.2 µW, and the sums of the samples with their count. -/
structure Sums where
  interval : Nat
  del : Int
  ret : Int
  v : Int
  i : Int
  n : Nat
  deriving DecidableEq, Repr

/-- One outlet's meter (R210 to R230). Totals are in 2⁻³² mWh and `dt` is Δt in steps. -/
structure Meter where
  link : Bool
  missRun : Nat
  goodRun : Nat
  /-- The sample count expected of the next frame. -/
  expect : Option W32
  /-- The frame from which Δt is being measured: its count and arrival. -/
  mark : Option (W32 × Nat)
  dt : Rat
  /-- The values of Table 8.3 read from the head, and the address last asked. -/
  head : Vector (Option Nat) 8
  asked : Nat
  /-- The downlink frame last sent, from its header to its CRC (R213). -/
  down : List Byte
  acc : List Sums
  totD : Nat
  totR : Nat
  remD : Rat
  remR : Rat
  feedV : Option Int
  feedI : Option Int
  /-- Whether the feed has been given since the island started. -/
  fed : Bool
  temp : Int
  /-- Consecutive frames below the no-load threshold, at most 20. -/
  quiet : Nat
  session : Option MSession
  /-- The latest outlet status copy: state, status time, and whether its module held the lease. -/
  copy : Option (Nat × Nat × Bool)
  opening : Option (Nat × Bool)
  closing : Option Nat
  deriving DecidableEq, Repr

/-- A pulse output (R236 to R240), SO1 to SO4 then TP1 to TP4: the residue in 2⁻³² mWh, the backlog, the last rising edge,
and the edges of a test output that are still to come. -/
structure Pulse where
  residue : Rat
  backlog : Nat
  lastEdge : Option Nat
  edges : List Nat
  deriving DecidableEq, Repr

/-- A save block (R241, R242). -/
structure SaveBlock where
  seq : Nat
  final : Bool
  at_ : Nat
  totals : Vector (Nat × Nat) 12
  rems : Vector (Rat × Rat) 12
  sessions : Vector (Option MSession) 12
  residues : Vector Rat 8
  backlogs : Vector Nat 8
  recordSeq : Nat
  powerUps : Nat
  deriving DecidableEq, Repr

/-- The metrology island. `interval` is the number of the oldest metering interval not yet ended; `aligned` says that the
alignment step of R17 has been made; `warned` is the time of a power-fail warning in force. `stored` holds the records in
the host island's non-volatile store. `keyNo` names the signing key that the island holds (R233, Table 15.2). -/
structure Metro where
  meter : Vector Meter 12
  interval : Nat
  toSign : List MRecord
  ring : List RingRec
  stored : List (List Byte)
  saves : Vector (Option SaveBlock) 2
  saveSeq : Nat
  window : Option Nat
  audit : List (List Byte)
  pulse : Vector Pulse 8
  aligned : Bool
  warned : Option Nat
  finalDone : Bool
  keyNo : Option Nat
  deriving DecidableEq, Repr

end Sys2Proof.Machine
end

