-- ==== Sys2Proof/Machine/StateSafety.lean ====
section
/-! DEFINITION. The state of the safety island (chapter 9). -/
namespace Sys2Proof.Machine

/-- A dual-channel safety input (R261 to R265): each channel's level at the last samples with how long it has run, its
recognised state (closed), the fault with how far its clearing has come (1 after the full demand state), since when the
channels disagree, the start-up test, and since when a reset input has been closed. -/
structure SafetyIn where
  level : Vector Bool 2
  run : Vector Nat 2
  closed : Vector Bool 2
  fault : Bool
  stage : Nat
  differs : Option Nat
  testOpen : Bool
  testSeen : Bool
  resetAt : Option Nat
  deriving DecidableEq, Repr

/-- The states of a function instance (Table 9.4). -/
inductive Inst | demand | ready | enabled | currentWait
  deriving DecidableEq, Repr

/-- One core (R253 to R258): its copy of each instance (SF2 for outlets A to L, then SF1 for U1 to U4), the command of the
switch that it drives of each output, whether its charge pumps are refreshed, consecutive readback mismatches, consecutive
cycles in which the other core differed, its last cycle, entries into CURRENT_WAIT, reset events not yet taken, dark pulses
in progress and their last times. -/
structure Core where
  inst : Vector Inst 16
  on : Vector Bool 16
  pumped : Bool
  mismatch : Vector Nat 16
  differ : Nat
  lastCycle : Nat
  waitSince : Vector Nat 16
  reset : Vector Bool 16
  dark : Vector (Option Nat) 16
  lastDark : Vector (Option Nat) 16
  deriving DecidableEq, Repr

/-- The states of a Ridge connection (R278). -/
inductive RidgeState | waiting | running | fault
  deriving DecidableEq, Repr

/-- A consumer connection (R278 to R280, R282): the last accepted frame, an acknowledge due, and since when its reset bit
has been set. -/
structure Consumer where
  state : RidgeState
  lastSeq : Nat
  lastFrame : List Byte
  lastAt : Nat
  faultAt : Nat
  data : List Byte
  failSafe : Bool
  ackDue : Option (Nat × Bool)
  resetAt : Option Nat
  deriving DecidableEq, Repr

/-- A producer connection (R281): the frame outstanding with the times it was sent first and last, and the last
acknowledge accepted. -/
structure Producer where
  state : RidgeState
  seq : Nat
  frame : Option (List Byte)
  firstSent : Nat
  lastSent : Nat
  lastAck : List Byte
  deriving DecidableEq, Repr

/-- A safety configuration transaction (R287 to R291). -/
structure Trans where
  owner : Nat
  lastWrite : Nat
  pending : List (Nat × DVal)
  newPassword : Option (List Byte)
  committing : Bool
  deriving DecidableEq, Repr

/-- The safety island. `fb` are the feedback inputs, high while the contactor is open. `lows` counts consecutive safety feed
values below 5 A, at most 3; `fbTimer` holds when a feedback timer started and whether its check applies; `demandAt` when a
demand was recognised whose switch-off is being timed. -/
structure Safety where
  fb : Vector Contact 12
  input : Vector SafetyIn 8
  core : Vector Core 2
  outFault : Vector Bool 16
  contFault : Vector Bool 12
  fbTimer : Vector (Option (Nat × Bool)) 12
  demandAt : Vector (Option Nat) 16
  lows : Vector Nat 12
  follow : Vector Bool 12
  permit : Bool
  role : Nat
  consumer : Vector Consumer 16
  producer : Vector Producer 8
  leafValid : Bool
  /-- The salt and the salted digest of the password, where one is set (R289). -/
  password : Option (List Byte × List Byte)
  /-- A password held for a session, and since when (R287). -/
  held : Option (Nat × Nat)
  /-- Times of the wrong passwords of the last 10 min, and since when further passwords are refused (R290). -/
  wrong : List Nat
  lockedOut : Option Nat
  trans : Option Trans
  /-- The change log, oldest first, and its next sequence (R292). -/
  log : List (List Byte)
  logSeq : Nat
  deriving DecidableEq, Repr

end Sys2Proof.Machine
end

