-- ==== Sys2Proof/Machine/StateLoad.lean ====
section
/-! DEFINITION. The state of the load channels (chapter 10). -/
namespace Sys2Proof.Machine

/-- The states of a load channel (Table 10.3). -/
inductive ChanState | off | on | tripped | lockedOut | latched | fault
  deriving DecidableEq, Repr

/-- A load channel (R295 to R320). `heat` is W in 2⁻²⁴; `cmd` and `duty` are as the last load command transfer carried them,
with the rule that set them; `await` says that the channel waits for the next transfer before it follows its command (R305, R315). `drive` is the
part of its time that the output pin is on (R296). The retry reset timer holds `ran` steps and runs since `onFrom`. Currents are in mA, the
junction in 0.1 °C; the partner's values come by the peer mirror. -/
structure LoadChan where
  state : ChanState
  heat : Nat
  cmd : Bool
  duty : Int
  rule : Nat
  await : Bool
  drive : Rat
  retries : Nat
  trippedAt : Nat
  onFrom : Option Nat
  ran : Nat
  cause : Nat
  clamps : Nat
  clampLast : Bool
  openLoad : Bool
  openSince : Option Nat
  senseBad : Nat
  senseFlag : Bool
  current : Int
  junction : Int
  reading : Option Nat
  partnerI : Int
  partnerAt : Nat
  partnerOn : Bool
  partnerDuty : Int
  deriving DecidableEq, Repr

/-- The switch island: its channels, the select value, the pins (EXTSEL, LIMP_N asserted, LH_IN0 to LH_IN7), since when the orphan timer runs,
the mirror currents of IS_G0 to IS_G3 in µA (R309), the supply, since when the dissipation is above 30 W with whether that was reported, from when on LIMP_N is honoured, and its own copy of the limp-home
map. -/
structure Load where
  chan : Vector LoadChan 64
  select : Nat
  extsel : Bool
  limp : Bool
  pins : Vector Bool 8
  orphanAt : Option Nat
  orphan : Bool
  supplyLow : Bool
  hotSince : Option Nat
  hotTold : Bool
  limpFrom : Nat
  nvMap : Vector Nat 8
  mirror : Vector Nat 4
  deriving DecidableEq, Repr

end Sys2Proof.Machine
end

