-- ==== Sys2Proof/Machine/StatePair.lean ====
section
/-! DEFINITION. The state of the peer link, the lease and the shadow (chapter 11). -/
namespace Sys2Proof.Machine

/-- A peer port (R325): consecutive good frames, at most 100, the last good frame, and whether it is up. -/
structure PeerPort where
  good : Nat
  lastGood : Nat
  up : Bool
  deriving DecidableEq, Repr

/-- The engine inputs that come from no spline port, as latched in one period for the image of the next (R339): the safety
stop samples and the thermal temperatures with their times. -/
structure Late where
  stopFirst : Vector Bool 12
  stopSecond : Vector Bool 12
  thermal : Vector (Option Int × Nat) 16
  deriving DecidableEq, Repr

/-- A mirror block (Table 11.7): the count of the frames, the period count and the boundary phase in steps, the states that the standby adopts, the
slot-state digest, the slot states of one sixteenth in rotation, the effective load channel outputs with their internal
currents, and the host-written volatile entries. -/
structure Mirror where
  count : Nat
  periods : Nat
  boundary : Nat
  alloc : Alloc
  gen : Vector Gen 28
  rail : Vector Rail 12
  ratio : Vector (Option Ratio) 12
  leg : Vector Leg 96
  ring : Ring
  out : Vector Outlet 12
  brickContactor : Vector Contactor 24
  late : Late
  digest : W32
  rotation : Fin 16
  legX : Vector Fixed 96
  axis : Vector Axis 12
  thermal : Vector Thermal 16
  load : Vector (Bool × Int × Int) 64
  entries : List (Nat × DVal)
  deriving DecidableEq, Repr

/-- The peer island (R325 to R344). Epochs and counts are numbers; times are in steps. -/
structure Pair where
  port : Vector PeerPort 2
  silentSince : Option Nat
  rxSeq : Option W16
  txSeq : Nat
  /-- The payload last sent of each frame type. -/
  sent : Vector (List Byte) 10
  renewals : Nat
  lastRenewal : Nat
  /-- The lease expiry by the last valid renewal received, and when that came. -/
  expiry : Nat
  lastValid : Nat
  takenAt : Nat
  startedAt : Nat
  supportLost : Bool
  bid : Option (Nat × Nat)
  granted : Option (Nat × Nat)
  partner : Option PeerInfo
  /-- Whether the mismatch of the metering types has been reported since the partner's type was last seen (R2). -/
  mismatchTold : Bool
  /-- A swap in progress: epoch, boundary by its period count, when the yield was sent, whether it is acknowledged. -/
  swap : Option (Nat × Nat × Nat × Bool)
  /-- A yield accepted: epoch and boundary. -/
  yielded : Option (Nat × Nat)
  lastMirror : Option Nat
  mirrorCount : Nat
  /-- In step at the last mirror block (R331). -/
  mirrorInStep : Bool
  equalRun : Nat
  differRun : Nat
  crcDiffers : Option Nat
  resyncAt : Option Nat
  /-- Which of the sixteen parts of the slot states have come since resynchronisation began. -/
  rotations : BitVec 16
  configPulled : Bool
  phaseAdopted : Bool
  /-- The last difference between the holder's time and this module's in steps (R17). -/
  timeOffset : Int
  takeEpoch : Option Nat
  takeMask : Vector Bool 28
  late : Late
  /-- The highest "epoch seen" of any uplink, and when it came, for R329. -/
  seen : Nat
  bulkOut : List (Nat × DVal)
  deriving DecidableEq, Repr

end Sys2Proof.Machine
end

