-- ==== Sys2Proof/Machine/StateEave.lean ====
section
/-! DEFINITION. The state of the Eaveline power-line link (chapter 13). -/
namespace Sys2Proof.Machine

/-- A layout table (R404): its version, its switch cycle and each node's downlink and uplink range in units of 8 cells. -/
structure Layout where
  version : Nat
  switchAt : Nat
  down : Vector Nat 16
  up : Vector Nat 16
  deriving DecidableEq, Repr

/-- A tone map with its code (R397): 816 entries of 0 off, 1 BPSK, 2 QPSK, 3 16-QAM. -/
structure ToneMap where
  codeB : Bool
  map : List Nat
  deriving DecidableEq, Repr

/-- A fragment of a message (Table 13.7): class, message sequence, offset, whether it ends its message, and its payload. -/
structure Piece where
  cls : Nat
  seq : Nat
  offset : Nat
  last : Bool
  bytes : List Byte
  deriving DecidableEq, Repr

/-- A message going out, its message header in front, with how many of its bytes have been given to blocks. -/
structure OutMsg where
  cls : Nat
  seq : Nat
  data : List Byte
  pos : Nat
  deriving DecidableEq, Repr

/-- A message coming in (R402): its type and length once its first fragment is here, its fragments by offset, whether its last
fragment has come, the time of its first, and whether it has been discarded before its turn. -/
structure InMsg where
  cls : Nat
  seq : Nat
  head : Option (Nat × Nat)
  parts : List (Nat × List Byte)
  ended : Bool
  since : Nat
  dead : Bool
  deriving DecidableEq, Repr

/-- What a span of cells of a direction region carries (R403). -/
inductive CellUse | ridge (i : Fin 24) | control (n : Fin 16) | data (n : Fin 16) | admission
  deriving DecidableEq, Repr
/-- A span of cells of a direction region: what it carries, its first cell and how many (R397, R403). -/
structure CellSpan where
  use : CellUse
  first : Nat
  cells : Nat
  deriving DecidableEq, Repr

/-- A node as the master keeps it (R400 to R415): tone maps down and up, the layout version echoed and the cycle in which it first was, the
uplink blocks scheduled in the present cycle (control, data, Ridge) with what has come of them, downlink blocks sent and not yet reported by cycle, uplink
blocks heard and not yet reported, the cycle of the last control block each way, failures known in this cycle, runs of
cycles, its step times and the factor on its step-up count, queues, reassembly with the sequence each class delivers next, the blocks sent
down in this cycle, and the run of its phase angles. -/
structure EaveNode where
  maps : Vector ToneMap 2
  echoed : Option (Nat × Nat)
  ctrlDue : Bool
  dataDue : Nat
  ctrlGood : Bool
  dataSeen : List Bool
  ridgeDue : Nat
  ridgeSeen : List Bool
  flight : List (Nat × Option Piece)
  heard : List (Nat × Bool)
  lastUp : Nat
  lastDown : Nat
  downCtrlBad : Bool
  downBad : Nat
  missRun : Nat
  goodRun : Nat
  steppedUp : Option Nat
  steppedDown : Option Nat
  stepWaits : Bool
  factor : Nat
  queueUnits : Nat
  out : List OutMsg
  resend : List Piece
  nextSeq : Vector Nat 2
  blocks : Nat
  inbox : List InMsg
  deliverSeq : Vector (Option Nat) 2
  sentDown : List (List Byte)
  phase : Nat
  phaseRun : Nat
  refusedAt : Option Nat
  deriving DecidableEq, Repr

/-- A node's own side (R399, R401, R412, R416): whether it holds itself admitted, the layout version and master serial it holds,
when it last had a preamble, whether it may transmit in this cycle, and the commands of its last downlink control block:
IMD enable, expected voltage, outlet state. -/
structure NodeSide where
  admitted : Bool
  version : Nat
  master : W32
  preambleAt : Nat
  transmits : Bool
  imdEnable : Bool
  expected : Nat
  shown : Nat
  deriving DecidableEq, Repr

/-- The Eaveline state that a master gives its partner (R416). -/
structure EaveSync where
  admitted : BitVec 16
  layout : Layout
  pending : Option Layout
  maps : Vector (Vector ToneMap 2) 16
  serials : Vector W64 16
  deriving DecidableEq, Repr

/-- The line island (R393 to R418): whether this module has started as master, the cycle and its start, masks, the layout in force and the
one announced, the offer, the node being admitted with how many of its admission blocks it has acknowledged and the block that goes down
in this cycle, nodes to be removed, the header as sent and the cells of both regions (0 down, 1 up), the attenuation and the SNR margin
that the last layout switch put in force (R417), Ridge frames by connection, the last vehicle frame handed to each outlet's stack, how many
frames for nodes not admitted have been discarded, the MAINS_REF crossings (newest first, at most 51), and the state last given
to or had from the partner. -/
structure Eave where
  master : Bool
  cycle : Nat
  cycleAt : Nat
  admitted : BitVec 16
  robust : BitVec 16
  layout : Layout
  pending : Option Layout
  layoutAt : Nat
  offer : Option (Fin 16)
  offerNext : Nat
  admitting : Option (Fin 16)
  admitStep : Nat
  admitDown : List Byte
  remove : BitVec 16
  relayout : Bool
  header : List Byte
  cells : Vector (List CellSpan) 2
  attenuation : Nat
  margin : Int
  node : Vector EaveNode 16
  side : Vector NodeSide 16
  ridge : Vector (List Byte) 24
  frames : Vector (List Byte) 12
  strayFrames : Nat
  crossings : List Nat
  shared : Option EaveSync
  deriving DecidableEq, Repr

end Sys2Proof.Machine
end

