-- ==== Sys2Proof/Machine/StateKeys.lean ====
section
/-! DEFINITION. The state of the life cycle, the key store, the images, the configuration leaves and the supplies (chapters 15
and 16). -/
namespace Sys2Proof.Machine

/-- A key blob (Table 15.3). -/
structure KeyBlob where
  algorithm : Nat
  usage : Nat
  state : Nat
  count : Nat
  wrapTime : Nat
  nonce : List Byte
  cipher : List Byte
  tag : List Byte
  deriving DecidableEq, Repr

/-- A key slot in use (R451): the key identity, how many operations pin it, and when it was used last. -/
structure KeySlot where
  key : Fin 64
  pins : Nat
  used : Nat
  deriving DecidableEq, Repr

/-- Life cycle and key store (R443 to R452): the two OTP banks, the arm with its session and time, the blobs of the key identities and,
by entry, of the public items, the slots, the operations that wait for a slot, how often the random generator has been drawn from, and the
identities reported unusable. -/
structure Keys where
  fieldBank : Nat
  hostBank : Nat
  armed : Option (Nat × Nat)
  blob : Vector (Option KeyBlob) 64
  items : List (Nat × KeyBlob)
  slot : Vector (Option KeySlot) 16
  waiting : List (Fin 64 × Nat)
  drawn : Nat
  told : BitVec 64
  deriving DecidableEq, Repr

/-- The images of one type (R453 to R458): the running image's header, the previous image's header where it may still be
booted, the image staged, the bytes that the field side's flash has taken with how far they are acknowledged, when the
running image was booted, whether its confirm time has been reported, since when its health has held, and which heads (MX) or
nodes (LX) were up before the activation. -/
structure Img where
  running : List Byte
  previous : Option (List Byte)
  staged : Option (List Byte)
  flash : List Byte
  acked : Nat
  bootAt : Nat
  timedOut : Bool
  healthy : Option Nat
  before : BitVec 16
  deriving DecidableEq, Repr

/-- One copy of a configuration store (Table 15.11): whether its magic and its CRC hold, its entries and its sequence. -/
structure Leaf where
  magic : Bool
  crcOk : Bool
  body : List (Nat × DVal)
  seq : W32
  deriving DecidableEq, Repr

/-- A configuration store (R466 to R470): its leaves A and B, which is in force, since when it has unsaved writes with the last
one's time, the commit being written with the values it captured, its last commit, and whether a commit waits. -/
structure Store where
  leaf : Vector Leaf 2
  inForce : Option (Fin 2)
  unsaved : Option Nat
  writing : Option (List (Nat × DVal))
  lastCommit : Option Nat
  waits : Bool
  deriving DecidableEq, Repr

/-- The activation in progress (R459 to R464): the image type, whether the pair is the scope, when it began, and when the island
concerned stopped; with pair scope also whether the partner has left step for it, and whether the own island has booted. -/
structure Activation where
  type : Fin 5
  pair : Bool
  since : Nat
  stopped : Option Nat
  left : Bool
  booted : Bool
  deriving DecidableEq, Repr

/-- The supplies and the power-fail sequences (R479 to R488): when the field warning was declared and when the final write was
complete, the reset cause of the field side's start that PD1 awaits the holdup store for, the plate's times above 75 °C and below 60 °C, its last warning, and an over-temperature shutdown. -/
structure Power where
  fieldSeq : Option Nat
  finalAt : Option Nat
  startCause : Nat
  hotSince : Option Nat
  coolSince : Option Nat
  warnedAt : Option Nat
  overTemp : Bool
  deriving DecidableEq, Repr

/-- Keys, images, stores (host, field), activation and supplies. -/
structure Module where
  keys : Keys
  img : Vector Img 5
  store : Vector Store 2
  act : Option Activation
  power : Power
  deriving DecidableEq, Repr

end Sys2Proof.Machine
end

