-- ==== Sys2Proof/Syntax.lean ====
section
/-! DEFINITION. The commands of the TH-96: what reaches the block from outside, the ends of its timers, and its own
periodic work, one constructor per row of the table of operations. -/
namespace Sys2Proof

/-- The commands of the TH-96, one constructor per operation or event of the table of operations. -/
inductive Instr where
  /-- The 10 µs period boundary starts a control period, in which bricks apply, the fixed engine schedule runs and the outputs are written at 8.0 µs (R117). -/
  | controlPeriod (ecc : List (Fin 136 × Bool))
  /-- A heartbeat tenon message arrives and restarts the barrier loss timing, noting any announced restart (R30). -/
  | heartbeat (at_ : Side) (m : TenonMsg)
  /-- No valid heartbeat for 5 ms, or the announced bound plus 500 ms, makes the side treat the barrier as lost (R30). -/
  | barrierLoss (at_ : Side)
  /-- A time mark arrives and the island trims its time-base copy towards the master (R14). -/
  | timeMark (isl : Fin 8) (offset : Int)
  /-- A handshake channel without transfer for its stale timeout takes its silence value and raises channel-stale (R11). -/
  | channelStale (ch : Channel)
  /-- The master changes its reference source by frequency only and raises a reference-switch event (R15). -/
  | referenceSwitch (refIn : Option Int)
  /-- A peer time transfer steers the partner's PD7 master towards the lease holder (R17). -/
  | peerTimeTransfer (holderTime arrival : Nat)
  /-- When a message ends on a lane the transmitter starts the next by priority class and rate spacing (R25). -/
  | laneNextMessage (lane : Lane)
  /-- Three CRC failures within 1 ms or lost alignment make the receiver re-align on the next comma (R23). -/
  | laneRealign (lane : Lane)
  /-- A dictionary request tenon message is validated at the field-side port and dispatched to the owning island (R29). -/
  | dictionaryRequest (m : TenonMsg)
  /-- A dictionary response arrives in PD0 and is returned to the session that sent the request (R365). -/
  | dictionaryResponse (m : TenonMsg)
  /-- A session notice opens or closes a session on the field side and releases its groups (R381). -/
  | sessionNotice (m : TenonMsg) (n : SessionChange)
  /-- A Ridge frame reaches the safety island and is checked on its consumer connection (R278). -/
  | ridgeFrameToSafety (m : TenonMsg)
  /-- A Ridge frame from the safety island is routed by its prefix onto its network (R277). -/
  | ridgeFrameFromSafety (m : TenonMsg)
  /-- A vehicle target update is accepted, clipped or discarded and its phase request applied to the outlet (R186). -/
  | vehicleTargetUpdate (m : TenonMsg)
  /-- An outlet status message reaches the host island, which answers vehicle requests from it (R187). -/
  | outletStatus (m : TenonMsg)
  /-- Site power data updates the front-end capacities and IMD readings used for planning (R151). -/
  | sitePowerData (m : TenonMsg) (x : SiteData)
  /-- Head data for an outlet's head node updates connection, temperatures, flow and insulation (R180). -/
  | headData (m : TenonMsg) (x : HeadData)
  /-- The host island stores a metering record in non-volatile store and sends its acknowledge (R31). -/
  | meteringRecord (m : TenonMsg)
  /-- An acknowledge releases the named record from the metering-record ring (R31). -/
  | meteringRecordAcknowledge (m : TenonMsg)
  /-- A record unacknowledged for 100 ms is sent again (R31). -/
  | meteringRecordRetransmit (seq : Nat)
  /-- A scribe notice makes a host-side island latch its snapshot registers (R431). -/
  | scribeNotice (m : TenonMsg)
  /-- A snapshot fragment adds a field part to a snapshot set held in PD0 (R504). -/
  | snapshotFragment (m : TenonMsg) (set : Fin 8) (part : Fin 8)
  /-- An image block is stored in the field island's image slot and acknowledged by image status (R455). -/
  | imageBlock (m : TenonMsg) (t : Fin 5) (offset : Nat) (block : List Byte)
  /-- The power-fail notice stops periodic saves and starts the final-write wait in metrology (R242). -/
  | powerFailNotice
  /-- A life-cycle notice makes PD7 enter the audit trail, burn the OTP banks and restart every island (R444). -/
  | lifeCycleNotice (m : TenonMsg) (to_ : Fin 6)
  /-- An event tenon message is given a sequence and CRC and appended to the event log ring (R438). -/
  | event (m : TenonMsg)
  /-- A contactor's auxiliary contacts confirm the commanded state after debounce, completing its travel (R47). -/
  | contactorTravelConfirmed (x : ContactorId)
  /-- A contactor unconfirmed within travel time, debounce and 10 ms is frozen or forced open by kind (R47). -/
  | contactorTravelFault (x : ContactorId)
  /-- Two auxiliary inputs disagreeing beyond the debounce time count the contactor closed and raise an event (R48). -/
  | contactDisagreement (x : ContactorId)
  /-- The contactor test command toggles one contactor through the interlock when every outlet is OUT_OF_SERVICE (R57). -/
  | contactorTest (a : Ask)
  /-- The clear command releases a frozen tie whose contacts agree with its command (R47). -/
  | clearFrozenTie (a : Ask)
  /-- The clear command ends a brick or outlet contactor's travel fault once its contacts report open (R47). -/
  | clearContactorTravelFault (a : Ask)
  /-- A write of the fitted masks, contactor times or windows is accepted only with the ring idle (R56). -/
  | ringConfigurationWrite (a : Ask) (index sub : Nat)
  /-- A write of a brick's isolation request asks for an isolate or restore brick move in a later plan (R174). -/
  | isolationRequest (a : Ask) (k : Fin 24)
  /-- At the uplink deadline a missing brick uplink reuses samples once and brakes legs at the second miss (R71). -/
  | uplinkDeadline (port : Fin 28) (u : Uplink)
  /-- No good uplink for the link hold time puts the brick and its legs in LOST (R71). -/
  | linkHoldExpiry (k : Fin 24)
  /-- 100 consecutive good uplinks with PLL lock bring a brick link up (R71). -/
  | brickLinkUp (port : Fin 28)
  /-- A LOST leg returns to OFF after good uplinks for 10 ms (R78). -/
  | legLostRecovery (n : Fin 96)
  /-- Every 1 ms the module measures uplink arrival and writes the card's port delay (R66). -/
  | portDelayMeasurement (k : Fin 28) (arrival : Nat)
  /-- A card accepts a command frame, may change its authority port, or flags an epoch conflict (R67). -/
  | downlinkFrameAccept (card : Fin 28) (port : Fin 2) (f : Downlink)
  /-- A card that accepts no command frame by the deadline raises its miss count and holds or brakes its legs (R68). -/
  | cardDownlinkDeadline (card : Fin 28)
  /-- After the contactor hold time without command the card opens its brick contactor once current is low (R70). -/
  | cardContactorHold (k : Fin 24)
  /-- A card answers a service word read or write in the next uplink (R65). -/
  | serviceRequest (card : Fin 28) (port : Fin 2) (request : BitVec 24)
  /-- A restarted field control island sends legs off and contactor bits as reported until every fitted brick is good (R72). -/
  | fieldIslandRestart
  /-- A SYNC_IN edge measures phase error and lengthens or shortens the next period by 10 ns (R73). -/
  | syncInEdge (at_ : Nat)
  /-- Missing or off-rate SYNC_IN edges lose sync and raise a sync-lost event (R74). -/
  | syncLoss (offRate : Bool)
  /-- A leg whose share stays below I_bd for 10 periods enters DIODE_EMU (R79). -/
  | diodeEmulationEntry (n : Fin 96)
  /-- A full shed dwell below I_shed sheds the hottest legs for light load (R80). -/
  | shedDwellExpiry (head : Fin 12)
  /-- At the end of a leg's braking window it goes to STANDBY, FAULT or waits for a good sample (R84). -/
  | brakingWindowEnd (n : Fin 96)
  /-- A leg 5 A off its share for 100 periods without limit action goes to FAULT (R78). -/
  | senseImplausible (n : Fin 96)
  /-- The leg fault reset command returns a FAULT leg to STANDBY once every cause has cleared (R90). -/
  | legFaultReset (a : Ask) (n : Fin 96)
  /-- A write of a leg's Enabled entry disables it or withdraws it for a shed-legs move (R90). -/
  | legEnableWrite (a : Ask) (n : Fin 96)
  /-- The capture command copies and clears the live peaks of a leg or brick at one boundary (R89). -/
  | peakCapture (a : Ask) (brick : Bool) (n : Nat)
  /-- A 1 ms, 100 ms or 1 s averaging window ends and its block averages are stored (R88). -/
  | telemetryWindowEnd (w : Fin 3)
  /-- A write of a rail's control source moves it between session and host control (R96). -/
  | controlSourceWrite (a : Ask) (j : Fin 12)
  /-- A write of the set-point index issues a voltage command from a stored entry (R97). -/
  | setpointIndexWrite (a : Ask) (j : Fin 12)
  /-- A write of the direct set-point issues a voltage command at the direct rate (R97). -/
  | directSetpointWrite (a : Ask) (j : Fin 12)
  /-- A mode request changes the governing rail between voltage and current mode without a step (R95). -/
  | modeRequestWrite (a : Ask) (j : Fin 12)
  /-- The start command begins a start episode on a FREE governing rail (R105). -/
  | railStart (a : Ask) (j : Fin 12)
  /-- The stop command drains the rail to the discharge level in a ratiometric stop (R111). -/
  | railStop (a : Ask) (j : Fin 12)
  /-- The isolate command moves a FREE, disconnected, discharged rail to ISOLATED (R114). -/
  | railIsolate (a : Ask) (j : Fin 12)
  /-- The restore command returns an ISOLATED rail to FREE when its conditions hold (R114). -/
  | railRestore (a : Ask) (j : Fin 12)
  /-- The start episode command begins or re-targets a ratiometric episode on the leader rail (R109). -/
  | ratiometricStart (a : Ask) (j : Fin 12)
  /-- The start settle time ends and the set-point begins to slew or track (R105). -/
  | startSettleExpiry (j : Fin 12)
  /-- A coincident episode not confirmed closed within the tracking timeout aborts and starts a stop (R106). -/
  | trackingTimeout (j : Fin 12)
  /-- Progress frozen beyond the pause limit aborts a ratiometric episode with result deviation (R108). -/
  | ratiometricPauseLimit (j : Fin 12)
  /-- A stop not ended within the drain timeout isolates the rail with cause drain incomplete (R112). -/
  | drainTimeout (j : Fin 12)
  /-- A measured voltage missing for 10 periods pauses the episode with S frozen (R104). -/
  | episodePause (j : Fin 12)
  /-- A measured voltage missing for 10 ms moves the rail to ISOLATED with cause sense lost (R104). -/
  | railSenseLost (j : Fin 12)
  /-- A class format write converts every coefficient of the class to the new format (R127). -/
  | classFormatWrite (a : Ask) (cls : Fin 4)
  /-- A coefficient write is converted to its class format and checked for representability (R127). -/
  | coefficientWrite (a : Ask) (index sub : Nat)
  /-- A target or limit write re-plans the generator from its present state (R137). -/
  | generatorTargetWrite (a : Ask) (g : Fin 28) (sub : Nat)
  /-- The start command starts a host-held general generator, optionally on a sequence timer (R141). -/
  | generatorStart (a : Ask) (g : Fin 28)
  /-- The programmed start delay ends, the generator's move starts and its timer is released (R141). -/
  | generatorStartDelayExpiry (g : Fin 28)
  /-- A thermal input without value for 3 intervals drives its loop to duty maximum (R133). -/
  | thermalInputStale (w : Fin 16)
  /-- The start command begins an injection on a channel when its target and resources allow (R142). -/
  | injectionStart (a : Ask) (c : Fin 2)
  /-- The stop command aborts an injection at the next boundary (R145). -/
  | injectionStop (a : Ask) (c : Fin 2)
  /-- The last sample of an injection writes its results, completes its capture and releases its timer (R144). -/
  | injectionEnd (c : Fin 2)
  /-- A following-error counter reaching its timer value sets the axis's flag into the safety feed (R140). -/
  | followingErrorTimer (x : Fin 12)
  /-- The flag reset command clears a following-error flag when its conditions hold (R140). -/
  | followingErrorReset (a : Ask) (x : Fin 12)
  /-- Every 20 ms the allocator freezes its inputs and computes demands, budget, grants, layout and moves (R149). -/
  | planningCycle
  /-- A computation not ended by 6.50 ms keeps the plan in force and raises planning-overrun (R150). -/
  | planningOverrun
  /-- A grid limit write puts both limits in force for the limit lifetime (R152). -/
  | gridLimitWrite (a : Ask) (sub : Nat)
  /-- The limit lifetime ends without a new write and the fallback limits apply (R152). -/
  | gridLimitExpiry
  /-- A front end silent for 300 ms becomes stale and its hold begins (R151). -/
  | frontEndStale (n : Fin 8)
  /-- The front-end stale hold ends and the capacity counts as 0 kW (R151). -/
  | frontEndStaleHoldExpiry (n : Fin 8)
  /-- A QUEUED move whose preconditions hold starts at a boundary and takes its generator (R169). -/
  | moveStart (n : Fin 16)
  /-- A handover generator at rest at its target ends the handover or is re-targeted (R165). -/
  | handoverEnd (n : Fin 16)
  /-- A handover not ended within its timeout reverses the move, or fails a reversing one (R170). -/
  | handoverTimeout (n : Fin 16)
  /-- An opening still refused at the open wait limit reverses the move or fails a reversing join (R172). -/
  | openWaitLimit (n : Fin 16)
  /-- A restore brick permit not met within the wait limit fails the move with no close permit (R167). -/
  | restoreWaitLimit (n : Fin 16)
  /-- A segment's surplus rail is released after the release hold (R159). -/
  | releaseHoldExpiry (head : Fin 12)
  /-- The replan command ends every segment's release hold at the next cycle (R159). -/
  | replan (a : Ask)
  /-- A layout hold write freezes or frees the layout and new moves (R177). -/
  | layoutHoldWrite (a : Ask)
  /-- Connection state 1 or 2 for 100 ms moves an IDLE outlet to PLUGGED with a new session number (R182). -/
  | connectionDetected (k : Fin 12)
  /-- Connection state 0 for 100 ms returns the outlet to IDLE (R182). -/
  | unplugDetected (k : Fin 12)
  /-- No first target update within the plug timeout ends the session with cause 4 (R182). -/
  | plugTimeout (k : Fin 12)
  /-- No accepted update for the target timeout raises cause 5 (R186). -/
  | targetTimeout (k : Fin 12)
  /-- The stop command ends the session with cause 2 on a normal wind-down (R183). -/
  | outletStop (a : Ask) (k : Fin 12)
  /-- The service command takes an outlet with open contactor out of service (R209). -/
  | outletOutOfService (a : Ask) (k : Fin 12)
  /-- The service command returns an outlet to IDLE when rail, head node and contactor allow (R181). -/
  | outletReturnToService (a : Ask) (k : Fin 12)
  /-- The fault reset command moves a FAULTED outlet to PLUGGED or IDLE when no cause remains (R209). -/
  | outletFaultReset (a : Ask) (k : Fin 12)
  /-- The owner writes the authorization result for the pending vehicle (R191). -/
  | authorizationResultWrite (a : Ask) (k : Fin 12)
  /-- A result still pending at the timeout counts as rejected and ends HANDSHAKE with cause 3 (R191). -/
  | authorizationTimeout (k : Fin 12)
  /-- The host island receives a vehicle request, runs its protocol and sends target updates (R192). -/
  | vehicleMessage (k : Fin 12) (v : VehicleMsg)
  /-- Once its rail is FREE and alone the outlet starts the coincident outlet episode of cable check (R193). -/
  | cableCheckRailReady (k : Fin 12)
  /-- The hold at V_cc ends and insulation is evaluated for the pass (R193). -/
  | imdSettleExpiry (k : Fin 12)
  /-- No pass within the cable check timeout raises cause 17 (R193). -/
  | cableCheckTimeout (k : Fin 12)
  /-- The current-limit bit set beyond the short limit time raises cause 14 (R195). -/
  | cableShort (k : Fin 12)
  /-- An IMD reading is classed against V_cc and may raise cause 13 (R196). -/
  | imdReading (k : Fin 12) (kohm status : Nat) (stamp : Int)
  /-- A reading older than the IMD age limit raises cause 15 (R197). -/
  | imdAgeExpiry (k : Fin 12)
  /-- The outlet generator resting at zero completes a direction change between DELIVERING and RETURNING (R199). -/
  | directionChangeComplete (k : Fin 12)
  /-- A fast-stop ramp reaches zero and the generator rests with its target cleared (R184). -/
  | fastStopEnd (k : Fin 12)
  /-- Low current for three periods, or the FAULTED timeout, clears the outlet's OUT bits (R185). -/
  | outletContactorOpen (k : Fin 12)
  /-- A FAULTED outlet's rail stops once its contactor counts open (R502). -/
  | faultedRailStop (k : Fin 12)
  /-- An opening not confirmed within the winddown timeout raises cause 18 (R201). -/
  | winddownTimeout (k : Fin 12)
  /-- The cable side below the dead level in three feed updates ends the session (R202). -/
  | weldCheckPass (k : Fin 12)
  /-- At the cable discharge time the weld check fails with cause 19 or 20 (R202). -/
  | cableDischargeExpiry (k : Fin 12)
  /-- Head data stale for the head stale time zeroes the derated current and raises cause 8 (R205). -/
  | headStale (k : Fin 12)
  /-- Every 1 ms the derated current of each outlet is computed (R205). -/
  | deratingUpdate
  /-- Flow below minimum for the fault time, or a pump trip, caps the current at the uncooled value (R206). -/
  | flowFault (k : Fin 12)
  /-- Flow restored for the flow fault time clears the flow fault (R206). -/
  | flowFaultClear (k : Fin 12)
  /-- The cooling run-on time ends and the pump channel is commanded off (R204). -/
  | runOnExpiry (k : Fin 12)
  /-- A metering uplink frame is accepted or counted missing and its samples dated (R214). -/
  | meteringUplinkFrame (k : Fin 12) (arrival : Nat) (f : Option MeterUp)
  /-- Every 1 ms the module sends a downlink with the next rotating service request (R213). -/
  | meteringDownlinkFrame (k : Fin 12)
  /-- At each 1 ms interval end the sums are converted and added to the totals and registers (R221). -/
  | meteringIntervalEnd
  /-- A backlogged pulse is issued once the 2 × w spacing allows (R239). -/
  | pulseBacklogIssue (p : Fin 8)
  /-- A test pulse output gives its edge 500 µs after the sample that filled its residue (R240). -/
  | testPulseEdge (p : Fin 4)
  /-- 40 consecutive missing frames put the metering link down (R216). -/
  | meteringLinkDown (k : Fin 12)
  /-- 400 consecutive accepted frames bring the link up and re-read the calibration identity (R216). -/
  | meteringLinkUp (k : Fin 12)
  /-- A copy of an outlet status reaches the metrology island with the module's lease role (R225). -/
  | outletStatusCopy (k : Fin 12) (state : Fin 12) (time : Nat) (holder : Bool)
  /-- At the first interval boundary after a CABLE_CHECK copy a metering session opens as session meter or witness (R226). -/
  | meteringSessionOpen (k : Fin 12)
  /-- At the end of the interval of an ending copy the session closes and its record is queued for signing (R226). -/
  | meteringSessionClose (k : Fin 12)
  /-- A closed session's record is signed and placed in the metering-record ring (R234). -/
  | recordSigned
  /-- After the alignment step a starting module opens late-start witness records for open sessions (R229). -/
  | lateStartWitness (k : Fin 12)
  /-- A restarted metrology island closes saved sessions and opens continuation records (R230). -/
  | metrologyRestartContinuation
  /-- Every 250 ms the metrology island writes a save block to alternate MRAM slots (R241). -/
  | periodicSave
  /-- After the warning, no-load for 5 ms or 100 ms starts the final save (R242). -/
  | finalWriteStart
  /-- At start the metrology island closes sessions left open in its last save (R243). -/
  | metrologyStartClose
  /-- The pair command stores the head's calibration identity as paired (R217). -/
  | pairHead (a : Ask) (k : Fin 12)
  /-- The window command opens or extends the metrology window from the maintenance session (R244). -/
  | metrologyWindowOpen (a : Ask)
  /-- The window command closes the metrology window (R244). -/
  | metrologyWindowClose (a : Ask)
  /-- The window closes 600 s after its last opening or seal-relevant write (R244). -/
  | metrologyWindowExpiry
  /-- A seal-relevant write is accepted only with the window open and audit room, and is audited (R244). -/
  | sealRelevantWrite (a : Ask) (index sub : Nat)
  /-- Each safety core's 1 ms cycle evaluates instances, compares outputs and exchanges images (R253). -/
  | safetyCycle (core : Fin 2) (agree : Bool) (read : BitVec 16)
  /-- Every 250 µs the safety inputs are sampled and recognised after their filter time (R261). -/
  | safetyInputSample (a b : BitVec 8) (fb : BitVec 12)
  /-- Channels disagreeing beyond the discrepancy time fault the input (R262). -/
  | discrepancyTimeout (n : Fin 8)
  /-- A switch commanded on is turned off until it reads off, then back on (R258). -/
  | darkPulseTest (core : Fin 2) (o : Fin 16) (took : Option Nat)
  /-- A switch not reading off within 300 µs is turned back on and faulted (R258). -/
  | darkPulseTimeout (core : Fin 2) (o : Fin 16)
  /-- Two missed refreshes turn a safety switch off (R254). -/
  | chargePumpTimeout (core : Fin 2)
  /-- A difference for three cycles or two missed cycles locks the safety island (R255). -/
  | coreDisagreement (cause : Fin 4)
  /-- Self-tests end START with RUN or LOCKED (R253). -/
  | safetySelfTestComplete (pass : Bool)
  /-- 40 ms in CURRENT_WAIT switches the SF2 output off regardless of current (R269). -/
  | currentWaitTimeout (j : Fin 12)
  /-- At the feedback time a low FB_j latches a contactor fault (R268). -/
  | feedbackTimerEnd (j : Fin 12)
  /-- The SF2 fault reset clears latched faults of an outlet when the cause is gone (R260). -/
  | sf2FaultReset (a : Ask)
  /-- The SF1 fault reset clears latched faults of a unit when the cause is gone (R260). -/
  | sf1FaultReset (a : Ask)
  /-- A safety feed transfer delivers outlet currents, following-error flags and the pair output permit (R274). -/
  | safetyFeed
  /-- No accepted frame within the watchdog faults a consumer connection (R279). -/
  | ridgeWatchdog (c : Fin 16)
  /-- A faulted connection returns to WAITING once the watchdog time has passed (R279). -/
  | ridgeFaultRecovery (c : Fin 16)
  /-- An acknowledge on a producer connection lets the next data frame go (R281). -/
  | ridgeAcknowledge (m : TenonMsg)
  /-- No acknowledge within the watchdog faults a producer connection and starts restart frames (R281). -/
  | ridgeProducerWatchdog (p : Fin 8)
  /-- The restart command with the password moves a LOCKED island to START (R293). -/
  | safetyRestart (a : Ask)
  /-- A safety password write is checked and held for the session for 10 s (R287). -/
  | passwordWrite (a : Ask)
  /-- A held password unused for 10 s is discarded (R287). -/
  | passwordHoldExpiry
  /-- The open command starts a safety configuration transaction (R287). -/
  | transactionOpen (a : Ask)
  /-- The commit command checks the CRC, demands every instance, writes the leaf and restarts the island (R291). -/
  | transactionCommit (a : Ask)
  /-- The abort command discards the pending set and ends the transaction (R292). -/
  | transactionAbort (a : Ask)
  /-- A transaction without SAFE write for 30 min is aborted (R288). -/
  | transactionTimeout
  /-- A SAFE entry write goes into the pending set of the owning transaction (R288). -/
  | safeWrite (a : Ask) (index sub : Nat)
  /-- The 10 min password lockout ends (R290). -/
  | lockoutExpiry
  /-- A load command transfer sets each channel's command and duty by the rule in force (R298). -/
  | loadCommandTransfer
  /-- A host write of a channel's command or duty is stored, refused or applied by its controller (R299). -/
  | channelCommandWrite (a : Ask) (duty : Bool) (n : Fin 64)
  /-- Every 1 ms each channel's heat state is updated and trips the channel at 1 (R301). -/
  | wireModelUpdate (current junction : Vector Int 64)
  /-- Current limit acting for the trip time trips the channel with cause short circuit (R303). -/
  | shortCircuitTrip (n : Fin 64)
  /-- After the retry delay a TRIPPED channel commanded on with low heat switches on again (R304). -/
  | retryDelayExpiry (n : Fin 64)
  /-- A channel ON without trip for the retry reset time has its retries restored (R304). -/
  | retryResetExpiry (n : Fin 64)
  /-- A junction at the latch threshold latches the channel off (R305). -/
  | junctionLatch (n : Fin 64) (temp : Int)
  /-- The clear command ends LOCKED_OUT, LATCHED or FAULT when allowed (R305). -/
  | channelClear (a : Ask) (n : Fin 64)
  /-- A switch-off above 47 V counts a clamp event and faults the channel at three in a row (R308). -/
  | clampEvent (n : Fin 64)
  /-- Each 62.5 µs select step reads the group pins and checks them against internal sense (R310). -/
  | senseScanStep (pin : Vector Nat 4)
  /-- EXTSEL changing hands the SEL pins to external equipment when the permit allows (R311). -/
  | extselChange (high : Bool)
  /-- A forced select write holds the select value fixed (R312). -/
  | forcedSelectWrite (a : Ask)
  /-- A write of the external select permit allows or returns the SEL pins (R312). -/
  | externalSelectPermitWrite (a : Ask)
  /-- LIMP_N asserted or released switches mapped channels to or from their LH_IN pins (R315). -/
  | limpNChange (asserted : Bool)
  /-- A filtered LH_IN change switches its mapped channel under limp-home (R315). -/
  | lhInChange (n : Fin 8) (high : Bool)
  /-- A limp-home map write assigns a channel to an LH_IN pin (R313). -/
  | limpHomeMapWrite (a : Ask) (n : Fin 8)
  /-- A general input enable write claims LH_IN pins as general inputs (R314). -/
  | generalInputEnableWrite (a : Ask)
  /-- No load command transfer for 3 ms holds every channel and starts the orphan timer (R316). -/
  | loadCommandStale
  /-- The orphan timeout applies each channel's orphan state (R316). -/
  | orphanTimeout
  /-- Every 1 ms the channel dissipation is estimated and an event raised after 10 s above 30 W (R297). -/
  | dissipationEstimate
  /-- A channel ON below its open-load threshold for 100 ms sets its open-load flag (R321). -/
  | openLoadDetection (n : Fin 64)
  /-- LOAD_24V below 16.0 V switches every channel output off (R480). -/
  | loadSupplyLow
  /-- LOAD_24V at 17.0 V for 10 ms returns channels to their rules (R480). -/
  | loadSupplyReturn
  /-- Every 1 ms the holder with lease support sends a dowel renewal (R326). -/
  | dowelRenewalSend
  /-- A valid renewal received extends the lease expiry by 4 ms (R327). -/
  | dowelRenewal (f : PeerFrame)
  /-- 4 ms after the last valid renewal the lease expires (R327). -/
  | leaseExpiry
  /-- 1 ms after expiry the module enters SYNCING on the link-fault rule or sends a bid (R342). -/
  | bidGuardExpiry
  /-- A received bid is granted or refused (R328). -/
  | bid (f : PeerFrame)
  /-- A bid answer grants the lease or cancels the bid (R327). -/
  | bidAnswer (f : PeerFrame)
  /-- No answer within 0.5 ms lets the bidder take the lease (R327). -/
  | bidWaitExpiry
  /-- A holder losing lease support stops renewing at once (R326). -/
  | leaseSupportLost
  /-- At its lease end the holder stops command frames and enters SYNCING (R326). -/
  | holderLeaseEnd
  /-- The swap command sends a yield with epoch E + 1 and a swap boundary (R344). -/
  | swap (a : Ask)
  /-- A STANDBY receiving a yield acknowledges and prepares to command at the swap boundary (R344). -/
  | yield (f : PeerFrame)
  /-- A yield acknowledge confirms the swap to the yielding module (R344). -/
  | yieldAcknowledge (f : PeerFrame)
  /-- No acknowledge within 1 ms abandons the swap with a swap-failed event (R344). -/
  | yieldAckTimeout
  /-- At the swap boundary the partner becomes ACTIVE and the yielder STANDBY (R344). -/
  | swapBoundary
  /-- A mirror block received gives the standby the holder's states and inputs (R338). -/
  | mirrorBlock (f : PeerFrame) (x : Machine.Mirror)
  /-- A partner status frame updates partner role and in-step and may change ALONE and ACTIVE (R323). -/
  | peerStatus (f : PeerFrame) (x : PeerInfo)
  /-- 100 good frames bring a peer port up (R325). -/
  | peerPortUp (p : Fin 2)
  /-- No good frame for three periods takes a peer port down (R325). -/
  | peerPortDown (p : Fin 2)
  /-- A SYNCING module's bulk request is answered by the holder in spare characters (R343). -/
  | bulkRequest (f : PeerFrame) (object : Nat)
  /-- Bulk data delivers configuration or slot state to the partner, which commits it to its leaves (R471). -/
  | bulkData (f : PeerFrame) (entries : List (Nat × Machine.DVal))
  /-- A SYNCING module with a holding partner pulls configuration, steps its time and adopts phase and state (R343). -/
  | resynchronisation (holderTime boundary count : Nat)
  /-- Not STANDBY within the resynchronisation timeout restarts resynchronisation (R343). -/
  | resyncTimeout
  /-- Digests equal for 1000 periods with all other conditions make the module in step and STANDBY (R341). -/
  | inStepGained
  /-- Differing digests, pair CRCs or silent mirror end the in-step state (R341). -/
  | inStepLost (cause : Fin 3)
  /-- No delivery-phase update within the switch-over hold raises cause 5 (R336). -/
  | switchOverTargetHoldExpiry (k : Fin 12)
  /-- A write of pair mode or rank is accepted only with every outlet out of service (R345). -/
  | pairingConfigurationWrite (a : Ask) (sub : Nat)
  /-- A received CAN frame is filtered into a receive queue or discarded (R356). -/
  | canFrameReceived (c : Fin 2) (f : CanFrame) (extended remote : Bool)
  /-- The FIFO head frame wins arbitration and is sent and stamped (R351). -/
  | canFrameTransmitted (c : Fin 2)
  /-- A staged frame enters the transmit FIFO when room and the admission limit allow (R352). -/
  | stagingAdmission (c : Fin 2)
  /-- A controller entering bus-off keeps its FIFO and raises an event (R347). -/
  | busOff (c : Fin 2)
  /-- After 128 × 11 recessive bits the controller returns to bus-on (R347). -/
  | busOffRecovery (c : Fin 2)
  /-- Every 100 ms the module sends its CAN heartbeat (R349). -/
  | canHeartbeat
  /-- ADDR_IN high for 10 ms lets the module start claiming (R362). -/
  | addrInHigh
  /-- After 300 ms listening the module claims the lowest unseen ID (R363). -/
  | addressListenExpiry
  /-- A claim undefended for 100 ms is held and ADDR_OUT driven high (R363). -/
  | claimListenExpiry
  /-- A received claim or defend is defended against, or moves the module to the next ID or conflict (R364). -/
  | addressClaim (c : Fin 2) (f : CanFrame)
  /-- A corrupted claim is repeated after a random 10 ms to 50 ms delay (R363). -/
  | claimRetryDelay
  /-- The re-claim command drops ADDR_OUT and claims again (R364). -/
  | reClaim (a : Ask)
  /-- A front-end status from a listed node is relayed as site power data (R359). -/
  | frontEndStatus (c : Fin 2) (f : CanFrame)
  /-- An IMD reading frame from a named node is dated and delivered to its outlet (R360). -/
  | imdReadingFrame (c : Fin 2) (f : CanFrame)
  /-- Every 100 ms and on change the lease holder sends IMD enable or disable (R361). -/
  | imdCommand (k : Fin 12)
  /-- The open service authenticates the host and assigns a session slot (R375). -/
  | openSession (a : Ask) (client : ClientAuth)
  /-- The close service ends a session and releases its groups, subscriptions and transfer (R377). -/
  | closeSession (a : Ask)
  /-- The keep-alive service restarts the session timeout (R377). -/
  | keepAlive (a : Ask)
  /-- The read service returns an entry's value after the checks (R367). -/
  | read (a : Ask) (index sub : Nat)
  /-- The write service stores a value in an entry that has no behaviour of its own (R367). -/
  | write (a : Ask) (index sub : Nat)
  /-- A read-segmented start copies the value and returns its length (R371). -/
  | readSegmentedStart (a : Ask) (index sub : Nat)
  /-- A read segment returns data at an offset of the copy (R372). -/
  | readSegment (a : Ask) (index sub : Nat)
  /-- A write-segmented start opens a transfer of the stated length (R371). -/
  | writeSegmentedStart (a : Ask) (index sub : Nat)
  /-- A write segment appends data and on the last one applies the whole value (R373). -/
  | writeSegment (a : Ask) (index sub : Nat)
  /-- The abandon service discards the session's transfer (R372). -/
  | transferAbandon (a : Ask)
  /-- A transfer without segment for 1 s is discarded with notice 6 (R372). -/
  | transferTimeout (n : Fin 6)
  /-- The claim service takes an unowned group for the session (R379). -/
  | claimGroup (a : Ask) (group : Nat)
  /-- The release service frees a group, forcibly from session 5 (R380). -/
  | releaseGroup (a : Ask) (group : Nat)
  /-- The query service returns the group's owning session (R379). -/
  | queryOwner (a : Ask) (group : Nat)
  /-- The subscribe service creates a periodic publication (R382). -/
  | subscribe (a : Ask)
  /-- The unsubscribe service ends a subscription (R383). -/
  | unsubscribe (a : Ask)
  /-- At each period multiple the subscription's values are sampled and published (R384). -/
  | publication (n : Fin 16)
  /-- A session without messages for the session timeout is closed (R377). -/
  | sessionTimeout (n : Fin 6)
  /-- A USB challenge unused for 10 s becomes invalid (R375). -/
  | usbChallengeExpiry
  /-- A TCP connection on the dictionary port starts a TLS handshake or is closed (R387). -/
  | tlsConnection (port : Fin 2)
  /-- A handshake not complete within 10 s closes the connection (R387). -/
  | tlsHandshakeTimeout (n : Fin 4)
  /-- A connection without an open session for 10 s is closed (R387). -/
  | tlsIdleTimeout (n : Fin 4)
  /-- A Sync and Delay_Resp pair updates the rate estimate and wall-clock offset (R389). -/
  | ptpSync (x : PtpExchange)
  /-- No Sync for 4 s loses time following and clears the synchronised flag (R389). -/
  | ptpSyncLoss
  /-- Once per second the host island sends the wall-clock offset to metrology (R389). -/
  | wallClockOffsetSend
  /-- A wall clock write sets an unsynchronised offset when PTP is not slave (R390). -/
  | wallClockWrite (a : Ask)
  /-- Each 1 ms cycle the master sends preamble, header and downlink and receives the uplink (R398). -/
  | eavelineCycle
  /-- A node decodes a cycle header and transmits only if it is good (R399). -/
  | cycleHeader (n : Fin 16) (content : List Byte) (crc : W32)
  /-- A received control block delivers head data or commands and its ack mask (R401). -/
  | controlBlock (n : Fin 16) (b : EaveBlock)
  /-- A data block fragment is reassembled into its message (R402). -/
  | dataBlock (n : Fin 16) (ridge : Option (Fin 2)) (b : EaveBlock)
  /-- A message incomplete after 100 cycles is discarded and counted (R402). -/
  | messageReassemblyTimeout (n : Fin 16)
  /-- No failure over the step-up count clears a node's robust bit (R409). -/
  | robustStepUp (n : Fin 16) (snr : List Int)
  /-- 60 s without step-down returns the step-up count to its configured value (R409). -/
  | stepUpCountReset (n : Fin 16)
  /-- At the switch cycle the announced layout takes force and non-echoing nodes are removed (R404). -/
  | layoutSwitch
  /-- A node's answer in the admission area is accepted or refused (R411). -/
  | admissionAnswer (n : Fin 16) (b : EaveBlock)
  /-- A refused number is offered again after 10 s (R411). -/
  | nodeRefusedRetry (n : Fin 16)
  /-- 50 consecutive missing control blocks remove a node (R412). -/
  | nodeLost (n : Fin 16)
  /-- A node without preamble for 20 cycles treats itself as unadmitted (R412). -/
  | nodePreambleLoss (n : Fin 16)
  /-- A zero-crossing report is dated against MAINS_REF and its phase angle computed (R414). -/
  | zeroCrossingReport (n : Fin 16) (report : List Byte)
  /-- A MAINS_REF rising crossing is time-stamped and the mains period updated (R414). -/
  | mainsRefCrossing (at_ : Nat)
  /-- The remove command removes a node at the next layout switch (R417). -/
  | removeNode (a : Ask)
  /-- An expected serial write is refused for an admitted node (R417). -/
  | expectedSerialWrite (a : Ask) (n : Fin 16)
  /-- Every 100 ms and on change the master sends its Eaveline state to the partner (R416). -/
  | eavelineStateSync (x : Option Machine.EaveSync)
  /-- The new lease holder starts the preamble at the first cycle start with every node robust (R416). -/
  | eavelineMasterTake
  /-- Writing the start bit runs the channel's first transfer and chain (R422). -/
  | dmaChannelStart (a : Ask) (c : Fin 16)
  /-- A stop request stops the channel at the next descriptor boundary (R424). -/
  | dmaStopRequest (a : Ask) (c : Fin 16)
  /-- A transfer or descriptor ends and the channel continues along its chain (R423). -/
  | dmaDescriptorEnd (c : Fin 16)
  /-- A write of a channel's source, destination, count or control is refused while running (R425). -/
  | dmaChannelRegisterWrite (a : Ask) (c : Fin 16) (reg : Fin 4)
  /-- A descriptor write is refused while a running channel holds it (R425). -/
  | descriptorWrite (a : Ask) (n : Fin 256)
  /-- The claim command holds free capture memory for the session (R427). -/
  | captureClaim (a : Ask)
  /-- The release command returns capture memory to FREE (R427). -/
  | captureRelease (a : Ask)
  /-- The trigger command fires a scribe trigger (R430). -/
  | snapshotTriggerCommand (a : Ask)
  /-- A configured SNAP_IN edge fires a scribe trigger (R430). -/
  | snapInEdge (rising : Bool)
  /-- A trigger from the partner fires a scribe trigger (R430). -/
  | partnerScribeTrigger
  /-- At the next boundary channel 13 copies the input image and collector bank (R436). -/
  | snapshotFieldStore
  /-- Once every present island has stored its part the set becomes valid (R433). -/
  | snapshotSetValid (set : Fin 8)
  /-- An island raises an event into its send queue, or discards it when full (R438). -/
  | eventRaised (isl : Fin 8) (name : EventName) (data : List Byte)
  /-- When room returns the island sends an events-lost event with the count (R438). -/
  | eventQueueRoom (isl : Fin 8)
  /-- 64 unflushed entries or one second writes the ring to flash (R439). -/
  | eventLogFlush
  /-- A write of the serial to the arm entry arms one transition command for 10 s (R445). -/
  | transitionArm (a : Ask)
  /-- Transition command 3 moves PROVISIONED to FIELD (R444). -/
  | transitionToField (a : Ask)
  /-- Transition command 4 moves FIELD to RETURN (R444). -/
  | transitionToReturn (a : Ask)
  /-- Transition command 5 decommissions the module and erases every key (R444). -/
  | transitionToDecommissioned (a : Ask)
  /-- A Caermor-authorised transition advances BLANK, MANUFACTURE or RETURN (R444). -/
  | factoryTransition (to_ : Fin 6)
  /-- A privileged key value write is wrapped into a blob and the clear copy erased (R449). -/
  | keyValueWrite (a : Ask) (k : Fin 64)
  /-- The generate command creates and wraps a key pair and publishes its public key (R450). -/
  | keyGenerate (a : Ask) (k : Fin 64)
  /-- The delete command erases a key's blob (R449). -/
  | keyDelete (a : Ask) (k : Fin 64)
  /-- A privileged write of a certificate or public key is checked and stored as a blob (R452). -/
  | publicItemWrite (a : Ask) (index sub : Nat)
  /-- An operation needing a secret key loads its blob into a free slot and pins it (R451). -/
  | keySlotLoad (k : Fin 64) (ends : Bool)
  /-- 100 ms without a free slot fails the operation with a slot-exhausted event (R451). -/
  | keySlotWaitTimeout
  /-- A segmented write of an image's data stages it after header and length checks (R455). -/
  | imageStage (a : Ask) (t : Fin 5)
  /-- The discard command returns the staged state to none (R455). -/
  | discardStaged (a : Ask) (t : Fin 5)
  /-- The fall-back command resets the island to boot its previous image (R457). -/
  | fallBack (a : Ask) (t : Fin 5)
  /-- The activate command for this module restarts the island on the staged image (R460). -/
  | activateModule (a : Ask) (t : Fin 5)
  /-- The activate command for the pair updates the partner, swaps roles and updates the former active (R463). -/
  | activatePair (a : Ask) (t : Fin 5)
  /-- When outlets are idle or the wait passes the field control island is stopped for FX (R462). -/
  | fxWinddownEnd
  /-- At the activation boot the staged image is checked and runs in trial or is rejected (R456). -/
  | bootCheck (t : Fin 5)
  /-- Health held for 60 s confirms the trial image and raises the rollback counter (R457). -/
  | trialConfirm (t : Fin 5)
  /-- No confirmation within 600 s raises a confirm-timeout event (R457). -/
  | confirmTimeout (t : Fin 5)
  /-- The commit command writes the host and field stores to their leaves (R470). -/
  | commit (a : Ask)
  /-- The auto-commit delay after an unsaved write commits its store (R470). -/
  | autoCommit (st : Fin 2)
  /-- A leaf commit completes by read-back and sequence write, or fails (R469). -/
  | leafWriteComplete (st : Fin 2) (readBack : Bool)
  /-- The restore-defaults command resets and commits the host and field stores (R472). -/
  | restoreDefaults (a : Ask)
  /-- The field input below 16.5 V for 1 ms runs the field power-fail sequence (R482). -/
  | fieldPowerFailWarning
  /-- 2 ms after the final write PD2 is switched off and the sequence ends (R482). -/
  | fieldSequenceEnd
  /-- The host input below 16.5 V for 1 ms flushes the log and switches the host side off (R483). -/
  | hostPowerFailWarning
  /-- The field input valid for 100 ms starts the field domains in order (R485). -/
  | fieldPowerUp (cold : Bool)
  /-- The host input valid for 100 ms starts PD0 and then PD5 (R486). -/
  | hostPowerUp
  /-- The field holdup store charged enables PD1 (R485). -/
  | holdupCharged (energy : Nat)
  /-- A domain not running within twice its bound stays in reset with an event (R487). -/
  | domainStartFailed (isl : Fin 8)
  /-- An expected input below 18.0 V for 1 s sets its redundancy-lost bit (R479). -/
  | supplyRedundancyLost (n : Fin 4) (volts : Vector Nat 4)
  /-- An input at 18.0 V for 10 s clears its redundancy-lost bit (R479). -/
  | supplyRedundancyRestored (n : Fin 4) (volts : Vector Nat 4)
  /-- At each holdup test interval the store is measured by partial discharge (R484). -/
  | holdupTest (host : Bool) (energy : Nat)
  /-- Every 100 ms the cold-plate temperature is read and a warning raised above its level (R488). -/
  | coldPlateRead (temp : Int)
  /-- 75 °C for 1 s declares both power-fail warnings (R488). -/
  | overTemperatureShutdown
  /-- The plate below 60 °C for 60 s restarts the module (R488). -/
  | overTemperatureRestart
  /-- The partner wait, doubled at rank 2, passes since a SYNCING module's start and lets it bid for a lease it has never seen held (R327). -/
  | partnerWaitExpiry
  /-- An island is reset by its own watchdog (reset cause 5) while the other islands run on (R10). -/
  | islandWatchdogReset (isl : Fin 8)
  /-- An island in time-base holdover for more than 100 ms has its time stamps flagged (R16). -/
  | holdoverLimit (isl : Fin 8)
  /-- An image status message (type 0x15) with a block acknowledge or verification result reaches the host island's update manager (R455). -/
  | imageStatus (m : TenonMsg) (t : Fin 5) (acked : Nat)
  /-- An Ethernet port's link comes up or goes down, which changes 0x140p.01 and the HX health condition of R457 (R386). -/
  | ethernetLinkChange (port : Fin 2) (link : Fin 3)
  /-- A commit request that came less than 1 s after the store's last commit starts once the 1 s spacing has passed (R470). -/
  | commitSpacingExpiry (st : Fin 2)
  deriving DecidableEq, Repr

end Sys2Proof
end

