-- ==== Sys2Proof/Config.lean ====
section
/-! DEFINITION. What one module fixes at manufacture or by its images, and the values the manual leaves open. None has a
body, so every claim holds whatever they are. -/
namespace Sys2Proof.Config
open Sys2Proof.Machine (DVal)

/-- The value of an entry whose Default column states none: factory data, image versions and catalogues (R5, R437). -/
opaque openDefault : Nat → DVal
/-- The event codes of the running images' catalogue (R437). -/
opaque eventCode : EventName → W16
/-- The event severities of the catalogue (R437): 0 information, 1 warning, 2 fault, 3 safety. -/
opaque eventSeverity : EventName → Fin 4
/-- A value the manual leaves open, the n-th one used. -/
opaque freeNat : Nat → Nat
/-- A signed value the manual leaves open, the n-th one used. -/
opaque freeInt : Nat → Int
/-- The rate in ppm at which an island's copy of the time base runs off in the holdover that began at an instant; R16 bounds it. -/
opaque holdoverRate : Fin 8 → Nat → Int
/-- The payload of a tenon message whose contents the manual names but does not lay out, by type, contents and length. -/
opaque tenonPayload : Nat → List Int → Nat → List Byte
/-- What a byte of capture memory reads as that nothing has written since the release number `epoch` (R427). -/
opaque captureByte : Nat → Nat → Byte
/-- How an island's snapshot words are laid out as bytes (R435 fixes the content, not the layout). -/
opaque snapshotBytes : Fin 8 → List Int → List Byte
/-- SHA-256. -/
opaque sha256 : List Byte → List Byte
/-- The module's serial number (Table 17.2). -/
opaque serial : W64
/-- The firmware version that a card answers at service address 0x02 (Table 3.12). -/
opaque cardFirmware : Fin 28 → W16
/-- The scale exponent of each signal code in a capture record (Table 5.8 leaves its value to the module). -/
opaque captureExponent : Nat → BitVec 8
/-- Whether the module is fused for indicative metering, TH-96-I (R1, Table 0.2). -/
opaque indicative : Bool
/-- The payload section of a metering record's text (R232): from its quantities in the order of Table 8.8, the identification text and the
EVSE identity. -/
opaque recordText : List Int → List Byte → List Byte → List Byte
/-- The signature section of a metering record's text (R233): the DER signature in hexadecimal with its algorithm, from the secret key and
the digest signed. -/
opaque recordSignature : List Byte → List Byte → List Byte
/-- The n-th signing key that the metrology island generates (R233, Table 15.2). -/
opaque metrologyKey : Nat → List Byte
/-- A load channel's on-resistance in µΩ at a junction temperature in 0.1 °C; Table 10.1 bounds it and states no curve. -/
opaque onResistance : Nat → Int → Nat
/-- How far a channel's mirror ratio stands above its least value, and the fault level above its own (Table 10.1, R309): within the bounds that
the manual gives, each part has its own. -/
opaque mirrorRatio : Nat → Nat
opaque mirrorFault : Nat → Nat
/-- The select value that external equipment drives at an instant (R311). -/
opaque externalSelect : Nat → Nat
/-- The temperature in 0.1 °C that a thermal loop finds before its source has delivered a value (R133 states none). -/
opaque thermalBefore : Nat → Int
/-- SHA-384. -/
opaque sha384 : List Byte → List Byte
/-- HMAC-SHA-384 of a message under a key (R446). -/
opaque hmacSha384 : List Byte → List Byte → List Byte
/-- The host side's OTP seed (R446). -/
opaque hostSeed : List Byte
/-- AES-256-GCM (R447): ciphertext and tag from the key, the nonce, the additional data and the plaintext. -/
opaque aesGcm : List Byte → List Byte → List Byte → List Byte → List Byte × List Byte
/-- The n-th draw from the key store's random generator (R447). -/
opaque drbg : Nat → List Byte
/-- The public key of a secret key by its algorithm code (R450). -/
opaque publicKey : Nat → List Byte → List Byte
/-- Whether bytes parse as a DER X.509 certificate with a signature algorithm of R452. -/
opaque certificateOk : List Byte → Bool
/-- Whether an ECDSA P-384 signature over a digest verifies against a key (R454). -/
opaque ecdsaOk : List Byte → List Byte → List Byte → Bool
/-- The four image-key digests in OTP, those revoked left out (R456). -/
opaque imageKeys : List (List Byte)
/-- The Caermor commissioning key held in the factory keys (note of R452). -/
opaque commissioningKey : List Byte
/-- The headers of the images that the module runs at reset, by type (R454). -/
opaque firstImage : Fin 5 → List Byte
/-- The outlet that an axis unit U1 to U4 belongs to: R142 speaks of it, and no rule names it. -/
opaque unitOutlet : Fin 4 → Fin 12
/-- The one-way fibre delay in ns between a card and the module on a port: how long the fibre is (R63, R66). -/
opaque fibreDelay : Fin 28 → Fin 2 → Nat
/-- How fast a card's own oscillator runs off, in ppm within ±50, that is in 10 ps per period (R68). -/
opaque cardDrift : Fin 28 → Int
/-- A 32-bit unit of a collector cell as the DMA engine reads it: output record, written flag, fault flag, unit 0 to 7 (R121 and
Table 14.1 give the cell 32 bytes, not their layout). -/
opaque cellWord : List Rat → Bool → Bool → Nat → W32
/-- The SHA-256 of the image that a header belongs to; the header carries another digest of its body (Table 15.7). -/
opaque imageSha : List Byte → List Byte
/-- The dictionary version that the HX image of a header sets (Table 17.2). -/
opaque dictionaryVersion : List Byte → W16

end Sys2Proof.Config
end

