-- ==== Sys2Proof/Machine/EntriesField.lean ====
section
/-! DEFINITION. The dictionary entries of the outlets, metrology, safety and load as the entry tables of the manual give them. -/
namespace Sys2Proof.Machine

/-- Entries 0x30xx (Table 7.9). -/
def entries30a : List Row :=
  [ row 0x3000 16 12 0x01 0x01 .u8 .ro .v (.k 11) (.any) /- State -/
  , row 0x3000 16 12 0x02 0x02 .u8 .ro .v (.k 0) (.any) /- End cause -/
  , row 0x3000 16 12 0x03 0x03 .u32 .ro .v (.k 0) (.any) /- Fault causes -/
  , row 0x3000 16 12 0x04 0x04 .u8 .ro .v (.k 0) (.any) /- Protocol -/
  , row 0x3000 16 12 0x05 0x05 .u16 .ro .v (.k 0) (.any) /- Cable-side voltage -/
  , row 0x3000 16 12 0x06 0x06 .i16 .ro .v (.k 0) (.any) /- Outlet current -/
  , row 0x3000 16 12 0x07 0x07 .u16 .ro .v (.k 65535) (.any) /- Insulation resistance -/
  , row 0x3000 16 12 0x08 0x08 .u8 .ro .v (.k 0) (.any) /- Insulation status -/
  , row 0x3000 16 12 0x09 0x09 .u32 .ro .p (.k 0) (.any) /- Session number -/
  , row 0x3000 16 12 0x0A 0x0A .time64 .ro .v (.k 0) (.any) /- State time -/
  , row 0x3000 16 12 0x0B 0x0B .u8 .ro .v (.k 0) (.any) /- Outlet contactor -/
  , row 0x3000 16 12 0x0C 0x0C .u32 .ro .v (.k 0) (.any) /- Cable check voltage -/
  , row 0x3000 16 12 0x0D 0x0D .u32 .ro .p (.k 0) (.any) /- Faults -/
  , row 0x3000 16 12 0x0E 0x0E .u32 .ro .v (.k 0) (.any) /- Updates discarded -/
  , row 0x3000 16 12 0x0F 0x0F .u32 .ro .v (.k 0) (.any) /- Updates clipped -/
  , row 0x3001 16 12 0x01 0x01 .u8 .rw .p (.k 0) (.upto 1) /- Outlet type -/
  , row 0x3001 16 12 0x02 0x02 .u16 .rw .p (.k 5000) (.range 100 30000) /- Maximum current -/
  , row 0x3001 16 12 0x03 0x03 .u32 .rw .p (.k 1000000) (.range 150000 1250000) /- Maximum voltage -/
  , row 0x3001 16 12 0x04 0x04 .u32 .rw .p (.k 150000) (.range 150000 1250000) /- Minimum voltage -/
  , row 0x3001 16 12 0x05 0x05 .u8 .rw .p (.nth) (.orNone 0 15) /- Head node -/
  , row 0x3001 16 12 0x06 0x06 .bool .rw .p (.k 0) (.any) /- Service at start -/
  , row 0x3001 16 12 0x07 0x07 .bool .rw .p (.k 0) (.any) /- Bidirectional -/
  , row 0x3001 16 12 0x08 0x08 .u16 .rw .p (.k 0) (.any) /- IMD source -/
  , row 0x3002 16 12 0x01 0x01 .u16 .rw .p (.k 200) (.range 10 1000) /- Cable check rate -/
  , row 0x3002 16 12 0x02 0x02 .u32 .rw .p (.k 500000) (.range 150000 1250000) /- Cable check minimum voltage -/
  , row 0x3002 16 12 0x03 0x03 .u16 .rw .p (.k 1500) (.range 200 10000) /- IMD settle time -/
  , row 0x3002 16 12 0x04 0x04 .u16 .rw .p (.k 500) (.range 100 1000) /- Insulation warning level -/
  , row 0x3002 16 12 0x05 0x05 .u16 .rw .p (.k 100) (.range 50 500) /- Insulation fault level -/
  , row 0x3002 16 12 0x06 0x06 .u16 .rw .p (.k 50) (.range 10 1000) /- Short limit time -/
  , row 0x3002 16 12 0x07 0x07 .u16 .rw .p (.k 1000) (.range 10 5000) /- Precharge rate -/
  , row 0x3002 16 12 0x08 0x08 .u16 .rw .p (.k 20) (.range 5 50) /- Precharge current limit -/
  , row 0x3002 16 12 0x09 0x09 .u16 .rw .p (.k 200) (.range 20 500) /- Precharge tolerance -/
  , row 0x3002 16 12 0x0A 0x0A .u16 .rw .p (.k 20) (.range 5 100) /- Fast-stop time -/
  , row 0x3002 16 12 0x0B 0x0B .u16 .rw .p (.k 20) (.range 5 50) /- Outlet open limit -/
  , row 0x3002 16 12 0x0C 0x0C .u16 .rw .p (.k 5000) (.range 500 30000) /- Winddown timeout -/
  , row 0x3002 16 12 0x0D 0x0D .u16 .rw .p (.k 1000) (.range 100 5000) /- Cable discharge time -/
  , row 0x3002 16 12 0x0E 0x0E .u16 .rw .p (.k 1500) (.range 500 3000) /- Weld test offset -/
  , row 0x3002 16 12 0x0F 0x0F .u16 .rw .p (.k 500) (.range 200 2000) /- Target timeout -/
  , row 0x3002 16 12 0x10 0x10 .u16 .rw .p (.k 60) (.range 10 300) /- Cable check timeout -/
  , row 0x3002 16 12 0x11 0x11 .u16 .rw .p (.k 10) (.range 1 60) /- IMD age limit -/ ]

/-- Entries 0x30xx (Table 7.9). -/
def entries30b : List Row :=
  [ row 0x3002 16 12 0x12 0x12 .u16 .rw .p (.k 60) (.range 5 600) /- Plug timeout -/
  , row 0x3003 16 12 0x01 0x01 .u8 .cmd .v (.k 0) (.oneOf [1]) /- Stop -/
  , row 0x3003 16 12 0x02 0x02 .u8 .cmd .v (.k 0) (.oneOf [1, 2]) /- Service -/
  , row 0x3003 16 12 0x03 0x03 .u8 .cmd .v (.k 0) (.oneOf [1]) /- Fault reset -/ ]

/-- Entries 0x30xx together. -/
def entries30 : List Row := entries30a ++ entries30b

/-- Entries 0x31xx (Tables 7.10, 7.11). -/
def entries31 : List Row :=
  [ row 0x3100 1 1 0x01 0x01 .u16 .rw .p (.k 801) (.mask 0x0FFF) /- Protocol priority -/
  , row 0x3100 1 1 0x02 0x02 .bool .rw .p (.k 1) (.any) /- Plug & Charge enabled -/
  , row 0x3100 1 1 0x03 0x03 .bool .rw .p (.k 1) (.any) /- EIM enabled -/
  , row 0x3100 1 1 0x04 0x04 .u16 .rw .p (.k 30000) (.range 1000 60000) /- Authorization timeout -/
  , row 0x3100 1 1 0x05 0x05 .u8 .rw .p (.k 0) (.upto 1) /- TLS with EIM under ISO 15118-2 -/
  , row 0x3100 1 1 0x06 0x06 .u8 .ro .v (.k 0) (.any) /- Roots loaded -/
  , row 0x3100 1 1 0x07 0x07 .u8 .ro .v (.k 0) (.any) /- TLS sessions -/
  , row 0x3110 1 12 0x01 0x01 .oct .ro .v (.bytes []) (.any) /- Vehicle identity -/
  , row 0x3110 1 12 0x02 0x02 .u8 .ro .v (.k 0) (.any) /- Energy service -/
  , row 0x3110 1 12 0x03 0x03 .u8 .ro .v (.k 0) (.any) /- Control mode -/
  , row 0x3110 1 12 0x04 0x04 .u8 .ro .v (.k 255) (.any) /- State of charge -/
  , row 0x3110 1 12 0x05 0x05 .u16 .ro .v (.k 0) (.any) /- Last response code -/
  , row 0x3120 1 12 0x01 0x01 .u8 .own .v (.k 0) (.upto 2) /- Authorization result -/
  , row 0x3120 1 12 0x02 0x02 .u8 .ro .v (.k 0) (.any) /- Identification mode -/
  , row 0x3120 1 12 0x03 0x03 .oct .ro .v (.bytes []) (.any) /- Contract chain digest -/
  , row 0x3120 1 12 0x04 0x04 .oct .ro .v (.bytes []) (.any) /- Contract chain -/
  , row 0x3120 1 12 0x05 0x05 .str .ro .v (.bytes []) (.any) /- Contract identity -/ ]

/-- Entries 0x32xx (Tables 7.12, 7.13). -/
def entries32 : List Row :=
  [ row 0x3200 16 12 0x01 0x01 .u8 .rw .p (.k 255) (.orNone 0 63) /- Pump channel -/
  , row 0x3200 16 12 0x02 0x02 .u16 .rw .p (.k 300) (.range 10 5000) /- Flow minimum -/
  , row 0x3200 16 12 0x03 0x03 .u16 .rw .p (.k 2000) (.range 100 10000) /- Flow fault time -/
  , row 0x3200 16 12 0x04 0x04 .i16 .rw .p (.k 750) (.range 400 1200) /- Derate start -/
  , row 0x3200 16 12 0x05 0x05 .i16 .rw .p (.k 900) (.range 400 1200) /- Derate end -/
  , row 0x3200 16 12 0x06 0x06 .i16 .rw .p (.k 950) (.range 400 1200) /- Trip temperature -/
  , row 0x3200 16 12 0x07 0x07 .u16 .rw .p (.k 2500) (.range 0 30000) /- Uncooled current -/
  , row 0x3200 16 12 0x08 0x08 .u16 .rw .p (.k 120) (.range 0 3600) /- Run-on time -/
  , row 0x3200 16 12 0x09 0x09 .u16 .rw .p (.k 100) (.range 20 1000) /- Head stale time -/
  , row 0x3201 16 12 0x01 0x01 .i16 .ro .v (.k 0) (.any) /- Highest pin temperature -/
  , row 0x3201 16 12 0x02 0x02 .i16 .ro .v (.k 0) (.any) /- Coolant supply temperature -/
  , row 0x3201 16 12 0x03 0x03 .i16 .ro .v (.k 0) (.any) /- Coolant return temperature -/
  , row 0x3201 16 12 0x04 0x04 .u16 .ro .v (.k 0) (.any) /- Flow -/
  , row 0x3201 16 12 0x05 0x05 .u16 .ro .v (.k 0) (.any) /- Derated current -/
  , row 0x3201 16 12 0x06 0x06 .u8 .ro .v (.k 0) (.any) /- Cooling state -/ ]

/-- Entries 0x38xx (Tables 8.12, 8.13, 8.14). -/
def entries38a : List Row :=
  [ row 0x3800 1 1 0x01 0x01 .u8 .ro .v (.k 0) (.any) /- Metrology state -/
  , row 0x3800 1 1 0x02 0x02 .u8 .ro .f (.open) (.any) /- Legal mode -/
  , row 0x3800 1 1 0x03 0x03 .u16 .ro .v (.open) (.any) /- MX version -/
  , row 0x3800 1 1 0x04 0x04 .oct .ro .v (.open) (.any) /- Software identity -/
  , row 0x3800 1 1 0x05 0x05 .oct .ro .f (.open) (.any) /- Public key -/
  , row 0x3800 1 1 0x06 0x06 .u32 .ro .p (.k 0) (.any) /- Seal counter -/
  , row 0x3800 1 1 0x07 0x07 .u8 .cmd .v (.k 0) (.oneOf [1, 2]) /- Metrology window -/
  , row 0x3800 1 1 0x08 0x08 .u8 .ro .v (.k 0) (.any) /- Window state -/
  , row 0x3800 1 1 0x09 0x09 .u16 .ro .v (.k 0) (.any) /- Window remaining -/
  , row 0x3800 1 1 0x0A 0x0A .u8 .ro .v (.k 0) (.any) /- Ring unacknowledged -/
  , row 0x3800 1 1 0x0B 0x0B .u32 .ro .p (.k 0) (.any) /- Records signed -/
  , row 0x3800 1 1 0x0C 0x0C .u32 .ro .p (.k 1) (.any) /- Next record sequence -/
  , row 0x3800 1 1 0x0D 0x0D .time64 .ro .v (.k 0) (.any) /- Last save time -/
  , row 0x3800 1 1 0x0E 0x0E .u32 .ro .p (.k 0) (.any) /- Final-write failures -/
  , row 0x3800 1 1 0x0F 0x0F .u32 .ro .p (.k 0) (.any) /- Power-up count -/
  , row 0x3800 1 1 0x10 0x10 .u16 .ro .p (.k 0) (.any) /- Audit trail used -/
  , row 0x3800 1 1 0x11 0x11 .u16 .rw .v (.k 1) (.range 1 1024) /- Audit read index -/
  , row 0x3800 1 1 0x12 0x12 .oct .ro .v (.bytes []) (.any) /- Audit entry -/
  , row 0x3800 1 1 0x13 0x13 .i64 .ro .v (.k 0) (.any) /- Wall-clock offset -/
  , row 0x3800 1 1 0x14 0x14 .bool .ro .v (.k 0) (.any) /- Offset synchronised -/
  , row 0x3800 1 1 0x15 0x15 .oct .ro .f (.open) (.any) /- Start-up test record -/
  , row 0x3800 1 1 0x16 0x16 .u32 .ro .p (.k 0) (.any) /- Unrecorded audit items -/
  , row 0x3810 1 12 0x01 0x01 .u64 .ro .p (.k 0) (.any) /- Delivered -/
  , row 0x3810 1 12 0x02 0x02 .u64 .ro .p (.k 0) (.any) /- Returned -/
  , row 0x3810 1 12 0x03 0x03 .i64 .ro .p (.k 0) (.any) /- Signed net -/
  , row 0x3810 1 12 0x04 0x04 .u64 .ro .p (.k 0) (.any) /- Absolute -/
  , row 0x3810 1 12 0x05 0x05 .u16 .ro .v (.k 0) (.any) /- Meter-point voltage -/
  , row 0x3810 1 12 0x06 0x06 .i16 .ro .v (.k 0) (.any) /- Current -/
  , row 0x3810 1 12 0x07 0x07 .i16 .ro .v (.k 0) (.any) /- Cable temperature -/
  , row 0x3810 1 12 0x08 0x08 .u8 .ro .v (.k 0) (.any) /- Metering role -/
  , row 0x3810 1 12 0x09 0x09 .time64 .ro .v (.k 0) (.any) /- Session opening -/
  , row 0x3810 1 12 0x0A 0x0A .u32 .ro .v (.k 0) (.any) /- Metering gap -/
  , row 0x3810 1 12 0x0B 0x0B .u32 .ro .v (.k 0) (.any) /- Below-threshold frames -/
  , row 0x3830 1 12 0x01 0x01 .bool .rw .p (.k 0) (.any) /- Compensation -/
  , row 0x3830 1 12 0x02 0x02 .u32 .rw .p (.k 0) (.range 0 100000) /- Cable resistance R20 -/
  , row 0x3830 1 12 0x03 0x03 .u16 .rw .p (.k 3930) (.range 0 10000) /- Temperature coefficient -/
  , row 0x3830 1 12 0x04 0x04 .i16 .rw .p (.k 900) (.range 0 1500) /- Fallback temperature -/
  , row 0x3830 1 12 0x05 0x05 .u32 .ro .p (.k 0) (.any) /- Paired calibration identity -/
  , row 0x3830 1 12 0x06 0x06 .u8 .cmd .v (.k 0) (.oneOf [1]) /- Pair head -/
  , row 0x3830 1 12 0x07 0x07 .str .own .v (.bytes []) (.len 0 40) /- Identification -/ ]

/-- Entries 0x38xx (Tables 8.12, 8.13, 8.14). -/
def entries38b : List Row :=
  [ row 0x3830 1 12 0x08 0x08 .str .rw .p (.bytes []) (.len 0 40) /- EVSE identity -/
  , row 0x3830 1 12 0x09 0x09 .u8 .ro .v (.k 0) (.any) /- Head link state -/
  , row 0x3830 1 12 0x0A 0x0A .u64 .ro .v (.k 0) (.any) /- Head serial -/
  , row 0x3830 1 12 0x0B 0x0B .u32 .ro .v (.k 31250) (.any) /- Sample interval -/
  , row 0x3830 1 12 0x0C 0x0C .u32 .ro .v (.k 0) (.any) /- Frames accepted -/
  , row 0x3830 1 12 0x0D 0x0D .u32 .ro .v (.k 0) (.any) /- Frames missing -/
  , row 0x3850 1 4 0x01 0x01 .u8 .rw .p (.k 255) (.orNone 0 11) /- Outlet -/
  , row 0x3850 1 4 0x02 0x02 .u8 .rw .p (.k 0) (.upto 2) /- Quantity -/
  , row 0x3850 1 4 0x03 0x03 .u32 .rw .p (.k 100000) (.range 1 4000000000) /- Pulse energy -/
  , row 0x3850 1 4 0x04 0x04 .u8 .rw .p (.k 20) (.range 10 100) /- Pulse width -/
  , row 0x3850 1 4 0x05 0x05 .u32 .ro .p (.k 0) (.any) /- Pulses -/
  , row 0x3850 1 4 0x06 0x06 .u16 .ro .v (.k 0) (.any) /- Backlog -/
  , row 0x3858 1 4 0x01 0x01 .u8 .rw .p (.k 255) (.orNone 0 11) /- Outlet -/
  , row 0x3858 1 4 0x02 0x02 .u8 .rw .p (.k 0) (.upto 2) /- Quantity -/
  , row 0x3858 1 4 0x03 0x03 .u32 .rw .p (.k 100000) (.range 1 4000000000) /- Pulse energy -/
  , row 0x3858 1 4 0x04 0x04 .u8 .rw .p (.k 20) (.range 10 100) /- Pulse width -/
  , row 0x3858 1 4 0x05 0x05 .u32 .ro .p (.k 0) (.any) /- Pulses -/
  , row 0x3858 1 4 0x06 0x06 .u16 .ro .v (.k 0) (.any) /- Backlog -/ ]

/-- Entries 0x38xx together. -/
def entries38 : List Row := entries38a ++ entries38b

/-- Entries 0x40xx (Tables 9.12, 9.13, 9.14, 9.15, 9.16, 9.17, 9.18, 9.19). -/
def entries40a : List Row :=
  [ row 0x4000 1 1 0x01 0x01 .u8 .ro .v (.k 2) (.any) /- Island state -/
  , row 0x4000 1 1 0x02 0x02 .u8 .ro .v (.k 4) (.any) /- Lock cause -/
  , row 0x4000 1 1 0x03 0x03 .u32 .ro .v (.k 0) (.any) /- Configuration CRC -/
  , row 0x4000 1 1 0x04 0x04 .u32 .ro .v (.k 0) (.any) /- Leaf sequence -/
  , row 0x4000 1 1 0x05 0x05 .u16 .ro .v (.open) (.any) /- SX version core A -/
  , row 0x4000 1 1 0x06 0x06 .u16 .ro .v (.open) (.any) /- SX version core B -/
  , row 0x4000 1 1 0x07 0x07 .bool .ro .v (.k 0) (.any) /- Pair output permit -/
  , row 0x4000 1 1 0x08 0x08 .u8 .cmd .v (.k 0) (.oneOf [1]) /- Restart -/
  , row 0x4000 1 1 0x09 0x09 .u16 .ro .v (.k 4095) (.any) /- Stop bits -/
  , row 0x4000 1 1 0x0A 0x0A .u8 .ro .v (.k 15) (.any) /- Torque-off bits -/
  , row 0x4001 1 1 0x01 0x0C .u8 .ro .v (.k 0) (.any) /- SF2 state -/
  , row 0x4002 1 1 0x01 0x04 .u8 .ro .v (.k 0) (.any) /- SF1 state -/
  , row 0x4003 1 1 0x01 0x0C .u32 .ro .v (.k 0) (.any) /- SF2 demand sources -/
  , row 0x4004 1 1 0x01 0x04 .u32 .ro .v (.k 0) (.any) /- SF1 demand sources -/
  , row 0x4005 1 1 0x01 0x0C .u16 .ro .v (.k 0) (.any) /- SF2 last isolation time -/
  , row 0x4006 1 1 0x01 0x04 .u16 .ro .v (.k 0) (.any) /- SF1 last reaction time -/
  , row 0x4007 1 1 0x01 0x01 .u8 .cmd .v (.k 0) (.range 0 11) /- SF2 fault reset -/
  , row 0x4007 1 1 0x02 0x02 .u8 .cmd .v (.k 0) (.range 0 3) /- SF1 fault reset -/
  , row 0x4010 1 1 0x01 0x08 .u8 .ro .v (.k 0) (.any) /- Input state -/
  , row 0x4011 1 1 0x01 0x0C .bool .ro .v (.k 0) (.any) /- Feedback -/
  , row 0x4020 1 8 0x01 0x01 .u8 .safe .p (.k 0) (.range 0 4) /- Type -/
  , row 0x4020 1 8 0x02 0x02 .u8 .safe .p (.k 4) (.range 2 14) /- Filter time -/
  , row 0x4020 1 8 0x03 0x03 .u16 .safe .p (.k 100) (.range 10 1000) /- Discrepancy time -/
  , row 0x4020 1 8 0x04 0x04 .u16 .safe .p (.k 0) (.mask 0x0FFF) /- SF2 scope -/
  , row 0x4020 1 8 0x05 0x05 .u8 .safe .p (.k 0) (.mask 0x0F) /- SF1 scope -/
  , row 0x4030 1 1 0x01 0x01 .u16 .safe .p (.k 0) (.mask 0x0FFF) /- SF2 in use -/
  , row 0x4030 1 1 0x02 0x02 .u8 .safe .p (.k 0) (.mask 0x0F) /- SF1 in use -/
  , row 0x4030 1 1 0x03 0x03 .u16 .safe .p (.k 0) (.mask 0x0FFF) /- SF2 manual reset -/
  , row 0x4030 1 1 0x04 0x04 .u8 .safe .p (.k 15) (.mask 0x0F) /- SF1 manual reset -/
  , row 0x4030 1 1 0x05 0x05 .u16 .safe .p (.k 100) (.range 20 1000) /- Feedback time -/
  , row 0x4030 1 1 0x06 0x06 .u16 .safe .p (.k 10) (.range 1 600) /- Dark-pulse interval -/
  , row 0x4030 1 1 0x07 0x07 .u8 .safe .p (.k 1) (.upto 1) /- Feed-loss action -/
  , row 0x4040 1 16 0x01 0x01 .bool .safe .p (.k 0) (.any) /- In use -/
  , row 0x4040 1 16 0x02 0x02 .u8 .safe .p (.k 1) (.range 1 4) /- Network -/
  , row 0x4040 1 16 0x03 0x03 .u8 .safe .p (.k 0) (.any) /- Address -/
  , row 0x4040 1 16 0x04 0x04 .u32 .safe .p (.k 0) (.range 0 0xFFFFFFFE) /- Connection identity -/
  , row 0x4040 1 16 0x05 0x05 .u8 .safe .p (.k 20) (.range 4 100) /- Watchdog time -/
  , row 0x4040 1 16 0x06 0x06 .u16 .safe .p (.k 0) (.mask 0x0FFF) /- SF2 scope -/
  , row 0x4040 1 16 0x07 0x07 .u8 .safe .p (.k 0) (.mask 0x0F) /- SF1 scope -/
  , row 0x4040 1 16 0x08 0x08 .u8 .ro .v (.k 0) (.any) /- State -/ ]

/-- Entries 0x40xx (Tables 9.12, 9.13, 9.14, 9.15, 9.16, 9.17, 9.18, 9.19). -/
def entries40b : List Row :=
  [ row 0x4040 1 16 0x09 0x09 .u32 .ro .v (.k 0) (.any) /- Faults -/
  , row 0x4040 1 16 0x0A 0x0A .u8 .ro .v (.k 0) (.any) /- Last fault cause -/
  , row 0x4050 1 8 0x01 0x01 .bool .safe .p (.k 0) (.any) /- In use -/
  , row 0x4050 1 8 0x02 0x02 .u8 .safe .p (.k 1) (.range 1 4) /- Network -/
  , row 0x4050 1 8 0x03 0x03 .u8 .safe .p (.k 0) (.any) /- Address -/
  , row 0x4050 1 8 0x04 0x04 .u32 .safe .p (.k 0) (.range 0 0xFFFFFFFE) /- Connection identity -/
  , row 0x4050 1 8 0x05 0x05 .u8 .safe .p (.k 20) (.range 4 100) /- Watchdog time -/
  , row 0x4050 1 8 0x06 0x06 .u8 .ro .v (.k 0) (.any) /- State -/
  , row 0x4050 1 8 0x07 0x07 .u32 .ro .v (.k 0) (.any) /- Faults -/
  , row 0x4060 1 1 0x01 0x01 .str .wo .v (.bytes []) (.any) /- Password -/
  , row 0x4060 1 1 0x02 0x02 .u8 .cmd .v (.k 0) (.oneOf [1, 2, 3]) /- Transaction command -/
  , row 0x4060 1 1 0x03 0x03 .u32 .rw .v (.k 0) (.any) /- Expected CRC -/
  , row 0x4060 1 1 0x04 0x04 .u8 .ro .v (.k 0) (.any) /- Transaction state -/
  , row 0x4060 1 1 0x05 0x05 .u8 .ro .v (.k 0) (.any) /- Owner -/
  , row 0x4060 1 1 0x06 0x06 .u32 .ro .v (.k 0) (.any) /- Pending CRC -/
  , row 0x4060 1 1 0x07 0x07 .str .safe .v (.bytes []) (.len 8 16) /- New password -/
  , row 0x4060 1 1 0x08 0x08 .bool .ro .p (.k 0) (.any) /- Password set -/
  , row 0x4060 1 1 0x09 0x09 .u16 .ro .v (.k 0) (.any) /- Lockout remaining -/
  , row 0x4070 1 1 0x01 0x01 .u16 .ro .p (.k 0) (.any) /- Log used -/
  , row 0x4070 1 1 0x02 0x02 .u32 .ro .p (.k 0) (.any) /- Log wraps -/
  , row 0x4070 1 1 0x03 0x03 .u16 .rw .v (.k 1) (.range 1 256) /- Log read index -/
  , row 0x4070 1 1 0x04 0x04 .oct .ro .v (.bytes []) (.any) /- Log entry -/
  , row 0x4080 1 1 0x01 0x01 .u16 .ro .v (.k 0) (.any) /- Output faults -/
  , row 0x4080 1 1 0x02 0x02 .u16 .ro .v (.k 0) (.any) /- Contactor faults -/
  , row 0x4080 1 1 0x03 0x03 .u32 .ro .v (.k 0) (.any) /- Dark pulses -/
  , row 0x4080 1 1 0x04 0x04 .u32 .ro .p (.k 0) (.any) /- Dark-pulse failures -/
  , row 0x4080 1 1 0x05 0x05 .u16 .ro .v (.k 0) (.any) /- Longest dark pulse -/ ]

/-- Entries 0x40xx together. -/
def entries40 : List Row := entries40a ++ entries40b

/-- Entries 0x44xx (Tables 10.6, 10.7). -/
def entries44 : List Row :=
  [ row 0x4400 1 1 0x01 0x01 .u16 .ro .v (.k 0) (.any) /- Load supply -/
  , row 0x4400 1 1 0x02 0x02 .u16 .ro .v (.k 0) (.any) /- Dissipation estimate -/
  , row 0x4400 1 1 0x03 0x03 .bool .ro .v (.k 0) (.any) /- EXTSEL honoured -/
  , row 0x4400 1 1 0x04 0x04 .bool .own .v (.k 0) (.any) /- External select permit -/
  , row 0x4400 1 1 0x05 0x05 .u8 .own .v (.k 255) (.orNone 0 15) /- Forced select -/
  , row 0x4400 1 1 0x06 0x06 .bool .ro .v (.k 0) (.any) /- LIMP_N asserted -/
  , row 0x4400 1 1 0x07 0x07 .bool .ro .v (.k 0) (.any) /- Orphan state active -/
  , row 0x4400 1 1 0x08 0x08 .u16 .rw .p (.k 300) (.range 50 5000) /- Orphan timeout -/
  , row 0x4400 1 1 0x09 0x09 .u8 .rw .p (.k 50) (.range 0 90) /- Cold-start heat -/
  , row 0x4400 1 1 0x0A 0x0A .u16 .rw .p (.k 1000) (.range 100 60000) /- Retry delay -/
  , row 0x4400 1 1 0x0B 0x0B .u16 .rw .p (.k 60) (.range 1 3600) /- Retry reset time -/
  , row 0x4400 1 1 0x0C 0x0C .u8 .rw .p (.k 50) (.range 10 90) /- Retry level -/
  , row 0x4400 1 1 0x0D 0x0D .u32 .ro .v (.k 0) (.any) /- Orphan episodes -/
  , row 0x4410 1 1 0x01 0x40 .u8 .own .v (.k 0) (.upto 1) /- Command -/
  , row 0x4411 1 1 0x01 0x40 .q15 .own .v (.k 32767) (.range 0 32767) /- Duty -/
  , row 0x4412 1 1 0x01 0x40 .u16 .rw .p (.k 200) (.range 100 25000) /- PWM frequency -/
  , row 0x4413 1 1 0x01 0x40 .u8 .rw .p (.k 0) (.range 0 4) /- Wire size -/
  , row 0x4414 1 1 0x01 0x40 .u8 .rw .p (.k 3) (.range 0 15) /- Retry count -/
  , row 0x4415 1 1 0x01 0x40 .u8 .rw .p (.k 0) (.upto 2) /- Orphan state -/
  , row 0x4416 1 1 0x01 0x40 .u16 .rw .p (.k 0) (.orZero 10 1000) /- Open-load threshold -/
  , row 0x4417 1 1 0x01 0x40 .u8 .cmd .v (.k 0) (.oneOf [1]) /- Clear -/
  , row 0x4420 1 1 0x01 0x40 .u8 .ro .v (.k 0) (.any) /- State -/
  , row 0x4421 1 1 0x01 0x40 .u16 .ro .v (.k 65535) (.any) /- Group-pin current -/
  , row 0x4422 1 1 0x01 0x40 .u16 .ro .v (.k 0) (.any) /- Internal current -/
  , row 0x4423 1 1 0x01 0x40 .u16 .ro .v (.k 0) (.any) /- Heat -/
  , row 0x4424 1 1 0x01 0x40 .i16 .ro .v (.k 0) (.any) /- Junction temperature -/
  , row 0x4425 1 1 0x01 0x40 .u8 .ro .v (.k 3) (.any) /- Retries remaining -/
  , row 0x4426 1 1 0x01 0x40 .u8 .ro .v (.k 0) (.any) /- Trip cause -/
  , row 0x4427 1 1 0x01 0x40 .u8 .ro .v (.k 5) (.any) /- Controller -/
  , row 0x4428 1 1 0x01 0x40 .u32 .ro .p (.k 0) (.any) /- Trips -/
  , row 0x4429 1 1 0x01 0x40 .u8 .ro .v (.k 0) (.any) /- Flags -/
  , row 0x4430 1 1 0x01 0x08 .u8 .rw .p (.k 255) (.orNone 0 63) /- Limp-home map -/
  , row 0x4432 1 1 0x01 0x01 .u8 .rw .p (.k 0) (.any) /- General input enable -/
  , row 0x4432 1 1 0x02 0x02 .u8 .ro .v (.k 0) (.any) /- General inputs -/ ]

end Sys2Proof.Machine
end

