-- ==== Sys2Proof/Machine/EntriesPower.lean ====
section
/-! DEFINITION. The dictionary entries of the power side as the entry tables of the manual give them. -/
namespace Sys2Proof.Machine

/-- Entries 0x20xx (Table 3.18). -/
def entries20 : List Row :=
  [ row 0x2000 1 96 0x01 0x01 .bool .rw .p (.k 1) (.any) /- Enabled -/
  , row 0x2000 1 96 0x02 0x02 .u16 .rw .p (.k 1200) (.range 500 5000) /- Inductance -/
  , row 0x2000 1 96 0x03 0x03 .u16 .rw .p (.k 1000) (.range 100 1000) /- Current limit -/
  , row 0x2000 1 96 0x04 0x04 .i16 .rw .p (.k 1100) (.range 600 1500) /- Derate start -/
  , row 0x2000 1 96 0x05 0x05 .i16 .rw .p (.k 1350) (.range 600 1500) /- Derate end -/
  , row 0x2000 1 96 0x06 0x06 .i16 .rw .p (.k 1450) (.range 600 1500) /- Trip temperature -/
  , row 0x2000 1 96 0x07 0x07 .u8 .cmd .v (.k 0) (.oneOf [1]) /- Fault reset -/ ]

/-- Entries 0x21xx (Table 3.19). -/
def entries21 : List Row :=
  [ row 0x2100 1 96 0x01 0x01 .u8 .ro .v (.k 0) (.any) /- State -/
  , row 0x2100 1 96 0x02 0x02 .u8 .ro .v (.k 0) (.any) /- Shed cause -/
  , row 0x2100 1 96 0x03 0x03 .u16 .ro .v (.k 0) (.any) /- Fault cause -/
  , row 0x2100 1 96 0x04 0x04 .i16 .ro .v (.k 0) (.any) /- Current -/
  , row 0x2100 1 96 0x05 0x05 .u16 .ro .v (.k 0) (.any) /- Duty -/
  , row 0x2100 1 96 0x06 0x06 .u16 .ro .v (.k 0) (.any) /- Phase -/
  , row 0x2100 1 96 0x07 0x07 .u16 .ro .v (.k 0) (.any) /- Limit in force -/
  , row 0x2100 1 96 0x10 0x12 .i16 .ro .v (.k 0) (.any) /- Current average -/
  , row 0x2100 1 96 0x13 0x15 .i32 .ro .v (.k 0) (.any) /- Power average -/
  , row 0x2100 1 96 0x16 0x18 .i16 .ro .v (.k 0) (.any) /- Temperature average -/
  , row 0x2100 1 96 0x20 0x20 .u8 .cmd .v (.k 0) (.oneOf [1]) /- Peak capture -/
  , row 0x2100 1 96 0x21 0x21 .i16 .ro .v (.k 0) (.any) /- Captured maximum current -/
  , row 0x2100 1 96 0x22 0x22 .i16 .ro .v (.k 0) (.any) /- Captured minimum current -/
  , row 0x2100 1 96 0x23 0x23 .i16 .ro .v (.k 0) (.any) /- Captured maximum temperature -/
  , row 0x2100 1 96 0x24 0x24 .u32 .ro .v (.k 0) (.any) /- Zero-current events -/
  , row 0x2100 1 96 0x25 0x25 .u32 .ro .v (.k 0) (.any) /- Braking episodes -/ ]

/-- Entries 0x22xx (Tables 2.8, 3.20). -/
def entries22 : List Row :=
  [ row 0x2200 1 24 0x01 0x01 .bool .rw .p (.k 1) (.any) /- Fitted -/
  , row 0x2200 1 24 0x02 0x02 .u8 .own .v (.k 0) (.upto 1) /- Isolation request -/
  , row 0x2200 1 24 0x03 0x03 .u8 .ro .v (.k 0) (.any) /- Brick contactor -/
  , row 0x2200 1 24 0x04 0x04 .u8 .ro .v (.k 0) (.any) /- Legs in service -/
  , row 0x2200 1 24 0x05 0x05 .u8 .ro .v (.k 0) (.any) /- Auxiliary inputs -/
  , row 0x2200 1 24 0x06 0x06 .u32 .ro .p (.k 0) (.any) /- Brick operations -/
  , row 0x2200 1 24 0x10 0x10 .u8 .ro .v (.k 0) (.any) /- Link state -/
  , row 0x2200 1 24 0x11 0x11 .u8 .ro .v (.k 0) (.any) /- Authority port -/
  , row 0x2200 1 24 0x12 0x12 .u32 .ro .v (.k 0) (.any) /- Epoch seen -/
  , row 0x2200 1 24 0x13 0x13 .u16 .ro .v (.k 0) (.any) /- DC link voltage -/
  , row 0x2200 1 24 0x14 0x14 .u16 .ro .v (.k 0) (.any) /- Output voltage -/
  , row 0x2200 1 24 0x15 0x15 .u16 .ro .v (.k 0) (.any) /- Rail-side voltage -/
  , row 0x2200 1 24 0x16 0x16 .i16 .ro .v (.k 0) (.any) /- Output current -/
  , row 0x2200 1 24 0x17 0x17 .i16 .ro .v (.k 0) (.any) /- Card temperature -/
  , row 0x2200 1 24 0x18 0x18 .i16 .ro .v (.k 0) (.any) /- Capacitor temperature -/
  , row 0x2200 1 24 0x19 0x1A .u16 .ro .v (.k 0) (.any) /- Port delay -/
  , row 0x2200 1 24 0x20 0x22 .i32 .ro .v (.k 0) (.any) /- Output power average -/
  , row 0x2200 1 24 0x23 0x25 .u16 .ro .v (.k 0) (.any) /- Output voltage average -/
  , row 0x2200 1 24 0x26 0x26 .u8 .cmd .v (.k 0) (.oneOf [1]) /- Peak capture -/
  , row 0x2200 1 24 0x27 0x28 .i16 .ro .v (.k 0) (.any) /- Captured output current peaks -/
  , row 0x2200 1 24 0x29 0x29 .u16 .ro .v (.k 0) (.any) /- Captured DC link maximum -/
  , row 0x2200 1 24 0x30 0x30 .u32 .ro .v (.k 0) (.any) /- Good uplinks -/
  , row 0x2200 1 24 0x31 0x31 .u32 .ro .v (.k 0) (.any) /- Bad uplinks -/
  , row 0x2200 1 24 0x32 0x32 .u32 .ro .v (.k 0) (.any) /- Late uplinks -/
  , row 0x2200 1 24 0x33 0x33 .u32 .ro .v (.k 0) (.any) /- Orphan episodes -/
  , row 0x2200 1 24 0x34 0x34 .u32 .ro .v (.k 0) (.any) /- Epoch conflicts -/ ]

/-- Entries 0x23xx (Table 3.21). -/
def entries23 : List Row :=
  [ row 0x2300 1 1 0x01 0x01 .u8 .rw .p (.k 0) (.upto 1) /- Sync source -/
  , row 0x2300 1 1 0x02 0x02 .u8 .rw .p (.k 1) (.range 1 100) /- SYNC_IN divider -/
  , row 0x2300 1 1 0x03 0x03 .u16 .rw .p (.k 0) (.range 0 999) /- Sync offset -/
  , row 0x2300 1 1 0x04 0x04 .u8 .ro .v (.k 0) (.any) /- Sync state -/
  , row 0x2300 1 1 0x05 0x05 .i16 .ro .v (.k 0) (.any) /- Sync error -/
  , row 0x2300 1 1 0x06 0x06 .u8 .rw .p (.k 1) (.range 0 100) /- SYNC_OUT divider -/
  , row 0x2300 1 1 0x07 0x07 .u16 .rw .p (.k 0) (.range 0 999) /- SYNC_OUT offset -/
  , row 0x2300 1 1 0x08 0x08 .u16 .rw .p (.k 100) (.range 10 500) /- SYNC_OUT width -/
  , row 0x2300 1 1 0x09 0x09 .u32 .ro .v (.k 0) (.any) /- Sync losses -/
  , row 0x2301 1 1 0x01 0x01 .u16 .rw .p (.k 100) (.range 50 500) /- Dead time -/
  , row 0x2301 1 1 0x02 0x02 .u16 .rw .p (.k 200) (.range 100 1000) /- Minimum pulse -/
  , row 0x2301 1 1 0x03 0x03 .u16 .rw .p (.k 1100) (.range 100 1200) /- Card current limit -/
  , row 0x2301 1 1 0x04 0x04 .u8 .rw .p (.k 8) (.range 1 8) /- Extended hold -/
  , row 0x2301 1 1 0x05 0x05 .u16 .rw .p (.k 500) (.range 50 5000) /- Contactor hold time -/
  , row 0x2301 1 1 0x06 0x06 .u16 .rw .p (.k 100) (.range 10 1000) /- Link hold time -/
  , row 0x2310 1 1 0x01 0x01 .bool .rw .p (.k 1) (.any) /- Shedding enabled -/
  , row 0x2310 1 1 0x02 0x02 .u16 .rw .p (.k 100) (.range 10 500) /- Default I_shed -/
  , row 0x2310 1 1 0x03 0x03 .u16 .rw .p (.k 250) (.range 20 800) /- Default I_target -/
  , row 0x2310 1 1 0x04 0x04 .u16 .rw .p (.k 350) (.range 30 1000) /- Default I_restore -/
  , row 0x2310 1 1 0x05 0x05 .u16 .rw .p (.k 20) (.range 1 1000) /- Shed dwell -/
  , row 0x2310 1 1 0x06 0x06 .u8 .rw .p (.k 4) (.range 1 96) /- n_min -/
  , row 0x2310 1 1 0x07 0x07 .bool .rw .p (.k 1) (.any) /- Diode emulation enabled -/
  , row 0x2311 1 1 0x01 0x0C .u16 .rw .p (.k 0) (.orZero 10 500) /- Outlet I_shed -/
  , row 0x2312 1 1 0x01 0x0C .u16 .rw .p (.k 0) (.orZero 20 800) /- Outlet I_target -/
  , row 0x2313 1 1 0x01 0x0C .u16 .rw .p (.k 0) (.orZero 30 1000) /- Outlet I_restore -/
  , row 0x2330 1 1 0x01 0x01 .bool .rw .p (.k 1) (.any) /- Braking enabled -/
  , row 0x2330 1 1 0x02 0x02 .u8 .rw .p (.k 20) (.range 5 80) /- Slope fraction -/
  , row 0x2330 1 1 0x03 0x03 .u16 .rw .p (.k 100) (.range 10 1000) /- Slope minimum -/
  , row 0x2330 1 1 0x04 0x04 .u16 .rw .p (.k 20) (.range 5 200) /- Reversal threshold -/
  , row 0x2330 1 1 0x05 0x05 .u16 .rw .p (.k 5) (.range 1 50) /- Voltage threshold -/
  , row 0x2330 1 1 0x06 0x06 .u8 .rw .p (.k 20) (.range 2 20) /- Braking window -/
  , row 0x2330 1 1 0x07 0x07 .u16 .ro .v (.k 0) (.any) /- Detector faulted -/
  , row 0x2330 1 1 0x08 0x08 .u32 .ro .v (.k 0) (.any) /- Release episodes -/ ]

/-- Entries 0x24xx (Tables 4.5, 4.6, 4.7, 4.8, 4.9). -/
def entries24a : List Row :=
  [ row 0x2400 16 12 0x01 0x01 .u8 .ro .v (.k 0) (.any) /- State -/
  , row 0x2400 16 12 0x02 0x02 .u8 .ro .v (.k 0) (.any) /- Control mode -/
  , row 0x2400 16 12 0x03 0x03 .u8 .ro .v (.nth) (.any) /- Governing rail -/
  , row 0x2400 16 12 0x04 0x04 .u16 .ro .v (.k 0) (.any) /- Measured voltage -/
  , row 0x2400 16 12 0x05 0x05 .u32 .ro .v (.k 0) (.any) /- Slewed set-point -/
  , row 0x2400 16 12 0x06 0x06 .u32 .ro .v (.k 0) (.any) /- Target in force -/
  , row 0x2400 16 12 0x07 0x07 .u16 .ro .v (.k 100) (.any) /- Rate in force -/
  , row 0x2400 16 12 0x08 0x08 .i16 .ro .v (.k 0) (.any) /- Current reference -/
  , row 0x2400 16 12 0x09 0x09 .u8 .ro .v (.k 0) (.any) /- Episode -/
  , row 0x2400 16 12 0x0A 0x0A .u16 .ro .v (.k 0) (.any) /- Episode progress -/
  , row 0x2400 16 12 0x0B 0x0B .bool .ro .v (.k 0) (.any) /- In window -/
  , row 0x2400 16 12 0x0C 0x0C .u8 .ro .v (.k 0) (.any) /- At limit -/
  , row 0x2400 16 12 0x0D 0x0D .u8 .ro .v (.k 0) (.any) /- Last episode result -/
  , row 0x2400 16 12 0x0E 0x0E .u8 .ro .v (.k 0) (.any) /- Isolated cause -/
  , row 0x2400 16 12 0x0F 0x0F .u32 .ro .v (.k 0) (.any) /- Superseded commands -/
  , row 0x2401 16 12 0x01 0x01 .u8 .rw .v (.k 0) (.upto 1) /- Control source -/
  , row 0x2401 16 12 0x02 0x02 .u8 .own .v (.k 0) (.range 0 15) /- Set-point index -/
  , row 0x2401 16 12 0x03 0x03 .u32 .own .v (.k 0) (.range 150000 1250000) /- Direct set-point -/
  , row 0x2401 16 12 0x04 0x04 .u16 .own .v (.k 100) (.range 1 5000) /- Direct rate -/
  , row 0x2401 16 12 0x05 0x05 .i16 .own .v (.k 0) (.range (-30000) 30000) /- Current target -/
  , row 0x2401 16 12 0x06 0x06 .u8 .own .v (.k 0) (.upto 1) /- Mode request -/
  , row 0x2401 16 12 0x07 0x07 .u16 .own .v (.k 20) (.range 0 30000) /- Voltage-mode current limit -/
  , row 0x2401 16 12 0x08 0x08 .u32 .rw .p (.k 1250000) (.range 150000 1250000) /- Voltage ceiling -/
  , row 0x2401 16 12 0x09 0x09 .u32 .rw .p (.k 150000) (.range 150000 1250000) /- Voltage floor -/
  , row 0x2401 16 12 0x0A 0x0A .u8 .cmd .v (.k 0) (.oneOf [1]) /- Start -/
  , row 0x2401 16 12 0x0B 0x0B .u8 .cmd .v (.k 0) (.oneOf [1]) /- Stop -/
  , row 0x2401 16 12 0x0C 0x0C .u8 .cmd .v (.k 0) (.oneOf [1, 2]) /- Isolation -/
  , row 0x2402 16 12 0x01 0x10 .u32 .rw .p (.k 0) (.orZero 150000 1250000) /- Stored voltage -/
  , row 0x2403 16 12 0x01 0x10 .u16 .rw .p (.k 100) (.range 1 5000) /- Stored rate -/
  , row 0x2404 16 12 0x01 0x01 .u16 .rw .p (.k 2000) (.range 1 5000) /- Tracking rate -/
  , row 0x2404 16 12 0x02 0x02 .u16 .rw .p (.k 2000) (.range 100 10000) /- Tracking timeout -/
  , row 0x2404 16 12 0x03 0x03 .u16 .rw .p (.k 100) (.range 20 200) /- Outlet close window -/
  , row 0x2404 16 12 0x04 0x04 .u16 .rw .p (.k 600) (.range 100 600) /- Outlet dead level -/
  , row 0x2404 16 12 0x05 0x05 .u16 .rw .p (.k 100) (.range 20 500) /- Ratiometric tolerance -/
  , row 0x2404 16 12 0x06 0x06 .u16 .rw .p (.k 100) (.range 10 1000) /- Ratiometric pause limit -/
  , row 0x2404 16 12 0x07 0x07 .u16 .rw .p (.k 2000) (.range 1 5000) /- Stop rate -/
  , row 0x2404 16 12 0x08 0x08 .u16 .rw .p (.k 600) (.range 100 600) /- Discharge level -/
  , row 0x2404 16 12 0x09 0x09 .u16 .rw .p (.k 2000) (.range 100 10000) /- Drain timeout -/
  , row 0x2404 16 12 0x0A 0x0A .u16 .rw .p (.k 100) (.range 10 1000) /- Start settle -/
  , row 0x2404 16 12 0x0B 0x0B .u16 .rw .p (.k 200) (.range 10 2000) /- Episode current limit -/ ]

/-- Entries 0x24xx (Tables 4.5, 4.6, 4.7, 4.8, 4.9). -/
def entries24b : List Row :=
  [ row 0x2405 16 12 0x01 0x01 .u16 .own .v (.k 0) (.mask 0x0FFF) /- Member mask -/
  , row 0x2405 16 12 0x02 0x02 .u32 .own .v (.k 0) (.range 0 1250000) /- End voltage -/
  , row 0x2405 16 12 0x03 0x03 .u16 .own .v (.k 100) (.range 1 5000) /- Rate -/
  , row 0x2405 16 12 0x04 0x04 .u8 .cmd .v (.k 0) (.oneOf [1]) /- Start episode -/ ]

/-- Entries 0x24xx together. -/
def entries24 : List Row := entries24a ++ entries24b

/-- Entries 0x26xx (Tables 5.10, 5.11, 5.9). -/
def entries26a : List Row :=
  [ row 0x2600 1 1 0x01 0x01 .u8 .ro .v (.k 0) (.any) /- Engine state -/
  , row 0x2600 1 1 0x02 0x02 .u32 .ro .v (.k 0) (.any) /- Period count -/
  , row 0x2600 1 1 0x03 0x06 .u32 .ro .v (.k 0) (.any) /- Saturations -/
  , row 0x2600 1 1 0x07 0x0A .u8 .rw .p (.listed [0, 1, 1, 1]) (.upto 1) /- Class format -/
  , row 0x2600 1 1 0x0B 0x0B .u32 .ro .v (.k 0) (.any) /- Corrected memory errors -/
  , row 0x2600 1 1 0x0C 0x0C .u32 .ro .v (.k 0) (.any) /- Slot faults -/
  , row 0x2600 1 1 0x0D 0x0D .u16 .ro .v (.k 65535) (.any) /- Last slot fault -/
  , row 0x2610 1 1 0x01 0x01 .bfp .rw .p (.bfp 20972 (-8)) (.frac 20000) /- Kp -/
  , row 0x2610 1 1 0x02 0x02 .bfp .rw .p (.bfp 21475 (-12)) (.frac 2000) /- Ki -/
  , row 0x2610 1 1 0x03 0x03 .bfp .rw .p (.bfp 26214 (-3)) (.frac 500000) /- Integrator limit -/
  , row 0x2610 1 1 0x04 0x04 .u16 .rw .p (.k 0) (.range 0 32767) /- Duty minimum -/
  , row 0x2610 1 1 0x05 0x05 .u16 .rw .p (.k 65535) (.range 32768 65535) /- Duty maximum -/
  , row 0x2610 1 1 0x06 0x06 .bool .rw .p (.k 1) (.any) /- Feedforward -/
  , row 0x2620 1 12 0x01 0x01 .bfp .rw .p (.bfp 20480 3) (.frac 1000000000) /- Kpv -/
  , row 0x2620 1 12 0x02 0x02 .bfp .rw .p (.bfp 20972 (-6)) (.frac 10000000) /- Kiv -/
  , row 0x2620 1 12 0x03 0x03 .u32 .rw .p (.k 0) (.range 0 100000) /- Capacitance feedforward -/
  , row 0x2620 1 12 0x04 0x04 .bfp .rw .p (.bfp 20972 (-5)) (.frac 1000000) /- Kic -/
  , row 0x2620 1 12 0x05 0x05 .bfp .rw .p (.bfp 20480 5) (.frac 1000000000) /- Limiter gain -/
  , row 0x2620 1 12 0x06 0x06 .u16 .rw .p (.k 30000) (.range 0 30000) /- Integrator limit -/
  , row 0x2640 1 12 0x01 0x01 .bfp .rw .p (.bfp 25600 6) (.frac 5000000000) /- Kpp -/
  , row 0x2640 1 12 0x02 0x02 .bfp .rw .p (.bfp 21475 (-15)) (.frac 10000) /- Kvp -/
  , row 0x2640 1 12 0x03 0x03 .bfp .rw .p (.bfp 17180 (-19)) (.frac 1000) /- Kvi -/
  , row 0x2640 1 12 0x04 0x04 .bfp .rw .p (.bfp 16384 1) (.frac 2000000) /- Velocity feedforward -/
  , row 0x2640 1 12 0x05 0x05 .bfp .rw .p (.bfp 0 0) (.frac 1000) /- Acceleration feedforward -/
  , row 0x2640 1 12 0x06 0x06 .q15 .rw .p (.k 26214) (.range 0 32767) /- Torque limit -/
  , row 0x2640 1 12 0x07 0x07 .u32 .rw .p (.k 4000) (.range 1 10000000) /- Following-error limit -/
  , row 0x2640 1 12 0x08 0x08 .u16 .rw .p (.k 125) (.range 1 12500) /- Following-error timer -/
  , row 0x2640 1 12 0x09 0x09 .bool .own .v (.k 0) (.any) /- Enabled -/
  , row 0x2640 1 12 0x0A 0x0A .i32 .ro .v (.k 0) (.any) /- Following error -/
  , row 0x2640 1 12 0x0B 0x0B .bool .ro .v (.k 0) (.any) /- Following-error flag -/
  , row 0x2640 1 12 0x0C 0x0C .u8 .cmd .v (.k 0) (.oneOf [1]) /- Flag reset -/
  , row 0x2650 1 16 0x01 0x01 .bool .rw .p (.k 0) (.any) /- Enabled -/
  , row 0x2650 1 16 0x02 0x02 .u16 .rw .p (.k 0) (.any) /- Input source -/
  , row 0x2650 1 16 0x03 0x03 .i16 .rw .p (.k 400) (.range (-400) 1500) /- Set-point -/
  , row 0x2650 1 16 0x04 0x04 .bfp .rw .p (.bfp 26214 (-3)) (.frac 10000000) /- Kp -/
  , row 0x2650 1 16 0x05 0x05 .bfp .rw .p (.bfp 20972 (-7)) (.frac 1000000) /- Ki -/
  , row 0x2650 1 16 0x06 0x06 .u8 .rw .p (.k 255) (.orNone 0 63) /- Output channel -/
  , row 0x2650 1 16 0x07 0x07 .q15 .rw .p (.k 6554) (.range 0 32767) /- Duty minimum -/
  , row 0x2650 1 16 0x08 0x08 .q15 .rw .p (.k 32767) (.range 0 32767) /- Duty maximum -/
  , row 0x2650 1 16 0x09 0x09 .q15 .ro .v (.k 0) (.any) /- Duty -/ ]

/-- Entries 0x26xx (Tables 5.10, 5.11, 5.9). -/
def entries26b : List Row :=
  [ row 0x2650 1 16 0x0A 0x0A .bool .ro .v (.k 0) (.any) /- Input stale -/
  , row 0x2680 1 28 0x01 0x01 .u8 .ro .v (.open) (.any) /- User -/
  , row 0x2680 1 28 0x02 0x02 .u32 .rw .p (.axisOr 100000 10000) (.range 1 1000000000) /- Velocity limit -/
  , row 0x2680 1 28 0x03 0x03 .u32 .rw .p (.axisOr 1000000 100000) (.range 1 4000000000) /- Acceleration limit -/
  , row 0x2680 1 28 0x04 0x04 .u32 .rw .p (.axisOr 50000000 2000000) (.range 1 4000000000) /- Jerk limit -/
  , row 0x2680 1 28 0x05 0x05 .u8 .rw .p (.k 4) (.range 1 16) /- Override factor -/
  , row 0x2680 1 28 0x06 0x06 .i32 .own .v (.k 0) (.any) /- Target -/
  , row 0x2680 1 28 0x07 0x07 .i32 .ro .v (.k 0) (.any) /- Output -/
  , row 0x2680 1 28 0x08 0x08 .i32 .ro .v (.k 0) (.any) /- Output velocity -/
  , row 0x2680 1 28 0x09 0x09 .i32 .ro .v (.k 0) (.any) /- Output acceleration -/
  , row 0x2680 1 28 0x0A 0x0A .u8 .ro .v (.k 0) (.any) /- State -/
  , row 0x2680 1 28 0x0B 0x0B .u8 .rw .p (.k 1) (.oneOf [1, 8]) /- Update interval -/
  , row 0x2680 1 28 0x0C 0x0C .u8 .own .v (.k 255) (.orNone 12 15) /- Binding -/
  , row 0x2680 1 28 0x0D 0x0D .u32 .own .v (.k 0) (.range 0 100000000) /- Start delay -/
  , row 0x2680 1 28 0x0E 0x0E .u8 .own .v (.k 255) (.orNone 0 3) /- Timer -/
  , row 0x2680 1 28 0x0F 0x0F .u8 .cmd .v (.k 0) (.oneOf [1]) /- Start -/ ]

/-- Entries 0x26xx together. -/
def entries26 : List Row := entries26a ++ entries26b

/-- Entries 0x27xx (Tables 5.12, 5.13). -/
def entries27 : List Row :=
  [ row 0x2700 16 2 0x01 0x01 .u16 .own .v (.k 0) (.any) /- Target -/
  , row 0x2700 16 2 0x02 0x02 .u8 .own .v (.k 0) (.upto 1) /- Injection point -/
  , row 0x2700 16 2 0x03 0x03 .u8 .own .v (.k 3) (.oneOf [1, 2, 3]) /- Signal -/
  , row 0x2700 16 2 0x04 0x04 .bfp .own .v (.bfp 0 0) (.any) /- Amplitude -/
  , row 0x2700 16 2 0x05 0x06 .u32 .own .v (.listed [1000, 10000000]) (.range 1000 40000000) /- Chirp start, end -/
  , row 0x2700 16 2 0x07 0x07 .u8 .own .v (.k 1) (.upto 1) /- Sweep -/
  , row 0x2700 16 2 0x08 0x08 .u32 .own .v (.k 1000) (.range 1 100000) /- Chirp duration -/
  , row 0x2700 16 2 0x09 0x09 .u8 .own .v (.k 11) (.range 7 15) /- PRBS order -/
  , row 0x2700 16 2 0x0A 0x0A .u8 .own .v (.k 1) (.range 1 255) /- PRBS hold -/
  , row 0x2700 16 2 0x0B 0x0B .u16 .own .v (.k 4) (.range 2 1000) /- PRBS passes -/
  , row 0x2700 16 2 0x0C 0x0C .u8 .own .v (.k 5) (.range 1 255) /- Settle cycles -/
  , row 0x2700 16 2 0x0D 0x0D .u8 .own .v (.k 20) (.range 1 255) /- Measure cycles -/
  , row 0x2700 16 2 0x0E 0x0E .u8 .own .v (.k 2) (.range 1 6) /- Response -/
  , row 0x2700 16 2 0x0F 0x0F .u8 .own .v (.k 0) (.range 0 3) /- Timer -/
  , row 0x2700 16 2 0x10 0x10 .u8 .own .v (.k 0) (.mask 0x7E) /- Capture mask -/
  , row 0x2700 16 2 0x11 0x11 .u8 .cmd .v (.k 0) (.oneOf [1]) /- Start -/
  , row 0x2700 16 2 0x12 0x12 .u8 .cmd .v (.k 0) (.oneOf [1]) /- Stop -/
  , row 0x2700 16 2 0x13 0x13 .u8 .ro .v (.k 0) (.any) /- State -/
  , row 0x2700 16 2 0x14 0x14 .u8 .ro .v (.k 0) (.any) /- Abort cause -/
  , row 0x2702 16 2 0x01 0x40 .u32 .own .v (.k 0) (.orZero 1000 40000000) /- Analysis frequency -/
  , row 0x2703 16 2 0x01 0x40 .i16 .ro .v (.k 32768) (.any) /- Gain -/
  , row 0x2704 16 2 0x01 0x40 .i16 .ro .v (.k 32768) (.any) /- Phase -/
  , row 0x2720 1 1 0x01 0x04 .u8 .ro .v (.k 255) (.any) /- Timer owner -/ ]

/-- Entries 0x28xx (Tables 2.6, 2.7, 6.11, 6.12, 6.13). -/
def entries28a : List Row :=
  [ row 0x2800 1 1 0x01 0x01 .u16 .ro .v (.k 0) (.any) /- Ties closed -/
  , row 0x2800 1 1 0x02 0x02 .u16 .ro .v (.k 0) (.any) /- Ties commanded -/
  , row 0x2800 1 1 0x03 0x03 .u16 .ro .v (.k 0) (.any) /- Outlets closed -/
  , row 0x2800 1 1 0x04 0x04 .u16 .ro .v (.k 0) (.any) /- Ties frozen -/
  , row 0x2800 1 1 0x05 0x05 .u8 .ro .v (.k 12) (.any) /- Segment count -/
  , row 0x2800 1 1 0x06 0x06 .u32 .ro .v (.k 0) (.any) /- Interlock refusals -/
  , row 0x2800 1 1 0x07 0x07 .u32 .ro .v (.k 0) (.any) /- Topology faults -/
  , row 0x2801 1 1 0x01 0x0C .u8 .ro .v (.listed [0, 1, 2, 3, 4, 5, 6, 7, 8, 9, 10, 11]) (.any) /- Segment of rail -/
  , row 0x2802 1 1 0x01 0x01 .u16 .rw .p (.k 40) (.range 5 200) /- Tie close time -/
  , row 0x2802 1 1 0x02 0x02 .u16 .rw .p (.k 30) (.range 5 200) /- Tie open time -/
  , row 0x2802 1 1 0x03 0x03 .u16 .rw .p (.k 25) (.range 5 200) /- Brick close time -/
  , row 0x2802 1 1 0x04 0x04 .u16 .rw .p (.k 20) (.range 5 200) /- Brick open time -/
  , row 0x2802 1 1 0x05 0x05 .u16 .rw .p (.k 40) (.range 5 200) /- Outlet close time -/
  , row 0x2802 1 1 0x06 0x06 .u16 .rw .p (.k 30) (.range 5 200) /- Outlet open time -/
  , row 0x2802 1 1 0x07 0x07 .u8 .rw .p (.k 3) (.range 1 20) /- Debounce time -/
  , row 0x2802 1 1 0x08 0x08 .u16 .rw .p (.k 50) (.range 5 50) /- Tie close window -/
  , row 0x2802 1 1 0x09 0x09 .u16 .rw .p (.k 20) (.range 5 20) /- Tie open limit -/
  , row 0x2802 1 1 0x0A 0x0A .u16 .rw .p (.k 100) (.range 50 5000) /- Minimum dwell -/
  , row 0x2803 1 1 0x01 0x0C .u32 .ro .p (.k 0) (.any) /- Tie operations -/
  , row 0x2804 1 1 0x01 0x0C .u32 .ro .p (.k 0) (.any) /- Outlet operations -/
  , row 0x2805 1 1 0x01 0x01 .u16 .rw .p (.k 4095) (.mask 0x0FFF) /- Ties fitted -/
  , row 0x2805 1 1 0x02 0x02 .u16 .rw .p (.k 4095) (.mask 0x0FFF) /- Rails fitted -/
  , row 0x2806 1 1 0x01 0x01 .u16 .cmd .v (.k 0) (.any) /- Contactor test -/
  , row 0x2806 1 1 0x02 0x02 .u8 .cmd .v (.k 0) (.range 0 11) /- Clear frozen tie -/
  , row 0x2806 1 1 0x03 0x03 .u16 .cmd .v (.k 0) (.any) /- Clear contactor travel fault -/
  , row 0x2810 1 1 0x01 0x01 .u8 .rw .p (.k 96) (.range 80 100) /- Planning headroom -/
  , row 0x2810 1 1 0x02 0x02 .u16 .rw .p (.k 970) (.range 900 1000) /- Conversion efficiency -/
  , row 0x2810 1 1 0x03 0x03 .u32 .rw .p (.k 50) (.range 0 1000) /- Auxiliary reserve -/
  , row 0x2810 1 1 0x04 0x04 .u16 .rw .p (.k 5000) (.range 500 60000) /- Release hold -/
  , row 0x2810 1 1 0x05 0x05 .u16 .rw .p (.k 20) (.range 1 100) /- Handover velocity -/
  , row 0x2810 1 1 0x06 0x06 .u16 .rw .p (.k 20) (.range 1 1000) /- Handover acceleration -/
  , row 0x2810 1 1 0x07 0x07 .u16 .rw .p (.k 20) (.range 1 10000) /- Handover jerk -/
  , row 0x2810 1 1 0x08 0x08 .u16 .rw .p (.k 50) (.range 10 1000) /- Handover timeout -/
  , row 0x2810 1 1 0x09 0x09 .u16 .rw .p (.k 10) (.range 1 50) /- Merge tolerance -/
  , row 0x2810 1 1 0x0A 0x0A .u16 .rw .p (.k 20) (.range 5 500) /- Open wait limit -/
  , row 0x2810 1 1 0x0B 0x0B .u16 .rw .p (.k 30) (.range 1 600) /- Restore wait limit -/
  , row 0x2810 1 1 0x0C 0x0C .u16 .rw .p (.k 2000) (.range 100 10000) /- Front-end stale hold -/
  , row 0x2810 1 1 0x0D 0x0D .u8 .own .v (.k 0) (.upto 1) /- Layout hold -/
  , row 0x2811 1 1 0x01 0x01 .u32 .own .v (.k 0) (.range 0 10000) /- Import limit -/
  , row 0x2811 1 1 0x02 0x02 .u32 .own .v (.k 0) (.range 0 10000) /- Export limit -/ ]

/-- Entries 0x28xx (Tables 2.6, 2.7, 6.11, 6.12, 6.13). -/
def entries28b : List Row :=
  [ row 0x2811 1 1 0x03 0x03 .u16 .own .v (.k 60) (.range 1 3600) /- Limit lifetime -/
  , row 0x2811 1 1 0x04 0x04 .u32 .rw .p (.k 500) (.range 0 10000) /- Fallback import -/
  , row 0x2811 1 1 0x05 0x05 .u32 .rw .p (.k 0) (.range 0 10000) /- Fallback export -/
  , row 0x2811 1 1 0x06 0x06 .u8 .ro .v (.k 1) (.any) /- Limits in force -/
  , row 0x2811 1 1 0x07 0x07 .u32 .ro .v (.k 500) (.any) /- Import in force -/
  , row 0x2811 1 1 0x08 0x08 .u32 .ro .v (.k 0) (.any) /- Export in force -/
  , row 0x2812 1 1 0x01 0x0C .u8 .own .v (.k 4) (.range 0 7) /- Priority -/
  , row 0x2813 1 1 0x01 0x0C .u16 .rw .p (.k 200) (.range 0 5000) /- Minimum grant -/
  , row 0x2814 1 1 0x01 0x0C .i16 .ro .v (.k 0) (.any) /- Grant in force -/
  , row 0x2815 1 1 0x01 0x0C .i16 .ro .v (.k 0) (.any) /- Demand -/
  , row 0x2816 1 1 0x01 0x0C .u8 .ro .v (.k 0) (.any) /- Limit cause -/
  , row 0x2817 1 1 0x01 0x01 .u32 .ro .v (.k 0) (.any) /- Plan number -/
  , row 0x2817 1 1 0x02 0x02 .time64 .ro .v (.k 0) (.any) /- Plan time -/
  , row 0x2817 1 1 0x03 0x03 .u16 .ro .v (.k 0) (.any) /- Planned ties -/
  , row 0x2817 1 1 0x04 0x04 .u8 .ro .v (.k 0) (.any) /- Moves in plan -/
  , row 0x2817 1 1 0x05 0x05 .u8 .ro .v (.k 0) (.any) /- Moves ended -/
  , row 0x2817 1 1 0x06 0x06 .u32 .ro .v (.k 0) (.any) /- Import budget -/
  , row 0x2817 1 1 0x07 0x07 .u32 .ro .v (.k 0) (.any) /- Export budget -/
  , row 0x2817 1 1 0x08 0x08 .u32 .ro .v (.k 0) (.any) /- Move failures -/
  , row 0x2817 1 1 0x09 0x09 .u32 .ro .v (.k 0) (.any) /- Move reversals -/
  , row 0x2817 1 1 0x0A 0x0A .u32 .ro .v (.k 0) (.any) /- Planning overruns -/
  , row 0x2817 1 1 0x0B 0x0B .u8 .cmd .v (.k 0) (.oneOf [1]) /- Replan -/
  , row 0x2820 1 1 0x01 0x10 .u64 .ro .v (.k 0) (.any) /- Move record -/ ]

/-- Entries 0x28xx together. -/
def entries28 : List Row := entries28a ++ entries28b

end Sys2Proof.Machine
end

