-- ==== Sys2Proof/Machine/EntriesSite.lean ====
section
/-! DEFINITION. The dictionary entries of the site side and pairing as the entry tables of the manual give them. -/
namespace Sys2Proof.Machine

/-- Entries 0x10xx (Tables 1.9, 17.2). -/
def entries10 : List Row :=
  [ row 0x1000 1 1 0x01 0x01 .str .ro .f (.bytes [67, 97, 101, 114, 109, 111, 114]) (.any) /- Vendor -/
  , row 0x1000 1 1 0x02 0x02 .str .ro .f (.bytes [84, 104, 105, 110, 97, 108, 32, 84, 72, 45, 57, 54]) (.any) /- Product -/
  , row 0x1000 1 1 0x03 0x03 .str .ro .f (.open) (.any) /- Ordering code -/
  , row 0x1000 1 1 0x04 0x04 .u8 .ro .f (.open) (.any) /- Metering type -/
  , row 0x1000 1 1 0x05 0x05 .u64 .ro .f (.open) (.any) /- Serial number -/
  , row 0x1000 1 1 0x06 0x06 .u16 .ro .f (.open) (.any) /- Hardware issue -/
  , row 0x1000 1 1 0x07 0x07 .u16 .ro .f (.open) (.any) /- Manufacture date -/
  , row 0x1000 1 1 0x08 0x08 .u16 .ro .v (.open) (.any) /- Dictionary version -/
  , row 0x1000 1 1 0x09 0x09 .u16 .ro .v (.open) (.any) /- Entry count -/
  , row 0x1000 1 1 0x0A 0x0A .str .rw .p (.bytes []) (.len 0 32) /- Module name -/
  , row 0x1000 1 1 0x0B 0x0B .str .rw .p (.bytes []) (.len 0 64) /- Location -/
  , row 0x1001 1 1 0x01 0x08 .u8 .ro .v (.k 0) (.any) /- Last reset cause -/
  , row 0x1001 1 1 0x09 0x09 .u32 .ro .p (.k 0) (.any) /- Start count -/
  , row 0x1001 1 1 0x0A 0x0A .u32 .ro .p (.k 0) (.any) /- Operating time -/
  , row 0x1003 1 1 0x01 0x01 .oct .ro .v (.open) (.any) /- Directory -/
  , row 0x1040 1 1 0x01 0x01 .time64 .ro .v (.k 0) (.any) /- Site time base -/
  , row 0x1040 1 1 0x02 0x02 .u8 .ro .v (.k 0) (.any) /- Reference in use -/
  , row 0x1040 1 1 0x03 0x03 .u8 .rw .p (.k 1) (.upto 1) /- Reference preference -/
  , row 0x1040 1 1 0x04 0x04 .i32 .ro .v (.k 0) (.any) /- REF_IN error -/
  , row 0x1040 1 1 0x05 0x05 .u32 .ro .v (.k 0) (.any) /- Reference switches -/
  , row 0x1040 1 1 0x06 0x06 .i64 .ro .v (.k 0) (.any) /- Pair time step -/
  , row 0x1041 1 1 0x01 0x08 .i16 .ro .v (.k 0) (.any) /- Island time offset -/
  , row 0x1041 1 1 0x09 0x09 .u8 .ro .v (.k 0) (.any) /- Holdover mask -/
  , row 0x1042 1 1 0x01 0x01 .u32 .ro .v (.k 0) (.any) /- Messages sent HF -/
  , row 0x1042 1 1 0x02 0x02 .u32 .ro .v (.k 0) (.any) /- Messages sent FH -/
  , row 0x1042 1 1 0x03 0x03 .u32 .ro .v (.k 0) (.any) /- Rejects HF -/
  , row 0x1042 1 1 0x04 0x04 .u32 .ro .v (.k 0) (.any) /- Rejects FH -/
  , row 0x1042 1 1 0x05 0x05 .u32 .ro .v (.k 0) (.any) /- Sequence gaps -/
  , row 0x1042 1 1 0x06 0x06 .u32 .ro .v (.k 0) (.any) /- Undeliverable -/
  , row 0x1042 1 1 0x07 0x07 .u8 .ro .v (.k 0) (.any) /- Barrier state -/
  , row 0x1042 1 1 0x08 0x08 .u32 .ro .v (.k 0) (.any) /- Barrier losses -/
  , row 0x1042 1 1 0x09 0x09 .u16 .ro .v (.k 0) (.any) /- Lane round trip -/
  , row 0x1042 1 1 0x0A 0x0A .u32 .ro .v (.k 0) (.any) /- Committed bulk rate -/
  , row 0x1043 1 1 0x01 0x08 .u8 .ro .v (.k 0) (.any) /- Island state -/ ]

/-- Entries 0x11xx (Table 12.14). -/
def entries11 : List Row :=
  [ row 0x1100 1 1 0x01 0x01 .u16 .rw .p (.k 5000) (.range 1000 60000) /- Session timeout -/
  , row 0x1100 1 1 0x02 0x02 .u8 .ro .v (.k 0) (.any) /- Sessions open -/
  , row 0x1101 1 1 0x01 0x06 .u8 .ro .v (.k 0) (.any) /- Session transport -/
  , row 0x1102 1 1 0x01 0x06 .oct .ro .v (.bytes []) (.any) /- Session identity -/
  , row 0x1103 1 1 0x01 0x3B .u8 .ro .v (.k 0) (.any) /- Group owner -/
  , row 0x1104 1 1 0x01 0x01 .u32 .ro .v (.k 0) (.any) /- Server busy refusals -/
  , row 0x1104 1 1 0x02 0x02 .u32 .ro .v (.k 0) (.any) /- Repeats answered -/
  , row 0x1104 1 1 0x03 0x03 .u32 .ro .v (.k 0) (.any) /- Forced releases -/
  , row 0x1106 1 1 0x01 0x01 .u8 .ro .v (.k 0) (.any) /- Subscriptions -/
  , row 0x1106 1 1 0x02 0x02 .u32 .ro .v (.k 0) (.any) /- Publications skipped -/ ]

/-- Entries 0x12xx (Table 12.15). -/
def entries12 : List Row :=
  [ row 0x1200 1 1 0x01 0x01 .u8 .rw .p (.k 0) (.range 0 32) /- Stored node ID -/
  , row 0x1200 1 1 0x02 0x02 .u8 .ro .v (.k 0) (.any) /- Node ID in force -/
  , row 0x1200 1 1 0x03 0x03 .u8 .ro .v (.k 0) (.any) /- Address state -/
  , row 0x1200 1 1 0x04 0x04 .u8 .cmd .v (.k 0) (.oneOf [1]) /- Re-claim -/
  , row 0x1201 1 2 0x01 0x01 .bool .rw .p (.k 1) (.any) /- Enabled -/
  , row 0x1201 1 2 0x02 0x02 .u16 .rw .p (.k 500) (.oneOf [125, 250, 500, 1000]) /- Nominal rate -/
  , row 0x1201 1 2 0x03 0x03 .u16 .rw .p (.k 2000) (.oneOf [1000, 2000, 4000, 5000, 8000]) /- Data rate -/
  , row 0x1201 1 2 0x04 0x04 .u8 .rw .p (.k 80) (.range 60 90) /- Nominal sample point -/
  , row 0x1201 1 2 0x05 0x05 .u8 .rw .p (.k 75) (.range 60 90) /- Data sample point -/
  , row 0x1201 1 2 0x06 0x06 .bool .rw .p (.k 0) (.any) /- Termination -/
  , row 0x1201 1 2 0x07 0x07 .u8 .ro .v (.k 3) (.any) /- Bus state -/
  , row 0x1201 1 2 0x08 0x08 .u8 .ro .v (.k 0) (.any) /- Transmit error count -/
  , row 0x1201 1 2 0x09 0x09 .u8 .ro .v (.k 0) (.any) /- Receive error count -/
  , row 0x1201 1 2 0x0A 0x0A .u32 .ro .v (.k 0) (.any) /- Bus-off episodes -/
  , row 0x1201 1 2 0x0B 0x0B .u8 .rw .p (.k 4) (.range 1 32) /- Admission limit -/
  , row 0x1201 1 2 0x0C 0x0C .u8 .ro .v (.k 0) (.any) /- FIFO peak -/
  , row 0x1201 1 2 0x0D 0x0D .u32 .ro .v (.k 0) (.any) /- Staging refusals -/
  , row 0x1201 1 2 0x0E 0x0E .u32 .ro .v (.k 0) (.any) /- RXQ0 overflows -/
  , row 0x1201 1 2 0x0F 0x0F .u32 .ro .v (.k 0) (.any) /- RXQ1 overflows -/
  , row 0x1201 1 2 0x10 0x10 .u32 .ro .v (.k 0) (.any) /- Unmatched or malformed -/
  , row 0x1201 1 2 0x11 0x11 .u8 .ro .v (.k 0) (.any) /- Committed bus share -/
  , row 0x1203 1 2 0x01 0x20 .u32 .rw .p (.listed [0x80000780, 0x80800780, 0x81000780, 0xC5800780, 0xC7000700]) (.mask 0xC7FF07FF) /- Filter -/
  , row 0x1210 1 1 0x01 0x10 .u8 .rw .p (.k 0) (.orZero 33 127) /- CAN host list -/
  , row 0x1211 1 1 0x01 0x08 .u8 .rw .p (.k 0) (.orZero 33 127) /- Front-end list -/
  , row 0x1212 1 1 0x01 0x08 .u32 .ro .v (.k 0) (.any) /- Front-end import capacity -/
  , row 0x1213 1 1 0x01 0x08 .u32 .ro .v (.k 0) (.any) /- Front-end export capacity -/ ]

/-- Entries 0x13xx (Tables 13.12, 13.13). -/
def entries13 : List Row :=
  [ row 0x1300 1 1 0x01 0x01 .bool .rw .p (.k 1) (.any) /- Enabled -/
  , row 0x1300 1 1 0x02 0x02 .u8 .ro .v (.k 0) (.any) /- Line state -/
  , row 0x1300 1 1 0x03 0x03 .u32 .ro .v (.k 0) (.any) /- Cycle number -/
  , row 0x1300 1 1 0x04 0x04 .u8 .ro .v (.k 0) (.any) /- Layout version -/
  , row 0x1300 1 1 0x05 0x05 .u16 .ro .v (.k 0) (.any) /- Admitted mask -/
  , row 0x1300 1 1 0x06 0x06 .u16 .ro .v (.k 0) (.any) /- Robust mask -/
  , row 0x1300 1 1 0x07 0x07 .u16 .ro .v (.k 257) (.any) /- Rotation periods -/
  , row 0x1300 1 1 0x08 0x08 .u8 .rw .p (.k 0) (.range 0 30) /- Transmit attenuation -/
  , row 0x1300 1 1 0x09 0x09 .u8 .rw .p (.k 3) (.range 0 10) /- SNR margin -/
  , row 0x1300 1 1 0x0A 0x0A .u16 .rw .p (.k 200) (.range 50 5000) /- Step-up count -/
  , row 0x1300 1 1 0x0B 0x0B .u16 .ro .v (.k 0) (.any) /- Mains frequency -/
  , row 0x1300 1 1 0x0C 0x0C .u8 .cmd .v (.k 0) (.range 0 15) /- Remove node -/
  , row 0x1300 1 1 0x0D 0x0D .u32 .ro .v (.k 0) (.any) /- Malformed messages -/
  , row 0x1300 1 1 0x0E 0x0E .u32 .ro .v (.k 0) (.any) /- Messages timed out -/
  , row 0x1302 1 1 0x01 0x03 .oct .ro .f (.open) (.any) /- Code base matrix -/
  , row 0x1310 1 16 0x01 0x01 .u64 .rw .p (.k 0) (.any) /- Expected serial -/
  , row 0x1310 1 16 0x02 0x02 .u8 .rw .p (.k 0) (.upto 6) /- Expected phase -/
  , row 0x1310 1 16 0x03 0x03 .u8 .ro .v (.k 0) (.any) /- Node state -/
  , row 0x1310 1 16 0x04 0x04 .u64 .ro .v (.k 0) (.any) /- Serial -/
  , row 0x1310 1 16 0x05 0x05 .u16 .ro .v (.k 0) (.any) /- Node type -/
  , row 0x1310 1 16 0x06 0x06 .u8 .ro .v (.k 0) (.any) /- Measured phase -/
  , row 0x1310 1 16 0x07 0x07 .u16 .ro .v (.k 0) (.any) /- Phase angle -/
  , row 0x1310 1 16 0x08 0x08 .i16 .ro .v (.k 0) (.any) /- Uplink margin -/
  , row 0x1310 1 16 0x09 0x09 .i16 .ro .v (.k 0) (.any) /- Downlink margin -/
  , row 0x1310 1 16 0x0A 0x0A .u32 .ro .v (.k 0) (.any) /- Blocks good -/
  , row 0x1310 1 16 0x0B 0x0B .u32 .ro .v (.k 0) (.any) /- Blocks failed -/
  , row 0x1310 1 16 0x0C 0x0C .u32 .ro .v (.k 0) (.any) /- Robust episodes -/
  , row 0x1310 1 16 0x0D 0x0D .u16 .ro .v (.k 200) (.any) /- Step-up count in force -/ ]

/-- Entries 0x14xx (Table 12.16). -/
def entries14 : List Row :=
  [ row 0x1400 1 2 0x01 0x01 .u8 .ro .v (.k 0) (.any) /- Link -/
  , row 0x1400 1 2 0x02 0x02 .u8 .rw .p (.k 0) (.upto 1) /- Address mode -/
  , row 0x1400 1 2 0x03 0x03 .u32 .rw .p (.k 0) (.any) /- IPv4 address -/
  , row 0x1400 1 2 0x04 0x04 .u8 .rw .p (.k 24) (.range 8 30) /- Prefix length -/
  , row 0x1400 1 2 0x05 0x05 .u32 .rw .p (.k 0) (.any) /- Gateway -/
  , row 0x1400 1 2 0x06 0x06 .u16 .rw .p (.k 7096) (.range 1024 65535) /- Dictionary port -/
  , row 0x1410 1 1 0x01 0x01 .u8 .ro .v (.k 0) (.any) /- TLS connections -/
  , row 0x1410 1 1 0x02 0x02 .u32 .ro .v (.k 0) (.any) /- Handshake failures -/
  , row 0x1420 1 1 0x01 0x01 .bool .rw .p (.k 0) (.any) /- PTP enabled -/
  , row 0x1420 1 1 0x02 0x02 .u8 .rw .p (.k 0) (.upto 1) /- PTP port -/
  , row 0x1420 1 1 0x03 0x03 .u8 .rw .p (.k 0) (.range 0 127) /- Domain -/
  , row 0x1420 1 1 0x04 0x04 .u8 .rw .p (.k 0) (.upto 1) /- PTP transport -/
  , row 0x1420 1 1 0x05 0x05 .u8 .ro .v (.k 0) (.any) /- PTP state -/
  , row 0x1420 1 1 0x06 0x06 .i32 .ro .v (.k 0) (.any) /- Offset from master -/
  , row 0x1420 1 1 0x07 0x07 .i32 .ro .v (.k 0) (.any) /- Rate estimate -/
  , row 0x1420 1 1 0x08 0x08 .u64 .ro .v (.k 0) (.any) /- Grandmaster identity -/
  , row 0x1420 1 1 0x09 0x09 .bool .ro .v (.k 0) (.any) /- Synchronised -/
  , row 0x1420 1 1 0x0A 0x0A .u16 .rw .p (.k 1000) (.range 100 60000) /- Sync limit -/
  , row 0x1420 1 1 0x0B 0x0B .u64 .rw .v (.k 0) (.any) /- Wall clock -/ ]

/-- Entries 0x18xx (Tables 14.8, 14.9). -/
def entries18 : List Row :=
  [ row 0x1800 1 1 0x01 0x01 .u64 .ro .v (.k 0) (.any) /- Units moved -/
  , row 0x1800 1 1 0x02 0x02 .u32 .ro .v (.k 0) (.any) /- Bus errors -/
  , row 0x1810 1 16 0x01 0x01 .u32 .rw .v (.k 0) (.any) /- Source -/
  , row 0x1810 1 16 0x02 0x02 .u32 .rw .v (.k 0) (.any) /- Destination -/
  , row 0x1810 1 16 0x03 0x03 .u16 .rw .v (.k 0) (.range 0 65535) /- Count -/
  , row 0x1810 1 16 0x04 0x04 .u32 .rw .v (.k 0) (.any) /- Control -/
  , row 0x1810 1 16 0x05 0x05 .u8 .ro .v (.k 0) (.any) /- State -/
  , row 0x1810 1 16 0x06 0x06 .u16 .ro .v (.k 65535) (.any) /- Current descriptor -/
  , row 0x1810 1 16 0x07 0x07 .u32 .ro .v (.k 0) (.any) /- Descriptors run -/
  , row 0x1810 1 16 0x08 0x08 .u32 .ro .v (.k 0) (.any) /- Bad descriptors -/
  , row 0x1810 1 16 0x09 0x09 .u8 .ro .v (.k 0) (.any) /- First transfer cause -/
  , row 0x1810 1 16 0x0A 0x0A .u8 .ro .v (.k 0) (.any) /- Starter -/
  , row 0x1840 1 4 0x01 0x40 .oct .rw .v (.zeros 16) (.len 16 16) /- Descriptor -/
  , row 0x1880 1 1 0x01 0x01 .u8 .ro .v (.k 0) (.any) /- State -/
  , row 0x1880 1 1 0x02 0x02 .u8 .ro .v (.k 0) (.any) /- Owner -/
  , row 0x1880 1 1 0x03 0x03 .u8 .cmd .v (.k 0) (.oneOf [1]) /- Claim -/
  , row 0x1880 1 1 0x04 0x04 .u8 .cmd .v (.k 0) (.oneOf [1]) /- Release -/
  , row 0x1880 1 1 0x05 0x05 .u32 .ro .v (.k 0) (.any) /- Bytes used -/
  , row 0x1880 1 1 0x06 0x06 .oct .ro .v (.bytes []) (.any) /- Capture data -/ ]

/-- Entries 0x19xx (Tables 14.10, 14.11). -/
def entries19 : List Row :=
  [ row 0x1900 1 1 0x01 0x01 .u8 .cmd .v (.k 0) (.oneOf [1]) /- Trigger -/
  , row 0x1900 1 1 0x02 0x02 .u16 .rw .p (.k 1) (.mask 0x07FF) /- Event triggers -/
  , row 0x1900 1 1 0x03 0x03 .bool .rw .p (.k 0) (.any) /- SNAP_IN enabled -/
  , row 0x1900 1 1 0x04 0x04 .u8 .rw .p (.k 0) (.upto 1) /- SNAP_IN edge -/
  , row 0x1900 1 1 0x05 0x05 .u8 .rw .p (.k 0) (.upto 3) /- SNAP_OUT source -/
  , row 0x1900 1 1 0x06 0x06 .bool .rw .p (.k 1) (.any) /- Partner triggers -/
  , row 0x1900 1 1 0x07 0x07 .u8 .rw .v (.k 0) (.any) /- Lock mask -/
  , row 0x1900 1 1 0x08 0x08 .u8 .ro .v (.k 0) (.any) /- Sets valid -/
  , row 0x1900 1 1 0x09 0x09 .u8 .ro .v (.k 255) (.any) /- Newest set -/
  , row 0x1900 1 1 0x0A 0x0A .u32 .ro .v (.k 0) (.any) /- Triggers merged -/
  , row 0x1900 1 1 0x0B 0x0B .u32 .ro .v (.k 0) (.any) /- Triggers lost -/
  , row 0x1910 1 8 0x01 0x01 .oct .ro .v (.bytes []) (.any) /- Set header -/
  , row 0x1910 1 8 0x02 0x09 .oct .ro .v (.bytes []) (.any) /- Island part -/
  , row 0x1920 1 1 0x01 0x01 .u16 .ro .v (.k 0) (.any) /- Entries held -/
  , row 0x1920 1 1 0x02 0x02 .u32 .ro .v (.k 1) (.any) /- Next sequence -/
  , row 0x1920 1 1 0x03 0x03 .u32 .ro .p (.k 0) (.any) /- Wraps -/
  , row 0x1920 1 1 0x04 0x04 .u32 .rw .v (.k 1) (.any) /- Read index -/
  , row 0x1920 1 1 0x05 0x05 .oct .ro .v (.bytes []) (.any) /- Entry -/
  , row 0x1920 1 1 0x06 0x06 .u32 .ro .v (.k 0) (.any) /- Events lost -/
  , row 0x1920 1 1 0x07 0x07 .u16 .ro .v (.k 0) (.any) /- Unflushed -/
  , row 0x1920 1 1 0x08 0x08 .u32 .ro .v (.k 0) (.any) /- Entries skipped -/
  , row 0x1930 1 1 0x01 0x01 .oct .ro .v (.open) (.any) /- Event catalogue -/ ]

/-- Entries 0x1Axx (Table 15.12). -/
def entries1A : List Row :=
  [ row 0x1A00 1 1 0x01 0x01 .u8 .ro .v (.open) (.any) /- Life-cycle state -/
  , row 0x1A00 1 1 0x02 0x02 .u8 .ro .v (.k 0) (.any) /- Provisioning count -/
  , row 0x1A00 1 1 0x03 0x03 .u32 .wo .v (.k 0) (.any) /- Transition arm -/
  , row 0x1A00 1 1 0x04 0x04 .u8 .cmd .v (.k 0) (.oneOf [3, 4, 5]) /- Transition command -/
  , row 0x1A00 1 1 0x05 0x05 .time64 .ro .v (.k 0) (.any) /- Last transition -/
  , row 0x1A10 1 1 0x01 0x01 .u8 .ro .v (.k 0) (.any) /- Slots loaded -/
  , row 0x1A10 1 1 0x02 0x02 .u32 .ro .v (.k 0) (.any) /- Slot loads -/
  , row 0x1A10 1 1 0x03 0x03 .u32 .ro .v (.k 0) (.any) /- Slot waits failed -/
  , row 0x1A11 1 1 0x01 0x04 .oct .rw .p (.bytes []) (.lenIn [0, 32]) /- Administrator -/
  , row 0x1A20 1 1 0x01 0x08 .oct .rw .p (.bytes []) (.len 0 2048) /- V2G root -/
  , row 0x1A21 1 1 0x01 0x08 .oct .rw .p (.bytes []) (.len 0 2048) /- Mobility-operator root -/
  , row 0x1A22 1 1 0x01 0x08 .oct .rw .p (.bytes []) (.len 0 2048) /- Host root -/
  , row 0x1A23 1 1 0x01 0x04 .oct .rw .p (.bytes []) (.lenIn [0, 65]) /- Maintenance public key -/
  , row 0x1A24 1 1 0x01 0x03 .oct .rw .p (.bytes []) (.len 0 2048) /- ISO 15118-2 chain -/
  , row 0x1A25 1 1 0x01 0x03 .oct .rw .p (.bytes []) (.len 0 2048) /- ISO 15118-20 chain -/
  , row 0x1A26 1 1 0x01 0x03 .oct .rw .p (.bytes []) (.len 0 2048) /- Host server chain -/
  , row 0x1A40 1 64 0x01 0x01 .u8 .rw .p (.k 0) (.range 1 3) /- Algorithm -/
  , row 0x1A40 1 64 0x02 0x02 .u8 .rw .p (.k 0) (.range 1 5) /- Usage -/
  , row 0x1A40 1 64 0x03 0x03 .oct .wo .v (.bytes []) (.lenIn [32, 48]) /- Key value -/
  , row 0x1A40 1 64 0x04 0x04 .u8 .cmd .v (.k 0) (.oneOf [1]) /- Generate -/
  , row 0x1A40 1 64 0x05 0x05 .oct .ro .p (.bytes []) (.any) /- Public key -/
  , row 0x1A40 1 64 0x06 0x06 .u8 .ro .v (.k 0) (.any) /- Key state -/
  , row 0x1A40 1 64 0x07 0x07 .u8 .cmd .v (.k 0) (.oneOf [1]) /- Delete -/ ]

/-- Entries 0x1Bxx (Table 15.13). -/
def entries1B : List Row :=
  [ row 0x1B10 1 5 0x01 0x01 .oct .wo .v (.bytes []) (.any) /- Image data -/
  , row 0x1B10 1 5 0x02 0x02 .u16 .ro .v (.open) (.any) /- Running version -/
  , row 0x1B10 1 5 0x03 0x03 .u8 .ro .v (.k 0) (.any) /- Running state -/
  , row 0x1B10 1 5 0x04 0x04 .u16 .ro .v (.k 0) (.any) /- Previous version -/
  , row 0x1B10 1 5 0x05 0x05 .u16 .ro .v (.k 0) (.any) /- Staged version -/
  , row 0x1B10 1 5 0x06 0x06 .u8 .ro .v (.k 0) (.any) /- Staged state -/
  , row 0x1B10 1 5 0x07 0x07 .u8 .ro .v (.k 0) (.any) /- Reject cause -/
  , row 0x1B10 1 5 0x08 0x08 .u8 .ro .v (.open) (.any) /- Rollback counter -/
  , row 0x1B10 1 5 0x09 0x09 .u16 .ro .v (.k 0) (.any) /- Confirm time remaining -/
  , row 0x1B10 1 5 0x0A 0x0A .u8 .cmd .v (.k 0) (.oneOf [1]) /- Discard staged -/
  , row 0x1B10 1 5 0x0B 0x0B .u8 .cmd .v (.k 0) (.oneOf [1]) /- Fall back -/
  , row 0x1B20 1 1 0x01 0x01 .u8 .cmd .v (.k 0) (.any) /- Activate -/
  , row 0x1B20 1 1 0x02 0x02 .u8 .ro .v (.k 0) (.any) /- Activation state -/
  , row 0x1B20 1 1 0x03 0x03 .u32 .ro .v (.k 0) (.any) /- Last pause -/
  , row 0x1B40 1 1 0x01 0x01 .u8 .cmd .v (.k 0) (.oneOf [1]) /- Commit -/
  , row 0x1B40 1 1 0x02 0x02 .u8 .ro .v (.k 0) (.any) /- Unsaved -/
  , row 0x1B40 1 1 0x03 0x03 .u16 .rw .p (.k 10) (.orZero 1 600) /- Auto-commit delay -/
  , row 0x1B40 1 1 0x04 0x04 .u8 .cmd .v (.k 0) (.oneOf [1]) /- Restore defaults -/
  , row 0x1B40 1 1 0x05 0x05 .u32 .ro .p (.k 0) (.any) /- Commits -/
  , row 0x1B41 1 1 0x01 0x01 .u8 .ro .v (.k 2) (.any) /- Field leaf in force -/
  , row 0x1B41 1 1 0x02 0x03 .u32 .ro .v (.k 4294967295) (.any) /- Field leaf sequence -/
  , row 0x1B41 1 1 0x04 0x04 .u32 .ro .v (.k 0) (.any) /- Field leaf CRC -/
  , row 0x1B41 1 1 0x05 0x05 .u32 .ro .v (.k 0) (.any) /- Field leaf length -/
  , row 0x1B41 1 1 0x06 0x06 .u32 .ro .v (.k 0) (.any) /- Leaf write failures -/
  , row 0x1B41 1 1 0x07 0x07 .u32 .ro .v (.k 0) (.any) /- Pair CRC -/
  , row 0x1B42 1 1 0x01 0x01 .u8 .ro .v (.k 2) (.any) /- Host leaf in force -/
  , row 0x1B42 1 1 0x02 0x03 .u32 .ro .v (.k 4294967295) (.any) /- Host leaf sequence -/
  , row 0x1B42 1 1 0x04 0x04 .u32 .ro .v (.k 0) (.any) /- Host leaf CRC -/
  , row 0x1B42 1 1 0x05 0x05 .u32 .ro .v (.k 0) (.any) /- Host leaf length -/
  , row 0x1B42 1 1 0x06 0x06 .u32 .ro .v (.k 0) (.any) /- Leaf write failures -/ ]

/-- Entries 0x1Cxx (Table 11.10). -/
def entries1C : List Row :=
  [ row 0x1C00 1 1 0x01 0x01 .bool .rw .p (.k 0) (.any) /- Pair mode -/
  , row 0x1C00 1 1 0x02 0x02 .u8 .rw .p (.k 1) (.oneOf [1, 2]) /- Rank -/
  , row 0x1C00 1 1 0x03 0x03 .u8 .ro .v (.k 0) (.any) /- Role -/
  , row 0x1C00 1 1 0x04 0x04 .u32 .ro .v (.k 0) (.any) /- Lease epoch -/
  , row 0x1C00 1 1 0x05 0x05 .bool .ro .v (.k 0) (.any) /- Lease valid -/
  , row 0x1C00 1 1 0x06 0x06 .bool .ro .v (.k 0) (.any) /- In step -/
  , row 0x1C00 1 1 0x07 0x07 .u8 .ro .v (.k 255) (.any) /- Partner role -/
  , row 0x1C00 1 1 0x08 0x08 .u64 .ro .v (.k 0) (.any) /- Partner serial -/
  , row 0x1C00 1 1 0x09 0x09 .u8 .ro .v (.k 0) (.any) /- Peer ports -/
  , row 0x1C00 1 1 0x0A 0x0A .u16 .ro .v (.k 65535) (.any) /- Mirror age -/
  , row 0x1C00 1 1 0x0B 0x0B .u32 .ro .v (.k 0) (.any) /- Take-over mask -/
  , row 0x1C00 1 1 0x0C 0x0C .u8 .cmd .v (.k 0) (.oneOf [1]) /- Swap -/
  , row 0x1C00 1 1 0x0D 0x0D .u32 .ro .v (.k 0) (.any) /- Role changes -/
  , row 0x1C00 1 1 0x0E 0x0E .u32 .ro .p (.k 0) (.any) /- Take-overs -/
  , row 0x1C00 1 1 0x0F 0x0F .u8 .ro .v (.k 0) (.any) /- Last take-over gap -/
  , row 0x1C00 1 1 0x10 0x10 .u32 .ro .v (.k 0) (.any) /- Last lease transfer -/
  , row 0x1C00 1 1 0x11 0x11 .u16 .ro .v (.open) (.any) /- Mirror format -/
  , row 0x1C00 1 1 0x12 0x12 .u32 .ro .v (.k 0) (.any) /- Digest mismatches -/
  , row 0x1C01 1 1 0x01 0x01 .u16 .rw .p (.k 2000) (.range 500 30000) /- Partner wait -/
  , row 0x1C01 1 1 0x03 0x03 .u16 .rw .p (.k 10000) (.range 1000 60000) /- Switch-over target hold -/
  , row 0x1C01 1 1 0x04 0x04 .u16 .rw .p (.k 60) (.range 10 600) /- Resynchronisation timeout -/ ]

/-- Entries 0x1Dxx (Table 16.15). -/
def entries1D : List Row :=
  [ row 0x1D00 1 1 0x01 0x04 .u16 .ro .v (.k 0) (.any) /- Supply voltage -/
  , row 0x1D00 1 1 0x05 0x05 .u8 .rw .p (.k 15) (.mask 0x0F) /- Supplies expected -/
  , row 0x1D00 1 1 0x06 0x06 .u8 .ro .v (.k 0) (.any) /- Redundancy lost -/
  , row 0x1D01 1 1 0x01 0x08 .u16 .ro .v (.k 0) (.any) /- Domain power -/
  , row 0x1D01 1 1 0x09 0x09 .u16 .ro .v (.k 0) (.any) /- Module power -/
  , row 0x1D02 1 1 0x01 0x01 .u8 .ro .v (.k 0) (.any) /- Field holdup state -/
  , row 0x1D02 1 1 0x02 0x02 .u16 .ro .v (.k 0) (.any) /- Field holdup energy -/
  , row 0x1D02 1 1 0x03 0x03 .u8 .ro .v (.k 0) (.any) /- Host holdup state -/
  , row 0x1D02 1 1 0x04 0x04 .u16 .ro .v (.k 0) (.any) /- Host holdup energy -/
  , row 0x1D02 1 1 0x05 0x05 .u16 .rw .p (.k 24) (.range 1 720) /- Holdup test interval -/
  , row 0x1D02 1 1 0x06 0x06 .u32 .ro .p (.k 0) (.any) /- Field warnings -/
  , row 0x1D02 1 1 0x07 0x07 .u32 .ro .p (.k 0) (.any) /- Host warnings -/
  , row 0x1D03 1 1 0x01 0x01 .i16 .ro .v (.k 0) (.any) /- Cold-plate temperature -/
  , row 0x1D03 1 1 0x02 0x02 .i16 .rw .p (.k 550) (.range 400 700) /- Cold-plate warning level -/
  , row 0x1D03 1 1 0x03 0x03 .u32 .ro .p (.k 0) (.any) /- Over-temperature shutdowns -/ ]

end Sys2Proof.Machine
end

