-- ==== Sys2Proof/Machine/Fresh.lean ====
section
/-! DEFINITION. What each part of the module holds right after reset, and after a restart of its island. Where the manual gives
no value, zero, false or empty is the model's choice. -/
namespace Sys2Proof.Machine.Fresh

/-- A contact input that reads low. -/
def contact : Contact := ⟨false, 0, false⟩
/-- A contactor commanded open. -/
def contactor : Contactor := ⟨false, false, none, false, false, false, false, false, none, 0, 0⟩
/-- Block averages begun anew. -/
def avg : Avg := ⟨tab (fun _ => 0), tab (fun _ => 0)⟩
/-- A brick whose link is down. -/
def brick : Brick :=
  { link := .down, goodRun := 0, goodUps := 0, missing := 0, lastGood := 0, fresh := false, authority := 0, orphan := false,
    conflict := false, otherLive := false, epochSeen := 0, vOut := 0, vRail := 0, vDc := 0, iOut := 0, railGood := false, outGood := false,
    cardFault := false, pllLocked := false, holding := false, aux := tab (fun _ => contact), cardTemp := 0, capTemp := 0,
    gateSupply := 0, faultWord := 0, delay := tab (fun _ => 0), fibreRefused := false, serviceQ := [], contactor := contactor,
    outFrozen := false, power := avg, voltage := avg, peakI := none, peakVdc := none }
/-- An axis drive whose link is down. -/
def drive : Drive :=
  { link := .down, goodRun := 0, missing := 0, lastGood := 0, fresh := false, authority := 0, orphan := false, conflict := false,
    otherLive := false, epochSeen := 0, position := tab (fun _ => 0), status := tab (fun _ => 0), delay := tab (fun _ => 0),
    fibreRefused := false, serviceQ := [], torque := tab (fun _ => 0) }
/-- A leg that is off (R78). -/
def leg : Leg :=
  { state := .off, shedCause := .none, cause := 0, current := 0, temp := 0, flags := 0, word := 0, share := 0, belowBd := 0,
    implausible := 0, brakeStart := none, awaiting := false, goodSince := none, resetBit := false, resetWait := 0, limit := 0, avgI := avg, avgP := avg,
    avgT := avg, peakI := none, peakT := none }
/-- The card parameters by service address less 8, as Table 3.12 gives their defaults. -/
def cardParams : Vector Nat 13 := tab (fun i => match i with
  | 8 => 1100
  | 9 => 100
  | 10 => 200
  | 11 => 8
  | 12 => 500
  | _ => 0)
/-- A card at power-up: no authority, highest epoch 0 (R67, R70). -/
def card : Card :=
  { authority := none, highest := 0, miss := 0, orphan := false, conflictUntil := none, words := tab (fun _ => 0), next := none,
    braking := false, control := 0, nextControl := 0, brkOpened := false, lastAccepted := 0, count := 0,
    portGood := tab (fun _ => tab (fun _ => false)), gotFrame := tab (fun _ => false), low := 0, iOut := 0,
    params := cardParams, answer := tab (fun _ => 0), boundary := 0, locked := false, current := tab (fun _ => 0),
    zero := tab (fun _ => false), pattern := tab (fun _ => ⟨[], []⟩), nextWrite := none }
/-- A segment's sequencer with nothing remembered. -/
def seg : SegCtl := ⟨none, false, none, none, false, false⟩
/-- The ring, every rail a segment of its own. -/
def ring (restart : Bool) : Ring :=
  { tie := tab (fun _ => contactor), outlet := tab (fun _ => contactor), head := tab id, joined := tab (fun _ => false), group := tab id, faultZero := tab (fun _ => false),
    openZero := tab (fun _ => false), brickZero := tab (fun _ => false), senseDisagree := tab (fun _ => false), seg := tab (fun _ => seg),
    restart := restart, broken := false }
/-- The period boundary, free-running. -/
def sync : Sync := ⟨0, 0, 0, 0, .free, 0, 0, none, 0, false, 0, []⟩
/-- The defaults of Table 4.8 by sub-index less 1. -/
def trackPar : Vector Nat 11 := tab (fun i => [2000, 2000, 100, 600, 100, 100, 2000, 600, 2000, 100, 200].getD i.val 0)
/-- A rail that is FREE and governs itself, with the rate in force that Table 4.5 gives. -/
def rail (j : Fin 12) : Rail :=
  { state := .free, currentMode := false, governing := j, s := 0, t := 0, rate := 100, command := none, modeAsked := none, missing := 0,
    validSince := none, flagged := false, episode := .none, leader := none, epStart := 0, settleUntil := 0, tie := 0, follows := none,
    paused := false, inWindow := false, feedOk := 0, neighbour := [], result := .none, isoCause := .none, stopWaits := false,
    passive := false, drained := 0, stopHeld := false, iRef := 0, atLimit := 0, xv := zeroFixed, xc := zeroFixed, sPrev := 0, vPrev := none, iPrev := 0,
    ceil := none, floor := none, par := trackPar }
/-- A collector cell not yet written. -/
def cell : Cell := ⟨[], [], false, false⟩
/-- A generator at rest (Table 5.11): 0 to 11 serve outlets, 12 to 23 axes, 24 to 27 are free. -/
def gen (g : Fin 28) : Gen :=
  { user := if g.val < 12 then .outlet else if g.val < 24 then .axis else .none, p := 0, v := 0, a := 0, target := 0, plan := [],
    state := .rest, replan := false, due := none, handover := none }
/-- An injection channel that is idle. -/
def inj : Inj :=
  { state := .idle, cause := 0, n := 0, step := 0, inStep := 0, phi := 0, lfsr := 1, value := 0, x := [], y := [], complete := 0,
    session := 0, startTime := 0, frames := 0 }
/-- The loop engine. -/
def engine : Engine :=
  { running := 0, w := 0, legX := tab (fun _ => zeroFixed), legStop := tab (fun _ => false), legReused := tab (fun _ => false),
    axis := tab (fun _ => ⟨zeroFixed, 0, 0, 0, false, 0⟩),
    thermal := tab (fun _ => ⟨zeroFixed, 0, false, none, 0⟩), closed := tab (fun _ => cell), filling := tab (fun _ => cell), faulted := [],
    satAt := tab (fun _ => none), gen := tab gen, timer := tab (fun _ => none), inj := tab (fun _ => inj),
    stopFirst := tab (fun _ => false), stopSecond := tab (fun _ => false),
    stopMask := tab (fun _ => true), torqueOff := tab (fun _ => true), loadDuty := tab (fun _ => 0) }
/-- A plan of nothing. -/
def plan : Plan :=
  { grant := tab (fun _ => 0), demand := tab (fun _ => 0), cause := tab (fun _ => 0), layout := tab (fun _ => none),
    ties := tab (fun _ => false), moves := [], impKw := 0, expKw := 0, budgetLimited := false, legsLimited := false }
/-- The allocator. -/
def alloc : Alloc :=
  { grant := tab (fun _ => 0), plan := plan, planNo := 0, planTime := 0, cause := tab (fun _ => 0), ceiling := tab (fun _ => none),
    par := tab (fun i => [96, 970, 20, 20, 20].getD i.val 0), cycle := none, next := none, written := (0, 0), writtenAt := none, fallback := true,
    front := tab (fun _ => ⟨0, 0, 0, none, false, false⟩), surplusSince := tab (fun _ => none), surplusDue := tab (fun _ => false),
    restoreAfter := tab (fun _ => 0), overrun := false, ended := 0 }
/-- An outlet after a start of the field control island (R181). -/
def outlet : Outlet :=
  { state := .outOfService, cause := 0, faults := 0, since := 0, raised := 0, events := [], updCount := none, updAt := 0, phase := 0, flags := 0,
    phaseWaits := false, targetV := 0, reqI := 0, maxI := 0, maxDis := 0, vehMax := none, vehMin := none, presentV := 0,
    protocol := 0, conn := 0, connSince := 0, headAt := none, headStale := true, pin := none, supplyT := 0, returnT := 0, flow := 0,
    imdEnabled := false, imd := none, insul := 0, step := .wait, stepAt := 0, vcc := 0, shortTicks := 0, fast := none, heldLimit := none, lows := 0,
    dead := 0, stopDue := false, turning := false, cooling := false, runOn := none, flowLow := none, flowOk := none,
    flowFault := false, derated := 0, cableV := none, outI := 0, statusCount := 0, statusAt := 0, shown := .outOfService, swHold := none, grantCap := none,
    startDue := true }
/-- No vehicle session. -/
def vehicle : Vehicle := ⟨false, none, false, 0, 0, 0, [], []⟩
/-- A lane with nothing waiting. -/
def lane : LaneState := ⟨0, none, tab (fun _ => []), none, 0, 0, 0, [], [], 0⟩
/-- A side that has had no heartbeat since its start, which its loss timing counts from. -/
def side (now : Nat) : BarrierSide := ⟨.up, now, none, 0, false⟩
/-- A CAN controller, disabled (Table 12.15). -/
def can : CanCtl := ⟨.disabled, [], [], [], [], [], none⟩
/-- A free session slot. -/
def session : Session := ⟨none, [], 0, none, none, none, none, false, []⟩
/-- The site bus and the dictionary server. -/
def site : HostSite :=
  { can := tab (fun _ => can), addr := ⟨.waiting, 0, 0, 0, 0, false, false⟩, imdCount := tab (fun _ => 0), sessions := tab (fun _ => session),
    stray := none, challenge := none, owners := tab (fun _ => 0), ownersSeen := tab (fun _ => 0),
    fieldSession := tab (fun _ => none), islandSeen := tab (fun _ => .off), unsentNotices := [],
    subs := tab (fun _ => none), tls := tab (fun _ => none), ethLink := tab (fun _ => 0),
    ptp := ⟨0, 0, 0, 0, 0, 0, 0, 0, none, false⟩ }
/-- The DMA engine. -/
def dma : Dma := ⟨tab (fun _ => ⟨.idle, none, false, 0, 0, 0⟩), [], .free, 0, 0, 0⟩
/-- A snapshot set never written. -/
def snapSet : SnapSet :=
  ⟨false, 0, 0, 0, 0, 0, 0, 0, tab (fun _ => false), tab (fun _ => 0), tab (fun _ => false), tab (fun _ => []), tab (fun _ => false), false⟩
/-- The scribe distributor and the sets. -/
def snap : Snaps := ⟨tab (fun _ => snapSet), none, none, 0, none, none, 0⟩
/-- The event log. -/
def log : Log := ⟨tab (fun _ => []), tab (fun _ => 0), [], 1, 0, 0, []⟩
/-- A safety input whose two channels are open (R476). -/
def input : SafetyIn := ⟨tab (fun _ => false), tab (fun _ => 0), tab (fun _ => false), false, 0, none, false, false, none⟩
/-- A core with every instance in DEMAND. -/
def core : Core :=
  { inst := tab (fun _ => .demand), on := tab (fun _ => false), pumped := false, mismatch := tab (fun _ => 0), differ := 0, lastCycle := 0,
    waitSince := tab (fun _ => 0), reset := tab (fun _ => false), dark := tab (fun _ => none), lastDark := tab (fun _ => none) }
/-- A consumer connection that waits. -/
def consumer : Consumer := ⟨.waiting, 0, [], 0, 0, [], true, none, none⟩
/-- A producer connection that waits. -/
def producer : Producer := ⟨.waiting, 0, none, 0, 0, []⟩
/-- The safety island. Its leaf is taken as valid (factory configuration). -/
def safety : Safety :=
  { fb := tab (fun _ => contact), input := tab (fun _ => input), core := tab (fun _ => core), outFault := tab (fun _ => false),
    contFault := tab (fun _ => false), fbTimer := tab (fun _ => none), demandAt := tab (fun _ => none), lows := tab (fun _ => 0),
    follow := tab (fun _ => false), permit := false, role := 0, consumer := tab (fun _ => consumer), producer := tab (fun _ => producer),
    leafValid := true, password := none, held := none, wrong := [], lockedOut := none, trans := none, log := [], logSeq := 0 }
/-- One outlet's meter. -/
def meter : Meter :=
  { link := false, missRun := 0, goodRun := 0, expect := none, mark := none, dt := 3125, head := tab (fun _ => none), asked := 0, down := [], acc := [],
    totD := 0, totR := 0, remD := 0, remR := 0, feedV := none, feedI := none, fed := false, temp := 0, quiet := 0, session := none, copy := none,
    opening := none, closing := none }
/-- The metrology island. -/
def metro : Metro :=
  { meter := tab (fun _ => meter), interval := 0, toSign := [], ring := [], stored := [], saves := tab (fun _ => none), saveSeq := 0,
    window := none, audit := [], pulse := tab (fun _ => ⟨0, 0, none, []⟩), aligned := false, warned := none, finalDone := false, keyNo := some 0 }
/-- A load channel that is off. -/
def chan : LoadChan :=
  { state := .off, heat := 0, cmd := false, duty := 0, rule := 5, await := false, drive := 0, retries := 3, trippedAt := 0, onFrom := none, ran := 0, cause := 0,
    clamps := 0, clampLast := false, openLoad := false, openSince := none, senseBad := 0, senseFlag := false, current := 0,
    junction := 0, reading := none, partnerI := 0, partnerAt := 0, partnerOn := false, partnerDuty := 0 }
/-- The switch island. -/
def load : Load :=
  ⟨tab (fun _ => chan), 0, false, false, tab (fun _ => false), none, false, false, none, false, 0, tab (fun _ => 0xFF), tab (fun _ => 0)⟩
/-- Engine inputs latched for the next image. -/
def late : Late := ⟨tab (fun _ => false), tab (fun _ => false), tab (fun _ => (none, 0))⟩
/-- The peer island. -/
def pair : Pair :=
  { port := tab (fun _ => ⟨0, 0, false⟩), silentSince := none, rxSeq := none, txSeq := 0, sent := tab (fun _ => []), renewals := 0,
    lastRenewal := 0, expiry := 0, lastValid := 0, takenAt := 0, startedAt := 0, supportLost := false, bid := none, granted := none,
    partner := none, mismatchTold := false, swap := none, yielded := none, lastMirror := none, mirrorCount := 0, mirrorInStep := false, equalRun := 0,
    differRun := 0, crcDiffers := none, resyncAt := none, rotations := 0, configPulled := false, phaseAdopted := false,
    timeOffset := 0, takeEpoch := none, takeMask := tab (fun _ => false), late := late, seen := 0, bulkOut := [] }
/-- A node that the master does not know. -/
def node : EaveNode :=
  { maps := tab (fun _ => ⟨false, []⟩), echoed := none, ctrlDue := false, dataDue := 0, ctrlGood := false, dataSeen := [], ridgeDue := 0, ridgeSeen := [], flight := [],
    heard := [], lastUp := 0, lastDown := 0, downCtrlBad := false, downBad := 0, missRun := 0, goodRun := 0, steppedUp := none,
    steppedDown := none, stepWaits := false, factor := 1, queueUnits := 0, out := [], resend := [], nextSeq := tab (fun _ => 0), blocks := 0,
    inbox := [], deliverSeq := tab (fun _ => none), sentDown := [], phase := 0, phaseRun := 0, refusedAt := none }
/-- A node that holds itself unadmitted. -/
def nodeSide : NodeSide := ⟨false, 0, 0, 0, false, false, 0, 0⟩
/-- The line island. -/
def eave : Eave :=
  { master := false, cycle := 0, cycleAt := 0, admitted := 0, robust := 0, layout := ⟨0, 0, tab (fun _ => 0), tab (fun _ => 0)⟩, pending := none, layoutAt := 0,
    offer := none, offerNext := 0, admitting := none, admitStep := 0, admitDown := [], remove := 0, relayout := false, header := [],
    cells := tab (fun _ => []), attenuation := 0, margin := 3, node := tab (fun _ => node),
    side := tab (fun _ => nodeSide), ridge := tab (fun _ => []), frames := tab (fun _ => []), strayFrames := 0, crossings := [], shared := none }
/-- A configuration leaf never written. -/
def leaf : Leaf := ⟨false, false, [], 0xFFFFFFFF⟩
/-- A configuration store with no valid leaf. -/
def store : Store := ⟨tab (fun _ => leaf), none, none, none, none, false⟩
/-- Keys, images, stores and supplies: life-cycle state PROVISIONED, as the module leaves the factory (R3). -/
def sys : Module :=
  { keys := ⟨2, 2, none, tab (fun _ => none), [], tab (fun _ => none), [], 0, 0⟩,
    img := tab (fun t => ⟨Config.firstImage t, none, none, [], 0, 0, false, none, 0⟩),
    store := tab (fun _ => store), act := none, power := ⟨none, none, 0, none, none, none, false⟩ }
/-- The time base at 0, on the TCXO. -/
def time : Timebase :=
  { now := 0, base := 0, since := 0, onRefIn := false, refError := none, goodSince := none, rate := 0, rateAt := 0, pairStep := 0, steeringHeld := false, trim := 0,
    offset := tab (fun _ => 0), error := tab (fun _ => 0), marked := tab (fun _ => 0), increment := tab (fun _ => 0),
    holdover := tab (fun _ => false), holdoverFrom := tab (fun _ => 0), flagged := tab (fun _ => false), ticked := tab (fun _ => 0) }

end Sys2Proof.Machine.Fresh
end

