-- ==== Sys2Proof/Machine/State.lean ====
section
/-! DEFINITION. The state of the block and its state after reset. -/
namespace Sys2Proof.Machine

/-- Everything of the module but the queue of waiting commands. -/
structure Dev where
  time : Timebase
  /-- The dictionary register file: entries that differ from their default, by key, ascending. -/
  regs : List (Nat × DVal)
  isl : Vector IslandState 8
  chan : Vector Chan 14
  barrier : Barrier
  site : HostSite
  dma : Dma
  snap : Snaps
  log : Log
  ring : Ring
  brick : Vector Brick 24
  drive : Vector Drive 4
  leg : Vector Leg 96
  card : Vector Card 28
  /-- The downlink frame last sent on each spline port. -/
  sent : Vector (Option Downlink) 28
  sync : Sync
  rail : Vector Rail 12
  ratio : Vector (Option Ratio) 12
  eng : Engine
  alloc : Alloc
  out : Vector Outlet 12
  vehicle : Vector Vehicle 12
  safety : Safety
  metro : Metro
  load : Load
  pair : Pair
  eave : Eave
  sys : Module
  /-- How many open values have been used. This field is the model's own. -/
  freeCount : Nat
  deriving DecidableEq, Repr

/-- The block: the module and the commands that wait, first in first out. -/
structure State where
  dev : Dev
  pending : List Instr
  deriving DecidableEq, Repr

/-- Why a step could stop. -/
inductive Fault
  /-- Raised by no meaning: no behaviour the manual describes ends the block's work. -/
  | none
  deriving DecidableEq, Repr

/-- Why a command is refused by the model. -/
inductive Refusal
  /-- The command has no meaning in the model yet (safe). -/
  | notModelled (mnemonic : String)
  deriving DecidableEq, Repr

/-- The module right after reset: no domain is supplied yet, the time base stands at 0, every entry holds its default, and no
command waits. -/
def Dev.reset : Dev :=
  { time := Fresh.time, regs := [], isl := tab (fun _ => .off), chan := tab (fun _ => ⟨0, true⟩),
    barrier := ⟨Fresh.lane, Fresh.lane, Fresh.side 0, Fresh.side 0⟩, site := Fresh.site, dma := Fresh.dma, snap := Fresh.snap, log := Fresh.log,
    ring := Fresh.ring true, brick := tab (fun _ => Fresh.brick), drive := tab (fun _ => Fresh.drive), leg := tab (fun _ => Fresh.leg),
    card := tab (fun _ => Fresh.card), sent := tab (fun _ => none), sync := Fresh.sync, rail := tab Fresh.rail, ratio := tab (fun _ => none),
    eng := Fresh.engine, alloc := Fresh.alloc, out := tab (fun _ => Fresh.outlet), vehicle := tab (fun _ => Fresh.vehicle),
    safety := Fresh.safety, metro := Fresh.metro, load := Fresh.load, pair := Fresh.pair, eave := Fresh.eave, sys := Fresh.sys, freeCount := 0 }

/-- The block right after reset. -/
def State.reset : State := ⟨Dev.reset, []⟩

end Sys2Proof.Machine
end

