-- ==== Sys2Proof/Machine/Ops.lean ====
section
/-! DEFINITION. The named operations that every family uses: time, bits, the dictionary register file, free values. -/
namespace Sys2Proof.Machine

/-- Steps of the site time base in `n` microseconds (R14: one step is 10 ns). -/
def us (n : Nat) : Nat := 100 * n
/-- Steps in `n` milliseconds. -/
def ms (n : Nat) : Nat := 100000 * n
/-- Steps in `n` seconds. -/
def sec (n : Nat) : Nat := 100000000 * n
/-- One control period, 10 µs (R117). -/
def period : Nat := 1000

/-- Bit `i` of a number. -/
def bit (n i : Nat) : Bool := n.testBit i
/-- The field of `w` bits of `n` from bit `lo` up. -/
def field (n lo w : Nat) : Nat := n / 2 ^ lo % 2 ^ w
/-- The mask of the positions that hold. -/
def maskOf {n : Nat} (f : Fin n → Bool) : Nat := (all n).foldl (fun a i => if f i then a + 2 ^ i.val else a) 0
/-- 1 for true. -/
def flag (b : Bool) : Int := if b then 1 else 0
/-- A value held between two bounds. -/
def clamp (lo hi x : Int) : Int := max lo (min hi x)
/-- A quotient rounded to the nearest, halves away from zero. -/
def divRound (a : Int) (b : Nat) : Int :=
  if 0 ≤ a then (2 * a + b) / (2 * b) else -((2 * (-a) + b) / (2 * b))
/-- The quotient rounded up. -/
def ceilDiv (a b : Nat) : Nat := (a + b - 1) / b

/-- The device at a later instant; the time base never goes back (R14). -/
def reach (t : Nat) (d : Dev) : Dev := { d with time := { d.time with now := max d.time.now t } }
/-- The site time base: the master count (R14). -/
def siteTime (d : Dev) : Nat := ((d.time.now : Int) + d.time.base).toNat
/-- The instant at which the site time base reads a count. -/
def atSite (t : Int) (d : Dev) : Nat := (t - d.time.base).toNat
/-- The device when the site time base has reached a count. -/
def reachSite (t : Nat) (d : Dev) : Dev := reach (atSite t d) d
/-- The next instant at which the site time base is a multiple of `p`. -/
def nextMultiple (p : Nat) (d : Dev) : Nat := d.time.now + (p - siteTime d % p)
/-- The next multiple of `p` at which something happens that last happened at `last`: the present instant where it is one and the thing has
not happened at it. -/
def dueAt (last p : Nat) (d : Dev) : Nat := if siteTime d % p = 0 ∧ last < d.time.now then d.time.now else nextMultiple p d
/-- The time of the coming boundary (R73). -/
def nextBoundary (d : Dev) : Nat := ((d.sync.boundary : Int) + period + d.sync.trim).toNat
/-- The device at the next instant at which one of the things of `ticked` happens. -/
def tick (i : Fin 9) (p : Nat) (d : Dev) : Dev :=
  let t := dueAt d.time.ticked[i] p d
  { d with time := { d.time with now := max d.time.now t, ticked := upd d.time.ticked i (fun _ => t) } }

/-- Whether an island is running. -/
def up (i : Fin 8) (d : Dev) : Bool := d.isl[i] == .running
/-- How far an island's copy stands off the master, in steps: what its last correction left, and in holdover what the copy has run
off since, at most 1 ns for every 10 µs (R16, Table 1.4). The rate within that bound is a free value. -/
def copyError (i : Fin 8) (d : Dev) : Int :=
  let t := d.time
  t.error[i] + (if t.holdover[i] then clamp (-100) 100 (Config.holdoverRate i t.holdoverFrom[i]) * ((t.now - t.holdoverFrom[i] : Nat) : Int) / 1000000 else 0)
/-- An island's own time stamp: the master count as its copy has it (R16). -/
def islandTime (i : Fin 8) (d : Dev) : Nat := ((d.time.now : Int) + d.time.base + copyError i d).toNat

/-- A value that the manual leaves open: the next one of the free values. -/
def freeNat (d : Dev) : Nat × Dev := (Config.freeNat d.freeCount, { d with freeCount := d.freeCount + 1 })
/-- A signed open value. -/
def freeInt (d : Dev) : Int × Dev := (Config.freeInt d.freeCount, { d with freeCount := d.freeCount + 1 })

/-- The key of an entry in the register file. -/
def key (idx sub : Nat) : Nat := idx * 256 + sub

/-- Whether a row of an entry table holds an entry of this index. -/
def rowHasIndex (r : Row) (idx : Nat) : Bool :=
  r.base ≤ idx && (idx - r.base) % r.stride == 0 && (idx - r.base) / r.stride < r.count
/-- Whether a row of an entry table holds this entry. -/
def rowHas (r : Row) (idx sub : Nat) : Bool := rowHasIndex r idx && r.subLo ≤ sub && sub ≤ r.subHi

/-- The entry tables by the high byte of the index (Table 17.1). -/
def rowsOf (hi : Nat) : List Row :=
  match hi with
  | 0x10 => entries10 | 0x11 => entries11 | 0x12 => entries12 | 0x13 => entries13 | 0x14 => entries14
  | 0x18 => entries18 | 0x19 => entries19 | 0x1A => entries1A | 0x1B => entries1B | 0x1C => entries1C
  | 0x1D => entries1D | 0x20 => entries20 | 0x21 => entries21 | 0x22 => entries22 | 0x23 => entries23
  | 0x24 => entries24 | 0x26 => entries26 | 0x27 => entries27 | 0x28 => entries28 | 0x30 => entries30
  | 0x31 => entries31 | 0x32 => entries32 | 0x38 => entries38 | 0x40 => entries40 | 0x44 => entries44
  | _ => []

/-- The row of an entry, where the entry exists. -/
def rowOf (idx sub : Nat) : Option Row := (rowsOf (idx / 256)).find? (fun r => rowHas r idx sub)

/-- An entry's default (R5). -/
def defaultAt (r : Row) (idx sub : Nat) : DVal :=
  let obj := (idx - r.base) / r.stride
  match r.dflt with
  | .k v => .num v
  | .bfp m e => .bfp m e
  | .bytes b => .oct (b.map (BitVec.ofNat 8))
  | .zeros n => .oct (List.replicate n 0)
  | .listed l => .num (l.getD (sub - r.subLo) 0)
  | .nth => .num obj
  | .axisOr a o => .num (if 12 ≤ obj ∧ obj ≤ 23 then a else o)
  | .open => Config.openDefault (key idx sub)

/-- The default of an entry by its key; a key that names no entry has value 0. -/
def defaultOf (k : Nat) : DVal :=
  match rowOf (k / 256) (k % 256) with
  | some r => defaultAt r (k / 256) (k % 256)
  | none => .num 0

/-- An entry's value in the register file: an unlisted entry holds its default (R5). -/
def getVal (d : Dev) (k : Nat) : DVal := (d.regs.lookup k).getD (defaultOf k)

/-- A listing with a pair put at its place among ascending keys. -/
def insertKey {α : Type} (k : Nat) (v : α) : List (Nat × α) → List (Nat × α)
  | [] => [(k, v)]
  | e :: r => if e.1 < k then e :: insertKey k v r else (k, v) :: e :: r
/-- A listing with one key's value changed: the key is listed unless its value is one that is never listed. -/
def putKey {α : Type} (unlisted : Bool) (k : Nat) (v : α) (l : List (Nat × α)) : List (Nat × α) :=
  let r := l.filter (fun e => e.1 != k)
  if unlisted then r else insertKey k v r
/-- Whether the keys of a listing rise strictly. -/
def risingKeys {α : Type} : List (Nat × α) → Bool
  | [] => true
  | [_] => true
  | a :: b :: r => decide (a.1 < b.1) && risingKeys (b :: r)
/-- Whether a register file is in its canonical form: ascending keys, and no entry listed at its default. -/
def regsWf (l : List (Nat × DVal)) : Bool := risingKeys l && l.all (fun e => e.2 != defaultOf e.1)

/-- The register file with one entry set. -/
def setVal (k : Nat) (v : DVal) (d : Dev) : Dev := { d with regs := putKey (v == defaultOf k) k v d.regs }

/-- A value as a number; a string or a pair has none and reads 0. -/
def intOf : DVal → Int
  | .num v => v
  | _ => 0
/-- A value as bytes. -/
def bytesOf : DVal → List Byte
  | .oct b => b
  | _ => []

/-- A numeric entry. -/
def num (d : Dev) (idx sub : Nat) : Int := intOf (getVal d (key idx sub))
/-- An unsigned numeric entry. -/
def nat (d : Dev) (idx sub : Nat) : Nat := (num d idx sub).toNat
/-- Whether a BOOL or command entry is not 0. -/
def on (d : Dev) (idx sub : Nat) : Bool := num d idx sub != 0
/-- Sets a numeric entry. -/
def setNum (idx sub : Nat) (v : Int) (d : Dev) : Dev := setVal (key idx sub) (.num v) d
/-- Adds to a counter entry. -/
def bumpBy (idx sub : Nat) (n : Int) (d : Dev) : Dev := setNum idx sub (num d idx sub + n) d
/-- Counts one in a counter entry. -/
def bump (idx sub : Nat) (d : Dev) : Dev := bumpBy idx sub 1 d
/-- Sets a string entry. -/
def setOct (idx sub : Nat) (b : List Byte) (d : Dev) : Dev := setVal (key idx sub) (.oct b) d

/-- Whether Table 15.2 binds a transition between two life-cycle states. -/
def oneTransition (a b : Nat) : Bool :=
  (a == 0 && b == 1) || (a == 1 && b == 2) || (a == 2 && b == 3) || (a == 3 && b == 4) || (2 ≤ a && a ≤ 4 && b == 5)
    || (a == 4 && b == 2)
/-- The life-cycle state in force by its code (Table 15.1, R443): a host bank that the field bank does not follow by one
transition leaves the module in DECOMMISSIONED behaviour. -/
def lifeOf (d : Dev) : Nat :=
  let k := d.sys.keys
  if k.hostBank = k.fieldBank ∨ oneTransition k.hostBank k.fieldBank then k.fieldBank else 5
/-- Whether an FX activation on this module waits for the outlets (R462), and whether it has stopped the field control
island. -/
def fxWaits (d : Dev) : Bool := match d.sys.act with
  | some a => a.type == 1 && !a.pair && a.stopped.isNone
  | none => false
def fxStopped (d : Dev) : Bool := match d.sys.act with
  | some a => a.type == 1 && a.stopped.isSome && !a.booted
  | none => false
/-- The module's role (R322, Table 11.10): 0 SYNCING, 1 STANDBY, 2 ACTIVE, 3 ALONE; in single mode always ALONE. -/
def roleOf (d : Dev) : Nat := if on d 0x1C00 0x01 then nat d 0x1C00 0x03 else 3
/-- Whether the module holds the lease. -/
def holds (d : Dev) : Bool := decide (2 ≤ roleOf d)

/-- The bytes a value type takes; none where the length varies (Table 0.4). -/
def tySize : Ty → Option Nat
  | .bool | .u8 => some 1
  | .u16 | .i16 | .q15 => some 2
  | .bfp => some 3
  | .u32 | .i32 => some 4
  | .u64 | .i64 | .time64 => some 8
  | .str | .oct => none

/-- The bytes of a value on a transport, least significant first (R4). -/
def valBytes (t : Ty) (v : DVal) : List Byte :=
  match v with
  | .oct b => b
  | .bfp m e => leBytes 2 (m % 65536).toNat ++ leBytes 1 (e % 256).toNat
  | .num x => let n := (tySize t).getD 0; leBytes n (x % (2 ^ (8 * n) : Int)).toNat

/-- A two's-complement reading of `n` bits. -/
def signed (n : Nat) (x : Nat) : Int := if x < 2 ^ (n - 1) then x else (x : Int) - 2 ^ n

/-- The value that bytes of the right length spell for a type (R4, Table 0.4). -/
def bytesVal (t : Ty) (b : List Byte) : DVal :=
  match t with
  | .i16 | .q15 => .num (signed 16 (leNat b))
  | .i32 => .num (signed 32 (leNat b))
  | .i64 => .num (signed 64 (leNat b))
  | .bfp => .bfp (signed 16 (leNat b % 65536)) (signed 8 (leNat b / 65536))
  | .str | .oct => .oct b
  | _ => .num (leNat b)

/-- Whether bytes are UTF-8 text (Table 0.4, STR); `more` continuation bytes are still due, the next one from `lo` to
`hi`. -/
def utf8Ok (more lo hi : Nat) : List Byte → Bool
  | [] => more == 0
  | b :: r =>
    let n := b.toNat
    if more ≠ 0 then lo ≤ n && n ≤ hi && utf8Ok (more - 1) 0x80 0xBF r
    else if n < 0x80 then utf8Ok 0 0x80 0xBF r
    else if 0xC2 ≤ n ∧ n ≤ 0xDF then utf8Ok 1 0x80 0xBF r
    else if n = 0xE0 then utf8Ok 2 0xA0 0xBF r
    else if n = 0xED then utf8Ok 2 0x80 0x9F r
    else if 0xE1 ≤ n ∧ n ≤ 0xEF then utf8Ok 2 0x80 0xBF r
    else if n = 0xF0 then utf8Ok 3 0x90 0xBF r
    else if n = 0xF4 then utf8Ok 3 0x80 0x8F r
    else if 0xF1 ≤ n ∧ n ≤ 0xF3 then utf8Ok 3 0x80 0xBF r
    else false

/-- Whether a value lies in the range its entry table gives. -/
def inDom (dm : Dom) (v : DVal) : Bool :=
  match dm, v with
  | .any, _ => true
  | .upto hi, .num x => 0 ≤ x && x ≤ hi
  | .range lo hi, .num x => lo ≤ x && x ≤ hi
  | .oneOf l, .num x => l.contains x
  | .orZero lo hi, .num x => x == 0 || (lo ≤ x && x ≤ hi)
  | .orNone lo hi, .num x => x == 0xFF || (lo ≤ x && x ≤ hi)
  | .mask m, .num x => 0 ≤ x && x.toNat &&& m == x.toNat
  | .frac u, .bfp m e => 0 ≤ m &&
      (if 15 ≤ e then m * 2 ^ (e - 15).toNat * 1000000 ≤ u else m * 1000000 ≤ u * 2 ^ (15 - e).toNat)
  | .len lo hi, .oct b => lo ≤ b.length && b.length ≤ hi
  | .lenIn l, .oct b => l.contains b.length
  | _, _ => false

/-- The table-driven remainder of a reflected CRC-32 with polynomial `poly` (reflected), one bit at a time. -/
def crcBits (poly : W32) : Nat → W32 → W32
  | 0, c => c
  | n + 1, c => crcBits poly n (if c.getLsbD 0 then (c >>> 1) ^^^ poly else c >>> 1)
/-- The reflected CRC-32 of a list of bytes for a polynomial, from a running value. -/
def crcRun (poly : W32) : W32 → List Byte → W32
  | c, [] => c
  | c, b :: r => crcRun poly (crcBits poly 8 (c ^^^ b.setWidth 32)) r
/-- CRC-32 of R20: polynomial 0x04C11DB7, all ones at start, reflected, inverted at the end. -/
def crc32 (b : List Byte) : W32 := ~~~ crcRun 0xEDB88320 0xFFFFFFFF b

end Sys2Proof.Machine
end

