-- ==== Sys2Proof/Machine/Numeric.lean ====
section
/-! DEFINITION. The engine's number formats and the numeric functions behind the generators and the response analysis
(R125, R126, R136, R143, R144). -/
namespace Sys2Proof.Machine

/-- A rational rounded to the nearest integer, ties away from zero (R125). -/
def roundAway (q : Rat) : Int := if 0 ≤ q.num then divRound q.num q.den else divRound q.num q.den

/-- The power of two 2^e. -/
def pow2 (e : Int) : Rat := if 0 ≤ e then ((2 ^ e.toNat : Nat) : Rat) else 1 / ((2 ^ (-e).toNat : Nat) : Rat)

/-- The format of a quantity: block floating point, or Q15 at a full scale (R125 to R127, Table 5.3). -/
structure Scale where
  bfp : Bool
  fs : Rat
/-- The value of a mantissa 1 × 2^15 in a format: the full scale in Q15, 1 in block floating point. -/
def scaleUnit (k : Scale) : Rat := if k.bfp then 1 else k.fs
/-- The value of an engine value (R125, R126). -/
def fixVal (k : Scale) (x : Fixed) : Rat := (x.m : Rat) * pow2 (x.e - 15) * scaleUnit k

/-- The exponent of a BFP value: the one that brings its mantissa between 16384 and 32767 before rounding. -/
def bfpExp (q : Rat) : Int :=
  let e : Int := (Nat.log2 q.num.natAbs : Int) - (Nat.log2 q.den : Int)
  let e' := if pow2 e ≤ |q| then e else e - 1
  e' + 1

/-- A vector renormalised as block floating point, and how many of its stores saturated (R126): the exponent brings the largest
mantissa between 16384 and 32767; the others share it. -/
def storeBfp (vs : List Rat) : List Fixed × Nat :=
  let top := vs.foldl (fun a v => max a |v|) 0
  if top = 0 then (vs.map (fun _ => ⟨0, -128⟩), 0) else
  let e := bfpExp top
  let e := if 32767 < roundAway (top * pow2 (15 - e)) then e + 1 else e
  if 127 < e then (vs.map (fun v => ⟨32767 * (if 0 < v then 1 else if v < 0 then -1 else 0), 127⟩), vs.length)
  else
    let e := max (-128) e
    (vs.map (fun v => ⟨roundAway (v * pow2 (15 - e)), e⟩), 0)

/-- A vector stored to Q15, and how many of its stores saturated (R125). -/
def storeQ15 (fs : Rat) (vs : List Rat) : List Fixed × Nat :=
  let r (v : Rat) : Int := roundAway (v * 32768 / fs)
  (vs.map (fun v => ⟨clamp (-32768) 32767 (r v), 0⟩), vs.countP (fun v => clamp (-32768) 32767 (r v) != r v))

/-- The results of a stage stored in the format of their quantity, at most eight, and how many saturated (R125 to R128). -/
def store (k : Scale) (vs : List Rat) : List Fixed × Nat := if k.bfp then storeBfp vs else storeQ15 k.fs vs

/-! The slots' programs name no stages: each result is a stage of its own, but for the normal and the stop result of a quantity, which
are one stage (DESIGN CHOICE, log 21). -/

/-- A stage of one result, with the saturations so far. -/
def stageOne (k : Scale) (v : Rat) (n : Nat) : Fixed × Nat :=
  let x := store k [v]
  (x.1.headD zeroFixed, n + x.2)
/-- A stage of two results. -/
def stageTwo (k : Scale) (v w : Rat) (n : Nat) : Fixed × Fixed × Nat :=
  let x := store k [v, w]
  (x.1.headD zeroFixed, x.1.getD 1 zeroFixed, n + x.2)

/-! The 40-bit accumulator (R125 to R128). -/

/-- What a sum takes in: a mantissa, or the product of two with 15 more fraction bits, its exponent, and the value of its unit. -/
structure Operand where
  q : Int
  product : Bool
  e : Int
  unit : Rat
/-- A value as an operand. -/
def plain (k : Scale) (x : Fixed) : Operand := ⟨x.m, false, x.e, scaleUnit k⟩
/-- The product of a coefficient and a signal as an operand. -/
def times (kc ks : Scale) (c x : Fixed) : Operand := ⟨c.m * x.m, true, c.e + x.e, scaleUnit kc * scaleUnit ks⟩
/-- An operand that is taken away. -/
def minus (o : Operand) : Operand := { o with q := -o.q }

/-- The accumulator's saturation, and whether it acted (R125). -/
def sat40 (x : Int) : Int × Nat :=
  let c := clamp (-(2 ^ 39)) (2 ^ 39 - 1) x
  (c, if c = x then 0 else 1)
/-- An operand as it enters the accumulator of a sum with the largest exponent `top`: a mantissa is shifted and then has 15 fraction bits
more; a product is brought to the scale of its result by its fixed factor; both round to nearest, ties away from zero (R126, R127). -/
def aligned (k : Scale) (top : Int) (o : Operand) : Int :=
  let f := o.unit / scaleUnit k * pow2 (o.e - top)
  if o.product then roundAway (o.q * f) else if k.bfp then roundAway (o.q * f) * 32768 else roundAway (o.q * f * 32768)
/-- A sum of products and values for a result, with the saturations so far (R125 to R128). -/
def accumulate (k : Scale) (ops : List Operand) (n : Nat) : Rat × Nat :=
  let top := ops.foldl (fun a o => max a o.e) (-256)
  let x := ops.foldl (fun (x : Int × Nat) o =>
    let t := sat40 (aligned k top o)
    let s := sat40 (x.1 + t.1)
    (s.1, x.2 + t.2 + s.2)) (0, n)
  ((x.1 : Rat) * pow2 (top - 30) * scaleUnit k, x.2)

/-- A coefficient's value from its BFP entry (R126). -/
def bfpVal : DVal → Rat
  | .bfp m e => (m : Rat) * pow2 (e - 15)
  | .num v => v
  | .oct _ => 0

/-- A coefficient in its class's format (R127). -/
def coef (k : Scale) (q : Rat) : Fixed := (stageOne k q 0).1
/-- A converted coefficient that differs from the written value by more than 1 % is not representable (R127). -/
def representable (bfp : Bool) (fs q : Rat) : Bool := decide (|fixVal ⟨bfp, fs⟩ (coef ⟨bfp, fs⟩ q) - q| * 100 ≤ |q|)

/-- The least natural number below `2^n` for which a monotone test holds. -/
def leastNat (test : Nat → Bool) : Nat → Nat → Nat
  | 0, base => base
  | n + 1, base => if test (base + 2 ^ n - 1) then leastNat test n base else leastNat test n (base + 2 ^ n)

/-- The square root of a non-negative rational, down to 2^-30. -/
def sqrtDown (q : Rat) : Rat :=
  if q ≤ 0 then 0 else
  let x := q.num.toNat * 2 ^ 60 / q.den
  let bits := Nat.log2 x / 2 + 2
  ((leastNat (fun k => decide (x < (k + 1) * (k + 1))) bits 0 : Nat) : Rat) / 2 ^ 30

/-- Rounded to a multiple of 2^-40. -/
def trim40 (q : Rat) : Rat := (roundAway (q * 2 ^ 40) : Rat) / 2 ^ 40

/-- Terms of the sine series from x, x² and the term before, `n` of them from index `k`. -/
def sinTerms (x2 : Rat) : Nat → Nat → Rat → Rat
  | 0, _, _ => 0
  | n + 1, k, term => term + sinTerms x2 n (k + 1) (trim40 (-(term * x2) / ((2 * k) * (2 * k + 1) : Nat)))

/-- 2π to 15 decimal places. -/
def twoPi : Rat := 6283185307179586 / 1000000000000000

/-- The sine of a phase of 2^32 to the turn (R143), by its series within a quarter turn. -/
def sine (phi : Nat) : Rat :=
  let q : Nat := phi % 2 ^ 32
  let (neg, q) : Bool × Nat := if q < 2 ^ 31 then (false, q) else (true, q - 2 ^ 31)
  let q : Nat := if q ≤ 2 ^ 30 then q else 2 ^ 31 - q
  let x := trim40 (twoPi * q / 2 ^ 32)
  let s := sinTerms (trim40 (x * x)) 10 1 x
  if neg then -s else s
/-- The cosine of a phase. -/
def cosine (phi : Nat) : Rat := sine (phi + 2 ^ 30)

/-- Rounded to a multiple of 2^-80. -/
def trim80 (q : Rat) : Rat := (roundAway (q * 2 ^ 80) : Rat) / 2 ^ 80
/-- The natural logarithm of 2 to 30 decimal places. -/
def ln2 : Rat := 693147180559945309417232121458 / 1000000000000000000000000000000
/-- Terms of the series of half the natural logarithm of (1 + z) / (1 - z), from z². -/
def logTerms (z2 : Rat) : Nat → Nat → Rat → Rat
  | 0, _, _ => 0
  | n + 1, k, p => trim80 (p / (2 * k + 1 : Nat)) + logTerms z2 n (k + 1) (trim80 (p * z2))
/-- The base 2 logarithm of a positive rational. -/
def log2 (q : Rat) : Rat :=
  let e : Int := (Nat.log2 q.num.natAbs : Int) - (Nat.log2 q.den : Int)
  let e := if pow2 e ≤ q then e else e - 1
  let x := trim80 (q / pow2 e)
  let z := trim80 ((x - 1) / (x + 1))
  (e : Rat) + trim80 (2 * logTerms (trim80 (z * z)) 26 0 z / ln2)

/-- The arctangent of t between 0 and 1/2, in radians, by its series. -/
def atanTerms (t2 : Rat) : Nat → Nat → Rat → Rat
  | 0, _, _ => 0
  | n + 1, k, p => p / (2 * k + 1 : Nat) + atanTerms t2 n (k + 1) (trim40 (-(p * t2)))
/-- The arctangent of t from 0 to 1, in degrees. -/
def atanDeg (t : Rat) : Rat :=
  let (base, u) : Rat × Rat := if t ≤ 1 / 2 then (0, t) else (45, (t - 1) / (1 + t))
  let u := trim40 u
  base + atanTerms (trim40 (u * u)) 16 0 u * 360 / twoPi
/-- The argument of x + iy in degrees, from above -180 to 180. -/
def argDeg (x y : Rat) : Rat :=
  if x = 0 ∧ y = 0 then 0 else
  let ax := |x|
  let ay := |y|
  let a := if ay ≤ ax then atanDeg (ay / ax) else 90 - atanDeg (ax / ay)
  let a := if x < 0 then 180 - a else a
  if y < 0 then -a else a

end Sys2Proof.Machine
end

