-- ==== Sys2Proof/Machine/Generators.lean ====
section
/-! DEFINITION. The profile generators (R134 to R139). -/
namespace Sys2Proof.Machine

/-- The dictionary index of a generator, 0x26gg. -/
def genIdx (g : Fin 28) : Nat := 0x2680 + g.val
/-- A generator changed. -/
def onGen (g : Fin 28) (f : Gen → Gen) (d : Dev) : Dev := { d with eng := { d.eng with gen := upd d.eng.gen g f } }

/-- A value of a generator's output or derivatives as it is held, with 24 fraction bits (R135). -/
def genFix (q : Rat) : Int := roundAway (q * 2 ^ 24)
/-- A held value in the generator's unit. -/
def genVal (x : Int) : Rat := (x : Rat) / 2 ^ 24

/-- A point of a trajectory: output and its first two derivatives. -/
structure Point where
  p : Rat
  v : Rat
  a : Rat

/-- The limits of a plan: velocity, acceleration, jerk. -/
structure Limits where
  v : Rat
  a : Rat
  j : Rat

/-- The limits in force for a generator: its own (Table 5.11), or the handover limits taken with it (R163). -/
def genLimits (g : Fin 28) (d : Dev) : Limits := match (d.eng.gen[g]).handover with
  | some (v, a, j) => ⟨(v * 10000 : Nat), (a * 10000000 : Nat), (j * 10000000000 : Nat)⟩
  | none => ⟨num d (genIdx g) 0x02, num d (genIdx g) 0x03, num d (genIdx g) 0x04⟩

/-- The length of an update in seconds (Table 5.5). -/
def genStep (g : Fin 28) (d : Dev) : Rat :=
  let n : Nat := if g.val < 12 then 1 else if g.val < 24 then 8 else nat d (genIdx g) 0x0B
  (n : Rat) / 100000

/-- A trajectory followed for one phase of constant jerk (R135). -/
def follow (x : Point) (f : Phase) : Point :=
  let t := f.time
  { p := x.p + x.v * t + x.a * t ^ 2 / 2 + f.jerk * t ^ 3 / 6
    v := x.v + x.a * t + f.jerk * t ^ 2 / 2
    a := x.a + f.jerk * t }

/-- The fewest whole updates for which a monotone test of their length holds. -/
def updates (test : Nat → Bool) : Nat := leastNat test 40 0

/-- The plan of R136 from rest over a signed distance: phase times rounded up to whole updates and every jerk scaled. -/
def planRest (l : Limits) (h dist : Rat) : List Phase :=
  let D := |dist|
  if D = 0 then [] else
  let sgn : Rat := if dist < 0 then -1 else 1
  let reached : Bool := l.v * l.j ≥ l.a ^ 2
  let full : Bool := if reached then D ≥ l.v * (2 * (l.a / l.j) + (l.v / l.a - l.a / l.j)) else D ^ 2 * l.j ≥ 4 * l.v ^ 3
  let r := l.a / l.j
  let wide : Bool := D * l.j ^ 2 ≥ 2 * l.a ^ 3
  let nj : Nat :=
    if (if full then reached else wide) then updates (fun n => r ≤ n * h)
    else if full then updates (fun n => decide (l.v ≤ (n * h) ^ 2 * l.j))
    else updates (fun n => decide (D ≤ (n * h) ^ 3 * 2 * l.j))
  let na : Nat :=
    if full then (if reached then updates (fun n => l.v / l.a - r ≤ n * h) else 0)
    else if wide then updates (fun n => decide (r ^ 2 + 4 * D / l.a ≤ (2 * n * h + 3 * r) ^ 2)) else 0
  let nv : Nat :=
    if !full then 0
    else if reached then updates (fun n => D / l.v - (r + l.v / l.a) ≤ n * h)
    else updates (fun n => let x := D / l.v - n * h; decide (x ≤ 0) || decide (x ^ 2 * l.j ≤ 4 * l.v))
  let tj := nj * h
  let ta := na * h
  let tv := nv * h
  let dr := l.j * tj * (tj + ta) * (2 * tj + ta + tv)
  let j := sgn * l.j * D / dr
  [⟨j, tj⟩, ⟨0, ta⟩, ⟨-j, tj⟩, ⟨0, tv⟩, ⟨-j, tj⟩, ⟨0, ta⟩, ⟨j, tj⟩].filter (fun f => f.time ≠ 0)

/-- The quickest change of velocity to `v1` with no acceleration left, within the limits (R137). -/
def planVelocity (l : Limits) (x : Point) (v1 : Rat) : List Phase :=
  let s : Rat := if v1 ≥ x.v + x.a * |x.a| / (2 * l.j) then 1 else -1
  let peak := sqrtDown (l.j * s * (v1 - x.v) + x.a ^ 2 / 2)
  let ap := min l.a (max peak (s * x.a))
  let t1 := trim40 ((ap - s * x.a) / l.j)
  let t3 := trim40 (ap / l.j)
  let gained := (s * ap + x.a) / 2 * t1 + s * ap / 2 * t3
  let t2 := if peak ≤ l.a ∨ ap = 0 then 0 else trim40 (max 0 ((v1 - x.v - gained) / (s * ap)))
  [⟨s * l.j, t1⟩, ⟨0, t2⟩, ⟨-(s * l.j), t3⟩].filter (fun f => 0 < f.time)

/-- What a plan does in its first `t` seconds. -/
def firstPart : List Phase → Rat → List Phase
  | [], _ => []
  | f :: r, t => if f.time ≤ t then f :: firstPart r (t - f.time) else [⟨f.jerk, t⟩]
/-- How long a plan lasts. -/
def planTime (p : List Phase) : Rat := p.foldl (fun a f => a + f.time) 0

/-- The reduction of an acceleration above its limit (R137). -/
def reduceAcc (l : Limits) (x : Point) : List Phase :=
  if |x.a| ≤ l.a then [] else [⟨if x.a < 0 then l.j else -l.j, (|x.a| - l.a) / l.j⟩]
/-- The quickest way to rest, once the acceleration is within its limit. -/
def stopPlan (l : Limits) (x : Point) : List Phase :=
  let pre := reduceAcc l x
  pre ++ planVelocity l (pre.foldl follow x) 0

/-- The first time, to 2^-40 of the span, at which a test that stays true from then on holds. -/
def firstTime (test : Rat → Bool) : Nat → Rat → Rat → Rat
  | 0, _, hi => hi
  | n + 1, lo, hi =>
    let mid := trim40 ((lo + hi) / 2)
    if test mid then firstTime test n lo mid else firstTime test n mid hi

/-- The reduction of a velocity above its limit, or of one that no jerk keeps from passing it (R137): the way to rest, followed until the
velocity is within its limit for good. -/
def reduceVel (l : Limits) (x : Point) : List Phase :=
  let sg : Rat := if x.v + x.a * |x.a| / (2 * l.j) < 0 then -1 else 1
  let peak := if 0 < sg * x.a then sg * x.v + x.a ^ 2 / (2 * l.j) else sg * x.v
  if peak ≤ l.v then [] else
  let stop := planVelocity l x 0
  firstPart stop (firstTime (fun t => let y := (firstPart stop t).foldl follow x; decide (sg * y.v ≤ l.v ∧ sg * y.a ≤ 0)) 44 0 (planTime stop))

/-- The plan of R137 from any state: an acceleration and then a velocity above its limit is reduced; then the acceleration is raised
towards the target for as long as it takes, the velocity limit permitting, after which the quickest way to rest ends at the target; where
the limit is reached, the plan cruises there. The end position grows with the time for which the acceleration is raised. -/
def planAny (l : Limits) (x : Point) (target : Rat) : List Phase :=
  let pre := reduceAcc l x
  let x := pre.foldl follow x
  let rest := ((planVelocity l x 0).foldl follow x).p
  let sg : Rat := if rest ≤ target then 1 else -1
  let pre2 := if sg * (x.v + x.a * |x.a| / (2 * l.j)) ≤ 0 ∧ sg * x.v ≤ l.v then [] else reduceVel l x
  let x := pre2.foldl follow x
  let up := planVelocity l x (sg * l.v)
  let y : Point := { up.foldl follow x with v := sg * l.v, a := 0 }
  let down := planVelocity l y 0
  let left := sg * (target - (down.foldl follow y).p)
  let main :=
    if 0 ≤ left then up ++ [⟨0, left / l.v⟩] ++ down
    else
      let raise (t : Rat) : List Phase :=
        let t1 := max 0 (trim40 ((l.a - sg * x.a) / l.j))
        if t ≤ t1 then [⟨sg * l.j, t⟩] else [⟨sg * l.j, t1⟩, ⟨0, t - t1⟩]
      let whole (t : Rat) : List Phase := raise t ++ planVelocity l ((raise t).foldl follow x) 0
      whole (firstTime (fun t => decide (sg * target ≤ sg * ((whole t).foldl follow x).p)) 44 0 (planTime up))
  (pre ++ pre2 ++ main).filter (fun f => 0 < f.time)

/-- Whether the plan of R137 carries the output past its target, measured from its present value (R138): its quickest way to rest does. -/
def overshoots (l : Limits) (x : Point) (target : Rat) : Bool :=
  let stop := ((stopPlan l x).foldl follow x).p
  if x.p < target then decide (target < stop) else if target < x.p then decide (stop < target) else decide (stop ≠ target)

/-- A generator's present point. -/
def genPoint (x : Gen) : Point := ⟨genVal x.p, genVal x.v, genVal x.a⟩

/-- Whether a generator's output is a current that must not pass its target (R138). -/
def isCurrent (g : Fin 28) (x : Gen) : Bool := g.val < 12 || (24 ≤ g.val && x.user == .allocator)

/-- A generator plans its move from its present state (R136 to R138). -/
def genPlan (g : Fin 28) (d : Dev) (x : Gen) : Gen :=
  let l := genLimits g d
  let h := genStep g d
  let pt := genPoint x
  let target := genVal x.target
  let rest (x : Gen) : Gen :=
    let plan := planRest l h (target - genVal x.p)
    { x with plan := plan, state := if plan = [] then .rest else .moving, replan := false }
  if x.v = 0 ∧ x.a = 0 then rest x
  else if isCurrent g x && overshoots l pt target then
    let k : Rat := num d (genIdx g) 0x05
    let l' : Limits := ⟨l.v, l.a * k, l.j * k⟩
    if overshoots l' pt target then rest { x with v := 0, a := 0 }
    else { x with plan := planAny l' pt target, state := .override, replan := false }
  else { x with plan := planAny l pt target, state := .moving, replan := false }

/-- A generator's plan followed for a time, part by part (R135, R137): the state at the end and the rest of the plan. -/
def genRun : List Phase → Rat → Gen → Gen
  | [], _, x => { x with plan := [] }
  | f :: r, t, x =>
    let part : Phase := ⟨f.jerk, min t f.time⟩
    let y := follow (genPoint x) part
    let x := { x with p := genFix y.p, v := genFix y.v, a := genFix y.a }
    if f.time ≤ t then genRun r (t - f.time) x else { x with plan := ⟨f.jerk, f.time - t⟩ :: r }

/-- One update of a generator (R135 to R138): re-planned where a target or limits are new, then integrated; a plan that has
ended leaves the generator at rest at its target exactly. -/
def genUpdate (g : Fin 28) (d : Dev) : Dev :=
  onGen g (fun x =>
    if x.state = .held then x else
    let x := if x.replan then genPlan g d x else x
    if x.plan = [] then { x with state := .rest } else
    let x := genRun x.plan (genStep g d) x
    if x.plan = [] then { x with p := x.target, v := 0, a := 0, state := .rest } else x) d

/-- A new target for a generator, in force at its next update (R137). -/
def genTarget (g : Fin 28) (t : Int) (d : Dev) : Dev := onGen g (fun x => { x with target := t * 2 ^ 24, replan := true }) d
/-- A per-leg share in A as the target of a generator that the allocator holds (R165). -/
def genShare (g : Fin 28) (share : Rat) (d : Dev) : Dev := onGen g (fun x => { x with target := genFix (10 * share), replan := true }) d
/-- A generator at rest at a value, with its target there (R139). -/
def genRestAt (g : Fin 28) (p : Int) (d : Dev) : Dev :=
  onGen g (fun x => { x with p := p, v := 0, a := 0, plan := [], state := .rest, replan := false, target := p }) d
/-- Whether a generator rests at its target. -/
def genAtTarget (g : Fin 28) (d : Dev) : Bool :=
  let x := d.eng.gen[g]
  x.state == .rest && !x.replan && x.p == x.target

/-- The output of a current generator in A. -/
def genAmps (g : Fin 28) (d : Dev) : Rat := genVal (d.eng.gen[g]).p / 10
/-- The output reported, rounded to the nearest whole unit (R135). -/
def genReport (x : Int) : Int := roundAway (genVal x)

/-- The generator of an outlet (Table 5.5). -/
def outletGen (j : Fin 12) : Fin 28 := ⟨j.val, by omega⟩
/-- The generator of an axis (Table 5.5). -/
def axisGen (a : Fin 12) : Fin 28 := ⟨12 + a.val, by omega⟩

end Sys2Proof.Machine
end

