-- ==== Sys2Proof/Machine/EventNames.lean ====
section
/-! DEFINITION. The subject group of each event the manual names. -/
namespace Sys2Proof.Machine

/-- The high byte of the subject group of an event: the subject range whose chapter names it (R437). -/
def eventGroup : EventName → Nat
  | .channelStale | .referenceSwitch | .tenonReject | .tenonGap | .barrierLost | .islandReset | .pairTimeStep => 0x10
  | .groupForced => 0x11
  | .busOff | .noAddress | .addressConflict => 0x12
  | .nodeRefused | .nodeLost | .phaseWiring => 0x13
  | .dmaDone => 0x18
  | .eventsLost => 0x19
  | .keyUnusable | .slotExhausted => 0x1A
  | .confirmTimeout | .leafWriteFailed | .configInvalid => 0x1B
  | .takeOver | .linkFault | .epochExhausted | .swapFailed | .resyncTimeout | .orderingMismatch => 0x1C
  | .supplyRedundancyLost | .holdupDegraded | .domainStartFailed | .coldPlateHigh => 0x1D
  | .legFault => 0x20
  | .fibreDelay => 0x22
  | .release | .syncLost => 0x23
  | .slotFault | .followingError | .saturation => 0x26
  | .topologyRefusal | .topologyFault | .moveFailed | .moveReversed | .railSenseDisagreement | .tieCloseAborted | .tieTravelFault | .brickTravelFault | .outletTravelFault | .contactDisagreement | .tieOpenedUncommanded | .brickOpenedUncommanded | .gridLimitExpired | .frontEndStale | .planningOverrun | .moveEnded => 0x28
  | .outletCause => 0x30
  | .auditTrailFull => 0x38
  | .safetyLeftEnabled | .safetyOutputFault | .safetyInputFault | .contactorFeedbackFault => 0x40
  | .loadTrip | .loadDissipation | .senseDisagreement | .externalSelectRefused | .loadSupplyLow => 0x44

end Sys2Proof.Machine
end

