-- ==== Sys2Proof/Machine/SnapWords.lean ====
section
/-! DEFINITION. What each island's snapshot registers latch (Table 14.5). -/
namespace Sys2Proof.Machine

/-- A contactor's command and state. -/
def contactorWords (c : Contactor) : List Int := [flag c.cmd, flag c.want, flag c.travel.isSome, flag c.frozen, flag c.travelFault]
/-- The host island: sessions, group owners, queue and ring depths, TLS sessions. -/
def hostWords (d : Dev) : List Int :=
  d.site.sessions.toList.flatMap (fun x => [flag x.conn.isSome, Int.ofNat (leNat x.identity), Int.ofNat x.last, Int.ofNat x.outstanding.length]) ++ d.site.owners.toList.map Int.ofNat
    ++ d.site.can.toList.flatMap (fun q => [q.fifo.length, q.urgent.length, q.normal.length, q.rxq0.length, q.rxq1.length].map Int.ofNat)
    ++ d.barrier.hf.queue.toList.map (fun q => Int.ofNat q.length)
    ++ [Int.ofNat d.log.ring.length, Int.ofNat (d.vehicle.toList.countP (·.tls))]
/-- The field control island's states; its image follows at the period boundary. -/
def controlWords (d : Dev) : List Int :=
  d.leg.toList.map (fun l => Int.ofNat l.state.ctorIdx)
    ++ d.rail.toList.flatMap (fun r => [Int.ofNat r.state.ctorIdx, flag r.currentMode, Int.ofNat r.governing.val, r.s, r.t, Int.ofNat r.episode.ctorIdx])
    ++ d.out.toList.map (fun o => Int.ofNat o.state.ctorIdx)
    ++ d.alloc.plan.moves.flatMap (fun m => [Int.ofNat m.kind.ctorIdx, Int.ofNat m.state.ctorIdx, Int.ofNat m.phase.ctorIdx, Int.ofNat m.object])
    ++ d.eng.gen.toList.flatMap (fun g => [g.p, g.v, g.a, Int.ofNat g.state.ctorIdx])
    ++ d.ring.tie.toList.flatMap contactorWords ++ d.brick.toList.flatMap (fun b => contactorWords b.contactor)
    ++ d.ring.outlet.toList.flatMap contactorWords ++ [flag d.ring.restart, flag d.ring.broken]
/-- The metrology island: totals, sessions, last means. -/
def meterWords (d : Dev) : List Int := d.metro.meter.toList.flatMap (fun x =>
  [Int.ofNat x.totD, Int.ofNat x.totR] ++ (match x.session with
    | some s => [1, Int.ofNat s.role.ctorIdx, flag s.late, Int.ofNat s.openedAt, Int.ofNat s.gap, Int.ofNat s.below]
    | none => [0]) ++ [x.feedV.getD 65535, x.feedI.getD (-32768)])
/-- The safety island: instances, inputs, connections, readbacks. -/
def safetyWords (d : Dev) : List Int :=
  d.safety.core.toList.flatMap (fun c => c.inst.toList.map (fun i => Int.ofNat i.ctorIdx) ++ c.on.toList.map flag
      ++ c.mismatch.toList.map Int.ofNat)
    ++ d.safety.input.toList.flatMap (fun x => x.closed.toList.map flag ++ [flag x.fault, flag x.testSeen])
    ++ d.safety.consumer.toList.map (fun x => Int.ofNat x.state.ctorIdx) ++ d.safety.producer.toList.map (fun x => Int.ofNat x.state.ctorIdx)
    ++ d.safety.outFault.toList.map flag ++ d.safety.fb.toList.map (fun x => flag x.deb)
/-- The switch island: channel states, heat, currents, junctions. -/
def loadWords (d : Dev) : List Int := d.load.chan.toList.flatMap (fun c =>
  [Int.ofNat c.state.ctorIdx, Int.ofNat c.heat, c.current, ((c.reading.getD 65535 : Nat) : Int), c.junction])
    ++ d.load.mirror.toList.map Int.ofNat
/-- The line island: cycle number, masks, node states and margins. -/
def lineWords (d : Dev) : List Int :=
  [num d 0x1300 0x03, Int.ofNat d.eave.admitted.toNat, Int.ofNat d.eave.robust.toNat]
    ++ (List.range 16).flatMap (fun n => [num d (0x1310 + n) 0x03, num d (0x1310 + n) 0x08, num d (0x1310 + n) 0x09])
/-- The peer island: role, epoch, lease times, ports, mirror. -/
def peerWords (d : Dev) : List Int :=
  [Int.ofNat (roleOf d), num d 0x1C00 0x04, num d 0x1C00 0x05, Int.ofNat d.pair.expiry, Int.ofNat d.pair.lastRenewal]
    ++ d.pair.port.toList.map (fun p => flag p.up) ++ [((d.pair.lastMirror.getD 0 : Nat) : Int)]
/-- The always-on island: domains, supplies, reference, power-fail. -/
def alwaysWords (d : Dev) : List Int :=
  d.isl.toList.map (fun i => Int.ofNat i.ctorIdx) ++ (List.range 4).map (fun i => num d 0x1D00 (i + 1))
    ++ [flag d.time.onRefIn, flag d.sys.power.fieldSeq.isSome, flag d.sys.power.overTemp]

/-- The content of an island's part of a snapshot, as words in the order of Table 14.5. -/
def snapWords (isl : Fin 8) (d : Dev) : List Int := match isl with
  | 0 => hostWords d
  | 1 => controlWords d
  | 2 => meterWords d
  | 3 => safetyWords d
  | 4 => loadWords d
  | 5 => lineWords d
  | 6 => peerWords d
  | 7 => alwaysWords d

end Sys2Proof.Machine
end

