-- ==== Sys2Proof/Machine/Tenon.lean ====
section
/-! DEFINITION. The catalogue of tenon messages and the sending ports' queues (R19, R20, R25 to R27). -/
namespace Sys2Proof.Machine

/-- What Table 1.6 says of a message type: the lanes it may use, its largest payload, its priority class, the field-side
islands it concerns, the spacing that R26 makes of its rate limit where its class is 0 or 1, its limit per second where
its class is 2 or 3 or its limit has parts, and the exact payload size where the manual lays one out (R21). -/
structure TypeSpec where
  onHF : Bool
  onFH : Bool
  max : Nat
  cls : Fin 4
  islands : List Nat
  spacing : Nat
  perSecond : Option Nat
  exact : Option Nat
  deriving DecidableEq, Repr

/-- The field-side islands. -/
def fieldIslands : List Nat := [1, 2, 3, 4, 6, 7]

/-- Table 1.6 (R27). Type 0x0A has 50 messages a second and one more for each plan change, of which a planning cycle of 20 ms brings at
most one: 100 in all. -/
def typeSpec (t : Nat) : Option TypeSpec :=
  match t with
  | 0x01 => some ⟨true, true, 8, 0, [7], ms 1, none, some 8⟩
  | 0x02 => some ⟨true, true, 16, 0, [7], ms 1, none, none⟩
  | 0x03 => some ⟨true, false, 72, 0, [3], 1563, none, none⟩
  | 0x04 => some ⟨false, true, 72, 0, [3], 1563, none, none⟩
  | 0x05 => some ⟨true, false, 1024, 2, [1, 2, 3, 4, 6, 7], 0, some 2000, none⟩
  | 0x06 => some ⟨false, true, 1024, 2, [1, 2, 3, 4, 6, 7], 0, none, none⟩
  | 0x07 => some ⟨true, false, 24, 1, [7], ms 50, none, none⟩
  | 0x08 => some ⟨true, false, 48, 1, [1], ms 1, none, some 48⟩
  | 0x09 => some ⟨false, true, 32, 1, [1], ms 1, none, some 32⟩
  | 0x0A => some ⟨false, true, 256, 1, [1], us 500, some 100, some 256⟩
  | 0x0B => some ⟨true, false, 64, 1, [1], ms 5, none, none⟩
  | 0x0C => some ⟨false, true, 1024, 3, [1, 2, 4], 0, none, none⟩
  | 0x0D => some ⟨false, true, 32, 3, [1, 2, 3, 4, 6, 7], 0, some 2000, none⟩
  | 0x0E => some ⟨false, true, 1024, 3, [7], 0, none, none⟩
  | 0x0F => some ⟨false, true, 1024, 3, [1], 0, none, none⟩
  | 0x10 => some ⟨false, true, 1024, 2, [2], 0, some 100, none⟩
  | 0x11 => some ⟨true, false, 8, 2, [2], 0, some 100, none⟩
  | 0x12 => some ⟨false, true, 1024, 3, [2], 0, some 50, none⟩
  | 0x13 => some ⟨true, true, 16, 0, [7], ms 100, none, none⟩
  | 0x14 => some ⟨true, false, 1024, 3, [1, 2, 3], 0, some 500, none⟩
  | 0x15 => some ⟨false, true, 32, 2, [1, 2, 3], 0, some 500, none⟩
  | 0x16 => some ⟨false, true, 8, 0, [7], us 500, some 10, none⟩
  | 0x17 => some ⟨true, false, 128, 1, [1], ms 1, none, none⟩
  | 0x18 => some ⟨true, false, 16, 1, [7], sec 1, none, none⟩
  | _ => none

/-- The class of a type; an unknown type is never queued. -/
def typeClass (t : Nat) : Fin 4 := match typeSpec t with
  | some s => s.cls
  | none => 3

/-- The state of a lane. -/
def laneOf (l : Lane) (d : Dev) : LaneState := match l with
  | .hf => d.barrier.hf
  | .fh => d.barrier.fh
/-- A lane's state changed. -/
def onLane (l : Lane) (f : LaneState → LaneState) (d : Dev) : Dev := match l with
  | .hf => { d with barrier := { d.barrier with hf := f d.barrier.hf } }
  | .fh => { d with barrier := { d.barrier with fh := f d.barrier.fh } }

/-- A message put at the end of its class's queue at the sending port (R25: within a class, arrival order). -/
def enqueue (l : Lane) (m : TenonOut) (d : Dev) : Dev :=
  onLane l (fun s => { s with queue := upd s.queue (typeClass m.type) (· ++ [m]) }) d

/-- The payload of a message as it is sent. -/
def payloadOf (m : TenonOut) : List Byte := if m.items = [] then m.body else Config.tenonPayload m.type m.items m.length
/-- The header word of Table 1.5 with which a message is sent under a sequence number (R20). -/
def headerOf (m : TenonOut) (seq : W16) : W64 :=
  BitVec.ofNat 64 (m.type * 2 ^ 56 + m.session % 256 * 2 ^ 48 + m.tag % 256 * 2 ^ 40 + (if m.first then 2 ^ 39 else 0)
    + (if m.last then 2 ^ 38 else 0) + m.island % 16 * 2 ^ 32 + seq.toNat * 2 ^ 16 + m.length % 2048)
/-- The CRC-32 with which a message is sent: over its header and its payload (R20). -/
def crcOf (m : TenonOut) (h : W64) : W32 := crc32 (leBytes 8 h.toNat ++ payloadOf m)

/-- An unfragmented message with its payload bytes. -/
def tenonBytes (type session tag island key : Nat) (body : List Byte) (d : Dev) : TenonOut :=
  ⟨type, session, tag, island, true, true, key, body, [], body.length, d.time.now⟩
/-- An unfragmented message whose payload the manual names but does not lay out. -/
def tenonItems (type island key length : Nat) (items : List Int) (d : Dev) : TenonOut :=
  ⟨type, 0, 0, island, true, true, key, [], items, length, d.time.now⟩

end Sys2Proof.Machine
end

