-- ==== Sys2Proof/Machine/Events.lean ====
section
/-! DEFINITION. Scribe triggers, the event send queues and the event log ring (R430 to R440). -/
namespace Sys2Proof.Machine

/-- Which bit of the event triggers entry 0x1900.02 an event fires under, where it has one (Table 14.10). -/
def triggerBit : EventName → Option Nat
  | .topologyFault => some 0
  | .slotFault => some 1
  | .release => some 2
  | .moveFailed | .moveReversed => some 3
  | .safetyLeftEnabled => some 4
  | .followingError => some 5
  | .legFault => some 6
  | .barrierLost => some 7
  | .takeOver => some 8
  | .syncLost => some 9
  | .loadTrip => some 10
  | _ => none

/-- The set a trigger writes: the oldest that is not locked, a set never written counting as oldest (R433). -/
def oldestSet (d : Dev) : Option (Fin 8) :=
  ((all 8).filter (fun i => !bit (nat d 0x1900 0x07) i.val)).foldl (fun best i =>
    match best with
    | none => some i
    | some b =>
      let age (j : Fin 8) : Nat := if d.snap.sets[j].written then d.snap.sets[j].seq + 1 else 0
      if age i < age b then some i else some b) none

/-- Whether a trigger falls within the 100 µs after the last (R432). -/
def recentTrigger (d : Dev) : Bool := match d.snap.lastTrigger with
  | some t => decide (d.time.now < t + us 100)
  | none => false
/-- The level of SNAP_OUT: the 1 µs pulse of the last trigger that its source setting selected, begun with the trigger (R434). -/
def snapOutHigh (d : Dev) : Bool := match d.snap.snapOut with
  | some t => decide (t ≤ d.time.now ∧ d.time.now < t + us 1)
  | none => false

/-- The scribe distributor's work at a trigger (R430 to R434): the trigger is merged within 100 µs of the last, lost where
every set is locked, and otherwise written with what each running field-side island latches. Answers whether the
trigger was lost. -/
def fireTrigger (source session code group : Nat) (d : Dev) : Dev × Bool :=
  if recentTrigger d then
    let d := bump 0x1900 0x0A d
    match d.snap.newest with
    | some i => ({ d with snap := { d.snap with sets := upd d.snap.sets i (fun s => { s with merged := min 255 (s.merged + 1) }) } }, false)
    | none => (d, false)
  else match oldestSet d with
  | none => (bump 0x1900 0x0B d, true)
  | some i =>
    let field (j : Fin 8) : Bool := fieldIslands.contains j.val && up j d
    let set : SnapSet :=
      { written := true, seq := d.snap.nextSeq, source := source, merged := 0, session := session, time := siteTime d,
        eventCode := code, eventGroup := group, latched := tab field,
        offset := tab (fun j => if field j then 10 * copyError j d else 0x7FFFFFFF),
        flagged := tab (fun j => field j && d.time.flagged[j]),
        words := tab (fun j => if field j then snapWords j d else []),
        stored := tab (fun _ => false), valid := false }
    let out := match nat d 0x1900 0x05 with
      | 1 => true
      | 2 => source == 1
      | 3 => source != 1
      | _ => false
    let snap := { d.snap with
      sets := upd d.snap.sets i (fun _ => set), newest := some i, lastTrigger := some d.time.now,
      nextSeq := d.snap.nextSeq + 1, fieldDue := if up 1 d then some i else none,
      snapOut := if out then some d.time.now else d.snap.snapOut,
      toPartner := d.snap.toPartner + (if on d 0x1900 0x06 && source != 4 then 1 else 0) }
    let d := { d with snap := snap }
    (enqueue .fh (tenonItems 0x13 7 0 16 [source, siteTime d] d) d, false)

/-- The 32 bytes of an event as it travels, with the sequence and CRC fields zero (Table 14.7, R438). -/
def eventBytes (isl : Fin 8) (e : EventRec) : List Byte :=
  leBytes 4 0 ++ leBytes 8 e.time
    ++ [BitVec.ofNat 8 ((Config.eventSeverity e.name).val * 64 + isl.val), BitVec.ofNat 8 (eventGroup e.name)]
    ++ leBytes 2 (Config.eventCode e.name).toNat
    ++ (e.data ++ List.replicate 12 0).take 12 ++ leBytes 4 0

/-- The host island appends an event to the log ring: it gives the sequence and the CRC, and the ring of 4096 entries
overwrites its oldest (R438, R439). -/
def logAppend (b : List Byte) (d : Dev) : Dev :=
  let body := leBytes 4 d.log.nextSeq ++ (b.drop 4).take 24
  let entry := body ++ leBytes 4 (crc32 body).toNat
  let full := 4096 ≤ d.log.ring.length
  let d := if full then bump 0x1920 0x03 d else d
  { d with log := { d.log with
      ring := (if full then d.log.ring.drop 1 else d.log.ring) ++ [(d.log.nextSeq, entry)],
      nextSeq := d.log.nextSeq + 1, unflushed := min 4096 (d.log.unflushed + 1) } }

/-- An island raises an event (R437, R438): a field-side island puts it into its send queue of 32 or discards and counts
it; the host side's own events reach the log at once. A configured event also fires a scribe trigger (R430). -/
def raise (isl : Fin 8) (name : EventName) (data : List Byte) (d : Dev) : Dev :=
  let e : EventRec := ⟨name, islandTime isl d, data, d.time.flagged[isl]⟩
  let d :=
    if isl = 0 ∨ isl = 5 then logAppend (eventBytes isl e) d
    else if d.log.queue[isl].length < 32 then { d with log := { d.log with queue := upd d.log.queue isl (· ++ [e]) } }
    else bump 0x1920 0x06 { d with log := { d.log with lost := upd d.log.lost isl (· + 1) } }
  match triggerBit name with
  | some b =>
    if bit (nat d 0x1900 0x02) b && up 7 d
    then (fireTrigger 3 0 (Config.eventCode name).toNat (eventGroup name) d).1
    else d
  | none => d

/-- Event data: numbers of so many bytes each, least significant byte first. -/
def evData (l : List (Nat × Int)) : List Byte := l.flatMap (fun p => leBytes p.1 (p.2 % (2 ^ (8 * p.1) : Int)).toNat)
/-- An event with one byte of data. -/
def raise1 (isl : Fin 8) (name : EventName) (x : Nat) (d : Dev) : Dev := raise isl name [BitVec.ofNat 8 x] d

end Sys2Proof.Machine
end

