-- ==== Sys2Proof/Machine/Barrier.lean ====
section
/-! DEFINITION. The time-base copies, the barrier ports' checks and the lanes (R14 to R26). -/
namespace Sys2Proof.Machine

/-- A state of the device as the next state of a block whose queue it does not touch. -/
def done (s : State) (d : Dev) : Host.Outcome State Fault Refusal :=
  .next { s with dev := reach s.dev.time.now d }

/-- The fields of a tenon header (Table 1.5). -/
def hdrType (h : W64) : Nat := (h.extractLsb' 56 8).toNat
def hdrSession (h : W64) : Nat := (h.extractLsb' 48 8).toNat
def hdrTag (h : W64) : Nat := (h.extractLsb' 40 8).toNat
def hdrFirst (h : W64) : Bool := h.getLsbD 39
def hdrLast (h : W64) : Bool := h.getLsbD 38
def hdrReserved (h : W64) : Bool := h.extractLsb' 36 2 = 0 ∧ h.extractLsb' 11 5 = 0
def hdrIsland (h : W64) : Nat := (h.extractLsb' 32 4).toNat
def hdrSeq (h : W64) : W16 := h.extractLsb' 16 16
def hdrLength (h : W64) : Nat := (h.extractLsb' 0 11).toNat

/-- Whether a type carries a host session (Table 1.6: dictionary requests and responses). -/
def carriesSession (t : Nat) : Bool := t == 0x05 || t == 0x06

/-- The checks of R21 in their order; the number of the first that fails. -/
def tenonCheck (l : Lane) (m : TenonMsg) (d : Dev) : Option Nat :=
  let h := m.header
  if !m.startOk then some 1
  else if m.crc ≠ crc32 (leBytes 8 h.toNat ++ m.payload) then some 2
  else if !hdrReserved h then some 3
  else match typeSpec (hdrType h) with
  | none => some 4
  | some sp =>
    if !(match l with | .hf => sp.onHF | .fh => sp.onFH) then some 4
    else if sp.max < hdrLength h ∨ hdrLength h ≠ m.payload.length ∨ (sp.exact.getD (hdrLength h)) ≠ hdrLength h
        ∨ (hdrType h = 0x08 ∧ 11 < ((m.payload.getD 0 0).toNat)) then some 5
    else if !sp.islands.contains (hdrIsland h) then some 6
    else if carriesSession (hdrType h)
        && !(match hdrSession h with
             | 0 => false
             | n + 1 => if hn : n < 6 then (match l with
                 | .hf => (d.site.fieldSession[n]'hn).isSome
                 | .fh => (d.site.sessions[n]'hn).conn.isSome) else false) then some 7
    else none

/-- The receiving port of a lane: HF ends in PD7, FH in PD0. -/
def receiverOf (l : Lane) : Fin 8 := match l with
  | .hf => 7
  | .fh => 0

/-- Whether the island of a number runs. -/
def islandUp (n : Nat) (d : Dev) : Bool := if h : n < 8 then up ⟨n, h⟩ d else false

/-- The sequence number of a message whose CRC is good: the messages missing before it are counted and reported (R22). -/
def noteSequence (l : Lane) (m : TenonMsg) (d : Dev) : Dev :=
  let seq := hdrSeq m.header
  let gap := match (laneOf l d).rxSeq with
    | some e => (seq - e).toNat
    | none => 0
  let d := onLane l (fun s => { s with rxSeq := some (seq + 1) }) d
  if gap = 0 then d else raise (receiverOf l) .tenonGap (evData [(2, gap)]) (bumpBy 0x1042 0x05 gap d)

/-- The receiver of a lane re-aligns on the next comma; the transmitter is not disturbed (R23). -/
def realign (l : Lane) (d : Dev) : Dev := onLane l (fun s => { s with crcFails := [], realigned := s.realigned + 1 }) d

/-- A CRC failure noted: the third within 1 ms re-aligns the receiver (R23). -/
def noteCrcFailure (l : Lane) (d : Dev) : Dev :=
  let fails := ((laneOf l d).crcFails.filter (fun t => decide (d.time.now < t + ms 1))) ++ [d.time.now]
  if 3 ≤ fails.length then realign l d else onLane l (fun s => { s with crcFails := fails }) d

/-- A message arrives at a port that runs (R21, R22): it is discarded whole, counted and reported where a check fails; where its CRC is
good, a gap in the sequence is counted and reported, whether or not a later check rejects it. A message for an island that does
not run is counted as undeliverable (R24); a dictionary request is answered elsewhere. Answers whether it was accepted. -/
def receive (l : Lane) (m : TenonMsg) (d : Dev) : Dev × Bool :=
  if !up (receiverOf l) d then (d, false) else
  match tenonCheck l m d with
  | some n =>
    let d := bump 0x1042 (match l with | .hf => 0x03 | .fh => 0x04) d
    let d := if n = 2 then noteCrcFailure l d else d
    let d := if 3 ≤ n then noteSequence l m d else d
    (raise1 (receiverOf l) .tenonReject n d, false)
  | none =>
    let d := noteSequence l m d
    if l = .hf ∧ hdrType m.header ≠ 0x05 ∧ !islandUp (hdrIsland m.header) d then (bump 0x1042 0x06 d, false) else (d, true)

/-- A type's message may go now under the spacing and the rate of R26. -/
def mayGo (s : LaneState) (now : Nat) (m : TenonOut) : Bool :=
  match typeSpec m.type with
  | none => false
  | some sp =>
    s.recent.all (fun r => !(r.type == m.type && r.key == m.key && decide (now < r.start + sp.spacing)))
    && (match sp.perSecond with
        | none => true
        | some n => (s.recent.filter (fun r => r.type == m.type && decide (now < r.start + sec 1))).length < n)

/-- How long classes 0 to 2 have occupied a lane within the last millisecond (R25). -/
def urgentShare (s : LaneState) (now : Nat) : Nat :=
  (s.recent.filter (fun r => (typeClass r.type).val < 3)).foldl (fun a r =>
    a + ((min now (r.start + r.dur)) - (max (now - ms 1) r.start))) 0

/-- The oldest event that waits in a field-side island's send queue (R438). -/
def oldestEvent (d : Dev) : Option (Fin 8 × EventRec) :=
  ([1, 2, 3, 4, 6, 7] : List (Fin 8)).foldl (fun best i =>
    match (d.log.queue[i]).head?, best with
    | none, b => b
    | some e, none => some (i, e)
    | some e, some (j, f) => if e.time < f.time then some (i, e) else some (j, f)) none

/-- The message that goes next from one class: the first in arrival order that its rate lets go. -/
def nextOf (l : Lane) (c : Fin 4) (d : Dev) : Option (TenonOut × Dev) :=
  let s := laneOf l d
  let here := (s.queue[c]).find? (mayGo s d.time.now)
  let take (m : TenonOut) : TenonOut × Dev := (m, onLane l (fun s => { s with queue := upd s.queue c (·.erase m) }) d)
  match (if l = .fh ∧ c = 3 then oldestEvent d else none) with
  | none => here.map take
  | some (i, e) =>
    let em : TenonOut := { tenonBytes 0x0D 0 0 i.val i.val (eventBytes i e) d with at_ := e.time }
    if mayGo s d.time.now em && (match here with | none => true | some m => decide (e.time ≤ m.at_))
    then some (em, { d with log := { d.log with queue := upd d.log.queue i (·.drop 1) } })
    else here.map take

/-- The transmitter's choice when a message ends (R25). -/
def chooseNext (l : Lane) (d : Dev) : Option (TenonOut × Dev) :=
  let s := laneOf l d
  let order : List (Fin 4) := if ms 1 * 8 / 10 ≤ urgentShare s d.time.now then [3, 0, 1, 2] else [0, 1, 2, 3]
  order.foldl (fun r c => match r with
    | some x => some x
    | none => nextOf l c d) none

/-- What the end of a message brings where no other command carries its arrival: the wall-clock offset, which a host-side time mark
takes to the metrology island (R389). -/
def landed (m : TenonOut) (d : Dev) : Dev :=
  match m.type, m.island, m.items with
  | 0x02, 2, [wall, synced] => if up 2 d then setNum 0x3800 0x14 synced (setNum 0x3800 0x13 wall d) else d
  | _, _, _ => d
/-- A metering record whose sending begins waits for its acknowledge from then on (R31). -/
def recordOnLane (m : TenonOut) (d : Dev) : Dev :=
  if m.type = 0x10 then { d with metro := { d.metro with ring := d.metro.ring.map (fun r => if r.seq = m.key then { r with sentAt := some d.time.now } else r) } }
  else d

/-- The message on a lane ends and the transmitter starts the next, with its header, its sequence number and its CRC, one character being
40 ns (R19, R20, R25, R26). -/
def laneNext (l : Lane) (d : Dev) : Dev :=
  let ended := (laneOf l d).onLane
  let d := reach (laneOf l d).busyUntil d
  let d := onLane l (fun s => { s with onLane := none, recent := s.recent.filter (fun r => decide (d.time.now < r.start + sec 1)) }) d
  let d := match ended with
    | some m => landed m d
    | none => d
  match chooseNext l d with
  | none => d
  | some (m, d) =>
    let dur := 4 * (m.length + 15)
    let h := headerOf m (laneOf l d).txSeq
    let d := onLane l (fun s => { s with
      onLane := some m, txSeq := s.txSeq + 1, header := h, crc := crcOf m h, busyUntil := d.time.now + dur,
      recent := s.recent ++ [⟨m.type, m.key, d.time.now, dur⟩] }) d
    recordOnLane m (bump 0x1042 (match l with | .hf => 0x01 | .fh => 0x02) d)

/-- LANE_NEXT_MESSAGE (R25, R26, R32). -/
def execLaneNextMessage (lane : Lane) (s : State) : Host.Outcome State Fault Refusal := done s (laneNext lane s.dev)

/-- LANE_REALIGN (R23): character alignment is lost, and the receiver re-aligns. -/
def execLaneRealign (lane : Lane) (s : State) : Host.Outcome State Fault Refusal := done s (realign lane s.dev)

/-- The number of a handshake channel in the state. -/
def chanIdx : Channel → Fin 14
  | .timeMark r => ⟨r.val, by omega⟩
  | .safetyStop => 5 | .safetyFeed => 6 | .leaseState => 7 | .peerTime => 8 | .shadowState => 9
  | .loadCommand => 10 | .loadStatus => 11 | .metrologyFeed => 12 | .lineLink => 13

/-- The stale timeout of Table 1.2, in steps. -/
def staleAfter : Channel → Nat
  | .timeMark _ => us 5
  | .safetyStop | .safetyFeed | .leaseState | .shadowState => 3 * period
  | .peerTime | .loadCommand | .loadStatus | .metrologyFeed => ms 3
  | .lineLink => ms 5

/-- The receiving island of a channel (Table 1.2). -/
def chanReceiver : Channel → Fin 8
  | .timeMark r => match r with | 0 => 1 | 1 => 2 | 2 => 3 | 3 => 4 | 4 => 6
  | .safetyStop | .leaseState | .loadStatus | .metrologyFeed => 1
  | .safetyFeed => 3 | .peerTime => 7 | .shadowState => 6 | .loadCommand => 4 | .lineLink => 0

/-- A transfer arrives on a channel: it is not stale any more (R11). -/
def transfer (ch : Channel) (d : Dev) : Dev :=
  { d with chan := upd d.chan (chanIdx ch) (fun _ => ⟨d.time.now, false⟩) }

/-- Whether a channel stands at its silence value. -/
def isStale (ch : Channel) (d : Dev) : Bool := d.chan[chanIdx ch].stale

/-- A channel with no transfer for its stale timeout goes to its silence value, and the event is raised once per episode
(R11). -/
def staleChannel (ch : Channel) (d : Dev) : Dev :=
  if isStale ch d then d else
  let d := reach ((d.chan[chanIdx ch]).last + staleAfter ch) d
  raise1 (chanReceiver ch) .channelStale (chanIdx ch).val
    { d with chan := upd d.chan (chanIdx ch) (fun c => { c with stale := true }) }

/-- The time mark channel of an island, where it has one. -/
def markChannel (i : Fin 8) : Option Channel :=
  match i.val with
  | 1 => some (.timeMark 0) | 2 => some (.timeMark 1) | 3 => some (.timeMark 2) | 4 => some (.timeMark 3)
  | 6 => some (.timeMark 4) | _ => none

/-- A time mark (R14, R16): the island measures its copy against the master and trims its increment. A correction moves the copy by one
step at most towards what the mark measures, and takes out a phase error of one step or less whole; a second mark at one instant
corrects nothing, so that no copy steps backwards. The island leaves holdover. -/
def timeMark (i : Fin 8) (offset : Int) (d : Dev) : Dev :=
  if i = 7 then d else
  let (inc, d) := freeNat d
  let d := match markChannel i with
    | some ch => transfer ch d
    | none => d
  let e := copyError i d
  let aim : Int := if -10 ≤ offset ∧ offset ≤ 10 then 0 else offset.tdiv 10
  let left : Int := if d.time.marked[i] < d.time.now then e + clamp (-1) 1 (aim - e) else e
  { d with time := { d.time with
      offset := upd d.time.offset i (fun _ => offset), error := upd d.time.error i (fun _ => left),
      marked := upd d.time.marked i (fun _ => d.time.now), increment := upd d.time.increment i (fun _ => BitVec.ofNat 32 inc),
      holdover := upd d.time.holdover i (fun _ => false), flagged := upd d.time.flagged i (fun _ => false) } }

/-- The lane round trip that the host side measures from the marks of both directions, 0 to 2000 ns (0x1042.09): a free value. -/
def measureRoundTrip (i : Fin 8) (d : Dev) : Dev :=
  if i = 0 then
    let (x, d) := freeNat d
    setNum 0x1042 0x09 ((x % 2001 : Nat) : Int) d
  else d

/-- TIME_MARK (R14, R16). -/
def execTimeMark (isl : Fin 8) (offset : Int) (s : State) : Host.Outcome State Fault Refusal :=
  done s (if up isl s.dev then measureRoundTrip isl (timeMark isl offset s.dev) else s.dev)

/-- An island's copy goes into holdover at an instant: it runs on at its last trimmed rate (Table 1.2, R16). -/
def enterHoldover (i : Fin 8) (t : Nat) (d : Dev) : Dev :=
  if d.time.holdover[i] then d else
  { d with time := { d.time with
      holdover := upd d.time.holdover i (fun _ => true), holdoverFrom := upd d.time.holdoverFrom i (fun _ => t) } }

/-- The host side's own holdover (Table 1.4): PD0 without a time mark for 10 ms, and PD5 with it, or with its line link silent. -/
def hostHoldover (d : Dev) : Dev :=
  let late := d.time.marked[(0 : Fin 8)] + ms 10
  let d := if up 0 d && decide (late ≤ d.time.now) then enterHoldover 0 late d else d
  if up 5 d && (d.time.holdover[(0 : Fin 8)] || isStale .lineLink d) then enterHoldover 5 d.time.now d else d

/-- HOLDOVER_LIMIT (Table 1.4): after 100 ms of holdover the island's time stamps are flagged. -/
def execHoldoverLimit (isl : Fin 8) (s : State) : Host.Outcome State Fault Refusal :=
  let d := hostHoldover s.dev
  done s (if d.time.holdover[isl] then
    let d := reach (d.time.holdoverFrom[isl] + ms 100) d
    { d with time := { d.time with flagged := upd d.time.flagged isl (fun _ => true) } } else d)

/-- The master's frequency against the TCXO, in ppb: it moves towards the source in use by at most 0.1 ppm a second (R15). -/
def masterRate (d : Dev) : Int :=
  let t := d.time
  let aim : Int := if t.onRefIn then t.refError.getD 0 else 0
  let step : Int := ((t.now - t.rateAt : Nat) : Int) / 1000000
  t.rate + clamp (-step) step (aim - t.rate)

/-- REFERENCE_SWITCH (R15): REF_IN is measured against the TCXO. The master uses REF_IN when the preference allows it and it has stood
within 20 ppm for 1 s, the TCXO otherwise; a change moves the frequency alone, and raises an event. -/
def execReferenceSwitch (refIn : Option Int) (s : State) : Host.Outcome State Fault Refusal :=
  if !up 7 s.dev then done s s.dev else
  let good : Bool := match refIn with
    | some e => decide (-20000 ≤ e ∧ e ≤ 20000)
    | none => false
  let since := if good then s.dev.time.goodSince else none
  let d := match since with
    | some t => reach (t + sec 1) s.dev
    | none => s.dev
  let use := on d 0x1040 0x03 && since.isSome
  let d := setNum 0x1040 0x04 (refIn.getD 0x7FFFFFFF) d
  let d1 := { d with time := { d.time with
      rate := masterRate d, rateAt := d.time.now, onRefIn := use, refError := refIn,
      goodSince := if good then some (since.getD d.time.now) else none } }
  done s (if use = d.time.onRefIn then d1
    else raise1 7 .referenceSwitch (if use then 1 else 0) (bump 0x1040 0x05 d1))

end Sys2Proof.Machine
end

