-- ==== Sys2Proof/Machine/Image.lean ====
section
/-! DEFINITION. The input image and the collector as the DMA engine reads them (Table 14.1), and what channel 13 copies of them
(R436). -/
namespace Sys2Proof.Machine

/-- Unit `u` of the leg frames region: current, brick output voltage, switch temperature and flags of each leg. -/
def legFrameWord (d : Dev) (u : Nat) : W32 :=
  let l := d.leg[(Fin.ofNat 96 (u / 4) : Fin 96)]
  match u % 4 with
  | 0 => BitVec.ofInt 32 l.current
  | 1 => BitVec.ofNat 32 (d.brick[(Fin.ofNat 24 (u / 16) : Fin 24)]).vOut
  | 2 => BitVec.ofInt 32 l.temp
  | _ => l.flags.setWidth 32
/-- The flag byte of a leg (Table 3.10). -/
def legFlagByte (d : Dev) (n : Nat) : Byte := (d.leg[(Fin.ofNat 96 n : Fin 96)]).flags
/-- Unit `u` of the closed collector bank: eight to a cell. -/
def collectorWord (d : Dev) (u : Nat) : W32 :=
  let x := d.eng.closed[(Fin.ofNat 136 (u / 8) : Fin 136)]
  Config.cellWord x.out x.written x.fault (u % 8)
/-- A number in 2⁻⁴⁰. -/
def in40 (q : Rat) : Int := q.num * 2 ^ 40 / (q.den : Int)
/-- What channel 13 copies for a snapshot: the input image, then each cell of the closed collector bank. -/
def imageWords (d : Dev) : List Int :=
  d.leg.toList.flatMap (fun l => [l.current, l.temp, l.flags.toNat])
    ++ d.brick.toList.flatMap (fun b => [(b.vOut : Int), (b.vRail : Int), (b.vDc : Int), b.iOut])
    ++ d.drive.toList.flatMap (fun u => u.position.toList)
    ++ d.eng.closed.toList.flatMap (fun x => flag x.written :: flag x.fault :: x.out.map in40)

end Sys2Proof.Machine
end

