-- ==== Sys2Proof/Machine/Dma.lean ====
section
/-! DEFINITION. The DMA engine and capture memory (R419 to R429). -/
namespace Sys2Proof.Machine

/-- The first byte address of each region of Table 14.1. -/
def legFrameBase : Nat := 0x10000000
def legFlagBase : Nat := 0x10000800
def collectorBase : Nat := 0x10010000
def workBase : Nat := 0x20000000
def captureBase : Nat := 0x40000000

/-- Whether an address lies in a region of so many bytes. -/
def within (base len a : Nat) : Bool := base ≤ a && a < base + len
/-- Whether an address lies in capture memory, 4 MiB. -/
def inCapture (a : Nat) : Bool := within captureBase 0x400000 a
/-- Whether an address lies in working memory, 256 KiB. -/
def inWork (a : Nat) : Bool := within workBase 0x40000 a

/-- What a byte of the engine's memories reads as that nothing has written: 0 in working memory, an open value in capture
memory. -/
def unlistedByte (d : Dev) (a : Nat) : Byte := if inCapture a then Config.captureByte d.dma.epoch a else 0
/-- One byte of working or capture memory. -/
def memByte (d : Dev) (a : Nat) : Byte := (d.dma.mem.lookup a).getD (unlistedByte d a)

/-- Whether a byte is never listed at an address: a zero outside capture memory. -/
def neverListed (a : Nat) (b : Byte) : Bool := b == 0 && !inCapture a
/-- A memory listing with one byte written. -/
def putByte (a : Nat) (b : Byte) (m : List Host.Cell) : List Host.Cell := putKey (neverListed a b) a b m
/-- Whether a memory listing is in its canonical form: rising addresses, and no byte listed that reads so unlisted. -/
def Memory.wf (m : List Host.Cell) : Bool := risingKeys m && m.all (fun c => !neverListed c.1 c.2)

/-- A 32-bit unit written at a byte address, least significant byte first. -/
def putUnit (a : Nat) (w : W32) (m : List Host.Cell) : List Host.Cell :=
  putByte (a + 3) (w.extractLsb' 24 8) (putByte (a + 2) (w.extractLsb' 16 8)
    (putByte (a + 1) (w.extractLsb' 8 8) (putByte a (w.extractLsb' 0 8) m)))

/-- A 32-bit unit of working or capture memory. -/
def memUnit (d : Dev) (a : Nat) : W32 :=
  BitVec.ofNat 32 (leNat [memByte d a, memByte d (a + 1), memByte d (a + 2), memByte d (a + 3)])

/-- A read by the engine: the regions of Table 14.1, none where the address lies outside every region. -/
def dmaRead (d : Dev) (a : Nat) : Option W32 :=
  if within legFrameBase 0x600 a then some (legFrameWord d ((a - legFrameBase) / 4))
  else if within legFlagBase 0x60 a then
    some (BitVec.ofNat 32 (leNat ((List.range 4).map (fun j => legFlagByte d (a - legFlagBase + j)))))
  else if within collectorBase 0x1100 a then some (collectorWord d ((a - collectorBase) / 4))
  else if inWork a || inCapture a then some (memUnit d a)
  else none

/-- Whether a channel may write at an address, or the cause that its bus error has: outside every writable region, or
capture memory that its starter does not hold (R429). -/
def dmaMayWrite (c : Fin 16) (d : Dev) (a : Nat) : Option Nat :=
  if inWork a then none
  else if inCapture a then
    if c.val ≤ 12 ∧ ¬ (d.dma.capState = .held ∧ d.dma.capOwner = d.dma.chan[c].starter) then some 8 else none
  else some 5

/-- One transfer or descriptor (Tables 14.2 and 14.3). -/
structure Move where
  src : Nat
  dst : Nat
  count : Nat
  next : Nat
  chain : Bool
  mode : Nat
  q : Nat
  srcHold : Bool
  dstHold : Bool
  endEvent : Bool

/-- A channel's own registers as its first transfer (R422). -/
def firstMove (c : Fin 16) (d : Dev) : Move :=
  let i := 0x1810 + c.val
  let w := nat d i 0x04
  ⟨nat d i 0x01, nat d i 0x02, nat d i 0x03, field w 16 8, bit w 15, field w 12 3, field w 8 4 + 1, bit w 7, bit w 6, bit w 5⟩

/-- The entry that holds a descriptor. -/
def descKey (n : Fin 256) : Nat := key (0x1840 + n.val / 64) (n.val % 64 + 1)
/-- A word of a descriptor. -/
def descWord (d : Dev) (n : Fin 256) (w : Nat) : Nat := leNat ((bytesOf (getVal d (descKey n))).drop (4 * w) |>.take 4)
/-- A descriptor as a transfer (Table 14.3). -/
def descMove (n : Fin 256) (d : Dev) : Move :=
  let w := descWord d n 2
  ⟨descWord d n 0, descWord d n 1, field w 16 16, field w 8 8, bit w 7, field w 4 3, field (descWord d n 3) 28 4 + 1,
    bit w 3, bit w 2, bit w 1⟩
/-- A descriptor's last word set by the engine: done, bad with its cause, channel and units moved. -/
def descReport (n : Fin 256) (c : Fin 16) (cause units : Nat) (d : Dev) : Dev :=
  let w3 := field (descWord d n 3) 28 4 * 2 ^ 28 + 2 ^ 27 + (if cause ≠ 0 then 2 ^ 26 else 0) + cause * 2 ^ 20 + c.val * 2 ^ 16 + units % 2 ^ 16
  setVal (descKey n) (.oct ((bytesOf (getVal d (descKey n))).take 12 ++ leBytes 4 w3)) d

/-- The byte offsets of unit `i` of a transfer at its source and destination; the hold bits are ignored in modes 1 to 4 (R426). -/
def unitAt (m : Move) (i : Nat) : Nat × Nat :=
  match m.mode with
  | 1 => (4 * i, 4 * (i % m.q * 96 + i / m.q))
  | 2 => (4 * i, 4 * (i % 96 * m.q + i / 96))
  | 3 | 4 => (4 * i, 4 * i)
  | _ => (if m.srcHold then 0 else 4 * i, if m.dstHold then 0 else 4 * i)

/-- Unit `i` of a bit-plane transfer, or of its inverse: for each of its 32 bits the byte or unit and the bit that it
comes from (R426). -/
def planeUnit (inverse : Bool) (read : Nat → Option W32) (i : Nat) : Option W32 :=
  (List.range 32).foldl (fun acc j =>
    match acc with
    | none => none
    | some w =>
      let (unit, b) : Nat × Nat :=
        if inverse then (let n := 4 * i + j / 8; (3 * (j % 8) + n / 32, n % 32))
        else (let n := i % 3 * 32 + j; (n / 4, 8 * (n % 4) + i / 3))
      match read unit with
      | none => none
      | some x => some (if x.getLsbD b then w ||| (1#32 <<< j) else w)) (some 0)

/-- The causes that end a transfer before its first unit: zero count, geometry, alignment (R420, R423, R426). -/
def moveCause (m : Move) : Nat :=
  if m.count = 0 then 1
  else if (m.mode = 1 ∨ m.mode = 2) ∧ m.count ≠ 96 * m.q then 6
  else if (m.mode = 3 ∨ m.mode = 4) ∧ m.count ≠ 24 then 6
  else if (m.mode ≠ 5 ∧ m.src % 4 ≠ 0) ∨ m.dst % 4 ≠ 0 then 7
  else 0

/-- What unit `i` of a transfer writes and where; or the cause of its bus error: 2 and 3 at the first unit, 4, 5 or 8
after it, 8 always for memory not owned. -/
def unitOf (m : Move) (c : Fin 16) (d : Dev) (i : Nat) : Except Nat (Nat × W32) :=
  let (so, dof) := unitAt m i
  let value : Option W32 :=
    if m.mode = 5 then some (BitVec.ofNat 32 m.src)
    else if m.mode = 3 ∨ m.mode = 4 then planeUnit (m.mode == 4) (fun u => dmaRead d (m.src + 4 * u)) i
    else dmaRead d (m.src + so)
  match value with
  | none => .error (if i = 0 then 2 else 4)
  | some w => match dmaMayWrite c d (m.dst + dof) with
    | none => .ok (m.dst + dof, w)
    | some 8 => .error 8
    | some e => .error (if i = 0 then 3 else e)

/-- A DMA channel changed. -/
def onDma (c : Fin 16) (f : DmaChan → DmaChan) (d : Dev) : Dev :=
  { d with dma := { d.dma with chan := upd d.dma.chan c f } }

/-- The transfer that a channel is at: of its own registers, or of a descriptor (R422). -/
def currentMove (c : Fin 16) (d : Dev) : Move := match d.dma.chan[c].current with
  | none => firstMove c d
  | some n => descMove n d
/-- A unit written by the engine; in capture memory the extent used grows with it. -/
def writeUnit (a : Nat) (w : W32) (d : Dev) : Dev :=
  let used := if inCapture a then max d.dma.capUsed (a + 4 - captureBase) else d.dma.capUsed
  { d with dma := { d.dma with mem := putUnit a w d.dma.mem, capUsed := used } }
/-- A running host channel moves its next unit, or meets a bus error that ends its transfer there (R420, R425). -/
def serveUnit (c : Fin 16) (d : Dev) : Dev :=
  let h := d.dma.chan[c]
  let m := currentMove c d
  if 12 < c.val ∨ h.state ≠ .running ∨ h.cause ≠ 0 ∨ moveCause m ≠ 0 ∨ m.count ≤ h.moved then d else
  match unitOf m c d h.moved with
  | .error e => onDma c (fun h => { h with cause := e }) d
  | .ok (a, w) => onDma c (fun h => { h with moved := h.moved + 1 }) (writeUnit a w d)
/-- The engine serves every running channel one unit, in ascending channel number (R420). -/
def rotation (d : Dev) : Dev := (all 16).foldl (fun d c => serveUnit c d) d
/-- Rotations of the engine. -/
def rotations : Nat → Dev → Dev
  | 0, d => d
  | n + 1, d => rotations n (rotation d)

/-- Whether a running channel holds a descriptor (R425). -/
def descHeld (n : Fin 256) (d : Dev) : Bool :=
  (all 16).any (fun c => d.dma.chan[c].state == .running && d.dma.chan[c].current == some n)

/-- A channel's setup of a descriptor: its outcome fields are cleared (R423), its channel is written. -/
def descSetup (n : Fin 256) (c : Fin 16) (d : Dev) : Dev :=
  let w3 := field (descWord d n 3) 28 4 * 2 ^ 28 + c.val * 2 ^ 16
  setVal (descKey n) (.oct ((bytesOf (getVal d (descKey n))).take 12 ++ leBytes 4 w3)) d

/-- The start and stop-request bits of a channel's control register cleared, since it runs no more. -/
def clearRun (c : Fin 16) (d : Dev) : Dev :=
  let w := nat d (0x1810 + c.val) 0x04
  setNum (0x1810 + c.val) 0x04 (w % 2 ^ 30 : Nat) d

/-- The lowest channel that waits for a descriptor takes it once it is free (R425). -/
def wakeWaiting (n : Fin 256) (d : Dev) : Dev :=
  if descHeld n d then d else
  match (all 16).find? (fun c => d.dma.chan[c].state == .waiting && d.dma.chan[c].current == some n) with
  | some c => descSetup n c (onDma c (fun h => { h with state := .running }) d)
  | none => d

/-- The engine runs until the transfer or descriptor of a running channel has moved its units or met a bus error; every other running
channel moves on in the rotation meanwhile (R420). -/
def runTransfer (c : Fin 16) (d : Dev) : Dev :=
  let m := currentMove c d
  if moveCause m ≠ 0 then d else rotations (m.count - d.dma.chan[c].moved) d

/-- DMA_DESCRIPTOR_END (R420 to R426): the transfer or descriptor that a running channel is at moves its units, its outcome
is recorded, and the channel stops, ends or goes on along its chain. -/
def descriptorEnd (c : Fin 16) (d : Dev) : Dev :=
  let h := d.dma.chan[c]
  if h.state ≠ .running ∨ 12 < c.val then d else
  let m := currentMove c d
  let d := runTransfer c d
  let cause := if moveCause m ≠ 0 then moveCause m else d.dma.chan[c].cause
  let units := d.dma.chan[c].moved
  let d := onDma c (fun h => { h with moved := 0, cause := 0 }) d
  let d := bumpBy 0x1800 0x01 units d
  let d := if [2, 3, 4, 5, 8].contains cause then bump 0x1800 0x02 d else d
  let d := match h.current with
    | none => setNum (0x1810 + c.val) 0x09 cause d
    | some n =>
      let d := bump (0x1810 + c.val) 0x07 (descReport n c cause units d)
      if cause ≠ 0 then bump (0x1810 + c.val) 0x08 d else d
  let d := if m.endEvent then raise1 1 .dmaDone c.val d else d
  let d :=
    if h.stopAsked then clearRun c (onDma c (fun h => { h with state := .stopped, current := none, stopAsked := false }) d)
    else if m.chain then
      let n : Fin 256 := Fin.ofNat 256 m.next
      let free := !(descHeld n (onDma c (fun h => { h with current := none }) d))
      let d := onDma c (fun h => { h with state := if free then .running else .waiting, current := some n }) d
      if free then descSetup n c d else d
    else clearRun c (onDma c (fun h => { h with state := .ended, current := none }) d)
  match h.current with
  | some n => wakeWaiting n d
  | none => d

/-- DMA_DESCRIPTOR_END. -/
def execDmaDescriptorEnd (c : Fin 16) (s : State) : Host.Outcome State Fault Refusal := done s (descriptorEnd c s.dev)

/-- A channel starts at its first transfer, whose cause is cleared as a descriptor's is (R422, R423). -/
def startChannel (c : Fin 16) (starter : Nat) (d : Dev) : Dev :=
  setNum (0x1810 + c.val) 0x09 0 (onDma c (fun _ => ⟨.running, none, false, starter, 0, 0⟩) d)

/-- A channel that the module itself uses runs, or has ended (R421, 0x181c.0A). -/
def internalChannel (c : Fin 16) (runs : Bool) (d : Dev) : Dev :=
  onDma c (fun _ => ⟨if runs then .running else .ended, none, false, 0x80, 0, 0⟩) d

/-- A channel stops at a descriptor boundary (R424). -/
def stopChannel (c : Fin 16) (d : Dev) : Dev := clearRun c (onDma c (fun h => { h with state := .stopped, current := none, stopAsked := false }) d)
/-- A stop request (R424): a channel that waits for a descriptor stands at a boundary, a running one stops at its next. -/
def askStop (c : Fin 16) (d : Dev) : Dev :=
  if d.dma.chan[c].state = .waiting then stopChannel c d
  else
    let i := 0x1810 + c.val
    onDma c (fun h => { h with stopAsked := true }) (setNum i 0x04 ((nat d i 0x04 % 2 ^ 30 + 3 * 2 ^ 30 : Nat) : Int) d)

/-- Capture memory returns to FREE and its content is undefined (R427). -/
def releaseCapture (d : Dev) : Dev :=
  { d with dma := { d.dma with capState := .free, capOwner := 0, capUsed := 0, epoch := d.dma.epoch + 1,
                               mem := d.dma.mem.filter (fun c => !inCapture c.1) } }

/-- The capture memory's content as its data entry gives it (R428). -/
def captureData (d : Dev) : List Byte := (List.range d.dma.capUsed).map (fun i => memByte d (captureBase + i))

end Sys2Proof.Machine
end

