-- ==== Sys2Proof/Machine/Snapshot.lean ====
section
/-! DEFINITION. Snapshots and the event log's own commands (R430 to R440). -/
namespace Sys2Proof.Machine

/-- A snapshot set changed. -/
def onSet (i : Fin 8) (f : SnapSet → SnapSet) (d : Dev) : Dev := { d with snap := { d.snap with sets := upd d.snap.sets i f } }

/-- SNAP_IN_EDGE (R430): the edge fires a trigger where it is the configured one. -/
def execSnapInEdge (rising : Bool) (s : State) : Host.Outcome State Fault Refusal :=
  let d := s.dev
  done s (if up 7 d && on d 0x1900 0x03 && (num d 0x1900 0x04 == if rising then 0 else 1)
    then (fireTrigger 1 0 0 0 d).1 else d)

/-- PARTNER_SCRIBE_TRIGGER (R430): a trigger from the partner, while partner triggers are enabled. -/
def execPartnerScribeTrigger (s : State) : Host.Outcome State Fault Refusal :=
  let d := s.dev
  done s (if up 7 d && on d 0x1900 0x06 then (fireTrigger 4 0 0 0 d).1 else d)

/-- A host-side island latches its snapshot registers when the scribe notice arrives, and stores its part (R431). -/
def hostLatch (i : Fin 8) (d : Dev) : Dev :=
  match d.snap.newest with
  | none => d
  | some n =>
    if !up i d || d.snap.sets[n].latched[i] then d else
    onSet n (fun s => { s with
      latched := upd s.latched i (fun _ => true), stored := upd s.stored i (fun _ => true),
      offset := upd s.offset i (fun _ => 10 * ((islandTime i d : Int) - s.time)),
      flagged := upd s.flagged i (fun _ => d.time.flagged[i]),
      words := upd s.words i (fun _ => snapWords i d) }) d

/-- SCRIBE_NOTICE (R431). -/
def execScribeNotice (m : TenonMsg) (s : State) : Host.Outcome State Fault Refusal :=
  let (d, ok) := receive .fh m s.dev
  done s (if ok && hdrType m.header == 0x13 then hostLatch 5 (hostLatch 0 d) else d)

/-- SNAPSHOT_FRAGMENT (R504): the fragments of a field part are put into the set, which holds the part after the last. -/
def execSnapshotFragment (m : TenonMsg) (set part : Fin 8) (s : State) : Host.Outcome State Fault Refusal :=
  let (d, ok) := receive .fh m s.dev
  done s (if ok && hdrType m.header == 0x0E && hdrLast m.header && d.snap.sets[set].latched[part]
    then onSet set (fun x => { x with stored := upd x.stored part (fun _ => true) }) d else d)

/-- At the period boundary after the latch channel 13 copies the input image and the collector bank of the period in which the trigger fell
into the field control island's part, before the next bank swap (R436). -/
def fieldStore (d : Dev) : Dev := match d.snap.fieldDue with
  | none => d
  | some n =>
    let d := reach (nextBoundary d) d
    let d := internalChannel 13 false (onSet n (fun x => { x with words := upd x.words 1 (· ++ imageWords d) }) d)
    { d with snap := { d.snap with fieldDue := none } }
/-- SNAPSHOT_FIELD_STORE (R436). -/
def execSnapshotFieldStore (s : State) : Host.Outcome State Fault Refusal := done s (fieldStore s.dev)

/-- Whether every present island has stored its part, the host side having latched (R433). -/
def setComplete (i : Fin 8) (d : Dev) : Bool :=
  let x := d.snap.sets[i]
  x.written && (all 8).all (fun j => !x.latched[j] || x.stored[j]) && (!up 0 d || x.latched[(0 : Fin 8)])

/-- SNAPSHOT_SET_VALID (R433). -/
def execSnapshotSetValid (set : Fin 8) (s : State) : Host.Outcome State Fault Refusal :=
  let d := s.dev
  done s (if setComplete set d then onSet set (fun x => { x with valid := true }) d else d)

/-- The header of a set, 52 bytes (Table 14.6). -/
def setHeader (x : SnapSet) : List Byte :=
  leBytes 4 x.seq ++ leBytes 1 x.source ++ leBytes 1 x.merged ++ leBytes 1 (maskOf (fun i : Fin 8 => x.latched[i]))
    ++ leBytes 1 x.session ++ leBytes 8 x.time ++ leBytes 2 x.eventCode ++ leBytes 1 x.eventGroup ++ leBytes 1 0
    ++ (all 8).flatMap (fun i => leBytes 4 (x.offset[i] % 2 ^ 32).toNat)

/-- EVENT_RAISED (R438): a running island raises an event. -/
def execEventRaised (isl : Fin 8) (name : EventName) (data : List Byte) (s : State) : Host.Outcome State Fault Refusal :=
  done s (if up isl s.dev then raise isl name data s.dev else s.dev)

/-- EVENT_QUEUE_ROOM (R438): when room has returned, an events-lost event carries the count. -/
def execEventQueueRoom (isl : Fin 8) (s : State) : Host.Outcome State Fault Refusal :=
  let d := s.dev
  done s (if 0 < d.log.lost[isl] ∧ d.log.queue[isl].length < 32 then
    let d' := { d with log := { d.log with lost := upd d.log.lost isl (fun _ => 0) } }
    raise isl .eventsLost (evData [(4, d.log.lost[isl])]) d'
  else d)

/-- EVENT (R438): the host island numbers an event that has arrived and appends it to the log ring. -/
def execEvent (m : TenonMsg) (s : State) : Host.Outcome State Fault Refusal :=
  let (d, ok) := receive .fh m s.dev
  done s (if ok && hdrType m.header == 0x0D then logAppend m.payload d else d)

/-- Every unflushed entry written to flash (R439). -/
def flushLog (d : Dev) : Dev :=
  { d with log := { d.log with flash := d.log.ring, unflushed := 0, lastFlush := d.time.now } }

/-- EVENT_LOG_FLUSH (R439): at 64 unflushed entries, and otherwise a second after the last flush. -/
def execEventLogFlush (s : State) : Host.Outcome State Fault Refusal :=
  let d := s.dev
  done s (if !up 0 d then d else flushLog (if 64 ≤ d.log.unflushed then d else reach (d.log.lastFlush + sec 1) d))

/-- Whether a log entry's own CRC covers it (Table 14.7). -/
def logEntryOk (b : List Byte) : Bool := b.length == 32 && leNat (b.drop 28) == (crc32 (b.take 28)).toNat

/-- The ring rebuilt from flash at start, entries with a failing CRC skipped and counted (R439). -/
def rebuildLog (d : Dev) : Dev :=
  let good := d.log.flash.filter (fun e => logEntryOk e.2)
  let d := setNum 0x1920 0x08 ((d.log.flash.length - good.length : Nat) : Int) d
  let next := match good.getLast? with
    | some e => e.1 + 1
    | none => d.log.nextSeq
  { d with log := { d.log with ring := good, nextSeq := max d.log.nextSeq next, unflushed := 0, lastFlush := d.time.now } }

/-- The entry of the log that a read index names, where the ring holds it (R440). -/
def logEntry (seq : Nat) (d : Dev) : Option (List Byte) := d.log.ring.lookup seq

end Sys2Proof.Machine
end

