-- ==== Sys2Proof/Machine/Ring.lean ====
section
/-! DEFINITION. The rafter ring: contactors, segments and the topology interlock (R34 to R58). -/
namespace Sys2Proof.Machine

/-- The brick's own configuration entry index. -/
def brickIdx (k : Fin 24) : Nat := 0x2200 + k.val
/-- Whether a rail is fitted (Table 2.7). -/
def railFitted (j : Fin 12) (d : Dev) : Bool := bit (nat d 0x2805 0x02) j.val
/-- The rail a brick is homed on (R34). -/
def railOf (k : Fin 24) : Fin 12 := ⟨k.val / 2, by omega⟩
/-- The two home bricks of a rail (R34). -/
def bricksOf (j : Fin 12) : List (Fin 24) := [⟨2 * j.val, by omega⟩, ⟨2 * j.val + 1, by omega⟩]
/-- The brick of a leg (R34). -/
def brickOf (n : Fin 96) : Fin 24 := ⟨n.val / 4, by omega⟩
/-- The legs of a brick (R34). -/
def legsOf (k : Fin 24) : List (Fin 96) :=
  [⟨4 * k.val, by omega⟩, ⟨4 * k.val + 1, by omega⟩, ⟨4 * k.val + 2, by omega⟩, ⟨4 * k.val + 3, by omega⟩]
/-- Whether a brick is fitted; a rail not fitted has none (Table 2.7, Table 2.8). -/
def brickFitted (k : Fin 24) (d : Dev) : Bool := on d (brickIdx k) 0x01 && railFitted (railOf k) d
/-- Whether a tie is fitted (Table 2.7). -/
def tieFitted (j : Fin 12) (d : Dev) : Bool := bit (nat d 0x2805 0x01) j.val
/-- The rail above a rail, modulo 12. -/
def above (j : Fin 12) : Fin 12 := ⟨(j.val + 1) % 12, by omega⟩
/-- The two cards that drive a tie (R35). -/
def tieCards (j : Fin 12) : List (Fin 24) := [⟨2 * j.val + 1, by omega⟩, ⟨(2 * j.val + 2) % 24, by omega⟩]

/-- Updates of the power hierarchy. -/
def onBrick (k : Fin 24) (f : Brick → Brick) (d : Dev) : Dev := { d with brick := upd d.brick k f }
def onLeg (n : Fin 96) (f : Leg → Leg) (d : Dev) : Dev := { d with leg := upd d.leg n f }
def onSeg (h : Fin 12) (f : SegCtl → SegCtl) (d : Dev) : Dev := { d with ring := { d.ring with seg := upd d.ring.seg h f } }

/-- A contactor's record. -/
def contactor (x : ContactorId) (d : Dev) : Contactor := match x with
  | .tie j => d.ring.tie[j]
  | .brick k => (d.brick[k]).contactor
  | .outlet j => d.ring.outlet[j]
/-- A contactor's record changed. -/
def onContactor (x : ContactorId) (f : Contactor → Contactor) (d : Dev) : Dev := match x with
  | .tie j => { d with ring := { d.ring with tie := upd d.ring.tie j f } }
  | .brick k => onBrick k (fun b => { b with contactor := f b.contactor }) d
  | .outlet j => { d with ring := { d.ring with outlet := upd d.ring.outlet j f } }

/-- The cards that read a contactor's auxiliary contacts: one for a brick, two for a tie or an outlet (R35, R36). -/
def contactCards : ContactorId → List (Fin 24)
  | .brick k => [k]
  | .outlet j => bricksOf j
  | .tie j => tieCards j
/-- The auxiliary input of a card that a kind of contactor is wired to: BRK, OUT or TIE. -/
def contactInput : ContactorId → Fin 3
  | .brick _ => 0
  | .outlet _ => 1
  | .tie _ => 2
/-- The auxiliary contact inputs of a contactor. -/
def contacts (x : ContactorId) (d : Dev) : List Contact := (contactCards x).map (fun k => (d.brick[k]).aux[contactInput x])
/-- The contact inputs that still report: a LOST card reports nothing, and R54 goes by what the other card reports
(DEDUCED, log 170). -/
def reporting (x : ContactorId) (d : Dev) : List Contact :=
  ((contactCards x).filter (fun k => (d.brick[k]).link != .lost)).map (fun k => (d.brick[k]).aux[contactInput x])

/-- The debounce time in steps. -/
def debounce (d : Dev) : Nat := ms (nat d 0x2802 0x07)

/-- Whether a contactor's contacts all report a state after the debounce time. -/
def contactsReport (x : ContactorId) (closed : Bool) (d : Dev) : Bool := (reporting x d).all (fun c => c.deb == closed)

/-- Whether the feedback contact of an outlet contactor reports it closed (R40, R263). -/
def feedbackClosed (j : Fin 12) (d : Dev) : Bool := !(d.safety.fb[j]).deb

/-- Whether a contactor counts as closed (R40): it is commanded closed, and has not opened without a command (R55), or some contact
reports it closed after the debounce time. Two contacts that disagree count it closed by the one that reports closed (R48). -/
def countsClosed (x : ContactorId) (d : Dev) : Bool :=
  let c := contactor x d
  (match x with | .tie j => tieFitted j d | _ => true)
  && ((c.cmd && !c.dropped) || (reporting x d).any (·.deb)
      || (match x with | .outlet j => feedbackClosed j d | _ => false))

/-- Whether a brick's contactor sends its legs to OFF (Table 3.16): it counts open, or is in travel fault. -/
def brickOff (k : Fin 24) (d : Dev) : Bool := !countsClosed (.brick k) d || (d.brick[k]).contactor.travelFault
/-- The ties counted closed and counted open. -/
def tieClosed (j : Fin 12) (d : Dev) : Bool := countsClosed (.tie j) d
/-- The outlets counted closed. -/
def outletClosed (j : Fin 12) (d : Dev) : Bool := countsClosed (.outlet j) d

/-- The head rail of the run of rails that a rail belongs to: down from the rail to just above the next tie that is not closed; rail A
where every tie is (R49). `n` is how many ties may still be looked at. -/
def headFrom (closed : Vector Bool 12) : Nat → Fin 12 → Fin 12
  | 0, _ => 0
  | n + 1, j =>
    let below : Fin 12 := ⟨(j.val + 11) % 12, by omega⟩
    if closed[below] then headFrom closed n below else j
/-- The head rail of every rail's run. -/
def headsBy (closed : Vector Bool 12) : Vector (Fin 12) 12 := tab (fun j => headFrom closed 12 j)
/-- The ties counted closed (R40). -/
def tieMask (d : Dev) : Vector Bool 12 := tab (fun j => tieClosed j d)
/-- The head rail of a rail's segment (R49). -/
def headOf (j : Fin 12) (d : Dev) : Fin 12 := headFrom (tieMask d) 12 j

/-- The rails that have a rail as their head, upwards from it in ring order. -/
def runOf (head : Vector (Fin 12) 12) (h : Fin 12) : List (Fin 12) :=
  ((List.range 12).map (fun i => (⟨(h.val + i) % 12, by omega⟩ : Fin 12))).filter (fun j => head[j] == h)
/-- The rails of the segment that a rail heads, as derived in the last period (R49). -/
def segRails (h : Fin 12) (d : Dev) : List (Fin 12) := runOf d.ring.head h
/-- The rails of the group that a rail heads, which one rail loop regulates: the segment, but while a tie close is in travel, when
the segment's two parts are still regulated apart (R91, R106; DEDUCED, log 171). -/
def members (h : Fin 12) (d : Dev) : List (Fin 12) := runOf d.ring.group h
/-- The head rails of the groups, ascending. -/
def heads (d : Dev) : List (Fin 12) := (all 12).filter (fun h => d.ring.group[h] == h)
/-- The closed outlets of a group. -/
def closedOutlets (h : Fin 12) (d : Dev) : List (Fin 12) := (members h d).filter (fun j => outletClosed j d)
/-- The legs of a segment in ring order from the lowest leg of the head rail (R77). -/
def segLegs (h : Fin 12) (d : Dev) : List (Fin 96) := (members h d).flatMap (fun j => (bricksOf j).flatMap legsOf)
/-- The fitted bricks of a segment in ring order. -/
def segBricks (h : Fin 12) (d : Dev) : List (Fin 24) := (members h d).flatMap (fun j => (bricksOf j).filter (fun k => brickFitted k d))

/-- The segments derived from the ties counted open (R49). -/
def deriveSegments (d : Dev) : Dev := { d with ring := { d.ring with head := headsBy (tieMask d) } }

/-- The rail-side samples of a rail that are good in this period, in 0.05 V (R42). -/
def railSamples (j : Fin 12) (d : Dev) : List Nat :=
  ((bricksOf j).filter (fun k => (d.brick[k]).fresh && (d.brick[k]).railGood)).map (fun k => (d.brick[k]).vRail)
/-- Whether two samples differ by more than so many units. -/
def apart (a b w : Nat) : Bool := decide (b + w < a) || decide (a + w < b)
/-- Whether both cards of a rail delivered good samples that differ by more than 2 V (R42). -/
def senseApart (j : Fin 12) (d : Dev) : Bool := match railSamples j d with
  | [a, b] => apart a b 40
  | _ => false
/-- Whether a rail's voltage is valid (R42). -/
def railValid (j : Fin 12) (d : Dev) : Bool := railSamples j d != [] && !senseApart j d
/-- The tie close window in 0.05 V. -/
def closeWindow (d : Dev) : Nat := 2 * nat d 0x2802 0x08
/-- The tie close permit in this period, with every valid sample of each rail (R42). -/
def tiePermit (j : Fin 12) (d : Dev) : Bool :=
  railValid j d && railValid (above j) d
  && (railSamples j d).all (fun a => (railSamples (above j) d).all (fun b => !apart a b (closeWindow d)))
/-- The brick close permit in this period: brick output and rail voltage within the window (Table 2.4). -/
def brickPermit (k : Fin 24) (d : Dev) : Bool :=
  let b := d.brick[k]
  b.fresh && b.outGood && railValid (railOf k) d && (railSamples (railOf k) d).all (fun v => !apart b.vOut v (closeWindow d))

/-- The sum of the brick output currents of some rails, in 20 mA. The manual says nothing of a LOST brick's current; its last sample
is not counted (DESIGN CHOICE, log 172). -/
def railsCurrent (l : List (Fin 12)) (d : Dev) : Int :=
  (l.flatMap bricksOf).foldl (fun a k => a + (if (d.brick[k]).link == .lost then 0 else (d.brick[k]).iOut)) 0
/-- The open limit in 20 mA. -/
def openLimit (d : Dev) : Int := 5 * num d 0x2802 0x09
/-- The rails of a segment on either side of one of its ties, lower part first (R43). -/
def partsAt (j : Fin 12) (d : Dev) : List (Fin 12) × List (Fin 12) :=
  let m := segRails (d.ring.head[j]) d
  let i := m.idxOf j + 1
  (m.take i, m.drop i)
/-- The currents that must be low for a tie to open: the departing side's, or both sides' where neither holds a closed
outlet (R43). -/
def tieCurrents (j : Fin 12) (d : Dev) : List Int :=
  let (lo, hi) := partsAt j d
  let held (l : List (Fin 12)) : Bool := l.any (fun r => outletClosed r d)
  if held lo && !held hi then [railsCurrent hi d]
  else if held hi && !held lo then [railsCurrent lo d]
  else [railsCurrent lo d, railsCurrent hi d]
/-- Whether a tie's current is below the open limit in this period. -/
def tieLow (j : Fin 12) (d : Dev) : Bool := (tieCurrents j d).all (fun i => decide (-(openLimit d) < i ∧ i < openLimit d))
/-- Whether a brick's output current is below the open limit in this period. -/
def brickLow (k : Fin 24) (d : Dev) : Bool :=
  (d.brick[k]).fresh && decide (-(openLimit d) < (d.brick[k]).iOut ∧ (d.brick[k]).iOut < openLimit d)

/-- A counter of consecutive periods up to three. -/
def count3 (ok : Bool) (n : Nat) : Nat := if ok then min 3 (n + 1) else 0

/-- The permits and low currents of the period counted for every tie and brick contactor (R41 to R43). -/
def countPermits (d : Dev) : Dev :=
  let d := { d with ring := { d.ring with tie := tab (fun j =>
    let c := d.ring.tie[j]
    { c with permits := count3 (tiePermit j d) c.permits, lows := count3 (tieLow j d) c.lows }) } }
  { d with brick := tab (fun k =>
    let b := d.brick[k]
    { b with contactor := { b.contactor with
        permits := count3 (brickPermit k d) b.contactor.permits, lows := count3 (brickLow k d) b.contactor.lows } }) }

/-- A card orphaned, or lost, to which no contactor change is granted (R54). -/
def cardGone (k : Fin 24) (d : Dev) : Bool := (d.brick[k]).orphan || (d.brick[k]).link == .lost
/-- Whether a tie has kept its state for the minimum dwell time (Table 2.4). -/
def dwelt (j : Fin 12) (d : Dev) : Bool := match (d.ring.tie[j]).lastChange with
  | none => true
  | some t => decide (t + ms (nat d 0x2802 0x0A) ≤ d.time.now)

/-- The condition of Table 2.4 that a change fails, by number: 1 frozen or in travel fault, 2 invariant 1, 3 two outlets in
one segment, 4 rail voltage not valid, 5 close permit, 6 card orphaned, 7 dwell time, 8 current, 9 outlet permit. -/
def refusal (permit : Fin 12 → Dev → Bool) (x : ContactorId) (d : Dev) : Option Nat :=
  let c := contactor x d
  if c.want then
    if c.frozen || c.travelFault then some 1 else
    match x with
    | .tie j =>
      let e := deriveSegments d
      let joined := segRails (e.ring.head[j]) e ++ segRails (e.ring.head[above j]) e
      if !((all 12).any (fun i => i != j && tieFitted i d && !tieClosed i d)) || !tieFitted j d then some 2
      else if 2 ≤ ((all 12).filter (fun r => joined.contains r && outletClosed r d)).length then some 3
      else if !railValid j d || !railValid (above j) d then some 4
      else if c.permits < 3 then some 5
      else if (tieCards j).any (fun k => cardGone k d) then some 6
      else if !dwelt j d then some 7
      else none
    | .brick k =>
      if c.permits < 3 then some 5 else if cardGone k d then some 6 else none
    | .outlet j =>
      let d' := deriveSegments d
      if (segRails (d'.ring.head[j]) d').any (fun r => r != j && outletClosed r d) then some 3
      else if !permit j d then some 9 else none
  else match x with
    | .tie j =>
      if c.frozen then some 1
      else if c.lows < 3 then some 8
      else if (tieCards j).any (fun k => cardGone k d) then some 6
      else if !dwelt j d then some 7
      else none
    | .brick k => if c.lows < 3 then some 8 else if cardGone k d then some 6 else none
    | .outlet _ => none

/-- A contactor's kind and index as event data names it. -/
def contactorData : ContactorId → List Byte
  | .tie j => [1, BitVec.ofNat 8 j.val]
  | .brick k => [2, BitVec.ofNat 8 k.val]
  | .outlet j => [3, BitVec.ofNat 8 j.val]

/-- An operation of a contactor counted (Tables 2.6 and 2.8). -/
def countOperation (x : ContactorId) (d : Dev) : Dev := match x with
  | .tie j => bump 0x2803 (j.val + 1) d
  | .outlet j => bump 0x2804 (j.val + 1) d
  | .brick k => bump (brickIdx k) 0x06 d

/-- The interlock judges one change that is asked for: it is granted and goes into travel, or its bit keeps its state and
the refusal is counted and reported (R41, R44). -/
def judge (permit : Fin 12 → Dev → Bool) (x : ContactorId) (d : Dev) : Dev :=
  let c := contactor x d
  if c.want = c.cmd then d else
  match refusal permit x d with
  | none =>
    onContactor x (fun c => { c with cmd := c.want, travel := some d.time.now, lastChange := some d.time.now,
                                     dropped := false, refused := false }) d
  | some n =>
    if c.refused then d
    else raise 1 .topologyRefusal (contactorData x ++ [BitVec.ofNat 8 n])
      (bump 0x2800 0x06 (onContactor x (fun c => { c with refused := true }) d))

/-- Every contactor in the interlock's order within one direction: ties, bricks, outlets, ascending (R41). -/
def contactorOrder : List ContactorId :=
  (all 12).map .tie ++ (all 24).map .brick ++ (all 12).map .outlet

/-- The interlock's evaluation of a period: all openings before any closing (R41). -/
def interlock (permit : Fin 12 → Dev → Bool) (d : Dev) : Dev :=
  let d := contactorOrder.foldl (fun d x => if !(contactor x d).want then judge permit x d else d) d
  contactorOrder.foldl (fun d x => if (contactor x d).want then judge permit x d else d) d

/-- A granted tie close in travel whose permit fails is withdrawn and counted (R45). -/
def checkTravel (d : Dev) : Dev :=
  (all 12).foldl (fun d j =>
    let c := d.ring.tie[j]
    if c.cmd && c.travel.isSome && !contactsReport (.tie j) true d && !tiePermit j d then
      raise 1 .tieCloseAborted [BitVec.ofNat 8 j.val] (countOperation (.tie j)
        (onContactor (.tie j) (fun c => { c with cmd := false, want := false, travel := some d.time.now, lastChange := some d.time.now }) d))
    else d) d

/-- The contact inputs debounced at an instant. -/
def debounceContacts (d : Dev) : Dev :=
  let t := debounce d
  { d with brick := tab (fun k =>
    let b := d.brick[k]
    { b with aux := tab (fun i =>
        let c := b.aux[i]
        if c.since + t ≤ d.time.now then { c with deb := c.raw } else c) }) }

/-- A disagreement of two contacts is over once they agree again (R48). -/
def clearAgreed (d : Dev) : Dev :=
  let agreed (x : ContactorId) : Bool := match contacts x d with
    | [a, b] => a.raw == b.raw
    | _ => true
  { d with ring := { d.ring with
      tie := tab (fun j => let c := d.ring.tie[j]; { c with disagree := c.disagree && !agreed (.tie j) })
      outlet := tab (fun j => let c := d.ring.outlet[j]; { c with disagree := c.disagree && !agreed (.outlet j) }) } }

/-- A contactor that has opened without a command (R55): commanded closed, not in travel, and every contact that reports says
open. -/
def droppedNow (x : ContactorId) (d : Dev) : Bool :=
  let c := contactor x d
  c.cmd && c.travel.isNone && !c.dropped && reporting x d != [] && contactsReport x false d

/-- Uncommanded openings are found and reported, with the current last computed under R43 or the brick's last (R55). -/
def checkDropped (d : Dev) : Dev :=
  let d := (all 12).foldl (fun d j =>
    if droppedNow (.tie j) d then
      let i := (tieCurrents j d).foldl (fun a x => if a.natAbs < x.natAbs then x else a) 0
      raise 1 .tieOpenedUncommanded (evData [(1, j.val), (4, 20 * i)]) (onContactor (.tie j) (fun c => { c with dropped := true }) d)
    else d) d
  (all 24).foldl (fun d k =>
    if droppedNow (.brick k) d then
      raise 1 .brickOpenedUncommanded (evData [(1, k.val), (4, 20 * (d.brick[k]).iOut)])
        (onContactor (.brick k) (fun c => { c with dropped := true }) d)
    else d) d

/-- An uncommanded opening is over once the contactor is commanded open, or a contact reports it closed again. -/
def clearDropped (d : Dev) : Dev :=
  let still (x : ContactorId) (c : Contactor) : Bool := c.dropped && c.cmd && !(reporting x d).any (·.deb)
  { d with
    ring := { d.ring with tie := tab (fun j => let c := d.ring.tie[j]; { c with dropped := still (.tie j) c }) }
    brick := tab (fun k => let b := d.brick[k]; { b with contactor := { b.contactor with dropped := still (.brick k) b.contactor } }) }

/-- While an uncommanded opening lasts, the parts beside the tie that hold no closed outlet, and the legs of the brick, are held at
zero current (R55). -/
def zeroDropped (d : Dev) : Dev :=
  let part (r : Fin 12) : Bool := !(segRails (d.ring.head[r]) d).any (fun k => outletClosed k d)
    && (all 12).any (fun j => (d.ring.tie[j]).dropped && (d.ring.head[j] == d.ring.head[r] || d.ring.head[above j] == d.ring.head[r]))
  { d with ring := { d.ring with openZero := tab part, brickZero := tab (fun k => (d.brick[k]).contactor.dropped) } }

/-- The rails of the segments in which the observed state breaks invariant 1 or 2 (R46). -/
def brokenRails (d : Dev) : List (Fin 12) :=
  let inv1 := (all 12).any (fun j => tieFitted j d && !tieClosed j d)
  (all 12).filter (fun j => !inv1 || 2 ≤ ((segRails (d.ring.head[j]) d).filter (fun k => outletClosed k d)).length)

/-- The rail-sense disagreement events of R42, raised when a disagreement begins. -/
def checkSense (d : Dev) : Dev :=
  let d' := { d with ring := { d.ring with senseDisagree := tab (fun j => senseApart j d) } }
  (all 12).foldl (fun e j =>
    if senseApart j d && !d.ring.senseDisagree[j] then raise1 1 .railSenseDisagreement j.val e else e) d'

/-- The worst-case travel time of a change, in steps (Table 2.7). -/
def travelTime (x : ContactorId) (closing : Bool) (d : Dev) : Nat :=
  let base := match x with | .tie _ => 0x01 | .brick _ => 0x03 | .outlet _ => 0x05
  ms (nat d 0x2802 (base + if closing then 0 else 1))
/-- How long a change may take until its confirmation is overdue: the travel time, the debounce time and 10 ms (R47). -/
def travelBound (x : ContactorId) (closing : Bool) (d : Dev) : Nat := travelTime x closing d + debounce d + ms 10

/-- A change confirmed by the contacts after the debounce time completes its travel (Table 2.5). -/
def confirmTravel (x : ContactorId) (d : Dev) : Option Dev :=
  let c := contactor x d
  if c.travel.isSome && reporting x d != [] && (reporting x d).all (fun a => a.raw == c.cmd) then
    let since := (reporting x d).foldl (fun t a => max t a.since) 0
    let d := debounceContacts (reach (since + debounce d) d)
    some (countOperation x (onContactor x (fun c => { c with travel := none, disagree := false }) d))
  else none

/-- A travel fault by kind of contactor (R47). The command of a tie is withdrawn: its bit goes back to what it was before the change
(DEDUCED, log 173). -/
def travelFault (x : ContactorId) (d : Dev) : Dev := match x with
  | .tie j => raise1 1 .tieTravelFault j.val
      (onContactor x (fun c => { c with cmd := !c.cmd, want := !c.cmd, travel := none, frozen := true }) d)
  | .brick k => raise1 1 .brickTravelFault k.val
      (onContactor x (fun c => { c with cmd := false, want := false, travel := none, travelFault := true }) d)
  | .outlet j => raise1 1 .outletTravelFault j.val
      (onContactor x (fun c => { c with cmd := false, want := false, travel := none, travelFault := true }) d)

/-- CONTACT_DISAGREEMENT (R48): the contactor counts as closed, and an event is raised. -/
def execContactDisagreement (x : ContactorId) (s : State) : Host.Outcome State Fault Refusal :=
  let d := s.dev
  done s (match contacts x d with
    | [a, b] =>
      if a.raw = b.raw ∨ (contactor x d).disagree then d else
        let d := debounceContacts (reach (max a.since b.since + debounce d) d)
        raise 1 .contactDisagreement (contactorData x) (onContactor x (fun c => { c with disagree := true }) d)
    | _ => d)

/-- A brick contactor's state as 0x22kk.03 and 0x30k0.0B report it. -/
def contactorCode (x : ContactorId) (d : Dev) : Nat :=
  let c := contactor x d
  if c.travelFault then 4 else if c.travel.isSome then (if c.cmd then 2 else 3) else if countsClosed x d then 1 else 0

/-- The contactor that a test or clear command names (Table 2.7): kind in [15:8], index in [7:0]. -/
def contactorNamed (v : Nat) : Option ContactorId :=
  let i := v % 256
  match v / 256 with
  | 1 => if h : i < 12 then some (.tie ⟨i, h⟩) else none
  | 2 => if h : i < 24 then some (.brick ⟨i, h⟩) else none
  | 3 => if h : i < 12 then some (.outlet ⟨i, h⟩) else none
  | _ => none

end Sys2Proof.Machine
end

