-- ==== Sys2Proof/Machine/Rails.lean ====
section
/-! DEFINITION. Rail set-points, slew and tracking episodes (R91 to R116). Voltages are in 10 µV. -/
namespace Sys2Proof.Machine

/-- A rail changed. -/
def onRail (j : Fin 12) (f : Rail → Rail) (d : Dev) : Dev := { d with rail := upd d.rail j f }
/-- A rail's entries: status, commands, stored voltages and rates, tracking parameters, ratiometric command. -/
def railIdx (j : Fin 12) (t : Nat) : Nat := 0x2400 + 16 * j.val + t

/-- A rail's measured voltage of the present samples: the mean of its good rail-side samples, where it is valid (R92). -/
def measured (j : Fin 12) (d : Dev) : Option Int :=
  if !railValid j d then none else match railSamples j d with
  | [a] => some (5000 * a)
  | [a, b] => some (2500 * (a + b))
  | _ => none

/-- The effective voltage ceiling (R94). -/
def vCeil (j : Fin 12) (d : Dev) : Int :=
  let c := min (100 * num d (railIdx j 1) 0x08) (100 * num d (0x3001 + 16 * j.val) 0x03)
  match (d.out[j]).vehMax with
  | some v => min c (100 * v)
  | none => c
/-- The effective voltage floor (R94). -/
def vFloor (j : Fin 12) (d : Dev) : Int :=
  let f := max (100 * num d (railIdx j 1) 0x09) 15000000
  match (d.out[j]).vehMin with
  | some v => max f (100 * v)
  | none => f

/-- Whether a rail takes its commands from a host (R96). -/
def hostSource (j : Fin 12) (d : Dev) : Bool := num d (railIdx j 1) 0x01 == 1

/-- A leg in service (R50, R51). -/
def inService (l : Leg) : Bool := l.state == .active || l.state == .diodeEmu
/-- A leg that an episode can use (R103). -/
def usable (l : Leg) : Bool := l.state == .standby || inService l || l.state == .shed
/-- The head rail of the group a rail is regulated in: its segment, but while a tie close is in travel (R91, R106). -/
def segOf (j : Fin 12) (d : Dev) : Fin 12 := d.ring.group[j]
/-- A tracking parameter of a rail's episode by its sub-index, as the episode took it at its start (R116). -/
def par (j : Fin 12) (sub : Nat) (d : Dev) : Nat := ((d.rail[j]).par).toList.getD (sub - 1) 0
/-- The tracking parameters in force are taken for an episode that starts (R116). -/
def latchPar (j : Fin 12) (d : Dev) : Dev := onRail j (fun r => { r with par := tab (fun i => nat d (railIdx j 4) (i.val + 1)) }) d
/-- Whether a rail's segment has a leg that an episode can use (R103). -/
def hasLegs (j : Fin 12) (d : Dev) : Bool := (segLegs (segOf j d) d).any (fun n => usable d.leg[n])
/-- The governing rail of a rail's segment. -/
def governs (j : Fin 12) (d : Dev) : Bool := (d.rail[j]).governing == j
/-- The legs of a segment in service. -/
def activeLegs (h : Fin 12) (d : Dev) : List (Fin 96) := (segLegs h d).filter (fun n => inService d.leg[n])

/-- A leg enters service: its loop state starts from zero and its measured current (Table 3.16, R130). -/
def legToService (n : Fin 96) (d : Dev) : Dev :=
  let d := onLeg n (fun l => { l with state := .active, shedCause := .none, belowBd := 0, implausible := 0 }) d
  { d with eng := { d.eng with legX := upd d.eng.legX n (fun _ => zeroFixed) } }
/-- Every leg of a segment in STANDBY is put into service (R105). -/
def startLegs (h : Fin 12) (d : Dev) : Dev :=
  (segLegs h d).foldl (fun d n => if (d.leg[n]).state = .standby then legToService n d else d) d
/-- The legs of a segment go to STANDBY (R111). -/
def restLegs (h : Fin 12) (d : Dev) : Dev :=
  (segLegs h d).foldl (fun d n =>
    if inService d.leg[n] || (d.leg[n]).state == .shed || (d.leg[n]).state == .braking
    then onLeg n (fun l => { l with state := .standby, shedCause := .none }) d else d) d

/-- The step of a slew in 10 µV: rate × 100 µV (R99). -/
def slewStep (rate : Nat) : Int := 10 * rate
/-- One period of a slew (R99). -/
def slew (s t : Int) (rate : Nat) : Int :=
  let st := slewStep rate
  if (t - s).natAbs ≤ st.natAbs then t else if s < t then s + st else s - st

/-- The start of an episode: S is taken from the measured voltage of the previous period, the legs in STANDBY are put into service,
and S is held for the start settle time (R105, R106). -/
def beginTrack (j : Fin 12) (ep : Episode) (d : Dev) : Dev :=
  let d := latchPar j (startLegs (segOf j d) d)
  onRail j (fun r => { r with
    state := .precharging, episode := ep, s := r.vPrev.getD r.s, epStart := d.time.now,
    settleUntil := d.time.now + period * par j 0x0A d, paused := false, inWindow := false, feedOk := 0,
    neighbour := [], currentMode := false, follows := none, leader := none, xv := zeroFixed }) d

/-- Whether a start can be granted (R103, R105), by its abort code. -/
def startRefusal (j : Fin 12) (d : Dev) : Option Nat :=
  if (d.rail[j]).state ≠ .free ∨ !governs j d ∨ (members (segOf j d) d).any (fun i => (d.rail[i]).state ≠ .free) then some 0x24000015
  else if !hasLegs j d then some 0x24000018 else none
/-- A start episode where it can be granted (R105). -/
def beginStart (j : Fin 12) (d : Dev) : Dev := match startRefusal j d with
  | none => beginTrack j .start d
  | some _ => d
/-- A coincident tie episode for a tie (R106, Table 4.4). -/
def beginTie (j tie : Fin 12) (d : Dev) : Dev := match startRefusal j d with
  | none => onRail j (fun r => { r with tie := tie }) (beginTrack j .coincidentTie d)
  | some _ => d
/-- A coincident outlet episode: the rail is alone in its segment (Table 4.4). -/
def beginOutlet (j : Fin 12) (d : Dev) : Dev :=
  if (segRails (d.ring.head[j]) d).length ≠ 1 then d else match startRefusal j d with
  | none => beginTrack j .coincidentOutlet d
  | some _ => d

/-- The rails of a member mask. -/
def maskRails (m : Vector Bool 12) : List (Fin 12) := (all 12).filter (fun j => m[j])
/-- The greatest distance of a ratiometric episode's members, in 10 µV (R107). -/
def ratioSpan (r : Ratio) : Int := (maskRails r.mask).foldl (fun a j => max a |r.vEnd - r.v0[j]|) 0
/-- A member's set-point at the present progress (R107). The manual keeps S to 10 µV (R99) and does not say how S_k is rounded to it: to
the nearest, a half away from zero (DESIGN CHOICE, log 188). -/
def ratioPoint (r : Ratio) (j : Fin 12) : Int := r.v0[j] + roundAway (r.x * (r.vEnd - r.v0[j]))

/-- A FREE member that does not govern its segment governs it from then on, for its loop is the one that moves the segment (R91, R107;
DESIGN CHOICE, log 191); not where a member of the mask governs it already. -/
def takeGoverning (mask : Vector Bool 12) (j : Fin 12) (d : Dev) : Dev :=
  if governs j d || mask[(d.rail[j]).governing] then d
  else (members (segOf j d) d).foldl (fun d i => onRail i (fun r => { r with governing := j }) d) d

/-- A ratiometric episode begins or is re-targeted (R107, R109). A stop's members are those with legs; the others drain
through the passive paths (R111). -/
def beginRatio (leader : Fin 12) (mask : Vector Bool 12) (vEnd : Int) (rate : Nat) (stop : Bool) (d : Dev) : Dev :=
  let rails := maskRails mask
  let settling : Option Nat := match d.ratio[leader] with
    | some r => if r.mask == mask then some r.settleUntil else none
    | none => none
  let again := settling.isSome
  let anyFree := rails.any (fun j => (d.rail[j]).state == .free)
  let d := rails.foldl (fun d j => latchPar j (if (d.rail[j]).state = .free then takeGoverning mask j d else d)) d
  let settle := max (settling.getD d.time.now) (if anyFree then d.time.now + period * par leader 0x0A d else d.time.now)
  let v0 : Vector Int 12 := tab (fun j => let r := d.rail[j]; if r.state == .free then r.vPrev.getD r.s else r.s)
  let passive (j : Fin 12) : Bool := stop && !hasLegs j d
  let mask' : Vector Bool 12 := tab (fun j => mask[j] && !passive j)
  let d := (maskRails mask').foldl (fun d j => startLegs (segOf j d) d) d
  let d := rails.foldl (fun d j => onRail j (fun r => { r with
    state := if stop then .draining else if r.state = .free then .precharging else r.state,
    episode := if stop then .stop else .ratiometric, leader := if passive j then none else some leader,
    s := v0[j], epStart := (bif again then r.epStart else d.time.now), paused := false, currentMode := false, command := none,
    passive := passive j, drained := if stop && !again then 0 else r.drained, stopWaits := false, follows := r.follows }) d) d
  { d with ratio := upd d.ratio leader (fun _ =>
      if maskRails mask' = [] then none else some ⟨mask', vEnd, rate, 0, v0, settle, 0, stop⟩) }

/-- The discharge level of a rail (Table 4.8). -/
def dischargeLevel (j : Fin 12) (d : Dev) : Int := 10000 * num d (railIdx j 4) 0x08
/-- The discharge level of a rail's stop. -/
def stopLevel (j : Fin 12) (d : Dev) : Int := 10000 * (par j 0x08 d : Nat)

/-- The ratiometric episode of a stop of one rail begins (R111). -/
def soloStop (j : Fin 12) (d : Dev) : Dev :=
  let d := latchPar j d
  beginRatio j (tab (fun i => i == j)) (stopLevel j d) (par j 0x07 d) true d

/-- A member leaves its ratiometric episode with a result; the episode ends where it was the leader or the last (R110), and a member left
PRECHARGING with no episode starts a stop (Table 4.4). -/
def leaveRatio (j : Fin 12) (res : EpResult) (d : Dev) : Dev :=
  match (d.rail[j]).leader with
  | none => d
  | some l => match d.ratio[l] with
    | none => onRail j (fun r => { r with leader := none }) d
    | some q =>
      let m' : Vector Bool 12 := q.mask.set j false
      if j = l ∨ maskRails m' = [] then
        let d := (maskRails q.mask).foldl (fun d i => onRail i (fun r => { r with leader := none, episode := .none, result := res }) d) d
        let d := { d with ratio := upd d.ratio l (fun _ => none) }
        (maskRails m').foldl (fun d i => if (d.rail[i]).state = .precharging then soloStop i d else d) d
      else
        let d := onRail j (fun r => { r with leader := none, episode := .none, result := res }) d
        { d with ratio := upd d.ratio l (fun _ => some { q with mask := m' }) }

/-- An episode of a rail ends with a result. -/
def endEpisode (j : Fin 12) (res : EpResult) (d : Dev) : Dev :=
  let d := leaveRatio j res d
  onRail j (fun r => { r with episode := .none, result := res, paused := false, inWindow := false, follows := none }) d
/-- An episode aborts with a result: a PRECHARGING rail starts a stop, a LIVE one stays LIVE (Table 4.4). -/
def abortEpisode (j : Fin 12) (res : EpResult) (d : Dev) : Dev :=
  let d := endEpisode j res d
  if (d.rail[j]).state = .precharging then soloStop j d else d

/-- Entering voltage mode: S starts at the measured voltage of the previous period and slews to the target in force (R95). -/
def toVoltageMode (j : Fin 12) (d : Dev) : Dev :=
  onRail j (fun r => { r with currentMode := false, s := r.vPrev.getD r.s, xv := zeroFixed }) d

/-- The outlet current of a segment: the sum of its brick output currents, in A (R131). -/
def segCurrent (h : Fin 12) (d : Dev) : Rat := (railsCurrent (members h d) d : Rat) / 50

/-- What the next period takes as the previous period's measured voltage and outlet current. -/
def keepSamples (d : Dev) : Dev :=
  { d with rail := tab (fun j => { d.rail[j] with vPrev := measured j d, iPrev := segCurrent (segOf j d) d }) }

/-- Entering current mode: the reference starts at the measured outlet current of the previous period (R95, R139). -/
def toCurrentMode (j : Fin 12) (d : Dev) : Dev :=
  let i := (d.rail[j]).iPrev
  let d := onRail j (fun r => { r with currentMode := true, xc := zeroFixed }) d
  onGen (outletGen j) (fun x => { x with p := genFix (10 * i), v := 0, a := 0, plan := [], state := .rest, replan := true }) d

/-- A stop of some governing rails by one command (R111): those in voltage mode drain in one episode, led by the first; of one in
current mode the current reference falls to zero first. -/
def beginStops (rails : List (Fin 12)) (d : Dev) : Dev :=
  let waits := rails.filter (fun j => (d.rail[j]).currentMode)
  let now := rails.filter (fun j => !(d.rail[j]).currentMode)
  let d := waits.foldl (fun d j =>
    let d := latchPar j d
    onRail j (fun r => { r with
      state := .draining, episode := .stop, stopWaits := true, drained := 0, epStart := d.time.now, command := none }) (genTarget (outletGen j) 0 d)) d
  let d := now.foldl (fun d j => latchPar j (if (d.rail[j]).episode = .none then d else endEpisode j .superseded d)) d
  match now with
  | [] => d
  | l :: _ => beginRatio l (tab (fun i => now.contains i)) (stopLevel l d) (par l 0x07 d) true d
/-- A stop of one governing rail (R111). -/
def beginStop (j : Fin 12) (d : Dev) : Dev := beginStops [j] d

/-- A rail is isolated (Table 4.4). -/
def isolate (j : Fin 12) (cause : IsoCause) (res : Option EpResult) (d : Dev) : Dev :=
  let d := match res with
    | some e => if (d.rail[j]).episode = .none then d else endEpisode j e d
    | none => d
  onRail j (fun r => { r with state := .isolated, isoCause := cause, currentMode := false, stopWaits := false, passive := false }) d

/-- The end of a stop: the legs of the segment go to STANDBY and every rail of it to FREE (R111). -/
def stopDone (j : Fin 12) (d : Dev) : Dev :=
  let h := segOf j d
  let d := restLegs h (endEpisode j .done d)
  (members h d).foldl (fun d i => onRail i (fun r => { r with state := .free, passive := false, stopWaits := false }) d) d

/-- A stop in progress that meets a rail of its own: every member at or below its discharge level (R111). -/
def stopReached (q : Ratio) (d : Dev) : Bool :=
  (maskRails q.mask).all (fun j => match measured j d with
    | some v => decide (v ≤ stopLevel j d)
    | none => false)

/-- Whether a member is out of the ratiometric tolerance (R108); a missing measured voltage is no deviation, and pauses the episode in
its time (R104). Each member goes by its own tolerance (DESIGN CHOICE, log 189). -/
def outOfTolerance (q : Ratio) (j : Fin 12) (d : Dev) : Bool := match measured j d with
  | some v => decide (10000 * ((par j 0x05 d : Nat) : Int) < |v - ratioPoint q j|)
  | none => false

/-- What the members of a ratiometric episode do when its progress reaches 1 (R107, R193). -/
def ratioDone (l : Fin 12) (q : Ratio) (d : Dev) : Dev :=
  let d := (maskRails q.mask).foldl (fun d j =>
    let r := d.rail[j]
    if r.follows.isSome && !countsClosed (.tie r.tie) d then
      onRail j (fun r => { r with s := q.vEnd, t := q.vEnd, leader := none, episode := .coincidentTie, result := .done,
                                  epStart := d.time.now, settleUntil := d.time.now, neighbour := [] }) d
    else onRail j (fun r => { r with s := q.vEnd, t := q.vEnd, leader := none, episode := .none, result := .done,
                                     state := if r.state = .precharging then .live else r.state }) d) d
  { d with ratio := upd d.ratio l (fun _ => none) }

/-- One period of a ratiometric episode (R107, R108, R111): its progress, unless a member pauses, settles or is out of
tolerance, or a safety stop holds it. -/
def ratioPeriod (l : Fin 12) (held : Fin 12 → Bool) (d : Dev) : Dev :=
  match d.ratio[l] with
  | none => d
  | some q =>
    let rails := maskRails q.mask
    if q.stop && stopReached q d then
      let d := { d with ratio := upd d.ratio l (fun _ => none) }
      rails.foldl (fun d j => stopDone j d) d
    else if rails.any held || rails.any (fun j => (d.rail[j]).paused) || d.time.now < q.settleUntil then d
    else if rails.any (fun j => outOfTolerance q j d) then
      { d with ratio := upd d.ratio l (fun _ => some { q with frozen := q.frozen + 1 }) }
    else
      let span := ratioSpan q
      let x := if span = 0 then 1 else min 1 (q.x + (slewStep q.rate : Rat) / span)
      let q := { q with x := x }
      let d := { d with ratio := upd d.ratio l (fun _ => some q) }
      let d := rails.foldl (fun d j => onRail j (fun r => { r with s := ratioPoint q j, t := q.vEnd }) d) d
      if x = 1 ∧ !q.stop then ratioDone l q d else d

/-- The reference of a coincident episode in 10 µV (R106): the neighbour's averaged voltage, or the cable-side voltage. -/
def trackReference (j : Fin 12) (d : Dev) : Option Int :=
  let r := d.rail[j]
  match r.episode with
  | .coincidentTie => if r.neighbour = [] then none else some (divRound (r.neighbour.foldl (· + ·) 0) r.neighbour.length)
  | .coincidentOutlet => (d.out[j]).cableV
  | _ => none

/-- The rail across the tie of a coincident episode. -/
def across (j tie : Fin 12) (d : Dev) : Fin 12 :=
  if segOf tie d = segOf j d then above tie else tie

/-- The effective bounds of a rail in a period (R101): a ceiling that falls below the target in force lowers it, a floor that rises above
it raises it. -/
def boundPeriod (j : Fin 12) (d : Dev) : Dev :=
  let c := vCeil j d
  let f := vFloor j d
  onRail j (fun r =>
    let fell : Bool := match r.ceil with | some x => decide (c < x) | none => false
    let rose : Bool := match r.floor with | some x => decide (x < f) | none => false
    { r with ceil := some c, floor := some f, t := if fell ∧ c < r.t then c else if rose ∧ r.t < f then f else r.t }) d

/-- One period of a rail's own set-point (R99, R100, R105, R106). -/
def setPointPeriod (j : Fin 12) (d : Dev) : Dev :=
  let r := d.rail[j]
  match r.episode with
  | .none =>
    if r.state ≠ .live ∨ r.currentMode then d else onRail j (fun r => { r with s := slew r.s r.t r.rate }) d
  | .start =>
    if r.paused ∨ d.time.now < r.settleUntil then d else
      let d := onRail j (fun r => { r with s := slew r.s r.t r.rate }) d
      let r := d.rail[j]
      match measured j d with
      | some v =>
        if r.s = r.t ∧ (v - r.s).natAbs ≤ 10000 * par j 0x05 d then
          onRail j (fun r => { r with state := .live, episode := .none, result := .done }) d
        else d
      | none => d
  | .coincidentTie | .coincidentOutlet =>
    let n := measured (across j r.tie d) d
    let window := if r.episode = .coincidentTie then decide ((d.ring.tie[r.tie]).permits = 3)
      else decide (r.feedOk = 3) && !isStale .metrologyFeed d
    let d' := onRail j (fun r => { r with inWindow := window, neighbour := (n.toList ++ r.neighbour).take 10 }) d
    if r.paused ∨ d.time.now < r.settleUntil then d' else
    match trackReference j d with
    | some t => onRail j (fun r => { r with t := t, s := slew r.s t (par j 0x01 d) }) d'
    | none => d'
  | _ => d

/-- A rail draining without legs goes to FREE at the discharge level (R111). -/
def passivePeriod (j : Fin 12) (d : Dev) : Dev :=
  let r := d.rail[j]
  if r.state = .draining ∧ r.passive then
    match measured j d with
    | some v => if v ≤ stopLevel j d then stopDone j d else d
    | none => d
  else d

/-- A stop that waits for its current reference to fall to zero enters voltage mode and drains (R111). -/
def stopWaitPeriod (j : Fin 12) (d : Dev) : Dev :=
  let r := d.rail[j]
  if r.stopWaits && genAtTarget (outletGen j) d && (d.eng.gen[outletGen j]).p == 0 then
    let d := toVoltageMode j (onRail j (fun r => { r with stopWaits := false, episode := .none }) d)
    onRail j (fun x => { x with drained := r.drained }) (beginStop j d)
  else d

/-- A member of a stop whose segment has lost its last leg drains through the passive paths (R111); of another episode, it
is removed (R110). -/
def legLossPeriod (j : Fin 12) (d : Dev) : Dev :=
  let r := d.rail[j]
  if r.leader.isSome && !hasLegs j d then
    if r.episode = .stop then
      onRail j (fun x => { x with state := .draining, episode := .stop, passive := true }) (leaveRatio j .none d)
    else abortEpisode j .none d
  else d

/-- Whether an episode is a start, coincident or ratiometric one. -/
def tracks (e : Episode) : Bool := e == .start || e == .coincidentTie || e == .coincidentOutlet || e == .ratiometric

/-- A safety stop bit on a rail (R102, R113): S and T follow the measured voltage, episodes other than a stop abort, and a
stop pauses; when the bit clears, the stop goes on from the present S. The drain time counts outside the stop bit (R112). -/
def stopBitPeriod (j : Fin 12) (held : Bool) (d : Dev) : Dev :=
  let r := d.rail[j]
  let d := if r.state = .draining ∧ !r.stopHeld then onRail j (fun r => { r with drained := r.drained + period }) d else d
  if held then
    let d := if tracks r.episode then abortEpisode j .stopForced d else d
    match measured j d with
    | some v => onRail j (fun r => { r with s := v, t := v, stopHeld := true }) d
    | none => onRail j (fun r => { r with stopHeld := true }) d
  else if r.stopHeld then
    let d := onRail j (fun r => { r with stopHeld := false }) d
    match d.ratio[j] with
    | some q =>
      if q.stop then { d with ratio := upd d.ratio j (fun _ => some { q with x := 0, v0 := tab (fun i => (d.rail[i]).s) }) } else d
    | none => d
  else d

/-- The commands and mode requests stored for a boundary take effect (R95, R98); where a safety stop bit, a stop or another episode is on
the rail, a stored command is not held over (R113). -/
def commandPeriod (j : Fin 12) (held : Bool) (d : Dev) : Dev :=
  let r := d.rail[j]
  let d := match r.command with
    | some (t, rate) =>
      if held ∨ r.episode ≠ .none ∨ r.state ≠ .live then onRail j (fun r => { r with command := none }) d
      else onRail j (fun r => { r with t := t, rate := rate, command := none }) d
    | none => d
  match r.modeAsked with
  | some m =>
    let d := onRail j (fun r => { r with modeAsked := none }) d
    if m = r.currentMode ∨ r.state ≠ .live ∨ !governs j d then d else if m then toCurrentMode j d else toVoltageMode j d
  | none => d

/-- The measured voltage present or missing in a period (R104); a period without one breaks the run of the outlet close permit (R106). -/
def sensePeriod (j : Fin 12) (d : Dev) : Dev :=
  match measured j d with
  | some _ => onRail j (fun r => { r with missing := 0, paused := false, flagged := false,
                                          validSince := some (r.validSince.getD d.time.now) }) d
  | none => onRail j (fun r => { r with missing := r.missing + 1, validSince := none, feedOk := 0 }) d

/-- The session's requested current for its outlet's state, in 0.1 A (R94, Table 7.5): one of the wrong sign asks for nothing in it (DESIGN
CHOICE, log 206). -/
def sessionRequest (k : Fin 12) (d : Dev) : Int := match (d.out[k]).state with
  | .returning => min 0 (d.out[k]).reqI
  | .delivering => max 0 (d.out[k]).reqI
  | _ => (d.out[k]).reqI

/-- The current target of a rail in current mode, in 0.1 A (R94). A rail under control source 1 is left out of every layout (note at the end of
chapter 6), so the allocator gives it no grant that could bound it (DEDUCED, log 192). -/
def currentTarget (j : Fin 12) (d : Dev) : Int :=
  let host := hostSource j d
  let req : Int := if host then num d (railIdx j 1) 0x05 else sessionRequest j d
  let cap := min (num d (0x3001 + 16 * j.val) 0x02) (d.out[j]).derated
  let cap := if host then cap else min cap (min d.alloc.grant[j].natAbs ((d.out[j]).grantCap.getD d.alloc.grant[j].natAbs))
  let m := min |req| (max 0 cap)
  if req < 0 then -m else m

/-- The limit of the outlet current in voltage mode, in 0.1 A (R93, R184, R198). -/
def limitTenths (j : Fin 12) (d : Dev) : Int :=
  if (d.rail[j]).episode ≠ .none then (par j 0x0B d : Nat)
  else if hostSource j d then num d (railIdx j 1) 0x07
  else if (d.out[j]).state = .precharge then num d (0x3002 + 16 * j.val) 0x08
  else (d.out[j]).heldLimit.getD (num d (railIdx j 1) 0x07)
/-- The limit of the outlet current in voltage mode, in A. -/
def voltageLimit (j : Fin 12) (d : Dev) : Rat := (limitTenths j d : Rat) / 10

/-- R91 when a tie has closed: which rail governs the joined segment. `lo` and `hi` are the parts before it closed. -/
def governorOf (lo hi : List (Fin 12)) (d : Dev) : Fin 12 :=
  match (lo ++ hi).find? (fun r => outletClosed r d) with
  | some r => r
  | none =>
    let gov (l : List (Fin 12)) : Fin 12 := (d.rail[l.headD 0]).governing
    let legs (l : List (Fin 12)) : Nat := (l.flatMap (fun r => (bricksOf r).flatMap legsOf)).countP (fun n => inService d.leg[n])
    if legs lo > legs hi then gov lo else if legs hi > legs lo then gov hi
    else if (gov lo).val ≤ (gov hi).val then gov lo else gov hi

/-- The rails that a tie joins for one rail loop, set for one tie. -/
def setJoined (j : Fin 12) (x : Bool) (d : Dev) : Dev :=
  let m : Vector Bool 12 := d.ring.joined.set j x
  { d with ring := { d.ring with joined := m, group := headsBy m } }

/-- Whether a tie joins its two rails for one rail loop: it counts closed, and a close of it is confirmed (R40, R106). -/
def tieJoined (j : Fin 12) (d : Dev) : Bool :=
  let c := d.ring.tie[j]
  tieClosed j d && !(c.cmd && c.travel.isSome && !c.dropped && !contactsReport (.tie j) true d)

/-- Two groups become one: one rail governs, every other rail is JOINED, but where all were FREE (R91, R106, R110, Table 4.4). -/
def joinRails (j : Fin 12) (d : Dev) : Dev :=
  let lo := members (segOf j d) d
  let hi := members (segOf (above j) d) d
  let same := decide (segOf j d = segOf (above j) d)
  let d := setJoined j true d
  if same then d else
  let g := governorOf lo hi d
  let free := (lo ++ hi).all (fun r => (d.rail[r]).state == .free)
  (lo ++ hi).foldl (fun d r =>
    if r = g ∨ free then onRail r (fun x => { x with governing := g }) d
    else
      let d := if (d.rail[r]).episode = .none then d else endEpisode r .done d
      onRail r (fun x => { x with
        governing := g, state := if x.state = .isolated then .isolated else .joined, currentMode := false, follows := none }) d) d

/-- A part that a tie opening leaves: the rail with the closed outlet governs it, otherwise its head rail (R91). A rail that takes over a
part with voltage on it drains, or stays LIVE for the host that owns it; the other rails are JOINED (Table 4.4). -/
def formPart (h : Fin 12) (d : Dev) : Dev :=
  let m := members h d
  let outlet := m.find? (fun r => outletClosed r d)
  let g := outlet.getD h
  let energised := m.any (fun r => !((d.rail[r]).state == .free || (d.rail[r]).state == .isolated))
  let was := (d.rail[g]).state
  let d := m.foldl (fun d r =>
    if r = g then onRail r (fun x => { x with governing := g }) d
    else
      let x := d.rail[r]
      let moves := x.state = .live ∨ x.state = .precharging ∨ x.state = .draining
      let d := if moves ∧ x.episode ≠ .none then endEpisode r .superseded d else d
      onRail r (fun x => { x with governing := g, state := if moves then .joined else x.state, currentMode := x.currentMode && !decide moves }) d) d
  if was ≠ .joined ∧ !(was = .free ∧ energised ∧ outlet.isNone) then d
  else
    let d := onRail g (fun x => { x with state := .live, currentMode := false, s := (measured g d).getD x.s, t := (measured g d).getD x.t, xv := zeroFixed }) d
    if hostSource g d then d else beginStop g d

/-- A group is parted at a tie. -/
def splitRails (j : Fin 12) (d : Dev) : Dev :=
  let d := setJoined j false d
  let lo := segOf j d
  let hi := segOf (above j) d
  if lo = hi then formPart lo d else formPart hi (formPart lo d)

/-- The groups follow the ties, openings before closings, by whatever cause a tie has opened or closed (R49, R55, R91). -/
def regroup (d : Dev) : Dev :=
  let d := (all 12).foldl (fun d j => if d.ring.joined[j] && !tieJoined j d then splitRails j d else d) d
  (all 12).foldl (fun d j => if !d.ring.joined[j] && tieJoined j d then joinRails j d else d) d

/-- An outlet is confirmed closed: its rail is LIVE in voltage mode at S (R106). -/
def outletClosedRail (j : Fin 12) (d : Dev) : Dev :=
  if (d.rail[j]).episode = .coincidentOutlet then
    onRail j (fun r => { r with state := .live, t := r.s }) (endEpisode j .done d)
  else d

/-- START_SETTLE_EXPIRY (R105, R106). -/
def execStartSettleExpiry (j : Fin 12) (s : State) : Host.Outcome State Fault Refusal :=
  let d := s.dev
  let r := d.rail[j]
  done s (if r.episode = .none then d else onRail j (fun r => { r with settleUntil := 0 }) (reach r.settleUntil d))

/-- TRACKING_TIMEOUT (R106): a coincident episode aborts with result timeout and a stop begins. -/
def trackingTimeout (j : Fin 12) (d : Dev) : Dev :=
  let r := d.rail[j]
  if r.episode = .coincidentTie ∨ r.episode = .coincidentOutlet then
    soloStop j (endEpisode j .timeout (reach (r.epStart + ms (par j 0x02 d)) d))
  else d

/-- RATIOMETRIC_PAUSE_LIMIT (R108): frozen for more than the leader's pause limit, the episode aborts with result deviation and its members are
held in voltage mode where they are; a stop is not aborted. R108 holds a PRECHARGING member too, where Table 4.4 sends an aborted one to
DRAINING: the model follows R108 and makes it LIVE (DESIGN CHOICE, log 190; the leader's limit: log 189). -/
def ratioAbort (l : Fin 12) (d : Dev) : Dev :=
  match d.ratio[l] with
  | some q =>
    if q.stop ∨ q.frozen * period ≤ ms (par l 0x06 d) then d else
    let d := (maskRails q.mask).foldl (fun d j => onRail j (fun r => { r with
      leader := none, episode := .none, result := .deviation, t := r.s, state := .live, follows := none }) d) d
    { d with ratio := upd d.ratio l (fun _ => none) }
  | none => d

/-- DRAIN_TIMEOUT (R112): the rail is isolated and its legs go to STANDBY; the timeout does not run under a safety stop. -/
def execDrainTimeout (j : Fin 12) (s : State) : Host.Outcome State Fault Refusal :=
  let d := s.dev
  let r := d.rail[j]
  done s (if r.state = .draining ∧ !r.stopHeld then
    let d := reach (d.sync.boundary + (ms (par j 0x09 d) - r.drained)) d
    restLegs (segOf j d) (isolate j .drainIncomplete (some .timeout) d)
  else d)

/-- EPISODE_PAUSE (R104): ten consecutive periods without a measured voltage pause the episode. -/
def execEpisodePause (j : Fin 12) (s : State) : Host.Outcome State Fault Refusal :=
  let r := s.dev.rail[j]
  done s (if 10 ≤ r.missing ∧ r.episode ≠ .none then onRail j (fun r => { r with paused := true }) s.dev else s.dev)

/-- RAIL_SENSE_LOST (R104): 10 ms without a measured voltage isolate the rail; a JOINED rail is flagged. -/
def execRailSenseLost (j : Fin 12) (s : State) : Host.Outcome State Fault Refusal :=
  let r := s.dev.rail[j]
  done s (if r.missing * period < ms 10 then s.dev
    else if r.state = .joined then onRail j (fun r => { r with flagged := true }) s.dev
    else isolate j .senseLost (some .senseLost) s.dev)

/-- A rail that is not fitted is ISOLATED (Table 4.4). -/
def isolateUnfitted (d : Dev) : Dev :=
  (all 12).foldl (fun d j =>
    if railFitted j d || ((d.rail[j]).state == .isolated && (d.rail[j]).isoCause == .notFitted) then d
    else isolate j .notFitted (some .notFitted) d) d

end Sys2Proof.Machine
end

