-- ==== Sys2Proof/Machine/Legs.lean ====
section
/-! DEFINITION. The spline links and the cards (R59 to R72, R88). -/
namespace Sys2Proof.Machine

/-- One bit of the CRC-16 of R62, most significant bit first. -/
def crc16Bits : Nat → W16 → W16
  | 0, c => c
  | n + 1, c => crc16Bits n (if c.getLsbD 15 then (c <<< 1) ^^^ 0x1021 else c <<< 1)
/-- CRC-16 of R62: polynomial 0x1021, all ones at start, no reflection, no final change. -/
def crc16 (b : List Byte) : W16 := b.foldl (fun c x => crc16Bits 8 (c ^^^ ((x.setWidth 16 : W16) <<< (8 : Nat)))) 0xFFFF

/-- The bytes of a word, least significant first. -/
def wordBytes {w : Nat} (n : Nat) (x : BitVec w) : List Byte := leBytes n x.toNat

/-- The bytes that a brick uplink's CRC covers (Table 3.7). -/
def brickUpBytes (f : BrickUp) : List Byte :=
  wordBytes 2 f.header ++ wordBytes 4 f.epochSeen ++ f.legCurrent.toList.flatMap (wordBytes 2) ++ wordBytes 2 f.vOut
    ++ wordBytes 2 f.vRail ++ wordBytes 2 f.vDc ++ wordBytes 2 f.iOut ++ f.legFlags.toList ++ [f.status, f.auxIndex]
    ++ wordBytes 2 f.auxValue ++ wordBytes 3 f.service
/-- The bytes that an axis uplink's CRC covers (Table 3.13). -/
def axisUpBytes (f : AxisUp) : List Byte :=
  wordBytes 2 f.header ++ wordBytes 4 f.epochSeen ++ f.position.toList.flatMap (wordBytes 4) ++ f.status.toList
    ++ wordBytes 3 f.service
/-- The bytes that a brick downlink's CRC covers (Table 3.3). -/
def brickDownBytes (f : BrickDown) : List Byte :=
  wordBytes 2 f.header ++ wordBytes 4 f.epoch ++ f.words.toList.flatMap (wordBytes 4) ++ [f.control] ++ wordBytes 3 f.service
/-- The bytes that an axis downlink's CRC covers (Table 3.13). -/
def axisDownBytes (f : AxisDown) : List Byte :=
  wordBytes 2 f.header ++ wordBytes 4 f.epoch ++ f.torque.toList.flatMap (wordBytes 2) ++ [f.control] ++ wordBytes 3 f.service

/-- The fields of a header (Tables 3.4 and 3.8). -/
def frameType (h : W16) : Nat := (h.extractLsb' 12 4).toNat
def frameCount (h : W16) : Byte := h.extractLsb' 0 8

/-- The count of the boundary that the coming period begins at, low eight bits. -/
def nextCount (d : Dev) : Byte := BitVec.ofNat 8 (d.sync.count + 1)

/-- Whether an uplink frame is good: delimiters, type, CRC and count (R71, Table 3.20). -/
def brickUpGood (f : BrickUp) (d : Dev) : Bool :=
  f.framed && frameType f.header == 8 && f.crc == crc16 (brickUpBytes f) && frameCount f.header == nextCount d
/-- As above for an axis drive. -/
def axisUpGood (f : AxisUp) (d : Dev) : Bool :=
  f.framed && frameType f.header == 9 && f.crc == crc16 (axisUpBytes f) && frameCount f.header == nextCount d

/-- The legs' loop and telemetry entries of a leg: configuration and status index. -/
def legIdx (n : Fin 96) : Nat := 0x2000 + n.val
def legTele (n : Fin 96) : Nat := 0x2100 + n.val

/-- A leg goes to FAULT with a cause, and its legFault event (Table 3.16). -/
def legFault (n : Fin 96) (cause : Nat) (d : Dev) : Dev :=
  let l := d.leg[n]
  if l.state = .lost then d else
  let d := onLeg n (fun l => { l with state := .fault, cause := l.cause ||| cause, awaiting := false }) d
  if l.state = .fault ∧ l.cause &&& cause = cause then d
  else raise 1 .legFault (evData [(1, n.val), (2, ((d.leg[n]).cause : Int))]) d

/-- A leg in service goes to BRAKING (R71, R83, R84). -/
def brakeLeg (n : Fin 96) (d : Dev) : Dev :=
  if inService d.leg[n] then
    bump (legTele n) 0x25 (onLeg n (fun l => { l with state := .braking, brakeStart := some d.time.now, awaiting := false }) d)
  else d

/-- The causes that a good uplink shows for a leg: desaturation, gate drive, overtemperature, card fault (Table 3.10). -/
def legCauses (n : Fin 96) (d : Dev) : Nat :=
  let l := d.leg[n]
  let f := l.flags.toNat
  (if bit f 7 then 1 else 0) + (if bit f 1 then 2 else 0)
    + (if bit f 4 || decide (num d (legIdx n) 0x06 ≤ l.temp) then 4 else 0)
    + (if (d.brick[brickOf n]).cardFault then 32 else 0)

/-- Whether a current, in 10 mA, lies within the zero-current window of ±0.5 A (R61). -/
def nearZero (i : Int) : Bool := decide (-50 ≤ i ∧ i ≤ 50)

/-- The causes of a leg's fault that are still there, as far as the module can see them (R90): trip temperature, a current outside the
zero-current window after braking, a current more than 5 A from the share of a leg at rest, card fault. Of a flag latched at the card only
the card can say whether its cause has gone. -/
def causesPresent (n : Fin 96) (d : Dev) : Nat :=
  let l := d.leg[n]
  l.cause &&& ((if num d (legIdx n) 0x06 ≤ l.temp then 4 else 0) + (if nearZero l.current then 0 else 8)
    + (if 500 < |l.current| then 16 else 0) + (if (d.brick[brickOf n]).cardFault then 32 else 0))
/-- Whether a leg's uplink flags show a latched fault. -/
def latchedFlags (l : Leg) : Bool := bit l.flags.toNat 7 || bit l.flags.toNat 4 || bit l.flags.toNat 1

/-- A good uplink after a fault reset was sent: a leg with no cause left is in STANDBY; two uplinks may still show one (Table 3.16;
DESIGN CHOICE, log 186). -/
def resetAnswer (n : Fin 96) (d : Dev) : Dev :=
  let clear := legCauses n d = 0 ∧ causesPresent n d = 0
  onLeg n (fun l =>
    if l.state ≠ .fault ∨ l.resetWait = 0 then l
    else if clear then { l with state := .standby, cause := 0, resetWait := 0 } else { l with resetWait := l.resetWait - 1 }) d

/-- What a good uplink does to a leg: its samples, its faults, and the end of BRAKING (Tables 3.10 and 3.16). -/
def legUplink (n : Fin 96) (i : Int) (fl : Byte) (d : Dev) : Dev :=
  let d := onLeg n (fun l => { l with
    current := i, flags := fl, peakI := some (match l.peakI with | some (a, b) => (max a i, min b i) | none => (i, i)),
    goodSince := some (l.goodSince.getD d.time.now) }) d
  let d := if bit fl.toNat 5 then bump (legTele n) 0x24 d else d
  let c := legCauses n d
  let d := resetAnswer n (if c ≠ 0 ∧ (d.leg[n]).state ≠ .lost then legFault n c d else d)
  let l := d.leg[n]
  if l.state = .braking then
    if nearZero i then onLeg n (fun l => { l with state := .standby, awaiting := false }) d
    else if l.awaiting then legFault n 8 d else d
  else d

/-- The entries of a thermal loop. -/
def thermalIdx (w : Fin 16) : Nat := 0x2650 + w.val
/-- A thermal loop changed. -/
def onThermal (w : Fin 16) (f : Thermal → Thermal) (d : Dev) : Dev := { d with eng := { d.eng with thermal := upd d.eng.thermal w f } }
/-- A value that a thermal loop's source delivers, in 0.1 °C (R133). -/
def thermalValue (w : Fin 16) (t : Int) (d : Dev) : Dev :=
  onThermal w (fun x => { x with input := some t, inputAt := d.time.now, stale := false }) d
/-- A temperature that some loops of 12 to 15 take as their input (R133, Table 5.10): source 1 head, 2 card, 3 leg switch. -/
def thermalFrom (source : Nat) (t : Int) (d : Dev) : Dev :=
  (all 16).foldl (fun d w => if 12 ≤ w.val && nat d (thermalIdx w) 0x02 == source then thermalValue w t d else d) d

/-- The auxiliary quantity that an uplink carries (Table 3.11). -/
def auxUplink (k : Fin 24) (index : Nat) (v : W16) (d : Dev) : Dev :=
  let t := v.toInt
  match index % 8 with
  | 4 => thermalFrom (0x200 + k.val) t (onBrick k (fun b => { b with cardTemp := t }) d)
  | 5 => onBrick k (fun b => { b with capTemp := t }) d
  | 6 => onBrick k (fun b => { b with gateSupply := v.toNat }) d
  | 7 => onBrick k (fun b => { b with faultWord := v.toNat }) d
  | i => match (legsOf k)[i]? with
    | some n => thermalFrom (0x300 + n.val) t
        (onLeg n (fun l => { l with temp := t, peakT := some (match l.peakT with | some p => max p t | none => t) }) d)
    | none => d

/-- A contact input with a new raw state at an instant. -/
def contactRaw (x : Bool) (now : Nat) (c : Contact) : Contact := if c.raw = x then c else { c with raw := x, since := now }

/-- A link that comes back from LOST, or comes up, counts its good uplinks with status bit 3 set (R71). -/
def linkGood (s : LinkState) : LinkState := match s with
  | .down | .lost => .starting
  | x => x

/-- A good brick uplink (R71). -/
def brickUplink (k : Fin 24) (f : BrickUp) (d : Dev) : Dev :=
  let h := f.header.toNat
  let st := f.status.toNat
  let b := d.brick[k]
  let d := bump (brickIdx k) 0x30 d
  let d := if bit h 10 && !b.orphan then bump (brickIdx k) 0x33 d else d
  let d := if bit h 9 && !b.conflict then bump (brickIdx k) 0x34 d else d
  let i := f.iOut.toInt
  let d := onBrick k (fun b => { b with
    link := linkGood b.link, goodRun := if bit st 3 then b.goodRun + 1 else 0, goodUps := b.goodUps + 1, missing := 0,
    lastGood := d.time.now, fresh := true, authority := field h 11 1, orphan := bit h 10, conflict := bit h 9, otherLive := bit h 8,
    epochSeen := f.epochSeen.toNat, vOut := f.vOut.toNat, vRail := f.vRail.toNat, vDc := f.vDc.toNat, iOut := i,
    railGood := bit st 1, outGood := bit st 0, cardFault := bit st 4, pllLocked := bit st 3, holding := bit st 2,
    aux := tab (fun j => contactRaw (bit st (7 - j.val)) d.time.now b.aux[j]),
    peakI := some (match b.peakI with | some (p, q) => (max p i, min q i) | none => (i, i)),
    peakVdc := some (max (b.peakVdc.getD 0) f.vDc.toNat) }) d
  let d := auxUplink k f.auxIndex.toNat f.auxValue d
  (all 4).foldl (fun d j => legUplink ⟨4 * k.val + j.val, by omega⟩ (f.legCurrent[j]).toInt f.legFlags[j] d) d

/-- A missing brick uplink (R71): the last good samples stay, without a fresh one; the second in a row brakes the legs, unless their
contactor sends them to OFF in the same period, which comes first (R78). -/
def brickMiss (k : Fin 24) (d : Dev) : Dev :=
  let d := onBrick k (fun b => { b with
    fresh := false, missing := b.missing + 1, goodRun := 0, goodUps := 0, link := if b.link = .starting then .down else b.link }) d
  let d := (legsOf k).foldl (fun d n => onLeg n (fun l => { l with goodSince := none }) d) d
  if (d.brick[k]).missing = 2 ∧ !brickOff k (debounceContacts (reach (nextBoundary d) d)) then
    (legsOf k).foldl (fun d n => brakeLeg n d) d
  else d

/-- An axis drive changed. -/
def onDrive (u : Fin 4) (f : Drive → Drive) (d : Dev) : Dev := { d with drive := upd d.drive u f }

/-- A good axis drive uplink. -/
def axisUplink (u : Fin 4) (f : AxisUp) (d : Dev) : Dev :=
  let h := f.header.toNat
  onDrive u (fun b => { b with
    link := linkGood b.link, goodRun := b.goodRun + 1, missing := 0, lastGood := d.time.now, fresh := true,
    authority := field h 11 1, orphan := bit h 10, conflict := bit h 9, otherLive := bit h 8, epochSeen := f.epochSeen.toNat,
    position := f.position.map (·.toInt), status := f.status }) d

/-- A missing axis drive uplink. -/
def axisMiss (u : Fin 4) (d : Dev) : Dev :=
  onDrive u (fun b => { b with
    fresh := false, missing := b.missing + 1, goodRun := 0, link := if b.link = .starting then .down else b.link }) d

/-- What a spline port has at the uplink deadline (R64, R71). -/
def uplinkDeadline (port : Fin 28) (u : Uplink) (d : Dev) : Dev :=
  if h : port.val < 24 then
    let k : Fin 24 := ⟨port.val, h⟩
    match u with
    | .missing => brickMiss k d
    | .late => brickMiss k (bump (brickIdx k) 0x32 d)
    | .axis _ => brickMiss k (bump (brickIdx k) 0x31 d)
    | .brick f => if brickUpGood f d then brickUplink k f d else brickMiss k (bump (brickIdx k) 0x31 d)
  else
    let k : Fin 4 := ⟨port.val - 24, by omega⟩
    match u with
    | .axis f => if axisUpGood f d then axisUplink k f d else axisMiss k d
    | _ => axisMiss k d


/-- LOST (R54, R71): the brick's BRK counts as commanded open, its ties are frozen as their other card reports, and its
rail's OUT switch likewise. -/
def cardLost (k : Fin 24) (d : Dev) : Dev :=
  let d := onBrick k (fun b => { b with
    link := .lost, fresh := false, outFrozen := true, contactor := { b.contactor with cmd := false, want := false, travel := none } }) d
  let d := (legsOf k).foldl (fun d n => onLeg n (fun l => { l with state := .lost, awaiting := false, goodSince := none }) d) d
  let hold (x : ContactorId) (d : Dev) : Dev := onContactor x (fun c =>
    let st := match reporting x d with
      | a :: _ => a.deb
      | [] => c.cmd
    { c with frozen := true, cmd := st, want := st, travel := none }) d
  let d := (all 12).foldl (fun d j => if (tieCards j).contains k then hold (.tie j) d else d) d
  hold (.outlet (railOf k)) d

/-- The freeze of a rail's OUT switch under R54 ends, card by card, once the card has left LOST and its own OUT input agrees with the OUT
command. -/
def thawOutlets (d : Dev) : Dev :=
  let d := { d with brick := tab (fun k =>
    let b := d.brick[k]
    { b with outFrozen := b.outFrozen && !(b.link != LinkState.lost && (b.aux[(1 : Fin 3)]).deb == (d.ring.outlet[railOf k]).cmd) }) }
  { d with ring := { d.ring with outlet := tab (fun j =>
      let c := d.ring.outlet[j]
      { c with frozen := c.frozen && (bricksOf j).any (fun k => (d.brick[k]).outFrozen) }) } }

/-- LINK_HOLD_EXPIRY (R71). -/
def execLinkHoldExpiry (k : Fin 24) (s : State) : Host.Outcome State Fault Refusal :=
  let d := s.dev
  done s (if nat d 0x2301 0x06 ≤ (d.brick[k]).missing ∧ (d.brick[k]).link ≠ .lost then cardLost k d else d)

/-- The service writes of a link start: addresses 0x08 to 0x14 (R65, Table 3.12). -/
def linkWrites (delay : Vector Nat 2) (d : Dev) : List (Nat × Nat) :=
  [(0x08, delay[0]), (0x09, delay[1]), (0x10, nat d 0x2301 3), (0x11, nat d 0x2301 1), (0x12, nat d 0x2301 2),
   (0x13, nat d 0x2301 4), (0x14, nat d 0x2301 5)]

/-- The service writes of the parameters that a change of the entries 0x2301.01 to .05 has changed, whatever changed them: to every card
and every drive (R65). -/
def paramWrites (before after : Dev) : Dev :=
  let w := ((linkWrites (tab (fun _ => 0)) after).zip (linkWrites (tab (fun _ => 0)) before)).filterMap
    (fun p => if p.1 = p.2 then none else some p.1)
  { after with brick := after.brick.map (fun b => { b with serviceQ := b.serviceQ ++ w }),
               drive := after.drive.map (fun u => { u with serviceQ := u.serviceQ ++ w }) }

/-- BRICK_LINK_UP (R63, R65, R71). -/
def execBrickLinkUp (port : Fin 28) (s : State) : Host.Outcome State Fault Refusal :=
  let d := s.dev
  done s (if h : port.val < 24 then
    let k : Fin 24 := ⟨port.val, h⟩
    let b := d.brick[k]
    if b.link = .starting ∧ 100 ≤ b.goodRun ∧ !b.fibreRefused then
      onBrick k (fun b => { b with link := .up, serviceQ := linkWrites b.delay d }) d else d
  else
    let u : Fin 4 := ⟨port.val - 24, by omega⟩
    let b := d.drive[u]
    if b.link = .starting ∧ 100 ≤ b.goodRun ∧ !b.fibreRefused then
      onDrive u (fun b => { b with link := .up, serviceQ := linkWrites b.delay d }) d else d)

/-- LEG_LOST_RECOVERY (Table 3.16): good uplinks for 10 ms. -/
def execLegLostRecovery (n : Fin 96) (s : State) : Host.Outcome State Fault Refusal :=
  let d := s.dev
  let l := d.leg[n]
  done s (match l.goodSince with
    | some t => if l.state = .lost ∧ (d.brick[brickOf n]).missing = 0
        then onLeg n (fun l => { l with state := .off }) (reach (t + ms 10) d) else d
    | none => d)

/-- The fibre port of every card that this module is connected to: 0 for rank 1 and 1 for rank 2. -/
def myPort (d : Dev) : Fin 2 := if num d 0x1C00 0x02 = 2 then 1 else 0

/-- PORT_DELAY_MEASUREMENT (R63, R66): the measured arrival in ns gives the one-way delay; more than 200 ns refuses the
link, otherwise the new value is written to the card. R66 rounds it to 1 ns and does not say which way a half goes: away from zero
(DESIGN CHOICE, log 179). -/
def execPortDelayMeasurement (k : Fin 28) (arrival : Nat) (s : State) : Host.Outcome State Fault Refusal :=
  let d := s.dev
  let p := myPort d
  let old : Nat := if h : k.val < 24 then (d.brick[k.val]).delay[p] else (d.drive[k.val - 24]).delay[p]
  let new : Int := divRound ((arrival : Int) - 240 + old) 2
  let refused := decide (200 < new)
  let value := (max 0 new).toNat
  let d := if refused then raise1 1 .fibreDelay k.val d else d
  done s (if h : k.val < 24 then
    onBrick ⟨k.val, h⟩ (fun b => if refused then { b with fibreRefused := true } else
      { b with fibreRefused := false, delay := b.delay.set p value, serviceQ := b.serviceQ ++ [(8 + p.val, value)] }) d
  else
    onDrive ⟨k.val - 24, by omega⟩ (fun b => if refused then { b with fibreRefused := true } else
      { b with fibreRefused := false, delay := b.delay.set p value, serviceQ := b.serviceQ ++ [(8 + p.val, value)] }) d)

/-! The cards. -/

/-- A card changed. -/
def onCard (c : Fin 28) (f : Card → Card) (d : Dev) : Dev := { d with card := upd d.card c f }

/-- The writable range of a service address (Table 3.12). -/
def serviceRange (a : Nat) : Option (Nat × Nat) := match a with
  | 0x08 | 0x09 => some (0, 200)
  | 0x10 => some (100, 1200)
  | 0x11 => some (50, 500)
  | 0x12 => some (100, 1000)
  | 0x13 => some (1, 8)
  | 0x14 => some (50, 5000)
  | _ => none

/-- A parameter's value at a card (Table 3.12). -/
def serviceValue (c : Fin 28) (card : Card) (a : Nat) : Option Nat := match a with
  | 0x01 => some 0x0C04
  | 0x02 => some (Config.cardFirmware c).toNat
  | 0x15 => some 5
  | _ => if (serviceRange a).isSome then card.params.toList[a - 8]? else none

/-- A card's answer to a service word, and the parameter it writes (R65, Table 3.9); `mayWrite` for a command frame that the
card applies. -/
def serviceAnswer (c : Fin 28) (card : Card) (mayWrite : Bool) (q : BitVec 24) : BitVec 24 × Option (Nat × Nat) :=
  let a := (q.extractLsb' 16 7).toNat
  let v := (q.extractLsb' 0 16).toNat
  let answer (err : Bool) (x : Nat) : BitVec 24 := BitVec.ofNat 24 ((if err then 2 ^ 23 else 0) + a * 2 ^ 16 + x)
  if a = 0 then (0, none)
  else if q.getLsbD 23 then
    match serviceRange a with
    | some (lo, hi) =>
      if mayWrite ∧ lo ≤ v ∧ v ≤ hi then (answer false v, some (a - 8, v))
      else (answer true ((serviceValue c card a).getD 0), none)
    | none => (answer true ((serviceValue c card a).getD 0), none)
  else match serviceValue c card a with
    | some x => (answer false x, none)
    | none => (answer true 0, none)

/-- A service word at a card (R65). -/
def serviceAt (c : Fin 28) (port : Fin 2) (mayWrite : Bool) (q : BitVec 24) (d : Dev) : Dev :=
  onCard c (fun x =>
    let (ans, w) := serviceAnswer c x mayWrite q
    { x with answer := x.answer.set port ans, nextWrite := match w with | some p => some p | none => x.nextWrite }) d

/-- SERVICE_REQUEST (R65): a card answers a service word in its next uplink on that port; a write only from the port whose
command frames it applies. -/
def execServiceRequest (card : Fin 28) (port : Fin 2) (request : BitVec 24) (s : State) : Host.Outcome State Fault Refusal :=
  done s (serviceAt card port ((s.dev.card[card]).authority == some port) request s.dev)

/-- What a card reads in a downlink frame: good apart from its count, whether it is a command, and its fields. -/
structure DownView where
  good : Bool
  command : Bool
  header : W16
  epoch : Nat
  words : Vector W32 4
  control : Byte
  service : BitVec 24

/-- A frame as the card of a port reads it (Tables 3.3, 3.4 and 3.13). -/
def downView (card : Fin 28) (f : Downlink) : DownView := match f with
  | .brick f =>
    let t := frameType f.header
    ⟨f.framed && !f.late && card.val < 24 && (t == 1 || t == 2) && f.crc == crc16 (brickDownBytes f), t == 1, f.header,
      f.epoch.toNat, f.words, f.control, f.service⟩
  | .axis f =>
    let t := frameType f.header
    ⟨f.framed && !f.late && 24 ≤ card.val && (t == 4 || t == 5) && f.crc == crc16 (axisDownBytes f), t == 4, f.header,
      f.epoch.toNat, tab (fun i => if h : i.val < 3 then (f.torque[i.val]'h).setWidth 32 else 0), f.control, f.service⟩

/-- A card's boundary drawn to its authority port's frames (R66): the start delimiter arrives one fibre delay after it was sent, and the
card takes off its port delay value; the PLL slews by at most 10 ns per period and is locked within ±20 ns. -/
def drawBoundary (card : Fin 28) (port : Fin 2) (c : Card) : Card :=
  let target : Int := 100 * ((Config.fibreDelay card port : Int) - (c.params[port.val] : Nat))
  let b := c.boundary + clamp (-1000) 1000 (target - c.boundary)
  { c with boundary := b, locked := decide ((target - b).natAbs ≤ 2000) }

/-- DOWNLINK_FRAME_ACCEPT (R64, R65, R67, R69). The manual gives a card no count of its own before its first accepted frame: until then the
count check is left out, and the frame's count is adopted (DESIGN CHOICE, log 180). -/
def downlinkAccept (card : Fin 28) (port : Fin 2) (f : Downlink) (d : Dev) : Dev :=
  let v := downView card f
  let c := d.card[card]
  let counted := c.authority = none ∨ frameCount v.header = c.count + 1
  if !v.good || !decide counted then d else
  let d := onCard card (fun c => { c with gotFrame := c.gotFrame.set port true }) d
  if !v.command ∨ v.epoch < c.highest then serviceAt card port false v.service d
  else if v.epoch = c.highest ∧ c.authority.isSome ∧ c.authority ≠ some port then
    serviceAt card port false v.service (onCard card (fun c => { c with conflictUntil := some (d.time.now + ms 100) }) d)
  else
    serviceAt card port true v.service (onCard card (fun c => drawBoundary card port { c with
      authority := some port, highest := v.epoch, miss := 0, orphan := false, braking := false, next := some v.words,
      nextControl := v.control, brkOpened := false, lastAccepted := d.time.now, count := frameCount v.header - 1 }) d)

/-- DOWNLINK_FRAME_ACCEPT. -/
def execDownlinkFrameAccept (card : Fin 28) (port : Fin 2) (f : Downlink) (s : State) : Host.Outcome State Fault Refusal :=
  done s (downlinkAccept card port f s.dev)

/-- Whether a port of a card is live: good frames in at least two of the last three periods (R69). -/
def portLive (c : Card) (p : Fin 2) : Bool := decide (2 ≤ ((c.portGood[p]).toList.countP id))
/-- A period's frames entered into the history of a port. -/
def pushGood (x : Bool) (v : Vector Bool 3) : Vector Bool 3 := tab (fun i => match i with
  | 0 => x
  | 1 => v[(0 : Fin 3)]
  | 2 => v[(1 : Fin 3)])

/-- CARD_DOWNLINK_DEADLINE (R68, R69, Table 3.14): a card that holds freewheels on its own oscillator. -/
def cardDeadline (card : Fin 28) (c : Card) : Card :=
  let c := { c with portGood := tab (fun p => pushGood c.gotFrame[p] c.portGood[p]), gotFrame := tab (fun _ => false) }
  if c.next.isSome then { c with miss := 0, orphan := false, braking := false }
  else
    let m := c.miss + 1
    let other := match c.authority with
      | some p => portLive c (1 - p)
      | none => false
    { c with miss := m, orphan := c.orphan || decide (3 ≤ m) || decide (c.params[11] < m),
             braking := decide (c.params[11] < m) || (decide (2 ≤ m) && !other) || c.authority.isNone,
             boundary := c.boundary + clamp (-50) 50 (Config.cardDrift card) }

/-! The switching pattern of a leg (R60, R61), in units of 312.5 ps. -/

/-- One carrier period, 10 µs. -/
def carrier : Nat := 32000
/-- The pieces of the high-side on-interval in the period (R60): centred on the phase instant, clamped so that a minimum pulse stays off, its
edges at the nearest realisable ones; wrapped past the boundary it is two pieces, and one shorter than the minimum pulse goes to the other. -/
def highPieces (duty phase minNs : Nat) : List (Nat × Nat) :=
  let on : Rat := min ((125 * duty : Nat) / 256) ((carrier : Rat) - (16 * minNs : Nat) / 5)
  let len := (roundAway on).toNat
  let s := (roundAway ((125 * phase : Nat) / 16 - on / 2) % (carrier : Int)).toNat
  let short (n : Nat) : Bool := decide (5 * n < 16 * minNs)
  if len = 0 then []
  else if s + len ≤ carrier then [(s, s + len)]
  else
    let x := s + len - carrier
    let y := carrier - s
    if short x then [(s - x, carrier)] else if short y then [(0, x + y)] else [(0, x), (s, carrier)]
/-- What the high-side pieces leave of a carrier period from an instant on, with a dead time kept beside every piece (R60). The dead time is
taken from the low side, so that the high side conducts for the duty word (DESIGN CHOICE, log 176). -/
def lowPieces (dead : Nat) : Nat → List (Nat × Nat) → List (Nat × Nat)
  | from_, [] => if from_ < carrier then [(from_, carrier)] else []
  | from_, (a, b) :: r =>
    let rest := lowPieces dead (if b < carrier then b + dead else carrier) r
    if from_ + dead < a then (from_, a - dead) :: rest else rest
/-- The switching pattern of a leg word (Table 3.1, R60, R61): `tripped` opens the synchronous switch, which the direction bit names, and
`limited` ends the on-time that the card current limit ends. -/
def switching (w : W32) (dead minNs : Nat) (tripped limited : Bool) : Switching :=
  let n := w.toNat
  let high := highPieces (n / 65536) (field n 4 12) minNs
  let low := lowPieces ((16 * dead + 2) / 5) 0 high
  let back := bit n 1
  let cut (b : Bool) (l : List (Nat × Nat)) : List (Nat × Nat) := if b then [] else l
  let p : Switching := match field n 2 2 with
    | 1 => ⟨high, low⟩
    | 2 => ⟨cut (tripped && back) high, cut (tripped && !back) low⟩
    | _ => ⟨[], []⟩
  ⟨cut (limited && !back) p.high, cut (limited && back) p.low⟩
/-- The patterns of a card's legs from the words in force, its dead time and minimum pulse, and what its comparators saw: the samples of the
cycle stand for the current within it (DESIGN CHOICE, log 185). -/
def patterns (c : Card) : Card :=
  let zero : Vector Bool 4 := tab (fun j => field (c.words[j]).toNat 2 2 == 2 && nearZero c.current[j])
  { c with zero := zero, pattern := tab (fun j => switching c.words[j] c.params[9] c.params[10] zero[j]
      (decide ((10 * c.params[8] : Nat) < (c.current[j]).natAbs))) }

/-- What a card applies at its boundary (R60, R65, R68): the accepted words, or those it holds, or braking; a drive applies
torque 0 in braking's place. -/
def cardBoundary (axis : Bool) (c : Card) : Card :=
  let c := match c.nextWrite with
    | some (a, v) => if h : a < 13 then { c with params := c.params.set a v, nextWrite := none } else { c with nextWrite := none }
    | none => c
  let c := { c with count := c.count + 1 }
  match c.next with
  | some w => { c with words := w, control := c.nextControl, next := none }
  | none =>
    if !c.braking then c
    else { c with words := c.words.map (fun w => if axis then 0 else
        if w &&& 0xC = 0 then w else w ||| 0xC) }

/-- CARD_DOWNLINK_DEADLINE: nothing reaches the card between its downlink deadline and its boundary, so the boundary follows at once. -/
def execCardDownlinkDeadline (card : Fin 28) (s : State) : Host.Outcome State Fault Refusal :=
  let axis := decide (24 ≤ card.val)
  done s (onCard card (fun c =>
    let c := cardBoundary axis (cardDeadline card c)
    if axis then c else patterns c) s.dev)

/-- CARD_CONTACTOR_HOLD (R70). -/
def execCardContactorHold (k : Fin 24) (s : State) : Host.Outcome State Fault Refusal :=
  let d := s.dev
  let i : Fin 28 := ⟨k.val, by omega⟩
  let c := d.card[i]
  done s (if 1 ≤ c.miss ∧ 3 ≤ c.low then onCard i (fun c => { c with brkOpened := true, control := c.control &&& 0x7F })
      (reach (c.lastAccepted + ms c.params[12]) d) else d)

/-- What a brick card measures at its boundary: its output current, below 2 A or not (R70), and its leg currents; a leg that the card has put
into braking moves itself to off within the zero-current window (R68). -/
def cardMeasures (k : Fin 24) (iOut : Int) (legs : Vector Int 4) (d : Dev) : Dev :=
  onCard ⟨k.val, by omega⟩ (fun c => patterns { c with
    iOut := iOut, low := if -100 < iOut ∧ iOut < 100 then min 3 (c.low + 1) else 0, current := legs
    words := if c.braking then tab (fun j => if nearZero legs[j] then c.words[j] &&& 0xFFFFFFF3 else c.words[j]) else c.words }) d

/-- The card's own samples of a period, whether its module takes them or not: an intact frame shows them; of a card whose uplink does not come
through whole they are free values. -/
def cardSamples (k : Fin 24) (u : Uplink) (d : Dev) : Dev :=
  let seen : Option BrickUp := match u with
    | .brick f => if f.framed && f.crc == crc16 (brickUpBytes f) then some f else none
    | _ => none
  match seen with
  | some f => cardMeasures k f.iOut.toInt (f.legCurrent.map (·.toInt)) d
  | none =>
    let n := d.freeCount
    cardMeasures k (Config.freeInt n) (tab (fun j => Config.freeInt (n + 1 + j.val))) { d with freeCount := n + 5 }

/-- UPLINK_DEADLINE (R64, R71, R78): the card has sampled; a running field control island takes what has come. -/
def execUplinkDeadline (port : Fin 28) (u : Uplink) (s : State) : Host.Outcome State Fault Refusal :=
  let d := s.dev
  let d := if h : port.val < 24 then cardSamples ⟨port.val, h⟩ u d else d
  done s (if up 1 d then uplinkDeadline port u d else d)

/-! Averages and peaks (R88, R89). -/

/-- A value added to the running sums of an average. -/
def Avg.add (a : Avg) (x : Int) : Avg := { sum := a.sum.map (· + x), n := a.n.map (· + 1) }
/-- The mean of a window in units of so many of the sums' units, rounded once, and the window begun again. -/
def Avg.close (a : Avg) (w : Fin 3) (per : Nat) : Option Int × Avg :=
  (if a.n[w] = 0 then none else some (divRound a.sum[w] (a.n[w] * per)), { sum := a.sum.set w 0, n := a.n.set w 0 })

/-- One period's values entered into every average (R88): a leg's power is its brick's output voltage times its current, in 0.5 mW, a brick's
in mW. -/
def averagePeriod (d : Dev) : Dev :=
  let d := { d with leg := tab (fun n =>
    let l := d.leg[n]
    let v : Int := (d.brick[brickOf n]).vOut
    { l with avgI := l.avgI.add l.current, avgP := l.avgP.add (v * l.current), avgT := l.avgT.add l.temp }) }
  { d with brick := tab (fun k =>
    let b := d.brick[k]
    { b with power := b.power.add ((b.vOut : Int) * b.iOut), voltage := b.voltage.add b.vOut }) }

/-- The length of an averaging window in steps. -/
def windowLength (w : Fin 3) : Nat := match w with
  | 0 => ms 1
  | 1 => ms 100
  | 2 => sec 1

/-- An average that a window has ended for is stored. -/
def storeAvg (idx sub : Nat) (a : Option Int) (d : Dev) : Dev := match a with
  | some x => setNum idx sub x d
  | none => d

/-- TELEMETRY_WINDOW_END (R88). -/
def telemetryEnd (w : Fin 3) (d : Dev) : Dev :=
  let d := tick ⟨w.val, by omega⟩ (windowLength w) d
  let d := (all 96).foldl (fun d n =>
    let l := d.leg[n]
    let (i, ai) := l.avgI.close w 1
    let (p, ap) := l.avgP.close w 2000
    let (t, at') := l.avgT.close w 1
    storeAvg (legTele n) (0x10 + w.val) i (storeAvg (legTele n) (0x13 + w.val) p (storeAvg (legTele n) (0x16 + w.val) t
      (onLeg n (fun l => { l with avgI := ai, avgP := ap, avgT := at' }) d)))) d
  (all 24).foldl (fun d k =>
    let b := d.brick[k]
    let (p, ap) := b.power.close w 1000
    let (v, av) := b.voltage.close w 1
    storeAvg (brickIdx k) (0x20 + w.val) p (storeAvg (brickIdx k) (0x23 + w.val) v
      (onBrick k (fun b => { b with power := ap, voltage := av }) d))) d

/-- TELEMETRY_WINDOW_END. -/
def execTelemetryWindowEnd (w : Fin 3) (s : State) : Host.Outcome State Fault Refusal := done s (telemetryEnd w s.dev)

/-- The peaks of a leg copied and cleared (R89). Where no sample has come since the last capture there is no peak to copy, and the captured
entries stay (DESIGN CHOICE, log 184). -/
def captureLeg (n : Fin 96) (d : Dev) : Dev :=
  let l := d.leg[n]
  let d := match l.peakI with
    | some (a, b) => setNum (legTele n) 0x21 a (setNum (legTele n) 0x22 b d)
    | none => d
  let d := match l.peakT with
    | some t => setNum (legTele n) 0x23 t d
    | none => d
  onLeg n (fun l => { l with peakI := none, peakT := none }) d
/-- The peaks of a brick copied and cleared (R89), as a leg's are. -/
def captureBrick (k : Fin 24) (d : Dev) : Dev :=
  let b := d.brick[k]
  let d := match b.peakI with
    | some (x, y) => setNum (brickIdx k) 0x27 x (setNum (brickIdx k) 0x28 y d)
    | none => d
  let d := match b.peakVdc with
    | some v => setNum (brickIdx k) 0x29 v d
    | none => d
  onBrick k (fun b => { b with peakI := none, peakVdc := none }) d

end Sys2Proof.Machine
end

