-- ==== Sys2Proof/Machine/Sequencer.lean ====
section
/-! DEFINITION. The modulator sequencer and period synchronisation (R50 to R53, R73 to R86). -/
namespace Sys2Proof.Machine

/-- The temperature factor of a leg (R50). -/
def tempFactor (n : Fin 96) (d : Dev) : Rat :=
  let t := (d.leg[n]).temp
  let a := num d (legIdx n) 0x04
  let b := num d (legIdx n) 0x05
  if t ≤ a then 1 else if b ≤ t then 0 else ((b - t : Int) : Rat) / ((b - a : Int) : Rat)

/-- A leg's current limit in A at its brick's output voltage (R50). -/
def legLimit (n : Fin 96) (d : Dev) : Rat :=
  let ie : Rat := (min 1000 (num d (legIdx n) 0x03) : Int) / 10
  let v := (d.brick[brickOf n]).vOut
  (if v = 0 then ie else min ie (1000000 / v)) * tempFactor n d

/-- The lowest of some limits. -/
def lowest : List Rat → Rat
  | [] => 0
  | [x] => x
  | x :: r => min x (lowest r)

/-- The common limit of the legs in service of a segment (R52). -/
def commonLimit (h : Fin 12) (d : Dev) : Rat := lowest ((activeLegs h d).map (fun n => legLimit n d))
/-- A segment's current capability in A (R50). -/
def capability (h : Fin 12) (d : Dev) : Rat := commonLimit h d * ((activeLegs h d).length : Nat)

/-- Among some legs, the first for which no other is better. -/
def bestLeg (better : Fin 96 → Fin 96 → Bool) : List (Fin 96) → Option (Fin 96)
  | [] => none
  | n :: r => match bestLeg better r with
    | none => some n
    | some m => if better m n then some m else some n

/-- A leg shed, with its cause (Table 3.16). -/
def shedLeg (n : Fin 96) (cause : ShedCause) (d : Dev) : Dev :=
  onLeg n (fun l => { l with state := .shed, shedCause := cause, belowBd := 0, implausible := 0 }) d

/-- The limit rule of R52, which sheds the leg with the lowest limit as long as that raises the capability. -/
def limitRule (h : Fin 12) : Nat → Dev → Dev
  | 0, d => d
  | k + 1, d =>
    let legs := activeLegs h d
    match bestLeg (fun a b => decide (legLimit a d < legLimit b d)) legs with
    | none => d
    | some n =>
      let l1 := legLimit n d
      let l2 := lowest ((legs.filter (· != n)).map (fun m => legLimit m d))
      if (legs.length : Rat) * l1 < ((legs.length : Rat) - 1) * l2 then limitRule h k (shedLeg n .limitRule d) else d

/-- A leg shed for the limit rule returns once R52 is not met with it in service. -/
def limitRestore (h : Fin 12) (d : Dev) : Dev :=
  ((segLegs h d).filter (fun n => (d.leg[n]).state == .shed && (d.leg[n]).shedCause == .limitRule && on d (legIdx n) 0x01)).foldl
    (fun d n =>
      let legs := activeLegs h d
      let common := commonLimit h d
      let with_ := if legs = [] then legLimit n d else min common (legLimit n d)
      if ((legs.length : Rat) + 1) * with_ < (legs.length : Rat) * common then d else legToService n d) d

/-- A segment's light-load levels in A: its closed outlet's where they are set, otherwise the defaults (Table 3.21). -/
def shedLevel (t : Nat) (h : Fin 12) (d : Dev) : Rat :=
  let own : Int := match closedOutlets h d with
    | j :: _ => num d (0x2310 + t) (j.val + 1)
    | [] => 0
  ((if own = 0 then num d 0x2310 (t + 1) else own : Int) : Rat) / 10

/-- The governing rail of the segment headed by a rail. -/
def governor (h : Fin 12) (d : Dev) : Fin 12 := (d.rail[h]).governing
/-- The magnitude of a segment's total current reference in A. -/
def refOf (h : Fin 12) (d : Dev) : Rat := |(d.rail[governor h d]).iRef|

/-- The legs of a segment that are active or shed for light load. -/
def availLegs (h : Fin 12) (d : Dev) : List (Fin 96) :=
  (segLegs h d).filter (fun n => inService d.leg[n] || ((d.leg[n]).state == .shed && (d.leg[n]).shedCause == .lightLoad))

/-- A rational rounded up. -/
def ceilRat (q : Rat) : Nat := (-((-q.num) / (q.den : Int))).toNat

/-- Whether a braking window of a leg, as long as configured from its entry into BRAKING, or the 10 periods after it, still run (R82, R84). -/
def brakeWindow (n : Fin 96) (d : Dev) : Bool := match (d.leg[n]).brakeStart with
  | some t => decide (d.time.now < t + period * (nat d 0x2330 0x06 + 10))
  | none => false
/-- Light-load shedding and restoring are suspended (R82): for a move in the segment, a braking window, or 10 periods after; and shedding waits
for the start settle time of an episode (R105). -/
def lightSuspended (busy : Bool) (h : Fin 12) (d : Dev) : Bool :=
  let r := d.rail[governor h d]
  busy || (segLegs h d).any (fun n => brakeWindow n d)
    || ((r.episode == .start || r.episode == .coincidentTie || r.episode == .coincidentOutlet) && decide (d.time.now < r.settleUntil))
    || (match d.ratio[governor h d] with
        | some q => decide (d.time.now < q.settleUntil)
        | none => false)

/-- A leg's 1 s average temperature. -/
def secTemp (n : Fin 96) (d : Dev) : Int := num d (legTele n) 0x18

/-- The restore decision of R81 in one period, and the shed dwell of R80: `shedSince` is when the condition began. Of two shed legs equally cool
the manual names none to come first; the lower index does (DESIGN CHOICE, log 183). -/
def lightLoad (busy : Bool) (h : Fin 12) (d : Dev) : Dev :=
  let act := activeLegs h d
  let avail := availLegs h d
  if !on d 0x2310 0x01 || lightSuspended busy h d || act = [] then onSeg h (fun s => { s with shedSince := none }) d else
  let iRef := refOf h d
  let share := iRef / (act.length : Nat)
  let nMin := nat d 0x2310 0x06
  let goal := ceilRat (iRef / shedLevel 2 h d)
  if min (shedLevel 3 h d) (9 / 10 * commonLimit h d) < share then
    let new := min avail.length (max nMin (max act.length goal))
    let shed := avail.filter (fun n => (d.leg[n]).state == .shed && on d (legIdx n) 0x01)
    let cooler (a b : Fin 96) : Bool := decide (secTemp a d < secTemp b d)
    let back := (List.range (new - act.length)).foldl (fun (p : List (Fin 96) × List (Fin 96)) _ =>
      match bestLeg cooler p.1 with
      | some n => (p.1.filter (· != n), p.2 ++ [n])
      | none => p) (shed, [])
    onSeg h (fun s => { s with shedSince := none }) (back.2.foldl (fun d n => legToService n d) d)
  else if share < shedLevel 1 h d then onSeg h (fun s => { s with shedSince := some (s.shedSince.getD d.time.now) }) d
  else onSeg h (fun s => { s with shedSince := none }) d

/-- The end of a shed dwell (R80): the hottest legs are shed, the higher index first where two are equally hot. -/
def shedExpiry (h : Fin 12) (d : Dev) : Dev :=
  match (d.ring.seg[h]).shedSince with
  | none => d
  | some t =>
    let d := reach (t + ms (nat d 0x2310 0x05)) d
    let act := activeLegs h d
    let new := max (nat d 0x2310 0x06) (ceilRat (refOf h d / shedLevel 2 h d))
    let hotter (a b : Fin 96) : Bool := decide (secTemp b d < secTemp a d ∨ (secTemp a d = secTemp b d ∧ b < a))
    let gone := (List.range (act.length - new)).foldl (fun (p : List (Fin 96) × List (Fin 96)) _ =>
      match bestLeg hotter p.1 with
      | some n => (p.1.filter (· != n), p.2 ++ [n])
      | none => p) (act, [])
    onSeg h (fun s => { s with shedSince := none }) (gone.2.foldl (fun d n => shedLeg n .lightLoad d) d)

/-- SHED_DWELL_EXPIRY (R80). -/
def execShedDwellExpiry (head : Fin 12) (s : State) : Host.Outcome State Fault Refusal :=
  done s (if s.dev.ring.group[head] = head then shedExpiry head s.dev else s.dev)

/-- The continuous-conduction boundary of a segment in A (R79). The manual does not say what V_out is while the segment's voltage has no valid
measurement: 0, so the boundary is 0 (DESIGN CHOICE, log 182). -/
def boundaryCurrent (h : Fin 12) (d : Dev) : Rat :=
  let vOut : Rat := ((measured (governor h d) d).getD 0 : Int) / 100000
  let vDc : Rat := lowest ((segBricks h d).map (fun k => (((d.brick[k]).vDc : Nat) : Rat) / 20))
  let l : Rat := lowest ((activeLegs h d).map (fun n => (num d (legIdx n) 0x02 : Rat) / 10000000))
  if vDc = 0 ∨ l = 0 then 0 else vOut * (1 - vOut / vDc) / (2 * l * 100000)

/-- DIODE_EMULATION_ENTRY (R79, Table 3.16): a share below the boundary for ten consecutive periods. -/
def execDiodeEmulationEntry (n : Fin 96) (s : State) : Host.Outcome State Fault Refusal :=
  let d := s.dev
  let l := d.leg[n]
  done s (if l.state = .active ∧ 10 ≤ l.belowBd ∧ on d 0x2310 0x07 then onLeg n (fun l => { l with state := .diodeEmu }) d else d)

/-- BRAKING_WINDOW_END (R84, Table 3.16). -/
def execBrakingWindowEnd (n : Fin 96) (s : State) : Host.Outcome State Fault Refusal :=
  let d := s.dev
  let l := d.leg[n]
  done s (if l.state ≠ .braking ∨ l.awaiting then d else
    let d := reach (l.brakeStart.getD d.time.now + period * nat d 0x2330 0x06) d
    if (d.brick[brickOf n]).missing = 0 then
      if nearZero l.current then onLeg n (fun l => { l with state := .standby }) d else legFault n 8 d
    else onLeg n (fun l => { l with awaiting := true }) d)

/-- SENSE_IMPLAUSIBLE (Table 3.16): more than 5 A from the share for 100 consecutive periods. -/
def execSenseImplausible (n : Fin 96) (s : State) : Host.Outcome State Fault Refusal :=
  let d := s.dev
  done s (if 100 ≤ (d.leg[n]).implausible ∧ (d.leg[n]).state ≠ .lost then legFault n 16 d else d)

/-- Whether a safety stop bit, as sampled for the period, holds a rail of the segment that a rail belongs to (R13, R49). -/
def segStopped (h : Fin 12) (d : Dev) : Bool :=
  (segRails (d.ring.head[h]) d).any (fun j => d.eng.stopFirst[j] || d.eng.stopSecond[j])

/-- Whether the release detector of a segment is faulted: any brick output current or rail voltage sample of it is not good (R85). -/
def detectorFaulted (h : Fin 12) (d : Dev) : Bool :=
  (segBricks h d).any (fun k => let b := d.brick[k]; !b.fresh || !b.outGood || !b.railGood)

/-- The direction of a segment's session: 1 delivering, -1 returning. -/
def sessionSign (h : Fin 12) (returning : Fin 12 → Bool) (d : Dev) : Rat := match closedOutlets h d with
  | j :: _ => if returning j then -1 else 1
  | [] => 1

/-- Whether a release is declared for a segment in this period (R83, R85). -/
def releaseNow (h : Fin 12) (returning : Fin 12 → Bool) (d : Dev) : Bool :=
  if closedOutlets h d = [] ∨ detectorFaulted h d then false else
  let i := segCurrent h d
  let s := sessionSign h returning d
  let grant : Rat := match closedOutlets h d with
    | j :: _ => |((d.alloc.grant[j] : Int) : Rat) / 10|
    | [] => 0
  let seg := d.ring.seg[h]
  let slope := match seg.prevI with
    | some p => decide (max (grant * (num d 0x2330 0x02 : Rat) / 100) (num d 0x2330 0x03 : Rat) < (p - i) * s)
    | none => false
  let reversal := decide ((num d 0x2330 0x04 : Rat) < -(i * s))
  let rise := match seg.prevV, measured (governor h d) d with
    | some p, some v => decide (100000 * num d 0x2330 0x05 < v - p)
    | _, _ => false
  slope || reversal || rise

/-- The outlet current and rail voltage of the period kept for the next (R83). -/
def detectorMemory (h : Fin 12) (d : Dev) : Dev :=
  if detectorFaulted h d then onSeg h (fun s => { s with faulted := true, prevI := none, prevV := none }) d
  else onSeg h (fun s => { s with
    faulted := false, prevI := some (segCurrent h d), prevV := measured (governor h d) d }) d

/-- A release of a segment (R83, R85, R113): its active legs brake where braking is enabled, a tracking episode of its rails aborts with stop
forced, and its set-point is replaced by the measured rail voltage in voltage mode. -/
def releaseSegment (h : Fin 12) (d : Dev) : Dev :=
  let d := bump 0x2330 0x08 (raise1 1 .release h.val d)
  let d := if on d 0x2330 0x01 then (activeLegs h d).foldl (fun d n => brakeLeg n d) d else d
  let d := (members h d).foldl (fun d j => if tracks (d.rail[j]).episode then abortEpisode j .stopForced d else d) d
  let g := governor h d
  onRail g (fun r => { r with
    currentMode := false, xv := zeroFixed, s := (measured g d).getD r.s, t := (measured g d).getD r.t }) d

/-- When every leg of a segment has left BRAKING the segment is held in voltage mode at the measured voltage (R84). -/
def brakeEndPeriod (h : Fin 12) (d : Dev) : Dev :=
  let was := (d.ring.seg[h]).braking
  let still := (segLegs h d).any (fun n => (d.leg[n]).state == .braking)
  let d := onSeg h (fun s => { s with braking := still }) d
  if was && !still then
    let g := governor h d
    onRail g (fun r => { r with currentMode := false, s := (measured g d).getD r.s, t := (measured g d).getD r.t }) d
  else d

/-- The transitions of Table 3.16 to OFF, and from OFF to STANDBY. -/
def offPeriod (n : Fin 96) (d : Dev) : Dev :=
  let k := brickOf n
  let l := d.leg[n]
  let b := d.brick[k]
  let brk := !brickOff k d
  match l.state with
  | .lost => d
  | .off =>
    if b.link = .up ∧ brk ∧ on d (legIdx n) 0x01 ∧ bit l.flags.toNat 0 ∧ legCauses n d = 0 then
      onLeg n (fun l => { l with state := .standby }) d else d
  | .fault => d
  | .standby | .shed =>
    if !brk || !on d (legIdx n) 0x01 then onLeg n (fun l => { l with state := .off, shedCause := .none }) d else d
  | _ => if !brk then onLeg n (fun l => { l with state := .off, shedCause := .none }) d else d

/-- A rational held between two bounds. -/
def clampR (lo hi x : Rat) : Rat := if x < lo then lo else if hi < x then hi else x

/-- The share of every active leg of a segment in A, clipped to the common limit (R51, R82). -/
def segShare (h : Fin 12) (d : Dev) : Rat :=
  let n := (activeLegs h d).length
  if n = 0 then 0 else
  let s := (d.rail[governor h d]).iRef / (n : Nat)
  let l := commonLimit h d
  if l < s then l else if s < -l then -l else s

/-- Whether a leg's current is commanded to zero whatever its segment's reference (R13, R46, R55). -/
def legZeroed (n : Fin 96) (d : Dev) : Bool :=
  let k := brickOf n
  let j := railOf k
  d.ring.brickZero[k] || d.ring.faultZero[j] || d.ring.openZero[j] || segStopped (segOf j d) d

/-- The move whose handover group splits the shares of a segment (R162): from the period in which its tie is confirmed, or from HANDOVER,
until its contactor has opened. -/
def handoverOf (h : Fin 12) (d : Dev) : Option PlanMove :=
  d.alloc.plan.moves.find? (fun m => (m.state == .running || m.state == .reversing)
    && (m.phase == .handover || m.phase == .openWait || m.phase == .opening || (m.phase == .close && m.kind == .join)) && segOf m.rail d == h
    && (activeLegs h d).any (fun n => m.group.contains n))

/-- The larger share of R164 that a group is held to, in magnitude: what the rest cannot carry. -/
def heldShare (h : Fin 12) (nGroup nRest : Nat) (d : Dev) : Rat :=
  (refOf h d - (nRest : Rat) * commonLimit h d) / (nGroup : Rat)

/-- The shares of a handover's group and of the rest, in A (R162, R164). -/
def groupShares (h : Fin 12) (m : PlanMove) (d : Dev) : Rat × Rat :=
  let act := activeLegs h d
  let ng := act.countP (fun n => m.group.contains n)
  let nr := act.length - ng
  let i := (d.rail[governor h d]).iRef
  let p : Rat := match m.gen with
    | some g => genVal (d.eng.gen[g]).p / 10
    | none => 0
  let held := heldShare h ng nr d
  let pg := if |p| < held then (if i < 0 then -held else held) else p
  (pg, (i - (ng : Rat) * pg) / (nr : Rat))

/-- A leg's share before its own zeroing (R51, R162). -/
def legShare (h : Fin 12) (n : Fin 96) (d : Dev) : Rat :=
  let l := commonLimit h d
  match handoverOf h d with
  | some m =>
    if (activeLegs h d).all (fun x => m.group.contains x) then segShare h d else
    let (pg, pr) := groupShares h m d
    clampR (-l) l (if m.group.contains n then pg else pr)
  | none => segShare h d

/-- A leg's share, its limit in force and its counters of the period (R79, Table 3.16, 0x21nn.07); the share commanded for a leg out of service
is 0. -/
def sharePeriod (h : Fin 12) (d : Dev) : Dev :=
  let share (n : Fin 96) : Rat := legShare h n d
  let bd := boundaryCurrent h d
  let d := onSeg h (fun s => { s with atLimit := decide (((availLegs h d).length : Rat) * commonLimit h d < refOf h d) }) d
  (segLegs h d).foldl (fun d n =>
    let l := d.leg[n]
    let serves := inService l
    let sh := if !serves || legZeroed n d then 0 else share n
    let off := l.state != .lost && decide (5 < |(l.current : Rat) / 100 - sh|) && !bit l.flags.toNat 6
    let d := onLeg n (fun l => { l with
      limit := (10 * legLimit n d).floor.toNat, implausible := if off then l.implausible + 1 else 0 }) d
    if !serves then onLeg n (fun l => { l with share := 0, belowBd := 0 }) d else
    let st : LegState :=
      if l.state = .diodeEmu ∧ (5 / 4 * bd < |sh| ∨ !on d 0x2310 0x07) then .active else l.state
    onLeg n (fun l => { l with
      share := sh, state := st,
      belowBd := if st = .active ∧ |sh| < bd then l.belowBd + 1 else 0 }) d) d

/-- The phase of the i-th of n active legs of the segment headed by rail h (R77). -/
def legPhase (h i n : Nat) : Nat := (341 * h % 4096 + (2 * i * 4096 + n) / (2 * n)) % 4096

/-- The mode of a leg's state (Table 3.1). -/
def legMode : LegState → Nat
  | .active => 1
  | .diodeEmu => 2
  | .braking => 3
  | _ => 0

/-- A leg word (Table 3.5). -/
def legWord (duty phase mode : Nat) (returning : Bool) : W32 :=
  BitVec.ofNat 32 (duty * 65536 + phase * 16 + mode * 4 + if returning then 2 else 0)

/-- The sequencer's work for one segment at position 3 (R78, R80 to R83): release and braking, the limit rule, light load, then
shares. `busy` says that a move involves the segment and `returning` which outlets return energy. Answers whether a
release was declared. -/
def sequenceSegment (busy : Fin 12 → Bool) (returning : Fin 12 → Bool) (h : Fin 12) (d : Dev) : Dev × Bool :=
  let rel := releaseNow h returning d
  let d := detectorMemory h d
  let d := if rel then releaseSegment h d else d
  let d := brakeEndPeriod h d
  let d := limitRestore h (limitRule h 96 d)
  let d := lightLoad (busy h) h d
  (sharePeriod h d, rel)

/-- The detector-faulted mask of 0x2330.07 (R85). -/
def detectorMask (d : Dev) : Nat := maskOf (fun j => d.ring.group[j] == j && (d.ring.seg[j]).faulted)

/-! Synchronisation of the period boundary. -/

/-- The phase error of an edge in steps (R73): from the edge plus the offset to the nearest boundary. -/
def phaseError (edge offset boundary : Nat) : Int :=
  let r : Int := ((edge : Int) + offset - boundary) % 1000
  if r < 500 then -r else 1000 - r

/-- Sync changed. -/
def onSync (f : Sync → Sync) (d : Dev) : Dev := { d with sync := f d.sync }

/-- An edge on SYNC_IN (R73 to R75): the phase error; in the module that sets the boundary phase the next period is
lengthened or shortened by one step; sync is locked after 16 consecutive edges within 20 ns. -/
def syncEdge (holder : Bool) (at_ : Nat) (d : Dev) : Dev :=
  if num d 0x2300 0x01 ≠ 1 then d else
  let at_ := atSite at_ d
  let d := reach at_ d
  let n := nat d 0x2300 0x02
  let s := d.sync
  let e := phaseError at_ (nat d 0x2300 0x03) s.boundary
  let off : Bool := match s.lastEdge with
    | some t => decide (n * 1000 * 500 < ((at_ : Int) - t - n * 1000).natAbs * 1000000)
    | none => false
  let inside := if e.natAbs ≤ 2 ∧ !off then min 16 (s.inside + 1) else 0
  let trim : Int := if off ∨ !holder ∨ e = 0 then 0 else if 0 < e then -1 else 1
  onSync (fun s => { s with
    lastEdge := some at_, error := 10 * e, inside := inside, missed := 0, offRate := off, trim := trim,
    state := if off then s.state else if 16 ≤ inside then .locked else if s.state = .locked then .locked else .acquiring }) d

/-- SYNC_IN_EDGE (R73 to R75); only the module that sets the boundary phase corrects it. -/
def syncInEdge (holder : Bool) (at_ : Nat) (d : Dev) : Dev := if up 1 d then syncEdge holder at_ d else d

/-- SYNC_LOSS (R74): an edge interval off rate, or no edge within 1.5 expected intervals three times in a row. The manual does not say where the
second and third wait begin: each where the last ended, 4.5 intervals after the last edge in all (DESIGN CHOICE, log 181). -/
def execSyncLoss (offRate : Bool) (s : State) : Host.Outcome State Fault Refusal :=
  let d := s.dev
  done s (if d.sync.state ≠ .locked then d
    else if offRate && !d.sync.offRate then d
    else
      let d := match offRate, d.sync.lastEdge with
        | false, some t => reach (t + nat d 0x2300 0x02 * 4500) d
        | _, _ => d
      raise 1 .syncLost [] (bump 0x2300 0x09 (onSync (fun s => { s with state := .holdover, trim := 0, inside := 0, missed := 3 }) d)))

/-- Sync with SYNC_IN not selected is free (Table 3.21). -/
def syncFree (d : Dev) : Dev :=
  if num d 0x2300 0x01 = 1 then d
  else onSync (fun s => { s with state := .free, inside := 0, lastEdge := none, missed := 0, offRate := false, trim := 0 }) d

/-- The SYNC_OUT pulse of a boundary (R76): at every boundary whose count is a multiple of the divider, from the offset after it for the
width; a divider of 0 holds SYNC_OUT low. -/
def syncPulse (d : Dev) : Dev :=
  let n := nat d 0x2300 0x06
  let a := d.sync.boundary + nat d 0x2300 0x07
  onSync (fun s =>
    if n = 0 then { s with outPulse := [] }
    else if s.count % n = 0 then { s with pulses := s.pulses + 1, outPulse := ((a, a + nat d 0x2300 0x08) :: s.outPulse).take 2 } else s) d
/-- The level of SYNC_OUT (R76). -/
def syncOut (d : Dev) : Bool := d.sync.outPulse.any (fun p => decide (p.1 ≤ d.time.now ∧ d.time.now < p.2))

/-- The period boundary (R73, R76): one period after the last, corrected by the trim, with its count and its SYNC_OUT
pulse. -/
def boundaryTick (d : Dev) : Dev :=
  let t := nextBoundary d
  syncPulse (onSync (fun s => { s with boundary := t, count := s.count + 1, periods := s.periods + 1, trim := 0 }) (syncFree (reach t d)))

end Sys2Proof.Machine
end

