-- ==== Sys2Proof/Machine/Engine.lean ====
section
/-! DEFINITION. The loop engine's slots (R117 to R133) and the following error (R140). -/
namespace Sys2Proof.Machine

/-- The slot classes: leg, rail, axis, thermal. -/
abbrev SlotClass := Fin 4

/-- Whether a class computes in block floating point (R127). -/
def classBfp (c : SlotClass) (d : Dev) : Bool := on d 0x2600 (0x07 + c.val)

/-- The format of a quantity of a class at its full scale (Table 5.3). -/
def scaleOf (c : SlotClass) (fs : Rat) (d : Dev) : Scale := ⟨classBfp c d, fs⟩
/-- The formats of the rail class's voltages and currents. -/
def railVolts (d : Dev) : Scale := scaleOf 1 (16384 / 10) d
def railAmps (d : Dev) : Scale := scaleOf 1 4096 d
/-- A BFP coefficient entry in its class's format (R127). -/
def coefEntry (k : Scale) (idx sub : Nat) (d : Dev) : Fixed := coef k (bfpVal (getVal d (key idx sub)))

/-- The sign of a rational. -/
def sgn (x : Rat) : Int := if 0 < x then 1 else if x < 0 then -1 else 0

/-- The lane and position of a slot number, lane × 34 + position (R117). -/
def slotLane (s : Fin 136) : Nat := s.val / 34
def slotPos (s : Fin 136) : Nat := s.val % 34
/-- The slot of a leg, a rail, an axis and a thermal loop (R118, R119). -/
def legSlotNo (n : Fin 96) : Fin 136 := ⟨n.val / 24 * 34 + 4 + n.val % 24, by omega⟩
def railSlotNo (j : Fin 12) : Fin 136 := ⟨j.val / 3 * 34 + j.val % 3, by omega⟩
def axisSlotNo (x : Fin 12) : Fin 136 := ⟨x.val % 2 * 34 + 28, by omega⟩
def thermalSlotNo : Fin 136 := 96

/-- The slots of the response analysis of a channel, eight frequencies each: positions 29 and 30, or 31 and 32, lane by lane (Table 5.2;
which frequencies a slot takes is a DESIGN CHOICE, log 195). -/
def analysisSlotNo (c : Fin 2) (i : Fin 8) : Fin 136 := ⟨i.val % 4 * 34 + 29 + 2 * c.val + i.val / 4, by omega⟩
/-- The two slots of a channel's capture framing (Table 5.2). -/
def captureSlotNo (c : Fin 2) (i : Fin 2) : Fin 136 := ⟨(2 * c.val + i.val) * 34 + 33, by omega⟩

/-- A collector cell written: its output record and the next integrator states (R121, R123). -/
def writeCell (s : Fin 136) (out : List Rat) (next : List Fixed) (d : Dev) : Dev :=
  { d with eng := { d.eng with filling := upd d.eng.filling s (fun c => { c with out := out, next := next, written := true }) } }

/-- Saturations of a class counted; the first after 100 ms without one raises an event (R128). -/
def countSat (c : SlotClass) (n : Nat) (d : Dev) : Dev :=
  if n = 0 then d else
  let quiet : Bool := match d.eng.satAt[c] with
    | none => true
    | some t => decide (t + ms 100 ≤ d.time.now)
  let d := bumpBy 0x2600 (0x03 + c.val) n { d with eng := { d.eng with satAt := upd d.eng.satAt c (fun _ => some d.time.now) } }
  bif quiet then raise1 1 .saturation c.val d else d

/-! Injection values that enter a slot (R143). -/

/-- A channel's configuration index. -/
def injIdx (c : Fin 2) : Nat := 0x2700 + 16 * c.val
/-- Whether a channel is running. -/
def injRunning (c : Fin 2) (d : Dev) : Bool := (d.eng.inj[c]).state == .settling || (d.eng.inj[c]).state == .measuring
/-- The value that the channels add to a slot at its reference (0) or its output (1). -/
def injected (target point : Nat) (d : Dev) : Rat :=
  (all 2).foldl (fun a c => if injRunning c d && nat d (injIdx c) 0x01 == target && nat d (injIdx c) 0x02 == point
    then a + (d.eng.inj[c]).value else a) 0

/-! Leg slots. -/

/-- A gain of a leg (R129), scaled to its inductance and then converted. -/
def legGain (k : Scale) (sub : Nat) (n : Fin 96) (d : Dev) : Fixed :=
  coef k (bfpVal (getVal d (key 0x2610 sub)) * (num d (legIdx n) 0x02 : Rat) / 1200)

/-- Whether the integrator keeps its value: the output was clamped and the error has the sign of what was cut off (R129). -/
def windsUp (e u d : Rat) : Bool := decide (d ≠ u) && sgn e == sgn (u - d)

/-- The leg slot (R123, R129, R130): the cell holds reference, feedback, error, duty, integrator and feedforward of the
normal result, then the duty of the stop result, and the next integrators of both. -/
def legSlot (n : Fin 96) (d : Dev) : Dev :=
  let amps := scaleOf 0 200 d
  let duty := scaleOf 0 1 d
  let kkp := scaleOf 0 (1 / 8) d
  let kki := scaleOf 0 (1 / 64) d
  let l := d.leg[n]
  let b := d.brick[brickOf n]
  let x := if inService l then d.eng.legX[n] else zeroFixed
  let (i, s) := stageOne amps ((l.current : Rat) / 100) 0
  let (share, s) := stageOne amps l.share s
  let (addR, s) := stageOne amps (injected (0x100 + n.val) 0 d) s
  let (addO, s) := stageOne duty (injected (0x100 + n.val) 1 d) s
  let (e, s) := accumulate amps [plain amps share, plain amps addR, minus (plain amps i)] s
  let (es, s) := accumulate amps [minus (plain amps i)] s
  let (e, es, s) := stageTwo amps e es s
  let (ff, s) := stageOne duty (if on d 0x2610 0x06 ∧ b.vDc ≠ 0 then (b.vOut : Rat) / b.vDc else 0) s
  let kp := legGain kkp 0x01 n d
  let ki := legGain kki 0x02 n d
  let xLim := fixVal duty (coefEntry duty 0x2610 0x03 d)
  let bound (u : Rat) : Rat := clampR ((num d 0x2610 0x04 : Rat) / 65536) ((num d 0x2610 0x05 : Rat) / 65536) u
  let (u, s) := accumulate duty [plain duty ff, times kkp amps kp e, plain duty x, plain duty addO] s
  let (us, s) := accumulate duty [plain duty ff, times kkp amps kp es, plain duty x, plain duty addO] s
  let (du, ds, s) := stageTwo duty (bound u) (bound us) s
  let (xn, s) := accumulate duty [plain duty x, times kki amps ki e] s
  let (xs, s) := accumulate duty [plain duty x, times kki amps ki es] s
  let (xn, xs, s) := stageTwo duty (clampR (-xLim) xLim xn) (clampR (-xLim) xLim xs) s
  let xn := if !b.fresh || windsUp (fixVal amps e) u (bound u) then x else xn
  let xs := if !b.fresh || windsUp (fixVal amps es) us (bound us) then x else xs
  countSat 0 s (writeCell (legSlotNo n)
    [fixVal amps share + fixVal amps addR, fixVal amps i, fixVal amps e, fixVal duty du, fixVal duty xn, fixVal duty ff, fixVal duty ds] [xn, xs] d)

/-! Rail slots. -/

/-- A rail's last measured voltage in V, from its last good samples. -/
def lastVoltage (j : Fin 12) (d : Dev) : Rat :=
  match measured j d with
  | some v => (v : Rat) / 100000
  | none =>
    let l := ((bricksOf j).filter (fun k => (d.brick[k]).railGood)).map (fun k => (d.brick[k]).vRail)
    if l = [] then 0 else (l.foldl (· + ·) 0 : Nat) / (20 * (l.length : Nat) : Rat)

/-- The rail slot of a governing rail (R131): the cell holds reference, feedback, error, current reference, integrator and
feedforward. -/
def railSlot (j : Fin 12) (d : Dev) : Dev :=
  if !governs j d then writeCell (railSlotNo j) [] [] d else
  let volts := railVolts d
  let amps := railAmps d
  let gain := scaleOf 1 1024 d
  let r := d.rail[j]
  let idx := 0x2620 + j.val
  let (v, n) := stageOne volts (lastVoltage j d) 0
  let (ceil, n) := stageOne volts ((vCeil j d : Rat) / 100000) n
  let (fl, n) := stageOne volts ((vFloor j d : Rat) / 100000) n
  let lim := fixVal amps (coef amps ((num d idx 0x06 : Rat) / 10))
  let bounded (x : Rat) : Rat := clampR (-lim) lim x
  let (addO, n) := stageOne amps (injected (0x200 + j.val) 1 d) n
  let bits := (if fixVal volts ceil < fixVal volts v then 1 else 0) + (if fixVal volts v < fixVal volts fl then 2 else 0)
  if r.currentMode then
    let kKic := scaleOf 1 1 d
    let (iGen, n) := stageOne amps (genAmps (outletGen j) d) n
    let (addR, n) := stageOne amps (injected (0x200 + j.val) 0 d) n
    let (iOut, n) := stageOne amps (segCurrent (segOf j d) d) n
    let ref := [plain amps iGen, plain amps addR]
    let (e, n) := accumulate amps (ref ++ [minus (plain amps iOut)]) n
    let (e, n) := stageOne amps e n
    let (xc, n) := accumulate amps [plain amps r.xc, times kKic amps (coefEntry kKic idx 0x04 d) e] n
    let (xc, n) := stageOne amps (bounded xc) n
    let (i0, n) := accumulate amps (ref ++ [plain amps xc]) n
    let (above, n) := accumulate volts [plain volts v, minus (plain volts ceil)] n
    let (below, n) := accumulate volts [plain volts fl, minus (plain volts v)] n
    let (above, below, n) := stageTwo volts (max 0 above) (max 0 below) n
    let kl := coefEntry gain idx 0x05 d
    let (i, n) := accumulate amps (ref ++ [plain amps xc, minus (times gain volts kl above), times gain volts kl below, plain amps addO]) n
    let (i, n) := stageOne amps (clampR (min 0 i0) (max 0 i0) i) n
    let limit := fixVal gain kl * (fixVal volts below - fixVal volts above)
    countSat 1 n (writeCell (railSlotNo j)
      [fixVal amps iGen + fixVal amps addR, fixVal amps iOut, fixVal amps e, fixVal amps i, fixVal amps xc, limit] [xc]
      (onRail j (fun r => { r with iRef := fixVal amps i, xc := xc, atLimit := bits, sPrev := r.s }) d))
  else
    let kKiv := scaleOf 1 16 d
    let kCff := scaleOf 1 131072 d
    let (s, n) := stageOne volts ((r.s : Rat) / 100000) n
    let (addR, n) := stageOne volts (injected (0x200 + j.val) 0 d) n
    let (e, n) := accumulate volts [plain volts s, plain volts addR, minus (plain volts v)] n
    let (e, n) := stageOne volts e n
    let (sOld, n) := stageOne volts ((r.sPrev : Rat) / 100000) n
    let (ds, n) := accumulate volts [plain volts s, minus (plain volts sOld)] n
    let (ds, n) := stageOne volts ds n
    let c := coef kCff (num d idx 0x03 : Rat)
    let ff : Operand := { times kCff volts c ds with unit := scaleUnit kCff * scaleUnit volts / 10 }
    let (u, n) := accumulate amps [times gain volts (coefEntry gain idx 0x01 d) e, plain amps r.xv, ff, plain amps addO] n
    let (xv, n) := accumulate amps [plain amps r.xv, times kKiv volts (coefEntry kKiv idx 0x02 d) e] n
    let (xv, n) := stageOne amps (bounded xv) n
    let il := voltageLimit j d
    let (i, n) := stageOne amps (clampR (-il) il u) n
    let bits := bits + (if clampR (-il) il u ≠ u then 4 else 0)
    countSat 1 n (writeCell (railSlotNo j)
      [fixVal volts s + fixVal volts addR, fixVal volts v, fixVal volts e, fixVal amps i, fixVal amps xv, fixVal kCff c * fixVal volts ds / 10] [xv]
      (onRail j (fun r => { r with iRef := fixVal amps i, xv := xv, atLimit := bits, sPrev := r.s }) d))

/-! Axis slots. -/

/-- The unit and the axis within it of an axis number (R119). -/
def axisUnit (x : Fin 12) : Fin 4 := ⟨x.val / 3, by omega⟩
def axisPart (x : Fin 12) : Fin 3 := ⟨x.val % 3, by omega⟩
/-- The entries of an axis. -/
def axisIdx (x : Fin 12) : Nat := 0x2640 + x.val
/-- An axis changed. -/
def onAxis (x : Fin 12) (f : Axis → Axis) (d : Dev) : Dev := { d with eng := { d.eng with axis := upd d.eng.axis x f } }
/-- A difference modulo 2^32 as a signed number (R132). -/
def wrap32 (x : Int) : Int := let r := x % 4294967296; if r < 2147483648 then r else r - 4294967296
/-- The position of an axis in the input image. -/
def axisPosition (x : Fin 12) (d : Dev) : Int := (d.drive[axisUnit x]).position[axisPart x]
/-- Whether an axis is enabled by its entry (Table 5.10). -/
def axisEnabled (x : Fin 12) (d : Dev) : Bool := on d (axisIdx x) 0x09
/-- Whether the drive of an axis reports STO active (Table 3.13). -/
def axisSto (x : Fin 12) (d : Dev) : Bool := bit ((d.drive[axisUnit x]).status[axisPart x]).toNat 6

/-- The following error judged at a run of an axis (R140). -/
def followRun (x : Fin 12) (ep : Int) (a : Axis) (enabled : Bool) (d : Dev) : Axis :=
  let beyond := decide (num d (axisIdx x) 0x07 < |ep|)
  { a with error := ep, follow := if !enabled then a.follow else if beyond then a.follow + 1 else 0 }

/-- The full scale of an axis's acceleration in Q15, which Table 5.3 leaves out, in counts/s² (DESIGN CHOICE, log 196). -/
def axisAccScale : Rat := 4294967296
/-- The axis slot (R132, R140). -/
def axisSlot (torqueOff : Vector Bool 4) (x : Fin 12) (d : Dev) : Dev :=
  let idx := axisIdx x
  let a := d.eng.axis[x]
  let p := axisPosition x d
  let g := d.eng.gen[axisGen x]
  if !axisEnabled x d || axisSto x d || torqueOff[axisUnit x] then
    let d := genRestAt (axisGen x) (p * 2 ^ 24) d
    let d := onAxis x (fun a => { followRun x 0 a (axisEnabled x d) d with xa := zeroFixed, pPrev := p, torque := 0 }) d
    writeCell (axisSlotNo x) [(p : Rat), (p : Rat), 0, 0, 0, 0] [zeroFixed] d
  else
    let counts := scaleOf 2 32768 d
    let speed := scaleOf 2 4194304 d
    let acc := scaleOf 2 axisAccScale d
    let torque := scaleOf 2 1 d
    let kKpp := scaleOf 2 8192 d
    let kKvp := scaleOf 2 (1 / 64) d
    let kFine := scaleOf 2 (1 / 512) d
    let kKvf := scaleOf 2 2 d
    let ep := wrap32 (genReport g.p - p)
    let (epr, n) := stageOne counts ((ep : Rat) + injected (0x300 + x.val) 0 d) 0
    let (vm, n) := stageOne speed ((wrap32 (p - a.pPrev) : Rat) * 1000000 / 80) n
    let (vg, n) := stageOne speed (genVal g.v) n
    let (ag, n) := stageOne acc (genVal g.a) n
    let (addO, n) := stageOne torque (injected (0x300 + x.val) 1 d) n
    let (ev, n) := accumulate speed
      [times kKpp counts (coefEntry kKpp idx 0x01 d) epr, times kKvf speed (coefEntry kKvf idx 0x04 d) vg, minus (plain speed vm)] n
    let (ev, n) := stageOne speed ev n
    let lim := fixVal torque (coef torque ((num d idx 0x06 : Rat) / 32768))
    let bounded (x : Rat) : Rat := clampR (-lim) lim x
    let kaf := coefEntry kFine idx 0x05 d
    let (u, n) := accumulate torque
      [times kKvp speed (coefEntry kKvp idx 0x02 d) ev, plain torque a.xa, times kFine acc kaf ag, plain torque addO] n
    let (xa, n) := accumulate torque [plain torque a.xa, times kFine speed (coefEntry kFine idx 0x03 d) ev] n
    let (xa, n) := stageOne torque (bounded xa) n
    let (tau, n) := stageOne torque (bounded u) n
    let xa := if bounded u ≠ u ∧ sgn (fixVal speed ev) = sgn (fixVal torque tau) then a.xa else xa
    let word := clamp (-32768) 32767 (roundAway (fixVal torque tau * 32768))
    let d := onAxis x (fun a => { followRun x ep a true d with xa := xa, pPrev := p, torque := word }) d
    countSat 2 n (writeCell (axisSlotNo x)
      [genVal g.p, (p : Rat), (ep : Rat), fixVal torque tau, fixVal torque xa, fixVal kFine kaf * fixVal acc ag] [xa] d)

/-- The axes that run in a period of this count (R119). -/
def axesDue (count : Nat) : List (Fin 12) :=
  let q := count % 8
  if h : q < 6 then [⟨2 * q, by omega⟩, ⟨2 * q + 1, by omega⟩] else []

/-- FOLLOWING_ERROR_TIMER (R140): the counter has reached the timer value and the flag is set. -/
def execFollowingErrorTimer (x : Fin 12) (s : State) : Host.Outcome State Fault Refusal :=
  let d := s.dev
  done s (if nat d (axisIdx x) 0x08 ≤ (d.eng.axis[x]).follow ∧ !(d.eng.axis[x]).flag then
    raise1 1 .followingError x.val (onAxis x (fun a => { a with flag := true }) d) else d)

/-! Thermal slots. -/

/-- The general generator bound to a thermal loop, where there is one (Table 5.5). -/
def boundGen (w : Fin 16) (d : Dev) : Option (Fin 28) :=
  (all 28).find? (fun g => 24 ≤ g.val && nat d (genIdx g) 0x0C == w.val && (d.eng.gen[g]).user != .allocator)
/-- A loop's set-point in 0.1 °C: its bound generator's output or its entry. -/
def thermalSet (w : Fin 16) (d : Dev) : Rat := match boundGen w d with
  | some g => genVal (d.eng.gen[g]).p
  | none => (num d (thermalIdx w) 0x03 : Rat)

/-- The thermal slot (R133). Of the temperature before the source's first value the manual says nothing: it is a free value. -/
def thermalSlot (w : Fin 16) (d : Dev) : Dev :=
  let idx := thermalIdx w
  let x := d.eng.thermal[w]
  let duty := scaleOf 3 1 d
  if x.stale then
    writeCell thermalSlotNo [0, 0, 0, (num d idx 0x08 : Rat) / 32768, fixVal duty x.xt, 0] [x.xt]
      (onThermal w (fun x => { x with duty := num d idx 0x08 }) d)
  else
    let temp := scaleOf 3 (32768 / 100) d
    let kKp := scaleOf 3 16 d
    let bounded (q : Rat) : Rat := clampR ((num d idx 0x07 : Rat) / 32768) ((num d idx 0x08 : Rat) / 32768) q
    let (t, n) := stageOne temp ((x.input.getD (Config.thermalBefore w.val) : Rat) / 10) 0
    let (set, n) := stageOne temp (thermalSet w d / 10) n
    let (addR, n) := stageOne temp (injected (0x400 + w.val) 0 d) n
    let (addO, n) := stageOne duty (injected (0x400 + w.val) 1 d) n
    let (e, n) := accumulate temp [plain temp t, minus (plain temp set), minus (plain temp addR)] n
    let (e, n) := stageOne temp e n
    let (xt, n) := accumulate duty [plain duty x.xt, times duty temp (coefEntry duty idx 0x05 d) e] n
    let (xt, n) := stageOne duty (bounded xt) n
    let (u, n) := accumulate duty [times kKp temp (coefEntry kKp idx 0x04 d) e, plain duty xt, plain duty addO] n
    let (u, n) := stageOne duty (bounded u) n
    let word := clamp 0 32767 (roundAway (fixVal duty u * 32768))
    countSat 3 n (writeCell thermalSlotNo
      [fixVal temp set + fixVal temp addR, fixVal temp t, fixVal temp e, fixVal duty u, fixVal duty xt, 0] [xt]
      (onThermal w (fun x => { x with xt := xt, duty := word }) d))

/-- THERMAL_INPUT_STALE (R133): three intervals without a value drive the loop to its duty maximum. -/
def execThermalInputStale (w : Fin 16) (s : State) : Host.Outcome State Fault Refusal :=
  let d := s.dev
  done s (let d := reach ((d.eng.thermal[w]).inputAt + ms 3) d
    onThermal w (fun x => { x with stale := true, duty := num d (thermalIdx w) 0x08 }) d)

/-! Outputs and slot faults. -/

/-- An uncorrectable error in a slot's words: the cell of the slot is marked, and the fault counted and reported (R124). -/
def slotFault (s : Fin 136) (d : Dev) : Dev :=
  let d := { d with eng := { d.eng with filling := upd d.eng.filling s (fun c => { c with fault := true }) } }
  raise 1 .slotFault (evData [(1, (slotLane s : Int)), (1, (slotPos s : Int))])
    (setNum 0x2600 0x0D (slotLane s * 256 + slotPos s) (bump 0x2600 0x0C d))

/-- The words last sent for a faulted slot's output stand in place of what it computed: rail reference, axis torque, thermal duty (R124);
`before` is the state that the slot found. -/
def repeatOutput (before : Dev) (s : Fin 136) (d : Dev) : Dev :=
  let d := (all 12).foldl (fun d j => if railSlotNo j = s then
    onRail j (fun r => { r with iRef := (before.rail[j]).iRef, atLimit := (before.rail[j]).atLimit }) d else d) d
  let d := (axesDue d.sync.periods).foldl (fun d x => if axisSlotNo x = s then
    onAxis x (fun a => { a with torque := (before.eng.axis[x]).torque }) d else d) d
  if s = thermalSlotNo then
    (if h : d.eng.w < 16 then onThermal ⟨d.eng.w, h⟩ (fun x => { x with duty := (before.eng.thermal[d.eng.w]).duty }) d else d) else d

/-- The state of a faulted slot rebuilt from its coefficients, its integrator zero (R124): for an analysis slot the sums of its
frequencies; an axis also sets its flag (R140). -/
def rebuildSlot (s : Fin 136) (d : Dev) : Dev :=
  let d := (all 96).foldl (fun d n => if legSlotNo n = s then
    { d with eng := { d.eng with legX := upd d.eng.legX n (fun _ => zeroFixed) } } else d) d
  let d := (all 12).foldl (fun d j => if railSlotNo j = s then onRail j (fun r => { r with xv := zeroFixed, xc := zeroFixed }) d else d) d
  let d := (axesDue d.sync.periods).foldl (fun d x => if axisSlotNo x = s then
    raise1 1 .followingError x.val (onAxis x (fun a => { a with xa := zeroFixed, flag := true }) d) else d) d
  let d := (all 2).foldl (fun d c => (all 8).foldl (fun d i => if analysisSlotNo c i = s then
    let clear (l : List (Rat × Rat)) : List (Rat × Rat) := (l.zip (List.range l.length)).map (fun p => if p.2 / 8 = i.val then (0, 0) else p.1)
    { d with eng := { d.eng with inj := upd d.eng.inj c (fun x => { x with x := clear x.x, y := clear x.y }) } } else d) d) d
  if s = thermalSlotNo then
    (if h : d.eng.w < 16 then onThermal ⟨d.eng.w, h⟩ (fun x => { x with xt := zeroFixed }) d else d) else d

/-- The duty word of a duty (R129). -/
def dutyWord (x : Rat) : Nat := (clamp 0 65535 (roundAway (x * 65536))).toNat

/-- The output of a leg selected from the closed bank and its word formed (R59, R77, R123, R124). -/
def legOutput (n : Fin 96) (phase : Option Nat) (d : Dev) : Dev :=
  let l := d.leg[n]
  let c := d.eng.closed[legSlotNo n]
  if c.fault ∨ !c.written then d
  else if !inService l then
    let w := legWord (field l.word.toNat 16 16) (field l.word.toNat 4 12) (legMode l.state) false
    { onLeg n (fun l => { l with word := if legMode l.state = 0 then 0 else w }) d with
        eng := { d.eng with legX := upd d.eng.legX n (fun _ => zeroFixed) } }
  else
    let stop := segStopped (segOf (railOf (brickOf n)) d) d
    let duty := if stop then c.out.getD 6 0 else c.out.getD 3 0
    let x := c.next.getD (if stop then 1 else 0) zeroFixed
    let w := legWord (dutyWord duty) (phase.getD (field l.word.toNat 4 12)) (legMode l.state) (decide (l.share < 0) && !stop)
    { onLeg n (fun l => { l with word := w }) d with eng := { d.eng with
        legX := upd d.eng.legX n (fun _ => x), legStop := upd d.eng.legStop n (fun _ => stop)
        legReused := upd d.eng.legReused n (fun _ => !(d.brick[brickOf n]).fresh) } }

/-- The legs of every segment with their phases (R77). -/
def phases (d : Dev) : List (Fin 96 × Nat) :=
  (heads d).flatMap (fun h =>
    let legs := activeLegs h d
    (List.range legs.length).filterMap (fun i => (legs[i]?).map (fun n => (n, legPhase h.val i legs.length))))

end Sys2Proof.Machine
end

