-- ==== Sys2Proof/Machine/Injection.lean ====
section
/-! DEFINITION. Injection, response analysis, capture and sequence timers (R141 to R146). -/
namespace Sys2Proof.Machine

/-- An injection channel changed. -/
def onInj (c : Fin 2) (f : Inj → Inj) (d : Dev) : Dev := { d with eng := { d.eng with inj := upd d.eng.inj c f } }
/-- The class and index of a channel's target. -/
def injClass (c : Fin 2) (d : Dev) : Nat := nat d (injIdx c) 0x01 / 256
def injIndex (c : Fin 2) (d : Dev) : Nat := nat d (injIdx c) 0x01 % 256
/-- The sample interval of a target class in periods (R142). -/
def injInterval (cls : Nat) : Nat := if cls = 3 then 8 else if cls = 4 then 100 else 1
/-- The analysis frequencies of a channel in mHz: those that are used, in order. -/
def injFreqs (c : Fin 2) (d : Dev) : List Nat :=
  ((List.range 64).map (fun i => nat d (injIdx c + 2) (i + 1))).filter (· ≠ 0)
/-- An entry of an injection channel. -/
def injEntry (c : Fin 2) (sub : Nat) (d : Dev) : Nat := nat d (injIdx c) sub

/-- Whether a target's slot runs in the present period (R119, R143). -/
def injDue (c : Fin 2) (d : Dev) : Bool :=
  match injClass c d with
  | 3 => (axesDue d.sync.periods).any (fun x => x.val == injIndex c d)
  | 4 => d.eng.w == injIndex c d
  | _ => true

/-- The phase increment of a frequency in mHz at a sample interval (R143). -/
def phaseStep (mHz : Rat) (interval : Nat) : Nat := (roundAway (mHz / 1000 * interval / 100000 * 2 ^ 32)).toNat
/-- The samples that a number of cycles lasts (Table 5.7). -/
def cycleSamples (cycles mHz interval : Nat) : Nat := ceilDiv (cycles * 100000000) (mHz * interval)

/-- 2 to a rational power from 0 up, by its fraction's exponential series. -/
def expTerms (x : Rat) : Nat → Nat → Rat → Rat
  | 0, _, _ => 0
  | n + 1, k, t => t + expTerms x n (k + 1) (trim80 (t * x / k))
/-- 2 to a rational power. -/
def exp2 (y : Rat) : Rat :=
  let i : Int := y.num / (y.den : Int)
  pow2 i * expTerms (trim80 ((y - i) * ln2)) 24 1 1

/-- The frequency of a chirp at sample n of N, in mHz (Table 5.7). -/
def chirpFreq (c : Fin 2) (n total : Nat) (d : Dev) : Rat :=
  let f0 : Rat := (injEntry c 0x05 d : Rat)
  let f1 : Rat := (injEntry c 0x06 d : Rat)
  let t : Rat := (n : Rat) / (max 1 (total - 1) : Nat)
  if injEntry c 0x07 d = 0 then f0 + (f1 - f0) * t else f0 * exp2 (t * log2 (f1 / f0))

/-- The feedback taps of a shift register of order m (Table 5.7). -/
def prbsTaps : Nat → List Nat
  | 7 => [7, 6] | 8 => [8, 6, 5, 4] | 9 => [9, 5] | 10 => [10, 7] | 11 => [11, 9] | 12 => [12, 11, 10, 4]
  | 13 => [13, 12, 11, 8] | 14 => [14, 13, 12, 2] | _ => [15, 14]
/-- The register shifted once: stage 1 takes the exclusive or of the taps. -/
def prbsShift (m r : Nat) : Nat :=
  let b := (prbsTaps m).foldl (fun a t => a != bit r (t - 1)) false
  (r * 2 + if b then 1 else 0) % 2 ^ m

/-- The samples of the whole signal (Table 5.7); a stepped sine's frequencies in turn. -/
def injTotal (c : Fin 2) (d : Dev) : Nat :=
  let iv := injInterval (injClass c d)
  match injEntry c 0x03 d with
  | 1 => injEntry c 0x08 d * 100 / iv
  | 2 => (2 ^ injEntry c 0x09 d - 1) * injEntry c 0x0A d * injEntry c 0x0B d
  | _ => (injFreqs c d).foldl (fun a f => a + cycleSamples (injEntry c 0x0C d) f iv + cycleSamples (injEntry c 0x0D d) f iv) 0

/-- The settle and measure samples of the present frequency of a stepped sine. -/
def stepSamples (c : Fin 2) (d : Dev) : Nat × Nat :=
  let iv := injInterval (injClass c d)
  let f := (injFreqs c d).getD (d.eng.inj[c]).step 1000
  (cycleSamples (injEntry c 0x0C d) f iv, cycleSamples (injEntry c 0x0D d) f iv)

/-- The value of a running channel's signal at its present sample (R143). -/
def signalValue (c : Fin 2) (d : Dev) : Rat :=
  let x := d.eng.inj[c]
  let a := bfpVal (getVal d (key (injIdx c) 0x04))
  if injEntry c 0x03 d = 2 then (if bit x.lfsr (injEntry c 0x09 d - 1) then a else -a) else a * sine x.phi

/-- The signal values of a period: a channel whose target runs takes its present sample's, any other adds nothing. -/
def signalPeriod (d : Dev) : Dev :=
  (all 2).foldl (fun d c =>
    let v := if injRunning c d && injDue c d && decide ((d.eng.inj[c]).n < injTotal c d) then signalValue c d else 0
    onInj c (fun x => { x with value := v, startTime := if x.n = 0 then ((d.sync.boundary : Int) + d.time.base).toNat else x.startTime }) d) d

/-- The slot of a channel's target. -/
def targetSlot (c : Fin 2) (d : Dev) : Fin 136 :=
  let i := injIndex c d
  match injClass c d with
  | 1 => legSlotNo (Fin.ofNat 96 i)
  | 2 => railSlotNo (Fin.ofNat 12 i)
  | 3 => axisSlotNo (Fin.ofNat 12 i)
  | _ => thermalSlotNo
/-- A signal of a target's slot by its code (Table 5.8). -/
def slotSignal (c : Fin 2) (code : Nat) (d : Dev) : Rat :=
  if code = 0 then (d.eng.inj[c]).value else (d.eng.filling[targetSlot c d]).out.getD (code - 1) 0

/-- The angle of f·n·Ts in units of 2^32 to the turn (R144). -/
def turnAngle (mHz n interval : Nat) : Nat := mHz * n * interval % 100000000 * 2 ^ 32 / 100000000

/-- Whether the window of analysis frequency i is open at the present sample (R144). -/
def windowOpen (c : Fin 2) (i : Nat) (d : Dev) : Bool :=
  let x := d.eng.inj[c]
  match injEntry c 0x03 d with
  | 1 => true
  | 2 => decide ((2 ^ injEntry c 0x09 d - 1) * injEntry c 0x0A d ≤ x.n)
  | _ => i == x.step && decide ((stepSamples c d).1 ≤ x.inStep)

/-- A term of a Fourier sum added. -/
def addTerm (v : Rat) (phi : Nat) (p : Rat × Rat) : Rat × Rat := (trim40 (p.1 + v * cosine phi), trim40 (p.2 - v * sine phi))

/-- The accumulations of one sample (R144). -/
def analyse (c : Fin 2) (d : Dev) : Dev :=
  let x := d.eng.inj[c]
  let iv := injInterval (injClass c d)
  let y := slotSignal c (injEntry c 0x0E d) d
  let fs := injFreqs c d
  let acc (v : Rat) (l : List (Rat × Rat)) : List (Rat × Rat) := (List.range fs.length).map (fun i =>
    let p := l.getD i (0, 0)
    if windowOpen c i d then addTerm v (turnAngle (fs.getD i 0) x.n iv) p else p)
  onInj c (fun z => { z with x := acc x.value x.x, y := acc y x.y }) d

/-- The squared magnitude of a complex number. -/
def magSq (p : Rat × Rat) : Rat := p.1 * p.1 + p.2 * p.2
/-- Gain in 0.01 dB and phase in 0.01° of a point (R144). -/
def response (x y : Rat × Rat) : Int × Int :=
  let h2 := magSq y / magSq x
  let gain : Int := if h2 = 0 then -32767 else clamp (-32767) 32767 (roundAway (1000 * log2 h2 * 30102999566 / 100000000000))
  let ph := roundAway (100 * argDeg (x.1 * y.1 + x.2 * y.2) (x.1 * y.2 - x.2 * y.1))
  (gain, if ph = -18000 then 18000 else ph)

/-- The results of the first so many frequencies written, the others invalid (R144, R145). -/
def writeResults (c : Fin 2) (complete : Nat) (d : Dev) : Dev :=
  let x := d.eng.inj[c]
  let n := (injFreqs c d).length
  let biggest := x.x.foldl (fun a p => max a (magSq p)) 0
  (List.range n).foldl (fun d i =>
    let p := x.x.getD i (0, 0)
    let good := decide (i < complete) && decide (0 < magSq p) && decide (biggest ≤ magSq p * 1000000)
    let (g, ph) := if good then response p (x.y.getD i (0, 0)) else (-32768, -32768)
    setNum (injIdx c + 4) (i + 1) ph (setNum (injIdx c + 3) (i + 1) g d)) d

/-- The capture signals of a channel: injected and the responses of its mask (R146). -/
def captureCodes (c : Fin 2) (d : Dev) : List Nat := 0 :: ((List.range 7).filter (fun i => i ≠ 0 && bit (injEntry c 0x10 d) i))
/-- Whether a channel captures. -/
def captures (c : Fin 2) (d : Dev) : Bool := injEntry c 0x10 d ≠ 0

/-- A list of units written to capture memory from a unit number. -/
def putCapture : Nat → List W32 → Dev → Dev
  | _, [], d => d
  | u, w :: r, d =>
    if 1048576 ≤ u then d else
    putCapture (u + 1) r { d with dma := { d.dma with
      mem := putUnit (captureBase + 4 * u) w d.dma.mem, capUsed := max d.dma.capUsed (4 * u + 4) } }

/-- The header of a capture record (Table 5.8) with its status bits. -/
def captureHeader (c : Fin 2) (status : Nat) (d : Dev) : List W32 :=
  let x := d.eng.inj[c]
  let codes := captureCodes c d
  let amp : Nat := match getVal d (key (injIdx c) 0x04) with
    | .bfp m e => (m % 65536).toNat * 65536 + (e % 256).toNat * 256
    | _ => 0
  let sigWord (i : Nat) : Nat := match codes[i]? with
    | some k => k * 2 ^ 24 + (Config.captureExponent k).toNat * 256
    | none => 0
  ([2 ^ 24 + c.val * 65536 + injEntry c 0x03 d * 256 + codes.length,
    injEntry c 0x01 d * 65536 + injEntry c 0x02 d * 256 + injInterval (injClass c d),
    x.startTime % 2 ^ 32, x.startTime / 2 ^ 32, x.frames, amp] ++ (List.range 7).map sigWord ++ [status, 0, 0]).map (BitVec.ofNat 32)

/-- The words of a capture frame (R146): the period count, then every signal scaled by its exponent. -/
def frameWords (c : Fin 2) (d : Dev) : List W32 :=
  BitVec.ofNat 32 d.sync.periods ::
    (captureCodes c d).map (fun k => BitVec.ofInt 32 (roundAway (slotSignal c k d * pow2 (-(Config.captureExponent k).toInt))))
/-- One capture frame (R146), framed in the channel's two slots of position 33. -/
def captureFrame (c : Fin 2) (d : Dev) : Dev :=
  if !captures c d then d else
  let words := frameWords c d
  let x := d.eng.inj[c]
  let half (i : Fin 2) : List Rat := ((words.drop (4 * i.val)).take 4).map (fun w => ((w.toNat : Nat) : Rat))
  let d := (all 2).foldl (fun d i => writeCell (captureSlotNo c i) (half i) [] d) d
  onInj c (fun x => { x with frames := x.frames + 1 }) (putCapture (16 + x.frames * words.length) words d)

/-- The analysis slots' results: the sums of their eight frequencies. -/
def analysisCells (c : Fin 2) (d : Dev) : Dev :=
  let x := d.eng.inj[c]
  let part (i : Fin 8) (l : List (Rat × Rat)) : List Rat := ((l.drop (8 * i.val)).take 8).flatMap (fun p => [p.1, p.2])
  (all 8).foldl (fun d i => writeCell (analysisSlotNo c i) (part i x.x ++ part i x.y) [] d) d

/-- The channel's sample counters after a sample (Table 5.7). -/
def advanceSignal (c : Fin 2) (d : Dev) : Dev :=
  let x := d.eng.inj[c]
  let iv := injInterval (injClass c d)
  match injEntry c 0x03 d with
  | 1 => onInj c (fun x => { x with n := x.n + 1, phi := (x.phi + phaseStep (chirpFreq c x.n (injTotal c d) d) iv) % 2 ^ 32 }) d
  | 2 =>
    let k := max 1 (injEntry c 0x0A d)
    onInj c (fun x => { x with
      n := x.n + 1, lfsr := if (x.n + 1) % k = 0 then prbsShift (injEntry c 0x09 d) x.lfsr else x.lfsr,
      state := if (2 ^ injEntry c 0x09 d - 1) * k ≤ x.n + 1 then .measuring else x.state }) d
  | _ =>
    let (settle, measure) := stepSamples c d
    if settle + measure ≤ x.inStep + 1 then
      writeResults c (x.step + 1) (onInj c (fun x => { x with
        n := x.n + 1, step := x.step + 1, inStep := 0, phi := 0, complete := x.step + 1, state := .settling }) d)
    else onInj c (fun x => { x with
      n := x.n + 1, inStep := x.inStep + 1,
      phi := (x.phi + phaseStep ((injFreqs c d).getD x.step 1000 : Rat) iv) % 2 ^ 32,
      state := if settle ≤ x.inStep + 1 then .measuring else .settling }) d

/-- Positions 29 to 33 (R117, R118, R144, R146): the slots of both channels run; a channel whose target ran in the period takes its
sample. -/
def analysisPeriod (d : Dev) : Dev :=
  (all 2).foldl (fun d c =>
    if injRunning c d && injDue c d && decide ((d.eng.inj[c]).n < injTotal c d) then
      advanceSignal c (captureFrame c (analysisCells c (analyse c d)))
    else (all 2).foldl (fun d i => writeCell (captureSlotNo c i) [] [] d) (analysisCells c d)) d

/-- A sequence timer's owner, as 0x2720 reports it. -/
def onTimer (t : Fin 4) (o : Option Nat) (d : Dev) : Dev := { d with eng := { d.eng with timer := upd d.eng.timer t (fun _ => o) } }
/-- Every timer of an owner released (R141). -/
def releaseTimers (owner : Nat) (d : Dev) : Dev :=
  { d with eng := { d.eng with timer := d.eng.timer.map (fun o => if o = some owner then none else o) } }

/-- The DMA channel that writes an injection channel's capture record (R421). -/
def captureChannel (c : Fin 2) : Fin 16 := ⟨14 + c.val, by omega⟩
/-- A running injection ends: its capture record is closed and held for its session, its timer released (R141, R146,
R427). -/
def injClose (c : Fin 2) (st : InjState) (cause status : Nat) (d : Dev) : Dev :=
  let d := onInj c (fun x => { x with state := st, cause := cause, value := 0 }) d
  let d := releaseTimers (0x40 + c.val) d
  if captures c d ∧ d.dma.capState = .filling then
    let d := putCapture 0 (captureHeader c status d) (internalChannel (captureChannel c) false d)
    if d.dma.capOwner = 0 then releaseCapture d else { d with dma := { d.dma with capState := .held } }
  else d

/-- INJECTION_END (R144): after the last sample. -/
def injectionEnd (c : Fin 2) (d : Dev) : Dev :=
  if injRunning c d && decide (injTotal c d ≤ (d.eng.inj[c]).n) then
    let n := (injFreqs c d).length
    injClose c .done 0 1 (writeResults c n (onInj c (fun x => { x with complete := n }) d))
  else d

/-- INJECTION_END. -/
def execInjectionEnd (c : Fin 2) (s : State) : Host.Outcome State Fault Refusal := done s (injectionEnd c s.dev)

/-- An injection is aborted with a cause (R145); points whose window had not completed are invalid. -/
def injAbort (c : Fin 2) (cause : Nat) (d : Dev) : Dev :=
  if injRunning c d then
    injClose c .aborted cause 2 (writeResults c (if injEntry c 0x03 d = 3 then (d.eng.inj[c]).complete else 0) d)
  else d

/-- The cause for which a running injection aborts in a period (R145). `released` are the heads of the segments with a
release in it. -/
def injAbortCause (c : Fin 2) (released : List (Fin 12)) (d : Dev) : Option Nat :=
  let seg (j : Fin 12) : Bool := segStopped (segOf j d) d || released.contains (segOf j d)
  let i := injIndex c d
  let byClass : Option Nat := match injClass c d with
    | 1 =>
      let n : Fin 96 := Fin.ofNat 96 i
      if seg (railOf (brickOf n)) then some 3 else if !inService d.leg[n] then some 2 else none
    | 2 =>
      let j : Fin 12 := Fin.ofNat 12 i
      if seg j then some 3 else if (d.rail[j]).state ≠ .live then some 2 else none
    | 3 => if (d.eng.axis[(Fin.ofNat 12 i : Fin 12)]).flag then some 4 else none
    | _ => none
  match byClass with
  | some x => some x
  | none => if d.eng.faulted.contains (targetSlot c d) && injDue c d then some 5 else none

/-- The aborts of a period. -/
def abortPeriod (released : List (Fin 12)) (d : Dev) : Dev :=
  (all 2).foldl (fun d c => if injRunning c d then (match injAbortCause c released d with
    | some x => injAbort c x d
    | none => d) else d) d

/-- An injection starts (R142, R146): its timer and capture memory are taken, and its accumulations begin. -/
def injBegin (c : Fin 2) (session : Nat) (d : Dev) : Dev :=
  let n := (injFreqs c d).length
  let d := onTimer (Fin.ofNat 4 (injEntry c 0x0F d)) (some (0x40 + c.val)) d
  let st : InjState := if injEntry c 0x03 d = 1 then .measuring else .settling
  let d := onInj c (fun _ => ⟨st, 0, 0, 0, 0, 0, 2 ^ injEntry c 0x09 d - 1, 0, List.replicate n (0, 0), List.replicate n (0, 0), 0,
    session, d.sync.boundary + period, 0⟩) d
  let d := (List.range 64).foldl (fun d i =>
    setNum (injIdx c + 4) (i + 1) (-32768) (setNum (injIdx c + 3) (i + 1) (-32768) d)) d
  if captures c d then
    let d := { d with dma := { d.dma with capState := .filling, capOwner := session, capUsed := 0 } }
    putCapture 0 (captureHeader c 0 d) (internalChannel (captureChannel c) true d)
  else d

/-- Whether a capture record of the present settings fits in capture memory (R146). -/
def captureFits (c : Fin 2) (d : Dev) : Bool :=
  decide (64 + 4 * ((captureCodes c d).length + 1) * injTotal c d ≤ 4194304)

/-- A general generator's start by a host (R141): at once, or after its delay on the named timer. -/
def generatorStart (g : Fin 28) (d : Dev) : Dev :=
  let t := nat d (genIdx g) 0x0E
  let go (d : Dev) : Dev := onGen g (fun x => { x with target := num d (genIdx g) 0x06 * 2 ^ 24, replan := true }) d
  if h : t < 4 then
    onTimer ⟨t, h⟩ (some g.val) (onGen g (fun x => { x with due := some (d.sync.periods + nat d (genIdx g) 0x0D) }) d)
  else go d

/-- GENERATOR_START_DELAY_EXPIRY (R141): the move starts and the timer is released. -/
def execGeneratorStartDelayExpiry (g : Fin 28) (s : State) : Host.Outcome State Fault Refusal :=
  let d := s.dev
  done s (match (d.eng.gen[g]).due with
    | some n =>
      let d := reach (d.sync.boundary + (n - d.sync.periods) * period) d
      releaseTimers g.val (onGen g (fun x => { x with due := none, target := num d (genIdx g) 0x06 * 2 ^ 24, replan := true }) d)
    | none => d)

end Sys2Proof.Machine
end

