-- ==== Sys2Proof/Machine/Allocator.lean ====
section
/-! DEFINITION. The allocator's planning: limits, demands, grants, layout and the move list (R149 to R161). -/
namespace Sys2Proof.Machine

/-- The allocator changed. -/
def onAlloc (f : Alloc → Alloc) (d : Dev) : Dev := { d with alloc := f d.alloc }
/-- An outlet changed. -/
def onOut (k : Fin 12) (f : Outlet → Outlet) (d : Dev) : Dev := { d with out := upd d.out k f }
/-- An outlet's entries: status, configuration, session parameters, commands. -/
def outIdx (k : Fin 12) (t : Nat) : Nat := 0x3000 + 16 * k.val + t

/-- Whether an outlet's state lies from CABLE_CHECK to RETURNING. -/
def inCharge (s : OutState) : Bool := s == .cableCheck || s == .precharge || s == .delivering || s == .returning

/-- The site limits in force (R152): import and export in kW, and whether they are the fallback. -/
def gridLimits (d : Dev) : Nat × Nat × Bool :=
  if d.alloc.fallback then (nat d 0x2811 0x04, nat d 0x2811 0x05, true) else (d.alloc.written.1, d.alloc.written.2, false)

/-- A write of a grid limit puts both written values in force (R152). -/
def gridWrite (d : Dev) : Dev :=
  onAlloc (fun a => { a with written := (nat d 0x2811 0x01, nat d 0x2811 0x02), writtenAt := some d.time.now, fallback := false }) d

/-- GRID_LIMIT_EXPIRY (R152): the fallback limits apply from the next cycle. -/
def execGridLimitExpiry (s : State) : Host.Outcome State Fault Refusal :=
  let d := s.dev
  done s (match d.alloc.writtenAt with
    | some t =>
      let d := reach (t + sec (nat d 0x2811 0x03)) d
      raise 1 .gridLimitExpired [] (onAlloc (fun a => { a with writtenAt := none }) d)
    | none => d)

/-- A front end's record changed. -/
def onFront (i : Fin 8) (f : FrontEnd → FrontEnd) (d : Dev) : Dev := onAlloc (fun a => { a with front := upd a.front i f }) d

/-- Site power data of a front end, in kW (R151); of two values the newer by its reading time is used (R348). -/
def frontData (i : Fin 8) (imp exp stamp : Nat) (d : Dev) : Dev :=
  if stamp < (d.alloc.front[i]).stamp then d else onFront i (fun _ => ⟨imp, exp, stamp, some d.time.now, false, false⟩) d

/-- FRONT_END_STALE (R151, R152): 300 ms without site power data; the hold begins. -/
def execFrontEndStale (i : Fin 8) (s : State) : Host.Outcome State Fault Refusal :=
  let d := s.dev
  done s (match (d.alloc.front[i]).at_ with
    | some t => if (d.alloc.front[i]).stale then d else
        raise1 1 .frontEndStale i.val (onFront i (fun f => { f with stale := true }) (reach (t + ms 300) d))
    | none => d)

/-- FRONT_END_STALE_HOLD_EXPIRY (R151): the capacity counts as 0 kW. -/
def execFrontEndStaleHoldExpiry (i : Fin 8) (s : State) : Host.Outcome State Fault Refusal :=
  let d := s.dev
  done s (match (d.alloc.front[i]).at_ with
    | some t => if (d.alloc.front[i]).stale then
        onFront i (fun f => { f with imp := 0, exp := 0, gone := true }) (reach (t + ms 300 + ms (nat d 0x2810 0x0C)) d) else d
    | none => d)

/-- The sum of the front ends' capacities in kW. -/
def frontSum (f : FrontEnd → Nat) (d : Dev) : Nat := d.alloc.front.toList.foldl (fun a x => a + f x) 0
/-- L_imp and L_exp in kW (R154). -/
def importBudget (d : Dev) : Rat :=
  max 0 ((min (gridLimits d).1 (frontSum FrontEnd.imp d) : Int) - num d 0x2810 0x03 : Int)
def exportBudget (d : Dev) : Rat := (min (gridLimits d).2.1 (frontSum FrontEnd.exp d) : Nat)

/-- The planning voltage of an outlet in V (R153); none where it has no planned segment. -/
def planVoltage (k : Fin 12) (d : Dev) : Option Rat :=
  let o := d.out[k]
  match o.state with
  | .delivering | .returning | .precharge =>
    if (d.rail[k]).state = .live then some (lastVoltage k d) else some ((o.presentV : Rat) / 1000)
  | .cableCheck => some ((o.vehMax.getD (num d (outIdx k 1) 0x03) : Rat) / 1000)
  | _ => none
/-- The voltage that enters the budget: no less than 150 V (R154). -/
def budgetVoltage (k : Fin 12) (d : Dev) : Rat := max 150 ((planVoltage k d).getD 0)

/-- An outlet's demand in 0.1 A (R153, R199). -/
def demandOf (k : Fin 12) (d : Dev) : Int :=
  let o := d.out[k]
  let m := min (min |sessionRequest k d| (num d (outIdx k 1) 0x02)) (max 0 o.derated)
  if o.turning then 0 else match o.state with
  | .delivering | .precharge => m
  | .returning => -m
  | _ => 0

/-- Whether a brick is to be isolated (Table 2.8). -/
def isolationAsked (k : Fin 24) (d : Dev) : Bool := num d (brickIdx k) 0x02 == 1
/-- Whether a leg is available to the allocator (R156). -/
def legAvailable (n : Fin 96) (d : Dev) : Bool :=
  let l := d.leg[n]
  l.state == .standby || inService l || (l.state == .shed && l.shedCause != .limitRule)
/-- The available legs of some rails. -/
def availableOn (rails : List (Fin 12)) (d : Dev) : List (Fin 96) :=
  (rails.flatMap (fun j => (bricksOf j).flatMap legsOf)).filter (fun n => legAvailable n d)
/-- A leg's limit in A at a voltage in V (R50). -/
def legLimitAt (v : Rat) (n : Fin 96) (d : Dev) : Rat :=
  let ie : Rat := (min 1000 (num d (legIdx n) 0x03) : Int) / 10
  (if v ≤ 0 then ie else min ie (50000 / v)) * tempFactor n d
/-- The available legs that a plan counts on: not those that are to be shed or isolated, for their moves are always planned for (R174). -/
def planLegs (rails : List (Fin 12)) (d : Dev) : List (Fin 96) :=
  (availableOn rails d).filter (fun n => on d (legIdx n) 0x01 && !isolationAsked (brickOf n) d)
/-- The planning headroom of the present cycle, in % (R177). -/
def headroom (d : Dev) : Nat := d.alloc.par[(0 : Fin 5)]
/-- A limit put in its place in a rising list. -/
def insertLimit (x : Rat) : List Rat → List Rat
  | [] => [x]
  | y :: r => if x ≤ y then x :: y :: r else y :: insertLimit x r
/-- The limits that stay in service of a rising list under the limit rule of R52. -/
def keepLimits : List Rat → List Rat
  | l1 :: l2 :: r => if ((r.length + 2 : Nat) : Rat) * l1 < ((r.length + 1 : Nat) : Rat) * l2 then keepLimits (l2 :: r) else l1 :: l2 :: r
  | l => l
/-- The capability in A of some legs at a voltage under a headroom in %: legs that the limit rule sheds are left out (R156). -/
def capabilityOf (legs : List (Fin 96)) (v : Rat) (percent : Nat) (d : Dev) : Rat :=
  let kept := keepLimits ((legs.map (fun n => legLimitAt v n d)).foldr insertLimit [])
  (kept.length : Nat) * lowest kept * (percent : Rat) / 100

/-- An outlet's priority class. -/
def priority (k : Fin 12) (d : Dev) : Nat := nat d 0x2812 (k.val + 1)
/-- The conversion efficiency. -/
def efficiency (d : Dev) : Rat := (d.alloc.par[(1 : Fin 5)] : Rat) / 1000

/-- One outlet in a pass of the grant procedure: its power so far and at its cap and minimum, in W, and its class. -/
structure Claim where
  k : Fin 12
  prio : Nat
  power : Rat
  floor : Rat
  cap : Rat

/-- The power used by a class raised together to a level. -/
def levelUse (p : Nat) (level : Rat) (l : List Claim) : Rat :=
  l.foldl (fun a c => if c.prio = p then a + (clampR c.power c.cap level - c.power) else a) 0
/-- The common level to which a class is raised with so much power left (R155). -/
def levelFor (p : Nat) (room : Rat) (l : List Claim) : Rat :=
  let marks := (l.filter (fun c => c.prio = p)).flatMap (fun c => [c.power, c.cap])
  let base := (marks.filter (fun m => levelUse p m l ≤ room)).foldl max 0
  let rising := l.countP (fun c => decide (c.prio = p ∧ c.power ≤ base ∧ base < c.cap))
  if rising = 0 then base else base + (room - levelUse p base l) / (rising : Nat)

/-- One pass of R155 over output-side power in W: minimum grants by class and index, then every class raised together. -/
def grantPass (room : Rat) (l : List Claim) : List Claim :=
  let classes := List.range 8
  let step1 := classes.foldl (fun (a : Rat × List Claim) p =>
    a.2.foldl (fun (b : Rat × List Claim) c =>
      if c.prio = p then let g := max 0 (min (min c.floor c.cap) b.1); (b.1 - g, b.2 ++ [{ c with power := g }])
      else (b.1, b.2 ++ [c])) (a.1, [])) (max 0 room, l)
  (classes.foldl (fun (a : Rat × List Claim) p =>
    let level := levelFor p a.1 a.2
    (max 0 (a.1 - levelUse p level a.2), a.2.map (fun c => if c.prio = p then { c with power := clampR c.power c.cap level } else c)))
    step1).2

/-- A claim's grant in 0.1 A, rounded down (R155). -/
def tenths (c : Claim) (d : Dev) : Nat := let q := c.power * 10 / budgetVoltage c.k d; (q.num / (q.den : Int)).toNat
/-- Claims at their rounded grants. -/
def rounded (l : List Claim) (d : Dev) : List Claim := l.map (fun c => { c with power := budgetVoltage c.k d * (tenths c d : Rat) / 10 })
/-- The power of some claims together, in W. -/
def powerOf (l : List Claim) : Rat := l.foldl (fun a c => a + c.power) 0

/-- Returning claims lowered by a power, the lowest priority class first, and within a class the higher index first (R155). -/
def lowerClaims (excess : Rat) (l : List Claim) : List Claim :=
  ((List.range 8).reverse.foldl (fun (a : Rat × List Claim) p =>
    a.2.reverse.foldl (fun (b : Rat × List Claim) c =>
      if c.prio = p then let cut := max 0 (min c.power b.1); (b.1 - cut, { c with power := c.power - cut } :: b.2)
      else (b.1, c :: b.2)) (a.1, [])) (max 0 excess, l)).2

/-- Returning and delivering claims whose rounded grants keep site import within the budget (R154): delivery is funded by the import budget and
what is returned; what is returned too much is lowered. Where rounding leaves import outside a budget this narrow, the grants are found again
from what is then returned, at most so many times, and at last with nothing returned (DESIGN CHOICE, log 201). -/
def settleGrants (eta lImp lExp : Rat) (del : List Claim) (d : Dev) : Nat → List Claim → List Claim × List Claim
  | 0, r => (r.map (fun c => { c with power := 0 }), rounded (grantPass (lImp * eta) del) d)
  | n + 1, r =>
    let g := rounded (grantPass ((lImp + eta * powerOf r) * eta) del) d
    let out := powerOf g / eta
    let r' := rounded (lowerClaims ((eta * powerOf r - out - lExp) / eta) r) d
    if out - eta * powerOf r' ≤ lImp then (r', g) else settleGrants eta lImp lExp del d n r'

/-- The grants in 0.1 A for caps in A, from the grants of the plan in force (R154, R155). -/
def grantsFor (cap : Fin 12 → Rat) (d : Dev) : Vector Int 12 :=
  let eta := efficiency d
  let lImp := importBudget d * 1000
  let lExp := exportBudget d * 1000
  let claim (k : Fin 12) : Claim :=
    let v := budgetVoltage k d
    ⟨k, priority k d, 0, v * (num d 0x2813 (k.val + 1) : Rat) / 10, v * cap k⟩
  let ret := (all 12).filter (fun k => decide (demandOf k d < 0))
  let del := (all 12).filter (fun k => decide (0 < demandOf k d))
  let inForce := del.foldl (fun a k => a + budgetVoltage k d * (max 0 (d.alloc.plan.grant[k]) : Int) / 10) (0 : Rat)
  let r := rounded (grantPass ((lExp + inForce / eta) / eta) (ret.map claim)) d
  let x := settleGrants eta lImp lExp (del.map claim) d 8 r
  let given (l : List Claim) (k : Fin 12) : Int := match l.find? (fun c => c.k == k) with
    | some c => tenths c d
    | none => 0
  tab (fun k => given x.2 k - given x.1 k)

/-! Layout (R158, R159). -/

/-- Whether an outlet has a planned segment (R153). -/
def hasPlan (k : Fin 12) (d : Dev) : Bool := (planVoltage k d).isSome && !hostSource k d && railFitted k d
/-- The rail a number of steps up or down the ring. -/
def shift (j : Fin 12) (n : Int) : Fin 12 := ⟨(((j.val : Int) + n) % 12).toNat, by omega⟩

/-- The current an outlet's segment is sized for, in A: its tentative grant, or in CABLE_CHECK the vehicle's maximum. -/
def sizeFor (k : Fin 12) (tentative : Vector Int 12) (d : Dev) : Rat :=
  if (d.out[k]).state = .cableCheck then (((d.out[k]).maxI : Int) : Rat) / 10
  else ((|tentative[k]| : Int) : Rat) / 10

/-- The runs of the planned outlets while the layout grows: for each outlet with a planned segment its rails upwards. -/
abbrev Runs := List (Fin 12 × List (Fin 12))

/-- Whether a run has the legs its outlet needs (R158). -/
def runEnough (size : Fin 12 → Rat) (k : Fin 12) (rails : List (Fin 12)) (d : Dev) : Bool :=
  decide (size k ≤ capabilityOf (planLegs rails d) ((planVoltage k d).getD 0) (headroom d) d)

/-- Whether a tie may be planned in a state (R158): fitted, a frozen tie and a tie that has not dwelt stay as they are, and no
tie next to an ISOLATED rail closes. -/
def tieMay (j : Fin 12) (closed : Bool) (d : Dev) : Bool :=
  let now := tieClosed j d
  if now = closed then true
  else tieFitted j d && !(d.ring.tie[j]).frozen && dwelt j d
    && (!closed || ((d.rail[j]).state != .isolated && (d.rail[above j]).state != .isolated))

/-- The outlet whose run holds a rail. -/
def runOwner (r : Runs) (j : Fin 12) : Option (Fin 12) := (r.find? (fun p => p.2.contains j)).map Prod.fst

/-- Whether a run joins the two rails of a tie. -/
def runTie (r : Runs) (j : Fin 12) : Bool := match runOwner r j, runOwner r (above j) with
  | some a, some b => a == b && (match r.lookup a with | some l => decide (l.idxOf j + 1 = l.idxOf (above j)) | none => false)
  | _, _ => false
/-- Whether a fitted tie stays open beside a tie that a run would take in (R158 rule 5). -/
def leavesOpen (r : Runs) (tie : Fin 12) (d : Dev) : Bool :=
  (all 12).any (fun i => i != tie && tieFitted i d && !runTie r i && !(tieClosed i d && !tieMay i false d))

/-- The run of adjacent rails of an outlet's present segment that contains no other outlet's rail; an outlet whose contactor is
open starts from its own rail. -/
def presentRun (k : Fin 12) (d : Dev) : List (Fin 12) :=
  if !outletClosed k d then [k] else
  let m := members (segOf k d) d
  let foreign (j : Fin 12) : Bool := j != k && (hasPlan j d || outletClosed j d)
  let i := m.idxOf k
  let lo := ((m.take i).reverse.takeWhile (fun j => !foreign j)).reverse
  let hi := (m.drop (i + 1)).takeWhile (fun j => !foreign j)
  lo ++ [k] ++ hi

/-- Whether outlet k has the better claim to a rail that outlet m's run holds (R158 rule 4, R159): the higher priority; at equal priority the
segment that already holds the rail, then the lower index; or m has enough without it. -/
def outranks (size : Fin 12 → Rat) (r : Runs) (k m j : Fin 12) (d : Dev) : Bool :=
  decide (priority k d < priority m d)
    || runEnough size m (((r.lookup m).getD []).filter (fun i => i != j)) d
    || (priority k d == priority m d && !(presentRun m d).contains j && ((presentRun k d).contains j || decide (k < m)))

/-- Whether outlet k may take a rail next to its run (R158 rules 1, 3, 4 and 5). -/
def mayTake (size : Fin 12 → Rat) (r : Runs) (k j tie : Fin 12) (d : Dev) : Bool :=
  let rail := d.rail[j]
  tieMay tie true d && leavesOpen r tie d && rail.state != .isolated && railFitted j d && !hostSource j d && !outletClosed j d && !hasPlan j d &&
  match runOwner r j with
  | none =>
    rail.state == .free || ((members (segOf j d) d).any (fun i => hasPlan i d) && (rail.state == .joined || rail.state == .live))
  | some m => m != k && outranks size r k m j d

/-- Rails that outlet k could take one after another on one side of its run; `up` says which. -/
def reachable (size : Fin 12 → Rat) (r : Runs) (k : Fin 12) (rails : List (Fin 12)) (up : Bool) (d : Dev) : Nat → Fin 12 → List (Fin 12)
  | 0, _ => []
  | n + 1, j =>
    let next := if up then above j else shift j (-1)
    let tie := if up then j else next
    if rails.contains next || !mayTake size r k next tie d then [] else next :: reachable size r k rails up d n next

/-- The legs of the next rail, and how far the nearest rail with available legs lies; none where the side has nothing. -/
def sideValue (l : List (Fin 12)) (d : Dev) : Option (Nat × Nat) :=
  let i := l.findIdx (fun j => planLegs [j] d != [])
  if i < l.length then some ((planLegs (l.take 1) d).length, i) else none

/-- One rail taken by an outlet that lacks legs (R158). -/
def growOne (size : Fin 12 → Rat) (k : Fin 12) (d : Dev) (r : Runs) : Runs :=
  let rails := (r.lookup k).getD [k]
  if runEnough size k rails d then r else
  let ups := reachable size r k rails true d 11 (rails.getLastD k)
  let downs := reachable size r k rails false d 11 (rails.headD k)
  let take (j : Fin 12) (new : List (Fin 12)) : Runs :=
    r.map (fun p => if p.1 = k then (k, new) else (p.1, p.2.filter (· != j)))
  let goUp : Runs := match ups with
    | j :: _ => take j (rails ++ [j])
    | [] => r
  let goDown : Runs := match downs with
    | j :: _ => take j (j :: rails)
    | [] => r
  match sideValue ups d, sideValue downs d with
  | none, none => r
  | some _, none => goUp
  | none, some _ => goDown
  | some (a, x), some (b, y) => if b < a then goUp else if a < b then goDown else if y < x then goDown else goUp

/-- The planned outlets by priority, lower index first. -/
def byPriority (d : Dev) : List (Fin 12) := (List.range 8).flatMap (fun p => (all 12).filter (fun k => hasPlan k d && priority k d == p))

/-- Rails dropped from the ends of a run, the end farther from the outlet's rail first, while the rest is enough. -/
def trimRun (size : Fin 12 → Rat) (k : Fin 12) (d : Dev) : Nat → List (Fin 12) → List (Fin 12)
  | 0, r => r
  | n + 1, r =>
    let i := r.idxOf k
    let far := if r.length - 1 - i < i then r.drop 1 else r.dropLast
    if 1 < r.length ∧ far.contains k ∧ runEnough size k far d then trimRun size k d n far else r

/-- Whether a segment's need is at least one rail below its holding (R159). -/
def surplus (size : Fin 12 → Rat) (h : Fin 12) (d : Dev) : Bool :=
  let m := members h d
  match m.find? (fun k => hasPlan k d) with
  | some k => decide ((trimRun size k d 12 (presentRun k d)).length < (presentRun k d).length)
  | none => decide (1 < m.length) && !m.any (fun j => outletClosed j d)

/-- Whether a segment gives up at once the rails it does not need (R159): its hold has run, or an isolate move needs their legs. -/
def releases (size : Fin 12 → Rat) (k : Fin 12) (d : Dev) : Bool :=
  let run := presentRun k d
  let keep := trimRun size k d 12 run
  d.alloc.surplusDue[segOf k d]
    || (run.filter (fun j => !keep.contains j)).any (fun j => (bricksOf j).any (fun b => isolationAsked b d && countsClosed (.brick b) d))

/-- The layout (R158). -/
def layoutRuns (size : Fin 12 → Rat) (d : Dev) : Runs :=
  let ks := byPriority d
  let start : Runs := ks.map (fun k => (k, if releases size k d then trimRun size k d 12 (presentRun k d) else presentRun k d))
  (List.range 12).foldl (fun r _ => ks.foldl (fun r k => growOne size k d r) r) start

/-- The ties of a layout (R158 rules 5 and 6): closed inside the run of a closed outlet; as they are between rails given to no
outlet until those are released; frozen or undwelt as they are. -/
def layoutTies (r : Runs) (d : Dev) : Vector Bool 12 :=
  let want (j : Fin 12) : Bool :=
    match runOwner r j, runOwner r (above j) with
    | some a, some _ => runTie r j && outletClosed a d
    | none, none => tieClosed j d && !d.alloc.surplusDue[segOf j d]
    | _, _ => false
  tab (fun j => if tieMay j (want j) d then want j else tieClosed j d)

/-! Moves of a plan (R167, R169, R174, R501). -/

/-- A queued move. -/
def queued (kind : MoveKind) (object : Nat) (rail other : Fin 12) (group : List (Fin 96)) : PlanMove :=
  ⟨kind, .queued, .none, .none, object, rail, other, group, 0, 0, 0, none, false, false, .none, 0, 0⟩

/-- The departing part of a tie that is to open: the rails on the side without a closed outlet, or without the governing
rail. -/
def departing (j : Fin 12) (d : Dev) : List (Fin 12) :=
  let (lo, hi) := partsAt j d
  if lo.any (fun r => outletClosed r d) then hi
  else if hi.any (fun r => outletClosed r d) then lo
  else if lo.contains (governor (segOf j d) d) then hi else lo

/-- The legs in service of some rails. -/
def serviceLegs (rails : List (Fin 12)) (d : Dev) : List (Fin 96) :=
  (rails.flatMap (fun j => (bricksOf j).flatMap legsOf)).filter (fun n => inService d.leg[n])

/-- Whether a brick is to be restored (R501). -/
def restoreWanted (k : Fin 24) (d : Dev) : Bool :=
  let b := d.brick[k]
  brickFitted k d && !countsClosed (.brick k) d && num d (brickIdx k) 0x02 == 0 && !b.contactor.travelFault
    && b.link == .up && !b.orphan && d.alloc.restoreAfter[k] ≤ d.time.now

/-- The moves a plan needs, those that free before those that take (R169), at most 16 (R161). -/
def planMoves (ties : Vector Bool 12) (grants : Vector Int 12) (d : Dev) : List PlanMove :=
  let splits := ((all 12).filter (fun j => tieClosed j d && !ties[j] && tieFitted j d)).map (fun j =>
    let dep := departing j d
    let stay := (members (segOf j d) d).filter (fun r => !dep.contains r)
    let gov := governor (segOf j d) d
    queued .split j.val (if stay.contains gov then gov else stay.headD j) (dep.headD (above j)) (serviceLegs dep d))
  let sheds := (heads d).filterMap (fun h =>
    let l := (segLegs h d).filter (fun n => inService d.leg[n] && !on d (legIdx n) 0x01)
    if l = [] then none else some (queued .shedLegs h.val (governor h d) (governor h d) l))
  let isolates := ((all 24).filter (fun k => brickFitted k d && isolationAsked k d && countsClosed (.brick k) d)).map
    (fun k => queued .isolate k.val (railOf k) (railOf k) ((legsOf k).filter (fun n => inService d.leg[n])))
  let joins := ((all 12).filter (fun j => !tieClosed j d && ties[j])).map (fun j =>
    let lowHolds := (members (segOf j d) d).any (fun r => outletClosed r d)
    let (a, b) := if lowHolds then (j, above j) else (above j, j)
    queued .join j.val (governor (segOf a d) d) b [])
  let adds := (heads d).filterMap (fun h =>
    let g := governor h d
    let l := (segLegs h d).filter (fun n => on d (legIdx n) 0x01 &&
      ((d.leg[n]).state == .standby || ((d.leg[n]).state == .shed && (d.leg[n]).shedCause == .move)))
    if l = [] ∨ (d.rail[g]).state ≠ .live ∨ (closedOutlets h d).all (fun k => grants[k] == 0) then none
    else some (queued .addLegs h.val g g l))
  let restores := ((all 24).filter (fun k => restoreWanted k d)).map (fun k => queued .restore k.val (railOf k) (railOf k) [])
  (splits ++ sheds ++ isolates ++ joins ++ adds ++ restores).take 16

/-- Whether a move is under way. -/
def underWay (m : PlanMove) : Bool := m.state == .running || m.state == .reversing
/-- Whether two moves are the same change. -/
def sameMove (a b : PlanMove) : Bool := a.kind == b.kind && a.object == b.object
/-- Whether a plan still wants what a running move does; a request changed meanwhile has no effect on it (Table 6.5). -/
def stillWanted (m : PlanMove) (ties : Vector Bool 12) : Bool := match m.kind with
  | .join => ties[(Fin.ofNat 12 m.object : Fin 12)]
  | .split => !ties[(Fin.ofNat 12 m.object : Fin 12)]
  | _ => true

/-- Why a grant stands where it does (0x2816). -/
def limitCause (k : Fin 12) (g : Int) (cap : Rat) (d : Dev) : Nat :=
  let o := d.out[k]
  let dem := (|demandOf k d| : Int)
  if g = demandOf k d then
    if dem < |o.reqI| then (if o.derated < num d (outIdx k 1) 0x02 then 4 else 5) else 0
  else if (|g| : Rat) / 10 + 1 / 10 ≤ min ((dem : Rat) / 10) cap then 1 else 2

/-- A plan computed from the inputs frozen now (R149 to R161). -/
def computePlan (d : Dev) : Plan :=
  let dem : Vector Int 12 := tab (fun k => demandOf k d)
  let tentative := grantsFor (fun k => ((|dem[k]| : Int) : Rat) / 10) d
  let hold := on d 0x2810 0x0D
  let size (k : Fin 12) : Rat := sizeFor k tentative d
  let runs := layoutRuns size d
  let layout : Vector (Option (List (Fin 12))) 12 := if hold then d.alloc.plan.layout else tab (fun k => runs.lookup k)
  let ties := if hold then d.alloc.plan.ties else layoutTies runs d
  let cap (k : Fin 12) : Rat := match layout[k] with
    | some rails => capabilityOf (planLegs rails d) ((planVoltage k d).getD 0) (headroom d) d
    | none => 0
  let grants := grantsFor (fun k => min (((|dem[k]| : Int) : Rat) / 10) (cap k)) d
  let carried := d.alloc.plan.moves.filter (fun m => underWay m && stillWanted m ties)
  let fresh := if hold then [] else
    (planMoves ties grants d).filter (fun m => !carried.any (sameMove m))
  let causes : Vector Nat 12 := tab (fun k => limitCause k grants[k] (cap k) d)
  { grant := grants, demand := dem, cause := causes, layout := layout, ties := ties, moves := (carried ++ fresh).take 16,
    impKw := importBudget d, expKw := exportBudget d, budgetLimited := (all 12).any (fun k => causes[k] == 1),
    legsLimited := (all 12).any (fun k => causes[k] == 2) }

/-- The surplus of every segment noted; a segment whose hold has run stays due until it has no surplus (R159). -/
def noteSurplus (tentative : Vector Int 12) (d : Dev) : Dev :=
  onAlloc (fun a => { a with
    surplusSince := tab (fun h => if d.ring.head[h] == h && surplus (fun k => sizeFor k tentative d) h d
      then some ((a.surplusSince[h]).getD d.time.now) else none)
    surplusDue := tab (fun h => a.surplusDue[h] && surplus (fun k => sizeFor k tentative d) h d) }) d

/-- PLANNING_CYCLE (R149): at the next multiple of 20 ms the inputs are frozen, with the limits and the settings that apply from this cycle
(R152, R177), and a plan is computed, to be decided 8.00 ms later. -/
def planningCycle (d : Dev) : Dev :=
  let d := reach (nextMultiple (ms 20) d) d
  let d := onAlloc (fun a => { a with
    fallback := a.writtenAt.isNone, par := tab (fun i => nat d 0x2810 ([0x01, 0x02, 0x05, 0x06, 0x07].getD i.val 0)) }) d
  let plan := computePlan d
  let d := noteSurplus (grantsFor (fun k => ((|demandOf k d| : Int) : Rat) / 10) d) d
  onAlloc (fun a => { a with cycle := some d.time.now, next := some plan, overrun := false }) d

/-- PLANNING_CYCLE, while the field control island runs and is not restarting (R72). -/
def execPlanningCycle (s : State) : Host.Outcome State Fault Refusal :=
  done s (if up 1 s.dev && !s.dev.ring.restart then planningCycle s.dev else s.dev)

/-- PLANNING_OVERRUN (R150): the computation has not ended by 6.50 ms; the plan in force stays. -/
def execPlanningOverrun (s : State) : Host.Outcome State Fault Refusal :=
  let d := s.dev
  done s (match d.alloc.next, d.alloc.cycle with
    | some _, some t =>
      raise 1 .planningOverrun [] (bump 0x2817 0x0A
        (onAlloc (fun a => { a with next := none, overrun := true }) (reach (t + us 6500) d)))
    | _, _ => d)

/-- RELEASE_HOLD_EXPIRY (R159): the surplus of a segment has lasted for the release hold. -/
def execReleaseHoldExpiry (head : Fin 12) (s : State) : Host.Outcome State Fault Refusal :=
  let d := s.dev
  done s (match d.alloc.surplusSince[head] with
    | some t =>
      onAlloc (fun a => { a with surplusDue := upd a.surplusDue head (fun _ => true) }) (reach (t + ms (nat d 0x2810 0x04)) d)
    | none => d)

/-- The replan command ends the release hold of every segment at the next cycle. -/
def replan (d : Dev) : Dev := onAlloc (fun a => { a with surplusDue := tab (fun h => (a.surplusSince[h]).isSome) }) d

end Sys2Proof.Machine
end

