-- ==== Sys2Proof/Machine/Moves.lean ====
section
/-! DEFINITION. Moves carried out: handover, their states and what meets them (R162 to R173), and the plan decided. -/
namespace Sys2Proof.Machine

/-- A list with the thing at a place changed. -/
def editAt {α : Type} (f : α → α) : Nat → List α → List α
  | _, [] => []
  | 0, x :: r => f x :: r
  | n + 1, x :: r => x :: editAt f n r

/-- A move of the plan changed. -/
def onMove (i : Nat) (f : PlanMove → PlanMove) (d : Dev) : Dev :=
  onAlloc (fun a => { a with plan := { a.plan with moves := editAt f i a.plan.moves } }) d
/-- A move of the plan. -/
def moveAt (i : Nat) (d : Dev) : Option PlanMove := d.alloc.plan.moves[i]?

/-- The contactor a move acts on. -/
def moveContactor (m : PlanMove) : Option ContactorId := match m.kind with
  | .join | .split => some (.tie (Fin.ofNat 12 m.object))
  | .isolate | .restore => some (.brick (Fin.ofNat 24 m.object))
  | _ => none
/-- The head rails of the segments a move touches. -/
def moveHeads (m : PlanMove) (d : Dev) : List (Fin 12) := [segOf m.rail d, segOf m.other d]
/-- Whether two moves touch a common segment. -/
def touches (a b : PlanMove) (d : Dev) : Bool := (moveHeads a d).any (fun h => (moveHeads b d).contains h)
/-- Whether a move that is under way involves the segment headed by a rail (R82). -/
def moveBusy (h : Fin 12) (d : Dev) : Bool := d.alloc.plan.moves.any (fun m => underWay m && (moveHeads m d).contains h)

/-- The handover group that a move carries (R167): fixed when it starts; until then the legs it would take then. -/
def moveGroup (m : PlanMove) (d : Dev) : List (Fin 96) :=
  if m.state ≠ .queued then m.group else match m.kind with
  | .split => serviceLegs (departing (Fin.ofNat 12 m.object) d) d
  | .isolate => (legsOf (Fin.ofNat 24 m.object)).filter (fun n => inService d.leg[n])
  | _ => m.group
/-- The move cap of a segment in A (R166): the capability of its legs in service that are not of the group. -/
def moveCap (m : PlanMove) (d : Dev) : Rat :=
  let h := segOf m.rail d
  let group := moveGroup m d
  capabilityOf ((activeLegs h d).filter (fun n => !group.contains n)) (lastVoltage (governor h d) d)
    (if m.state = .queued then headroom d else m.headroom) d

/-- The generators that the allocator may take, in their order (R134): the outlet generators of rails whose outlets are not closed, then the
general generators that no host holds. -/
def freeGenerators (d : Dev) : List (Fin 28) :=
  ((all 12).filter (fun k => !outletClosed k d && (d.eng.gen[outletGen k]).user != .allocator)).map outletGen
    ++ (all 28).filter (fun g => 24 ≤ g.val && (d.eng.gen[g]).user == .none)
/-- The generator that the allocator takes. -/
def freeGenerator (d : Dev) : Option (Fin 28) := (freeGenerators d).head?

/-- Whether a move has a HANDOVER phase (R167). -/
def hasHandover (m : PlanMove) : Bool := m.kind != .restore

/-- Whether the driver cards of a move's contactor are all there (Table 6.3). -/
def driversThere (m : PlanMove) (d : Dev) : Bool := match moveContactor m with
  | some (.tie j) => (tieCards j).all (fun k => !cardGone k d)
  | some (.brick k) => !cardGone k d
  | _ => true

/-- The preconditions of Table 6.3 for a move. -/
def movePreconditions (m : PlanMove) (d : Dev) : Bool :=
  let h := segOf m.rail d
  let g := governor h d
  let within_ := decide (refOf h d ≤ moveCap m d)
  match m.kind with
  | .join =>
    let j : Fin 12 := Fin.ofNat 12 m.object
    let part := members (segOf m.other d) d
    !part.any (fun r => outletClosed r d) && part.all (fun r => (d.rail[r]).state == .free) && hasLegs m.other d
      && (d.rail[g]).state == .live && tieFitted j d && !(d.ring.tie[j]).frozen && dwelt j d && driversThere m d
      && (d.rail[j]).state != .isolated && (d.rail[above j]).state != .isolated
      && (all 12).any (fun i => i != j && tieFitted i d && !tieClosed i d)
  | .split =>
    let j : Fin 12 := Fin.ofNat 12 m.object
    !(departing j d).any (fun r => outletClosed r d) && within_ && tieFitted j d && !(d.ring.tie[j]).frozen && dwelt j d
      && driversThere m d
  | .addLegs => (d.rail[g]).state == .live && m.group.all (fun n => on d (legIdx n) 0x01 &&
      ((d.leg[n]).state == .standby || ((d.leg[n]).state == .shed && (d.leg[n]).shedCause == .move)))
  | .shedLegs => within_ && m.group.all (fun n => inService d.leg[n] && !on d (legIdx n) 0x01)
  | .isolate => within_ && brickFitted (Fin.ofNat 24 m.object) d && isolationAsked (Fin.ofNat 24 m.object) d
  | .restore =>
    let k : Fin 24 := Fin.ofNat 24 m.object
    num d (brickIdx k) 0x02 == 0 && (d.brick[k]).link == .up && !(d.brick[k]).orphan
      && (d.rail[railOf k]).state == .free && (members (segOf (railOf k) d) d).length == 1

/-- Whether a queued move may start at this boundary (R167, R334). -/
def moveReady (m : PlanMove) (d : Dev) : Bool :=
  m.state == .queued && holds d && movePreconditions m d
  && d.alloc.plan.moves.all (fun x => !(underWay x && touches x m d))
  && (moveHeads m d).all (fun h => !segStopped h d)
  && (!hasHandover m || (freeGenerator d).isSome)

/-- Whether a move frees legs or rails (R169). -/
def frees (m : PlanMove) : Bool := m.kind == .split || m.kind == .shedLegs || m.kind == .isolate
/-- The best priority class of the outlets a move serves. -/
def servedPriority (m : PlanMove) (d : Dev) : Nat :=
  ((closedOutlets (segOf m.rail d) d).map (fun k => priority k d)).foldl min 7
/-- Whether move a starts before move b where both are ready (R169). -/
def startsBefore (a b : PlanMove) (earlier : Bool) (d : Dev) : Bool :=
  let pa := servedPriority a d
  let pb := servedPriority b d
  if frees a && !frees b then true else if frees b && !frees a then false
  else if pa < pb then true else if pb < pa then false else earlier

/-- A generator taken by the allocator at rest at a per-leg share in A, with a target, under the handover limits of the cycle (R163, R177). -/
def takeGenerator (g : Fin 28) (p target : Rat) (d : Dev) : Dev :=
  onGen g (fun x => { x with
    user := .allocator, p := genFix (10 * p), v := 0, a := 0, plan := [], state := .rest, target := genFix (10 * target),
    replan := true, handover := some (d.alloc.par[(2 : Fin 5)], d.alloc.par[(3 : Fin 5)], d.alloc.par[(4 : Fin 5)]) }) d
/-- A generator given back. -/
def giveGenerator (g : Fin 28) (d : Dev) : Dev :=
  onGen g (fun x => { x with
    user := if g.val < 12 then .outlet else .none, p := 0, v := 0, a := 0, plan := [], state := .rest, target := 0, replan := false, handover := none }) d

/-- The equal share of a segment's active legs in A (R165). -/
def equalShare (h : Fin 12) (d : Dev) : Rat :=
  let n := (activeLegs h d).length
  if n = 0 then 0 else (d.rail[governor h d]).iRef / (n : Nat)

/-- The allocation status payload (Table 6.9). -/
def moveRecord (i : Nat) (m : PlanMove) (d : Dev) : Nat :=
  let kind := match m.kind with
    | .join => 1 | .split => 2 | .addLegs => 3 | .shedLegs => 4 | .isolate => 5 | .restore => 6
  let st := match m.state with
    | .queued => 0 | .running => 1 | .reversing => 2 | .done => 3 | .reversed => 4 | .failed => 5 | .dropped => 6
  let ph := match m.phase with
    | .none => 0 | .track => 1 | .close => 2 | .handover => 3 | .openWait => 4 | .opening => 5 | .permitWait => 6
  let ca := match m.cause with
    | .none => 0 | .planChange => 1 | .trackTimeout => 2 | .travelFault => 3 | .openRefused => 4 | .handoverTimeout => 5
    | .stopOrRelease => 6 | .driverLost => 7 | .noLegs => 8 | .noPermit => 9
  let el := if underWay m then min 65535 ((d.time.now - m.started) / ms 1) else m.elapsed
  (i + 1) * 2 ^ 56 + kind * 2 ^ 52 + st * 2 ^ 48 + ph * 2 ^ 44 + ca * 2 ^ 40 + m.object * 2 ^ 32
    + (m.group.countP (fun n => inService d.leg[n])) * 2 ^ 24 + (segOf m.rail d).val * 2 ^ 16 + el

/-- The allocation status message (R176). -/
def allocationStatus (d : Dev) : List Byte :=
  let a := d.alloc
  let flags := (if a.plan.budgetLimited then 1 else 0) + (if a.plan.legsLimited then 2 else 0)
    + (if (gridLimits d).2.2 then 4 else 0) + (if a.front.toList.any (·.stale) then 8 else 0) + (if a.overrun then 16 else 0)
  let kw (q : Rat) : Nat := (q.num / (q.den : Int)).toNat
  let outRec (k : Fin 12) : List Byte :=
    evData [(2, a.grant[k]), (2, a.plan.demand[k]),
      (1, match a.plan.layout[k] with | some l => ((l.headD k).val : Int) | none => 255),
      (1, match a.plan.layout[k] with | some l => ((planLegs l d).length : Int) | none => 0),
      (1, (priority k d : Int)), (1, (a.cause[k] : Int))]
  leBytes 4 a.planNo ++ leBytes 8 a.planTime ++ leBytes 2 (maskOf (fun j : Fin 12 => a.plan.ties[j])) ++ leBytes 2 flags
    ++ leBytes 4 (kw a.plan.impKw) ++ leBytes 4 (kw a.plan.expKw) ++ (all 12).flatMap outRec
    ++ (List.range 16).flatMap (fun i => leBytes 8 (match a.plan.moves[i]? with | some m => moveRecord i m d | none => 0))
    ++ [BitVec.ofNat 8 a.plan.moves.length, BitVec.ofNat 8 a.ended] ++ List.replicate 6 0

/-- The allocation status message sent (R176). -/
def sendAllocation (d : Dev) : Dev := enqueue .fh (tenonBytes 0x0A 0 0 1 0 (allocationStatus d) d) d

/-- Event data of a move's end: the move, its phase and its cause (R173). -/
def endData (i : Nat) (m : PlanMove) (d : Dev) : List Byte :=
  let r := moveRecord i m d
  evData [(1, (i + 1 : Nat)), (1, (field r 44 4 : Int)), (1, (field r 40 4 : Int))]

/-- A move ends (R166, R170, R173): its generator is given back, its cap lifts, and every ending other than DONE is
reported. -/
def endMove (i : Nat) (st : MoveState) (cause : MoveCause) (d : Dev) : Dev :=
  match moveAt i d with
  | none => d
  | some m =>
    let d := match m.gen with
      | some g => giveGenerator g d
      | none => d
    let h := segOf m.rail d
    let d := onMove i (fun m => { m with
      state := st, cause := cause, gen := none, held := false, elapsed := min 65535 ((d.time.now - m.started) / ms 1) }) d
    let d := (closedOutlets h d).foldl (fun d k =>
      let cap := capabilityOf (availableOn (members h d) d) (lastVoltage (governor h d) d) (headroom d) d * 10
      onAlloc (fun a => { a with ceiling := upd a.ceiling k (fun _ => some (cap.num / (cap.den : Int))) }) d) d
    let d := onAlloc (fun a => { a with ended := a.ended + 1 }) d
    let m' := (moveAt i d).getD m
    let d := if st = .done then d else raise 1 .moveEnded (endData i m' d) d
    let d := match st with
      | .failed => raise1 1 .moveFailed (i + 1) (bump 0x2817 0x08 d)
      | .reversed => raise1 1 .moveReversed (i + 1) (bump 0x2817 0x09 d)
      | _ => d
    if d.alloc.plan.moves.any (fun m => underWay m || m.state == .queued) then d else sendAllocation d

/-- A move enters a phase. -/
def enterPhase (i : Nat) (p : MovePhase) (d : Dev) : Dev := onMove i (fun m => { m with phase := p, phaseAt := d.time.now }) d

/-- A state asked of the interlock for a contactor. -/
def askContactor (x : ContactorId) (closed : Bool) (d : Dev) : Dev :=
  onContactor x (fun c => if c.want = closed then c else { c with want := closed, refused := false }) d

/-- HANDOVER of a group that gives its current away begins, or is skipped where the group has no active leg or there is no
rest (R162). -/
def beginRelease (i : Nat) (g : Option (Fin 28)) (d : Dev) : Dev :=
  match moveAt i d with
  | none => d
  | some m =>
    let h := segOf m.rail d
    let act := activeLegs h d
    let ng := act.countP (fun n => m.group.contains n)
    let after (d : Dev) : Dev := if m.kind = .shedLegs then
        endMove i .done .none (m.group.foldl (fun d n => shedLeg n .move d) d) else enterPhase i .openWait d
    if ng = 0 ∨ ng = act.length then after d
    else match g with
      | some x => enterPhase i .handover (onMove i (fun m => { m with gen := some x }) (takeGenerator x (equalShare h d) 0 d))
      | none => d

/-- HANDOVER of a group that takes its share begins at a per-leg share in A (R165). -/
def beginTake (i : Nat) (g : Option (Fin 28)) (p : Rat) (d : Dev) : Dev :=
  match moveAt i d, g with
  | some m, some x =>
    let h := segOf m.rail d
    let act := activeLegs h d
    let ng := act.countP (fun n => m.group.contains n)
    if ng = 0 ∨ ng = act.length then endMove i .done .none d
    else enterPhase i .handover (onMove i (fun m => { m with gen := some x }) (takeGenerator x p (equalShare h d) d))
  | _, _ => d

/-- The grants in force and what limits them (R157, R166): the plan's grant, bounded by the cap of a move that runs on the outlet's segment or
is ready to start there, or by the capability that its segment had when a move ended. -/
def grantsPeriod (d : Dev) : Dev :=
  let capOf (k : Fin 12) : Option PlanMove :=
    if outletClosed k d then d.alloc.plan.moves.find? (fun m => (underWay m || moveReady m d) && (moveHeads m d).contains (segOf k d)) else none
  let full (k : Fin 12) : Int := d.alloc.plan.grant[k]
  let bounded (k : Fin 12) : Int := match d.alloc.ceiling[k] with
    | some c => clamp (-c) c (full k)
    | none => full k
  let capped (k : Fin 12) : Int := match capOf k with
    | some m => let c := moveCap m d * 10; let c : Int := c.num / (c.den : Int); clamp (-c) c (bounded k)
    | none => bounded k
  let why (k : Fin 12) : Nat := if capped k != bounded k then 3 else if bounded k != full k then 2 else d.alloc.plan.cause[k]
  onAlloc (fun a => { a with
    grant := tab capped
    cause := tab why }) d

/-- Whether no ready move comes first (R169): none on a common segment, and, for a move that needs a generator, fewer than there are free. -/
def mayBegin (i : Nat) (m : PlanMove) (d : Dev) : Bool :=
  let moves := d.alloc.plan.moves
  let before := (List.range moves.length).filter (fun k => match moves[k]? with
    | some x => k != i && moveReady x d && startsBefore x m (decide (k < i)) d
    | none => false)
  let blocked := before.any (fun k => match moves[k]? with
    | some x => touches x m d
    | none => false)
  let wanting := before.countP (fun k => match moves[k]? with
    | some x => hasHandover x
    | none => false)
  moveReady m d && !blocked && (!hasHandover m || decide (wanting < (freeGenerators d).length))

/-- A move starts (R166, R167, R169, Table 6.3): its group is fixed, its generator taken, its first phase begins, and its cap is in force. -/
def moveStart (i : Nat) (d : Dev) : Dev :=
  match moveAt i d with
  | none => d
  | some m =>
    if !mayBegin i m d then d else
    let group := moveGroup m d
    let d := onMove i (fun m => { m with state := .running, started := d.time.now, group := group, headroom := headroom d }) d
    let g := freeGenerator d
    grantsPeriod (match m.kind with
    | .join =>
      let d := onMove i (fun m => { m with gen := g, group := segLegs (segOf m.other d) d }) d
      let d := match g with
        | some x => takeGenerator x 0 0 d
        | none => d
      enterPhase i .track (beginTie (governor (segOf m.other d) d) (Fin.ofNat 12 m.object) d)
    | .split | .shedLegs | .isolate => beginRelease i g d
    | .addLegs =>
      let d := m.group.foldl (fun d n => legToService n d) d
      let n := m.group.length
      let mean : Rat := if n = 0 then 0 else (m.group.foldl (fun a x => a + (d.leg[x]).current) 0 : Int) / (100 * (n : Rat))
      beginTake i g mean d
    | .restore => enterPhase i .permitWait d)

/-- MOVE_START (R167, R169). -/
def execMoveStart (n : Fin 16) (s : State) : Host.Outcome State Fault Refusal :=
  done s (if up 1 s.dev then moveStart n.val s.dev else s.dev)

/-- What a move has asked of its contactor and the interlock has not granted is withdrawn (R45). -/
def withdraw (m : PlanMove) (d : Dev) : Dev := match moveContactor m with
  | some x => onContactor x (fun c => { c with want := c.cmd }) d
  | none => d
/-- A running move is reversed (R170): its request is withdrawn, and its generator is re-targeted from its present state. -/
def reverseMove (i : Nat) (cause : MoveCause) (d : Dev) : Dev :=
  match moveAt i d with
  | none => d
  | some m =>
    let d := onMove i (fun m => { m with state := .reversing, cause := cause, phase := .handover, phaseAt := d.time.now, pending := .none }) d
    let d := withdraw m d
    let back := match m.kind with
      | .join | .addLegs => (0 : Rat)
      | _ => equalShare (segOf m.rail d) d
    let live := m.group.any (fun n => inService d.leg[n])
    match m.gen with
    | some g => if live then genShare g back d
      else if m.kind = .join then enterPhase i .openWait d else endMove i .reversed cause d
    | none => if m.kind = .join then enterPhase i .openWait d else endMove i .reversed cause d

/-- A move fails (R170, R172): its close request is withdrawn, and the joining part of a join begins a stop. -/
def failMove (i : Nat) (cause : MoveCause) (d : Dev) : Dev :=
  match moveAt i d with
  | none => d
  | some m =>
    let d := withdraw m d
    let d := if m.kind = .join ∧ (m.phase = .track ∨ m.phase = .close) then
        let g := governor (segOf m.other d) d
        if (d.rail[g]).state = .precharging then beginStop g (endEpisode g .timeout d) else d
      else d
    endMove i .failed cause d

/-- HANDOVER_END (R164, R165): the generator rests at its target. -/
def handoverEnd (i : Nat) (d : Dev) : Dev :=
  match moveAt i d with
  | none => d
  | some m =>
    if m.phase ≠ .handover ∨ !underWay m then d else
    let h := segOf m.rail d
    let act := activeLegs h d
    let ng := act.countP (fun n => m.group.contains n)
    let rest := match m.gen with
      | some g => genAtTarget g d
      | none => true
    let p : Rat := match m.gen with
      | some g => genVal (d.eng.gen[g]).p / 10
      | none => 0
    let toZero := (m.state == .running) == (m.kind == .split || m.kind == .shedLegs || m.kind == .isolate)
    if !rest ∧ ng ≠ 0 then d
    else if toZero then
      if ng ≠ 0 ∧ 0 < heldShare h ng (act.length - ng) d then d
      else match m.kind, m.state with
        | .shedLegs, _ => endMove i .done .none (m.group.foldl (fun d n => if inService d.leg[n] then shedLeg n .move d else d) d)
        | .addLegs, _ => endMove i .reversed m.cause (m.group.foldl (fun d n => if inService d.leg[n] then shedLeg n .move d else d) d)
        | _, _ => enterPhase i .openWait d
    else
      let eq := equalShare h d
      let tol : Rat := (num d 0x2810 0x09 : Rat) / 10
      if ng = 0 ∨ |p - eq| ≤ tol then
        endMove i (if m.state = .running then .done else .reversed) (if m.state = .running then .none else m.cause) d
      else match m.gen with
        | some g => genShare g eq d
        | none => d

/-- HANDOVER_END. -/
def execHandoverEnd (n : Fin 16) (s : State) : Host.Outcome State Fault Refusal := done s (handoverEnd n.val s.dev)

/-- HANDOVER_TIMEOUT (R170, Table 6.3). -/
def execHandoverTimeout (n : Fin 16) (s : State) : Host.Outcome State Fault Refusal :=
  let d := s.dev
  done s (match moveAt n.val d with
    | some m =>
      if m.phase ≠ .handover ∨ !underWay m then d else
      let d := reach (m.phaseAt + ms (nat d 0x2810 0x08)) d
      if m.state = .running then reverseMove n.val .handoverTimeout d else endMove n.val .failed .handoverTimeout d
    | none => d)

/-- OPEN_WAIT_LIMIT (R172): an opening still refused. -/
def execOpenWaitLimit (n : Fin 16) (s : State) : Host.Outcome State Fault Refusal :=
  let d := s.dev
  done s (match moveAt n.val d with
    | some m =>
      if m.phase ≠ .openWait ∨ !underWay m then d else
      let d := reach (m.phaseAt + ms (nat d 0x2810 0x0A)) d
      let d := withdraw m d
      if m.state = .running then reverseMove n.val .openRefused d else endMove n.val .failed .openRefused d
    | none => d)

/-- RESTORE_WAIT_LIMIT (Table 6.3): the move fails with no close permit and is planned again after one further wait. -/
def execRestoreWaitLimit (n : Fin 16) (s : State) : Host.Outcome State Fault Refusal :=
  let d := s.dev
  done s (match moveAt n.val d with
    | some m =>
      if m.phase ≠ .permitWait ∨ !underWay m then d else
      let w := sec (nat d 0x2810 0x0B)
      let d := reach (m.phaseAt + w) d
      failMove n.val .noPermit (onAlloc (fun a => { a with restoreAfter := upd a.restoreAfter (Fin.ofNat 24 m.object) (fun _ => d.time.now + w) }) d)
    | none => d)

/-- Whether a contactor stands in a state, its travel over. -/
def standsAs (x : ContactorId) (closed : Bool) (d : Dev) : Bool :=
  let c := contactor x d
  c.travel.isNone && c.cmd == closed && (countsClosed x d == closed)
/-- Whether a contactor is frozen or has failed in its travel. -/
def stuck (x : ContactorId) (d : Dev) : Bool := (contactor x d).frozen || (contactor x d).travelFault

/-- Whether a move's phase has changed nothing in the ring yet (R170). -/
def untouched (m : PlanMove) : Bool := m.phase == .track || m.phase == .permitWait || (m.phase == .close && !m.granted)
/-- The cause that a contactor that stopped short gives a move (Table 6.5): a driver card lost, or a travel fault. -/
def stuckCause (m : PlanMove) (d : Dev) : MoveCause := if driversThere m d then .travelFault else .driverLost

/-- The interlock's grant noted at the start of a period: from then on the contactor is in travel (R170, R171). -/
def noteGrant (d : Dev) (i : Nat) : Dev :=
  match moveAt i d with
  | none => d
  | some m => match moveContactor m with
    | none => d
    | some x =>
      if !underWay m then d
      else if m.phase = .close then onMove i (fun m => { m with granted := m.granted || (contactor x d).cmd }) d
      else if m.phase = .openWait ∧ !(contactor x d).cmd then enterPhase i .opening (onMove i (fun m => { m with granted := true }) d)
      else d

/-- What a cause that comes in a period does to a move (R170, R172): in travel it waits for the phase reached. -/
def applyCause (i : Nat) (cause : MoveCause) (d : Dev) : Dev :=
  match moveAt i d with
  | none => d
  | some m =>
    if !underWay m then d
    else if untouched m then (if m.phase = .permitWait ∧ cause = .planChange then d else failMove i cause d)
    else if m.phase = .close ∨ m.phase = .opening then
      onMove i (fun m => { m with pending := if m.pending = .none then cause else m.pending }) d
    else if cause = .stopOrRelease then failMove i cause d
    else if m.state = .running then reverseMove i cause d
    else d

/-- The first rows of Table 6.5 for a move in a period: a stop or release, a driver card gone before the grant, and the end of a join's tracking
otherwise than by its tie. `released` are the segments with a release in the period. -/
def moveEvents (released : List (Fin 12)) (d : Dev) (i : Nat) : Dev :=
  match moveAt i d with
  | none => d
  | some m =>
    if !underWay m then d else
    let hit := (moveHeads m d).any (fun h => segStopped h d || released.contains h)
    let g := governor (segOf m.other d) d
    if hit then applyCause i .stopOrRelease d
    else if !driversThere m d ∧ untouched m then failMove i .driverLost d
    else if !driversThere m d ∧ m.phase = .openWait then
      (if m.state = .running then reverseMove i .driverLost d else endMove i .failed .driverLost d)
    else if m.kind = .join ∧ untouched m ∧ (d.rail[g]).episode ≠ .coincidentTie then
      failMove i (if (d.rail[g]).result = .timeout then .trackTimeout else .noLegs) d
    else d

/-- A handover's legs in a period (R164, R165): a leg that has left service leaves the group; where a leg of the group or the rest has left or
entered service, a join or add re-targets to the equal share at once; a group that is empty ends its handover; what the rest cannot carry
holds the generator. -/
def groupEvents (d : Dev) (i : Nat) : Dev :=
  match moveAt i d with
  | none => d
  | some m =>
    if !underWay m ∨ m.phase ≠ .handover then d else
    let h := segOf m.rail d
    let act := activeLegs h d
    let left := m.group.filter (fun n => inService d.leg[n])
    let ng := act.countP (fun n => m.group.contains n)
    let d := onMove i (fun m => { m with group := left, legs := act.length }) d
    let d := match m.gen with
      | some g => if act.length ≠ m.legs ∧ m.state = .running ∧ (m.kind = .join ∨ m.kind = .addLegs) then genShare g (equalShare h d) d else d
      | none => d
    let p : Rat := match m.gen with
      | some g => genVal (d.eng.gen[g]).p / 10
      | none => 0
    let d := onMove i (fun m => { m with held := ng != 0 && decide (|p| < heldShare h ng (act.length - ng) d) }) d
    if left = [] then handoverEnd i d else d

/-- What the contactor of a move does to it in a period (R170 to R172): asked for, granted, refused, failed or confirmed; a cause that came in
travel is applied in the phase reached. -/
def contactorPhase (d : Dev) (i : Nat) : Dev :=
  match moveAt i d with
  | none => d
  | some m => match moveContactor m with
    | none => d
    | some x =>
      if !underWay m then d else
      let g := governor (segOf m.other d) d
      match m.phase with
      | .track => if (d.rail[g]).inWindow then enterPhase i .close (askContactor x true d) else d
      | .close =>
        if !m.granted then askContactor x (m.kind = .restore || (d.rail[g]).inWindow) d
        else if standsAs x true d || (stuck x d && countsClosed x d) then
          if m.kind = .restore then endMove i .done .none d
          else
            let d := beginTake i m.gen 0 d
            if m.pending = .none then d else applyCause i m.pending d
        else if stuck x d || (!(contactor x d).cmd && (contactor x d).travel.isNone) then failMove i (stuckCause m d) d
        else d
      | .openWait => askContactor x false d
      | .opening =>
        if standsAs x false d || (stuck x d && !countsClosed x d) then
          endMove i (if m.state = .running then .done else .reversed) (if m.state = .running then .none else m.cause) d
        else if stuck x d then
          if m.state = .running then reverseMove i (stuckCause m d) d else endMove i .failed (stuckCause m d) d
        else d
      | .permitWait => if 3 ≤ (contactor x d).permits then enterPhase i .close (askContactor x true d) else d
      | _ => d

/-- Ties between the rails of a joined cable check close when their permit is met (R110, R193). -/
def followerTies (d : Dev) : Dev :=
  (all 12).foldl (fun d j =>
    let r := d.rail[j]
    if r.follows.isSome && !(d.ring.tie[r.tie]).cmd && decide ((d.ring.tie[r.tie]).permits = 3) then askContactor (.tie r.tie) true d
    else d) d

/-- A running move that the new plan omits (R172). -/
def omitMove (i : Nat) (d : Dev) : Dev := applyCause i .planChange d
/-- Every move under way omitted, as by a new plan (R334). -/
def omitAll (d : Dev) : Dev :=
  (List.range d.alloc.plan.moves.length).foldl (fun d i => match moveAt i d with
    | some m => if underWay m then omitMove i d else d
    | none => d) d

/-- What two moves must share for two plans to list the same move (R160). -/
def moveKey (m : PlanMove) : MoveKind × Nat × List (Fin 96) :=
  (m.kind, m.object, if m.kind = .addLegs ∨ m.kind = .shedLegs then m.group else [])
/-- Whether two plans differ in layout, final grants or moves (R160). -/
def planDiffers (a b : Plan) : Bool :=
  a.grant != b.grant || a.layout != b.layout || a.ties != b.ties || a.moves.map moveKey != b.moves.map moveKey

/-- The plan of the cycle takes the place of the plan in force (R160, R169, R172): moves it omits are dropped, failed or reversed, and moves under
way go on. -/
def takePlan (p : Plan) (t : Nat) (d : Dev) : Dev :=
  let old := d.alloc.plan
  let d := (List.range old.moves.length).foldl (fun d i => match moveAt i d with
    | some m =>
      if m.state = .queued ∧ !p.moves.any (sameMove m) then
        raise 1 .moveEnded (evData [(1, (i + 1 : Nat)), (1, 0), (1, 1)]) (onMove i (fun m => { m with state := .dropped, cause := .planChange }) d)
      else if underWay m ∧ !p.moves.any (sameMove m) then omitMove i d
      else d
    | none => d) d
  let busy := d.alloc.plan.moves.filter underWay
  let finished (m : PlanMove) : Bool := d.alloc.plan.moves.any (fun x => sameMove x m && !underWay x && x.state != .queued && m.state != .queued)
  let fresh := p.moves.filter (fun m => !busy.any (sameMove m) && !finished m)
  let p := { p with moves := (busy ++ fresh.map (fun (m : PlanMove) => { m with state := .queued, phase := .none })).take 16 }
  let no := if planDiffers p old ∨ d.alloc.planNo = 0 then (if d.alloc.planNo = 0xFFFFFFFF then 1 else d.alloc.planNo + 1) else d.alloc.planNo
  onAlloc (fun a => { a with plan := p, planNo := no, planTime := t + ms 8, next := none, ended := 0, ceiling := tab (fun _ => none) }) d

/-- 8.00 ms of a planning cycle (R149, R150, R176): the plan computed is decided, or the one in force stays; the status message is sent. -/
def decidePlan (d : Dev) : Dev :=
  match (if holds d then d.alloc.cycle else none) with
  | none => d
  | some t =>
    if d.time.now < t + ms 8 then d else
    let d := match d.alloc.next with
      | some p => takePlan p t d
      | none => d
    sendAllocation (grantsPeriod (onAlloc (fun a => { a with cycle := none }) d))

/-- The allocator's work at a period boundary, after the sequencer: what meets the moves, in the order of Table 6.5, the plan decided among it;
then their contactors, follower ties and grants. -/
def allocatorPeriod (released : List (Fin 12)) (d : Dev) : Dev :=
  let each (f : Dev → Nat → Dev) (d : Dev) : Dev := (List.range d.alloc.plan.moves.length).foldl f d
  let d := each groupEvents (each (moveEvents released) (each noteGrant d))
  grantsPeriod (followerTies (each contactorPhase (decidePlan d)))

end Sys2Proof.Machine
end

