-- ==== Sys2Proof/Machine/Outlets.lean ====
section
/-! DEFINITION. The outlet state machine (R179 to R203, R502, R503). -/
namespace Sys2Proof.Machine

/-- The code of an outlet state (0x30k0.01). -/
def outCode : OutState → Nat
  | .idle => 0 | .plugged => 1 | .handshake => 2 | .cableCheck => 3 | .precharge => 4 | .delivering => 5 | .returning => 6
  | .winddown => 7 | .weldCheck => 8 | .ended => 9 | .faulted => 10 | .outOfService => 11

/-- The causes of Table 7.3, the highest first. -/
def causeRank : List Nat := [11, 12, 22, 7, 21, 13, 14, 16, 19, 20, 15, 18, 9, 10, 8, 5, 6, 17, 1, 2, 3, 4]
/-- Whether a cause takes path F (Table 7.3). -/
def pathF (c : Nat) : Bool := [11, 12, 22, 7, 21, 13, 14, 16, 19, 20, 15, 18].contains c
/-- Whether a cause of path W takes the fast stop (Table 7.3). -/
def fastCause (c : Nat) : Bool := [10, 8, 5, 6, 17].contains c

/-- Whether an outlet's contactor is confirmed closed, or confirmed open. -/
def outConfirmed (k : Fin 12) (closed : Bool) (d : Dev) : Bool := standsAs (.outlet k) closed d && contactsReport (.outlet k) closed d

/-- Whether RETURNING is allowed by the outlet and the last accepted update (R200). -/
def mayReturn (k : Fin 12) (d : Dev) : Bool := on d (outIdx k 1) 0x07 && bit (d.out[k]).flags 1 && (d.out[k]).phase == 4

/-- The precharge tolerance (R198). -/
def prechargeMet (k : Fin 12) (d : Dev) : Bool := match measured k d with
  | some v => decide (|v - 100 * ((d.out[k]).targetV : Int)| ≤ 10000 * num d (outIdx k 2) 0x09)
  | none => false

/-- The outlet status payload (Table 7.6). -/
def outletStatus (k : Fin 12) (d : Dev) : List Byte :=
  let o := d.out[k]
  let r := d.rail[k]
  let max_ := num d (outIdx k 1) 0x02
  let avail := min (min |d.alloc.grant[k]| (max 0 o.derated)) max_
  let mv : Int := (o.cableV.getD 0) / 100
  let flags := (if bit r.atLimit 2 || (d.ring.seg[segOf k d]).atLimit then 1 else 0) + (if bit r.atLimit 0 then 2 else 0)
    + (if d.alloc.cause[k] = 1 then 4 else 0) + (if o.insul = 2 then 8 else 0) + (if o.derated < max_ then 16 else 0)
    + (if o.step = .passed then 32 else 0) + (if o.state = .precharge ∧ prechargeMet k d then 64 else 0)
  evData [(1, (k.val : Int)), (1, (outCode o.state : Int)), (1, (o.cause : Int)), (1, (flags : Int)), (4, mv), (2, o.outI), (2, avail),
    (2, if mayReturn k d then avail else 0), (4, mv * avail / 10000), (2, match o.imd with | some x => (x.kohm : Int) | none => 65535),
    (1, (o.insul : Int)), (1, 0), (8, (d.time.now : Int)), (2, (o.statusCount : Int))]

/-- The outlet status sent (R187). -/
def sendStatus (k : Fin 12) (d : Dev) : Dev :=
  let d := enqueue .fh (tenonBytes 0x09 0 0 1 k.val (outletStatus k d) d) d
  onOut k (fun o => { o with statusCount := (o.statusCount + 1) % 65536, statusAt := d.time.now, shown := o.state }) d

/-- An outlet enters a state (R187: the status is sent on every change; R182: the end cause is cleared on entry to PLUGGED; R204: cooling
runs from entry to CABLE_CHECK, and its run-on begins when WELD_CHECK or FAULTED is left). -/
def outEnter (k : Fin 12) (s : OutState) (d : Dev) : Dev :=
  sendStatus k (onOut k (fun o =>
    let ends := o.cooling && (o.state == .weldCheck || o.state == .faulted) && s != .faulted
    { o with state := s, since := d.time.now, lows := 0, dead := 0, cooling := o.cooling || s == .cableCheck,
             cause := if s = .plugged then 0 else o.cause,
             heldLimit := if s = .winddown ∨ s = .faulted then o.heldLimit else none,
             runOn := if s = .cableCheck then none else bif ends then some d.time.now else o.runOn }) d)

/-- A fast stop of the outlet generator, which counts from the present boundary (R184); in voltage mode nothing changes at the rail. -/
def beginFast (k : Fin 12) (d : Dev) : Dev :=
  if (d.rail[k]).currentMode then
    let p := (d.eng.gen[outletGen k]).p
    onGen (outletGen k) (fun x => { x with plan := [], replan := false, v := 0, a := 0, target := 0 })
      (onOut k (fun o => { o with fast := some (p, d.sync.boundary) }) d)
  else d

/-- The end cause recorded by the first transition that ends the session (R182). -/
def recordCause (k : Fin 12) (c : Nat) (d : Dev) : Dev := onOut k (fun o => { o with cause := if o.cause = 0 then c else o.cause }) d

/-- The session's claims given up: its target and the vehicle's limits (R94). -/
def dropTarget (k : Fin 12) (d : Dev) : Dev :=
  onOut k (fun o => { o with reqI := 0, phaseWaits := false, turning := false, vehMax := none, vehMin := none }) d

/-- The current limit of a rail in voltage mode stays what it was when its session ended (R184). -/
def keepLimit (k : Fin 12) (d : Dev) : Dev :=
  if (d.rail[k]).currentMode then d else onOut k (fun o => { o with heldLimit := some (limitTenths k d) }) d

/-- A rail in voltage mode is held at its present S, and a stored command is dropped (R502, R503). -/
def holdSetPoint (k : Fin 12) (d : Dev) : Dev :=
  onRail k (fun r => if r.currentMode ∨ r.state ≠ .live then r else { r with t := r.s, command := none }) d

/-- The followers of a cable check's raise. -/
def raiseFollowers (k : Fin 12) (d : Dev) : List (Fin 12) := (all 12).filter (fun j => (d.rail[j]).follows == some k && j != k && governs j d)

/-- The episodes of a cable check end with result stop forced: the rails that never became LIVE stop, and an outlet rail that is LIVE
is held at its present S (R503). -/
def endCheck (k : Fin 12) (d : Dev) : Dev :=
  let r := d.rail[k]
  let followers := raiseFollowers k d
  let d := followers.foldl (fun d j => endEpisode j .stopForced d) d
  if r.state = .live then
    beginStops followers (holdSetPoint k (if r.episode = .none then d else endEpisode k .stopForced d))
  else if r.episode = .coincidentOutlet then
    beginStops (k :: followers) (endEpisode k .stopForced (onContactor (.outlet k) (fun c => { c with want := c.cmd }) d))
  else beginStops followers d

/-- A rail's stop after its weld check (R111, R202). -/
def weldStop (k : Fin 12) (d : Dev) : Dev := if governs k d ∧ (d.rail[k]).state = .live then beginStop k d else d

/-- An outlet goes to FAULTED (Table 7.4, R184, R502): fast stop, target cleared, IMD released; from WELD_CHECK its rail stops at once
(R202). -/
def enterFaulted (k : Fin 12) (c : Nat) (d : Dev) : Dev :=
  let o := d.out[k]
  let live := inCharge o.state || o.state == .winddown
  let d := if live then keepLimit k d else d
  let d := if o.state = .cableCheck then endCheck k d else d
  let d := if live then beginFast k (holdSetPoint k d) else d
  let d := recordCause k c (dropTarget k d)
  let d := onOut k (fun x => { x with
    faults := x.faults ||| 2 ^ c, imdEnabled := false, stopDue := live && (d.rail[k]).state != .draining && (d.rail[k]).state != .free }) d
  let d := outEnter k .faulted (bump (outIdx k 0) 0x0D d)
  if o.state = .weldCheck then weldStop k d else d

/-- An outlet goes to WINDDOWN (R183, R201, R503). -/
def enterWinddown (k : Fin 12) (c : Nat) (d : Dev) : Dev :=
  let d := keepLimit k d
  let d := if (d.out[k]).state = .cableCheck then endCheck k d else d
  let d := if fastCause c then beginFast k d else d
  outEnter k .winddown (recordCause k c (dropTarget k d))

/-- A cause of Table 7.3 is raised at an outlet, for its next boundary (R182). -/
def raiseCause (k : Fin 12) (c : Nat) (d : Dev) : Dev := onOut k (fun o => { o with raised := o.raised ||| 2 ^ c }) d
/-- An event of Table 7.4 that has no cause reaches an outlet, for its next boundary. -/
def raiseEvent (k : Fin 12) (e : OutEvent) (d : Dev) : Dev := onOut k (fun o => { o with events := o.events ++ [e] }) d

/-- A later cause recorded in the event log (R182). -/
def laterCause (k : Fin 12) (c : Nat) (d : Dev) : Dev := raise 1 .outletCause [BitVec.ofNat 8 k.val, BitVec.ofNat 8 c] d

/-- The causes of one period, the highest first, act on an outlet (R182, R183): the first of them that its state knows; those that come in
WINDDOWN or WELD_CHECK are all recorded. -/
def takeCauses (k : Fin 12) (l : List Nat) (d : Dev) : Dev :=
  let first (p : Nat → Bool) (f : Nat → Dev) : Dev := match l.find? p with
    | some c => f c
    | none => d
  match (d.out[k]).state with
  | .outOfService => d
  | .faulted => onOut k (fun o => { o with faults := (l.filter pathF).foldl (fun a c => a ||| 2 ^ c) o.faults }) d
  | .idle | .ended => first (fun c => c == 11 || c == 12 || c == 21) (fun c => enterFaulted k c d)
  | .plugged | .handshake => first (fun _ => true) (fun c =>
      if c = 11 ∨ c = 12 ∨ c = 21 then enterFaulted k c d else outEnter k .ended (recordCause k c (dropTarget k d)))
  | .winddown | .weldCheck =>
    let d := l.foldl (fun d c => laterCause k c d) d
    (match l.find? pathF with
      | some c => enterFaulted k c d
      | none => d)
  | _ => first (fun _ => true) (fun c => if pathF c then enterFaulted k c d else enterWinddown k c d)

/-! Target updates (R186). -/

/-- A field of a payload. -/
def fieldAt (b : List Byte) (lo n : Nat) : Nat := leNat ((b.drop lo).take n)

/-- Whether count `new` exceeds count `old` modulo 2^32 over half the range (R186). -/
def countExceeds (new old : Nat) : Bool := let x := (new + 2 ^ 32 - old) % 2 ^ 32; 0 < x && x < 2 ^ 31

/-- Whether an update is discarded (R186, R200). -/
def updateBad (k : Fin 12) (b : List Byte) (d : Dev) : Bool :=
  let o := d.out[k]
  let phase := fieldAt b 1 1
  let flags := fieldAt b 2 2
  let proto := fieldAt b 38 1
  o.state == .idle || o.state == .outOfService
    || (match o.updCount with | some c => !countExceeds (fieldAt b 34 4) c | none => false)
    || decide (16 ≤ flags) || fieldAt b 39 9 != 0 || decide (6 < phase) || proto == 0 || decide (3 < proto)
    || (bit flags 3 && phase != 6)
    || (phase == 4 && !(on d (outIdx k 1) 0x07 && bit flags 1))

/-- An accepted update (R186): its fields with requested current and vehicle maximum voltage clipped to the outlet's. An update
with the delivery phase ends a hold of R336. The vehicle's limits bound the rail only while a session supplies them (R94). -/
def acceptUpdate (k : Fin 12) (b : List Byte) (d : Dev) : Dev :=
  let max_ := num d (outIdx k 1) 0x02
  let vmax := num d (outIdx k 1) 0x03
  let req := signed 16 (fieldAt b 8 2)
  let cur := clamp (-max_) max_ req
  let vm : Int := fieldAt b 14 4
  let v := min vm vmax
  let d := if cur ≠ req ∨ v ≠ vm then bump (outIdx k 0) 0x0F d else d
  let minV := fieldAt b 18 4
  let session (s : OutState) : Bool := inCharge s || s == .plugged || s == .handshake
  onOut k (fun o => { o with
    updCount := some (fieldAt b 34 4), updAt := d.time.now, phase := fieldAt b 1 1, flags := fieldAt b 2 2,
    phaseWaits := !(o.swHold.isSome && fieldAt b 1 1 < 3),
    swHold := if fieldAt b 1 1 = 3 ∨ fieldAt b 1 1 = 4 then none else o.swHold,
    grantCap := if fieldAt b 1 1 = 3 ∨ fieldAt b 1 1 = 4 then none else o.grantCap,
    targetV := fieldAt b 4 4, reqI := cur, maxI := fieldAt b 10 2, maxDis := fieldAt b 12 2,
    vehMax := if session o.state then some v else none, vehMin := if session o.state ∧ minV ≠ 0 then some minV else none, presentV := fieldAt b 22 4, protocol := fieldAt b 38 1 }) d

/-- A target voltage in PRECHARGE as a command at the precharge rate (R97, R198); `v` in 10 µV. A command that still waits for its boundary is
superseded, and counted (R98). -/
def sessionVoltage (k : Fin 12) (v : Int) (d : Dev) : Dev :=
  if v < 15000000 ∨ vCeil k d < v ∨ (d.rail[k]).state ≠ .live ∨ (d.rail[k]).currentMode then d
  else
    let d := if (d.rail[k]).command.isSome then bump (railIdx k 0) 0x0F d else d
    onRail k (fun r => { r with command := some (v, nat d (outIdx k 2) 0x07) }) d

/-- A vehicle target update arrives at the field side (R186). -/
def targetUpdate (b : List Byte) (d : Dev) : Dev :=
  if h : fieldAt b 0 1 < 12 then
    let k : Fin 12 := ⟨fieldAt b 0 1, h⟩
    if updateBad k b d then bump (outIdx k 0) 0x0E d
    else
      let d := acceptUpdate k b d
      if (d.out[k]).state = .precharge ∧ (d.out[k]).phase = 2 then sessionVoltage k (100 * (d.out[k]).targetV) d else d
  else d

/-- VEHICLE_TARGET_UPDATE (R21, R186). -/
def execVehicleTargetUpdate (m : TenonMsg) (s : State) : Host.Outcome State Fault Refusal :=
  let (d, ok) := receive .hf m s.dev
  done s (if ok && hdrType m.header == 0x08 && up 1 d then targetUpdate m.payload d else d)

/-! Cable check (R193 to R197). -/

/-- Insulation by ratio: 1 valid, 2 warning, 3 fault (R196). -/
def insulClass (k : Fin 12) (x : ImdReading) (d : Dev) : Nat :=
  let vcc := (d.out[k]).vcc
  let ratio : Rat := if vcc = 0 then 0 else (x.kohm : Rat) * 1000000 / (vcc : Rat)
  let byRatio := if x.kohm = 65535 then 1 else if (num d (outIdx k 2) 0x04 : Rat) ≤ ratio then 1
    else if (num d (outIdx k 2) 0x05 : Rat) ≤ ratio then 2 else 3
  max byRatio (if 1 ≤ x.status ∧ x.status ≤ 3 then x.status else 0)

/-- An IMD reading for an outlet (R196, R197): one whose status is measuring or disabled is no reading. -/
def imdReading (k : Fin 12) (x : ImdReading) (d : Dev) : Dev :=
  if x.status < 1 ∨ 3 < x.status then d else
  let d := onOut k (fun o => { o with imd := some x }) d
  let o := d.out[k]
  if o.step = .passed ∧ inCharge o.state then
    let c := insulClass k x d
    let d := onOut k (fun o => { o with insul := c }) d
    if c = 3 then raiseCause k 13 d else d
  else d

/-- Of two readings of an IMD on the site bus the newer by its reading time is used (R348). -/
def newerReading (k : Fin 12) (x : ImdReading) (d : Dev) : Dev := match (d.out[k]).imd with
  | some y => if x.stamp < y.stamp then d else imdReading k x d
  | none => imdReading k x d

/-- IMD_READING (R196). -/
def execImdReading (k : Fin 12) (kohm status : Nat) (stamp : Int) (s : State) : Host.Outcome State Fault Refusal :=
  done s (imdReading k ⟨kohm, status, stamp⟩ s.dev)

/-- CABLE_CHECK_RAIL_READY (R193 steps 1 and 2). -/
def execCableCheckRailReady (k : Fin 12) (s : State) : Host.Outcome State Fault Refusal :=
  let d := s.dev
  let o := d.out[k]
  done s (if o.state = .cableCheck ∧ o.step = .wait ∧ (d.rail[k]).state = .free ∧ (members (segOf k d) d).length = 1 ∧ hasLegs k d then
    onOut k (fun o => { o with step := .closing }) (beginOutlet k d) else d)

/-- The tie of a rail towards the outlet's rail along the planned run. -/
def tieTowards (k j : Fin 12) (run : List (Fin 12)) : Fin 12 := if run.idxOf j < run.idxOf k then j else shift j (-1)

/-- Step 4 of R193: V_cc is fixed and the ratiometric episode of the outlet's rail and its followers begins. An outlet rail that has lost
its legs cannot be a member (R103), so the raise ends at once. -/
def beginRaise (k : Fin 12) (d : Dev) : Dev :=
  if !hasLegs k d then raiseCause k 17 d else
  let o := d.out[k]
  let vcc : Int := min (num d (outIdx k 1) 0x03) (max (o.vehMax.getD 0) (num d (outIdx k 2) 0x02))
  let run := (d.alloc.plan.layout[k]).getD [k]
  let near (j : Fin 12) : Bool := match measured j d, measured k d with
    | some a, some b => decide (|a - b| ≤ 10000 * num d 0x2802 0x08)
    | _, _ => false
  let follows (j : Fin 12) : Bool := run.contains j && j != k && (d.rail[j]).state == .free && hasLegs j d && near j && governs j d
  let d := onOut k (fun o => { o with vcc := vcc.toNat, step := .raising, stepAt := d.time.now, imdEnabled := true, shortTicks := 0 }) d
  let d := (all 12).foldl (fun d j => if follows j then
    onRail j (fun r => { r with follows := some k, tie := tieTowards k j run }) d else d) d
  beginRatio k (tab (fun j => j == k || follows j)) (100 * vcc) (nat d (outIdx k 2) 0x01) false d

/-- The cable check's own steps at a boundary (R193, R195). -/
def checkPeriod (k : Fin 12) (d : Dev) : Dev :=
  let o := d.out[k]
  let r := d.rail[k]
  match o.step with
  | .closing =>
    if outConfirmed k true d ∧ r.state = .live then beginRaise k d
    else if r.episode = .coincidentOutlet ∧ r.inWindow then askContactor (.outlet k) true d else d
  | .raising =>
    let d := if bit r.atLimit 2 then onOut k (fun o => { o with shortTicks := o.shortTicks + 1 }) d else d
    if r.episode = .ratiometric then d
    else if r.result = .done then onOut k (fun o => { o with step := .hold, stepAt := d.time.now }) d
    else if r.result = .deviation then raiseCause k 14 d
    else raiseCause k 17 d
  | .hold => if bit r.atLimit 2 then onOut k (fun o => { o with shortTicks := o.shortTicks + 1 }) d else d
  | _ => d

/-- IMD_SETTLE_EXPIRY (R193 step 5, R196, R197). -/
def execImdSettleExpiry (k : Fin 12) (s : State) : Host.Outcome State Fault Refusal :=
  let d := s.dev
  let o := d.out[k]
  done s (if o.state ≠ .cableCheck ∨ o.step ≠ .hold then d else
    let d := reach (o.stepAt + ms (nat d (outIdx k 2) 0x03)) d
    match o.imd with
    | some x =>
      if x.stamp - d.time.base ≤ o.stepAt ∨ x.stamp + sec (nat d (outIdx k 2) 0x11) < siteTime d then raiseCause k 15 d else
      let c := insulClass k x d
      let d := onOut k (fun o => { o with insul := c }) d
      if c = 3 then raiseCause k 13 d else sendStatus k (onOut k (fun o => { o with step := .passed }) d)
    | none => raiseCause k 15 d)

/-- CABLE_CHECK_TIMEOUT (R193). -/
def execCableCheckTimeout (k : Fin 12) (s : State) : Host.Outcome State Fault Refusal :=
  let d := s.dev
  let o := d.out[k]
  done s (if o.state = .cableCheck ∧ o.step ≠ .passed then raiseCause k 17 (reach (o.since + sec (nat d (outIdx k 2) 0x10)) d) else d)

/-- CABLE_SHORT (R195): the current-limit bit has been set for longer than the short limit time. -/
def execCableShort (k : Fin 12) (s : State) : Host.Outcome State Fault Refusal :=
  let d := s.dev
  let o := d.out[k]
  done s (if o.state = .cableCheck ∧ ms (nat d (outIdx k 2) 0x06) < o.shortTicks * period then raiseCause k 14 d else d)

/-- IMD_AGE_EXPIRY (R197). -/
def execImdAgeExpiry (k : Fin 12) (s : State) : Host.Outcome State Fault Refusal :=
  let d := s.dev
  let o := d.out[k]
  done s (if o.step = .passed ∧ inCharge o.state then
    match o.imd with
    | some x => raiseCause k 15 (reach (atSite (x.stamp + sec (nat d (outIdx k 2) 0x11)) d) d)
    | none => raiseCause k 15 d
  else d)

/-! Transitions by phase and by condition. -/

/-- Whether an outlet may start no session: its module is alone and has lost the barrier (R30). -/
def noNewSession (d : Dev) : Bool := d.barrier.field.view == .lost && roleOf d == 3

/-- The cause that the phase of the last accepted update raises (Table 7.3). Nothing but the causes of Table 7.4 ends PLUGGED (DEDUCED, log 207). -/
def phaseCause (k : Fin 12) (d : Dev) : List Nat :=
  let o := d.out[k]
  if !o.phaseWaits || o.state == .plugged then []
  else if o.phase = 5 then [1]
  else if o.phase = 6 then (if !bit o.flags 3 then [5] else if o.state = .handshake then [3] else [])
  else []

/-- The phase that the last accepted update asks for, where its transition's condition holds (Table 7.4, R186, R199). An update with the
outlet's own phase takes a direction change back that has not completed (DESIGN CHOICE, log 208). -/
def applyPhase (k : Fin 12) (d : Dev) : Dev :=
  let o := d.out[k]
  let spent (d : Dev) : Dev := onOut k (fun o => { o with phaseWaits := false }) d
  let turn (x : Bool) : Dev := spent (onOut k (fun o => { o with turning := x }) d)
  if !o.phaseWaits then d else
  if o.phase = 5 ∨ o.phase = 6 then (if o.state = .plugged then d else spent d) else
  match o.state with
  | .plugged =>
    if o.phase = 0 then outEnter k .handshake (spent (setNum (outIdx k 0) 0x04 o.protocol d)) else d
  | .handshake =>
    if o.phase = 1 ∧ bit o.flags 0 ∧ o.conn = 2 ∧ !fxWaits d ∧ !noNewSession d then
      outEnter k .cableCheck (spent (onOut k (fun o => { o with step := .wait, stepAt := d.time.now, insul := 0, imd := none, vcc := 0 }) d))
    else d
  | .cableCheck =>
    if o.phase = 2 ∧ o.step = .passed then
      sessionVoltage k (100 * o.targetV) (outEnter k .precharge (spent d)) else d
  | .precharge =>
    let ready := outConfirmed k true d ∧ prechargeMet k d ∧ (d.eng.gen[outletGen k]).user ≠ .allocator
    if o.phase = 3 ∧ ready then
      outEnter k .delivering (spent (onRail k (fun r => { r with modeAsked := some true }) d))
    else if o.phase = 4 ∧ mayReturn k d ∧ ready then
      outEnter k .returning (spent (onRail k (fun r => { r with modeAsked := some true }) d))
    else d
  | .delivering => if o.phase = 3 then turn false else if o.phase = 4 ∧ mayReturn k d then turn true else spent d
  | .returning => if o.phase = 4 then turn false else if o.phase = 3 then turn true else spent d
  | _ => d

/-- DIRECTION_CHANGE_COMPLETE (R199): the outlet generator has come to rest at 0. -/
def execDirectionChangeComplete (k : Fin 12) (s : State) : Host.Outcome State Fault Refusal :=
  let d := s.dev
  let x := d.eng.gen[outletGen k]
  done s (if (d.out[k]).turning ∧ x.p = 0 ∧ x.state = .rest then raiseEvent k .turned d else d)

/-- Whether a condition that is a cause of Table 7.3 holds at an outlet. -/
def causeHolds (k : Fin 12) (d : Dev) (c : Nat) : Bool :=
  let o := d.out[k]
  let charge := inCharge o.state
  let session := charge || o.state == .winddown || o.state == .weldCheck
  match c with
  | 11 => segStopped (segOf k d) d
  | 12 => d.ring.faultZero[k]
  | 22 => session && (d.ring.outlet[k]).travelFault
  | 7 => charge && o.conn == 0
  | 21 => o.conn == 3
  | 16 => (session || o.state == .faulted) && (match o.pin with
      | some t => decide (num d (0x3200 + 16 * k.val) 0x06 ≤ t)
      | none => false)
  | 10 => (o.state == .delivering || o.state == .returning) && noNewSession d
  | 8 => charge && o.headStale && d.barrier.field.view != .restartAwaited
  | 6 => charge && o.conn == 1
  | _ => false

/-- The causes of a period at an outlet, the highest first: those raised, those whose conditions hold, and that of the phase asked for
(R182, Table 7.3). -/
def causesNow (k : Fin 12) (d : Dev) : List Nat :=
  causeRank.filter (fun c => bit (d.out[k]).raised c || causeHolds k d c || (phaseCause k d).contains c)

/-- Whether a fault cause that is a condition holds at an outlet (R209). -/
def faultPresent (k : Fin 12) (d : Dev) : Bool := [11, 12, 21, 16].any (causeHolds k d)

/-- The return from OUT_OF_SERVICE (Table 7.4): rail fitted, head node set, outlet contactor counted open, in a life-cycle state
whose outlets serve (Table 15.1). -/
def mayServe (k : Fin 12) (d : Dev) : Bool :=
  (lifeOf d == 2 || lifeOf d == 3) && railFitted k d && num d (outIdx k 1) 0x05 != 0xFF && !outletClosed k d
/-- An outlet leaves OUT_OF_SERVICE: its rail returns to control source 0 (R96). -/
def returnToService (k : Fin 12) (d : Dev) : Dev :=
  outEnter k .idle (setNum (railIdx k 1) 0x01 0 (onOut k (fun o => { o with startDue := false }) d))

/-- On entry to WELD_CHECK the rail takes the weld voltage in voltage mode (R202); where it has no measured voltage, from its set-point
(DESIGN CHOICE, log 209). -/
def enterWeld (k : Fin 12) (d : Dev) : Dev :=
  let v0 := (measured k d).getD (d.rail[k]).s
  let o := 10000 * num d (outIdx k 2) 0x0E
  let vw := if 15000000 ≤ v0 - o then v0 - o else max 15000000 (min (v0 + o) (vCeil k d))
  let d := if (d.rail[k]).currentMode then toVoltageMode k d else d
  sessionVoltage k vw (outEnter k .weldCheck (onOut k (fun o => { o with imdEnabled := false, fast := none }) d))

/-- A vehicle is connected or is not (Table 7.2). -/
def plugged (conn : Nat) : Bool := conn == 1 || conn == 2

/-- Whether the fault reset command finds its conditions (Table 7.4). -/
def mayReset (k : Fin 12) (d : Dev) : Bool :=
  let r := (d.rail[k]).state
  (d.out[k]).state == .faulted && outConfirmed k false d && !(d.ring.outlet[k]).travelFault && (r == .free || r == .isolated)
/-- Whether the out-of-service command finds its conditions (Table 7.4). -/
def mayLeave (k : Fin 12) (d : Dev) : Bool :=
  let x := (d.out[k]).state
  (x == .idle || x == .ended || x == .faulted) && outConfirmed k false d

/-- The condition of an event's transition (Table 7.4); no session starts on a module alone that has lost the barrier (R30), nor while an
FX activation waits (R462). -/
def eventHolds (k : Fin 12) (d : Dev) (e : OutEvent) : Bool :=
  let o := d.out[k]
  match e with
  | .plug => o.state == .idle && plugged o.conn && !fxWaits d && !noNewSession d
  | .unplug => (o.state == .plugged || o.state == .handshake || o.state == .ended) && o.conn == 0
  | .pass => o.state == .weldCheck
  | .turned => o.turning && (o.state == .delivering || o.state == .returning)
  | .outOfService => mayLeave k d
  | .toService => o.state == .outOfService && mayServe k d
  | .reset => mayReset k d && !faultPresent k d

/-- An outlet's session begins or goes on in PLUGGED: the fields of the last session are spent. A session's first update is taken whatever
its count (DESIGN CHOICE, log 211). -/
def enterPlugged (k : Fin 12) (d : Dev) : Dev :=
  outEnter k .plugged (onOut k (fun o => { o with
    updCount := none, phaseWaits := false, vehMax := none, vehMin := none, reqI := 0, protocol := 0 }) d)

/-- The transition of an event (Table 7.4). -/
def takeEvent (k : Fin 12) (e : OutEvent) (d : Dev) : Dev :=
  match e with
  | .plug => enterPlugged k (bump (outIdx k 0) 0x09 d)
  | .unplug => outEnter k .idle (recordCause k 7 (dropTarget k d))
  | .pass => weldStop k (outEnter k .ended d)
  | .turned =>
    let d' := onOut k (fun o => { o with turning := false }) d
    outEnter k (if (d.out[k]).state = .delivering then .returning else .delivering) d'
  | .outOfService => outEnter k .outOfService d
  | .toService => returnToService k d
  | .reset =>
    let d := onOut k (fun o => { o with faults := 0 }) d
    if plugged (d.out[k]).conn then enterPlugged k d else outEnter k .idle d

/-- The transition of an outlet in a period, where no cause acts: that of an event, of its own conditions, or of the phase asked for. -/
def quietPeriod (k : Fin 12) (events : List OutEvent) (d : Dev) : Dev :=
  match events.find? (eventHolds k d) with
  | some e => takeEvent k e d
  | none => match (d.out[k]).state with
    | .outOfService => if (d.out[k]).startDue && on d (outIdx k 1) 0x06 && mayServe k d then returnToService k d else d
    | .winddown => if outConfirmed k false d then enterWeld k d else d
    | _ => applyPhase k d

/-- Whether a list of causes moves an outlet from its state, so that nothing else does in the period (R182). -/
def causesMove (k : Fin 12) (l : List Nat) (d : Dev) : Bool := match (d.out[k]).state with
  | .outOfService | .faulted => false
  | .idle | .ended => l.any (fun c => c == 11 || c == 12 || c == 21)
  | .winddown | .weldCheck => l.any pathF
  | _ => l != []

/-- The status is sent where the state differs from the one last sent, and at its times (R187): so a module that only shadows sends it for the
states that it mirrors (R225). -/
def statusPeriod (k : Fin 12) (d : Dev) : Dev :=
  let o := d.out[k]
  let due := if inCharge o.state || o.state == .winddown || o.state == .weldCheck then ms 10 else ms 100
  if o.shown ≠ o.state ∨ o.statusAt + due ≤ d.time.now then sendStatus k d else d

/-- One outlet at a period boundary: at most one transition, of the highest cause where there is one (R182). -/
def outletPeriod (k : Fin 12) (d : Dev) : Dev :=
  let i : Rat := segCurrent (segOf k d) d
  let d := onOut k (fun o => { o with
    lows := if |i| < (num d (outIdx k 2) 0x0B : Rat) / 10 then min 3 (o.lows + 1) else 0,
    imdEnabled := o.imdEnabled && outConfirmed k true d }) d
  let d := if (d.out[k]).state = .cableCheck then checkPeriod k d else d
  let causes := causesNow k d
  let events := (d.out[k]).events
  let d := onOut k (fun o => { o with raised := 0, events := [] }) d
  let d := if causesMove k causes d then takeCauses k causes d else quietPeriod k events (takeCauses k causes d)
  statusPeriod k d

/-- The current target that an outlet's generator follows in current mode, in 0.1 A (R94, R184, R199, R201). -/
def generatorTarget (k : Fin 12) (d : Dev) : Int :=
  let o := d.out[k]
  if hostSource k d then (if (d.rail[k]).stopWaits then 0 else currentTarget k d)
  else if o.turning || (d.rail[k]).stopWaits || !(o.state == .delivering || o.state == .returning) then 0
  else currentTarget k d

/-- The outlet generators before their updates: fast stops, safety stops (R139), and new targets of R94. -/
def outletGenerators (d : Dev) : Dev :=
  (all 12).foldl (fun d k =>
    let g := outletGen k
    let x := d.eng.gen[g]
    let r := d.rail[k]
    if x.user = .allocator then d
    else if segStopped (segOf k d) d then onGen g (fun x => { x with p := 0, v := 0, a := 0, plan := [], state := .held }) (onOut k (fun o => { o with fast := none }) d)
    else
      let d := if x.state = .held then onGen g (fun x => { x with state := .rest, replan := true }) d else d
      match (d.out[k]).fast with
      | some (p0, t) =>
        let len := ms (nat d (outIdx k 2) 0x0A)
        let left : Int := (len : Int) - min len (d.time.now - t)
        onGen g (fun x => { x with p := p0 * left / len, v := 0, a := 0, plan := [], replan := false, target := 0,
                                   state := if left = 0 then .rest else .moving }) d
      | none =>
        if r.currentMode ∧ governs k d then
          let t := generatorTarget k d
          if (d.eng.gen[g]).target = t * 2 ^ 24 then d else genTarget g t d
        else d) d

/-- FAST_STOP_END (R184). -/
def execFastStopEnd (k : Fin 12) (s : State) : Host.Outcome State Fault Refusal :=
  let d := s.dev
  done s (match (d.out[k]).fast with
    | some (_, t) => genRestAt (outletGen k) 0 (onOut k (fun o => { o with fast := none }) (reach (t + ms (nat d (outIdx k 2) 0x0A)) d))
    | none => d)

/-- A release reaches the outlets of a segment (R83, R139): their generators rest at zero, and cause 9 is raised. -/
def releaseOutlets (h : Fin 12) (d : Dev) : Dev :=
  (closedOutlets h d).foldl (fun d k => raiseCause k 9 (genRestAt (outletGen k) 0 (onOut k (fun o => { o with fast := none }) d))) d

/-- OUTLET_CONTACTOR_OPEN (R185). -/
def execOutletContactorOpen (k : Fin 12) (s : State) : Host.Outcome State Fault Refusal :=
  let d := s.dev
  let o := d.out[k]
  done s (if (o.state = .winddown ∨ o.state = .faulted) ∧ 3 ≤ o.lows then askContactor (.outlet k) false d
    else if o.state = .faulted then
      askContactor (.outlet k) false (reach (o.since + ms (nat d (outIdx k 2) 0x0A) + ms 10) d)
    else d)

/-- FAULTED_RAIL_STOP (R502): the rail stops once the contactor counts open. -/
def execFaultedRailStop (k : Fin 12) (s : State) : Host.Outcome State Fault Refusal :=
  let d := s.dev
  done s (if (d.out[k]).stopDue && !outletClosed k d then
    let d := onOut k (fun o => { o with stopDue := false }) d
    if governs k d ∧ (d.rail[k]).state = .live then beginStop k d else d
  else d)

/-- WINDDOWN_TIMEOUT (R201). -/
def execWinddownTimeout (k : Fin 12) (s : State) : Host.Outcome State Fault Refusal :=
  let d := s.dev
  done s (if (d.out[k]).state = .winddown then raiseCause k 18 (reach ((d.out[k]).since + ms (nat d (outIdx k 2) 0x0C)) d) else d)

/-- WELD_CHECK_PASS (R202): below the dead level in three consecutive feed updates. -/
def execWeldCheckPass (k : Fin 12) (s : State) : Host.Outcome State Fault Refusal :=
  let d := s.dev
  done s (if (d.out[k]).state = .weldCheck ∧ 3 ≤ (d.out[k]).dead then raiseEvent k .pass d else d)

/-- CABLE_DISCHARGE_EXPIRY (R202): cause 19 near the rail's voltage, cause 20 otherwise. -/
def execCableDischargeExpiry (k : Fin 12) (s : State) : Host.Outcome State Fault Refusal :=
  let d := s.dev
  done s (if (d.out[k]).state = .weldCheck then
    let d := reach ((d.out[k]).since + ms (nat d (outIdx k 2) 0x0D)) d
    let weld : Bool := match (d.out[k]).cableV, measured k d with
      | some c, some v => decide (|c - v| ≤ 20000 * num d (railIdx k 4) 0x03)
      | _, _ => false
    raiseCause k (bif weld then 19 else 20) d
  else d)

/-- CONNECTION_DETECTED (R182, Table 7.4): connected for 100 ms. -/
def execConnectionDetected (k : Fin 12) (s : State) : Host.Outcome State Fault Refusal :=
  let d := s.dev
  done s (if eventHolds k d .plug then raiseEvent k .plug (reach ((d.out[k]).connSince + ms 100) d) else d)

/-- UNPLUG_DETECTED (Table 7.4): no connection for 100 ms. -/
def execUnplugDetected (k : Fin 12) (s : State) : Host.Outcome State Fault Refusal :=
  let d := s.dev
  done s (if eventHolds k d .unplug then raiseEvent k .unplug (reach ((d.out[k]).connSince + ms 100) d) else d)

/-- PLUG_TIMEOUT (Table 7.4): cause 4. -/
def execPlugTimeout (k : Fin 12) (s : State) : Host.Outcome State Fault Refusal :=
  let d := s.dev
  done s (if (d.out[k]).state = .plugged then raiseCause k 4 (reach ((d.out[k]).since + sec (nat d (outIdx k 2) 0x12)) d) else d)

/-- TARGET_TIMEOUT (R186): cause 5. -/
def execTargetTimeout (k : Fin 12) (s : State) : Host.Outcome State Fault Refusal :=
  let d := s.dev
  let o := d.out[k]
  done s (if inCharge o.state && o.swHold.isNone && d.barrier.field.view != .restartAwaited then raiseCause k 5 (reach (o.updAt + ms (nat d (outIdx k 2) 0x0F)) d) else d)

/-- A vehicle session changed. -/
def onVehicle (k : Fin 12) (f : Vehicle → Vehicle) (d : Dev) : Dev := { d with vehicle := upd d.vehicle k f }

/-- The last update repeated with a new count while the host knows its outlet in CABLE_CHECK to RETURNING (R186): in the last period in
which the time since it was sent is no more than 100 ms (DESIGN CHOICE, log 66). -/
def repeatUpdate (k : Fin 12) (d : Dev) : Dev :=
  let v := d.vehicle[k]
  let st := fieldAt v.status 1 1
  if 3 ≤ st ∧ st ≤ 6 ∧ v.update ≠ [] ∧ v.lastSent + ms 100 < d.time.now + period then
    let b := v.update.take 34 ++ leBytes 4 (v.count + 1) ++ v.update.drop 38
    onVehicle k (fun v => { v with count := (v.count + 1) % 2 ^ 32, lastSent := d.time.now, update := b })
      (enqueue .hf (tenonBytes 0x08 0 0 1 k.val b d) d)
  else d
/-- The host island's repeats of a period. -/
def repeatUpdates (d : Dev) : Dev := if up 0 d then (all 12).foldl (fun d k => repeatUpdate k d) d else d

/-- A metrology feed update for an outlet (R106, R202): the cable-side voltage in 10 µV and current in 0.1 A, the outlet close
permit and the dead level, each over at most three updates. -/
def metrologyFeed (k : Fin 12) (v : Option Int) (i : Int) (d : Dev) : Dev :=
  let own (sub : Nat) : Int := 10000 * (if (d.rail[k]).episode = .coincidentOutlet then (par k sub d : Int) else num d (railIdx k 4) sub)
  let window := own 0x03
  let deadLevel := own 0x04
  let permit : Bool := match v, measured k d with
    | some c, some r => decide (|c - r| ≤ window ∧ deadLevel ≤ c) || (decide (|c| < deadLevel) && decide (|r| < deadLevel))
    | _, _ => false
  let dead : Bool := match v with
    | some c => decide (|c| < deadLevel)
    | none => false
  let d := onOut k (fun o => { o with cableV := v, outI := i, dead := if dead then min 3 (o.dead + 1) else 0 }) d
  onRail k (fun r => { r with feedOk := if permit then min 3 (r.feedOk + 1) else 0 }) d

/-- The outlet's close permit for the interlock (Table 2.4, R106). -/
def outletPermit (k : Fin 12) (d : Dev) : Bool := (d.rail[k]).feedOk == 3 && !isStale .metrologyFeed d

end Sys2Proof.Machine
end

