-- ==== Sys2Proof/Machine/Metrology.lean ====
section
/-! DEFINITION. The metering link, the registers, the sessions, the signed records, the pulses and the saves (R210 to R247,
R31). -/
namespace Sys2Proof.Machine

/-- The metrology island changed. -/
def onMetro (f : Metro → Metro) (d : Dev) : Dev := { d with metro := f d.metro }
/-- An outlet's meter changed. -/
def onMeter (k : Fin 12) (f : Meter → Meter) (d : Dev) : Dev := onMetro (fun x => { x with meter := upd x.meter k f }) d
/-- An open metering session changed. -/
def onSession (k : Fin 12) (f : MSession → MSession) (d : Dev) : Dev := onMeter k (fun x => { x with session := x.session.map f }) d

/-- Measurement and configuration entries of an outlet's meter. -/
def meterIdx (k : Fin 12) : Nat := 0x3810 + k.val
def meterCfg (k : Fin 12) : Nat := 0x3830 + k.val

/-- Whether the metrology island is metering. -/
def metering (d : Dev) : Bool := up 2 d && num d 0x3800 0x01 == 1

/-- An outlet's greatest power in W (R237, R243): its maximum current times its maximum voltage. -/
def maxPower (k : Fin 12) (d : Dev) : Rat := (num d (outIdx k 1) 0x02 * num d (outIdx k 1) 0x03 : Int) / 10000

/-- Whether Δt differs from 31.25 µs by more than 100 ppm (R215). -/
def rateFault (x : Meter) : Bool := decide (3125 / 10000 < x.dt - 3125) || decide (3125 / 10000 < 3125 - x.dt)
/-- Whether an outlet's head is paired (R217, R223). -/
def paired (k : Fin 12) (d : Dev) : Bool :=
  let x := d.metro.meter[k]
  (match x.head[(4 : Fin 8)] with | some v => v == nat d (meterCfg k) 0x05 | none => false)
    && (match x.head[(7 : Fin 8)] with | some v => v == (if num d (outIdx k 1) 0x01 = 1 then 30000 else 5000) | none => false)

/-- The audit trail's used entries. -/
def auditUsed (d : Dev) : Nat := d.metro.audit.length
/-- The value of an entry as an audit trail entry holds it (Table 8.11). -/
def auditValue : DVal → List Byte
  | .num v => leBytes 8 (v % (2 ^ 64 : Int)).toNat
  | .oct b => (Config.sha256 b).take 8
  | .bfp m e => leBytes 8 ((m % 65536).toNat + 65536 * (e % 256).toNat)
/-- The identity digest of a session for the audit trail. -/
def auditIdentity (session : Nat) (d : Dev) : List Byte := match session with
  | 0 => List.replicate 16 0
  | n + 1 => if h : n < 6 then (Config.sha256 (d.site.sessions[n]'h).identity).take 16 else List.replicate 16 0
/-- An audit trail entry written (R245): kinds 1 to 3 within the first 960 entries, the others within 1024. Answers whether
there was room. -/
def audit (kind session idx sub : Nat) (old new : DVal) (d : Dev) : Dev × Bool :=
  if (if kind ≤ 3 then 960 else 1024) ≤ auditUsed d then (d, false) else
  let body := leBytes 4 (auditUsed d + 1) ++ leBytes 8 (islandTime 2 d) ++ leBytes 1 kind ++ leBytes 1 session
    ++ leBytes 2 idx ++ leBytes 1 sub ++ List.replicate 3 0 ++ auditValue old ++ auditValue new
    ++ leBytes 4 (nat d 0x1B13 0x02) ++ auditIdentity session d ++ List.replicate 4 0
  (onMetro (fun x => { x with audit := x.audit ++ [body ++ leBytes 4 (crc32 body).toNat] }) d, true)
/-- An item that cannot be refused: written, or counted and reported where the trail is full (R245). -/
def auditAlways (kind : Nat) (d : Dev) : Dev :=
  let (d, ok) := audit kind 0 0 0 (.num 0) (.num 0) d
  if ok then d else raise 2 .auditTrailFull [] (bump 0x3800 0x16 d)

/-- The host island reads the last transition's time from the audit trail (Table 15.12, R504). -/
def recallTransition (d : Dev) : Dev :=
  match (d.metro.audit.filter (fun b => fieldAt b 12 1 == 6)).getLast? with
  | some b => setNum 0x1A00 0x05 (fieldAt b 4 8) d
  | none => d

/-! Frames. -/

/-- The bytes of a metering uplink frame that its CRC covers. -/
def meterUpBytes (f : MeterUp) : List Byte :=
  leBytes 2 f.header.toNat ++ leBytes 4 f.count.toNat ++ f.volts.toList.flatMap (fun v => leBytes 3 v.toNat)
    ++ f.amps.toList.flatMap (fun v => leBytes 3 v.toNat) ++ leBytes 2 f.temp.toNat ++ leBytes 2 f.status.toNat
    ++ leBytes 6 f.service.toNat
/-- Whether a frame is good but for its count (R214). -/
def meterUpGood (f : MeterUp) : Bool :=
  f.framed && f.header.extractLsb' 12 4 == 0xC && f.crc == crc32 (meterUpBytes f)
    && !f.status.getLsbD 12 && !f.status.getLsbD 10

/-- Missing frames (R214, R216): counted, and 250 µs each added to the metering gap. -/
def missFrames (k : Fin 12) (n : Nat) (d : Dev) : Dev :=
  if n = 0 then d else
  onSession k (fun s => { s with gap := s.gap + 250 * n }) (onMeter k (fun x => { x with missRun := min 40 (x.missRun + n), goodRun := 0 })
    (bumpBy (meterCfg k) 0x0D n d))

/-- The measurement of Δt over 4000 frames (R215). -/
def measureInterval (count : W32) (arrival : Nat) (x : Meter) : Meter :=
  match x.mark with
  | none => { x with mark := some (count, arrival) }
  | some (c, a) =>
    let span := (count - c).toNat
    if span < 32000 then x
    else if span = 32000 then { x with dt := ((arrival - a : Nat) : Rat) / 32000, mark := some (count, arrival) }
    else { x with mark := some (count, arrival) }

/-- The service response of a frame (R213, Table 8.1). -/
def meterService (v : BitVec 48) (x : Meter) : Meter :=
  let addr := (v.extractLsb' 40 8).toNat
  if addr = x.asked ∧ v.extractLsb' 32 8 = 0 then
    match addr with
    | 0 => x
    | n + 1 => if h : n < 8 then { x with head := upd x.head ⟨n, h⟩ (fun _ => some (v.extractLsb' 0 32).toNat) } else x
  else x

/-- R(T) in nΩ (R219); the temperature in 0.1 °C. -/
def cableOhm (k : Fin 12) (t : Int) (d : Dev) : Int :=
  if !on d (meterCfg k) 0x01 then 0
  else divRound (num d (meterCfg k) 0x02 * 1000 * (10000000 + num d (meterCfg k) 0x03 * (t - 200))) 10000000
/-- The compensated power of a sample in 0.2 µW (R219, R221); v in 0.2 mV, i in mA, R in nΩ. -/
def compensated (v i r : Int) : Int := v * i - divRound (i * i * r) 200000000

/-- Adds to the accumulator of an interval, in ascending order of intervals. -/
def addAcc (n : Nat) (f : Sums → Sums) : List Sums → List Sums
  | [] => [f ⟨n, 0, 0, 0, 0, 0⟩]
  | a :: r => if a.interval < n then a :: addAcc n f r else if a.interval = n then f a :: r else f ⟨n, 0, 0, 0, 0, 0⟩ :: a :: r

/-- Energy of a power in 0.2 µW over a time in steps, in 2⁻³² mWh (R221). -/
def energyOf (p : Int) (dt : Rat) : Rat := (p : Rat) * dt * 4294967296 / 1800000000000000

/-- The energy that a pulse output's quantity takes of delivered and returned energy (R236). -/
def pulsePart (p : Fin 8) (del ret : Rat) (d : Dev) : Rat :=
  match nat d (0x3850 + if p.val < 4 then p.val else p.val + 4) 0x02 with
  | 0 => del | 1 => ret | _ => del + ret
/-- The entries of a pulse output. -/
def pulseIdx (p : Fin 8) : Nat := 0x3850 + if p.val < 4 then p.val else p.val + 4
/-- A pulse output's energy per pulse in 2⁻³² mWh; a test output's entry counts µWh (R240). -/
def pulseEnergy (p : Fin 8) (d : Dev) : Rat :=
  (num d (pulseIdx p) 0x03 : Rat) * 4294967296 / (if p.val < 4 then 1 else 1000)
/-- A pulse output changed. -/
def onPulse (p : Fin 8) (f : Pulse → Pulse) (d : Dev) : Dev := onMetro (fun x => { x with pulse := upd x.pulse p f }) d

/-- A sample's energy at the test outputs of an outlet (R240): an edge falls 500 µs after the date of the sample that fills
the residue. -/
def testPulses (k : Fin 12) (date : Nat) (power : Int) (dt : Rat) (d : Dev) : Dev :=
  ([4, 5, 6, 7] : List (Fin 8)).foldl (fun d p =>
    if nat d (pulseIdx p) 0x01 ≠ k.val then d else
    let e := pulsePart p (energyOf (max 0 power) dt) (energyOf (max 0 (-power)) dt) d
    onPulse p (fun x =>
      let r := x.residue + e
      if pulseEnergy p d ≤ r then { x with residue := r - pulseEnergy p d, edges := x.edges ++ [date + us 500] } else { x with residue := r }) d) d

/-- One sample of an accepted frame (R215, R218 to R221). -/
def takeSample (k : Fin 12) (counts : Bool) (r : Int) (date : Rat) (v i : Int) (d : Dev) : Dev :=
  let t : Nat := date.num.toNat / date.den
  let n := max d.metro.interval (t / ms 1)
  let p := if counts then compensated v i r else 0
  let d := onMeter k (fun x => { x with acc := addAcc n (fun a =>
    { a with del := a.del + max 0 p, ret := a.ret + max 0 (-p), v := a.v + v, i := a.i + i, n := a.n + 1 }) x.acc }) d
  if counts then testPulses k t p (d.metro.meter[k]).dt d else d

/-- An accepted frame's samples (R215 to R221). -/
def takeFrameSamples (k : Fin 12) (arrival : Nat) (f : MeterUp) (d : Dev) : Dev :=
  let amps := f.amps.toList.map (fun x => signed 24 x.toNat)
  let volts := f.volts.toList.map (fun x => signed 24 x.toNat)
  let light := decide (amps.foldl (fun a i => a + i.natAbs) 0 < 2400)
  let hot := f.status.getLsbD 13
  let temp := signed 16 f.temp.toNat
  let t := if hot then num d (meterCfg k) 0x04 else temp
  let counts := !light && (d.metro.meter[k]).link && paired k d
  let latency : Rat := (((d.metro.meter[k]).head[(6 : Fin 8)]).getD 0 : Nat) / 10
  let dt := (d.metro.meter[k]).dt
  let d := onMeter k (fun x => { x with temp := temp, quiet := if light then min 20 (x.quiet + 1) else 0 }) d
  let d := onSession k (fun s => { s with
    below := s.below + (if light then 1 else 0), tempSub := s.tempSub || hot, unpaired := s.unpaired || !paired k d }) d
  let r := cableOhm k t d
  ((volts.zip amps).zipIdx).foldl (fun d x => takeSample k counts r ((arrival : Rat) - latency - (7 - (x.2 : Rat)) * dt) x.1.1 x.1.2 d) d

/-- How far a sample count stands ahead of the one expected. -/
def countAhead (count : W32) (x : Meter) : Nat := match x.expect with
  | some e => (count - e).toNat
  | none => 0

/-- A good frame in its sequence (R214 to R216). A jump counts the frames it skips. -/
def meterFrame (k : Fin 12) (arrival : Nat) (f : MeterUp) (d : Dev) : Dev :=
  let ahead := countAhead f.count d.metro.meter[k]
  let d := onMeter k (fun x => { measureInterval f.count arrival x with expect := some (f.count + 8) }) d
  if ahead % 8 ≠ 0 ∨ 2147483648 ≤ ahead then missFrames k 1 d
  else
    let d := onMeter k (meterService f.service) (missFrames k (ahead / 8) d)
    if rateFault d.metro.meter[k] then missFrames k 1 d
    else
      let d := bump (meterCfg k) 0x0C (onMeter k (fun x => { x with missRun := 0, goodRun := min 400 (x.goodRun + 1) }) d)
      let d := if (d.metro.meter[k]).link then d else onSession k (fun s => { s with gap := s.gap + 250 }) d
      takeFrameSamples k arrival f d

/-- METERING_UPLINK_FRAME (R214 to R221). -/
def execMeteringUplinkFrame (k : Fin 12) (arrival : Nat) (f : Option MeterUp) (s : State) : Host.Outcome State Fault Refusal :=
  let d := reachSite arrival s.dev
  done s (if !metering d then d else match f with
    | some f => if meterUpGood f then meterFrame k arrival f d else missFrames k 1 d
    | none => missFrames k 1 d)

/-- The downlink frame that asks for an address (R213), from its header to its CRC. -/
def meterDownBytes (addr : Nat) : List Byte := let b := leBytes 2 0xD000 ++ leBytes 2 (addr * 256); b ++ leBytes 4 (crc32 b).toNat

/-- METERING_DOWNLINK_FRAME (R213): the addresses of Table 8.3 in rotation, every 1 ms. -/
def execMeteringDownlinkFrame (k : Fin 12) (s : State) : Host.Outcome State Fault Refusal :=
  let d := s.dev
  done s (if metering d then onMeter k (fun x => { x with asked := x.asked % 8 + 1, down := meterDownBytes (x.asked % 8 + 1) }) (reach (nextMultiple (ms 1) d) d) else d)

/-- METERING_LINK_DOWN (R216). -/
def execMeteringLinkDown (k : Fin 12) (s : State) : Host.Outcome State Fault Refusal :=
  let d := s.dev
  let x := d.metro.meter[k]
  done s (if x.link && decide (40 ≤ x.missRun) then
    onMeter k (fun x => { x with link := false, feedV := none, feedI := none, head := upd x.head 4 (fun _ => none) }) d else d)

/-- METERING_LINK_UP (R216): after 400 consecutive accepted frames, with the calibration identity read again; what it is paired with shows from
then on. -/
def execMeteringLinkUp (k : Fin 12) (s : State) : Host.Outcome State Fault Refusal :=
  let d := s.dev
  let x := d.metro.meter[k]
  done s (if !x.link && decide (400 ≤ x.goodRun) && (x.head[(4 : Fin 8)]).isSome then onMeter k (fun x => { x with link := true }) d else d)

/-! Intervals. -/

/-- A pulse output may give an edge at an instant (R239). -/
def edgeFree (p : Fin 8) (t : Nat) (d : Dev) : Bool := match (d.metro.pulse[p]).lastEdge with
  | none => true
  | some e => decide (e + 2 * (if p.val < 4 then ms (nat d (pulseIdx p) 0x04) else us 50) ≤ t)
/-- An edge. -/
def pulseEdge (p : Fin 8) (t : Nat) (d : Dev) : Dev := bump (pulseIdx p) 0x05 (onPulse p (fun x => { x with lastEdge := some t }) d)

/-- An interval's energy at a pulse output (R238, R239). -/
def pulseInterval (k : Fin 12) (t : Nat) (del ret : Rat) (d : Dev) (p : Fin 8) : Dev :=
  if nat d (pulseIdx p) 0x01 ≠ k.val then d else
  let r := (d.metro.pulse[p]).residue + pulsePart p del ret d
  if r < pulseEnergy p d then onPulse p (fun x => { x with residue := r }) d
  else
    let d := onPulse p (fun x => { x with residue := r - pulseEnergy p d }) d
    if (d.metro.pulse[p]).backlog = 0 ∧ edgeFree p t d then pulseEdge p t d
    else onPulse p (fun x => { x with backlog := min 65535 (x.backlog + 1) }) d

/-- The end of a metering interval for one outlet (R221, R222, R238): the sums converted with their remainders and added to the totals and to
the pulse outputs. -/
def endInterval (k : Fin 12) (d : Dev) (a : Sums) : Dev :=
  let x := d.metro.meter[k]
  let del := energyOf a.del x.dt + x.remD
  let ret := energyOf a.ret x.dt + x.remR
  let wd := del.num.toNat / del.den
  let wr := ret.num.toNat / ret.den
  let d := onMeter k (fun x => { x with totD := x.totD + wd, totR := x.totR + wr, remD := del - wd, remR := ret - wr }) d
  ([0, 1, 2, 3] : List (Fin 8)).foldl (pulseInterval k ((a.interval + 1) * ms 1) wd wr) d

/-- The end of the metering intervals up to a number, for one outlet, one after the other; the feed takes the means of the last. A sample
that comes after its interval has ended is counted in the one still open (DESIGN CHOICE, log 216). -/
def endIntervals (last : Nat) (k : Fin 12) (d : Dev) : Dev :=
  let x := d.metro.meter[k]
  let (old, new) := x.acc.span (fun a => decide (a.interval ≤ last))
  let total := (old.find? (fun a => a.interval == last)).getD ⟨last, 0, 0, 0, 0, 0⟩
  let live := x.link && total.n != 0
  let mean (s : Int) (unit : Nat) : Option Int := if live then some (divRound s (total.n * unit)) else none
  let d := (if old.any (fun a => a.interval == last) then old else old ++ [total]).foldl (endInterval k) d
  onMeter k (fun x => { x with acc := new, feedV := mean total.v 250, feedI := mean total.i 100, fed := true }) d

/-- The metrology feed to the field control island (Table 1.2). -/
def sendFeed (d : Dev) : Dev :=
  (all 12).foldl (fun d k => metrologyFeed k ((d.metro.meter[k]).feedV.map (· * 5000)) ((d.metro.meter[k]).feedI.getD 0) d) (transfer .metrologyFeed d)

/-- Every metering interval before an instant is ended. -/
def closeTo (t : Nat) (d : Dev) : Dev :=
  if t / ms 1 ≤ d.metro.interval then d else
  let last := t / ms 1 - 1
  onMetro (fun x => { x with interval := last + 1 }) ((all 12).foldl (fun d k => endIntervals last k d) d)

/-- METERING_INTERVAL_END (R218, R221, R222). -/
def execMeteringIntervalEnd (s : State) : Host.Outcome State Fault Refusal :=
  let d := s.dev
  done s (if metering d then
    let t := max ((d.metro.interval + 1) * ms 1) (siteTime d / ms 1 * ms 1)
    sendFeed (closeTo t (reachSite t d))
  else d)

/-- PULSE_BACKLOG_ISSUE (R239): the first boundary at which the spacing allows. -/
def execPulseBacklogIssue (p : Fin 8) (s : State) : Host.Outcome State Fault Refusal :=
  let d := s.dev
  let x := d.metro.pulse[p]
  done s (if x.backlog = 0 then d else
    let free := match x.lastEdge with
      | some e => e + 2 * ms (nat d (pulseIdx p) 0x04)
      | none => 0
    let t := ceilDiv (max (siteTime d) free) (ms 1) * ms 1
    pulseEdge p t (onPulse p (fun x => { x with backlog := x.backlog - 1 }) (reachSite t d)))

/-- TEST_PULSE_EDGE (R240): the next edge due; edges stand at least 100 µs apart. -/
def execTestPulseEdge (p : Fin 4) (s : State) : Host.Outcome State Fault Refusal :=
  let d := s.dev
  let q : Fin 8 := ⟨4 + p.val, by omega⟩
  done s (match (d.metro.pulse[q]).edges with
    | [] => d
    | e :: r =>
      let t := max e (match (d.metro.pulse[q]).lastEdge with | some l => l + us 100 | none => 0)
      pulseEdge q t (onPulse q (fun x => { x with edges := r }) (reachSite t d)))

/-! Sessions. -/

/-- The registers of an outlet in mWh (R222): delivered and returned. -/
def delivered (k : Fin 12) (d : Dev) : Nat := (d.metro.meter[k]).totD / 2 ^ 32
def returned (k : Fin 12) (d : Dev) : Nat := (d.metro.meter[k]).totR / 2 ^ 32

/-- Whether an outlet state stands from CABLE_CHECK to WELD_CHECK, or ends a metering session (R226, R230). -/
def sessionState (c : Nat) : Bool := 3 ≤ c && c ≤ 8
def endsSession (c : Nat) : Bool := c == 9 || c == 10 || c == 0 || c == 11

/-- OUTLET_STATUS_COPY (R225, R226). -/
def execOutletStatusCopy (k : Fin 12) (state : Fin 12) (time : Nat) (holder : Bool) (s : State) : Host.Outcome State Fault Refusal :=
  let d := s.dev
  done s (if !metering d then d else onMeter k (fun x =>
    let was := match x.copy with | some (c, _, _) => sessionState c | none => false
    { x with copy := some (state.val, time, holder),
             opening := if state = 3 ∧ !was ∧ x.session = none then some (time, holder)
                        else if endsSession state.val ∧ x.session = none then none else x.opening,
             closing := if endsSession state.val ∧ x.session.isSome ∧ x.closing = none then some time else x.closing }) d)

/-- A metering session opened. -/
def openSession (k : Fin 12) (role : MRole) (late : Bool) (at_ number : Nat) (d : Dev) : Dev :=
  let x : MSession := ⟨number, role, late, at_, delivered k d, returned k d, nat d 0x3800 0x0F, none, 0, 0, false, !paired k d, false⟩
  onMeter k (fun m => { m with opening := none, closing := none, session := some x }) d

/-- The first interval boundary after an instant. -/
def boundaryAfter (t : Nat) : Nat := (t / ms 1 + 1) * ms 1
/-- Whether the life cycle lets a metering session open (R247, Table 15.1). -/
def mayMeter (d : Dev) : Bool := lifeOf d == 1 || lifeOf d == 2 || lifeOf d == 3

/-- METERING_SESSION_OPEN (R226, R227). -/
def execMeteringSessionOpen (k : Fin 12) (s : State) : Host.Outcome State Fault Refusal :=
  let d := s.dev
  done s (match (if metering d && mayMeter d then (d.metro.meter[k]).opening else none) with
    | some (t, holder) =>
      if holder || d.metro.aligned then
        let b := boundaryAfter t
        openSession k (if holder then .meter else .witness) false b (nat d (outIdx k 0) 0x09) (closeTo b (reachSite b d))
      else d
    | none => d)

/-- The record kind of a session's role (Table 8.6). -/
def kindOf : MRole → Nat
  | .meter => 1 | .witness => 2 | .handover => 3 | .continuation => 5

/-- A record of a session that ends, with its flags (Table 8.7): `cut` says that it was closed at a power failure,
`interrupted` that a periodic save closed it; `bound` in mWh is B of R243. -/
def recordOf (k : Fin 12) (x : MSession) (at_ del ret power : Nat) (cut interrupted : Bool) (bound : Rat) (d : Dev) : MRecord :=
  let gapBound := maxPower k d * (x.gap : Nat) / 3600000
  let b := bound + gapBound
  let nonBilling := Config.indicative || lifeOf d == 2 || x.unpaired
  let bits := [nonBilling, x.marker.isSome, x.late, interrupted, decide (0 < x.gap), x.tempSub, x.unpaired, x.flowCut, !on d (meterCfg k) 0x01, cut]
  ⟨k, if interrupted then 4 else kindOf x.role, (bits.zipIdx).foldl (fun a p => if p.1 then a + 2 ^ p.2 else a) 0, x, at_, del, ret, power,
   ceilDiv b.num.toNat b.den, bytesOf (getVal d (key (meterCfg k) 0x07)), bytesOf (getVal d (key (meterCfg k) 0x08))⟩

/-- METERING_SESSION_CLOSE (R226): the end of the interval of the ending copy. -/
def execMeteringSessionClose (k : Fin 12) (s : State) : Host.Outcome State Fault Refusal :=
  let d := s.dev
  done s (match (d.metro.meter[k]).closing, (d.metro.meter[k]).session with
    | some t, some x =>
      if !metering d then d else
      let b := boundaryAfter t
      let d := closeTo b (reachSite b d)
      let x := (d.metro.meter[k]).session.getD x
      let r := recordOf k x b (delivered k d) (returned k d) (nat d 0x3800 0x0F) false false 0 d
      onMetro (fun m => { m with toSign := m.toSign ++ [r] }) (onMeter k (fun x => { x with session := none, closing := none }) d)
    | _, _ => d)

/-- The module takes the lease: every open witness session becomes a handover (R228). -/
def meterTakeOver (d : Dev) : Dev :=
  (all 12).foldl (fun d k => onSession k (fun x => if x.role = .witness then { x with role := .handover, marker := some (siteTime d) } else x) d) d

/-- LATE_START_WITNESS (R229): at the first accepted frame after the alignment step. -/
def execLateStartWitness (k : Fin 12) (s : State) : Host.Outcome State Fault Refusal :=
  let d := s.dev
  let x := d.metro.meter[k]
  done s (match x.copy with
    | some (c, _, holder) =>
      if metering d && mayMeter d && sessionState c && !holder && d.metro.aligned && x.session.isNone && x.opening.isNone && decide (0 < x.goodRun)
      then openSession k .witness true (siteTime d) (nat d (outIdx k 0) 0x09) d else d
    | none => d)

/-! Signed records. -/

/-- The numbers of a record in the order of Tables 8.7 and 8.8. -/
def recordNumbers (seq : Nat) (r : MRecord) (d : Dev) : List Int :=
  [seq, r.outlet.val, r.kind, r.flags, r.session.number, r.session.startD, r.session.startR, r.endD, r.endR, r.session.openedAt, r.closedAt,
   r.session.startPower, r.endPower, r.session.marker.getD 0, r.session.gap, r.bound, r.session.below,
   num d 0x3800 0x13, num d 0x3800 0x14, num d (meterCfg r.outlet) 0x02,
   ((d.metro.meter[r.outlet]).head[(2 : Fin 8)].getD 0 : Nat), ((d.metro.meter[r.outlet]).head[(3 : Fin 8)].getD 0 : Nat), Config.serial.toNat,
   num d 0x3800 0x03, nat d 0x1B10 0x02, nat d 0x1B13 0x02, num d (meterCfg r.outlet) 0x03]
/-- The characters of a text. -/
def ascii (t : String) : List Byte := t.toUTF8.toList.map (fun b => BitVec.ofNat 8 b.toNat)
/-- The record text (R232, R233): OCMF, the payload section, and the signature over its SHA-256. -/
def recordText (seq : Nat) (r : MRecord) (key : Nat) (d : Dev) : List Byte :=
  let p := Config.recordText (recordNumbers seq r d) r.ident r.evse
  ascii "OCMF|" ++ p ++ ascii "|" ++ Config.recordSignature (Config.metrologyKey key) (Config.sha256 p)
/-- A record as its tenon message carries it (R231). -/
def recordPayload (seq : Nat) (r : MRecord) (key : Nat) (d : Dev) : List Byte :=
  let text := recordText seq r key d
  leBytes 4 seq ++ leBytes 1 r.outlet.val ++ leBytes 1 r.kind ++ leBytes 2 r.flags ++ leBytes 4 r.session.number ++ leBytes 2 text.length
    ++ leBytes 2 0 ++ text
/-- A record put into lane FH (R31), counted by its sequence number. -/
def sendRecord (seq : Nat) (p : List Byte) (d : Dev) : Dev := enqueue .fh (tenonBytes 0x10 0 0 2 seq p d) d

/-- RECORD_SIGNED (R233, R234): the next closed session is signed with the island's key and placed in the ring; an island without a key
signs nothing (Tables 15.1 and 15.2). -/
def execRecordSigned (s : State) : Host.Outcome State Fault Refusal :=
  let d := s.dev
  done s (match d.metro.toSign, d.metro.keyNo with
    | r :: rest, some n =>
      if !up 2 d || decide (64 ≤ d.metro.ring.length) then d else
      let seq := nat d 0x3800 0x0C
      let p := recordPayload seq r n d
      sendRecord seq p (bump 0x3800 0x0B (bump 0x3800 0x0C
        (onMetro (fun m => { m with toSign := rest, ring := m.ring ++ [⟨seq, p, none⟩] }) d)))
    | _, _ => d)

/-- METERING_RECORD (R31): the host island stores the record and acknowledges it. -/
def execMeteringRecord (m : TenonMsg) (s : State) : Host.Outcome State Fault Refusal :=
  let (d, ok) := receive .fh m s.dev
  done s (if ok && hdrType m.header == 0x10 && up 0 d then
    let d := if d.metro.stored.contains m.payload then d else onMetro (fun x => { x with stored := x.stored ++ [m.payload] }) d
    enqueue .hf (tenonBytes 0x11 0 0 2 0 (m.payload.take 4) d) d
  else d)

/-- METERING_RECORD_ACKNOWLEDGE (R31). -/
def execMeteringRecordAcknowledge (m : TenonMsg) (s : State) : Host.Outcome State Fault Refusal :=
  let (d, ok) := receive .hf m s.dev
  done s (if ok && hdrType m.header == 0x11 && up 2 d then
    onMetro (fun x => { x with ring := x.ring.filter (fun r => r.seq != leNat (m.payload.take 4)) }) d else d)

/-- METERING_RECORD_RETRANSMIT (R31): 100 ms without an acknowledge since the lane took the record. -/
def execMeteringRecordRetransmit (seq : Nat) (s : State) : Host.Outcome State Fault Refusal :=
  let d := s.dev
  done s (match d.metro.ring.find? (fun r => r.seq == seq) with
    | some r => match r.sentAt with
      | some t =>
        if !up 2 d then d else
        sendRecord seq r.payload
          (onMetro (fun x => { x with ring := x.ring.map (fun q => if q.seq = seq then { q with sentAt := none } else q) }) (reach (t + ms 100) d))
      | none => d
    | none => d)

/-! Saves and starts. -/

/-- A save block of the present state (R241). -/
def saveBlock (final : Bool) (d : Dev) : SaveBlock :=
  let m := d.metro
  ⟨m.saveSeq + 1, final, siteTime d, m.meter.map (fun x => (x.totD, x.totR)), m.meter.map (fun x => (x.remD, x.remR)), m.meter.map (·.session),
   m.pulse.map (·.residue), m.pulse.map (·.backlog), nat d 0x3800 0x0C, nat d 0x3800 0x0F⟩
/-- A save written to the next slot. -/
def writeSave (final : Bool) (d : Dev) : Dev :=
  let b := saveBlock final d
  setNum 0x3800 0x0D (siteTime d) (onMetro (fun m => { m with
    saves := upd m.saves (if b.seq % 2 = 0 then 0 else 1) (fun _ => some b), saveSeq := b.seq }) d)

/-- PERIODIC_SAVE (R241, R242). -/
def execPeriodicSave (s : State) : Host.Outcome State Fault Refusal :=
  let d := s.dev
  done s (if metering d && d.metro.warned.isNone then writeSave false (reach (nextMultiple 25000000 d) d) else d)

/-- FINAL_WRITE_START (R242): every outlet quiet for 20 frames, or 100 ms after the warning; an outlet whose link is down has no frame that
could show a current (DESIGN CHOICE, log 217). Every sample taken until then is in the write. -/
def execFinalWriteStart (s : State) : Host.Outcome State Fault Refusal :=
  let d := s.dev
  done s (match d.metro.warned with
    | some t =>
      if !metering d || d.metro.finalDone then d else
      let quiet := d.metro.meter.toList.all (fun x => decide (20 ≤ x.quiet) || !x.link)
      let d := if quiet then d else reach (t + ms 100) d
      let d := (all 12).foldl (fun d k => if (d.metro.meter[k]).quiet = 0 ∧ (d.metro.meter[k]).link then onSession k (fun x => { x with flowCut := true }) d else d) d
      let d := (all 12).foldl (fun d k => onMeter k (fun x => { x with acc := [] }) ((d.metro.meter[k]).acc.foldl (endInterval k) d)) d
      let (span, d) := freeNat d
      let d := onMetro (fun m => { m with finalDone := true }) (writeSave true d)
      { d with sys := { d.sys with power := { d.sys.power with finalAt := some (d.time.now + span % (ms 8 + 1)) } } }
    | none => d)

/-- The valid save slot with the higher sequence. -/
def lastSave (d : Dev) : Option SaveBlock := match d.metro.saves[(0 : Fin 2)], d.metro.saves[(1 : Fin 2)] with
  | some a, some b => some (if a.seq < b.seq then b else a)
  | some a, none => some a
  | none, b => b

/-- The metrology island's start (R243): the totals of the last save, every session left open in it closed. `unbroken` says
that the time base ran on. -/
def startMetering (unbroken : Bool) (d : Dev) : Dev :=
  let d := setNum 0x3800 0x01 1 (onMetro (fun m => { m with
    interval := siteTime d / ms 1, warned := none, finalDone := false, window := none,
    meter := m.meter.map (fun x => { x with
      link := false, missRun := 0, goodRun := 0, expect := none, mark := none, dt := 3125, head := tab (fun _ => none), asked := 0, acc := [],
      feedV := none, feedI := none, fed := false, quiet := 0, session := none, opening := none, closing := none }) }) d)
  match lastSave d with
  | none => d
  | some b =>
    let d := onMetro (fun m => { m with
      saveSeq := b.seq, pulse := tab (fun p => ⟨b.residues[p], b.backlogs[p], none, []⟩),
      meter := tab (fun k => { m.meter[k] with totD := (b.totals[k]).1, totR := (b.totals[k]).2, remD := (b.rems[k]).1, remR := (b.rems[k]).2 }) }) d
    let d := if b.final then d else auditAlways 7 (bump 0x3800 0x0E d)
    (all 12).foldl (fun d k => match b.sessions[k] with
      | none => d
      | some x =>
        let bound : Rat := if b.final then 0 else
          maxPower k d * (if unbroken then ((siteTime d - b.at_ : Nat) : Rat) / 100000000 else 37 / 100) * 1000 / 3600
        let r := recordOf k x b.at_ ((b.totals[k]).1 / 2 ^ 32) ((b.totals[k]).2 / 2 ^ 32) b.powerUps b.final (!b.final) bound d
        onMetro (fun m => { m with toSign := m.toSign ++ [r] }) d) d

/-- Whether the metrology island is starting. -/
def meterStarting (d : Dev) : Bool := up 2 d && num d 0x3800 0x01 == 0

/-- METROLOGY_START_CLOSE (R243): the start after a power loss. -/
def execMetrologyStartClose (s : State) : Host.Outcome State Fault Refusal :=
  let d := s.dev
  done s (if meterStarting d then bump 0x3800 0x0F (startMetering false d) else d)

/-- METROLOGY_RESTART_CONTINUATION (R230): the island has restarted while its module kept running. -/
def execMetrologyRestartContinuation (s : State) : Host.Outcome State Fault Refusal :=
  let d := s.dev
  done s (if meterStarting d then
    let before := lastSave d
    let d := startMetering true d
    (all 12).foldl (fun d k => match (d.metro.meter[k]).copy with
      | some (c, _, _) =>
        if sessionState c && mayMeter d then
          let number := match before.bind (fun b => b.sessions[k]) with
            | some x => x.number
            | none => nat d (outIdx k 0) 0x09
          openSession k .continuation false (siteTime d) number d
        else d
      | none => d) d
  else d)

/-! Seal. -/

/-- The outlet that a seal-relevant entry concerns (R244). -/
def sealOutlet (idx : Nat) (d : Dev) : Option (Fin 12) :=
  let n := if 0x3850 ≤ idx then nat d idx 0x01 else idx - 0x3830
  if h : n < 12 then some ⟨n, h⟩ else none
/-- Whether a metering session is open on the outlet concerned. -/
def meteringOpen (k : Option (Fin 12)) (d : Dev) : Bool := match k with
  | some k => (d.metro.meter[k]).session.isSome
  | none => false
/-- The conditions of a seal-relevant write that fail, as abort codes (R244). -/
def sealChecks (idx : Nat) (d : Dev) : List Nat :=
  (if d.metro.window.isNone then [0x38000010] else []) ++ (if 960 ≤ auditUsed d then [0x38000012] else [])
    ++ (if meteringOpen (sealOutlet idx d) d then [0x38000014] else [])
/-- An accepted seal-relevant write enters the audit trail and restarts the window's 600 s (R244, R245). -/
def sealed (kind session idx sub : Nat) (new : DVal) (d : Dev) : Dev :=
  onMetro (fun m => { m with window := some d.time.now }) (audit kind session idx sub (getVal d (key idx sub)) new d).1

/-- Whether a pulse output keeps the bound of R237 and R240 for an outlet, an energy and a width. -/
def pulseBound (p : Fin 8) (outlet energy width : Nat) (power : Fin 12 → Rat) : Bool :=
  if h : outlet < 12 then
    let fmax : Rat := if p.val < 4 then min 25 (500 / (width : Nat)) else 10000
    decide (power ⟨outlet, h⟩ / ((36 / 10) * fmax) * (if p.val < 4 then 1 else 1000) ≤ (energy : Rat))
  else true
/-- The bound as the entries stand, with one outlet's power replaced. -/
def pulsesHold (power : Fin 12 → Rat) (d : Dev) : Bool :=
  (all 8).all (fun p => pulseBound p (nat d (pulseIdx p) 0x01) (nat d (pulseIdx p) 0x03) (nat d (pulseIdx p) 0x04) power)

/-- The metrology window's opening command (R244). -/
def openWindow (session : Nat) (d : Dev) : Dev :=
  let d := if d.metro.window.isSome then d else bump 0x3800 0x06 (audit 3 session 0 0 (.num 0) (.num 0) d).1
  onMetro (fun m => { m with window := some d.time.now }) d
/-- The window closes. -/
def shutWindow (session : Nat) (d : Dev) : Dev :=
  if d.metro.window.isSome then onMetro (fun m => { m with window := none }) (audit 4 session 0 0 (.num 0) (.num 0) d).1 else d

/-- METROLOGY_WINDOW_EXPIRY (R244): 600 s. -/
def execMetrologyWindowExpiry (s : State) : Host.Outcome State Fault Refusal :=
  let d := s.dev
  done s (match d.metro.window with
    | some t => shutWindow 0 (reach (t + sec 600) d)
    | none => d)

/-- The pair command (R217): the identity that the head reports. -/
def pairHead (k : Fin 12) (session : Nat) (d : Dev) : Dev :=
  let id : Int := ((d.metro.meter[k]).head[(4 : Fin 8)].getD 0 : Nat)
  setNum (meterCfg k) 0x05 id (sealed 2 session (meterCfg k) 0x05 (.num id) d)

end Sys2Proof.Machine
end

