-- ==== Sys2Proof/Machine/SafetyIsland.lean ====
section
/-! DEFINITION. The safety island: inputs, instances, outputs, Ridge connections and the configuration transaction (R250 to
R293). -/
namespace Sys2Proof.Machine

/-- The safety island changed. -/
def onSafety (f : Safety → Safety) (d : Dev) : Dev := { d with safety := f d.safety }
def onInput (n : Fin 8) (f : SafetyIn → SafetyIn) (d : Dev) : Dev := onSafety (fun s => { s with input := upd s.input n f }) d
def onCore (c : Fin 2) (f : Core → Core) (d : Dev) : Dev := onSafety (fun s => { s with core := upd s.core c f }) d
def onConsumer (c : Fin 16) (f : Consumer → Consumer) (d : Dev) : Dev := onSafety (fun s => { s with consumer := upd s.consumer c f }) d
def onProducer (p : Fin 8) (f : Producer → Producer) (d : Dev) : Dev := onSafety (fun s => { s with producer := upd s.producer p f }) d

/-- Whether the safety island is in RUN, and whether it is locked (0x4000.01). -/
def safetyRuns (d : Dev) : Bool := up 3 d && num d 0x4000 0x01 == 1
def safetyLocked (d : Dev) : Bool := num d 0x4000 0x01 == 2

/-- Entries of an input, a consumer and a producer connection. -/
def inIdx (n : Fin 8) : Nat := 0x4020 + n.val
def conIdx (c : Fin 16) : Nat := 0x4040 + c.val
def prodIdx (p : Fin 8) : Nat := 0x4050 + p.val

/-- Whether an instance is in use (R252): SF2 instances are 0 to 11, SF1 instances 12 to 15. -/
def inUse (i : Fin 16) (d : Dev) : Bool := if i.val < 12 then bit (nat d 0x4030 0x01) i.val else bit (nat d 0x4030 0x02) (i.val - 12)
/-- Whether an instance resets manually. -/
def manual (i : Fin 16) (d : Dev) : Bool := if i.val < 12 then bit (nat d 0x4030 0x03) i.val else bit (nat d 0x4030 0x04) (i.val - 12)
/-- Whether a scope pair, SF2 mask and SF1 mask, holds an instance. -/
def hasScope (sf2 sf1 : Nat) (i : Fin 16) : Bool := if i.val < 12 then bit sf2 i.val else bit sf1 (i.val - 12)
/-- Whether an input serves an instance, and whether a consumer connection does. -/
def inScope (n : Fin 8) (i : Fin 16) (d : Dev) : Bool := hasScope (nat d (inIdx n) 0x04) (nat d (inIdx n) 0x05) i
def conScope (c : Fin 16) (i : Fin 16) (d : Dev) : Bool := on d (conIdx c) 0x01 && hasScope (nat d (conIdx c) 0x06) (nat d (conIdx c) 0x07) i

/-- Whether an input's recognised channels demand (Table 9.3). -/
def inputDemand (n : Fin 8) (d : Dev) : Bool :=
  let ch := (d.safety.input[n]).closed
  match nat d (inIdx n) 0x01 with
  | 1 | 3 => !(ch[(0 : Fin 2)] && ch[(1 : Fin 2)])
  | 2 => !(ch[(0 : Fin 2)] && !ch[(1 : Fin 2)])
  | _ => false

/-- An input demands by its channels, or by its fault (R262). -/
def inputActs (n : Fin 8) (d : Dev) : Bool := inputDemand n d || (d.safety.input[n]).fault

/-- The demand sources of an instance, by the bits of 0x4003 and 0x4004 (R266). -/
def sources (i : Fin 16) (d : Dev) : Nat :=
  let s := d.safety
  let ins := maskOf (fun n : Fin 8 => inScope n i d && inputActs n d)
  let con (c : Fin 16) : Bool :=
    let x := s.consumer[c]
    let n := leNat x.data
    conScope c i d && (x.state != .running || x.failSafe || !(if i.val < 12 then bit n i.val else bit n (16 + (i.val - 12))))
  let base := ins + 256 * maskOf con + (if s.outFault[i] then 2 ^ 24 else 0)
  if h : i.val < 12 then base + (if s.contFault[(⟨i.val, h⟩ : Fin 12)] then 2 ^ 25 else 0)
  else
    let u := i.val - 12
    base + (if (all 12).any (fun x => x.val / 3 == u && s.follow[x]) then 2 ^ 25 else 0)
      + (if on d 0x4030 0x07 && isStale .safetyFeed d then 2 ^ 26 else 0)

/-- Whether an SF1 instance still waits for a guard's start-up test (R264). -/
def testPending (i : Fin 16) (d : Dev) : Bool :=
  decide (12 ≤ i.val) && (all 8).any (fun n => nat d (inIdx n) 0x01 == 3 && inScope n i d && !(d.safety.input[n]).testSeen)

/-- The order of restriction of the reported state (R267). -/
def rankOf : Inst → Nat
  | .demand => 0 | .currentWait => 1 | .ready => 2 | .enabled => 3
/-- The more restrictive of the two cores' copies. -/
def instState (i : Fin 16) (d : Dev) : Inst :=
  let a := (d.safety.core[(0 : Fin 2)]).inst[i]
  let b := (d.safety.core[(1 : Fin 2)]).inst[i]
  if rankOf a ≤ rankOf b then a else b

/-- The bits of the safety stop channel (R256): the stop bits of the outlets and the torque-off bits of the units. -/
def stopBit (i : Fin 16) (d : Dev) : Bool :=
  num d 0x4000 0x01 != 1 || (inUse i d && (all 2).any (fun c => (d.safety.core[c]).inst[i] != .enabled))
def stopBits (d : Dev) : Vector Bool 12 := tab (fun j => stopBit ⟨j.val, by omega⟩ d)
def torqueBits (d : Dev) : Vector Bool 4 := tab (fun u => stopBit ⟨12 + u.val, by omega⟩ d)

/-- Whether a safety output's switch conducts: commanded, refreshed and not in a dark pulse. -/
def switchOn (c : Fin 2) (i : Fin 16) (d : Dev) : Bool :=
  let x := d.safety.core[c]
  up 3 d && x.pumped && x.on[i] && (x.dark[i]).isNone

/-! Inputs. -/

/-- A reset event of a source (R265): it acts on every instance in scope that is READY. -/
def resetEvent (scope : Fin 16 → Bool) (d : Dev) : Dev :=
  (all 2).foldl (fun d c => onCore c (fun x => { x with reset := tab (fun i => x.reset[i] || (scope i && x.inst[i] == .ready)) }) d) d
/-- Whether a closure of a reset source lasted from 0.1 s to 3 s. -/
def resetLength (since now : Nat) : Bool := decide (since + ms 100 ≤ now) && decide (now ≤ since + sec 3)

/-- A channel's sample: recognised once it has read the same level for the filter time (R261). -/
def sampleChannel (f : Nat) (v : Bool) (i : Fin 2) (x : SafetyIn) : SafetyIn :=
  let run := if x.level[i] = v then x.run[i] + 1 else 1
  { x with level := upd x.level i (fun _ => v), run := upd x.run i (fun _ => min run 16),
           closed := if f ≤ run then upd x.closed i (fun _ => v) else x.closed }

/-- An input after its sample (R261 to R265). -/
def sampleInput (n : Fin 8) (a b : Bool) (d : Dev) : Dev :=
  let f := nat d (inIdx n) 0x02
  let type := nat d (inIdx n) 0x01
  let before := inputDemand n d
  let d := onInput n (fun x => sampleChannel f b 1 (sampleChannel f a 0 x)) d
  let x := d.safety.input[n]
  let ca := x.closed[(0 : Fin 2)]
  let cb := x.closed[(1 : Fin 2)]
  let wrong := if type = 2 then ca == cb else if type = 0 then false else ca != cb
  let fullDemand := if type = 2 then !ca && cb else if type = 4 then ca && cb else !ca && !cb
  let fullClear := if type = 2 then ca && !cb else if type = 4 then !ca && !cb else ca && cb
  let dem := inputDemand n d
  let closedNow := ca && cb
  let d := match x.resetAt with
    | some t => if type = 4 ∧ !closedNow ∧ !x.fault ∧ resetLength t d.time.now then resetEvent (fun i => inScope n i d) d else d
    | none => d
  let d := if dem && !before then
    onSafety (fun s => { s with demandAt := tab (fun i => if inScope n i d && s.demandAt[i] == none && instState i d == .enabled then some d.time.now else s.demandAt[i]) }) d
    else d
  onInput n (fun x => { x with
    differs := if wrong then some (x.differs.getD d.time.now) else none,
    stage := if !x.fault then 0 else if fullDemand then 1 else x.stage,
    fault := x.fault && !(x.stage == 1 && fullClear),
    testOpen := x.testOpen || dem, testSeen := x.testSeen || (x.testOpen && !dem),
    resetAt := if type = 4 ∧ closedNow then some (x.resetAt.getD d.time.now) else none }) d

/-- A feedback input's sample, filtered for the debounce time (R263). -/
def sampleFeedback (t now : Nat) (v : Bool) (c : Contact) : Contact :=
  let c := contactRaw v now c
  if c.since + t ≤ now then { c with deb := v } else c

/-- SAFETY_INPUT_SAMPLE (R261, R263): every 250 µs. -/
def execSafetyInputSample (a b : BitVec 8) (fb : BitVec 12) (s : State) : Host.Outcome State Fault Refusal :=
  let d := s.dev
  done s (if up 3 d then
    let d := reach (nextMultiple (us 250) d) d
    let d := (all 8).foldl (fun d n => sampleInput n (a.getLsbD n.val) (b.getLsbD n.val) d) d
    onSafety (fun x => { x with fb := tab (fun j => sampleFeedback (debounce d) d.time.now (fb.getLsbD j.val) x.fb[j]) }) d
  else d)

/-- DISCREPANCY_TIMEOUT (R262). -/
def execDiscrepancyTimeout (n : Fin 8) (s : State) : Host.Outcome State Fault Refusal :=
  let d := s.dev
  done s (match (d.safety.input[n]).differs with
    | some t =>
      if (d.safety.input[n]).fault || !up 3 d then d else
      let d := reach (t + ms (nat d (inIdx n) 0x03)) d
      raise1 3 .safetyInputFault n.val (onInput n (fun x => { x with fault := true, stage := 0 }) d)
    | none => d)

/-! Outputs. -/

/-- An output fault (R257): latched, both switches commanded off, the instance in DEMAND at once. -/
def outputFault (core : Fin 2) (i : Fin 16) (d : Dev) : Dev :=
  let off (x : Core) : Core := { x with on := upd x.on i (fun _ => false), inst := upd x.inst i (fun _ => .demand), dark := upd x.dark i (fun _ => none) }
  let d := onSafety (fun s => { s with outFault := upd s.outFault i (fun _ => true), core := s.core.map off }) d
  raise 3 .safetyOutputFault [BitVec.ofNat 8 i.val, BitVec.ofNat 8 core.val] d

/-- The readback of one core's switches (R257). -/
def readback (core : Fin 2) (read : BitVec 16) (d : Dev) : Dev :=
  (all 16).foldl (fun d i =>
    let x := d.safety.core[core]
    let bad := switchOn core i d != read.getLsbD i.val
    let n := if bad then x.mismatch[i] + 1 else 0
    let d := onCore core (fun x => { x with mismatch := upd x.mismatch i (fun _ => min 2 n) }) d
    if 2 ≤ n ∧ !d.safety.outFault[i] then outputFault core i d else d) d

/-- DARK_PULSE_TEST (R258): once per dark-pulse interval; `took` is how many µs the readback took to read off, none while it has not; the two switches of
an output stand at least 50 ms apart. -/
def execDarkPulseTest (core : Fin 2) (o : Fin 16) (took : Option Nat) (s : State) : Host.Outcome State Fault Refusal :=
  let d := s.dev
  let x := d.safety.core[core]
  let apart := match ((d.safety.core[(if core = 0 then 1 else 0 : Fin 2)]).lastDark[o]) with
    | some t => decide (t + ms 50 ≤ d.time.now)
    | none => true
  done s (if !(safetyRuns d && x.on[o] && apart && (x.dark[o]).isNone) then d else
    let d := match x.lastDark[o] with
      | some t => reach (t + sec (nat d 0x4030 0x06)) d
      | none => d
    let d := onCore core (fun x => { x with lastDark := upd x.lastDark o (fun _ => some d.time.now) }) d
    match took with
    | some n =>
      if n ≤ 300 then
        setNum 0x4080 0x05 (max (num d 0x4080 0x05) n) (bump 0x4080 0x03 (reach (d.time.now + us n) d))
      else onCore core (fun x => { x with dark := upd x.dark o (fun _ => some d.time.now) }) d
    | none => onCore core (fun x => { x with dark := upd x.dark o (fun _ => some d.time.now) }) d)

/-- DARK_PULSE_TIMEOUT (R258): back on at 300 µs, and an output fault. -/
def execDarkPulseTimeout (core : Fin 2) (o : Fin 16) (s : State) : Host.Outcome State Fault Refusal :=
  let d := s.dev
  done s (match (d.safety.core[core]).dark[o] with
    | some t =>
      let d := reach (t + us 300) d
      outputFault core o (bump 0x4080 0x03 (bump 0x4080 0x04 (onCore core (fun x => { x with dark := upd x.dark o (fun _ => none) }) d)))
    | none => d)

/-- CHARGE_PUMP_TIMEOUT (R254): two refreshes missed. -/
def execChargePumpTimeout (core : Fin 2) (s : State) : Host.Outcome State Fault Refusal :=
  let d := s.dev
  done s (onCore core (fun x => { x with pumped := false }) (reach ((d.safety.core[core]).lastCycle + ms 2) d))

/-! Ridge frames. -/

/-- The CRC of a Ridge frame (Table 9.8). -/
def ridgeCrc (b : List Byte) : Nat := (~~~ crcRun 0x82F63B78 0xFFFFFFFF b).toNat
/-- A Ridge frame (Table 9.8). -/
def ridgeFrame (kind flags seq time id : Nat) (data : List Byte) : List Byte :=
  let body := leBytes 1 (16 + kind) ++ leBytes 1 flags ++ leBytes 2 seq ++ leBytes 1 time ++ leBytes 1 data.length ++ leBytes 4 id ++ data
  body ++ leBytes 4 (ridgeCrc body)
/-- Fields of a Ridge frame. -/
def ridgeByte (b : List Byte) (i : Nat) : Nat := (b.getD i 0).toNat
def ridgeSeq (b : List Byte) : Nat := leNat ((b.drop 2).take 2)
def ridgeRestart (b : List Byte) : Bool := bit (ridgeByte b 1) 7

/-- A frame with its routing prefix sent to a network (R277, Table 9.9). -/
def ridgeSend (slot network address : Nat) (f : List Byte) (d : Dev) : Dev :=
  enqueue .fh (tenonBytes 0x04 0 0 3 slot (leBytes 1 network ++ leBytes 1 slot ++ leBytes 2 address ++ leBytes 4 0 ++ f) d) d

/-- Checks 1 to 5 of R278 against a connection: none passes all, `some 0` fails 1 or 2. -/
def ridgeChecks (kind length : Nat) (idx : Nat) (b : List Byte) (d : Dev) : Option Nat :=
  let l := ridgeByte b 5
  if b.length ≠ 14 + l ∨ l ≠ length then some 0
  else if ridgeByte b 0 ≠ 16 + kind then some 0
  else if leNat (b.drop (10 + l)) ≠ ridgeCrc (b.take (10 + l)) then some 3
  else if leNat ((b.drop 6).take 4) ≠ nat d idx 0x04 then some 4
  else if ridgeByte b 4 ≠ nat d idx 0x05 then some 5
  else none

/-- A consumer connection faults (R278, R279). -/
def consumerFault (c : Fin 16) (cause : Nat) (d : Dev) : Dev :=
  bump (conIdx c) 0x09 (setNum (conIdx c) 0x0A cause
    (onConsumer c (fun x => { x with state := .fault, faultAt := d.time.now, ackDue := none, resetAt := none }) d))

/-- A frame is accepted on a consumer connection (R278 to R280, R265). -/
def consumerAccept (c : Fin 16) (b : List Byte) (d : Dev) : Dev :=
  let data := (b.drop 10).take 4
  let reset := bit (ridgeByte data 3) 0
  let x := d.safety.consumer[c]
  let d := match x.resetAt with
    | some t => if !reset ∧ resetLength t d.time.now then resetEvent (fun i => conScope c i d) d else d
    | none => d
  onConsumer c (fun x => { x with
    state := .running, lastSeq := ridgeSeq b, lastFrame := b, lastAt := d.time.now, data := data, failSafe := bit (ridgeByte b 1) 6,
    ackDue := some (ridgeSeq b, ridgeRestart b), resetAt := if reset then some (x.resetAt.getD d.time.now) else none }) d

/-- A frame on a consumer connection (R278). -/
def consumerFrame (c : Fin 16) (b : List Byte) (d : Dev) : Dev :=
  if !on d (conIdx c) 0x01 then d else
  let x := d.safety.consumer[c]
  match x.state with
  | .fault => d
  | st => match ridgeChecks 1 4 (conIdx c) b d with
    | some 0 => d
    | some n => consumerFault c n d
    | none =>
      let next := if x.lastSeq = 0xFFFF then 1 else x.lastSeq + 1
      if st = .waiting then
        if ridgeRestart b ∧ ridgeSeq b = 1 then consumerAccept c b d else consumerFault c 6 d
      else if b = x.lastFrame then onConsumer c (fun x => { x with ackDue := some (ridgeSeq b, ridgeRestart b) }) d
      else if !ridgeRestart b ∧ ridgeSeq b = next then consumerAccept c b d
      else consumerFault c 6 d

/-- RIDGE_FRAME_TO_SAFETY (R277, R278): the prefix's slot names the consumer connection. -/
def execRidgeFrameToSafety (m : TenonMsg) (s : State) : Host.Outcome State Fault Refusal :=
  let (d, ok) := receive .hf m s.dev
  done s (if ok && hdrType m.header == 0x03 && up 3 d then
    let slot := ridgeByte m.payload 1
    if h : slot < 16 then consumerFrame ⟨slot, h⟩ (m.payload.drop 8) d else d
  else d)

/-- RIDGE_WATCHDOG (R279). -/
def execRidgeWatchdog (c : Fin 16) (s : State) : Host.Outcome State Fault Refusal :=
  let d := s.dev
  done s (if (d.safety.consumer[c]).state = .running then
    consumerFault c 7 (reach ((d.safety.consumer[c]).lastAt + ms (nat d (conIdx c) 0x05)) d) else d)

/-- RIDGE_FAULT_RECOVERY (R279). -/
def execRidgeFaultRecovery (c : Fin 16) (s : State) : Host.Outcome State Fault Refusal :=
  let d := s.dev
  done s (if (d.safety.consumer[c]).state = .fault then
    onConsumer c (fun x => { x with state := .waiting, lastSeq := 0, lastFrame := [] })
      (reach ((d.safety.consumer[c]).faultAt + ms (nat d (conIdx c) 0x05)) d) else d)

/-- The data that a producer connection sends (Table 9.10). -/
def producedData (d : Dev) : List Byte :=
  leBytes 2 (maskOf (fun j : Fin 12 => inUse ⟨j.val, by omega⟩ d && instState ⟨j.val, by omega⟩ d == .enabled))
    ++ leBytes 1 (maskOf (fun u : Fin 4 => inUse ⟨12 + u.val, by omega⟩ d && instState ⟨12 + u.val, by omega⟩ d == .enabled))
    ++ leBytes 1 (maskOf (fun n : Fin 8 => inputActs n d)) ++ leBytes 1 (nat d 0x4000 0x01) ++ leBytes 1 (if d.safety.permit then 1 else 0)
    ++ leBytes 2 (nat d 0x4000 0x03)

/-- A new frame of a producer connection is sent (R281). -/
def producerSend (p : Fin 8) (restart : Bool) (seq : Nat) (d : Dev) : Dev :=
  let f := ridgeFrame 1 (if restart then 128 else 0) seq (nat d (prodIdx p) 0x05) (nat d (prodIdx p) 0x04) (producedData d)
  ridgeSend (16 + p.val) (nat d (prodIdx p) 0x02) (nat d (prodIdx p) 0x03) f
    (onProducer p (fun x => { x with seq := seq, frame := some f, firstSent := d.time.now, lastSent := d.time.now }) d)

/-- A producer connection at a safety cycle (R281). -/
def producerCycle (d : Dev) (p : Fin 8) : Dev :=
  if !on d (prodIdx p) 0x01 then d else
  let x := d.safety.producer[p]
  match x.state, x.frame with
  | .waiting, none => producerSend p true 1 d
  | .running, none => producerSend p false (if x.seq = 0xFFFF then 1 else x.seq + 1) d
  | .fault, _ => if x.lastSent + ms (nat d (prodIdx p) 0x05) ≤ d.time.now then producerSend p true 1 d else d
  | _, some f => ridgeSend (16 + p.val) (nat d (prodIdx p) 0x02) (nat d (prodIdx p) 0x03) f (onProducer p (fun x => { x with lastSent := d.time.now }) d)

/-- A producer connection faults and sends its restart frame (R281). -/
def producerFault (p : Fin 8) (d : Dev) : Dev :=
  producerSend p true 1 (bump (prodIdx p) 0x07 (onProducer p (fun x => { x with state := .fault }) d))

/-- An acknowledge on a producer connection (R281). -/
def producerAck (p : Fin 8) (b : List Byte) (d : Dev) : Dev :=
  if !on d (prodIdx p) 0x01 then d else
  let x := d.safety.producer[p]
  if b = x.lastAck then d else
  match ridgeChecks 2 0 (prodIdx p) b d with
  | some 0 => d
  | some _ => if x.state = .fault then d else producerFault p d
  | none =>
    if x.frame.isSome ∧ ridgeSeq b = x.seq then onProducer p (fun x => { x with state := .running, frame := none, lastAck := b }) d
    else if x.state = .fault then d else producerFault p d

/-- RIDGE_ACKNOWLEDGE (R281). -/
def execRidgeAcknowledge (m : TenonMsg) (s : State) : Host.Outcome State Fault Refusal :=
  let (d, ok) := receive .hf m s.dev
  done s (if ok && hdrType m.header == 0x03 && up 3 d then
    let slot := ridgeByte m.payload 1
    if h : 16 ≤ slot ∧ slot < 24 then producerAck ⟨slot - 16, by omega⟩ (m.payload.drop 8) d else d
  else d)

/-- RIDGE_PRODUCER_WATCHDOG (R281). -/
def execRidgeProducerWatchdog (p : Fin 8) (s : State) : Host.Outcome State Fault Refusal :=
  let d := s.dev
  let x := d.safety.producer[p]
  done s (if x.frame.isSome ∧ x.state ≠ .fault then producerFault p (reach (x.firstSent + ms (nat d (prodIdx p) 0x05)) d) else d)

/-- The acknowledges due in a safety cycle (R280). -/
def sendAcks (d : Dev) : Dev :=
  (all 16).foldl (fun d c => match (d.safety.consumer[c]).ackDue with
    | some (seq, restart) =>
      let f := ridgeFrame 2 (if restart then 128 else 0) seq (nat d (conIdx c) 0x05) (nat d (conIdx c) 0x04) []
      ridgeSend c.val (nat d (conIdx c) 0x02) (nat d (conIdx c) 0x03) f (onConsumer c (fun x => { x with ackDue := none }) d)
    | none => d) d

/-! Configuration. -/

/-- The keys of the SAFE entries that the configuration CRC covers, ascending (R286). -/
def safeKeys : List Nat :=
  (List.range 8).flatMap (fun n => (List.range 5).map (fun s => key (0x4020 + n) (s + 1)))
    ++ (List.range 7).map (fun s => key 0x4030 (s + 1))
    ++ (List.range 16).flatMap (fun c => (List.range 7).map (fun s => key (0x4040 + c) (s + 1)))
    ++ (List.range 8).flatMap (fun p => (List.range 5).map (fun s => key (0x4050 + p) (s + 1)))
/-- The configuration CRC over a reading of the SAFE entries (R286). -/
def configCrc (read : Nat → DVal) : Nat :=
  (crc32 (safeKeys.flatMap (fun k => match rowOf (k / 256) (k % 256) with
    | some r => valBytes r.ty (read k)
    | none => []))).toNat
/-- A SAFE entry as the pending set has it, else as it runs. -/
def mergedVal (t : Trans) (d : Dev) (k : Nat) : DVal := (t.pending.lookup k).getD (getVal d k)
/-- The CRC of the pending set merged with the running configuration. -/
def pendingCrc (d : Dev) : Nat := match d.safety.trans with
  | some t => configCrc (mergedVal t d)
  | none => nat d 0x4000 0x03

/-- A change log entry (R292, Table 9.11). -/
def safetyLog (kind session before after : Nat) (d : Dev) : Dev :=
  let body := leBytes 4 d.safety.logSeq ++ leBytes 8 (islandTime 3 d) ++ leBytes 1 kind ++ leBytes 1 session ++ leBytes 2 0
    ++ auditIdentity session d ++ leBytes 4 before ++ leBytes 4 after ++ leBytes 4 0
  let e := body ++ leBytes 4 (crc32 body).toNat
  let full := 256 ≤ d.safety.log.length
  let d := if full then bump 0x4070 0x02 d else d
  onSafety (fun s => { s with log := (if full then s.log.drop 1 else s.log) ++ [e], logSeq := s.logSeq + 1 }) d
/-- An entry with the CRC in force before and after. -/
def safetyLogSame (kind session : Nat) (d : Dev) : Dev := safetyLog kind session (nat d 0x4000 0x03) (nat d 0x4000 0x03) d

/-- Every instance and output at rest, as in START and LOCKED (Table 9.2). -/
def restCores (s : Safety) : Safety :=
  { s with
    core := s.core.map (fun x => { x with
      inst := tab (fun _ => .demand), on := tab (fun _ => false), dark := tab (fun _ => none), reset := tab (fun _ => false),
      mismatch := tab (fun _ => 0), differ := 0 }),
    fbTimer := tab (fun _ => none), demandAt := tab (fun _ => none) }

/-- The island enters START. -/
def enterStart (d : Dev) : Dev := setNum 0x4000 0x01 0 (onSafety restCores d)

/-- A commit takes effect (R291 steps 3 and 4): the pending set runs, the older leaf is written, the island starts. -/
def applyCommit (t : Trans) (d : Dev) : Dev :=
  let d := t.pending.foldl (fun d p => setVal p.1 p.2 d) d
  let (salt, d) := if t.newPassword.isSome then freeNat d else (0, d)
  let pw := match t.newPassword with
    | some p => some (leBytes 16 salt, Config.sha256 (leBytes 16 salt ++ p))
    | none => d.safety.password
  let d := if t.newPassword.isSome then setNum 0x4060 0x08 1 d else d
  let d := onSafety (fun s => { s with
    trans := none, password := pw, leafValid := true,
    consumer := s.consumer.map (fun x => { x with state := .waiting, lastSeq := 0, lastFrame := [], ackDue := none, resetAt := none }),
    producer := s.producer.map (fun x => { x with state := .waiting, seq := 0, frame := none, lastAck := [] }) }) d
  enterStart (bump 0x4000 0x04 (setNum 0x4000 0x03 (configCrc (getVal d)) d))

/-- The island locks (Table 9.2). -/
def lockSafety (cause : Nat) (d : Dev) : Dev :=
  setNum 0x4000 0x01 2 (setNum 0x4000 0x02 (nat d 0x4000 0x02 ||| cause) (onSafety restCores d))

/-- CORE_DISAGREEMENT (R255, Table 9.2): a difference for three cycles of a core, two cycles that the core with the older last cycle has missed
(cause 1), or an uncorrectable memory error (cause 3). -/
def execCoreDisagreement (cause : Fin 4) (s : State) : Host.Outcome State Fault Refusal :=
  let d := s.dev
  let lock (n : Nat) (d : Dev) : Dev := lockSafety n (setNum 0x4000 0x02 0 d)
  done s (if !safetyRuns d then d else match cause with
    | 1 => lock 2 (reach (min (d.safety.core[(0 : Fin 2)]).lastCycle (d.safety.core[(1 : Fin 2)]).lastCycle + ms 2) d)
    | 3 => lock 8 d
    | _ => if d.safety.core.toList.any (fun x => decide (3 ≤ x.differ)) then lock 1 d else d)

/-- SAFETY_SELF_TEST_COMPLETE (Table 9.2): START ends in RUN where both cores pass and a safety leaf is valid. -/
def execSafetySelfTestComplete (pass : Bool) (s : State) : Host.Outcome State Fault Refusal :=
  let d := s.dev
  done s (if !up 3 d || num d 0x4000 0x01 != 0 then d
    else if !pass then lockSafety 16 (setNum 0x4000 0x02 0 d)
    else if !d.safety.leafValid then lockSafety 4 (setNum 0x4000 0x02 0 d)
    else
      let d := setNum 0x4000 0x01 1 (setNum 0x4000 0x02 0 d)
      (all 8).foldl (fun d n => onInput n (fun x => { x with testSeen := false, testOpen := inputDemand n d }) d) d)

/-! The safety cycle. -/

/-- Whether an outlet's current has been below 5 A in the last three feed values (R269). -/
def feedLow (j : Fin 12) (d : Dev) : Bool := d.safety.lows[j] == 3 && !isStale .safetyFeed d

/-- The output of an SF2 instance is switched off by a core: the feedback timer starts (R268). -/
def startFeedback (j : Fin 12) (src : Nat) (d : Dev) : Dev :=
  let applies := d.safety.role == 2 || d.safety.role == 3 || src % 2 ^ 24 != 0
  onSafety (fun s => { s with fbTimer := upd s.fbTimer j (fun t => match t with
    | some x => some x
    | none => some (d.time.now, applies)) }) d

/-- A core sets its copy of an instance. -/
def setInst (c : Fin 2) (i : Fin 16) (x : Inst) (d : Dev) : Dev :=
  let was := instState i d
  let d := onCore c (fun k => { k with
    inst := upd k.inst i (fun _ => x), reset := upd k.reset i (fun _ => false),
    waitSince := if x = .currentWait then upd k.waitSince i (fun _ => d.time.now) else k.waitSince }) d
  if was = .enabled ∧ x ≠ .enabled then raise1 3 .safetyLeftEnabled i.val d else d

/-- One instance in one core's cycle (Table 9.4). -/
def instCycle (c : Fin 2) (d : Dev) (i : Fin 16) : Dev :=
  if !inUse i d then onCore c (fun k => { k with inst := upd k.inst i (fun _ => .demand) }) d else
  let src := sources i d
  let committing := match d.safety.trans with | some t => t.committing | none => false
  let demanded := src != 0 || committing
  match (d.safety.core[c]).inst[i] with
  | .demand =>
    let open_ := if h : i.val < 12 then (d.safety.fb[(⟨i.val, h⟩ : Fin 12)]).deb else true
    if !demanded && !testPending i d && open_ then setInst c i .ready d else d
  | .ready =>
    if demanded then setInst c i .demand d
    else if !manual i d || (d.safety.core[c]).reset[i] then setInst c i .enabled d else d
  | .enabled =>
    if !demanded then d
    else if h : i.val < 12 then
      if feedLow ⟨i.val, h⟩ d then startFeedback ⟨i.val, h⟩ src (setInst c i .demand d) else setInst c i .currentWait d
    else setInst c i .demand d
  | .currentWait =>
    if h : i.val < 12 then
      if feedLow ⟨i.val, h⟩ d ∨ (d.safety.core[c]).waitSince[i] + ms 40 ≤ d.time.now
      then startFeedback ⟨i.val, h⟩ src (setInst c i .demand d) else d
    else setInst c i .demand d

/-- The switch commands of a core (R274), and the isolation and reaction times (0x4005, 0x4006). -/
def switchCycle (c : Fin 2) (d : Dev) : Dev :=
  let cmd (i : Fin 16) : Bool := inUse i d && (d.safety.core[c]).inst[i] == .enabled && d.safety.permit && !d.safety.outFault[i]
  let d := onCore c (fun x => { x with on := tab cmd, pumped := true }) d
  (all 16).foldl (fun d i => match d.safety.demandAt[i] with
    | some t =>
      if switchOn 0 i d || switchOn 1 i d then d else
      let d := onSafety (fun s => { s with demandAt := upd s.demandAt i (fun _ => none) }) d
      let took := min 65535 ((d.time.now - t) / 1000)
      if i.val < 12 then setNum 0x4005 (i.val + 1) took d else setNum 0x4006 (i.val - 11) took d
    | none => d) d

/-- The instances whose switch-off is timed from this cycle: enabled, with a source and no time yet. -/
def markDemands (d : Dev) : Dev :=
  onSafety (fun s => { s with demandAt := tab (fun i =>
    if s.demandAt[i] = none ∧ inUse i d ∧ instState i d = .enabled ∧ sources i d ≠ 0 then some d.time.now else s.demandAt[i]) }) d

/-- SAFETY_CYCLE (R253 to R257, R267, R280, R281, R291): a core's cycle, with whether the other core's image agreed and the
readback of the switches that it drives. -/
def execSafetyCycle (core : Fin 2) (agree : Bool) (read : BitVec 16) (s : State) : Host.Outcome State Fault Refusal :=
  let d := s.dev
  done s (if !up 3 d then d else
    let d := reach ((d.safety.core[core]).lastCycle + ms 1) d
    let d := onCore core (fun x => { x with lastCycle := d.time.now }) d
    if !safetyRuns d then onCore core (fun x => { x with pumped := true }) d else
    let d := readback core read d
    let d := markDemands d
    let d := (all 16).foldl (instCycle core) d
    let d := switchCycle core d
    let same := agree && (all 16).all (fun i =>
      let a := d.safety.core[(0 : Fin 2)]
      let b := d.safety.core[(1 : Fin 2)]
      a.inst[i] == b.inst[i] && a.on[i] == b.on[i])
    let d := onCore core (fun x => { x with differ := if same then 0 else min 3 (x.differ + 1) }) d
    let d := if core = 0 then (all 8).foldl producerCycle (sendAcks d) else d
    match d.safety.trans with
    | some t =>
      let rest := (all 16).all (fun i => !inUse i d || (all 2).all (fun c => (d.safety.core[c]).inst[i] == .demand))
      if t.committing && rest then applyCommit t d else d
    | none => d)

/-- CURRENT_WAIT_TIMEOUT (R269): 40 ms. -/
def execCurrentWaitTimeout (j : Fin 12) (s : State) : Host.Outcome State Fault Refusal :=
  let i : Fin 16 := ⟨j.val, by omega⟩
  done s ((all 2).foldl (fun d c =>
    if (d.safety.core[c]).inst[i] = .currentWait then
      let d := reach ((d.safety.core[c]).waitSince[i] + ms 40) d
      startFeedback j (sources i d) (onCore c (fun x => { x with on := upd x.on i (fun _ => false) }) (setInst c i .demand d))
    else d) s.dev)

/-- FEEDBACK_TIMER_END (R268). -/
def execFeedbackTimerEnd (j : Fin 12) (s : State) : Host.Outcome State Fault Refusal :=
  let d := s.dev
  done s (match d.safety.fbTimer[j] with
    | some (t, applies) =>
      let d := reach (t + ms (nat d 0x4030 0x05)) d
      let d := onSafety (fun s => { s with fbTimer := upd s.fbTimer j (fun _ => none) }) d
      if applies && !(d.safety.fb[j]).deb && instState ⟨j.val, by omega⟩ d == .demand then
        raise1 3 .contactorFeedbackFault j.val (onSafety (fun s => { s with contFault := upd s.contFault j (fun _ => true) }) d)
      else d
    | none => d)

/-! Fault resets, the password and the transaction. -/

/-- Whether the latched faults of an output may be reset: both switches read off with the output off, and FB_j is high
(R260, R268). -/
def resetAllowed (i : Fin 16) (d : Dev) : Bool :=
  (!d.safety.outFault[i] || (all 2).all (fun c => !(d.safety.core[c]).on[i] && (d.safety.core[c]).mismatch[i] == 0))
    && (if h : i.val < 12 then !d.safety.contFault[(⟨i.val, h⟩ : Fin 12)] || (d.safety.fb[(⟨i.val, h⟩ : Fin 12)]).deb else true)
/-- The latched faults of an output cleared. -/
def resetFaults (i : Fin 16) (d : Dev) : Dev :=
  onSafety (fun s => { s with
    outFault := upd s.outFault i (fun _ => false),
    contFault := tab (fun j => s.contFault[j] && j.val != i.val) }) d

/-- Whether a session holds the password (R287). -/
def passwordHeld (session : Nat) (d : Dev) : Bool := match d.safety.held with
  | some (s, _) => s == session
  | none => false
/-- The held password is used. -/
def usePassword (d : Dev) : Dev := onSafety (fun s => { s with held := none }) d

/-- Whether a password is the one set (R289). -/
def passwordRight (p : List Byte) (d : Dev) : Bool := match d.safety.password with
  | some (salt, digest) => decide (Config.sha256 (salt ++ p) = digest)
  | none => false

/-- A password written (R287, R290): held, or refused and counted; the fifth within 10 min locks out. -/
def writePassword (session : Nat) (p : List Byte) (d : Dev) : Dev :=
  if passwordRight p d then onSafety (fun s => { s with held := some (session, d.time.now) }) d
  else
    let recent := d.safety.wrong.filter (fun t => decide (d.time.now < t + sec 600)) ++ [d.time.now]
    let d := safetyLogSame 6 session d
    if 5 ≤ recent.length then
      onSafety (fun s => { s with wrong := [], lockedOut := some d.time.now }) (safetyLogSame 7 session d)
    else onSafety (fun s => { s with wrong := recent }) d

/-- PASSWORD_HOLD_EXPIRY (R287): 10 s. -/
def execPasswordHoldExpiry (s : State) : Host.Outcome State Fault Refusal :=
  let d := s.dev
  done s (match d.safety.held with
    | some (_, t) => usePassword (reach (t + sec 10) d)
    | none => d)

/-- LOCKOUT_EXPIRY (R290): 10 min from the fifth wrong password. -/
def execLockoutExpiry (s : State) : Host.Outcome State Fault Refusal :=
  let d := s.dev
  done s (match d.safety.lockedOut with
    | some t => onSafety (fun s => { s with lockedOut := none }) (reach (t + sec 600) d)
    | none => d)

/-- A transaction opened (R287, R292). -/
def openTrans (session : Nat) (d : Dev) : Dev :=
  onSafety (fun s => { s with trans := some ⟨session, d.time.now, [], none, false⟩ }) (safetyLogSame 1 session (usePassword d))
/-- A transaction ended without effect: kind 3 aborted, 4 timed out. -/
def endTrans (kind session : Nat) (d : Dev) : Dev := onSafety (fun s => { s with trans := none }) (safetyLogSame kind session d)

/-- TRANSACTION_TIMEOUT (R288): 30 min without a SAFE write. -/
def execTransactionTimeout (s : State) : Host.Outcome State Fault Refusal :=
  let d := s.dev
  done s (match d.safety.trans with
    | some t => if t.committing then d else endTrans 4 t.owner (reach (t.lastWrite + sec 1800) d)
    | none => d)

/-- A commit accepted (R291): every instance in use meets a demand; a locked island starts at once. -/
def commitTrans (session : Nat) (d : Dev) : Dev :=
  match d.safety.trans with
  | none => d
  | some t =>
    let d := if t.newPassword.isSome then safetyLogSame 5 session d else d
    let d := safetyLog 2 session (nat d 0x4000 0x03) (pendingCrc d) d
    if safetyRuns d then onSafety (fun s => { s with trans := some { t with committing := true } }) d else applyCommit t d

/-- A SAFE write goes into the pending set (R288). -/
def safeWrite (k : Nat) (v : DVal) (d : Dev) : Dev :=
  onSafety (fun s => { s with trans := s.trans.map (fun t =>
    if k = key 0x4060 0x07 then { t with newPassword := some (bytesOf v), lastWrite := d.time.now }
    else { t with pending := (k, v) :: t.pending.filter (fun p => p.1 != k), lastWrite := d.time.now }) }) d

/-- The safety restart (Table 9.2). -/
def restartSafety (session : Nat) (d : Dev) : Dev := enterStart (usePassword (safetyLogSame 8 session d))

/-- Whether an identity is another connection's in the merged configuration (R283). -/
def identityTaken (k : Nat) (v : Int) (t : Trans) (d : Dev) : Bool :=
  v != 0 && ((List.range 16).map (fun c => key (0x4040 + c) 0x04) ++ (List.range 8).map (fun p => key (0x4050 + p) 0x04)).any
    (fun q => q != k && intOf (mergedVal t d q) == v)
/-- How many connections in use name the Eaveline network in the merged configuration (R405). -/
def eaveConnections (t : Trans) (d : Dev) : Nat :=
  ((List.range 24).filter (fun c => let i := if c < 16 then 0x4040 + c else 0x4050 + (c - 16)
    intOf (mergedVal t d (key i 0x01)) == 1 && intOf (mergedVal t d (key i 0x02)) == 4)).length

end Sys2Proof.Machine
end

