-- ==== Sys2Proof/Machine/LoadChannels.lean ====
section
/-! DEFINITION. The protected load channels, current sense and limp-home (R295 to R320, R480). -/
namespace Sys2Proof.Machine

/-- The switch island, and one of its channels, changed. -/
def onLoad (f : Load → Load) (d : Dev) : Dev := { d with load := f d.load }
def onChan (n : Fin 64) (f : LoadChan → LoadChan) (d : Dev) : Dev := onLoad (fun l => { l with chan := upd l.chan n f }) d

/-- Whether a channel is PWM-capable, and its rating in mA (R295). -/
def pwmCapable (n : Fin 64) : Bool := decide (32 ≤ n.val)
def chanRating (n : Fin 64) : Int := if 48 ≤ n.val then 10000 else 3000
/-- The wire's continuous current in mA and its time constant in ms (Table 10.2). -/
def wireModel (code : Nat) : Int × Nat := match code with
  | 0 => (3000, 12000) | 1 => (4000, 16000) | 2 => (5000, 20000) | 3 => (7500, 28000) | _ => (10000, 40000)

/-- The LH_IN pin that a channel is mapped to (R313). -/
def mappedPin (n : Fin 64) (d : Dev) : Option (Fin 8) := (all 8).find? (fun p => nat d 0x4430 (p.val + 1) == n.val)
/-- The channel's command by its pin (R315). -/
def pinCommand (n : Fin 64) (d : Dev) : Bool × Int := match mappedPin n d with
  | some p => (d.load.pins[p], 32767)
  | none => (false, (d.load.chan[n]).duty)

/-- The command and duty in force at a channel and the rule that gives them, as 0x4427 reports it (R298). -/
def commandInForce (n : Fin 64) (d : Dev) : Bool × Int × Nat :=
  let c := d.load.chan[n]
  if d.load.limp ∧ (mappedPin n d).isSome then let p := pinCommand n d; (p.1, p.2, 0)
  else if isStale .loadCommand d then
    if !d.load.orphan then ((match c.state with | .on => true | .off => false | _ => c.cmd), c.duty, 1)
    else match nat d 0x4415 (n.val + 1) with
      | 1 => (true, c.duty, 2)
      | 2 => let p := pinCommand n d; (p.1, p.2, 2)
      | _ => (false, c.duty, 2)
  else (c.cmd, c.duty, c.rule)

/-- Whether a command and duty ask the channel on (R296). -/
def asksOn (n : Fin 64) (x : Bool × Int × Nat) : Bool := x.1 && (pwmCapable n || decide (16384 ≤ x.2.1))
/-- The retry level in 2⁻²⁴. -/
def retryLevel (d : Dev) : Nat := nat d 0x4400 0x0C * 16777216 / 100

/-- A channel switches on (R304): the retry reset timer runs. -/
def energise (n : Fin 64) (d : Dev) : Dev := onChan n (fun c => { c with state := .on, onFrom := some d.time.now }) d
/-- A channel's output goes off: the timer stops, and the clamp history takes this switch-off (R308). -/
def goOff (s : ChanState) (n : Fin 64) (d : Dev) : Dev :=
  onChan n (fun c => { c with
    state := s, onFrom := none, openSince := none, ran := if s = .latched then c.ran + (match c.onFrom with | some t => d.time.now - t | none => 0) else 0,
    clamps := if c.state = .on ∧ !c.clampLast then 0 else c.clamps, clampLast := if c.state = .on then false else c.clampLast }) d

/-- A tripped channel whose retry delay has passed goes on again once its wire is below the retry level; a retry is spent (Table 10.3). -/
def retryChannel (n : Fin 64) (d : Dev) : Dev :=
  let c := d.load.chan[n]
  if c.trippedAt + ms (nat d 0x4400 0x0A) ≤ d.time.now ∧ c.heat < retryLevel d
  then energise n (onChan n (fun c => { c with retries := c.retries - 1 }) d) else d

/-- A channel follows the command in force (Table 10.3); one that has been cleared, or that limp-home has left to the host, waits for the next
load command transfer (R305, R315). -/
def followCommand (n : Fin 64) (d : Dev) : Dev :=
  let c := d.load.chan[n]
  let x := commandInForce n d
  let want := asksOn n x
  if c.await && decide (3 ≤ x.2.2) then d else
  match c.state with
  | .off => if want ∧ c.heat < retryLevel d then energise n d else d
  | .on => if want then d else goOff .off n d
  | .tripped => if want then retryChannel n d else goOff .off n d
  | _ => d

/-- Whether a channel's output is on (R480). -/
def outputOn (n : Fin 64) (d : Dev) : Bool := up 4 d && (d.load.chan[n]).state == .on && !d.load.supplyLow

/-- The part of its PWM period for which a channel's output pin is on (R296): on-times and off-times shorter than 5 µs are not produced. -/
def pinDrive (n : Fin 64) (d : Dev) : Rat :=
  let duty : Rat := ((commandInForce n d).2.1 : Rat) / 32768
  let whole : Rat := (sec 1 : Rat) / (nat d 0x4412 (n.val + 1) : Rat)
  if !outputOn n d then 0 else if !pwmCapable n then 1
  else if whole * duty < us 5 then 0 else if whole * (1 - duty) < us 5 then 1 else duty

/-- The select value at SEL0 to SEL3 (R310 to R312): the forced one, the scan's, or what external equipment drives. -/
def selectValue (d : Dev) : Nat :=
  if d.load.extsel && on d 0x4400 0x04 then Config.externalSelect d.time.now % 16
  else if nat d 0x4400 0x05 ≠ 0xFF then nat d 0x4400 0x05 else d.load.select
/-- A channel's mirror current in µA (R309, Table 10.1): 1 to its ratio, saturated at 4.2 mA, at the fault level in the protection states.
Between 4.0 mA, up to which the mirror is linear, and 4.2 mA the model goes on linearly (DESIGN CHOICE, log 221). -/
def mirrorCurrent (n : Fin 64) (d : Dev) : Nat :=
  let c := d.load.chan[n]
  let ratio := if 48 ≤ n.val then 4850 + Config.mirrorRatio n.val % 301 else 1940 + Config.mirrorRatio n.val % 121
  if c.state = .tripped ∨ c.state = .lockedOut ∨ c.state = .latched ∨ c.state = .fault then 4700 + Config.mirrorFault n.val % 601
  else if outputOn n d then min 4200 (c.current.natAbs * 1000 / ratio) else 0
/-- The switch island's pins follow its state: the outputs (R296), and the mirror currents of the four groups (R309). -/
def drivePins (d : Dev) : Dev :=
  let m := selectValue d
  onLoad (fun l => { l with
    chan := tab (fun n => { l.chan[n] with drive := pinDrive n d }),
    mirror := tab (fun g => mirrorCurrent (Fin.ofNat 64 (16 * g.val + m)) d) }) d

/-- Every channel follows its command. -/
def followAll (d : Dev) : Dev := drivePins ((all 64).foldl (fun d n => followCommand n d) d)

/-- A trip (Table 10.3). -/
def tripChannel (n : Fin 64) (cause : Nat) (d : Dev) : Dev :=
  let d := goOff (if 0 < (d.load.chan[n]).retries then .tripped else .lockedOut) n d
  let d := onChan n (fun c => { c with cause := cause, trippedAt := d.time.now }) d
  raise 4 .loadTrip [BitVec.ofNat 8 n.val, BitVec.ofNat 8 cause] (bump 0x4428 (n.val + 1) (drivePins d))

/-- The consumer of a channel and its command (R298 rule 5): an outlet's pump, or thermal loops 12 to 15. -/
def consumerCommand (n : Fin 64) (d : Dev) : Option (Bool × Int) :=
  match (all 12).find? (fun k => nat d (0x3200 + 16 * k.val) 0x01 == n.val) with
  | some k => some ((d.out[k]).cooling, d.eng.loadDuty[k.val])
  | none => match (all 16).find? (fun w => 12 ≤ w.val && nat d (thermalIdx w) 0x06 == n.val) with
    | some w => some (on d (thermalIdx w) 0x01, d.eng.loadDuty[w])
    | none => none

/-- LOAD_COMMAND_STALE (R316): the orphan timer starts and every channel holds. -/
def execLoadCommandStale (s : State) : Host.Outcome State Fault Refusal :=
  let d := s.dev
  done s (if isStale .loadCommand d || !up 4 d then d else
    let d := staleChannel .loadCommand d
    onLoad (fun l => { l with orphanAt := some d.time.now }) d)

/-- ORPHAN_TIMEOUT (R316); during the restart of an FX activation every channel holds instead (R462). -/
def execOrphanTimeout (s : State) : Host.Outcome State Fault Refusal :=
  let d := s.dev
  done s (match d.load.orphanAt with
    | some t =>
      if isStale .loadCommand d && !d.load.orphan && up 4 d && !fxStopped d then
        followAll (bump 0x4400 0x0D (onLoad (fun l => { l with orphan := true }) (reach (t + ms (nat d 0x4400 0x08)) d)))
      else d
    | none => d)

/-- The current that a channel's wire carries in mA (R320): the partner's adds while it is at most 3 ms old; an island that does not run has no
output on (R302). -/
def wireCurrent (n : Fin 64) (d : Dev) : Int :=
  let c := d.load.chan[n]
  (if outputOn n d then c.current else 0)
    + (if on d 0x1C00 0x01 ∧ d.time.now ≤ c.partnerAt + ms 3 then c.partnerI else 0)

/-- The heat state after 1 ms (R301), rounded to 2⁻²⁴. -/
def heatStep (n : Fin 64) (d : Dev) : Nat :=
  let c := d.load.chan[n]
  let (ic, tau) := wireModel (nat d 0x4413 (n.val + 1))
  let ic := min ic (chanRating n)
  let i := wireCurrent n d
  let q : Rat := ((i * i * 16777216 : Int) : Rat) / (ic * ic : Int)
  (roundAway ((c.heat : Rat) + (q - (c.heat : Rat)) / (tau : Rat))).toNat

/-- Every wire's heat after 1 ms. -/
def heatAll (d : Dev) : Dev :=
  let heat : Vector Nat 64 := tab (fun n => heatStep n d)
  onLoad (fun l => { l with chan := tab (fun n => { l.chan[n] with heat := heat[n] }) }) d

/-- WIRE_MODEL_UPDATE (R301, R302): every 1 ms, with the internally sensed currents and the junctions; it also carries the load
status transfer. The heat goes on through a reset that keeps the island powered. -/
def execWireModelUpdate (current junction : Vector Int 64) (s : State) : Host.Outcome State Fault Refusal :=
  let d := s.dev
  done s (if d.isl[(4 : Fin 8)] = .off then d else
    let d := reach (nextMultiple (ms 1) d) d
    if !up 4 d then heatAll d else
    let d := heatAll (onLoad (fun l => { l with chan := tab (fun n => { l.chan[n] with current := current[n], junction := junction[n] }) }) d)
    let d := onLoad (fun l => { l with chan := tab (fun n =>
      let c := l.chan[n]
      let low := c.state == .on && nat d 0x4416 (n.val + 1) != 0 && decide (c.current < num d 0x4416 (n.val + 1))
      { c with openSince := if low then some (c.openSince.getD d.time.now) else none, openLoad := c.openLoad && low }) }) d
    transfer .loadStatus (drivePins ((all 64).foldl (fun d n =>
      if (d.load.chan[n]).state = .on ∧ 16777216 ≤ (d.load.chan[n]).heat then tripChannel n 1 d else followCommand n d) d)))

/-- SHORT_CIRCUIT_TRIP (R303). -/
def execShortCircuitTrip (n : Fin 64) (s : State) : Host.Outcome State Fault Refusal :=
  done s (if up 4 s.dev ∧ (s.dev.load.chan[n]).state = .on then tripChannel n 2 s.dev else s.dev)

/-- RETRY_DELAY_EXPIRY (Table 10.3): the channel goes on again, or waits until its wire has cooled. -/
def execRetryDelayExpiry (n : Fin 64) (s : State) : Host.Outcome State Fault Refusal :=
  let d := s.dev
  let c := d.load.chan[n]
  done s (if c.state = .tripped then
    drivePins (followCommand n (reach (c.trippedAt + ms (nat d 0x4400 0x0A)) d))
  else d)

/-- RETRY_RESET_EXPIRY (R304). -/
def execRetryResetExpiry (n : Fin 64) (s : State) : Host.Outcome State Fault Refusal :=
  let d := s.dev
  let c := d.load.chan[n]
  done s (match c.onFrom with
    | some t =>
      let d := reach (t + sec (nat d 0x4400 0x0B) - c.ran) d
      onChan n (fun c => { c with retries := nat d 0x4414 (n.val + 1), ran := 0, onFrom := some d.time.now }) d
    | none => d)

/-- JUNCTION_LATCH (R305, Table 10.3). -/
def execJunctionLatch (n : Fin 64) (temp : Int) (s : State) : Host.Outcome State Fault Refusal :=
  let d := onChan n (fun c => { c with junction := temp }) s.dev
  done s (if (d.load.chan[n]).state = .latched ∨ temp < 1450 then d
    else drivePins (onChan n (fun c => { c with cause := 3 }) (goOff .latched n d)))

/-- The clear command (Table 10.3, R305): the channel follows its command from the next load command transfer. -/
def clearChannel (n : Fin 64) (d : Dev) : Dev :=
  let off (f : LoadChan → LoadChan) : Dev := drivePins (onChan n (fun c => f { c with state := .off, await := true }) d)
  match (d.load.chan[n]).state with
  | .lockedOut => off (fun c => { c with retries := nat d 0x4414 (n.val + 1) })
  | .latched => if (d.load.chan[n]).junction < 1300 then off id else d
  | .fault => off (fun c => { c with clamps := 0 })
  | _ => d

/-- CLAMP_EVENT (R308). -/
def execClampEvent (n : Fin 64) (s : State) : Host.Outcome State Fault Refusal :=
  let d := onChan n (fun c => { c with clamps := min 3 (c.clamps + 1), clampLast := true }) s.dev
  let c := d.load.chan[n]
  done s (if 3 ≤ c.clamps ∧ (c.state = .on ∨ c.state = .off) then
    drivePins (onChan n (fun c => { c with state := .fault, cause := 4, onFrom := none, openSince := none, ran := 0 }) d) else d)

/-- OPEN_LOAD_DETECTION (Table 10.7): on below the threshold for 100 ms. -/
def execOpenLoadDetection (n : Fin 64) (s : State) : Host.Outcome State Fault Refusal :=
  let d := s.dev
  done s (match (d.load.chan[n]).openSince with
    | some t => onChan n (fun c => { c with openLoad := true }) (reach (t + ms 100) d)
    | none => d)

/-! Current sense. -/

/-- Whether EXTSEL is honoured (R311). -/
def extselHonoured (d : Dev) : Bool := d.load.extsel && on d 0x4400 0x04
/-- The readings that the selection leaves without a measurement (R311, R312). -/
def staleReadings (d : Dev) : Dev :=
  let f := nat d 0x4400 0x05
  drivePins (onLoad (fun l => { l with chan := tab (fun n =>
    if extselHonoured d || (f != 0xFF && n.val % 16 != f) then { l.chan[n] with reading := none } else l.chan[n]) }) d)

/-- A group pin's reading in mA from its mean current in µA, by the typical ratio of Table 10.1 (R310). -/
def scaleReading (n : Fin 64) (pin : Nat) : Nat := if 48 ≤ n.val then 5 * pin else 2 * pin

/-- SENSE_SCAN_STEP (R310, R312): one select value of 62.5 µs, with the mean currents in µA of the four group pins over its last 40 µs. -/
def execSenseScanStep (pin : Vector Nat 4) (s : State) : Host.Outcome State Fault Refusal :=
  let d := s.dev
  done s (if !up 4 d || extselHonoured d then d else
    let d := reach (nextMultiple 6250 d) d
    let f := nat d 0x4400 0x05
    let m := if f = 0xFF then d.load.select else f
    let d := (all 4).foldl (fun d g =>
      if h : 16 * g.val + m < 64 then
        let n : Fin 64 := ⟨16 * g.val + m, h⟩
        let c := d.load.chan[n]
        let reading := scaleReading n pin[g]
        let bad := decide (c.current.natAbs + 500 < 10 * ((reading : Int) - c.current).natAbs)
        let k : Nat := if bad then min 10 (c.senseBad + 1) else 0
        let fresh := (k == 10) && !c.senseFlag
        let d := onChan n (fun c => { c with reading := some reading, senseBad := k, senseFlag := (k == 10) || (c.senseFlag && bad) }) d
        if fresh then raise1 4 .senseDisagreement n.val d else d
      else d) d
    staleReadings (onLoad (fun l => { l with select := (m + 1) % 16 }) d))

/-- EXTSEL_CHANGE (R311). -/
def execExtselChange (high : Bool) (s : State) : Host.Outcome State Fault Refusal :=
  let d := onLoad (fun l => { l with extsel := high }) s.dev
  done s (if high && !on d 0x4400 0x04 then raise 4 .externalSelectRefused [] d else staleReadings d)

/-! Limp-home and the supply. -/

/-- LIMP_N_CHANGE (R315, Table 16.7): after its 10 ms filter, and honoured from 20 ms after PD4 was enabled. A mapped channel under host control waits for the next load command transfer when LIMP_N is
released. -/
def execLimpNChange (asserted : Bool) (s : State) : Host.Outcome State Fault Refusal :=
  let d := onLoad (fun l => { l with
    limp := asserted
    chan := tab (fun n =>
      if l.limp && !asserted && (mappedPin n s.dev).isSome && (l.chan[n]).rule == 5 then { l.chan[n] with await := true } else l.chan[n]) })
    (if up 4 s.dev then reach s.dev.load.limpFrom s.dev else s.dev)
  done s (if up 4 d then followAll d else d)

/-- LH_IN_CHANGE (R314, R315): after its 5 ms filter. -/
def execLhInChange (n : Fin 8) (high : Bool) (s : State) : Host.Outcome State Fault Refusal :=
  let d := onLoad (fun l => { l with pins := upd l.pins n (fun _ => high) }) s.dev
  done s (if up 4 d then followAll d else d)

/-- DISSIPATION_ESTIMATE (R297): every 1 ms; an event after 10 s above 30 W. -/
def execDissipationEstimate (s : State) : Host.Outcome State Fault Refusal :=
  let d := s.dev
  done s (if !up 4 d then d else
    let d := reach (nextMultiple (ms 1) d) d
    let w : Nat := (all 64).foldl (fun a n =>
      if outputOn n d then a + ((d.load.chan[n]).current.natAbs) ^ 2 * Config.onResistance n.val (d.load.chan[n]).junction else a) 0
    let tenths := w / 100000000000
    let d := setNum 0x4400 0x02 (min 65535 tenths) d
    if w ≤ 30000000000000 then onLoad (fun l => { l with hotSince := none, hotTold := false }) d
    else
      let t := d.load.hotSince.getD d.time.now
      let d := onLoad (fun l => { l with hotSince := some t }) d
      if t + sec 10 ≤ d.time.now ∧ !d.load.hotTold then raise 4 .loadDissipation [] (onLoad (fun l => { l with hotTold := true }) d) else d)

/-- A channel that its consumer releases returns to host control with its command off (R300). -/
def releaseChannel (n : Nat) (d : Dev) : Dev := if n < 64 then setNum 0x4410 (n + 1) 0 d else d

/-- Whether a load channel is named by another consumer (R204, Table 5.10). -/
def channelTaken (n : Nat) (self : Option Nat) (d : Dev) : Bool :=
  n != 0xFF && ((all 12).any (fun k => self != some (0x3200 + 16 * k.val) && nat d (0x3200 + 16 * k.val) 0x01 == n)
    || (all 16).any (fun w => 12 ≤ w.val && self != some (thermalIdx w) && nat d (thermalIdx w) 0x06 == n))

end Sys2Proof.Machine
end

