-- ==== Sys2Proof/Machine/Pairing.lean ====
section
/-! DEFINITION. The peer link, the dowel lease, take-over, the hot shadow, resynchronisation and the swap (R322 to R345). -/
namespace Sys2Proof.Machine

/-- The peer island's state changed. -/
def onPair (f : Pair → Pair) (d : Dev) : Dev := { d with pair := f d.pair }
/-- Pair mode (R322). -/
def pairMode (d : Dev) : Bool := on d 0x1C00 0x01
/-- The highest lease epoch known (0x1C00.04). -/
def epochKnown (d : Dev) : Nat := nat d 0x1C00 0x04
/-- An epoch becomes known; the lease epoch is never lowered (R329). -/
def learnEpoch (e : Nat) (d : Dev) : Dev := setNum 0x1C00 0x04 (max (epochKnown d) e : Nat) d
/-- Whether the lease is valid as this module knows it (0x1C00.05). -/
def leaseValid (d : Dev) : Bool := on d 0x1C00 0x05
/-- The role changed, and counted (0x1C00.0D). -/
def setRole (r : Nat) (d : Dev) : Dev := if nat d 0x1C00 0x03 = r then d else bump 0x1C00 0x0D (setNum 0x1C00 0x03 r d)

/-! Peer frames (R325). -/

/-- The bytes that a peer frame's CRC covers (Table 11.3). -/
def peerBytes (f : PeerFrame) : List Byte := [f.type, f.reserved] ++ leBytes 2 f.seq.toNat ++ leBytes 2 f.payload.length ++ f.payload
/-- Whether a frame is good. -/
def peerGood (f : PeerFrame) : Bool :=
  f.framed && f.reserved == 0 && decide (f.payload.length ≤ 1100) && f.crc == crc32 (peerBytes f)

/-- A frame reaches a peer port (R325): good frames in a row are counted, and of each sequence number the first good copy is
acted on. Answers whether this copy is. -/
def peerReceive (type : Byte) (f : PeerFrame) (d : Dev) : Dev × Bool :=
  if !(up 6 d && pairMode d) then (d, false)
  else if !peerGood f then (onPair (fun p => { p with port := upd p.port f.port (fun x => { x with good := 0 }) }) d, false)
  else
    let first : Bool := match d.pair.rxSeq with
      | some q => let x := (f.seq - q).toNat; 0 < x && x < 32768
      | none => true
    let d := onPair (fun p => { p with
      port := upd p.port f.port (fun x => { x with good := min 100 (x.good + 1), lastGood := d.time.now }),
      rxSeq := if first then some f.seq else p.rxSeq }) d
    (d, first && f.type == type)

/-- A frame sent on both ports. -/
def peerSend (type : Fin 10) (payload : List Byte) (d : Dev) : Dev :=
  onPair (fun p => { p with txSeq := p.txSeq + 1, sent := upd p.sent type (fun _ => payload) }) d

/-- PEER_PORT_UP (R325): 100 consecutive good frames. -/
def execPeerPortUp (p : Fin 2) (s : State) : Host.Outcome State Fault Refusal :=
  done s (if 100 ≤ (s.dev.pair.port[p]).good then
    onPair (fun x => { x with port := upd x.port p (fun q => { q with up := true }), silentSince := none }) s.dev else s.dev)

/-- PEER_PORT_DOWN (R325): no good frame for three periods; the link is silent when both ports are down. -/
def execPeerPortDown (p : Fin 2) (s : State) : Host.Outcome State Fault Refusal :=
  let d := s.dev
  let q := d.pair.port[p]
  done s (if !q.up then d else
    let d := reach (q.lastGood + 3 * period) d
    let d := onPair (fun x => { x with port := upd x.port p (fun q => { q with up := false, good := 0 }) }) d
    if d.pair.port.toList.any (·.up) then d
    else onPair (fun x => { x with silentSince := some d.time.now, rxSeq := none }) d)

/-! What the uplinks show of authority. -/

/-- What a fitted card's last good uplink shows: when it came, whether the present period has it, the port in authority, the
orphan flag and the epoch seen. -/
structure Seen where
  at_ : Nat
  fresh : Bool
  authority : Nat
  orphan : Bool
  epoch : Nat

/-- The fitted bricks and axis drives as their uplinks show them; no entry says that a drive is fitted, so one counts as fitted
while its link is not down. -/
def cardsSeen (d : Dev) : List Seen :=
  ((all 24).filter (fun k => brickFitted k d)).map (fun k =>
    let b := d.brick[k]
    ⟨b.lastGood, b.fresh, b.authority, b.orphan, b.epochSeen⟩)
  ++ ((all 4).filter (fun u => (d.drive[u]).link != .down)).map (fun u =>
    let x := d.drive[u]
    ⟨x.lastGood, x.fresh, x.authority, x.orphan, x.epochSeen⟩)

/-- Whether an uplink of the last 1 ms shows the partner's port in authority with the orphan flag clear (R327, R342). -/
def partnerSeen (d : Dev) : Bool :=
  (cardsSeen d).any (fun x => decide (0 < x.at_ ∧ d.time.now ≤ x.at_ + ms 1) && x.authority != (myPort d).val && !x.orphan)

/-- Lease support (R326). -/
def leaseSupport (d : Dev) : Bool :=
  up 1 d && !isStale .shadowState d && d.barrier.field.view != .lost
    && (decide (d.time.now < d.pair.takenAt + ms 10) || (cardsSeen d).isEmpty
        || (cardsSeen d).any (fun x => decide (0 < x.at_ ∧ d.time.now ≤ x.at_ + ms 1) && x.authority == (myPort d).val))

/-! Roles. -/

/-- A module enters SYNCING (Table 11.2): it sends shadow frames only, and resynchronisation starts afresh, with one alignment step to
come (R17). -/
def enterSyncing (d : Dev) : Dev :=
  onPair (fun p => { p with
      bid := none, swap := none, yielded := none, takeMask := tab (fun _ => false), takeEpoch := none, supportLost := false,
      equalRun := 0, differRun := 0, rotations := 0, configPulled := false, phaseAdopted := false,
      resyncAt := if leaseValid d then some d.time.now else none })
    (setNum 0x1C00 0x06 0 (setNum 0x1C00 0x0B 0 (setRole 0 { d with metro := { d.metro with aligned := false } })))

/-- What the new holder does for an outlet in charge (R336): the vehicle's TLS session has ended, and the switch-over target
hold runs with the grant bounded. -/
def holdOutlet (d : Dev) (k : Fin 12) : Dev :=
  if inCharge (d.out[k]).state then
    { onOut k (fun o => { o with swHold := some d.time.now, grantCap := some |d.alloc.grant[k]| }) d with
      vehicle := upd d.vehicle k (fun v => { v with tls := false, pendingSince := none, authorized := false }) }
  else d

/-- The lease is taken (R327, R335, R336): `role` is ALONE, or ACTIVE at a swap boundary. -/
def takeLease (role epoch : Nat) (d : Dev) : Dev :=
  let syncing := roleOf d == 0
  let d := setNum 0x1C00 0x10 (((d.time.now - d.pair.lastValid) / 100 : Nat) : Int) d
  let d := setNum 0x1C00 0x05 1 (learnEpoch epoch (setRole role d))
  let d := onPair (fun p => { p with
    takenAt := d.time.now, lastRenewal := d.time.now, bid := none, granted := none, yielded := none, supportLost := false,
    resyncAt := none }) d
  let d := if syncing then { d with ring := { d.ring with restart := true } } else d
  let d := (all 64).foldl (fun d n => match consumerCommand n d with
    | some _ => d
    | none => let c := d.load.chan[n]
      setNum 0x4411 (n.val + 1) c.partnerDuty (setNum 0x4410 (n.val + 1) (flag c.partnerOn) d)) d
  let d := (all 12).foldl holdOutlet (meterTakeOver d)
  { d with site := { d.site with owners := tab (fun _ => 0), ownersSeen := tab (fun _ => 0) } }

/-! The lease (R326 to R330). -/

/-- The renewal payload (Table 11.5). -/
def renewalPayload (d : Dev) : List Byte :=
  leBytes 4 (epochKnown d) ++ leBytes 8 Config.serial.toNat ++ leBytes 4 d.pair.renewals ++ leBytes 8 (islandTime 6 d)

/-- DOWEL_RENEWAL_SEND (R326): every 1 ms while the holder has lease support. -/
def execDowelRenewalSend (s : State) : Host.Outcome State Fault Refusal :=
  let d := s.dev
  done s (if !(up 6 d && pairMode d && holds d) then d else
    let d := reach (nextMultiple (ms 1) d) d
    if d.pair.supportLost || !leaseSupport d then onPair (fun p => { p with supportLost := true }) d
    else
      let d := peerSend 1 (renewalPayload d) d
      onPair (fun p => { p with renewals := p.renewals + 1, lastRenewal := d.time.now }) d)

/-- DOWEL_RENEWAL (R327, Table 11.2). -/
def execDowelRenewal (f : PeerFrame) (s : State) : Host.Outcome State Fault Refusal :=
  let (d, ok) := peerReceive 0x01 f s.dev
  let e := leNat (f.payload.take 4)
  done s (if !ok || f.payload.length ≠ 24 then d
    else if holds d && decide (e ≤ epochKnown d) then d
    else if e < epochKnown d then d
    else
      let d := setNum 0x1C00 0x05 1 (learnEpoch e d)
      let d := onPair (fun p => { p with
        expiry := d.time.now + ms 4, lastValid := d.time.now,
        granted := match p.granted with | some g => if g.1 = e then none else some g | none => none }) d
      if holds d then enterSyncing d
      else if roleOf d = 0 ∧ d.pair.resyncAt.isNone then onPair (fun p => { p with resyncAt := some d.time.now }) d
      else d)

/-- LEASE_EXPIRY (R327). -/
def execLeaseExpiry (s : State) : Host.Outcome State Fault Refusal :=
  let d := s.dev
  done s (if pairMode d && !holds d && leaseValid d then setNum 0x1C00 0x05 0 (reach d.pair.expiry d) else d)

/-- The bid epoch (R329). -/
def bidEpoch (d : Dev) : Nat := match d.pair.takeEpoch with
  | some e => if roleOf d = 1 then e else max (epochKnown d) d.pair.seen + 1
  | none =>
    let recent := (cardsSeen d).filter (fun x => decide (0 < x.at_ ∧ d.time.now ≤ x.at_ + 100 * period))
    recent.foldl (fun a x => max a x.epoch) (epochKnown d) + 1

/-- A bid is sent (R327, R329). -/
def sendBid (d : Dev) : Dev :=
  let e := bidEpoch d
  if 0xFFFFFFFF ≤ e then raise 6 .epochExhausted [] d
  else peerSend 2 (leBytes 4 e ++ leBytes 8 Config.serial.toNat ++ leBytes 1 (nat d 0x1C00 0x02))
    (onPair (fun p => { p with bid := some (e, d.time.now) }) d)

/-- Whether a granted bid still keeps this module from bidding (R328). -/
def grantHolds (d : Dev) : Bool := match d.pair.granted with
  | some g => decide (d.time.now < g.2 + ms 4)
  | none => false

/-- BID_GUARD_EXPIRY (R327, R342): the lease has been expired for 1 ms. -/
def execBidGuardExpiry (s : State) : Host.Outcome State Fault Refusal :=
  let d := s.dev
  done s (if !(up 6 d && pairMode d) || holds d || leaseValid d || d.pair.bid.isSome then d else
    let wait := if roleOf d = 0 then d.pair.startedAt + ms (nat d 0x1C01 0x01 * (if nat d 0x1C00 0x02 = 2 then 2 else 1)) else 0
    let d := reach (max (d.pair.expiry + ms 1) wait) d
    if grantHolds d then d
    else if partnerSeen d then (if roleOf d = 1 then raise 6 .linkFault [] (enterSyncing d) else d)
    else sendBid d)

/-- BID_WAIT_EXPIRY (R327): 0.5 ms with no answer. -/
def execBidWaitExpiry (s : State) : Host.Outcome State Fault Refusal :=
  let d := s.dev
  done s (match d.pair.bid with
    | some (e, t) => takeLease 3 e (reach (t + us 500) d)
    | none => d)

/-- A bid answer sent. -/
def answerBid (epoch result : Nat) (d : Dev) : Dev :=
  peerSend 3 (leBytes 4 epoch ++ leBytes 1 result ++ leBytes 4 (epochKnown d)) d

/-- BID (R328, Table 11.2): a holder refuses, and a bid above its epoch also sends it to SYNCING. -/
def execBid (f : PeerFrame) (s : State) : Host.Outcome State Fault Refusal :=
  let (d, ok) := peerReceive 0x02 f s.dev
  let e := leNat (f.payload.take 4)
  let serial := leNat ((f.payload.drop 4).take 8)
  let rank := leNat ((f.payload.drop 12).take 1)
  let mine := nat d 0x1C00 0x02
  let own : Bool := match d.pair.bid with
    | some b => b.1 == e
    | none => false
  done s (if !ok || f.payload.length ≠ 13 then d
    else if holds d then
      let higher := decide (epochKnown d < e)
      let d := answerBid e 2 d
      if higher then enterSyncing (setNum 0x1C00 0x05 0 (learnEpoch e d)) else d
    else if own && (decide (mine < rank) || (mine == rank && decide (Config.serial.toNat < serial))) then answerBid e 2 d
    else
      let d := onPair (fun p => { p with bid := if own then none else p.bid, granted := some (e, d.time.now) }) (learnEpoch e d)
      answerBid e 1 d)

/-- BID_ANSWER (R327). -/
def execBidAnswer (f : PeerFrame) (s : State) : Host.Outcome State Fault Refusal :=
  let (d, ok) := peerReceive 0x03 f s.dev
  let e := leNat (f.payload.take 4)
  done s (if !ok || f.payload.length ≠ 9 then d else
    match d.pair.bid with
    | some b =>
      if b.1 ≠ e then d
      else match leNat ((f.payload.drop 4).take 1) with
      | 1 => takeLease 3 e d
      | 2 => onPair (fun p => { p with bid := none }) (learnEpoch (leNat (f.payload.drop 5)) d)
      | _ => d
    | none => d)

/-- LEASE_SUPPORT_LOST (R326): renewals stop at once. -/
def execLeaseSupportLost (s : State) : Host.Outcome State Fault Refusal :=
  let d := s.dev
  done s (if pairMode d && holds d && !leaseSupport d then onPair (fun p => { p with supportLost := true }) d else d)

/-- HOLDER_LEASE_END (R326): 4 ms after the last renewal sent. -/
def execHolderLeaseEnd (s : State) : Host.Outcome State Fault Refusal :=
  let d := s.dev
  done s (if pairMode d && holds d && d.pair.supportLost then
    enterSyncing (setNum 0x1C00 0x05 0 (onPair (fun p => { p with expiry := p.lastRenewal + ms 4 }) (reach (d.pair.lastRenewal + ms 4) d)))
  else d)

/-! Take-over of the control class (R330 to R332). -/

/-- The take-over condition at 7.9 µs of a period (R331). -/
def takeOverMet (d : Dev) : Bool :=
  let good := (cardsSeen d).filter (·.fresh)
  pairMode d && roleOf d == 1 && d.pair.mirrorInStep && d.pair.takeEpoch.isNone
    && (all 24).any (fun k => brickFitted k d && (d.brick[k]).fresh)
    && good.all (fun x => x.authority != (myPort d).val && x.orphan)

/-- The control class is taken over (R331): command frames at the take-over epoch to every card, the take-over mask, the count
and the gap in boundaries since the last downlink the cards applied. -/
def takeOver (d : Dev) : Dev :=
  let gap := (all 28).foldl (fun a i => max a (d.card[i]).miss) 0
  let d := onPair (fun p => { p with takeEpoch := some (epochKnown d + 1), takeMask := tab (fun _ => true) }) d
  raise 1 .takeOver [] (setNum 0x1C00 0x0F (min 8 gap : Nat) (setNum 0x1C00 0x0B 0xFFFFFFF (bump 0x1C00 0x0E d)))

/-- The epoch of this module's frames (R331, R344): the take-over epoch while it does not hold the lease. -/
def frameEpoch (d : Dev) : Nat := if holds d then epochKnown d else (d.pair.takeEpoch.getD (epochKnown d + 1))

/-- The fencing condition (R330). -/
def fenced (commands : Bool) (d : Dev) : Bool :=
  pairMode d && commands
    && (cardsSeen d).any (fun x => x.fresh && x.authority != (myPort d).val && !x.orphan && decide (frameEpoch d ≤ x.epoch))

/-- Whether this module sends command frames to a card in the present period (Table 11.1, R331, R344). -/
def commandsCard (c : Fin 28) (d : Dev) : Bool :=
  if holds d then (match d.pair.swap with
    | some (_, b, _, acked) => !(acked && d.sync.periods + 1 == b)
    | none => true)
  else d.pair.takeMask[c] || (match d.pair.yielded with
    | some (_, b) => d.sync.periods + 1 == b
    | none => false)

/-! The hot shadow (R338 to R341). -/

/-- A state word that holds a value in its class's format: mantissa and exponent packed, or the Q15 value sign-extended (Table 5.4). -/
def fixedWord (c : SlotClass) (x : Fixed) (d : Dev) : W32 :=
  if classBfp c d then BitVec.ofInt 16 x.m ++ BitVec.ofInt 8 x.e ++ (0 : Byte) else BitVec.ofInt 32 x.m
/-- The slots' state words (Table 5.4), class by class, then slot by slot. -/
def slotWords (d : Dev) : List W32 :=
  (all 96).flatMap (fun n => [fixedWord 0 d.eng.legX[n] d,
      BitVec.ofNat 32 (field (d.leg[n]).word.toNat 16 16 + (if d.eng.legStop[n] then 2 ^ 16 else 0) + if d.eng.legReused[n] then 2 ^ 17 else 0)])
    ++ (all 12).flatMap (fun j => let r := d.rail[j]
      [fixedWord 1 r.xv d, fixedWord 1 r.xc d, fixedWord 1 (stageOne (railVolts d) (r.sPrev / 100000 : Rat) 0).1 d,
        BitVec.ofNat 32 ((if r.currentMode then 1 else 0) + 4 * r.atLimit)])
    ++ d.eng.axis.toList.flatMap (fun a => [fixedWord 2 a.xa d, BitVec.ofInt 32 a.pPrev, BitVec.ofNat 32 a.follow])
    ++ d.eng.thermal.toList.flatMap (fun t => [fixedWord 3 t.xt d, BitVec.ofInt 32 (t.duty + if t.stale then 2 ^ 16 else 0)])
/-- The slot-state digest (R20, R341, Table 11.7). -/
def slotDigest (d : Dev) : W32 := crc32 ((slotWords d).flatMap (wordBytes 4))

/-- The part of the rotation that a slot's words belong to: sixteen runs of slots of nearly equal length. -/
def rotationOf (s : Fin 136) : Fin 16 := ⟨s.val * 16 / 136, by omega⟩

/-- Slot states restored from one part of the rotation (R341). -/
def restoreSlots (x : Mirror) (d : Dev) : Dev :=
  let mine (s : Fin 136) : Bool := rotationOf s == x.rotation
  let d := { d with eng := { d.eng with
    legX := tab (fun n => if mine (legSlotNo n) then x.legX[n] else d.eng.legX[n])
    axis := tab (fun a => if mine (axisSlotNo a) then x.axis[a] else d.eng.axis[a])
    thermal := tab (fun w => if mine thermalSlotNo then { d.eng.thermal[w] with xt := (x.thermal[w]).xt, duty := (x.thermal[w]).duty }
      else d.eng.thermal[w]) } }
  { d with rail := tab (fun j => let r := d.rail[j]
      if mine (railSlotNo j) then { r with xv := (x.rail[j]).xv, xc := (x.rail[j]).xc, sPrev := (x.rail[j]).sPrev } else r) }

/-- The mirrored states taken in place of the module's own (R338, Table 11.7). Samples stay the module's own. -/
def adoptMirror (x : Mirror) (d : Dev) : Dev :=
  let d := { d with
    alloc := x.alloc, ratio := x.ratio, ring := x.ring
    eng := { d.eng with gen := x.gen }
    rail := tab (fun j => let r := d.rail[j]
      { x.rail[j] with
        xv := r.xv, xc := r.xc, sPrev := r.sPrev, iRef := r.iRef, atLimit := r.atLimit, vPrev := r.vPrev, iPrev := r.iPrev })
    leg := tab (fun n => let l := x.leg[n]
      { d.leg[n] with
        state := l.state, shedCause := l.shedCause, cause := l.cause, share := l.share, belowBd := l.belowBd,
        implausible := l.implausible, brakeStart := l.brakeStart, awaiting := l.awaiting, goodSince := l.goodSince,
        resetBit := l.resetBit, resetWait := l.resetWait })
    out := tab (fun k => { x.out[k] with statusCount := (d.out[k]).statusCount, statusAt := (d.out[k]).statusAt, shown := (d.out[k]).shown })
    brick := tab (fun k => { d.brick[k] with contactor := x.brickContactor[k] }) }
  let d := { d with eng := { d.eng with thermal := tab (fun w =>
    { d.eng.thermal[w] with input := (x.thermal[w]).input, inputAt := (x.thermal[w]).inputAt, stale := (x.thermal[w]).stale }) } }
  let d := onLoad (fun l => { l with chan := tab (fun n =>
    let p := x.load[n]
    { l.chan[n] with partnerOn := p.1, partnerDuty := p.2.1, partnerI := p.2.2, partnerAt := d.time.now }) }) d
  let d := onPair (fun p => { p with late := x.late }) d
  x.entries.foldl (fun d e => setVal e.1 e.2 d) d

/-- Whether the partner reports the other metering type (R2): this module then does not shadow it. -/
def typesDiffer (d : Dev) : Bool := match d.pair.partner with
  | some q => q.indicative != Config.indicative
  | none => false

/-- Step 1 of a resynchronisation (R343): the partner's metering type and mirror format are this module's own. -/
def peersAgree (d : Dev) : Bool := match d.pair.partner with
  | some q => q.indicative == Config.indicative && q.format == nat d 0x1C00 0x11
  | none => false

/-- A module that has adopted the boundary phase goes on with the holder's phase and period count (R75): its boundary follows by one step a
period, for a boundary never steps (R74). -/
def followBoundary (x : Mirror) (d : Dev) : Dev :=
  if !d.pair.phaseAdopted then d else
  let diff : Int := (x.boundary : Int) - d.time.base - d.sync.boundary
  let n := divRound diff period
  { d with sync := { d.sync with count := ((x.count : Int) - n).toNat, periods := ((x.periods : Int) - n).toNat, trim := clamp (-1) 1 (diff - period * n) } }

/-- MIRROR_BLOCK (R2, R75, R338, R341, R343). A SYNCING module shadows nothing before it has passed step 1, and counts the rotation of the slot
states from step 4 on. -/
def execMirrorBlock (f : PeerFrame) (x : Mirror) (s : State) : Host.Outcome State Fault Refusal :=
  let (d, ok) := peerReceive 0x06 f s.dev
  done s (if !ok || holds d || typesDiffer d || (roleOf d == 0 && !peersAgree d) then d else
    let same := x.digest == slotDigest d
    let d := onPair (fun p => { p with
      lastMirror := some d.time.now, mirrorCount := x.periods, mirrorInStep := on d 0x1C00 0x06,
      equalRun := if same then min 1000 (p.equalRun + 1) else 0, differRun := if same then 0 else min 3 (p.differRun + 1) }) d
    if d.pair.takeEpoch.isSome then d else
    let d := followBoundary x (adoptMirror x d)
    if roleOf d = 0 then
      restoreSlots x (onPair (fun p => { p with
        rotations := if p.phaseAdopted then p.rotations ||| (1#16 <<< x.rotation.val) else 0 }) d)
    else d)

/-- IN_STEP_GAINED (R341, R343, Table 11.2). -/
def execInStepGained (s : State) : Host.Outcome State Fault Refusal :=
  let d := s.dev
  let p := d.pair
  let agree : Bool := match p.partner with
    | some q => q.indicative == Config.indicative && decide (2 ≤ q.role.val) && q.format == nat d 0x1C00 0x11 && q.pairCrc == nat d 0x1B41 0x07
    | none => false
  done s (if pairMode d && roleOf d == 0 && leaseValid d && agree && decide (1000 ≤ p.equalRun) && p.phaseAdopted && p.configPulled
      && p.rotations == 0xFFFF && decide (-5 ≤ p.timeOffset ∧ p.timeOffset ≤ 5) then
    onPair (fun p => { p with resyncAt := none, crcDiffers := none, mirrorInStep := true }) (setNum 0x1C00 0x06 1 (setRole 1 d))
  else d)

/-- IN_STEP_LOST (R341, Table 11.2): cause 0 the digests, 1 the pair CRCs for 1 s, 2 a silent mirror for 1 ms while the lease is valid. A digest
mismatch is counted on leaving. -/
def execInStepLost (cause : Fin 3) (s : State) : Host.Outcome State Fault Refusal :=
  let d := s.dev
  let lost : Option Dev := match cause with
    | 0 => if 3 ≤ d.pair.differRun then some d else none
    | 1 => d.pair.crcDiffers.map (fun t => reach (t + sec 1) d)
    | 2 => d.pair.lastMirror.map (fun t => reach (t + ms 1) d)
  done s (if !(pairMode d && roleOf d == 1 && on d 0x1C00 0x06) then d else
    match lost with
    | some d =>
      if leaseValid d then enterSyncing (bump 0x1C00 0x12 d)
      else if cause = 2 then d else setNum 0x1C00 0x06 0 (bump 0x1C00 0x12 d)
    | none => d)

/-- PEER_STATUS (R2, R323, R341). Status comes every 1 ms, and the manual does not say how often a lasting mismatch of the metering types is
reported: once by a module that does not hold the lease, until the types agree again (DESIGN CHOICE, log 155). -/
def execPeerStatus (f : PeerFrame) (x : PeerInfo) (s : State) : Host.Outcome State Fault Refusal :=
  let (d, ok) := peerReceive 0x07 f s.dev
  done s (if !ok then d else
    let mismatch := x.indicative != Config.indicative
    let tell := mismatch && !holds d && !d.pair.mismatchTold
    let d := onPair (fun p => { p with mismatchTold := mismatch && (p.mismatchTold || tell) }) (if tell then raise 6 .orderingMismatch [] d else d)
    let d := onPair (fun p => { p with
      partner := some x, crcDiffers := if x.pairCrc = nat d 0x1B41 0x07 then none else some (p.crcDiffers.getD d.time.now) }) d
    let d := setNum 0x1C00 0x08 x.serial.toNat (setNum 0x1C00 0x07 x.role.val d)
    if roleOf d = 3 ∧ x.role.val = 1 ∧ x.inStep then setRole 2 d
    else if roleOf d = 2 ∧ x.role.val ≠ 1 then setRole 3 d
    else d)

/-! Resynchronisation and the swap (R343, R344). -/

/-- RESYNCHRONISATION (R17, R75, R343 steps 1, 3 and 4): the metering types and the mirror formats agree and the configuration
has been pulled; the boundary phase and period count adopted, and the time base stepped once in a stay in SYNCING. -/
def execResynchronisation (holderTime boundary count : Nat) (s : State) : Host.Outcome State Fault Refusal :=
  let d := s.dev
  if !(pairMode d && roleOf d == 0 && leaseValid d && peersAgree d && d.pair.configPulled) then done s d else
  let jump : Int := if d.metro.aligned then 0 else (holderTime : Int) - siteTime d
  let base := d.time.base + jump
  let d := onPair (fun p => { p with phaseAdopted := true }) { d with
    sync := { d.sync with boundary := ((boundary : Int) - base).toNat, count := count, periods := count } }
  if d.metro.aligned then done s d else
  let d := { d with
    time := { d.time with base := base, pairStep := jump }
    metro := { d.metro with aligned := true } }
  let d := onPair (fun p => { p with timeOffset := 0 }) d
  .next { s with dev := auditAlways 8 (raise 7 .pairTimeStep (evData [(8, 10 * jump)]) d) }

/-- RESYNC_TIMEOUT (R343). -/
def execResyncTimeout (s : State) : Host.Outcome State Fault Refusal :=
  let d := s.dev
  done s (match d.pair.resyncAt with
    | some t => if roleOf d ≠ 0 then d else
      let d := reach (t + sec (nat d 0x1C01 0x04)) d
      raise 6 .resyncTimeout [] (onPair (fun p => { p with
        resyncAt := some d.time.now, rotations := 0, configPulled := false, phaseAdopted := false, equalRun := 0 }) d)
    | none => d)

/-- A swap begins (R344): the yield at the next epoch, for a boundary 100 periods ahead. -/
def beginSwap (d : Dev) : Dev :=
  let e := epochKnown d + 1
  let b := (d.sync.periods + 100) % 2 ^ 32
  peerSend 4 (leBytes 4 e ++ leBytes 4 b) (onPair (fun p => { p with swap := some (e, b, d.time.now, false) }) d)

/-- YIELD (R344): a STANDBY in step acknowledges. -/
def execYield (f : PeerFrame) (s : State) : Host.Outcome State Fault Refusal :=
  let (d, ok) := peerReceive 0x04 f s.dev
  let e := leNat (f.payload.take 4)
  done s (if !ok || f.payload.length ≠ 8 || roleOf d ≠ 1 || !on d 0x1C00 0x06 || e ≤ epochKnown d then d else
    peerSend 5 f.payload (onPair (fun p => { p with yielded := some (e, leNat (f.payload.drop 4)) }) d))

/-- YIELD_ACKNOWLEDGE (R344). -/
def execYieldAcknowledge (f : PeerFrame) (s : State) : Host.Outcome State Fault Refusal :=
  let (d, ok) := peerReceive 0x05 f s.dev
  done s (match d.pair.swap with
    | some (e, b, t, _) =>
      if ok && f.payload == leBytes 4 e ++ leBytes 4 b then onPair (fun p => { p with swap := some (e, b, t, true) }) d else d
    | none => d)

/-- YIELD_ACK_TIMEOUT (R344). -/
def execYieldAckTimeout (s : State) : Host.Outcome State Fault Refusal :=
  let d := s.dev
  done s (match d.pair.swap with
    | some (_, _, t, false) => raise 6 .swapFailed [] (onPair (fun p => { p with swap := none }) (reach (t + ms 1) d))
    | _ => d)

/-- SWAP_BOUNDARY (R344). -/
def execSwapBoundary (s : State) : Host.Outcome State Fault Refusal :=
  let d := s.dev
  let reached (b : Nat) : Bool := d.sync.periods == b
  done s (match d.pair.swap, d.pair.yielded with
    | some (e, b, _, true), _ =>
      if reached b && roleOf d == 2 then
        setNum 0x1C00 0x06 1 (setRole 1 (learnEpoch e (onPair (fun p => { p with
          swap := none, expiry := d.time.now + ms 4, lastValid := d.time.now, mirrorInStep := true, lastMirror := some d.time.now }) d)))
      else d
    | _, some (e, b) => if reached b && roleOf d == 1 then takeLease 2 e d else d
    | _, _ => d)

/-- SWITCH_OVER_TARGET_HOLD_EXPIRY (R336): cause 5. -/
def execSwitchOverTargetHoldExpiry (k : Fin 12) (s : State) : Host.Outcome State Fault Refusal :=
  let d := s.dev
  done s (match (d.out[k]).swHold with
    | some t =>
      let d := onOut k (fun o => { o with swHold := none, grantCap := none }) (reach (t + ms (nat d 0x1C01 0x03)) d)
      if inCharge (d.out[k]).state then raiseCause k 5 d else d
    | none => d)

end Sys2Proof.Machine
end

