-- ==== Sys2Proof/Machine/SiteBus.lean ====
section
/-! DEFINITION. The CAN FD controllers, address claiming, Ethernet, TLS connections and time following (R346 to R364,
R386 to R390). -/
namespace Sys2Proof.Machine

/-- A controller changed. -/
def onCan (c : Fin 2) (f : CanCtl → CanCtl) (d : Dev) : Dev :=
  { d with site := { d.site with can := upd d.site.can c f } }
/-- The entry index of a controller, 0x120c with c = 1, 2. -/
def canIdx (c : Fin 2) : Nat := 0x1201 + c.val
/-- A controller follows its Enabled entry: one disabled leaves the bus, one enabled comes up. -/
def enableCan (c : Fin 2) (enabled : Bool) (d : Dev) : Dev :=
  onCan c (fun q => { q with bus := if !enabled then .disabled else if q.bus = .disabled then .active else q.bus }) d
/-- The function code of a frame (R349). -/
def funcCode (id : BitVec 11) : Nat := id.toNat / 128
/-- The node ID field of a frame (R349). -/
def nodeOf (id : BitVec 11) : Nat := id.toNat % 128
/-- The identifier of a function code and a node. -/
def canId (code node : Nat) : BitVec 11 := BitVec.ofNat 11 (code * 128 + node % 128)

/-- The next allowed CAN FD data length (R350). -/
def canLength (n : Nat) : Nat :=
  if n ≤ 8 then n else ((([12, 16, 20, 24, 32, 48, 64] : List Nat).find? (fun l => n ≤ l)).getD 64)
/-- A content padded with zeros to an allowed length (R350). -/
def canPad (b : List Byte) : List Byte := b ++ List.replicate (canLength b.length - b.length) 0

/-- Whether the module may send a frame: every identifier holds its node ID (Table 12.2), so it sends none before it holds one, but the
claim for the ID it claims; in address conflict it sends no frame at all (R364). -/
def maySend (f : CanFrame) (d : Dev) : Bool :=
  d.site.addr.state == .held || (d.site.addr.state == .claiming && funcCode f.id == 0xE)

/-- A frame goes into a staging queue, urgent for Ridge frames (R352); a full queue refuses and counts it. -/
def stage (c : Fin 2) (urgent : Bool) (f : CanFrame) (d : Dev) : Dev :=
  if !maySend f d ∨ !on d (canIdx c) 0x01 then d
  else
    let q := d.site.can[c]
    if urgent then
      if q.urgent.length < 16 then onCan c (fun q => { q with urgent := q.urgent ++ [f] }) d else bump (canIdx c) 0x0D d
    else if q.normal.length < 128 then onCan c (fun q => { q with normal := q.normal ++ [f] }) d
    else bump (canIdx c) 0x0D d

/-- A frame on every enabled controller. -/
def stageAll (f : CanFrame) (d : Dev) : Dev := stage 1 false f (stage 0 false f d)

/-- The normal frame that enters the FIFO first: lowest function code, then arrival (R352). -/
def firstNormal (l : List CanFrame) : Option CanFrame :=
  l.foldl (fun b f => match b with
    | none => some f
    | some g => if funcCode f.id < funcCode g.id then some f else some g) none

/-- STAGING_ADMISSION (R352): an urgent frame enters whenever the FIFO has room, a normal one only below the admission
limit. -/
def stagingAdmission (c : Fin 2) (d : Dev) : Dev :=
  let q := d.site.can[c]
  let d' := match q.urgent with
    | f :: r => if q.fifo.length < 32 then onCan c (fun q => { q with urgent := r, fifo := q.fifo ++ [f] }) d else d
    | [] =>
      match firstNormal q.normal with
      | some f =>
        if q.fifo.length < 32 ∧ q.fifo.length < nat d (canIdx c) 0x0B
        then onCan c (fun q => { q with normal := q.normal.erase f, fifo := q.fifo ++ [f] }) d else d
      | none => d
  setNum (canIdx c) 0x0C (max (num d' (canIdx c) 0x0C) (d'.site.can[c]).fifo.length) d'

/-- STAGING_ADMISSION. -/
def execStagingAdmission (c : Fin 2) (s : State) : Host.Outcome State Fault Refusal := done s (stagingAdmission c s.dev)

/-- Whether a controller takes part in the bus. -/
def busOn (c : Fin 2) (d : Dev) : Bool := (d.site.can[c]).bus == .active || (d.site.can[c]).bus == .passive

/-- CAN_FRAME_TRANSMITTED (R351, R358): the head of the FIFO wins arbitration, is sent and stamped. -/
def execCanFrameTransmitted (c : Fin 2) (s : State) : Host.Outcome State Fault Refusal :=
  let d := s.dev
  done s (match (d.site.can[c]).fifo with
    | f :: r => if busOn c d && maySend f d then onCan c (fun q => { q with fifo := r, lastSent := some (islandTime 0 d) }) d else d
    | [] => d)

/-- BUS_OFF (R347): the FIFO keeps its content. -/
def execBusOff (c : Fin 2) (s : State) : Host.Outcome State Fault Refusal :=
  done s (if busOn c s.dev then
    raise1 0 .busOff c.val (bump (canIdx c) 0x0A (onCan c (fun q => { q with bus := .off }) s.dev)) else s.dev)

/-- BUS_OFF_RECOVERY (R347): after 128 occurrences of 11 recessive bits. -/
def execBusOffRecovery (c : Fin 2) (s : State) : Host.Outcome State Fault Refusal :=
  done s (if (s.dev.site.can[c]).bus = .off then
    setNum (canIdx c) 0x08 0 (setNum (canIdx c) 0x09 0 (onCan c (fun q => { q with bus := .active }) s.dev)) else s.dev)

/-- The content length of a frame: the one that its own content names (R350), or that of its function code (Table 12.2); none for a code
that the TH-96 does not use. -/
def contentLength (f : CanFrame) : Option Nat :=
  match funcCode f.id with
  | 0x0 => some (14 + (f.data.getD 5 0).toNat)
  | 0xB | 0xC | 0x5 => some (11 + leNat ((f.data.drop 9).take 2))
  | 0x1 | 0xE => some 16
  | 0x2 => some 12
  | 0x3 | 0xF => some 8
  | _ => none

/-- Whether a filter passes a frame (R356). -/
def filterPasses (w : Nat) (id : BitVec 11) : Bool :=
  bit w 31 && (id.toNat &&& field w 0 11) == (field w 16 11 &&& field w 0 11)

/-- The first filter that passes, by number (R356). -/
def filterOf (c : Fin 2) (id : BitVec 11) (d : Dev) : Option Nat :=
  ((List.range 32).map (· + 1)).find? (fun n => filterPasses (nat d (0x1203 + c.val) n) id)

/-- The bytes of a dictionary message (Table 12.8). -/
def dictBytes (m : DictMsg) : List Byte :=
  leBytes 1 m.service ++ leBytes 1 m.tag ++ leBytes 1 m.session ++ leBytes 1 m.flags ++ leBytes 2 m.index ++ leBytes 1 m.sub
    ++ leBytes 1 0 ++ leBytes 2 m.data.length ++ m.data

/-- A message leaves on the transport of a connection; on CAN FD it is one frame, preceded by the host's node ID, which goes
into the staging queue of the controller that carried the request (R348, R366, Table 12.2). A message of more than 53 data
bytes, a frame notice of a long frame, fits no CAN FD frame. -/
def deliver (conn : Conn) (code : Nat) (m : DictMsg) (d : Dev) : Dev := match conn with
  | .can c node => if 53 < m.data.length then d else stage c false ⟨canId code d.site.addr.id, true, canPad (leBytes 1 node.toNat ++ dictBytes m), islandTime 0 d⟩ d
  | _ => d

/-- An unasked message to a session (R365: tag 0). -/
def notify (n : Fin 6) (service : Nat) (data : List Byte) (d : Dev) : Dev :=
  let m : DictMsg := ⟨service, 0, n.val + 1, 0, 0, 0, data⟩
  match (d.site.sessions[n]).conn with
  | some q => deliver q 0xC m { d with site := { d.site with sessions := upd d.site.sessions n (fun x => { x with notice := some m }) } }
  | none => d
/-- A notice (Table 12.9, service 0x33) with its code and group. -/
def notice (n : Fin 6) (code group : Nat) (d : Dev) : Dev :=
  notify n 0x33 [BitVec.ofNat 8 code, BitVec.ofNat 8 group] d
/-- A notice to every open session. -/
def noticeAll (code group : Nat) (d : Dev) : Dev := (all 6).foldl (fun d n => notice n code group d) d

/-- The frame notice of a received frame (Table 12.9, service 0x34). -/
def frameNotice (c : Fin 2) (f : CanFrame) : List Byte :=
  leBytes 2 f.id.toNat ++ leBytes 1 (c.val + if f.fd then 2 else 0) ++ leBytes 8 f.stamp
    ++ leBytes 1 f.data.length ++ f.data

/-- Bytes of a payload, as a number. -/
def payload (f : CanFrame) (lo n : Nat) : Nat := leNat ((f.data.drop lo).take n)

/-- A node ID seen in a heartbeat or a claim is noted (R363). -/
def hear (id : Nat) (d : Dev) : Dev :=
  if 1 ≤ id ∧ id ≤ 32 then
    { d with site := { d.site with addr := { d.site.addr with heard := d.site.addr.heard ||| (1#33 <<< id) } } } else d

/-- CAN_FRAME_RECEIVED (R346, R350, R356 to R358): the frame is stamped and filtered into a receive queue, or into a frame
notice for the owner of the site bus monitor group, or it is discarded and counted. -/
def canReceive (c : Fin 2) (f : CanFrame) (extended remote : Bool) (d : Dev) : Dev :=
  if !busOn c d || remote then d
  else if extended then bump (canIdx c) 0x10 d
  else if (match contentLength f with | some n => decide (f.data.length < n) | none => false) then bump (canIdx c) 0x10 d
  else
    let f := { f with stamp := islandTime 0 d }
    let d := if funcCode f.id = 0xF then hear (nodeOf f.id) d else d
    match filterOf c f.id d with
    | none => bump (canIdx c) 0x10 d
    | some n =>
      if 6 ≤ n then
        match d.site.owners[(6 : Fin 60)] with
        | 0 => bump (canIdx c) 0x10 d
        | o + 1 => if h : o < 6 then notify ⟨o, h⟩ 0x34 (frameNotice c f) d else d
      else
        let q := d.site.can[c]
        if bit (nat d (0x1203 + c.val) n) 30 then
          if q.rxq1.length < 64 then onCan c (fun q => { q with rxq1 := q.rxq1 ++ [f] }) d else bump (canIdx c) 0x0F d
        else if q.rxq0.length < 64 then onCan c (fun q => { q with rxq0 := q.rxq0 ++ [f] }) d
        else bump (canIdx c) 0x0E d

/-- CAN_FRAME_RECEIVED. -/
def execCanFrameReceived (c : Fin 2) (f : CanFrame) (extended remote : Bool) (s : State) : Host.Outcome State Fault Refusal :=
  done s (canReceive c f extended remote s.dev)

/-- The host island takes a frame from the receive queues: RXQ0 is emptied before any frame of RXQ1 (R357). None where the
frame is not the next. -/
def takeFrame (c : Fin 2) (f : CanFrame) (d : Dev) : Option Dev :=
  let q := d.site.can[c]
  match q.rxq0, q.rxq1 with
  | g :: r, _ => if g = f then some (onCan c (fun q => { q with rxq0 := r }) d) else none
  | [], g :: r => if g = f then some (onCan c (fun q => { q with rxq1 := r }) d) else none
  | [], [] => none

/-- A claim or defend frame (Table 12.7): kind 1 or 2, seven reserved bytes, the serial number. -/
def claimFrame (kind id : Nat) (d : Dev) : CanFrame :=
  ⟨canId 0xE id, true, leBytes 8 kind ++ leBytes 8 Config.serial.toNat, d.time.now⟩

/-- Address claiming changed. -/
def onAddr (f : Addr → Addr) (d : Dev) : Dev := { d with site := { d.site with addr := f d.site.addr } }

/-- A claim for an ID on every enabled controller, and the 100 ms of listening begin (R363). -/
def claimId (id : Nat) (d : Dev) : Dev :=
  let d := onAddr (fun a => { a with state := .claiming, id := id, since := d.time.now }) d
  stageAll (claimFrame 1 id d) d

/-- Claiming starts (R363): for the stored ID, or with 300 ms of listening. -/
def startClaim (d : Dev) : Dev :=
  match nat d 0x1200 0x01 with
  | 0 => onAddr (fun a => { a with state := .listening, id := 0, since := d.time.now, heard := 0, tries := 0 }) d
  | id => claimId id d

/-- The lowest ID from 1 to 32 not heard (R363). -/
def freeId (d : Dev) : Option Nat :=
  ((List.range 32).map (· + 1)).find? (fun i => !d.site.addr.heard.getLsbD i)

/-- The next claim without a stored ID, or the no-address state (R363). -/
def claimNext (d : Dev) : Dev :=
  match freeId d with
  | some id => if d.site.addr.tries < 32 then claimId id (onAddr (fun a => { a with tries := a.tries + 1 }) d)
    else raise 0 .noAddress [] (onAddr (fun a => { a with state := .noAddress }) d)
  | none => raise 0 .noAddress [] (onAddr (fun a => { a with state := .noAddress }) d)

/-- ADDR_IN_HIGH (R362): a module claims once ADDR_IN has been high for 10 ms. -/
def execAddrInHigh (s : State) : Host.Outcome State Fault Refusal :=
  let d := onAddr (fun a => { a with addrInHigh := true }) s.dev
  done s (if d.site.addr.state = .waiting ∧ up 0 d then startClaim d else d)

/-- ADDRESS_LISTEN_EXPIRY (R363). -/
def execAddressListenExpiry (s : State) : Host.Outcome State Fault Refusal :=
  let d := s.dev
  done s (if d.site.addr.state = .listening then claimNext (reach (d.site.addr.since + ms 300) d) else d)

/-- A configuration store has an unsaved write (R470): 0 the host leaves, 1 the field leaves. -/
def markStore (st : Fin 2) (d : Dev) : Dev :=
  { d with sys := { d.sys with store := upd d.sys.store st (fun x => { x with unsaved := some d.time.now }) } }

/-- CLAIM_LISTEN_EXPIRY (R362, R363): the claim is held, stored where none was stored, and ADDR_OUT goes high. -/
def execClaimListenExpiry (s : State) : Host.Outcome State Fault Refusal :=
  let d := s.dev
  done s (if d.site.addr.state = .claiming then
    let d := reach (d.site.addr.since + ms 100) d
    let d := if num d 0x1200 0x01 = 0 then markStore 0 (setNum 0x1200 0x01 d.site.addr.id d) else d
    onAddr (fun a => { a with state := .held, addrOut := true }) d
  else d)

/-- The module's claims leave the transmit FIFOs: a claim is sent once, without automatic retransmission (R351). -/
def dropClaims (d : Dev) : Dev :=
  { d with site := { d.site with can := d.site.can.map (fun q => { q with fifo := q.fifo.filter (fun f => funcCode f.id != 0xE) }) } }

/-- CLAIM_RETRY_DELAY (R351, R363): a claim corrupted on the bus is repeated after a random delay of 10 ms to 50 ms, and listened for anew. -/
def execClaimRetryDelay (s : State) : Host.Outcome State Fault Refusal :=
  let d := s.dev
  done s (if d.site.addr.state = .claiming then
    let (r, d) := freeNat (dropClaims d)
    claimId d.site.addr.id (reach (d.time.now + ms 10 + r % (ms 40 + 1)) d)
  else d)

/-- A received claim or defend (R363, R364). -/
def addressClaim (f : CanFrame) (d : Dev) : Dev :=
  let id := nodeOf f.id
  let foreign := payload f 8 8 ≠ Config.serial.toNat
  let d := hear id d
  let a := d.site.addr
  if !foreign ∨ a.id ≠ id then d
  else if a.state = .held ∧ payload f 0 1 = 1 then stageAll (claimFrame 2 id d) d
  else if a.state = .claiming ∧ payload f 0 1 = 2 then
    if num d 0x1200 0x01 = 0 then claimNext d
    else raise1 0 .addressConflict id (onAddr (fun a => { a with state := .conflict, addrOut := false }) d)
  else d

/-- ADDRESS_CLAIM (R363, R364). -/
def execAddressClaim (c : Fin 2) (f : CanFrame) (s : State) : Host.Outcome State Fault Refusal :=
  done s (match (if funcCode f.id = 0xE then takeFrame c f s.dev else none) with
    | some d => addressClaim f d
    | none => s.dev)

/-- A re-claim command drops ADDR_OUT and claims again (R362, R364). -/
def reClaim (d : Dev) : Dev :=
  let d := onAddr (fun a => { a with state := .waiting, id := 0, addrOut := false, since := d.time.now }) d
  if d.site.addr.addrInHigh then startClaim d else d

/-- Site power data of a front end queued for the field side: the newest by its stamp replaces, in its place, the message of the same front
end that still waits, so that the front ends are relayed in turn (R348, R359). -/
def relayFrontEnd (i : Nat) (m : TenonOut) (stamp : Nat) (d : Dev) : Dev :=
  let mine : TenonOut → Bool := fun x => x.type == 0x0B && x.key == i
  match ((laneOf .hf d).queue[(1 : Fin 4)]).find? mine with
  | some x => if x.items.getD 6 0 ≤ (stamp : Int)
    then onLane .hf (fun s => { s with queue := upd s.queue 1 (·.map (fun x => if mine x then { m with at_ := x.at_ } else x)) }) d else d
  | none => enqueue .hf m d

/-- FRONT_END_STATUS (R359, Table 12.6): a frame of a listed node is relayed as site power data. -/
def frontEndStatus (f : CanFrame) (d : Dev) : Dev :=
  match (List.range 8).find? (fun i => nat d 0x1211 (i + 1) == nodeOf f.id && nodeOf f.id != 0) with
  | none => d
  | some i =>
    let live := payload f 10 1 = 1 ∨ payload f 10 1 = 2
    let imp := if live then payload f 0 4 else 0
    let exp := if live then payload f 4 4 else 0
    let d := setNum 0x1213 (i + 1) exp (setNum 0x1212 (i + 1) imp d)
    relayFrontEnd i (tenonItems 0x0B 1 i 64 [0, i, imp, exp, payload f 8 2, payload f 10 1, f.stamp] d) f.stamp d

/-- FRONT_END_STATUS. -/
def execFrontEndStatus (c : Fin 2) (f : CanFrame) (s : State) : Host.Outcome State Fault Refusal :=
  done s (match (if funcCode f.id = 0x1 then takeFrame c f s.dev else none) with
    | some d => frontEndStatus f d
    | none => s.dev)

/-- The outlets whose IMD source names a node on the site bus (R360). -/
def imdOutlets (node : Nat) (d : Dev) : List (Fin 12) :=
  (all 12).filter (fun k => nat d (0x3001 + 16 * k.val) 0x08 == 0x100 + node)

/-- An IMD reading is dated by its stamp less its age and sent on to the outlets it serves (R360). -/
def imdReadingFrame (f : CanFrame) (d : Dev) : Dev :=
  (imdOutlets (nodeOf f.id) d).foldl (fun d k =>
    enqueue .hf (tenonItems 0x0B 1 (16 + k.val) 64
      [1, k.val, payload f 0 2, payload f 2 1, payload f 6 2, (f.stamp : Int) - ms (payload f 4 2)] d) d) d

/-- IMD_READING_FRAME (R360). -/
def execImdReadingFrame (c : Fin 2) (f : CanFrame) (s : State) : Host.Outcome State Fault Refusal :=
  done s (match (if funcCode f.id = 0x2 then takeFrame c f s.dev else none) with
    | some d => imdReadingFrame f d
    | none => s.dev)

/-- ETHERNET_LINK_CHANGE (R386). -/
def execEthernetLinkChange (port : Fin 2) (link : Fin 3) (s : State) : Host.Outcome State Fault Refusal :=
  done s { s.dev with site := { s.dev.site with ethLink := upd s.dev.site.ethLink port (fun _ => link.val) } }

/-- TLS_CONNECTION (R386, R387): a TCP connection takes the lowest free place and starts its handshake; a fifth is closed at
once. -/
def execTlsConnection (port : Fin 2) (s : State) : Host.Outcome State Fault Refusal :=
  let d := s.dev
  done s (if d.site.ethLink[port] = 0 then d else
    match (all 4).find? (fun n => (d.site.tls[n]).isNone) with
    | some n => { d with site := { d.site with tls := upd d.site.tls n (fun _ => some ⟨d.time.now, false⟩) } }
    | none => d)

/-- A TCP connection closed. -/
def closeTcp (n : Fin 4) (d : Dev) : Dev := { d with site := { d.site with tls := upd d.site.tls n (fun _ => none) } }

/-- TLS_HANDSHAKE_TIMEOUT (R387): a handshake not complete within 10 s. -/
def execTlsHandshakeTimeout (n : Fin 4) (s : State) : Host.Outcome State Fault Refusal :=
  let d := s.dev
  done s (match d.site.tls[n] with
    | some c => if c.established then d else bump 0x1410 0x02 (closeTcp n (reach (c.since + sec 10) d))
    | none => d)

/-- TLS_IDLE_TIMEOUT (R387): a connection without an open session for 10 s since its handshake or its last session. -/
def execTlsIdleTimeout (n : Fin 4) (s : State) : Host.Outcome State Fault Refusal :=
  let d := s.dev
  done s (match d.site.tls[n] with
    | some c =>
      if d.site.sessions.toList.all (fun x => x.conn ≠ some (.tls n)) then closeTcp n (reach (c.since + sec 10) d) else d
    | none => d)

/-- Time following changed. -/
def onPtp (f : Ptp → Ptp) (d : Dev) : Dev := { d with site := { d.site with ptp := f d.site.ptp } }

/-- A Sync and Delay_Resp pair (R389): the offset from master by the delay request-response mechanism, the wall-clock offset
against the site time base, the rate estimate, and the counts of consecutive offsets within and beyond the limit. -/
def ptpSync (x : PtpExchange) (d : Dev) : Dev :=
  let p := d.site.ptp
  let delay := ((x.t2 - x.t1) + (x.t4 - x.t3)) / 2
  let offset := x.t2 - x.t1 - delay
  let wall := x.t1 + delay - x.utcOffset * 1000000000 - x.t2
  let inside := decide (offset.natAbs ≤ nat d 0x1420 0x0A)
  let within := if inside then p.within + 1 else 0
  let beyond := if inside then 0 else p.beyond + 1
  let sync := if 16 ≤ within then true else if 16 ≤ beyond then false else p.synchronised
  let (rate, d) := freeInt d
  onPtp (fun _ => { state := 3, within := within, beyond := beyond, lastSync := d.time.now, offset := offset,
                    rate := rate, grandmaster := x.grandmaster.toNat, wall := wall, slipFrom := none,
                    synchronised := sync }) d

/-- Whether an exchange is one of the selected port, domain and transport, at a supported sync interval (R388). -/
def ptpTakes (x : PtpExchange) (d : Dev) : Bool :=
  on d 0x1420 0x01 && up 0 d && d.site.ethLink[x.port] != 0 && x.port.val == nat d 0x1420 0x02 && x.domain == nat d 0x1420 0x03
    && x.transport == nat d 0x1420 0x04 && decide (-4 ≤ x.interval ∧ x.interval ≤ 1)

/-- PTP_SYNC (R388, R389). -/
def execPtpSync (x : PtpExchange) (s : State) : Host.Outcome State Fault Refusal :=
  done s (if ptpTakes x s.dev then ptpSync x s.dev else s.dev)

/-- PTP_SYNC_LOSS (R389): no Sync for 4 s; the wall clock runs on and the synchronised flag is cleared. -/
def execPtpSyncLoss (s : State) : Host.Outcome State Fault Refusal :=
  let d := s.dev
  done s (if d.site.ptp.state = 3 then
    let d := reach (d.site.ptp.lastSync + sec 4) d
    onPtp (fun p => { p with state := 1, within := 0, beyond := 0, slipFrom := some d.time.now, synchronised := false }) d
  else d)

/-- The present wall-clock offset in ns: after a loss it runs on at the last rate estimate (R389). -/
def wallOffset (d : Dev) : Int := match d.site.ptp.slipFrom with
  | some t => d.site.ptp.wall + d.site.ptp.rate * (10 * (d.time.now - t : Nat) : Int) / 1000000000
  | none => d.site.ptp.wall
/-- The present wall clock in ns since 1970 (R390). -/
def wallClock (d : Dev) : Int := 10 * (siteTime d : Int) + wallOffset d

end Sys2Proof.Machine
end

