-- ==== Sys2Proof/Machine/EaveQueue.lean ====
section
/-! DEFINITION. What the Eaveline master holds of its nodes, and the messages that wait for a node (R402, R407, R413, R416). -/
namespace Sys2Proof.Machine

/-- The line island, and one node's record at the master, changed. -/
def onEave (f : Eave → Eave) (d : Dev) : Dev := { d with eave := f d.eave }
def onNode (n : Fin 16) (f : EaveNode → EaveNode) (d : Dev) : Dev := onEave (fun e => { e with node := upd e.node n f }) d
def onSide (n : Fin 16) (f : NodeSide → NodeSide) (d : Dev) : Dev := onEave (fun e => { e with side := upd e.side n f }) d
/-- The index of a node's entries. -/
def nodeIdx (n : Fin 16) : Nat := 0x1310 + n.val
/-- Whether this module's line island is master (R416). -/
def isMaster (d : Dev) : Bool := up 5 d && on d 0x1300 0x01 && holds d && d.eave.master
/-- Whether a node is admitted. -/
def admitted (n : Fin 16) (d : Dev) : Bool := d.eave.admitted.getLsbD n.val

/-- The class index of a message: 0 vehicle frames, 1 management. -/
def clsIdx (cls : Nat) : Fin 2 := if cls = 2 then 0 else 1
/-- A message queued for a node with its 2-byte header: the type in the top four bits, the length below (Table 13.9). -/
def queueMsg (n : Fin 16) (cls type : Nat) (content : List Byte) (d : Dev) : Dev :=
  let x := d.eave.node[n]
  if 16 ≤ (x.out.filter (fun m => m.cls == cls)).length then d else
  let q := x.nextSeq[clsIdx cls]
  onNode n (fun x => { x with
    out := x.out ++ [⟨cls, q, leBytes 2 (type * 4096 + content.length) ++ content, 0⟩],
    nextSeq := upd x.nextSeq (clsIdx cls) (fun q => (q + 1) % 256) }) d

/-- A frame of an outlet's vehicle link handed to the line (R192, R413): it waits for the outlet's head node; one for a node that is not
admitted is discarded and counted. Of the frame the manual gives the kind and the range of lengths only: length and content are free
values. -/
def sendFrame (k : Fin 12) (d : Dev) : Dev :=
  if h : nat d (outIdx k 1) 0x05 < 16 then
    let n : Fin 16 := ⟨nat d (outIdx k 1) 0x05, h⟩
    if !admitted n d then onEave (fun e => { e with strayFrames := e.strayFrames + 1 }) d else
    let (len, d) := freeNat d
    let (x, d) := freeNat d
    queueMsg n 2 0x1 (leBytes (40 + len % 1461) x) d
  else d

end Sys2Proof.Machine
end

