-- ==== Sys2Proof/Machine/Vehicle.lean ====
section
/-! DEFINITION. Vehicle sessions in the host island, head and site data, cable cooling, and the contactor and rail events that
close one family over another (R186 to R192, R204 to R207, R361). -/
namespace Sys2Proof.Machine

/-! The host island's vehicle sessions (R186 to R192). -/

/-- The index of an outlet's vehicle and authorization entries. -/
def vehIdx (k : Fin 12) : Nat := 0x3110 + k.val
def authIdx (k : Fin 12) : Nat := 0x3120 + k.val

/-- A target update's payload (Table 7.5) with its request time and its count. -/
def updateBytes (k : Fin 12) (r : VehicleRequest) (authorized rejected : Bool) (protocol time count : Nat) : List Byte :=
  evData [(1, (k.val : Int)), (1, (r.phase.val : Int)),
    (2, flag authorized + 2 * flag r.bidirectional + 4 * flag r.dynamic + 8 * flag rejected),
    (4, (r.targetV : Int)), (2, r.current), (2, (r.maxI : Int)), (2, (r.maxDis : Int)), (4, (r.maxV : Int)), (4, (r.minV : Int)),
    (4, (r.presentV : Int)), (8, (time : Int)), (4, (count : Int)), (1, (protocol : Int)), (9, 0)]

/-- The fields of an update that a request can change: all but its request time and its count. -/
def updateFields (b : List Byte) : List Byte := b.take 26 ++ b.drop 38

/-- A target update sent across the barrier where it changes any field (R186). -/
def sendUpdate (k : Fin 12) (r : VehicleRequest) (rejected : Bool) (d : Dev) : Dev :=
  let v := d.vehicle[k]
  let b := updateBytes k r v.authorized rejected v.protocol d.time.now ((v.count + 1) % 2 ^ 32)
  if updateFields b = updateFields v.update then d else
  onVehicle k (fun v => { v with count := (v.count + 1) % 2 ^ 32, lastSent := d.time.now, update := b })
    (enqueue .hf (tenonBytes 0x08 0 0 1 k.val b d) d)

/-- A request with nothing but its phase. -/
def bareRequest (phase : Fin 7) : VehicleRequest := ⟨phase, 0, 0, 0, 0, 0, 0, 0, false, false⟩

/-- A response to the vehicle, which leaves over the line; its code is the protocol's own (0x311k.05). -/
def answerVehicle (k : Fin 12) (d : Dev) : Dev :=
  let (n, d) := freeNat d
  sendFrame k (setNum (vehIdx k) 0x05 (n % 65536 : Nat) d)

/-- The session-end phase (R188, R192); with `rejected` it carries the authorization's rejection (R191). -/
def endVehicle (k : Fin 12) (rejected : Bool) (d : Dev) : Dev :=
  let d := if (d.vehicle[k]).protocol = 0 then d else sendUpdate k (bareRequest 6) rejected d
  onVehicle k (fun v => { v with tls := false, pendingSince := none, authorized := false, protocol := 0 }) d

/-- Whether the protocol of a code can be used by an outlet (R188, R189, Table 7.7). -/
def protocolFits (k : Fin 12) (tls : Bool) (p : Nat) (d : Dev) : Bool :=
  let eim := on d 0x3100 0x03
  let pnc := on d 0x3100 0x02
  let mcs := num d (outIdx k 1) 0x01 == 1
  match p with
  | 1 => !mcs && eim && !tls
  | 2 => !mcs && (if tls then eim || pnc else eim && num d 0x3100 0x05 == 0)
  | 3 => (eim || pnc) && tls
  | _ => false

/-- The protocol selected (R189): the first of the priority entry that the vehicle offers and the outlet can use. -/
def selectProtocol (k : Fin 12) (offer : List Nat) (tls : Bool) (d : Dev) : Option Nat :=
  let pr := nat d 0x3100 0x01
  [field pr 8 4, field pr 4 4, field pr 0 4].find? (fun p => offer.contains p && protocolFits k tls p d)

/-- An authorization becomes pending (R191). -/
def askAuthorization (k : Fin 12) (mode : Nat) (d : Dev) : Dev :=
  onVehicle k (fun v => { v with pendingSince := some d.time.now, authorized := false })
    (setNum (authIdx k) 0x01 0 (setNum (authIdx k) 0x02 mode d))

/-- Whether the root that a contract chain validates to is in the key store (R191). -/
def contractRoot (root : Option (Fin 8)) (d : Dev) : Bool := match root with
  | some r => bytesOf (getVal d (key 0x1A21 (r.val + 1))) != []
  | none => false

/-- A message of the vehicle (R188 to R192, R235). -/
def vehicleMessage (k : Fin 12) (m : VehicleMsg) (d : Dev) : Dev :=
  let v := d.vehicle[k]
  let d := answerVehicle k d
  match m with
  | .offer l tls => match selectProtocol k l tls d with
    | some p => sendUpdate k (bareRequest 0) false
        (onVehicle k (fun v => { v with tls := tls, protocol := p, pendingSince := none, authorized := false, update := [] }) d)
    | none => d
  | .identify pnc root chain ident =>
    if v.protocol = 0 then d
    else if pnc then
      if !on d 0x3100 0x02 ∨ v.protocol = 1 ∨ !v.tls then endVehicle k false d
      else if !contractRoot root d then endVehicle k true d
      else askAuthorization k 2 (setOct (authIdx k) 0x05 (ident.take 20) (setOct (authIdx k) 0x03 (Config.sha256 chain)
        (setOct (authIdx k) 0x04 chain d)))
    else if !on d 0x3100 0x03 then endVehicle k false d
    else askAuthorization k 1 d
  | .data ident service soc =>
    setNum (vehIdx k) 0x04 soc (setNum (vehIdx k) 0x02 service (setOct (vehIdx k) 0x01 (ident.take 8) d))
  | .request r =>
    if v.protocol = 0 then d
    else if r.phase = 1 ∧ 48 ≤ d.metro.ring.length then d
    else sendUpdate k r false (setNum (vehIdx k) 0x03 (flag (r.dynamic && v.protocol == 3)) d)
  | .oversize n => if n ≤ 8192 then d else endVehicle k false d
  | .unsupported => endVehicle k false d
  | .closed => endVehicle k false d

/-- VEHICLE_MESSAGE (R188 to R192). -/
def execVehicleMessage (k : Fin 12) (v : VehicleMsg) (s : State) : Host.Outcome State Fault Refusal :=
  done s (if up 0 s.dev then vehicleMessage k v s.dev else s.dev)

/-- The result of an authorization (R191): accepted, or rejected with the session-end phase. -/
def authorize (k : Fin 12) (result : Nat) (d : Dev) : Dev :=
  let d := setNum (authIdx k) 0x01 result d
  if result = 1 then onVehicle k (fun v => { v with pendingSince := none, authorized := true }) d
  else if result = 2 then endVehicle k true d
  else d

/-- AUTHORIZATION_TIMEOUT (R191). -/
def execAuthorizationTimeout (k : Fin 12) (s : State) : Host.Outcome State Fault Refusal :=
  let d := s.dev
  done s (match (d.vehicle[k]).pendingSince with
    | some t => authorize k 2 (reach (t + ms (nat d 0x3100 0x04)) d)
    | none => d)

/-- OUTLET_STATUS (R187): the host island holds the latest status of each outlet. -/
def execOutletStatus (m : TenonMsg) (s : State) : Host.Outcome State Fault Refusal :=
  let (d, ok) := receive .fh m s.dev
  done s (if ok && hdrType m.header == 0x09 && up 0 d then
    if h : fieldAt m.payload 0 1 < 12 then
      let k : Fin 12 := ⟨fieldAt m.payload 0 1, h⟩
      onVehicle k (fun v => { v with status := m.payload }) d
    else d
  else d)

/-! Site data, head data and cooling. -/

/-- SITE_POWER_DATA (R151, R360). -/
def execSitePowerData (m : TenonMsg) (x : SiteData) (s : State) : Host.Outcome State Fault Refusal :=
  let (d, ok) := receive .hf m s.dev
  done s (if ok && hdrType m.header == 0x0B && up 1 d then
    match x with
    | .frontEnd i imp exp status stamp => if status = 1 ∨ status = 2 then frontData i imp exp stamp d else frontData i 0 0 stamp d
    | .imd k kohm status stamp => if nat d (outIdx k 1) 0x08 / 256 = 1 then newerReading k ⟨kohm, status, stamp⟩ d else d
  else d)

/-- The thermal loop of an outlet (R204). -/
def coolLoop (k : Fin 12) : Fin 16 := ⟨k.val, by omega⟩
/-- The index of an outlet's cooling entries. -/
def coolIdx (k : Fin 12) (t : Nat) : Nat := 0x3200 + 16 * k.val + t
/-- An outlet's pump channel, where it has one. -/
def pumpOf (k : Fin 12) (d : Dev) : Option (Fin 64) :=
  if h : nat d (coolIdx k 0) 0x01 < 64 then some ⟨nat d (coolIdx k 0) 0x01, h⟩ else none
/-- Whether the pump's channel has tripped (R206). -/
def pumpTripped (k : Fin 12) (d : Dev) : Bool := match pumpOf k d with
  | some n => let c := (d.load.chan[n]).state
    c == .tripped || c == .lockedOut || c == .latched || c == .fault
  | none => false
/-- The flow's timers: below the minimum with the pump commanded at 0.5 or more, and at or above it with the channel in
service (R206). -/
def flowTimers (k : Fin 12) (d : Dev) : Dev :=
  let o := d.out[k]
  let low := decide (o.flow < nat d (coolIdx k 0) 0x02)
  let pumping := (pumpOf k d).isSome && o.cooling && decide (16384 ≤ (d.eng.thermal[coolLoop k]).duty)
  let good := !low && !pumpTripped k d
  onOut k (fun o => { o with
    flowLow := if low && pumping then some (o.flowLow.getD d.time.now) else none,
    flowOk := if good then some (o.flowOk.getD d.time.now) else none }) d

/-- Whether two connection states count as one for the 100 ms of Table 7.4. -/
def sameConnection (a b : Nat) : Bool := a == b || (plugged a && plugged b)

/-- Head data for an outlet (R180, R204, R205). -/
def headFor (k : Fin 12) (x : HeadData) (d : Dev) : Dev :=
  let pins := x.pins.filterMap id
  let pin : Option Int := pins.foldl (fun a t => some (match a with | some b => max b t | none => t)) none
  let d := onOut k (fun o => { o with
    conn := x.connection.val, connSince := if sameConnection o.conn x.connection.val then o.connSince else d.time.now,
    headAt := some d.time.now, headStale := false, pin := pin, supplyT := x.supply, returnT := x.return_, flow := x.flow }) d
  let d := match pin with
    | some t => thermalFrom (0x100 + x.node.val) t (thermalValue (coolLoop k) t d)
    | none => onThermal (coolLoop k) (fun t => { t with input := none }) d
  let d := flowTimers k d
  match x.imd with
  | some (kohm, status, stamp) => if nat d (outIdx k 1) 0x08 / 256 = 2 then imdReading k ⟨kohm, status, stamp⟩ d else d
  | none => d

/-- Head data reaches the outlet that names its head node in 0x30k1.05; of a node that no outlet names nothing is taken (R180). -/
def headData (x : HeadData) (d : Dev) : Dev :=
  match (all 12).find? (fun k => num d (outIdx k 1) 0x05 == x.node.val) with
  | some k => headFor k x d
  | none => d

/-- HEAD_DATA (R180). -/
def execHeadData (m : TenonMsg) (x : HeadData) (s : State) : Host.Outcome State Fault Refusal :=
  let (d, ok) := receive .hf m s.dev
  done s (if ok && hdrType m.header == 0x17 && up 1 d then headData x d else d)

/-- HEAD_STALE (R205, Table 7.3): cause 8. -/
def execHeadStale (k : Fin 12) (s : State) : Host.Outcome State Fault Refusal :=
  let d := s.dev
  let o := d.out[k]
  done s (match o.headAt with
    | some t => if o.headStale || d.barrier.field.view == .restartAwaited then d else
      raiseCause k 8 (onOut k (fun o => { o with headStale := true, derated := 0 }) (reach (t + ms (nat d (coolIdx k 0) 0x09)) d))
    | none => d)

/-- The derated current of an outlet (R205, R206), in whole tenths of an ampere. -/
def deratedOf (k : Fin 12) (d : Dev) : Int :=
  let o := d.out[k]
  let max_ := num d (outIdx k 1) 0x02
  let ts := num d (coolIdx k 0) 0x04
  let te := num d (coolIdx k 0) 0x05
  let term : Int := match o.pin with
    | none => max_
    | some t => if t ≤ ts then max_ else if te ≤ t then 0 else max_ * (te - t) / (te - ts)
  if o.headStale then 0 else min term (if o.flowFault then num d (coolIdx k 0) 0x07 else max_)

/-- DERATING_UPDATE (R205): every 1 ms. -/
def execDeratingUpdate (s : State) : Host.Outcome State Fault Refusal :=
  let d := s.dev
  done s (if !up 1 d then d else
    let d := tick 8 (ms 1) d
    (all 12).foldl (fun d k => let d := flowTimers k d
      onOut k (fun o => { o with derated := deratedOf k d }) d) d)

/-- FLOW_FAULT (R206). -/
def execFlowFault (k : Fin 12) (s : State) : Host.Outcome State Fault Refusal :=
  let d := s.dev
  let fault (d : Dev) : Dev := onOut k (fun o => { o with flowFault := true, flowLow := none }) d
  done s (if pumpTripped k d then fault d else match (d.out[k]).flowLow with
    | some t => fault (reach (t + ms (nat d (coolIdx k 0) 0x03)) d)
    | none => d)

/-- FLOW_FAULT_CLEAR (R206). -/
def execFlowFaultClear (k : Fin 12) (s : State) : Host.Outcome State Fault Refusal :=
  let d := s.dev
  done s (match (d.out[k]).flowOk with
    | some t => if (d.out[k]).flowFault then
        onOut k (fun o => { o with flowFault := false }) (reach (t + ms (nat d (coolIdx k 0) 0x03)) d) else d
    | none => d)

/-- RUN_ON_EXPIRY (R204): cooling ends and the pump is commanded off. -/
def execRunOnExpiry (k : Fin 12) (s : State) : Host.Outcome State Fault Refusal :=
  let d := s.dev
  done s (match (d.out[k]).runOn with
    | some t => onOut k (fun o => { o with cooling := false, runOn := none }) (reach (t + sec (nat d (coolIdx k 0) 0x08)) d)
    | none => d)

/-- IMD_COMMAND (R361, Table 12.6): the lease holder's command for an outlet whose IMD is on the site bus. -/
def execImdCommand (k : Fin 12) (s : State) : Host.Outcome State Fault Refusal :=
  let d := s.dev
  let src := nat d (outIdx k 1) 0x08
  let o := d.out[k]
  done s (if !(up 0 d && holds d) || src / 256 ≠ 1 || d.site.addr.state ≠ .held then d else
    let n := d.site.imdCount[k]
    let b := evData [(1, (src % 256 : Nat)), (1, flag o.imdEnabled), (2, (o.vcc / 1000 : Nat)), (1, (n : Int)), (3, 0)]
    let f : CanFrame := ⟨canId 0x3 d.site.addr.id, true, b, d.time.now⟩
    stageAll f { d with site := { d.site with imdCount := upd d.site.imdCount k (fun n => (n + 1) % 256) } })

/-! Events that reach several families. -/

/-- CONTACTOR_TRAVEL_CONFIRMED (R43, R91, R106): the rails follow the contactor. -/
def execContactorTravelConfirmed (x : ContactorId) (s : State) : Host.Outcome State Fault Refusal :=
  done s (match confirmTravel x s.dev with
    | none => s.dev
    | some d => match x with
      | .tie _ => regroup (deriveSegments d)
      | .outlet j => if (contactor x d).cmd then outletClosedRail j d else d
      | .brick _ => d)

/-- CONTACTOR_TRAVEL_FAULT (R47): the travel time, the debounce time and 10 ms have passed without the contacts' report. -/
def execContactorTravelFault (x : ContactorId) (s : State) : Host.Outcome State Fault Refusal :=
  let d := s.dev
  let c := contactor x d
  done s (match c.travel with
    | some t => if contactsReport x c.cmd d then d else travelFault x (reach (t + travelBound x c.cmd d) d)
    | none => d)

/-- TRACKING_TIMEOUT (R106). -/
def execTrackingTimeout (j : Fin 12) (s : State) : Host.Outcome State Fault Refusal := done s (trackingTimeout j s.dev)

/-- RATIOMETRIC_PAUSE_LIMIT (R108). -/
def execRatiometricPauseLimit (j : Fin 12) (s : State) : Host.Outcome State Fault Refusal := done s (ratioAbort j s.dev)

/-- SYNC_IN_EDGE (R73 to R75). -/
def execSyncInEdge (at_ : Nat) (s : State) : Host.Outcome State Fault Refusal := done s (syncInEdge (holds s.dev) at_ s.dev)

end Sys2Proof.Machine
end

