-- ==== Sys2Proof/Machine/Eaveline.lean ====
section
/-! DEFINITION. The Eaveline power-line link: cycle, layout, blocks, acknowledgement, robust mode, admission, mains phase
(R393 to R418). -/
namespace Sys2Proof.Machine

/-- Whether a node is in robust mode. -/
def isRobust (n : Fin 16) (d : Dev) : Bool := d.eave.robust.getLsbD n.val
/-- A mask with one bit changed. -/
def putBit (m : BitVec 16) (n : Fin 16) (b : Bool) : BitVec 16 := if b then m ||| (1#16 <<< n.val) else m &&& ~~~(1#16 <<< n.val)

/-! The layout (R397, R403, R404). -/

/-- The bits that a tone map entry gives a carrier. -/
def toneBits (m : Nat) : Nat := match m with
  | 1 => 1 | 2 => 2 | 3 => 4 | _ => 0
/-- Cells from a cell of the region on until 480 coded bits are held, within `fuel` cells. -/
def cellsFor (map : List Nat) : Nat → Nat → Nat → Nat
  | 0, _, _ => 0
  | fuel + 1, cell, bits => if 480 ≤ bits then 0 else 1 + cellsFor map fuel (cell + 1) (bits + toneBits (map.getD (cell % 816) 0))
/-- The span of a normal block that begins at a cell: the smallest multiple of 8 cells. -/
def blockSpan (map : List Nat) (cell : Nat) : Nat := ceilDiv (cellsFor map 4096 cell 0) 8 * 8
/-- The largest span that a block of a map takes, wherever among the carriers it begins. -/
def worstSpan (map : List Nat) : Nat := ((List.range 102).map (fun i => blockSpan map (8 * i))).foldl max 0

/-- The Ridge connections on Eaveline in ascending slot order (R403, R405): consumers 0 to 15, producers 16 to 23. -/
def ridgeSlots (d : Dev) : List (Fin 24) := (all 24).filter (fun i =>
  if h : i.val < 16 then on d (conIdx ⟨i.val, h⟩) 0x01 && num d (conIdx ⟨i.val, h⟩) 0x02 == 4
  else let p : Fin 8 := ⟨i.val - 16, by omega⟩
    on d (prodIdx p) 0x01 && num d (prodIdx p) 0x02 == 4)
/-- The node of a Ridge connection. -/
def ridgeNode (i : Fin 24) (d : Dev) : Nat :=
  if h : i.val < 16 then nat d (conIdx ⟨i.val, h⟩) 0x03 else nat d (prodIdx ⟨i.val - 16, by omega⟩) 0x03

/-- Cells of a direction region. -/
def regionCells (upDir : Bool) : Nat := if upDir then 4080 else 3264
/-- A node's normal range in cells. -/
def rangeOf (upDir : Bool) (n : Fin 16) (d : Dev) : Nat := 8 * (if upDir then d.eave.layout.up[n] else d.eave.layout.down[n])
/-- The tone map of a direction: 0 down, 1 up. -/
def mapOf (upDir : Bool) (n : Fin 16) (d : Dev) : ToneMap := (d.eave.node[n]).maps[(if upDir then 1 else 0 : Fin 2)]
/-- Admitted nodes in normal mode and in robust mode, ascending. -/
def normalNodes (d : Dev) : List (Fin 16) := (all 16).filter (fun n => admitted n d && !isRobust n d)
def robustNodes (d : Dev) : List (Fin 16) := (all 16).filter (fun n => admitted n d && isRobust n d)
/-- Cells free for robust items. -/
def freeCells (upDir : Bool) (d : Dev) : Nat :=
  regionCells upDir - 960 * (ridgeSlots d).length - (normalNodes d).foldl (fun a n => a + rangeOf upDir n d) 0
/-- The rotation period (R403 step 3). -/
def rotationPeriod (upDir : Bool) (d : Dev) : Nat :=
  let m := freeCells upDir d / 960
  ([1, 2, 4, 8, 16].find? (fun p => decide (2 * (robustNodes d).length ≤ p * m))).getD 32
/-- The first cell of a node's normal range. -/
def rangeStart (upDir : Bool) (n : Fin 16) (d : Dev) : Nat :=
  960 * (ridgeSlots d).length + ((normalNodes d).filter (fun x => decide (x.val < n.val))).foldl (fun a x => a + rangeOf upDir x d) 0

/-- The data blocks that fit whole from a cell of a node's range on (R403 step 2). -/
def dataSpans (n : Fin 16) (map : List Nat) : Nat → Nat → Nat → List CellSpan
  | 0, _, _ => []
  | fuel + 1, cell, room =>
    let s := blockSpan map cell
    if room < s then [] else ⟨.data n, cell, s⟩ :: dataSpans n map fuel (cell + s) (room - s)
/-- A node's normal range: its control block, then as many data blocks as fit whole (R403 step 2). -/
def normalSpans (upDir : Bool) (n : Fin 16) (d : Dev) : List CellSpan :=
  let map := (mapOf upDir n d).map
  let start := rangeStart upDir n d
  let s := blockSpan map start
  ⟨.control n, start, s⟩ :: dataSpans n map 64 (start + s) (rangeOf upDir n d - s)
/-- The robust items of a cycle (R403 step 3): item 2j the control block and item 2j+1 the data block of the j-th robust node. -/
def robustItems (upDir : Bool) (cycle : Nat) (d : Dev) : List CellUse :=
  let p := rotationPeriod upDir d
  ((List.range (2 * (robustNodes d).length)).filter (fun i => i % p == cycle % p)).filterMap (fun i =>
    ((robustNodes d)[i / 2]?).map (fun n => if i % 2 = 0 then .control n else .data n))
/-- The cells of a direction region in a cycle, filled in the order of R403. -/
def regionPlan (upDir : Bool) (cycle : Nat) (d : Dev) : List CellSpan :=
  let ridge := (ridgeSlots d).zipIdx.map (fun x => (⟨.ridge x.1, 960 * x.2, 960⟩ : CellSpan))
  let start := regionCells upDir - freeCells upDir d
  ridge ++ (normalNodes d).flatMap (fun n => normalSpans upDir n d)
    ++ (robustItems upDir cycle d).zipIdx.map (fun x => ⟨x.1, start + 960 * x.2, 960⟩)
    ++ (if d.eave.offer.isSome then [⟨.admission, regionCells upDir - 960, 960⟩] else [])

/-- What the cells of a region give a node: whether its control block, and how many data blocks. -/
def nodeShare (l : List CellSpan) (n : Fin 16) : Bool × Nat := (l.any (fun x => x.use == .control n), l.countP (fun x => x.use == .data n))

/-- Whether 960 cells are free after step 3 in a region in a cycle (R404). -/
def admissionFree (upDir : Bool) (cycle : Nat) (d : Dev) : Bool :=
  decide (960 * ((robustItems upDir cycle d).length + 1) ≤ freeCells upDir d)

/-- The cells that a node's control block takes at most in a direction. A node with no map yet is sized as if by QPSK throughout. -/
def controlCells (upDir : Bool) (n : Fin 16) (d : Dev) : Nat :=
  let map := (mapOf upDir n d).map
  worstSpan (if map = [] then List.replicate 816 2 else map)
/-- The cells for normal ranges in a direction region: what the Ridge blocks and the robust reserve leave (R404). -/
def rangeRoom (upDir : Bool) (d : Dev) : Nat := regionCells upDir - 960 * (ridgeSlots d).length - 960
/-- The cells that the control blocks of these nodes take. -/
def leastCells (upDir : Bool) (nodes : List (Fin 16)) (d : Dev) : Nat := nodes.foldl (fun a n => a + controlCells upDir n d) 0
/-- Whether these nodes' control blocks fit both regions (R404). -/
def layoutFits (nodes : List (Fin 16)) (d : Dev) : Bool :=
  decide (leastCells false nodes d ≤ rangeRoom false d ∧ leastCells true nodes d ≤ rangeRoom true d)
/-- The ranges of a new layout in one direction (R404): each node's control block, and an open number of data blocks while the Ridge blocks,
all ranges and 960 cells fit the region. -/
def sizeRanges (upDir : Bool) (nodes : List (Fin 16)) (d : Dev) : Vector Nat 16 × Dev :=
  let r := nodes.foldl (fun (x : Vector Nat 16 × Nat × Dev) n =>
    let (v, spare, d) := x
    let s := controlCells upDir n d
    let (e, d) := freeNat d
    let more := if s * (e % 8) ≤ spare then s * (e % 8) else 0
    (upd v n (fun _ => (s + more) / 8), spare - more, d)) (tab (fun _ => 0), rangeRoom upDir d - leastCells upDir nodes d, d)
  (r.1, r.2.2)

/-! Messages going out (R402, R407). -/

/-- The layout table message (R404). -/
def layoutBytes (l : Layout) : List Byte :=
  leBytes 1 l.version ++ leBytes 4 l.switchAt ++ leBytes 1 0 ++ (all 16).flatMap (fun n => leBytes 2 l.down[n] ++ leBytes 2 l.up[n])
/-- The tone map message. -/
def toneBytes (version : Nat) (m : ToneMap) : List Byte :=
  leBytes 1 version ++ leBytes 1 (if m.codeB then 1 else 0)
    ++ (List.range 204).map (fun i => BitVec.ofNat 8 ((List.range 4).foldl (fun a j => a + (m.map.getD (4 * i + j) 0) * 4 ^ j) 0))

/-- A new layout announced (R404): the next version, its switch at least 16 cycles ahead, and its table to every admitted node
and the one being admitted; a number for which the line has no room is not admitted. -/
def announceLayout (d : Dev) : Dev :=
  let d := match d.eave.admitting with
    | some n => if layoutFits ((all 16).filter (fun m => admitted m d || m == n)) d then d
      else setNum (nodeIdx n) 0x03 0 (onEave (fun e => { e with admitting := none }) d)
    | none => d
  let stays (n : Fin 16) : Bool := (admitted n d || d.eave.admitting == some n) && !d.eave.remove.getLsbD n.val
  let nodes := (all 16).filter stays
  let (down, d) := sizeRanges false nodes d
  let (up_, d) := sizeRanges true nodes d
  let (later, d) := freeNat d
  let l : Layout := ⟨(d.eave.layout.version + 1) % 256, (d.eave.cycle + 16 + later) % 2 ^ 32, down, up_⟩
  let d := onEave (fun e => { e with pending := some l, relayout := false }) d
  nodes.foldl (fun d n => queueMsg n 3 0x8 (layoutBytes l) d) d

/-- The next fragment of a message at a block capacity, and what is left of it. -/
def cutMsg (q : Nat) (m : OutMsg) : Piece × Option OutMsg :=
  let part := (m.data.drop m.pos).take q
  let pos := m.pos + part.length
  let ends := decide (m.data.length ≤ pos)
  (⟨m.cls, m.seq, m.pos - 2, ends, part⟩, if ends then none else some { m with pos := pos })
/-- A resent payload at a block capacity, and what is left of it (R406). -/
def cutPiece (q : Nat) (p : Piece) : Piece × Option Piece :=
  if p.bytes.length ≤ q then (p, none)
  else ({ p with bytes := p.bytes.take q, last := false },
    some { p with bytes := p.bytes.drop q, offset := p.offset + q - (if p.offset = 0 then 2 else 0) })
/-- The first message of a class that has content to send. -/
def firstOut (cls : Nat) (l : List OutMsg) : Option OutMsg := l.find? (fun m => m.cls == cls)
/-- A message replaced by what is left of it. -/
def replaceOut (m : OutMsg) (rest : Option OutMsg) (l : List OutMsg) : List OutMsg :=
  l.flatMap (fun x => if x = m then rest.toList else [x])

/-- The next data block of a node (R407). -/
def fillBlock (q : Nat) (x : EaveNode) : Piece × EaveNode :=
  let turn := x.blocks % 10 = 9
  let x := { x with blocks := x.blocks + 1 }
  let fresh (cls : Nat) : Option (Piece × EaveNode) := (firstOut cls x.out).map (fun m =>
    let (p, rest) := cutMsg q m
    (p, { x with out := replaceOut m rest x.out }))
  let again : Option (Piece × EaveNode) := match x.resend with
    | p :: l => let (a, b) := cutPiece q p
      some (a, { x with resend := b.toList ++ l })
    | [] => none
  let empty : Piece × EaveNode := (⟨3, 0, 0, false, []⟩, x)
  let normal := (again.orElse fun _ => (fresh 2).orElse fun _ => fresh 3).getD empty
  if turn then (fresh 3).getD normal else normal

/-- A block's content bytes: its header (Table 13.7) and its payload. -/
def pieceBytes (n : Fin 16) (p : Piece) : List Byte :=
  leBytes 4 (n.val * 2 ^ 28 + p.cls * 2 ^ 26 + (if p.last then 2 ^ 25 else 0) + p.seq % 256 * 2 ^ 17 + p.offset * 2 ^ 6 + p.bytes.length)
    ++ p.bytes

/-- The downlink control block of a node (Table 13.8). -/
def downControl (n : Fin 16) (cycle : Nat) (d : Dev) : List Byte :=
  let x := d.eave.node[n]
  let heard := (x.heard.filter (fun h => decide (x.lastDown ≤ h.1 ∧ h.1 < cycle))).map Prod.snd
  let mask := (List.range 16).foldl (fun a i => if heard.getD i false then a + 2 ^ i else a) 0
  let ver := match d.eave.pending with
    | some l => l.version
    | none => d.eave.layout.version
  let outlet := (all 12).find? (fun k => nat d (outIdx k 1) 0x05 == n.val)
  let (imd, vcc, st) : Bool × Nat × Nat := match outlet with
    | some k => ((d.out[k]).imdEnabled, (d.out[k]).vcc / 1000, outCode (d.out[k]).state)
    | none => (false, 0, 0)
  [BitVec.ofNat 8 (n.val * 16 + 2)] ++ leBytes 1 ver ++ leBytes 2 mask ++ leBytes 1 (if imd then 1 else 0) ++ leBytes 2 vcc
    ++ leBytes 1 st ++ List.replicate 18 0

/-- A cycle's blocks to and from one node are scheduled, and its downlink blocks sent (R403, R406, R407). -/
def scheduleNode (cycle : Nat) (d : Dev) (n : Fin 16) : Dev :=
  let (dc, dd) := nodeShare d.eave.cells[(0 : Fin 2)] n
  let (uc, ud) := nodeShare d.eave.cells[(1 : Fin 2)] n
  let q := if !isRobust n d && (mapOf false n d).codeB then 42 else 22
  let ctrl := if dc then [downControl n cycle d] else []
  onNode n (fun x =>
    let x := { x with
      ctrlDue := uc, dataDue := ud, ctrlGood := false, dataSeen := [], ridgeSeen := [],
      ridgeDue := ((ridgeSlots d).filter (fun i => ridgeNode i d == n.val)).length, downCtrlBad := false, downBad := 0, sentDown := ctrl,
      flight := if dc then x.flight ++ [(cycle, none)] else x.flight,
      heard := if dc then x.heard.filter (fun h => decide (cycle ≤ h.1)) else x.heard,
      lastDown := if dc then cycle else x.lastDown }
    (List.range dd).foldl (fun x _ =>
      let (p, x) := fillBlock q x
      { x with flight := x.flight ++ [(cycle, some p)], sentDown := x.sentDown ++ [pieceBytes n p] }) x) d

/-! The end of a cycle at the master (R406, R408, R412). -/

/-- Downlink blocks reported failed: their payload is to be resent, oldest first. -/
def resendPieces (l : List (Nat × Option Piece)) : List Piece := l.filterMap (fun b => match b.2 with
  | some p => if p.bytes = [] then none else some p
  | none => none)

/-- A node's step-up count in force: the configured one, doubled up to 16 times (R409). -/
def stepUpCount (n : Fin 16) (d : Dev) : Nat := nat d 0x1300 0x0A * (d.eave.node[n]).factor
/-- A node steps down to robust mode (R408, R409). -/
def stepDown (n : Fin 16) (d : Dev) : Dev :=
  let x := d.eave.node[n]
  let soon := match x.steppedUp with
    | some t => decide (d.time.now < t + sec 10)
    | none => false
  let d := onEave (fun e => { e with robust := putBit e.robust n true }) d
  bump (nodeIdx n) 0x0C (setNum (nodeIdx n) 0x03 3
    (onNode n (fun x => { x with
      steppedDown := some d.time.now, goodRun := 0, stepWaits := false, factor := if soon then min 16 (2 * x.factor) else x.factor }) d))

/-- One node's cycle closes: what did not come has failed, a missing control block fails what it would have reported, and a
node in normal mode may step down. -/
def closeNode (d : Dev) (n : Fin 16) : Dev :=
  if !admitted n d then d else
  let x := d.eave.node[n]
  let cyc := d.eave.cycle
  let missing := x.ctrlDue && !x.ctrlGood
  let dataBad := (x.dataDue - x.dataSeen.length) + (x.dataSeen.filter (! ·)).length
    + (x.ridgeDue - x.ridgeSeen.length) + (x.ridgeSeen.filter (! ·)).length
  let due := x.flight.filter (fun b => decide (b.1 < cyc))
  let lost := if missing then due else []
  let downBad := x.downBad + (lost.filter (fun b => b.2.isSome)).length
  let downCtrl := x.downCtrlBad || lost.any (fun b => b.2.isNone)
  let failed := missing || downCtrl || decide (0 < dataBad) || decide (0 < downBad)
  let seen := x.dataSeen ++ List.replicate (x.dataDue - x.dataSeen.length) false
  let d := onNode n (fun x => { x with
    heard := x.heard ++ (if x.ctrlDue then [(cyc, x.ctrlGood)] else []) ++ seen.map (fun g => (cyc, g)),
    flight := if missing then x.flight.filter (fun b => decide (cyc ≤ b.1)) else x.flight,
    resend := x.resend ++ resendPieces lost, lastUp := if missing then cyc else x.lastUp,
    missRun := if missing then min 50 (x.missRun + 1) else if x.ctrlDue then 0 else x.missRun,
    goodRun := if failed then 0 else x.goodRun + 1 }) d
  let good : Nat := (if x.ctrlDue && x.ctrlGood then 1 else 0) + (x.dataSeen.filter id).length + (x.ridgeSeen.filter id).length
  let bad : Nat := (if missing then 1 else 0) + dataBad + lost.length
  let d := bumpBy (nodeIdx n) 0x0B bad (bumpBy (nodeIdx n) 0x0A good d)
  if !isRobust n d && (missing || downCtrl || decide (2 ≤ dataBad) || decide (2 ≤ downBad)) then stepDown n d else d

/-- The next number offered admission (R411): unadmitted, not barred, not waiting after a refusal. -/
def nextOffer (d : Dev) : Option (Fin 16) :=
  match d.eave.admitting with
  | some n => some n
  | none =>
    let may (n : Fin 16) : Bool := !admitted n d && num d (nodeIdx n) 0x01 != 0xFFFFFFFFFFFFFFFF && (d.eave.node[n]).refusedAt.isNone
    let order := (all 16).filter (fun n => decide (d.eave.offerNext ≤ n.val)) ++ (all 16).filter (fun n => decide (n.val < d.eave.offerNext))
    order.find? may

/-- The cycle header's bytes (Table 13.6). -/
def headerBytes (d : Dev) : List Byte :=
  let e := d.eave
  let b := leBytes 4 e.cycle ++ leBytes 1 e.layout.version ++ leBytes 1 (if e.pending.isSome then 1 else 0)
    ++ leBytes 4 (match e.pending with | some l => l.switchAt | none => 0) ++ leBytes 2 e.admitted.toNat ++ leBytes 2 e.robust.toNat
    ++ leBytes 1 (match e.offer with | some n => n.val | none => 0xFF) ++ leBytes 1 0 ++ leBytes 4 (Config.serial.toNat % 2 ^ 32)
  b ++ leBytes 4 (crc32 b).toNat

/-- This line island becomes master (R416): cycles from its own time base, the layout and the maps of the shared state, and
every admitted node in robust mode with its maps to be estimated again. -/
def masterTake (d : Dev) : Dev :=
  let d := match d.eave.shared with
    | some x =>
      let d := onEave (fun e => { e with
        admitted := x.admitted, layout := x.layout, pending := x.pending,
        node := tab (fun n => { e.node[n] with maps := x.maps[n] }) }) d
      (all 16).foldl (fun d n => setNum (nodeIdx n) 0x01 (x.serials[n]).toNat d) d
    | none => d
  let d := onEave (fun e => { e with
    master := true, robust := e.admitted, shared := none,
    node := tab (fun n => { e.node[n] with goodRun := 0, stepWaits := false, flight := [], heard := [], missRun := 0 }) }) d
  (all 16).foldl (fun d n => if admitted n d then setNum (nodeIdx n) 0x03 3 d else d) d

/-- The block that goes down in the admission area to the node being admitted (R411): the grant, and once that is acknowledged the fragments
of the layout table one by one; none where no node is being admitted. -/
def admissionBlock (d : Dev) : List Byte := match d.eave.offer, d.eave.admitting, d.eave.pending with
  | some m, some n, some l =>
    if m ≠ n then [] else
    let table := leBytes 2 (0x8 * 4096 + 70) ++ layoutBytes l
    match d.eave.admitStep with
    | 0 => [BitVec.ofNat 8 (n.val * 16 + 4)] ++ List.replicate 25 0
    | i + 1 =>
      let part := (table.drop (22 * i)).take 22
      pieceBytes n ⟨3, 0, 22 * i - 2, decide (table.length ≤ 22 * (i + 1)), part⟩
  | _, _, _ => []

/-- One cycle of the master (R398 to R409). -/
def eaveCycle (d : Dev) : Dev :=
  let d := if d.eave.master then (all 16).foldl closeNode d else masterTake d
  let d := tick 3 (ms 1) d
  let cyc := siteTime d / ms 1 % 2 ^ 32
  let d := onEave (fun e => { e with cycle := cyc, cycleAt := d.time.now, side := e.side.map (fun x => { x with transmits := false }) }) d
  let urgent := d.eave.remove != 0 || d.eave.admitting.isSome
  let d := if d.eave.pending.isNone && (urgent || (d.eave.relayout && decide (d.eave.layoutAt + ms 100 ≤ d.time.now))) then announceLayout d else d
  let offer := if admissionFree false cyc d && admissionFree true cyc d then nextOffer d else none
  let d := onEave (fun e => { e with
    offer := offer, offerNext := match offer with | some n => (n.val + 1) % 16 | none => e.offerNext }) d
  let d := onEave (fun e => { e with cells := tab (fun i => regionPlan (i == 1) cyc d), admitDown := admissionBlock d }) d
  let d := (all 16).foldl (scheduleNode cyc) d
  let p := rotationPeriod false d * 256 + rotationPeriod true d
  let d := setNum 0x1300 0x03 cyc (setNum 0x1300 0x04 d.eave.layout.version (setNum 0x1300 0x05 d.eave.admitted.toNat
    (setNum 0x1300 0x06 d.eave.robust.toNat (setNum 0x1300 0x07 p d))))
  onEave (fun e => { e with header := headerBytes d }) d

/-- EAVELINE_CYCLE (R398). -/
def execEavelineCycle (s : State) : Host.Outcome State Fault Refusal :=
  let d := if up 5 s.dev then transfer .lineLink s.dev else s.dev
  done s (if up 5 d && on d 0x1300 0x01 && holds d then eaveCycle d else onEave (fun e => { e with master := false }) d)

/-- EAVELINE_MASTER_TAKE (R416): at the first cycle start after the lease is held. -/
def execEavelineMasterTake (s : State) : Host.Outcome State Fault Refusal :=
  let d := s.dev
  done s (if up 5 d && on d 0x1300 0x01 && holds d && !d.eave.master then eaveCycle d else d)

/-! Blocks received (R399 to R402, R406). -/

/-- CYCLE_HEADER (R399, R412, R416): a node decodes the header of its master. -/
def execCycleHeader (n : Fin 16) (content : List Byte) (crc : W32) (s : State) : Host.Outcome State Fault Refusal :=
  let d := s.dev
  let x := d.eave.side[n]
  let good := content.length == 20 && crc == crc32 content
  let ver := fieldAt content 4 1
  let ser := BitVec.ofNat 32 (fieldAt content 16 4)
  let mine := bit (fieldAt content 10 2) n.val
  let known := ser == x.master || !x.admitted || ver == x.version
  done s (if !good then onSide n (fun x => { x with transmits := false, preambleAt := d.time.now }) d
    else onSide n (fun x => { x with
      preambleAt := d.time.now, master := ser, admitted := mine && known, transmits := mine && known,
      version := if x.admitted then x.version else ver }) d)

/-- NODE_PREAMBLE_LOSS (R412): no preamble in 20 consecutive cycles. -/
def execNodePreambleLoss (n : Fin 16) (s : State) : Host.Outcome State Fault Refusal :=
  let d := s.dev
  let x := d.eave.side[n]
  done s (if !x.admitted then d else
    onSide n (fun x => { x with admitted := false, transmits := false }) (reach (x.preambleAt + ms 20) d))

/-- Head data relayed to the field side (R401, R413), read at the start of the uplink region less the reading's age. -/
def relayHead (n : Fin 16) (c : List Byte) (d : Dev) : Dev :=
  let start : Int := (d.eave.cycleAt : Int) + 54224
  let temps := (List.range 4).map (fun i => signed 16 (fieldAt c (6 + 2 * i) 2))
  let conn := fieldAt c 5 1
  enqueue .hf (tenonItems 0x17 1 n.val 128
    ([(n.val : Int), ((field conn 0 2 : Nat) : Int)] ++ temps ++ [signed 16 (fieldAt c 14 2), signed 16 (fieldAt c 16 2), (fieldAt c 18 2 : Nat),
      flag (bit conn 2), (fieldAt c 20 2 : Nat), (fieldAt c 24 1 : Nat), start - ms (fieldAt c 22 2)]) d) d

/-- The layout version that a node echoes, with the first cycle in which it did. -/
def heldSince (old : Option (Nat × Nat)) (v cycle : Nat) : Option (Nat × Nat) := match old with
  | some (u, c) => if u = v then some (u, c) else some (v, cycle)
  | none => some (v, cycle)
/-- An uplink control block at the master: the ack mask judges the blocks sent down before this cycle. -/
def upControl (n : Fin 16) (c : List Byte) (d : Dev) : Dev :=
  let x := d.eave.node[n]
  let cyc := d.eave.cycle
  let mask := fieldAt c 2 2
  let due := x.flight.filter (fun b => decide (b.1 < cyc))
  let lost := (due.zipIdx.filter (fun b => !bit mask b.2)).map Prod.fst
  let d := onNode n (fun x => { x with
    ctrlGood := true, echoed := heldSince x.echoed (fieldAt c 1 1) cyc, queueUnits := fieldAt c 4 1, lastUp := cyc,
    flight := x.flight.filter (fun b => decide (cyc ≤ b.1)), resend := x.resend ++ resendPieces lost,
    downCtrlBad := lost.any (fun b => b.2.isNone), downBad := (lost.filter (fun b => b.2.isSome)).length }) d
  relayHead n c (bumpBy (nodeIdx n) 0x0B lost.length (bumpBy (nodeIdx n) 0x0A ((due.length : Int) - lost.length) d))

/-- CONTROL_BLOCK (R401, R406): uplink at the master, downlink at a node that has decoded the cycle's header (R399). -/
def execControlBlock (n : Fin 16) (b : EaveBlock) (s : State) : Host.Outcome State Fault Refusal :=
  let d := s.dev
  let good := b.content.length == 26 && b.crc == crc32 b.content && fieldAt b.content 0 1 / 16 == n.val
  let kind := fieldAt b.content 0 1 % 16
  done s (if !good then d
    else if b.up then
      (if isMaster d && admitted n d && (d.eave.node[n]).ctrlDue && !(d.eave.node[n]).ctrlGood && kind == 1 then upControl n b.content d else d)
    else if kind = 2 ∧ (d.eave.side[n]).transmits then onSide n (fun x => { x with
      version := fieldAt b.content 1 1, imdEnable := bit (fieldAt b.content 4 1) 0, expected := fieldAt b.content 5 2,
      shown := fieldAt b.content 7 1 }) d
    else d)

/-- The lengths that Table 13.9 allows a message of a type and class. -/
def messageFits (cls type len : Nat) : Bool := match type with
  | 0x1 => cls == 2 && decide (40 ≤ len ∧ len ≤ 1500)
  | 0x8 => cls == 3 && len == 70
  | 0x9 => cls == 3 && len == 206
  | 0xA => cls == 3 && decide (8 ≤ len ∧ len ≤ 50)
  | 0xB => cls == 3 && len == 32
  | _ => false

/-- A crossing's angle in 0.01° against MAINS_REF (R414). -/
def phaseAngle (t : Int) (d : Dev) : Option Nat :=
  match d.eave.crossings.head?, d.eave.crossings[50]? with
  | some a, some z =>
    let p : Nat := a - z
    let hz := 5000 * sec 1
    if p * 6500 < hz ∨ hz < p * 4500 then none else
    match d.eave.crossings.find? (fun r => decide ((r : Int) ≤ t)) with
    | some r => some ((divRound (((t - (r : Int)) * 50 % (p : Int)) * 36000) p).toNat % 36000)
    | none => none
  | _, _ => none

/-- The classification of an angle (R415): codes of 0x131n.02, 7 for unclassified. -/
def classify (a : Nat) : Nat :=
  let i := (a + 3000) / 6000 % 6
  let off := ((a : Int) - 6000 * ((a + 3000) / 6000 : Nat)).natAbs
  if 2000 < off then 7 else [1, 6, 2, 4, 3, 5].getD i 7

/-- One reported crossing (R414, R415). -/
def nodeCrossing (n : Fin 16) (cycle offset : Nat) (d : Dev) : Dev :=
  let behind : Nat := (d.eave.cycle + 2 ^ 32 - cycle) % 2 ^ 32
  let t : Int := (d.eave.cycleAt : Int) - (behind * ms 1 : Nat) + (offset * 100 : Nat)
  match phaseAngle t d with
  | none => d
  | some a =>
    let code := classify a
    let x := d.eave.node[n]
    let run := if x.phase = code then min 50 (x.phaseRun + 1) else 1
    let d := setNum (nodeIdx n) 0x07 a (onNode n (fun x => { x with phase := code, phaseRun := run }) d)
    if run = 50 ∧ nat d (nodeIdx n) 0x06 ≠ code then
      let d := setNum (nodeIdx n) 0x06 code d
      if num d (nodeIdx n) 0x02 ≠ 0 ∧ nat d (nodeIdx n) 0x02 ≠ code then raise1 5 .phaseWiring n.val d else d
    else d

/-- A zero-crossing report (Table 13.9). -/
def zeroReport (n : Fin 16) (b : List Byte) (d : Dev) : Dev :=
  let k := fieldAt b 0 1
  if k < 1 ∨ 8 < k ∨ b.length ≠ 2 + 6 * k then d else
  (List.range k).foldl (fun d i => nodeCrossing n (fieldAt b (2 + 6 * i) 4) (fieldAt b (6 + 6 * i) 2) d) d

/-- ZERO_CROSSING_REPORT (R414, R415). -/
def execZeroCrossingReport (n : Fin 16) (report : List Byte) (s : State) : Host.Outcome State Fault Refusal :=
  done s (if isMaster s.dev && admitted n s.dev then zeroReport n report s.dev else s.dev)

/-- MAINS_REF_CROSSING (R414): stamped to 1 µs; the frequency is that of the last 50 periods. -/
def execMainsRefCrossing (at_ : Nat) (s : State) : Host.Outcome State Fault Refusal :=
  let d := reachSite at_ s.dev
  done s (if !up 5 d then d else
    let d := onEave (fun e => { e with crossings := (atSite (at_ / 100 * 100 : Nat) d :: e.crossings).take 51 }) d
    match d.eave.crossings.head?, d.eave.crossings[50]? with
    | some a, some z =>
      let f := (divRound (5000 * sec 1 : Nat) (a - z)).toNat
      setNum 0x1300 0x0B (if 4500 ≤ f ∧ f ≤ 6500 then f else 0 : Nat) d
    | _, _ => d)

/-- The entries of a node's identity. -/
def nodeIdentity (n : Fin 16) (b : List Byte) (d : Dev) : Dev :=
  setNum (nodeIdx n) 0x05 (fieldAt b 8 2) (setNum (nodeIdx n) 0x04 (fieldAt b 0 8) d)

/-- A whole message from a node (R402, R413). -/
def deliverMsg (n : Fin 16) (type : Nat) (b : List Byte) (d : Dev) : Dev := match type with
  | 0x1 => onEave (fun e => { e with frames := tab (fun k => if nat d (outIdx k 1) 0x05 = n.val then b else e.frames[k]) }) d
  | 0x9 => onNode n (fun x => { x with maps := upd x.maps 0 (fun _ =>
      ⟨fieldAt b 1 1 == 1, (b.drop 2).flatMap (fun v => [field v.toNat 0 2, field v.toNat 2 2, field v.toNat 4 2, field v.toNat 6 2])⟩) }) d
  | 0xA => zeroReport n b d
  | 0xB => nodeIdentity n b d
  | _ => d

/-- Content bytes of a message from an offset on, by its fragments. -/
def gather (parts : List (Nat × List Byte)) : Nat → Nat → List Byte
  | 0, _ => []
  | fuel + 1, at_ => match parts.find? (fun p => decide (p.1 ≤ at_ ∧ at_ < p.1 + p.2.length)) with
    | some p => let b := p.2.drop (at_ - p.1)
      b ++ gather parts fuel (at_ + b.length)
    | none => []
/-- The content of a message where every byte has arrived and its last fragment has been seen. -/
def wholeMsg (m : InMsg) : Option (Nat × List Byte) := match m.head with
  | some (type, len) => let b := gather m.parts 64 0
    if m.ended && b.length == len then some (type, b) else none
  | none => none

/-- Whole messages delivered in sequence order; a discarded one is passed over (R402). -/
def deliverReady (n : Fin 16) (cls : Nat) : Nat → Dev → Dev
  | 0, d => d
  | fuel + 1, d =>
    let x := d.eave.node[n]
    match x.deliverSeq[clsIdx cls] with
    | none => d
    | some q => match x.inbox.find? (fun m => m.cls == cls && m.seq == q) with
      | none => d
      | some m =>
        let next := onNode n (fun x => { x with
          inbox := x.inbox.erase m, deliverSeq := upd x.deliverSeq (clsIdx cls) (fun _ => some ((q + 1) % 256)) }) d
        if m.dead then deliverReady n cls fuel next else
        match wholeMsg m with
        | none => d
        | some (type, b) => deliverReady n cls fuel (deliverMsg n type b next)

/-- Whether a message sequence is one of the 16 that a class may have outstanding from the next on (R402). -/
def inWindow (next q : Nat) : Bool := decide ((q + 256 - next) % 256 < 16)
/-- A message discarded, whose turn is passed over (R402). -/
def killMsg (n : Fin 16) (m : InMsg) (d : Dev) : Dev :=
  deliverReady n m.cls 16 (onNode n (fun x => { x with inbox := x.inbox.map (fun y => if y = m then { y with dead := true, parts := [] } else y) }) d)
/-- A fragment of a class 2 or class 3 message (R402). A message header that no row of Table 13.9 allows discards the message; a fragment
beyond its message's length is discarded; both are counted. A fragment of a message delivered or discarded before is a repeat. -/
def takeFragment (n : Fin 16) (p : Piece) (d : Dev) : Dev :=
  let d := onNode n (fun x => { x with deliverSeq := upd x.deliverSeq (clsIdx p.cls) (fun q => some (q.getD p.seq)) }) d
  let x := d.eave.node[n]
  if !inWindow ((x.deliverSeq[clsIdx p.cls]).getD p.seq) p.seq then d else
  let m : InMsg := (x.inbox.find? (fun m => m.cls == p.cls && m.seq == p.seq)).getD ⟨p.cls, p.seq, none, [], false, d.time.now, false⟩
  if m.dead then d else
  let head := if p.offset = 0 then let h := fieldAt p.bytes 0 2; some (h / 4096, h % 4096) else m.head
  let body := if p.offset = 0 then p.bytes.drop 2 else p.bytes
  let malformed : Bool := match head with
    | some (t, len) => !messageFits p.cls t len
    | none => false
  let stray : Bool := match head with
    | some (_, len) => decide (len < p.offset + body.length)
    | none => false
  if stray && !malformed then bump 0x1300 0x0D d
  else
    let m' := { m with head := head, parts := m.parts ++ [(p.offset, body)], ended := m.ended || p.last }
    let d := onNode n (fun x => { x with inbox := x.inbox.filter (fun y => !(y.cls == p.cls && y.seq == p.seq)) ++ [m'] }) d
    if malformed then killMsg n m' (bump 0x1300 0x0D d) else deliverReady n p.cls 16 d

/-- A Ridge frame passed to the safety island (R277, R405, R413): by its kind to the connection's consumer or producer slot. -/
def relayRidge (n : Fin 16) (which : Fin 2) (f : List Byte) (d : Dev) : Dev :=
  match (ridgeSlots d)[which.val]? with
  | some i => if ridgeNode i d ≠ n.val then d else
    enqueue .hf (tenonBytes 0x03 0 0 3 i.val (leBytes 1 4 ++ leBytes 1 i.val ++ leBytes 2 n.val ++ leBytes 4 (islandTime 5 d % 2 ^ 32) ++ f) d) d
  | none => d

/-- The content bytes of an uplink data block of a node: code A's 26 in robust mode and at rate A, code B's 46 at rate B (R400). -/
def upContent (n : Fin 16) (d : Dev) : Nat := if !isRobust n d && (mapOf true n d).codeB then 46 else 26
/-- An uplink Ridge block of the region (R405): class 0 with a whole Ridge frame. -/
def ridgeBlock (n : Fin 16) (w : Fin 2) (b : EaveBlock) (d : Dev) : Dev :=
  let h := fieldAt b.content 0 4
  let len := field h 0 6
  let good := b.crc == crc32 b.content && b.content.length == 26
  let d := onNode n (fun x => { x with ridgeSeen := x.ridgeSeen ++ [good] }) d
  if good && field h 28 4 == n.val && field h 26 2 == 0 && decide (14 ≤ len ∧ len ≤ 22) then relayRidge n w ((b.content.drop 4).take len) d else d
/-- An uplink data block (R400, R402). -/
def dataBlock (n : Fin 16) (b : EaveBlock) (d : Dev) : Dev :=
  let h := fieldAt b.content 0 4
  let len := field h 0 6
  let cls := field h 26 2
  let good := b.crc == crc32 b.content && b.content.length == upContent n d && decide (len + 4 ≤ b.content.length) && field h 28 4 == n.val
  let d := onNode n (fun x => { x with dataSeen := x.dataSeen ++ [good] }) d
  if good && (cls == 2 || cls == 3) && len != 0 then takeFragment n ⟨cls, field h 17 8, field h 6 11, bit h 25, (b.content.drop 4).take len⟩ d
  else d
/-- DATA_BLOCK (R400, R402, R405): an uplink block at the master, at the place of the region's first or second Ridge block, or at one of a
data block. -/
def execDataBlock (n : Fin 16) (ridge : Option (Fin 2)) (b : EaveBlock) (s : State) : Host.Outcome State Fault Refusal :=
  let d := s.dev
  done s (if !(b.up && isMaster d && admitted n d) then d
    else match ridge with
      | some w => ridgeBlock n w b d
      | none => dataBlock n b d)

/-- MESSAGE_REASSEMBLY_TIMEOUT (R402): 100 cycles after its first fragment, the oldest message is discarded and counted. -/
def execMessageReassemblyTimeout (n : Fin 16) (s : State) : Host.Outcome State Fault Refusal :=
  let d := s.dev
  done s (match (d.eave.node[n]).inbox.find? (fun m => !m.dead && (wholeMsg m).isNone) with
    | none => d
    | some m => killMsg n m (bump 0x1300 0x0E (reach (m.since + ms 100) d)))

/-! Robust mode, admission and loss (R397, R409 to R412). -/

/-- The tone map that mean SNRs in 0.1 dB give (Table 13.4). -/
def estimateMap (snr : List Int) (margin : Int) : ToneMap :=
  let at_ (x hi mid lo : Int) : Nat := if 10 * (hi + margin) ≤ x then 3 else if 10 * (mid + margin) ≤ x then 2 else if 10 * (lo + margin) ≤ x then 1 else 0
  let l := (List.range 816).map (fun i => snr.getD i 0)
  let b := l.map (fun x => at_ x 21 15 12)
  if 600 ≤ (b.filter (2 ≤ ·)).length then ⟨true, b⟩ else ⟨false, l.map (fun x => at_ x 17 11 8)⟩
/-- A map's capacity: information bits of a symbol, in sixths of a coded bit. -/
def mapCapacity (m : ToneMap) : Nat := (m.map.foldl (fun a x => a + toneBits x) 0) * (if m.codeB then 5 else 3)
/-- The least SNR above its threshold over the carriers in use, in 0.1 dB. -/
def mapMargin (snr : List Int) (m : ToneMap) : Int :=
  let th (x : Nat) : Int := match x with
    | 3 => if m.codeB then 210 else 170
    | 2 => if m.codeB then 150 else 110
    | _ => if m.codeB then 120 else 80
  let l := (m.map.zipIdx.filter (fun p => p.1 != 0)).map (fun p => snr.getD p.2 0 - th p.1)
  (l.foldl (fun a x => some (match a with | some y => min x y | none => x)) (none : Option Int)).getD 0

/-- ROBUST_STEP_UP (R409), with the uplink SNRs of the last 100 cycles. -/
def execRobustStepUp (n : Fin 16) (snr : List Int) (s : State) : Host.Outcome State Fault Refusal :=
  let d := s.dev
  let x := d.eave.node[n]
  done s (if !(isMaster d && admitted n d && isRobust n d) || x.stepWaits || decide (x.goodRun < stepUpCount n d) then d else
    let new := estimateMap snr d.eave.margin
    let old := mapOf true n d
    let d := setNum (nodeIdx n) 0x08 (mapMargin snr new) d
    if mapCapacity old ≤ mapCapacity new ∧ 0 < mapCapacity old then
      setNum (nodeIdx n) 0x03 2 (onNode n (fun x => { x with steppedUp := some d.time.now })
        (onEave (fun e => { e with robust := putBit e.robust n false }) d))
    else
      let d := onNode n (fun x => { x with maps := upd x.maps 1 (fun _ => new), stepWaits := true }) d
      onEave (fun e => { e with relayout := true }) (queueMsg n 3 0x9 (toneBytes d.eave.layout.version new) d))

/-- STEP_UP_COUNT_RESET (R409): 60 s without a step-down. -/
def execStepUpCountReset (n : Fin 16) (s : State) : Host.Outcome State Fault Refusal :=
  let d := s.dev
  done s (match (d.eave.node[n]).steppedDown with
    | some t => onNode n (fun x => { x with steppedDown := none, factor := 1 }) (reach (t + sec 60) d)
    | none => d)

/-- LAYOUT_SWITCH (R404, R409, R411, R417): at the switch cycle; a node that has not echoed the version by two cycles before is removed, and
attenuation and SNR margin take effect. -/
def execLayoutSwitch (s : State) : Host.Outcome State Fault Refusal :=
  let d := s.dev
  done s (match d.eave.pending with
    | none => d
    | some l =>
      if !isMaster d || (d.eave.cycle + 2 ^ 32 - l.switchAt) % 2 ^ 32 ≥ 2 ^ 31 then d else
      let held (n : Fin 16) : Bool := match (d.eave.node[n]).echoed with
        | some (v, c) => v == l.version && decide ((l.switchAt + 2 ^ 32 - c) % 2 ^ 32 ≥ 2 ∧ (l.switchAt + 2 ^ 32 - c) % 2 ^ 32 < 2 ^ 31)
        | none => false
      let goes (n : Fin 16) : Bool := d.eave.remove.getLsbD n.val || !held n
      let joins (n : Fin 16) : Bool := d.eave.admitting == some n && held n
      let adm : BitVec 16 := BitVec.ofNat 16 (maskOf (fun n => (admitted n d && !goes n) || joins n))
      let rob : BitVec 16 := BitVec.ofNat 16 (maskOf (fun n => joins n || (isRobust n d && admitted n d && !goes n && !(d.eave.node[n]).stepWaits)))
      let d := (all 16).foldl (fun d n =>
        if joins n then setNum (nodeIdx n) 0x03 3 d
        else if admitted n d && goes n then setNum (nodeIdx n) 0x03 0 d
        else if d.eave.admitting = some n then setNum (nodeIdx n) 0x03 0 d
        else if admitted n d && (d.eave.node[n]).stepWaits then
          setNum (nodeIdx n) 0x03 2 (onNode n (fun x => { x with stepWaits := false, steppedUp := some d.time.now }) d)
        else d) d
      setNum 0x1300 0x04 l.version (onEave (fun e => { e with
        admitted := adm, robust := rob, layout := l, pending := none, admitting := none, admitStep := 0, remove := 0, layoutAt := d.time.now,
        attenuation := nat d 0x1300 0x08, margin := num d 0x1300 0x09 }) d))

/-- ADMISSION_ANSWER (R411): a node's identity is accepted or refused; while its number is being admitted, an answer acknowledges the block of
the cycle's downlink admission area: the grant, then the four fragments of the layout table. -/
def execAdmissionAnswer (n : Fin 16) (b : EaveBlock) (s : State) : Host.Outcome State Fault Refusal :=
  let d := s.dev
  let good := b.up && b.content.length == 26 && b.crc == crc32 b.content && fieldAt b.content 0 1 == n.val * 16 + 3
  let ser := fieldAt b.content 1 8
  let want := nat d (nodeIdx n) 0x01
  done s (if !(isMaster d && good) || d.eave.offer ≠ some n then d
    else if d.eave.admitting = some n then
      (if d.eave.admitDown = [] then d else
        let d := onEave (fun e => { e with admitStep := e.admitStep + 1, admitDown := [] }) d
        if d.eave.admitStep = 5 then onNode n (fun x => { x with echoed := d.eave.pending.map (fun l => (l.version, d.eave.cycle)) }) d else d)
    else if admitted n d || (want != 0 && want != ser) then
      raise1 5 .nodeRefused n.val (onNode n (fun x => { x with refusedAt := some d.time.now }) d)
    else
      let d := setNum (nodeIdx n) 0x03 1 (nodeIdentity n (b.content.drop 1) d)
      onEave (fun e => { e with admitting := some n, admitStep := 0, admitDown := [] }) (onNode n (fun x => { x with
        echoed := none, flight := [], heard := [], out := [], resend := [], inbox := [], missRun := 0, goodRun := 0,
        maps := tab (fun _ => ⟨false, []⟩), deliverSeq := tab (fun _ => none), lastUp := d.eave.cycle, lastDown := d.eave.cycle }) d))

/-- NODE_REFUSED_RETRY (R411): after 10 s the number is offered again. -/
def execNodeRefusedRetry (n : Fin 16) (s : State) : Host.Outcome State Fault Refusal :=
  let d := s.dev
  done s (match (d.eave.node[n]).refusedAt with
    | some t => onNode n (fun x => { x with refusedAt := none }) (reach (t + sec 10) d)
    | none => d)

/-- NODE_LOST (R412). -/
def execNodeLost (n : Fin 16) (s : State) : Host.Outcome State Fault Refusal :=
  let d := s.dev
  done s (if isMaster d && admitted n d && decide (50 ≤ (d.eave.node[n]).missRun) then
    raise1 5 .nodeLost n.val (setNum (nodeIdx n) 0x03 4 (onEave (fun e => { e with
      admitted := putBit e.admitted n false, robust := putBit e.robust n false, relayout := true }) d))
  else d)

/-- The Eaveline state for the partner (R416). -/
def eaveShared (d : Dev) : EaveSync :=
  ⟨d.eave.admitted, d.eave.layout, d.eave.pending, tab (fun n => (d.eave.node[n]).maps),
   tab (fun n => BitVec.ofNat 64 (nat d (nodeIdx n) 0x01))⟩

/-- EAVELINE_STATE_SYNC (R416): the master's state sent to the partner, or the partner's state received. -/
def execEavelineStateSync (x : Option EaveSync) (s : State) : Host.Outcome State Fault Refusal :=
  let d := s.dev
  done s (match x with
    | none => if isMaster d then onEave (fun e => { e with shared := some (eaveShared d) }) d else d
    | some y => if isMaster d then d else onEave (fun e => { e with shared := some y }) d)

/-- The line state (0x1300.02); a silent line link reports Eaveline down (Table 1.2). -/
def lineState (d : Dev) : Nat :=
  if !up 5 d then 3 else if !on d 0x1300 0x01 then 0 else if isStale .lineLink d then 3 else if isMaster d then 1 else 2

/-- The remove command (0x1300.0C): at the next layout switch. -/
def removeNode (n : Fin 16) (d : Dev) : Dev := onEave (fun e => { e with remove := putBit e.remove n true, relayout := true }) d

end Sys2Proof.Machine
end

