-- ==== Sys2Proof/Machine/Restart.lean ====
section
/-! DEFINITION. Where entries are held, what a restart of an island does, and the supplies, start-up and power-fail sequences
(R5, R10, R30, R443, R457, R466, R479 to R488, R494, R504). -/
namespace Sys2Proof.Machine

/-- The module-level state changed, and its parts. -/
def onSys (f : Module → Module) (d : Dev) : Dev := { d with sys := f d.sys }
def onKeys (f : Keys → Keys) (d : Dev) : Dev := onSys (fun s => { s with keys := f s.keys }) d
def onImg (t : Fin 5) (f : Img → Img) (d : Dev) : Dev := onSys (fun s => { s with img := upd s.img t f }) d
def onStore (st : Fin 2) (f : Store → Store) (d : Dev) : Dev := onSys (fun s => { s with store := upd s.store st f }) d
def onPower (f : Power → Power) (d : Dev) : Dev := onSys (fun s => { s with power := f s.power }) d

/-- The island that holds an entry (Table 17.1, R504). -/
def islandOf (idx sub : Nat) : Fin 8 :=
  match idx / 256 with
  | 0x10 => if idx = 0x1040 then 7 else 0
  | 0x13 => 5
  | 0x18 => 1
  | 0x19 => if idx = 0x1900 ∧ ((2 ≤ sub ∧ sub ≤ 6) ∨ sub = 0x0A) then 7 else 0
  | 0x1C => 6
  | 0x1D => 7
  | 0x20 | 0x21 | 0x22 | 0x23 | 0x24 | 0x26 | 0x27 | 0x28 | 0x30 | 0x32 => 1
  | 0x38 => 2
  | 0x40 => 3
  | 0x44 => if idx = 0x4410 ∨ idx = 0x4411 then 1 else 4
  | _ => 0

/-- Whether an entry is kept in the key store's blobs (Table 15.12). -/
def inKeyStore (idx : Nat) : Bool := (0x1A20 ≤ idx && idx ≤ 0x1A26) || (0x1A40 ≤ idx && idx ≤ 0x1A7F)

/-- The configuration store of a P entry (R466): 0 the host leaves, 1 the field leaves. -/
def storeOf (idx sub : Nat) : Option (Fin 2) :=
  if inKeyStore idx then none else
  match islandOf idx sub with
  | 0 | 5 => some 0
  | 1 | 4 | 6 | 7 => some 1
  | _ => none

/-- Whether a restart leaves an entry as it is: factory data, what another island holds or reports, what flash, OTP or MRAM keeps, and the
record of reset causes. Command statuses and counts begin anew (R5). -/
def survives (i : Fin 8) (k : Nat) : Bool :=
  let idx := k / 256
  let sub := k % 256
  islandOf idx sub != i || (idx == 0x1A00 && (sub == 0x02 || sub == 0x05)) || (0x1B10 ≤ idx && idx ≤ 0x1B14 && 0x02 ≤ sub && sub ≤ 0x08)
    || (0x1B41 ≤ idx && idx ≤ 0x1B42 && sub != 0x06) || (idx == 0x1001 && sub ≤ 0x08)
    || (match rowOf idx sub with
        | some r => r.keep == .f || (r.keep == .p && (storeOf idx sub).isNone)
        | none => false)

/-! Leaves at a start (R467, R468). -/

/-- The bytes of a leaf's body (Table 15.11): entries in ascending order. -/
def bodyBytes (b : List (Nat × DVal)) : List Byte :=
  b.flatMap (fun e =>
    let v := match rowOf (e.1 / 256) (e.1 % 256) with
      | some r => valBytes r.ty e.2
      | none => []
    let len := match e.2 with
      | .oct _ => leBytes 1 0xFF ++ leBytes 2 v.length
      | _ => leBytes 1 v.length
    leBytes 2 (e.1 / 256) ++ leBytes 1 (e.1 % 256) ++ len ++ v)
/-- The CRC-32 over the length, the body and the sequence. -/
def leafCrc (l : Leaf) : W32 := let b := bodyBytes l.body; crc32 (leBytes 4 b.length ++ b ++ leBytes 4 l.seq.toNat)
/-- The capacity of a leaf of each store in bytes (R466). -/
def leafCapacity (st : Fin 2) : Nat := if st = 0 then 256 * 1024 else 512 * 1024
/-- Whether a leaf is valid (R467). -/
def leafValid (st : Fin 2) (l : Leaf) : Bool :=
  l.magic && decide ((bodyBytes l.body).length + 20 ≤ leafCapacity st) && l.seq != 0 && l.seq != 0xFFFFFFFF && l.crcOk
/-- Whether a leaf's sequence is newer than another's (R468). -/
def leafNewer (x y : W32) : Bool := let n := (x - y).toNat; 1 ≤ n && n ≤ 2 ^ 31 - 1
/-- The entries that differ between the modules of a pair are left out (R471). -/
def pairBody (b : List (Nat × DVal)) : List (Nat × DVal) := b.filter (fun e => !(0x1C00 ≤ e.1 / 256 && e.1 / 256 ≤ 0x1DFF))
/-- The entries that report a store's leaves (Table 15.13). -/
def leafIdx (st : Fin 2) : Nat := if st = 0 then 0x1B42 else 0x1B41
/-- The report of a store's leaves. -/
def reportLeaves (st : Fin 2) (d : Dev) : Dev :=
  let s := d.sys.store[st]
  let d := setNum (leafIdx st) 0x03 ((s.leaf[(1 : Fin 2)]).seq.toNat : Nat) (setNum (leafIdx st) 0x02 ((s.leaf[(0 : Fin 2)]).seq.toNat : Nat) d)
  match s.inForce with
  | none => setNum (leafIdx st) 0x01 2 d
  | some l =>
    let x := s.leaf[l]
    let d := setNum (leafIdx st) 0x05 ((bodyBytes x.body).length : Nat) (setNum (leafIdx st) 0x04 ((leafCrc x).toNat : Nat) (setNum (leafIdx st) 0x01 l.val d))
    if st = 1 then
      let b := bodyBytes (pairBody x.body)
      setNum 0x1B41 0x07 ((crc32 b).toNat : Nat) d
    else d
/-- At its start a store takes its valid leaf with the newer sequence (R468). A commit torn before its sequence leaves an erased
one (R469). -/
def takeLeaf (st : Fin 2) (d : Dev) : Dev :=
  let s := d.sys.store[st]
  let s := match s.writing with
    | some _ => { s with leaf := upd s.leaf (match s.inForce with | some 0 => 1 | _ => 0) (fun l => { l with seq := 0xFFFFFFFF }) }
    | none => s
  let a := s.leaf[(0 : Fin 2)]
  let b := s.leaf[(1 : Fin 2)]
  let pick : Option (Fin 2) :=
    if leafValid st a then (if leafValid st b && leafNewer b.seq a.seq then some 1 else some 0)
    else if leafValid st b then some 1 else none
  let d := onStore st (fun _ => { s with inForce := pick, unsaved := none, writing := none, lastCommit := none, waits := false }) d
  let d := reportLeaves st d
  if pick.isNone then raise1 (if st = 0 then 0 else 7) .configInvalid (st.val + 1) d else d

/-- Whether a key blob may be used: wrapped in the life-cycle state and provisioning in force (R448). -/
def keyUsable (b : KeyBlob) (d : Dev) : Bool := b.state == lifeOf d && b.count == nat d 0x1A00 0x02
/-- A key identity reported unusable, once per identity and start (R448). -/
def tellUnusable (k : Fin 64) (d : Dev) : Dev :=
  if d.sys.keys.told.getLsbD k.val then d
  else raise1 0 .keyUnusable k.val (onKeys (fun x => { x with told := x.told ||| (1#64 <<< k.val) }) d)
/-- The index of a key identity's entries. -/
def keyIdx (k : Fin 64) : Nat := 0x1A40 + k.val
/-- The host root of the life-cycle state in force (R446). -/
def hostRoot (d : Dev) : List Byte :=
  (Config.hmacSha384 Config.hostSeed (leBytes 1 (lifeOf d) ++ leBytes 1 (nat d 0x1A00 0x02))).take 32
/-- The additional authenticated data of a blob: its bytes 0 to 15 (R447, Table 15.3). -/
def blobHead (k : Nat) (alg usage : Nat) (d : Dev) : List Byte :=
  leBytes 1 1 ++ leBytes 1 k ++ leBytes 1 alg ++ leBytes 1 usage ++ leBytes 1 (lifeOf d) ++ leBytes 1 (nat d 0x1A00 0x02)
    ++ leBytes 2 0 ++ leBytes 8 (islandTime 0 d)
/-- A draw from the key store's random generator. -/
def draw (d : Dev) : List Byte × Dev := (Config.drbg d.sys.keys.drawn, onKeys (fun x => { x with drawn := x.drawn + 1 }) d)

/-- A public item wrapped into its entry's blob (R452): the item in place of the ciphertext, under a tag over the head and the item. The
blob's identity and usage bytes are 0 (DESIGN CHOICE, log 237). -/
def wrapItem (k : Nat) (item : List Byte) (d : Dev) : Dev :=
  let others := d.sys.keys.items.filter (fun e => e.1 != k)
  if item = [] then onKeys (fun x => { x with items := others }) d else
  let (r, d) := draw d
  let nonce := r.take 12
  let b : KeyBlob := ⟨0, 0, lifeOf d, nat d 0x1A00 0x02, islandTime 0 d, nonce, item,
    (Config.aesGcm (hostRoot d) nonce (blobHead 0 0 0 d ++ item) []).2⟩
  onKeys (fun x => { x with items := others ++ [(k, b)] }) d
/-- An identity's blob erased, with what its entries show of it. -/
def eraseKey (k : Fin 64) (d : Dev) : Dev :=
  let d := onKeys (fun x => { x with
    blob := upd x.blob k (fun _ => none),
    slot := x.slot.map (fun s => match s with | some y => if y.key = k then none else some y | none => none) }) d
  setOct (keyIdx k) 0x05 [] (setNum (keyIdx k) 0x02 0 (setNum (keyIdx k) 0x01 0 d))

/-- The key store at a transition (R448): it erases every blob that can no longer be used, having first re-wrapped every public item at the
transition to FIELD. -/
def storeTransition (to_ : Nat) (d : Dev) : Dev :=
  let d := (all 64).foldl (fun d k => if (d.sys.keys.blob[k]).isSome then eraseKey k d else d) d
  if to_ = 3 then d.sys.keys.items.foldl (fun d e => wrapItem e.1 e.2.cipher d) d
  else d.sys.keys.items.foldl (fun d e => setVal e.1 (.oct []) d) (onKeys (fun x => { x with items := [] }) d)
/-- The life cycle and the key store at a start of the host island (R443, R448, R451): a host bank that lags by one transition
is burnt forward, the slots are empty, and the blobs found are judged; a public item whose blob cannot be used reads empty. -/
def startKeys (d : Dev) : Dev :=
  let d := onKeys (fun x => { x with armed := none, slot := tab (fun _ => none), waiting := [], told := 0 }) d
  let x := d.sys.keys
  let d := if oneTransition x.hostBank x.fieldBank
    then storeTransition x.fieldBank (onKeys (fun x => { x with hostBank := x.fieldBank }) d) else d
  let d := (all 64).foldl (fun d k => match d.sys.keys.blob[k] with
    | some b => if keyUsable b d then d else tellUnusable k d
    | none => d) d
  d.sys.keys.items.foldl (fun d e => if keyUsable e.2 d then d else setVal e.1 (.oct []) d) d

/-- The entries that an island holds after a restart (R5, R470): a V entry its default, a P entry what its leaf in force holds. -/
def restoreEntries (i : Fin 8) (d : Dev) : Dev :=
  let body (st : Fin 2) : List (Nat × DVal) :=
    let s := d.sys.store[st]
    match s.inForce with
    | some l => (s.leaf[l]).body
    | none => []
  let d := { d with regs := d.regs.filter (fun e => survives i e.1) }
  (body 0 ++ body 1).foldl (fun d e => if islandOf (e.1 / 256) (e.1 % 256) = i then setVal e.1 e.2 d else d) d

/-! Images at a restart. -/

/-- The image type that an island runs (Table 15.6). -/
def imageOf (i : Fin 8) : Fin 5 := match i with
  | 0 | 7 => 0
  | 1 | 4 | 6 => 1
  | 3 => 2
  | 2 => 3
  | 5 => 4
/-- The index of an image type's entries. -/
def imgIdx (t : Fin 5) : Nat := 0x1B10 + t.val
/-- An image header's version, rollback level, mirror format (Table 15.7). -/
def hdrVersion (h : List Byte) : Nat := fieldAt h 6 2
def hdrLevel (h : List Byte) : Nat := fieldAt h 8 1
def hdrFormat (h : List Byte) : Nat := fieldAt h 10 2

/-- A reset while the running image is in trial boots the previous image (R457). -/
def fallBack (t : Fin 5) (d : Dev) : Dev :=
  let x := d.sys.img[t]
  match x.previous with
  | some p =>
    if num d (imgIdx t) 0x03 ≠ 1 then d else
    let d := onImg t (fun x => { x with running := p, previous := none, healthy := none, timedOut := false }) d
    let d := if t = 1 then setNum 0x1C00 0x11 (hdrFormat p) d else d
    setNum (imgIdx t) 0x02 (hdrVersion p) (setNum (imgIdx t) 0x03 0 (setNum (imgIdx t) 0x04 0
      (setNum (imgIdx t) 0x05 (hdrVersion x.running) (setNum (imgIdx t) 0x06 4 d))))
  | none => d

/-! Starting and stopping islands. -/

/-- An island's state changed (0x1043). -/
def setIsland (i : Fin 8) (st : IslandState) (d : Dev) : Dev := { d with isl := upd d.isl i (fun _ => st) }

/-- The host island's site bus and server begun anew: every session slot is closed, with its subscriptions and its connections, the enabled
controllers come up, time following listens where it is enabled, and the address is claimed anew where ADDR_IN is high (R363). The vehicle
connections are kept over the restart of an activation (R461). What the field side holds of sessions and groups stands (R10), and so do the links of the Ethernet ports. -/
def freshSite (d : Dev) : Dev :=
  let d := { d with
    site := { Fresh.site with
      can := tab (fun c => { Fresh.can with bus := if on d (canIdx c) 0x01 then .active else .disabled }),
      ptp := { Fresh.site.ptp with state := if on d 0x1420 0x01 then 1 else 0 }, ethLink := d.site.ethLink,
      addr := { Fresh.site.addr with since := d.time.now, addrInHigh := d.site.addr.addrInHigh },
      owners := upd d.site.owners 6 (fun _ => 0), fieldSession := d.site.fieldSession, islandSeen := d.site.islandSeen }
    barrier := { d.barrier with host := Fresh.side d.time.now }
    vehicle := if d.isl[0] = .updating then d.vehicle else tab (fun _ => Fresh.vehicle) }
  if d.site.addr.addrInHigh then startClaim d else d

/-- A restarted host island announces that no session is open (R375). -/
def announceClosings (d : Dev) : Dev := (all 6).foldl (fun d n => enqueue .hf (tenonItems 0x07 7 0 24 [n.val + 1, 0, 0, 0] d) d) d

/-- The limp-home map from the switch island's own memory (R313). -/
def loadMap (d : Dev) : Dev := (all 8).foldl (fun d p => setNum 0x4430 (p.val + 1) ((d.load.nvMap[p] : Nat) : Int) d) d

/-- What an island's restart does to what it holds (R10, R72, R181, R302, R485). -/
def restartWork (i : Fin 8) (d : Dev) : Dev := match i with
  | 0 => startKeys (rebuildLog (announceClosings (onLane .hf (fun l => { Fresh.lane with txSeq := l.txSeq, rxSeq := l.rxSeq })
      (freshSite (bump 0x1001 0x09 d)))))
  | 1 => { d with
      ring := Fresh.ring true, brick := tab (fun _ => Fresh.brick), drive := tab (fun _ => Fresh.drive), leg := tab (fun _ => Fresh.leg),
      sync := { Fresh.sync with boundary := d.time.now - siteTime d % period, count := d.sync.count },
      rail := tab Fresh.rail, ratio := tab (fun _ => none), eng := { Fresh.engine with thermal := Fresh.engine.thermal.map (fun x => { x with inputAt := d.time.now }) }, alloc := Fresh.alloc,
      out := tab (fun k => { Fresh.outlet with connSince := d.time.now, statusCount := (d.out[k]).statusCount, since := d.time.now }),
      dma := { Fresh.dma with epoch := d.dma.epoch + 1 } }
  | 2 => setNum 0x3800 0x01 0 d
  | 3 => enterStart (onSafety (fun s => { Fresh.safety with
      leafValid := s.leafValid, password := s.password, log := s.log, logSeq := s.logSeq }) d)
  | 4 => loadMap (onLoad (fun l => { l with
      orphan := false, orphanAt := none,
      chan := tab (fun n => { Fresh.chan with
        heat := (l.chan[n]).heat, retries := nat d 0x4414 (n.val + 1), partnerI := (l.chan[n]).partnerI, partnerAt := (l.chan[n]).partnerAt }) })
      { d with chan := upd d.chan (chanIdx .loadCommand) (fun c => { c with stale := true }) })
  | 5 => { d with eave := { Fresh.eave with side := d.eave.side, attenuation := nat d 0x1300 0x08, margin := num d 0x1300 0x09 } }
  | 6 => { d with pair := { Fresh.pair with startedAt := d.time.now, late := d.pair.late, timeOffset := d.pair.timeOffset } }
  | 7 => onLane .fh (fun l => { Fresh.lane with txSeq := l.txSeq, rxSeq := l.rxSeq })
      { d with
        site := { d.site with owners := tab (fun g => if g.val = 6 then d.site.owners[g] else 0), fieldSession := tab (fun _ => none) }
        barrier := { d.barrier with field := Fresh.side d.time.now }
        metro := { d.metro with ring := d.metro.ring.map (fun r => { r with sentAt := some d.time.now }) } }

/-- The island whose stop and start an activation of a type is (Table 15.9). -/
def activated (t : Fin 5) : Fin 8 := match t with
  | 0 => 0
  | 1 => 1
  | 2 => 3
  | 3 => 2
  | 4 => 5

/-- A sequence that has failed (R463, R464): the running images stay, and a staged image stays STAGED. -/
def failActivation (d : Dev) : Dev := match d.sys.act with
  | some a => onSys (fun x => { x with act := none }) (setNum 0x1B20 0x02 6 (setNum (imgIdx a.type) 0x06 1 d))
  | none => d

/-- An island starts again for another cause than its activation (R464): an activation whose boot check it has not reached is interrupted, and
so is one that the host island's update manager has not brought to that stop, or a pair sequence. An activation whose island boots by itself
stands over a restart of the host island (DESIGN CHOICE, log 238). -/
def interruptActivation (i : Fin 8) (d : Dev) : Dev := match d.sys.act with
  | some a => if (activated a.type = i ∧ a.stopped.isSome ∧ !a.booted) ∨ (i = 0 ∧ (a.pair ∨ a.stopped.isNone)) then failActivation d else d
  | none => d

/-- An island that was stopped runs again, with the cause of its reset. -/
def startIsland (i : Fin 8) (cause : Nat) (d : Dev) : Dev :=
  let d := fallBack (imageOf i) d
  let d := match i with
    | 0 => takeLeaf 0 d
    | 7 => takeLeaf 1 d
    | _ => d
  let progress := num d 0x1B20 0x02
  let d := restartWork i (restoreEntries i d)
  let d := if i = 0 ∧ d.sys.act.isSome then setNum 0x1B20 0x02 progress d else d
  let d := if cause = 2 then d else interruptActivation i d
  let d := onImg (imageOf i) (fun x => { x with healthy := none }) d
  setNum 0x1001 (i.val + 1) cause (setIsland i .running d)

/-- An island stops. -/
def stopIsland (i : Fin 8) (st : IslandState) (d : Dev) : Dev := if d.isl[i] = .off then d else setIsland i st d

/-- ISLAND_WATCHDOG_RESET (R10): one island is reset; the others run on. -/
def execIslandWatchdogReset (isl : Fin 8) (s : State) : Host.Outcome State Fault Refusal :=
  let d := s.dev
  done s (if up isl d then raise1 isl .islandReset isl.val (startIsland isl 5 d) else d)

/-- FIELD_ISLAND_RESTART (R72): the field control island restarts. -/
def execFieldIslandRestart (s : State) : Host.Outcome State Fault Refusal :=
  let d := s.dev
  done s (if up 1 d then startIsland 1 6 d else d)

/-! Supplies (R479 to R488). -/


/-- A heat W at the cold-start value (R302). -/
def coldHeat (d : Dev) : Nat := nat d 0x4400 0x09 * 16777216 / 100
/-- PD4 at a power-up (R302, R485): channels off, the limp-home map loaded, every W at the cold-start heat. -/
def powerLoad (d : Dev) : Dev :=
  if up 4 d then d else
  let d := startIsland 4 d.sys.power.startCause d
  onLoad (fun l => { l with limpFrom := d.time.now + ms 20, chan := tab (fun n => { l.chan[n] with heat := coldHeat d }) }) d
/-- Whether FIELD_24V feeds the switch island (R480): the field side's domains are supplied. -/
def fieldFeeds (d : Dev) : Bool := d.isl[3] != .off

/-- LOAD_SUPPLY_LOW (R480): every channel output is off; states, commands, retries and heat are kept. Where FIELD_24V is absent too, PD4 is
off. -/
def execLoadSupplyLow (s : State) : Host.Outcome State Fault Refusal :=
  let d := s.dev
  done s (if d.load.supplyLow then d else
    let d := drivePins (onLoad (fun l => { l with supplyLow := true }) d)
    if fieldFeeds d then (if up 4 d then raise 4 .loadSupplyLow [] d else d) else stopIsland 4 .off d)

/-- LOAD_SUPPLY_RETURN (R480): outputs follow R298 again; a PD4 that was off is powered up. -/
def execLoadSupplyReturn (s : State) : Host.Outcome State Fault Refusal :=
  let d := onLoad (fun l => { l with supplyLow := false }) s.dev
  done s (if d.isl[4] = .off then powerLoad d else followAll d)

/-- The field warning (R482): the notice, PD1, PD3 and PD6 off, PD4 on if LOAD_24V feeds it, metrology to its final save. -/
def fieldWarning (d : Dev) : Dev :=
  if d.sys.power.fieldSeq.isSome || !up 7 d then d else
  let d := enqueue .fh (tenonBytes 0x16 0 0 7 0 (leBytes 8 (siteTime d)) d) d
  let d := bump 0x1D02 0x06 (setNum 0x1D02 0x01 2 d)
  let d := stopIsland 6 .off (stopIsland 3 .off (stopIsland 1 .off d))
  let d := if d.load.supplyLow then stopIsland 4 .off d else d
  let d := onMetro (fun m => { m with warned := some d.time.now }) d
  onPower (fun p => { p with fieldSeq := some d.time.now, finalAt := none }) d

/-- FIELD_POWER_FAIL_WARNING (R482): 1 ms below 16.5 V. -/
def execFieldPowerFailWarning (s : State) : Host.Outcome State Fault Refusal := done s (fieldWarning s.dev)

/-- FIELD_SEQUENCE_END (R482): 2 ms after the final write is complete. -/
def execFieldSequenceEnd (s : State) : Host.Outcome State Fault Refusal :=
  let d := s.dev
  done s (if d.sys.power.fieldSeq.isNone || (metering d && !d.metro.finalDone) then d else
    onPower (fun p => { p with fieldSeq := none, finalAt := none }) (stopIsland 2 .off (reach (d.sys.power.finalAt.getD d.time.now + ms 2) d)))

/-- The host warning (R483): PD5 off, the log flushed, PD0 off after 20 ms. -/
def hostWarning (d : Dev) : Dev :=
  if !up 0 d then d else
  let d := setIsland 5 .off (bump 0x1D02 0x07 d)
  setIsland 0 .off (reach (d.time.now + ms 20) (flushLog d))

/-- HOST_POWER_FAIL_WARNING (R483). -/
def execHostPowerFailWarning (s : State) : Host.Outcome State Fault Refusal := done s (hostWarning s.dev)

/-- The field side from its 10 ms step on (Table 16.7), up to PD2. -/
def fieldOrder (cause : Nat) (d : Dev) : Dev :=
  let d := onPower (fun p => { p with startCause := cause }) d
  let d := powerLoad (startIsland 3 cause d)
  let d := startIsland 6 cause (reach (d.time.now + ms 10) d)
  setNum 0x1D02 0x01 0 (startIsland 2 cause (reach (d.time.now + ms 10) d))

/-- The time base as PD7 begins it at 0, on the TCXO (Table 16.7). -/
def timeFromZero (d : Dev) : Timebase :=
  let n := d.time.now
  { Fresh.time with
    now := n, base := -(n : Int), since := n, rateAt := n, marked := tab (fun _ => n), holdoverFrom := tab (fun _ => n), ticked := tab (fun _ => n) }

/-- FIELD_POWER_UP (R485): from cold, PD7 starts and the time base with it at 0, the hours of the one that
ended counted in the operating time; after a sequence that PD7 outlived, the time
base runs on. PD4 keeps its work where LOAD_24V has fed it (R480). -/
def execFieldPowerUp (cold : Bool) (s : State) : Host.Outcome State Fault Refusal :=
  let d := s.dev
  if d.sys.power.fieldSeq.isSome || d.sys.power.overTemp then done s d
  else if !up 7 d || (cold && !up 1 d && !up 2 d && !up 3 d) then
    let d := bumpBy 0x1001 0x0A (((d.time.now - d.time.since) / sec 3600 : Nat) : Int) d
    let d := { d with time := timeFromZero d, metro := { d.metro with aligned := false } }
    let d := if d.load.supplyLow then stopIsland 4 .off d else d
    let d := setNum 0x1D02 0x01 0 (startIsland 7 0 d)
    .next { s with dev := fieldOrder 0 (reach (d.time.now + ms 10) d) }
  else if up 3 d then done s d
  else done s (fieldOrder 1 d)

/-- HOLDUP_CHARGED (R484, R485): the store is ready and PD1 is enabled. -/
def execHoldupCharged (energy : Nat) (s : State) : Host.Outcome State Fault Refusal :=
  let d := s.dev
  done s (if !up 7 d || d.sys.power.fieldSeq.isSome then d else
    let d := setNum 0x1D02 0x01 1 (setNum 0x1D02 0x02 energy d)
    if d.isl[1] = .off then startIsland 1 d.sys.power.startCause d else d)

/-- HOST_POWER_UP (R486): PD0, then PD5. -/
def execHostPowerUp (s : State) : Host.Outcome State Fault Refusal :=
  let d := s.dev
  done s (if up 0 d || d.sys.power.overTemp then d else startIsland 5 0 (startIsland 0 0 d))

/-- DOMAIN_START_FAILED (R487). -/
def execDomainStartFailed (isl : Fin 8) (s : State) : Host.Outcome State Fault Refusal :=
  let d := s.dev
  done s (if up isl d then d else raise1 7 .domainStartFailed isl.val (setIsland isl .inReset d))

/-- The supply voltages as measured (0x1D00.01 to 0x1D00.04). -/
def supplies (v : Vector Nat 4) (d : Dev) : Dev := (all 4).foldl (fun d i => setNum 0x1D00 (i.val + 1) ((v[i] : Nat) : Int) d) d
/-- The other input of a pair. -/
def otherInput (i : Fin 4) : Fin 4 := match i with
  | 0 => 1 | 1 => 0 | 2 => 3 | 3 => 2

/-- SUPPLY_REDUNDANCY_LOST (R479). -/
def execSupplyRedundancyLost (i : Fin 4) (volts : Vector Nat 4) (s : State) : Host.Outcome State Fault Refusal :=
  let d := if up 7 s.dev then supplies volts s.dev else s.dev
  done s (if up 7 d && bit (nat d 0x1D00 0x05) i.val && !bit (nat d 0x1D00 0x06) i.val && decide (volts[i] < 1800) && decide (1800 < volts[otherInput i]) then
    raise1 7 .supplyRedundancyLost i.val (setNum 0x1D00 0x06 (nat d 0x1D00 0x06 + 2 ^ i.val : Nat) d) else d)

/-- SUPPLY_REDUNDANCY_RESTORED (R479). -/
def execSupplyRedundancyRestored (i : Fin 4) (volts : Vector Nat 4) (s : State) : Host.Outcome State Fault Refusal :=
  let d := if up 7 s.dev then supplies volts s.dev else s.dev
  done s (if up 7 d && bit (nat d 0x1D00 0x06) i.val && decide (1800 ≤ volts[i]) then setNum 0x1D00 0x06 (nat d 0x1D00 0x06 - 2 ^ i.val : Nat) d else d)

/-- HOLDUP_TEST (R484), with the measured energy in mJ. -/
def execHoldupTest (host : Bool) (energy : Nat) (s : State) : Host.Outcome State Fault Refusal :=
  let d := s.dev
  done s (if !up 7 d || d.sys.power.fieldSeq.isSome then d else
    let sub := if host then 0x03 else 0x01
    let weak := decide (energy < if host then 500 else 4000)
    let d := setNum 0x1D02 (sub + 1) energy (setNum 0x1D02 sub (if weak then 3 else 1) d)
    if weak then raise1 7 .holdupDegraded (if host then 1 else 0) d else d)

/-- COLD_PLATE_READ (R488): every 100 ms, in 0.1 °C. -/
def execColdPlateRead (temp : Int) (s : State) : Host.Outcome State Fault Refusal :=
  let d := s.dev
  done s (if !up 7 d then d else
    let d := setNum 0x1D03 0x01 temp (tick 4 (ms 100) d)
    let now := d.time.now
    let d := onPower (fun p => { p with
      hotSince := if 750 ≤ temp then some (p.hotSince.getD now) else none,
      coolSince := if temp < 600 then some (p.coolSince.getD now) else none }) d
    let quiet : Bool := match d.sys.power.warnedAt with
      | some t => decide (now < t + sec 60)
      | none => false
    if num d 0x1D03 0x02 < temp ∧ !quiet then raise 7 .coldPlateHigh [] (onPower (fun p => { p with warnedAt := some now }) d) else d)

/-- OVER_TEMPERATURE_SHUTDOWN (R488): 75 °C for 1 s declares both warnings. -/
def execOverTemperatureShutdown (s : State) : Host.Outcome State Fault Refusal :=
  let d := s.dev
  done s (match d.sys.power.hotSince with
    | some t => if d.sys.power.overTemp then d else
      let d := bump 0x1D03 0x03 (reach (t + sec 1) d)
      hostWarning (fieldWarning (onPower (fun p => { p with overTemp := true }) d))
    | none => d)

/-- OVER_TEMPERATURE_RESTART (R488): below 60 °C for 60 s, the module starts again under R485 and R486. -/
def execOverTemperatureRestart (s : State) : Host.Outcome State Fault Refusal :=
  let d := s.dev
  done s (match d.sys.power.coolSince with
    | some t => if !d.sys.power.overTemp || d.sys.power.fieldSeq.isSome then d else
      let d := onPower (fun p => { p with overTemp := false }) (reach (t + sec 60) d)
      let d := if up 3 d then d else fieldOrder 7 d
      if up 0 d then d else startIsland 5 7 (startIsland 0 7 d)
    | none => d)

end Sys2Proof.Machine
end

