-- ==== Sys2Proof/Machine/Sessions.lean ====
section
/-! DEFINITION. Sessions and group ownership (R374 to R381), the answers that a session receives (R365, R366), and what the
entries' chapters give to the server: handlers. -/
namespace Sys2Proof.Machine

/-- A dictionary write that has passed checks 1 to 6 of R367: its session, its entry and its value. -/
structure WriteCall where
  session : Nat
  idx : Nat
  sub : Nat
  val : DVal

/-- The value written as a number. -/
def WriteCall.num (c : WriteCall) : Int := intOf c.val
/-- The value written as an unsigned number. -/
def WriteCall.nat (c : WriteCall) : Nat := c.num.toNat
/-- The value written as bytes. -/
def WriteCall.bytes (c : WriteCall) : List Byte := bytesOf c.val

/-- What an entry's chapter says of a write: the conditions of check 7 that fail, each with its step of R498 and its abort
code; what the write does where none fails; and what a refused write still does. -/
structure Handler where
  checks : WriteCall → Dev → List (Nat × Nat) := fun _ _ => []
  act : WriteCall → Dev → Dev
  refused : WriteCall → Nat → Dev → Dev := fun _ _ d => d

/-- A condition that fails, with its step and code. -/
def failing (b : Bool) (step code : Nat) : List (Nat × Nat) := if b then [(step, code)] else []

/-- The site bus and dictionary server's state changed. -/
def onSite (f : HostSite → HostSite) (d : Dev) : Dev := { d with site := f d.site }
/-- A session slot changed. -/
def onSlot (n : Fin 6) (f : Session → Session) (d : Dev) : Dev := onSite (fun s => { s with sessions := upd s.sessions n f }) d
/-- The slot of a session number. -/
def slotOf (n : Nat) : Option (Fin 6) := if h : 1 ≤ n ∧ n ≤ 6 then some ⟨n - 1, by omega⟩ else none

/-- Whether the host side has lost the barrier (R30). -/
def barrierLost (d : Dev) : Bool := d.barrier.host.view == .lost

/-! Opening and closing. -/

/-- The transport number of a connection (0x1101). -/
def transportOf : Option Conn → Nat
  | none => 0
  | some (.can c _) => c.val + 1
  | some (.tls _) => 3
  | some .usb => 4
  | some .peer => 5

/-- The groups of a session released in an owner table, but the site bus monitor group of the host side. -/
def releaseOwned (n : Nat) (o : Vector Nat 60) : Vector Nat 60 := tab (fun g => if g.val ≠ 6 ∧ o[g] = n then 0 else o[g])

/-- What the field side does at the close of a session (R377): its groups are released, its safety configuration transaction
is aborted, the capture memory that it holds is released, at once or at the end of the record (R427), and with session 5 the
metrology window closes. -/
def fieldClose (n : Nat) (d : Dev) : Dev :=
  let d := onSite (fun s => { s with owners := releaseOwned n s.owners }) d
  let d := match d.safety.trans with
    | some t => if t.owner = n ∧ !t.committing ∧ up 3 d then endTrans 3 n d else d
    | none => d
  let d := if d.dma.capOwner ≠ n ∨ n = 0 then d
    else if d.dma.capState = .filling then { d with dma := { d.dma with capOwner := 0 } } else releaseCapture d
  if n = 5 ∧ up 2 d then shutWindow 5 d else d

/-- A session that the field side has as open closes there. -/
def fieldForgets (n : Fin 6) (d : Dev) : Dev :=
  fieldClose (n.val + 1) (onSite (fun s => { s with fieldSession := upd s.fieldSession n (fun _ => none) }) d)

/-- The session notice of an opening or closing (Table 1.6, type 0x07); one that the barrier cannot carry waits (R381). With the notice of
a closing the host side has no owner of the session's groups any more. -/
def sessionNotice (n : Fin 6) (opening : Bool) (d : Dev) : Dev :=
  if barrierLost d then onSite (fun s => { s with unsentNotices := s.unsentNotices ++ [(n, opening)] }) d else
  let d := if opening then d else onSite (fun s => { s with ownersSeen := releaseOwned (n.val + 1) s.ownersSeen }) d
  enqueue .hf (tenonItems 0x07 7 0 24
    [n.val + 1, flag opening, transportOf (d.site.sessions[n]).conn, leNat (d.site.sessions[n]).identity] d) d

/-- A session closes (R377): the host side ends what it holds for it and announces the closing; the field side follows at the notice. -/
def closeSession (n : Fin 6) (d : Dev) : Dev :=
  if (d.site.sessions[n]).conn.isNone then d else
  let d := sessionNotice n false d
  let d := onSite (fun s => { s with
    owners := upd s.owners 6 (fun o => if o = n.val + 1 then 0 else o),
    subs := tab (fun i => match s.subs[i] with
      | some x => if x.session = n.val + 1 then none else some x
      | none => none) }) d
  let d := match (d.site.sessions[n]).conn with
    | some (.tls i) => onSite (fun s => { s with tls := upd s.tls i (fun c => c.map (fun c => { c with since := d.time.now })) }) d
    | _ => d
  onSlot n (fun x => { Fresh.session with notice := x.notice, reply := x.reply }) d

/-- The slots that a connection may use (Table 12.12). -/
def slotsFor : Conn → List (Fin 6)
  | .can _ _ | .tls _ => [0, 1, 2, 3]
  | .usb => [4]
  | .peer => [5]

/-- The maintenance public key that a USB client's signature verifies against: one of the four of the store, or, in
PROVISIONED with none there, the commissioning key (R375, note of R452). -/
def maintenanceKey (client : ClientAuth) (d : Dev) : Option (List Byte) :=
  let held (k : Fin 4) : List Byte := bytesOf (getVal d (key 0x1A23 (k.val + 1)))
  match client.key with
  | some k => if held k = [] then none else some (held k)
  | none => if client.commissioning && lifeOf d == 2 && (all 4).all (fun k => held k == []) then some Config.commissioningKey else none

/-- Whether a client's chain validates to a host root in the key store (R387). -/
def chainValid (client : ClientAuth) (d : Dev) : Bool := match client.root with
  | some r => decide (1 ≤ client.chain ∧ client.chain ≤ 3) && bytesOf (getVal d (key 0x1A22 (r.val + 1))) != []
  | none => false

/-- The identity digest of the client of an open request, where it may open a session (R375). -/
def clientIdentity (a : Ask) (client : ClientAuth) (d : Dev) : Option (List Byte) := match a.conn with
  | .can c node =>
    if (List.range 16).any (fun i => nat d 0x1210 (i + 1) == node.toNat) && node.toNat != 0
    then some (Config.sha256 [BitVec.ofNat 8 (c.val + 1), BitVec.ofNat 8 node.toNat, 0]) else none
  | .tls _ => if chainValid client d then some client.leafDigest else none
  | .usb => match d.site.challenge with
    | some (_, t) =>
      if decide (d.time.now ≤ t + sec 10) && a.data.length == 64 then (maintenanceKey client d).map Config.sha256 else none
    | none => none
  | .peer => some client.leafDigest

/-- Whether the peer link carries the partner's session (Table 12.12). -/
def peerSessionMay (d : Dev) : Bool := pairMode d && d.pair.silentSince.isNone && d.pair.port.toList.any (·.up)

/-- An answer to a request of no open session. -/
def strayReply (a : Ask) (m : DictMsg) (d : Dev) : Dev := deliver a.conn 0xC m (onSite (fun s => { s with stray := some m }) d)
/-- An aborted request (R365). -/
def abortMsg (m : DictMsg) (code : Nat) : DictMsg := { m with service := m.service + 0x80, flags := 1, data := leBytes 4 code }
/-- A response. -/
def replyMsg (m : DictMsg) (data : List Byte) : DictMsg := { m with service := m.service + 0x80, flags := 0, data := data }

/-- A request of a service on an index and sub-index. -/
def requestMsg (service idx sub : Nat) (a : Ask) : DictMsg := ⟨service, a.tag.toNat, a.session.toNat, a.flags.toNat, idx, sub, a.data⟩

/-- A session opens in a slot (R375): the host island announces it to the field side. -/
def openSlot (n : Fin 6) (a : Ask) (identity : List Byte) (d : Dev) : Dev :=
  let d := onSlot n (fun x => { Fresh.session with conn := some a.conn, identity := identity, last := d.time.now, notice := x.notice }) d
  let d := match a.conn with
    | .tls i => onSite (fun s => { s with tls := upd s.tls i (fun c => c.map (fun c => { c with established := true })) }) d
    | _ => d
  let d := sessionNotice n true d
  let m := replyMsg (requestMsg 0x01 0 0 a) (leBytes 1 (n.val + 1) ++ leBytes 2 (nat d 0x1100 0x01))
  deliver a.conn 0xC m (onSlot n (fun x => { x with reply := some m }) d)

/-- An open request (R374 to R376). A TLS client that fails in the handshake has no connection that could carry one (R387). -/
def sessionOpen (a : Ask) (client : ClientAuth) (d : Dev) : Dev :=
  let m := requestMsg 0x01 0 0 a
  let wrong : Bool := match slotOf a.session.toNat with
    | some n => !(slotsFor a.conn).contains n
    | none => false
  if wrong || (a.conn == .peer && !peerSessionMay d) then strayReply a (abortMsg m 0x11000014) d
  else if a.conn == .usb && a.data == [] then
    let (x, d) := freeNat d
    let challenge := leBytes 16 x
    strayReply a (replyMsg m challenge) (onSite (fun s => { s with challenge := some (challenge, d.time.now) }) d)
  else
    let identity := clientIdentity a client d
    let d := if a.conn == .usb then onSite (fun s => { s with challenge := none }) d else d
    match identity, a.conn with
    | none, .tls n => bump 0x1410 0x02 (closeTcp n d)
    | none, _ => strayReply a (abortMsg m 0x11000015) d
    | some id, _ =>
      let d := (all 6).foldl (fun d n =>
        if (d.site.sessions[n]).conn.isSome && (d.site.sessions[n]).identity == id then closeSession n (notice n 4 0 d) else d) d
      match (slotsFor a.conn).find? (fun n => (d.site.sessions[n]).conn.isNone) with
      | none => strayReply a (abortMsg m 0x11000010) d
      | some n => openSlot n a id d

/-- Whether a request reaches the dictionary server: the host island runs, on CAN FD the controller takes part in the bus
and the module holds the node ID that the frame names (R364, R366), and a TLS connection is there. -/
def reaches (c : Conn) (d : Dev) : Bool := up 0 d && (match c with
  | .can k _ => busOn k d && d.site.addr.state == .held
  | .tls n => (d.site.tls[n]).isSome
  | _ => true)
/-- The frame of a CAN FD request, where it is the next of the receive queues, is taken from them (R357). -/
def takeRequest (a : Ask) (m : DictMsg) (d : Dev) : Dev := match a.conn with
  | .can k _ =>
    let q := d.site.can[k]
    let content := canPad (leBytes 1 d.site.addr.id ++ dictBytes m)
    let mine : List CanFrame → Bool := fun l => match l with
      | f :: _ => funcCode f.id == 0xB && f.data == content
      | [] => false
    if mine q.rxq0 then onCan k (fun q => { q with rxq0 := q.rxq0.drop 1 }) d
    else if q.rxq0 == [] && mine q.rxq1 then onCan k (fun q => { q with rxq1 := q.rxq1.drop 1 }) d else d
  | _ => d

/-- OPEN_SESSION (R374 to R376). -/
def execOpenSession (a : Ask) (client : ClientAuth) (s : State) : Host.Outcome State Fault Refusal :=
  done s (if reaches a.conn s.dev then sessionOpen a client (takeRequest a (requestMsg 0x01 0 0 a) s.dev) else s.dev)

/-- SESSION_TIMEOUT (R377): no message for the session timeout; the partner's session closes with the peer link. -/
def execSessionTimeout (n : Fin 6) (s : State) : Host.Outcome State Fault Refusal :=
  let d := s.dev
  let x := d.site.sessions[n]
  done s (if x.conn.isNone then d
    else if n = 5 then (if d.pair.silentSince.isSome then closeSession n d else d)
    else closeSession n (reach (x.last + ms (nat d 0x1100 0x01)) d))

/-- USB_CHALLENGE_EXPIRY (R375): a challenge is valid for 10 s. -/
def execUsbChallengeExpiry (s : State) : Host.Outcome State Fault Refusal :=
  let d := s.dev
  done s (match d.site.challenge with
    | some (_, t) => onSite (fun s => { s with challenge := none }) (reach (t + sec 10) d)
    | none => d)

/-- Whether the field side has a slot as open for another client. -/
def openForOther (n : Fin 6) (digest : List Byte) (d : Dev) : Bool := match d.site.fieldSession[n] with
  | some x => x.2 != digest
  | none => false
/-- What the field side does at a session notice: at a closing it releases what the session holds, and so at an opening of a slot that it
still has as open for another client (R377, R381). -/
def fieldNotice (n : SessionChange) (d : Dev) : Dev :=
  if n.opening then
    onSite (fun s => { s with fieldSession := upd s.fieldSession n.session (fun _ => some (n.transport, n.digest)) })
      (if openForOther n.session n.digest d then fieldForgets n.session d else d)
  else fieldForgets n.session d
/-- SESSION_NOTICE (R29, R375, R381): the field side learns of an opening or a closing. -/
def execSessionNotice (m : TenonMsg) (n : SessionChange) (s : State) : Host.Outcome State Fault Refusal :=
  let (d, ok) := receive .hf m s.dev
  done s (if !ok || hdrType m.header ≠ 0x07 then d else fieldNotice n d)

/-! Groups (R378 to R381). -/

/-- The group numbers of Table 12.13. -/
def isGroup (g : Nat) : Bool := (1 ≤ g && g ≤ 6) || (0x10 ≤ g && g ≤ 0x1B) || (0x20 ≤ g && g ≤ 0x2B) || (0x30 ≤ g && g ≤ 0x3B)

/-- The group of an OWN entry or a listed CMD entry (Table 12.13); none where it belongs to none. -/
def groupOf (idx sub : Nat) : Option Nat :=
  let hi := idx / 256
  if hi = 0x24 then
    let k := (idx - 0x2400) / 16
    let t := idx % 16
    if 12 ≤ k then none
    else if t = 1 ∧ ((2 ≤ sub ∧ sub ≤ 7) ∨ sub = 0x0A ∨ sub = 0x0B) then some (0x10 + k)
    else if t = 5 ∧ 1 ≤ sub ∧ sub ≤ 4 then some (0x10 + k) else none
  else if hi = 0x30 then
    let k := (idx - 0x3000) / 16
    if k < 12 ∧ idx % 16 = 3 ∧ 1 ≤ sub ∧ sub ≤ 3 then some (0x20 + k) else none
  else if 0x3120 ≤ idx ∧ idx < 0x312C ∧ sub = 1 then some (0x30 + (idx - 0x3120))
  else if 0x3830 ≤ idx ∧ idx < 0x383C ∧ sub = 7 then some (0x30 + (idx - 0x3830))
  else if (idx = 0x2810 ∧ sub = 0x0D) ∨ (idx = 0x2811 ∧ 1 ≤ sub ∧ sub ≤ 3) ∨ (idx = 0x2812 ∧ 1 ≤ sub ∧ sub ≤ 12) ∨ (idx = 0x2817 ∧ sub = 0x0B)
    then some 1
  else if 0x2200 ≤ idx ∧ idx < 0x2218 ∧ sub = 2 then some 2
  else if idx = 0x4410 ∨ idx = 0x4411 ∨ (idx = 0x4400 ∧ (sub = 4 ∨ sub = 5)) then some 3
  else if 0x2640 ≤ idx ∧ idx < 0x264C ∧ sub = 9 then some 4
  else if 0x2680 ≤ idx ∧ idx < 0x269C then
    let g := idx - 0x2680
    if 12 ≤ g ∧ g < 24 ∧ sub = 6 then some 4
    else if 24 ≤ g ∧ (sub = 6 ∨ (0x0C ≤ sub ∧ sub ≤ 0x0F)) then some 5 else none
  else if 0x2700 ≤ idx ∧ idx ≤ 0x2714 then
    match rowOf idx sub with
    | some r => if r.acc = .own ∨ r.acc = .cmd then some 5 else none
    | none => none
  else none

/-- The owner of a group as the host side has it: of group 0x06 its own record, of any other what was last reported across the barrier
(R381). -/
def ownerOf (g : Nat) (d : Dev) : Nat := if h : g < 60 then (if g = 6 then d.site.owners[g] else d.site.ownersSeen[g]) else 0
/-- The owner of a group by the field-side port's table (R29). -/
def fieldOwner (g : Nat) (d : Dev) : Nat := if h : g < 60 then d.site.owners[g] else 0

/-- A group's owner set in the table that holds it. -/
def setOwner (g n : Nat) (d : Dev) : Dev :=
  if h : g < 60 then onSite (fun s => { s with owners := upd s.owners ⟨g, h⟩ (fun _ => n) }) d else d

/-- A group released by force (R380): counted and logged, and its former owner told. -/
def forced (g o : Nat) (d : Dev) : Dev :=
  let d := bump 0x1104 0x03 d
  let d := match slotOf o with
    | some i => notice i 3 g d
    | none => d
  raise 0 .groupForced (evData [(1, g), (1, o)]) d

/-- A claim, release or query at the table that holds the group (R379 to R381): the response data, or an abort code. -/
def groupService (service g n : Nat) (force : Bool) (d : Dev) : Dev × Except Nat (List Byte) :=
  let o := fieldOwner g d
  match service with
  | 0x20 => if o = 0 ∨ o = n then (setOwner g n d, .ok []) else (d, .error 0x11000012)
  | 0x21 =>
    if force ∧ n ≠ 5 then (d, .error 0x1100001E)
    else if (o = n ∧ o ≠ 0) ∨ (force ∧ o ≠ 0) then (setOwner g 0 d, .ok [])
    else (d, .error 0x11000013)
  | _ => (d, .ok (leBytes 1 o))

/-- A claim, release or query on the host side (R381): group 0x06 it serves itself; any other only where the barrier is there and the
field-side port runs. -/
def hostGroup (service g n : Nat) (force : Bool) (d : Dev) : Dev × Except Nat (List Byte) :=
  if !isGroup g then (d, .error 0x1100001F)
  else if g ≠ 6 then (d, .error (if barrierLost d then 0x10000022 else 0x10000021))
  else
    let o := fieldOwner g d
    let x := groupService service g n force d
    (if service = 0x21 ∧ o ≠ n ∧ x.2.isOk then forced g o x.1 else x.1, x.2)

/-- What the host side learns from the field side's answer to a claim or a release (0x1103, R380). -/
def groupHeard (service g n : Nat) (d : Dev) : Dev :=
  if h : g < 60 then
    let o := d.site.ownersSeen[g]
    let d := onSite (fun s => { s with ownersSeen := upd s.ownersSeen ⟨g, h⟩ (fun _ => if service = 0x20 then n else 0) }) d
    if service = 0x21 ∧ o ≠ n ∧ o ≠ 0 then forced g o d else d
  else d

end Sys2Proof.Machine
end

