-- ==== Sys2Proof/Machine/Keys.lean ====
section
/-! DEFINITION. The life cycle, the key store, the images with their activations, and the configuration leaves (R443 to
R474). -/
namespace Sys2Proof.Machine

/-! Privilege. -/

/-- Whether a session is privileged (R449): session 5, or a TLS session whose identity stands in the administrator list. -/
def privileged (session : Nat) (d : Dev) : Bool :=
  session == 5 || (match slotOf session with
    | some n =>
      let x := d.site.sessions[n]
      (match x.conn with | some (.tls _) => true | _ => false)
        && (List.range 4).any (fun i => bytesOf (getVal d (key 0x1A11 (i + 1))) == x.identity && x.identity.length == 32)
    | none => false)
/-- The refusal of a session that is not privileged. -/
def needsPrivilege (c : WriteCall) (d : Dev) : List (Nat × Nat) := failing (!privileged c.session d) 3 0x1A000010

/-! The key store (R446 to R452). -/

/-- The key identity of an index. -/
def keyOfIdx (idx : Nat) : Fin 64 := ⟨(idx - 0x1A40) % 64, by omega⟩

/-- A secret key wrapped into the identity's blob (R447, R449). -/
def wrapKey (k : Fin 64) (alg usage : Nat) (plain : List Byte) (d : Dev) : Dev :=
  let (r, d) := draw d
  let nonce := r.take 12
  let (cipher, tag) := Config.aesGcm (hostRoot d) nonce (blobHead k.val alg usage d) plain
  let b : KeyBlob := ⟨alg, usage, lifeOf d, nat d 0x1A00 0x02, islandTime 0 d, nonce, cipher, tag⟩
  onKeys (fun x => { x with blob := upd x.blob k (fun _ => some b) }) d

/-- The key length of an algorithm (Table 15.3); none for a code that names no algorithm. -/
def keyLength (alg : Nat) : Option Nat := match alg with
  | 1 | 3 => some 32
  | 2 => some 48
  | _ => none

/-- Whether an identity holds a usable key. -/
def keyPresent (k : Fin 64) (d : Dev) : Bool := match d.sys.keys.blob[k] with
  | some b => keyUsable b d
  | none => false
/-- The state of an identity (0x1A4k.06): 0 empty, 1 stored, 2 in slot, 3 unusable. -/
def keyState (k : Fin 64) (d : Dev) : Nat := match d.sys.keys.blob[k] with
  | none => 0
  | some b =>
    if !keyUsable b d then 3
    else if d.sys.keys.slot.toList.any (fun s => match s with | some x => x.key == k | none => false) then 2 else 1

/-- A key value written (R449). -/
def keyValueHandler : Handler where
  checks c d :=
    let k := keyOfIdx c.idx
    needsPrivilege c d ++ failing (keyPresent k d) 5 0x1A000013
      ++ failing (keyLength (nat d c.idx 0x01) != some c.bytes.length) 6 0x1A000012
  act c d := wrapKey (keyOfIdx c.idx) (nat d c.idx 0x01) (nat d c.idx 0x02) c.bytes d

/-- A key pair generated (R450): the public key becomes readable. -/
def keyGenerateHandler : Handler where
  checks c d :=
    needsPrivilege c d ++ failing (keyPresent (keyOfIdx c.idx) d) 5 0x1A000013
      ++ failing (!(nat d c.idx 0x01 == 1 || nat d c.idx 0x01 == 2)) 6 0x1A000012
  act c d :=
    let k := keyOfIdx c.idx
    let alg := nat d c.idx 0x01
    let (secret, d) := draw d
    setOct c.idx 0x05 (Config.publicKey alg secret) (wrapKey k alg (nat d c.idx 0x02) secret d)

/-- The delete command (R449). -/
def keyDeleteHandler : Handler where
  checks c d := needsPrivilege c d
  act c d := eraseKey (keyOfIdx c.idx) d

/-- The algorithm and usage of an identity, taken at the next value write or generate (Table 15.12). -/
def keyTypeHandler : Handler where
  checks c d := needsPrivilege c d
  act c d := setNum c.idx c.sub c.num d

/-- A public item (R452), stored as a blob of the same layout; a certificate must parse. An empty value erases the blob (DESIGN CHOICE, log 237). -/
def publicItemHandler : Handler where
  checks c d :=
    needsPrivilege c d ++ failing (c.idx != 0x1A23 && c.bytes != [] && !Config.certificateOk c.bytes) 6 0x1A000017
  act c d := wrapItem (key c.idx c.sub) c.bytes (setOct c.idx c.sub c.bytes d)

/-- The administrator list, written by session 5 only (Table 15.12). -/
def administratorHandler : Handler where
  checks c _ := failing (c.session != 5) 3 0x1A000010
  act c d := setOct c.idx c.sub c.bytes d

/-- The slot that a load takes: a free one, else the least recently used that no operation holds (R451). -/
def slotFor (d : Dev) : Option (Fin 16) :=
  let s := d.sys.keys.slot
  match (all 16).find? (fun i => (s[i]).isNone) with
  | some i => some i
  | none =>
    let used (i : Fin 16) : Nat := ((s[i]).map KeySlot.used).getD 0
    ((all 16).filter (fun i => match s[i] with | some x => x.pins == 0 | none => false)).foldl (fun b i => match b with
      | some j => if used i < used j then some i else some j
      | none => some i) none

/-- The slot that holds a key. -/
def slotHolding (k : Fin 64) (d : Dev) : Option (Fin 16) :=
  (all 16).find? (fun i => match d.sys.keys.slot[i] with | some x => x.key == k | none => false)
/-- A slot changed. -/
def onKeySlot (i : Fin 16) (f : Option KeySlot → Option KeySlot) (d : Dev) : Dev := onKeys (fun x => { x with slot := upd x.slot i f }) d

/-- An operation begins that needs a key (R451). -/
def beginKeyUse (k : Fin 64) (since : Nat) (d : Dev) : Dev := match d.sys.keys.blob[k] with
  | none => d
  | some b =>
    if !keyUsable b d then tellUnusable k d
    else match slotHolding k d with
    | some i => onKeySlot i (fun o => o.map (fun x => { x with pins := x.pins + 1, used := d.time.now })) d
    | none => match slotFor d with
      | some i => bump 0x1A10 0x02 (onKeySlot i (fun _ => some ⟨k, 1, d.time.now⟩) d)
      | none => onKeys (fun x => { x with waiting := x.waiting ++ [(k, since)] }) d

/-- An operation on a key ends: its slot is unpinned, and the operation that has waited longest goes on. -/
def endKeyUse (k : Fin 64) (d : Dev) : Dev :=
  match slotHolding k d with
  | none => d
  | some i =>
    let d := onKeySlot i (fun o => o.map (fun x => { x with pins := x.pins - 1, used := d.time.now })) d
    match d.sys.keys.waiting with
    | (q, t) :: r => if (slotFor d).isSome then beginKeyUse q t (onKeys (fun x => { x with waiting := r }) d) else d
    | [] => d

/-- KEY_SLOT_LOAD (R451). -/
def execKeySlotLoad (k : Fin 64) (ends : Bool) (s : State) : Host.Outcome State Fault Refusal :=
  let d := s.dev
  done s (if !up 0 d then d else if ends then endKeyUse k d else beginKeyUse k d.time.now d)

/-- KEY_SLOT_WAIT_TIMEOUT (R451): 100 ms. -/
def execKeySlotWaitTimeout (s : State) : Host.Outcome State Fault Refusal :=
  let d := s.dev
  done s (match d.sys.keys.waiting with
    | (k, t) :: r =>
      raise1 0 .slotExhausted k.val (bump 0x1A10 0x03 (onKeys (fun x => { x with waiting := r }) (reach (t + ms 100) d)))
    | [] => d)

/-! The life cycle (R443 to R445). -/

/-- Whether every outlet is OUT_OF_SERVICE. -/
def allOutOfService (d : Dev) : Bool := (all 12).all (fun k => (d.out[k]).state == .outOfService)
/-- Whether a metering session is open. -/
def anyMetering (d : Dev) : Bool := (all 12).any (fun k => (d.metro.meter[k]).session.isSome)
/-- Whether an image of some type is in trial. -/
def anyTrial (d : Dev) : Bool := (all 5).any (fun t => num d (imgIdx t) 0x03 == 1)

/-- The arm entry (R445). -/
def armHandler : Handler where
  act c d := if c.nat = Config.serial.toNat % 2 ^ 32 then onKeys (fun x => { x with armed := some (c.session, d.time.now) }) d
    else onKeys (fun x => { x with armed := none }) d

/-- Whether a session's arm stands. -/
def armHolds (session : Nat) (d : Dev) : Bool := match d.sys.keys.armed with
  | some (n, t) => n == session && decide (d.time.now ≤ t + sec 10)
  | none => false
/-- The conditions of a transition command (Table 15.2, R245). -/
def transitionMay (to_ : Nat) (d : Dev) : Bool :=
  !anyMetering d && decide (auditUsed d < 1024) && (if to_ = 3 then !anyTrial d else allOutOfService d)

/-- The transition command (R444, R445): the notice goes to PD7; the arm is spent by one command, accepted or refused. -/
def transitionHandler : Handler where
  checks c d :=
    failing (barrierLost d) 1 0x10000022 ++ failing (c.session != 5) 3 0x1A000010
      ++ failing (!armHolds c.session d) 3 0x1A000015
      ++ failing (!(oneTransition (lifeOf d) c.nat && 3 ≤ c.nat)) 3 0x1A000014 ++ failing (!transitionMay c.nat d) 5 0x1A000016
  act c d := onKeys (fun x => { x with armed := none }) (enqueue .hf (tenonItems 0x18 7 0 16 [c.num] d) d)
  refused _ _ d := onKeys (fun x => { x with armed := none }) d

/-- A life-cycle state entered (R443, R444, R448): the field bank is burnt, then, unless the host island is down, the host bank; the key
store makes the transition, and every island restarts. -/
def enterLife (to_ : Nat) (d : Dev) : Dev :=
  let d := onKeys (fun x => { x with fieldBank := to_, hostBank := if up 0 d then to_ else x.hostBank, armed := none }) d
  let d := if up 0 d then storeTransition to_ d else d
  let d := onMetro (fun m => { m with keyNo := if to_ = 2 then some ((m.keyNo.getD 0) + 1) else if to_ = 5 then none else m.keyNo }) d
  (all 8).foldl (fun d i => if up i d then startIsland i 6 d else d) (if up 0 d && !barrierLost d then recallTransition d else d)

/-- LIFE_CYCLE_NOTICE (R444): the transition enters the audit trail, then the banks are burnt. -/
def execLifeCycleNotice (m : TenonMsg) (to_ : Fin 6) (s : State) : Host.Outcome State Fault Refusal :=
  let (d, ok) := receive .hf m s.dev
  done s (if !ok || hdrType m.header ≠ 0x18 || !(oneTransition (lifeOf d) to_.val && 3 ≤ to_.val) then d else
    let (d, room) := audit 6 5 0x1A00 0x04 (.num (lifeOf d)) (.num to_.val) d
    if room then enterLife to_.val d else d)

/-- FACTORY_TRANSITION (Table 15.2), with a Caermor production authorisation; a return to PROVISIONED raises the provisioning
count. -/
def execFactoryTransition (to_ : Fin 6) (s : State) : Host.Outcome State Fault Refusal :=
  let d := s.dev
  let n := lifeOf d
  let again : Bool := n == 4 && to_.val == 2 && decide (nat d 0x1A00 0x02 < 3)
  done s (if (n = 0 ∧ to_.val = 1) ∨ (n = 1 ∧ to_.val = 2) ∨ again then
    let (d, room) := audit 6 0 0x1A00 0x04 (.num n) (.num to_.val) d
    if room then enterLife to_.val (if again then bump 0x1A00 0x02 d else d) else d
  else d)

/-! Images (R453 to R458). -/

/-- The image type of an index. -/
def typeOfIdx (idx : Nat) : Fin 5 := ⟨(idx - 0x1B10) % 5, by omega⟩
/-- The largest image of a type in bytes (Table 15.6). -/
def largestImage (t : Fin 5) : Nat := match t with
  | 0 => 48 * 1048576
  | 1 => 8 * 1048576
  | 2 => 2 * 1048576
  | 3 => 1048576
  | 4 => 4 * 1048576
/-- The body length that a header states. -/
def hdrBody (h : List Byte) : Nat := fieldAt h 12 4
/-- Whether header bytes 0 to 5 are those of a type (R455). -/
def hdrOk (t : Fin 5) (h : List Byte) : Bool :=
  decide (320 ≤ h.length) && fieldAt h 0 4 == 0x36394854 && fieldAt h 4 1 == t.val + 1 && fieldAt h 5 1 == 1
/-- The parts of an image, each with its header: two for SX (R454). -/
def imageParts (t : Fin 5) (b : List Byte) : List (List Byte) :=
  if t = 2 then let n := 320 + hdrBody b; [b.take n, b.drop n] else [b]
/-- The checks at staging (R455). -/
def stagingOk (t : Fin 5) (b : List Byte) : Bool :=
  (imageParts t b).all (fun p => hdrOk t p && p.length == 320 + hdrBody p)

/-- The first check of R456 that an image fails, by its reject cause. -/
def rejectCause (t : Fin 5) (b : List Byte) (d : Dev) : Option Nat :=
  let parts := imageParts t b
  let fails (f : List Byte → Bool) : Bool := parts.any (fun p => !f p)
  let keyOf (p : List Byte) := (p.drop 160).take 97
  if !stagingOk t b then some 1
  else if fails (fun p => Config.sha384 (p.drop 320) == (p.drop 16).take 48) then some 2
  else if fails (fun p => Config.imageKeys.contains (Config.sha384 (keyOf p))) then some 3
  else if fails (fun p => Config.ecdsaOk (keyOf p) (Config.sha384 (p.take 64)) ((p.drop 64).take 96)) then some 4
  else if fails (fun p => decide (nat d (imgIdx t) 0x02 < hdrVersion p)) then some 5
  else if fails (fun p => decide (nat d (imgIdx t) 0x08 ≤ hdrLevel p)) then some 6
  else if t = 2 ∧ (parts.map hdrVersion).eraseDups.length ≠ 1 then some 7
  else none

/-- The field-side island that stores an image type (Table 15.6). -/
def imageIsland (t : Fin 5) : Option Nat := match t with
  | 1 => some 1
  | 2 => some 3
  | 3 => some 2
  | _ => none

/-- A whole image written (R455): it is STAGED in the slot of the previous image; a field-side type also goes to its island in
blocks of 1016 bytes. -/
def imageStageHandler : Handler where
  checks c d :=
    let t := typeOfIdx c.idx
    needsPrivilege c d ++ failing (num d c.idx 0x03 == 1) 5 0x1B000012
      ++ failing (match d.sys.act with | some a => a.type == t | none => false) 5 0x1B000013
      ++ failing (!stagingOk t c.bytes) 6 0x1B000010 ++ failing (decide (largestImage t < c.bytes.length)) 6 0x1B000011
  act c d :=
    let t := typeOfIdx c.idx
    let b := c.bytes
    let d := onImg t (fun x => { x with staged := some b, previous := none, flash := [], acked := 0 }) d
    let d := setNum c.idx 0x04 0 (setNum c.idx 0x07 0 (setNum c.idx 0x06 1 (setNum c.idx 0x05 (hdrVersion b) d)))
    match imageIsland t with
    | none => d
    | some i => (List.range (ceilDiv b.length 1016)).foldl (fun d n => enqueue .hf (tenonItems 0x14 i t.val 1024 [t.val, n] d) d) d

/-- IMAGE_BLOCK (Table 1.6, R455): the island stores the block and acknowledges it. -/
def execImageBlock (m : TenonMsg) (t : Fin 5) (offset : Nat) (block : List Byte) (s : State) : Host.Outcome State Fault Refusal :=
  let (d, ok) := receive .hf m s.dev
  done s (match imageIsland t with
    | some i =>
      if ok && hdrType m.header == 0x14 && hdrIsland m.header == i && decide (offset ≤ (d.sys.img[t]).flash.length) then
        let d := onImg t (fun x => { x with flash := x.flash.take offset ++ block ++ x.flash.drop (offset + block.length) }) d
        enqueue .fh (tenonItems 0x15 i t.val 32 [t.val, (offset + block.length : Nat)] d) d
      else d
    | none => d)

/-- IMAGE_STATUS (Table 1.6, R455): the update manager learns how far the blocks have come. -/
def execImageStatus (m : TenonMsg) (t : Fin 5) (acked : Nat) (s : State) : Host.Outcome State Fault Refusal :=
  let (d, ok) := receive .fh m s.dev
  done s (if ok && hdrType m.header == 0x15 then onImg t (fun x => { x with acked := max x.acked acked }) d else d)

/-- The discard command (Table 15.13): staged state to none. -/
def discardHandler : Handler where
  act c d := onImg (typeOfIdx c.idx) (fun x => { x with staged := none }) (setNum c.idx 0x07 0 (setNum c.idx 0x06 0 (setNum c.idx 0x05 0 d)))

/-- The fall-back command (R457): trial images only. -/
def fallBackHandler : Handler where
  checks c d := failing (num d c.idx 0x03 != 1) 5 0x1B000014
  act c d := startIsland (activated (typeOfIdx c.idx)) 3 d

/-! Activation (R459 to R465). -/

/-- Whether some outlet's state lies in a range of codes. -/
def outletWithin (lo hi : Nat) (d : Dev) : Bool := (all 12).any (fun k => let c := outCode (d.out[k]).state; lo ≤ c && c ≤ hi)
/-- Whether the conditions of an activation hold (Table 15.9, R245, R247, R459). -/
def activationMay (t : Fin 5) (pair : Bool) (d : Dev) : Bool := match t with
  | 2 => d.safety.trans.isNone && (pair || (!outletWithin 3 8 d && (all 12).all (fun x => !axisEnabled x d)))
  | 3 => lifeOf d == 3 && !anyMetering d && decide (auditUsed d < 1024)
  | 4 => pair || !outletWithin 1 8 d
  | _ => true
/-- The mirror format of a staged FX image differs from the one that runs (R465). -/
def formatChanges (t : Fin 5) (d : Dev) : Bool :=
  t == 1 && (match (d.sys.img[t]).staged with | some b => hdrFormat b != nat d 0x1C00 0x11 | none => false)
/-- Whether the partner holds a STAGED image with the same body digest: no frame of the peer link that the manual lays out
says it, so the answer is open. -/
def partnerHolds (d : Dev) : Bool := Config.freeNat d.freeCount != 0

/-- The island concerned stops for its activation. -/
def stopForActivation (t : Fin 5) (d : Dev) : Dev :=
  let d := onSys (fun x => { x with act := x.act.map (fun a => { a with stopped := some d.time.now }) }) d
  let before : BitVec 16 := match t with
    | 3 => BitVec.ofNat 16 (maskOf (fun k : Fin 12 => (d.metro.meter[k]).link))
    | 4 => d.eave.admitted
    | _ => 0
  setNum 0x1B20 0x02 4 (stopIsland (activated t) .updating (onImg t (fun x => { x with before := before }) d))

/-- An activation's first steps on this module (R460 to R462): HX closes sessions 1 to 5, FX winds the outlets down, MX enters
the audit trail. -/
def beginActivation (t : Fin 5) (session : Nat) (d : Dev) : Dev := match t with
  | 0 => stopForActivation t (([0, 1, 2, 3, 4] : List (Fin 6)).foldl (fun d n => closeSession n d) d)
  | 1 => setNum 0x1B20 0x02 1 ((all 12).foldl (fun d k => if inCharge (d.out[k]).state then raiseCause k 2 d else d) d)
  | 3 =>
    let new : Nat := match (d.sys.img[t]).staged with | some b => hdrVersion b | none => 0
    stopForActivation t (audit 5 session 0 0 (.num (nat d (imgIdx t) 0x02 : Nat)) (.num (Int.ofNat new)) d).1
  | _ => stopForActivation t d

/-- The activate command (R459). -/
def activateHandler : Handler where
  checks c d :=
    let pair := c.nat / 16 == 1
    let t : Fin 5 := ⟨c.nat % 16 % 5, by omega⟩
    needsPrivilege c d
      ++ failing (decide (2 ≤ c.nat / 16) || decide (5 ≤ c.nat % 16)) 6 0x1B000011
      ++ failing (d.sys.act.isSome || d.sys.store.toList.any (fun x => x.writing.isSome)) 5 0x1B000013
      ++ failing (num d (imgIdx t) 0x06 != 1) 5 0x1B000014
      ++ failing (!activationMay t pair d || (!pair && formatChanges t d && !allOutOfService d)) 5 0x1B000015
      ++ failing (pair && roleOf d != 2) 5 0x1B000019
      ++ failing (pair && !((match d.pair.partner with | some q => q.inStep | none => false) && partnerHolds d)) 5 0x1B000016
      ++ failing (pair && formatChanges t d) 5 0x1B000017
  act c d :=
    let pair := c.nat / 16 == 1
    let t : Fin 5 := ⟨c.nat % 16 % 5, by omega⟩
    let d := { d with freeCount := d.freeCount + 1 }
    let d := onSys (fun x => { x with act := some ⟨t, pair, d.time.now, none, false, false⟩ }) (setNum (imgIdx t) 0x06 2 d)
    if pair then setNum 0x1B20 0x02 2 d else beginActivation t c.session d
  refused _ _ d := { d with freeCount := d.freeCount + 1 }

/-- The longest wait for the wind-down (R462): the longest winddown timeout plus the longest cable discharge time. -/
def winddownLimit (d : Dev) : Nat :=
  ms ((all 12).foldl (fun a k => max a (nat d (outIdx k 2) 0x0C)) 0 + (all 12).foldl (fun a k => max a (nat d (outIdx k 2) 0x0D)) 0)

/-- FX_WINDDOWN_END (R462): the outlets have ended, or the wait has passed. -/
def execFxWinddownEnd (s : State) : Host.Outcome State Fault Refusal :=
  let d := s.dev
  done s (match d.sys.act with
    | some a =>
      if !fxWaits d then d
      else stopForActivation 1 (if outletWithin 1 8 d then reach (a.since + winddownLimit d) d else d)
    | none => d)

/-- BOOT_CHECK (R456, R457): at the boot that an activation causes, the staged image is checked, and runs in trial or is
rejected. A field-side island boots from its own flash. Where the staged image has been discarded meanwhile, the running image boots and the
activation has failed (DESIGN CHOICE, log 239). -/
def execBootCheck (t : Fin 5) (s : State) : Host.Outcome State Fault Refusal :=
  let d := s.dev
  done s (match d.sys.act with
    | some a =>
      match a.stopped with
      | none => d
      | some t0 =>
        if a.type ≠ t || a.booted then d else
        let x := d.sys.img[t]
        if x.staged.isNone then onSys (fun y => { y with act := none }) (setNum 0x1B20 0x02 6 (startIsland (activated t) 2 d)) else
        let b := if (imageIsland t).isSome then x.flash else x.staged.getD []
        let cause := rejectCause t b d
        let old := (d.sys.img[t]).running
        let oldVersion := nat d (imgIdx t) 0x02
        let ended (ok : Bool) (d : Dev) : Dev :=
          let d := setNum 0x1B20 0x03 ((d.time.now - t0) / 100 : Nat) d
          if a.pair && ok && t ≠ 3 then
            setNum 0x1B20 0x02 4 (onSys (fun x => { x with act := some { a with booted := true } }) d)
          else setNum 0x1B20 0x02 (if ok then 5 else 6) (onSys (fun x => { x with act := none }) d)
        match cause with
        | some n => ended false (setNum (imgIdx t) 0x07 n (setNum (imgIdx t) 0x06 3 (startIsland (activated t) 2 d)))
        | none =>
          let d := startIsland (activated t) 2 (setNum (imgIdx t) 0x02 (hdrVersion b) d)
          let d := onImg t (fun x => { x with
            running := b.take 320, previous := some old, staged := none, flash := [], bootAt := d.time.now, timedOut := false, healthy := none }) d
          let d := setNum (imgIdx t) 0x06 0 (setNum (imgIdx t) 0x05 0 (setNum (imgIdx t) 0x04 oldVersion (setNum (imgIdx t) 0x03 1 d)))
          ended true (if t = 1 then setNum 0x1C00 0x11 (hdrFormat b) d else d)
    | none => d)

/-- What a pair activation does next (R463), judged in every control period: the partner has updated and is in step again, for
SX its instances agree, the roles swap, the own island activates, and the module is in step again. -/
def pairActivation (d : Dev) : Dev := match d.sys.act with
  | some a =>
    if !a.pair then d else
    let state := nat d 0x1B20 0x02
    let setAct (f : Activation → Activation) (d : Dev) : Dev := onSys (fun x => { x with act := x.act.map f }) d
    match d.pair.partner with
    | none => if a.booted then d else failActivation d
    | some q =>
      if state = 2 then
        if d.time.now > a.since + sec (nat d 0x1C01 0x04) ∨ roleOf d ≠ 2 ∨ d.pair.silentSince.isSome then failActivation d
        else if !q.inStep then setAct (fun a => { a with left := true }) d
        else if !a.left then d
        else
          let new : Nat := match (d.sys.img[a.type]).staged with | some b => hdrVersion b | none => 0
          let x : Nat × Dev := if a.type == 2 then freeNat d else (1, d)
          let d := x.2
          if a.type == 1 && q.fx != new then failActivation d
          else if x.1 == 0 then d
          else if a.type == 3 then beginActivation 3 0 d
          else setNum 0x1B20 0x02 3 (beginSwap d)
      else if state = 3 then
        if roleOf d = 1 then stopForActivation a.type d
        else if d.pair.swap.isNone then failActivation d else d
      else if state = 4 && a.booted && on d 0x1C00 0x06 then onSys (fun x => { x with act := none }) (setNum 0x1B20 0x02 5 d)
      else d
  | none => d

/-- The health conditions of Table 15.8. No entry disables an Ethernet port or names the axis drives fitted: both ports count as enabled, and
a drive whose link has ever started as fitted (DESIGN CHOICE, log 240). -/
def healthNow (t : Fin 5) (d : Dev) : Bool := match t with
  | 0 => d.barrier.host.view == .up && up 0 d && (all 2).all (fun p => d.site.ethLink[p] != 0)
      && (all 2).all (fun c => !on d (canIdx c) 0x01 || (d.site.can[c]).bus != .off)
  | 1 => up 1 d && d.eng.faulted == [] && (all 24).all (fun k => !brickFitted k d || (d.brick[k]).link == .up)
      && (all 4).all (fun u => (d.drive[u]).link == .up || (d.drive[u]).link == .down)
      && (!pairMode d || on d 0x1C00 0x06 || holds d)
  | 2 => safetyRuns d && (d.safety.core.toList.all (fun c => c.differ == 0))
  | 3 => up 2 d && (all 12).all (fun k => !bit (d.sys.img[t]).before.toNat k.val || (d.metro.meter[k]).link)
      && d.metro.saves.toList.any (fun b => match b with | some x => decide ((d.sys.img[t]).bootAt < x.at_) | none => false)
  | 4 => (lineState d == 1 || lineState d == 2)
      && ((d.sys.img[t]).before &&& ~~~ d.eave.admitted) == 0

/-- The health of the images in trial followed: since when the conditions have held without a break (R457). -/
def watchHealth (d : Dev) : Dev :=
  (all 5).foldl (fun d t =>
    if num d (imgIdx t) 0x03 ≠ 1 then d
    else let ok := healthNow t d; onImg t (fun x => { x with healthy := if ok then some (x.healthy.getD d.time.now) else none }) d) d

/-- TRIAL_CONFIRM (R457, R458): 60 s of health within 600 s of the boot; the rollback counter rises. -/
def execTrialConfirm (t : Fin 5) (s : State) : Host.Outcome State Fault Refusal :=
  let d := watchHealth s.dev
  let x := d.sys.img[t]
  done s (match x.healthy with
    | some t0 =>
      if num d (imgIdx t) 0x03 ≠ 1 || x.bootAt + sec 600 < t0 + sec 60 then d else
      let level := max (nat d (imgIdx t) 0x08) (hdrLevel x.running)
      onImg t (fun x => { x with previous := none, healthy := none })
        (setNum (imgIdx t) 0x08 level (setNum (imgIdx t) 0x03 0 (reach (t0 + sec 60) d)))
    | none => d)

/-- CONFIRM_TIMEOUT (R457): 600 s from the boot. -/
def execConfirmTimeout (t : Fin 5) (s : State) : Host.Outcome State Fault Refusal :=
  let d := s.dev
  let x := d.sys.img[t]
  done s (if num d (imgIdx t) 0x03 ≠ 1 || x.timedOut then d else
    raise1 0 .confirmTimeout t.val (onImg t (fun x => { x with timedOut := true }) (reach (x.bootAt + sec 600) d)))

/-! Configuration leaves (R466 to R472). -/

/-- The high bytes of the entry tables, ascending. -/
def tableBytes : List Nat :=
  [0x10, 0x11, 0x12, 0x13, 0x14, 0x18, 0x19, 0x1A, 0x1B, 0x1C, 0x1D, 0x20, 0x21, 0x22, 0x23, 0x24, 0x26, 0x27, 0x28, 0x30, 0x31,
    0x32, 0x38, 0x40, 0x44]
/-- Every entry of the dictionary with its row, by key. -/
def allEntries : List (Nat × Row) :=
  (tableBytes.flatMap (fun h => (rowsOf h).flatMap (fun r => (List.range r.count).flatMap (fun o =>
    (List.range (r.subHi - r.subLo + 1)).map (fun i => (key (r.base + o * r.stride) (r.subLo + i), r)))))).mergeSort (fun a b => a.1 ≤ b.1)
/-- The P entries of a store, ascending (R466). -/
def storeKeys (st : Fin 2) : List Nat :=
  (allEntries.filter (fun e => e.2.keep == .p && storeOf (e.1 / 256) (e.1 % 256) == some st)).map Prod.fst
/-- The values that a commit captures (R470). -/
def captureBody (st : Fin 2) (d : Dev) : List (Nat × DVal) := (storeKeys st).map (fun k => (k, getVal d k))

/-- Whether a power-fail warning stands on a store's side (R470). -/
def powerWarned (st : Fin 2) (d : Dev) : Bool := if st = 1 then d.sys.power.fieldSeq.isSome || !up 7 d else !up 0 d
/-- A commit's writing begins with the running values of its start. -/
def startCommit (st : Fin 2) (d : Dev) : Dev :=
  onStore st (fun x => { x with writing := some (captureBody st d), unsaved := none, lastCommit := some d.time.now, waits := false }) d
/-- A commit asked (R470): none starts after a power-fail warning, and one that comes within 1 s of the store's last, or while
one is being written, waits. -/
def requestCommit (st : Fin 2) (d : Dev) : Dev :=
  let x := d.sys.store[st]
  let early : Bool := match x.lastCommit with
    | some t => decide (d.time.now < t + sec 1)
    | none => false
  if powerWarned st d then d
  else if x.writing.isSome || early then onStore st (fun x => { x with waits := true }) d
  else startCommit st d

/-- The commit command: the host and field stores, field first (R470). -/
def commitHandler : Handler where
  checks _ d := failing (d.sys.store.toList.any (fun x => x.writing.isSome)) 5 0x1B000018
  act _ d := requestCommit 0 (requestCommit 1 d)

/-- AUTO_COMMIT (R470): the delay after the store's last unsaved write. -/
def execAutoCommit (st : Fin 2) (s : State) : Host.Outcome State Fault Refusal :=
  let d := s.dev
  done s (match (d.sys.store[st]).unsaved with
    | some t => if nat d 0x1B40 0x03 = 0 || !up 0 d || (st == 1 && !up 7 d) then d
        else requestCommit st (reach (t + sec (nat d 0x1B40 0x03)) d)
    | none => d)

/-- COMMIT_SPACING_EXPIRY (R470): commits of one store are at least 1 s apart. -/
def execCommitSpacingExpiry (st : Fin 2) (s : State) : Host.Outcome State Fault Refusal :=
  let d := s.dev
  let x := d.sys.store[st]
  done s (match x.lastCommit with
    | some t =>
      if !x.waits || x.writing.isSome then d else
      let d := reach (t + sec 1) d
      if powerWarned st d then onStore st (fun x => { x with waits := false }) d else startCommit st d
    | none => d)

/-- The sequence after one (R469). -/
def nextLeafSeq (x : W32) : W32 := if x = 0xFFFFFFFE ∨ x = 0xFFFFFFFF then 1 else x + 1

/-- A commit's limp-home map is copied into the switch island's own memory (R313). -/
def keepMap (body : List (Nat × DVal)) (d : Dev) : Dev :=
  onLoad (fun l => { l with nvMap := tab (fun p => match body.lookup (key 0x4430 (p.val + 1)) with
    | some v => (intOf v).toNat
    | none => 0xFF) }) d

/-- LEAF_WRITE_COMPLETE (R469, R471): the read-back agrees and the sequence is written, or the commit is abandoned and the leaf
in force stays. The lease holder of a pair sends a field commit to its partner. -/
def execLeafWriteComplete (st : Fin 2) (readBack : Bool) (s : State) : Host.Outcome State Fault Refusal :=
  let d := s.dev
  let x := d.sys.store[st]
  done s (if !up (if st = 0 then 0 else 7) d then d else match x.writing with
    | none => d
    | some body =>
      let target : Fin 2 := match x.inForce with
        | some 0 => 1
        | _ => 0
      if !readBack then
        let d := onStore st (fun x => { x with writing := none, leaf := upd x.leaf target (fun l => { l with seq := 0xFFFFFFFF }) }) d
        raise1 (if st = 0 then 0 else 7) .leafWriteFailed (st.val + 1) (bump (leafIdx st) 0x06 (reportLeaves st d))
      else
        let seq := match x.inForce with
          | some l => nextLeafSeq (x.leaf[l]).seq
          | none => 1
        let d := onStore st (fun x => { x with
          writing := none, inForce := some target, leaf := upd x.leaf target (fun _ => ⟨true, true, body, seq⟩) }) d
        let d := bump 0x1B40 0x05 (reportLeaves st (if st = 1 then keepMap body d else d))
        if st = 1 && pairMode d && holds d then onPair (fun p => { p with bulkOut := pairBody body }) d else d)

/-- The entries that restore-defaults leaves (R472). -/
def restoreExempt (idx sub : Nat) : Bool :=
  (idx == 0x1200 && sub == 0x01) || (0x1400 ≤ idx && idx ≤ 0x14FF) || idx == 0x1A11 || (0x1C00 ≤ idx && idx ≤ 0x1DFF)
/-- The restore-defaults command (R472). -/
def restoreHandler : Handler where
  checks _ d := failing (!allOutOfService d) 5 0x1B000015
  act _ d :=
    let lost (k : Nat) : Bool := match rowOf (k / 256) (k % 256) with
      | some r => r.keep == .p && (storeOf (k / 256) (k % 256)).isSome && !restoreExempt (k / 256) (k % 256)
      | none => false
    let kept := { d with regs := d.regs.filter (fun e => !lost e.1) }
    paramWrites d (requestCommit 0 (requestCommit 1 ((all 2).foldl (fun d c => enableCan c (on d (canIdx c) 0x01) d) kept)))

/-- The bytes of bulk data for an object (R343, R471); object 0 is the field configuration, whose leaf in force the holder
sends without the entries that differ between the modules. -/
def bulkObject (d : Dev) : List (Nat × DVal) := match (d.sys.store[(1 : Fin 2)]).inForce with
  | some l => pairBody ((d.sys.store[(1 : Fin 2)]).leaf[l]).body
  | none => []

/-- BULK_REQUEST (R343): the holder answers a SYNCING partner. -/
def execBulkRequest (f : PeerFrame) (object : Nat) (s : State) : Host.Outcome State Fault Refusal :=
  let (d, ok) := peerReceive 0x08 f s.dev
  done s (if ok && holds d && object == 0 then
    onPair (fun p => { p with bulkOut := bulkObject d }) d else d)

/-- BULK_DATA (R343, R471): the partner takes the values over and commits them to its own field leaves. -/
def execBulkData (f : PeerFrame) (entries : List (Nat × DVal)) (s : State) : Host.Outcome State Fault Refusal :=
  let (d, ok) := peerReceive 0x09 f s.dev
  done s (if ok && !holds d && peersAgree d then
    let mine (k : Nat) : Bool := storeOf (k / 256) (k % 256) == some 1 && (match rowOf (k / 256) (k % 256) with
      | some r => r.keep == .p
      | none => false)
    let d := ((pairBody entries).filter (fun e => mine e.1)).foldl (fun d e => setVal e.1 e.2 d) d
    paramWrites s.dev (requestCommit 1 (onPair (fun p => { p with configPulled := true }) d))
  else d)

end Sys2Proof.Machine
end

