-- ==== Sys2Proof/Machine/Links.lean ====
section
/-! DEFINITION. The links between the islands: the safety feed, stale channels, the barrier's heartbeats and its loss, Ridge
frames towards the networks, and what is sent at fixed times (R11, R17, R30, R242, R274, R277, R327, R349, R389). -/
namespace Sys2Proof.Machine

/-! The safety feed (R274, Table 1.2). -/

/-- Whether the lease state channel reports the partner's lease valid; a stale channel holds it until 4 ms after its last
transfer (Table 1.2). -/
def leaseReported (d : Dev) : Bool :=
  leaseValid d && (!isStale .leaseState d || decide (d.time.now < (d.chan[chanIdx .leaseState]).last + ms 4))
/-- Since when the lease is reported not valid. -/
def leaseGoneAt (d : Dev) : Nat :=
  if leaseValid d then (d.chan[chanIdx .leaseState]).last + ms 4 else d.pair.expiry

/-- The pair output permit (Table 9.6). -/
def outputPermit (d : Dev) : Bool := match roleOf d with
  | 2 | 3 => true
  | 1 => leaseReported d || decide (d.time.now < leaseGoneAt d + ms 1) || !partnerSeen d
  | _ => false

/-- The safety feed (Table 1.2): the outlet currents, the following-error flags, the permit and the role; the safety island counts
the feed values below 5 A (R267, R269). -/
def safetyFeed (d : Dev) : Dev :=
  let low (j : Fin 12) : Bool := decide (|segCurrent (segOf j d) d| < 5) || !outletClosed j d
  transfer .safetyFeed (onSafety (fun s => { s with
    lows := tab (fun j => if low j then min 3 (s.lows[j] + 1) else 0),
    follow := tab (fun x => (d.eng.axis[x]).flag),
    permit := outputPermit d, role := roleOf d }) d)

/-- SAFETY_FEED (R274). -/
def execSafetyFeed (s : State) : Host.Outcome State Fault Refusal :=
  done s (if up 1 s.dev && up 3 s.dev then safetyFeed s.dev else s.dev)

/-- What the field control island composes for a channel (R298 rules 4 to 6, R317, R319). -/
def composeCommand (n : Fin 64) (d : Dev) : Bool × Int × Nat :=
  let c := d.load.chan[n]
  if d.ring.restart then (c.state == .on, c.duty, c.rule)
  else if !outputPermit d then (false, c.duty, 3)
  else if roleOf d = 1 then (c.partnerOn, c.partnerDuty, c.rule)
  else match consumerCommand n d with
    | some (cmd, duty) => (cmd, duty, 4)
    | none => (on d 0x4410 (n.val + 1), num d 0x4411 (n.val + 1), 5)

/-- LOAD_COMMAND_TRANSFER (R298, R316, R317): every 1 ms. -/
def execLoadCommandTransfer (s : State) : Host.Outcome State Fault Refusal :=
  let d := s.dev
  done s (if up 1 d && up 4 d then
    let d := tick 5 (ms 1) d
    let chan : Vector LoadChan 64 := tab (fun n => let (c, u, r) := composeCommand n d; { d.load.chan[n] with cmd := c, duty := u, rule := r, await := false })
    followAll (onLoad (fun l => { l with chan := chan, orphan := false }) (transfer .loadCommand d))
  else d)

/-! Stale channels (R11). -/

/-- What a channel's silence value does at its receiver (Table 1.2, R17, R269, R274, R316). -/
def silence (ch : Channel) (d : Dev) : Dev := match ch with
  | .timeMark r =>
    enterHoldover (chanReceiver (.timeMark r)) d.time.now d
  | .safetyStop =>
    { d with eng := { d.eng with
        stopFirst := tab (fun _ => true), stopSecond := tab (fun _ => true), stopMask := tab (fun _ => true), torqueOff := tab (fun _ => true) } }
  | .safetyFeed => onSafety (fun s => { s with
      lows := tab (fun _ => 0), follow := tab (fun _ => false), permit := s.permit && (s.role == 2 || s.role == 3) }) d
  | .peerTime => { d with time := { d.time with steeringHeld := true } }
  | .loadCommand => onLoad (fun l => { l with orphanAt := some d.time.now }) d
  | .lineLink => hostHoldover d
  | .leaseState | .shadowState | .loadStatus | .metrologyFeed => d

/-- CHANNEL_STALE (R11). -/
def execChannelStale (ch : Channel) (s : State) : Host.Outcome State Fault Refusal :=
  let d := s.dev
  done s (if isStale ch d || !up (chanReceiver ch) d then d else silence ch (staleChannel ch d))

/-- The steering of R17: a master that lags the holder's time gains one step, one that leads it is trimmed to run slower, and it never goes
back (R14). -/
def steer (offset : Int) (d : Dev) : Dev :=
  let t : Int := clamp (-1) 1 offset
  let gain : Int := max 0 t
  onPair (fun p => { p with timeOffset := offset - gain }) { d with time := { d.time with now := d.time.now + gain.toNat, trim := t } }

/-- PEER_TIME_TRANSFER (R17): the holder's time of a valid renewal with its arrival stamp; a partner that does not hold the lease
steers its master to it, but in SYNCING before its one alignment step. -/
def execPeerTimeTransfer (holderTime arrival : Nat) (s : State) : Host.Outcome State Fault Refusal :=
  let d := s.dev
  done s (if !(up 6 d && up 7 d && pairMode d) then d else
    let d := transfer .peerTime { d with time := { d.time with steeringHeld := false } }
    let offset : Int := (holderTime : Int) - arrival
    if holds d then d
    else if roleOf d = 0 ∧ !d.metro.aligned then onPair (fun p => { p with timeOffset := offset }) d
    else steer offset d)

/-! The barrier (R30). -/

/-- One side of the barrier changed. -/
def onSide30 (at_ : Side) (f : BarrierSide → BarrierSide) (d : Dev) : Dev := match at_ with
  | .host => { d with barrier := { d.barrier with host := f d.barrier.host } }
  | .field => { d with barrier := { d.barrier with field := f d.barrier.field } }
/-- What a side knows of the barrier. -/
def sideOf (at_ : Side) (d : Dev) : BarrierSide := match at_ with
  | .host => d.barrier.host
  | .field => d.barrier.field

/-- The barrier is up again for the host side: every session is told, the notices it could not carry are sent in order (R381), and the open
sessions are announced anew, for the field side may have lost them with a restart. -/
def barrierBack (d : Dev) : Dev :=
  let d := noticeAll 2 0 d
  let waiting := d.site.unsentNotices
  let d := waiting.foldl (fun d x => sessionNotice x.1 x.2 d) (onSite (fun s => { s with unsentNotices := [] }) d)
  (all 6).foldl (fun d n => if (d.site.sessions[n]).conn.isSome then sessionNotice n true d else d) (recallTransition d)

/-- The islands' states as the host side reports them (0x1043): those of its own side, and the field side's by the heartbeat, whose mask
says which run. -/
def islandsHeard (mask : Nat) (d : Dev) : Dev :=
  onSite (fun s => { s with islandSeen := tab (fun i =>
    if i.val = 0 ∨ i.val = 5 then s.islandSeen[i]
    else if bit mask i.val then .running else if d.isl[i] = .running then .inReset else d.isl[i]) }) d

/-- HEARTBEAT (R30, Table 1.7): it restarts the loss timing and notes an announced restart. -/
def execHeartbeat (at_ : Side) (m : TenonMsg) (s : State) : Host.Outcome State Fault Refusal :=
  let lane : Lane := match at_ with
    | .host => .fh
    | .field => .hf
  let me : Fin 8 := match at_ with
    | .host => 0
    | .field => 7
  if !up me s.dev then done s s.dev else
  let (d, ok) := receive lane m s.dev
  done s (if !ok || hdrType m.header ≠ 0x01 then d else
    let w := leNat m.payload
    let was := (sideOf at_ d).view
    let d := onSide30 at_ (fun x => { x with
      view := .up, lastHeartbeat := d.time.now, bound := if bit w 8 then some (ms 10 * field w 16 16) else none,
      upMask := BitVec.ofNat 8 w, powerFail := bit w 9 }) d
    let d := if at_ = .host then islandsHeard w d else d
    let d := if at_ = .host ∧ was = .lost then barrierBack d else d
    watchHealth d)

/-- The field side waits for an announced restart: it holds each outlet's target and raises no grant (R30, R461). -/
def holdGrants (d : Dev) : Dev :=
  (all 12).foldl (fun d k => if inCharge (d.out[k]).state then
    onOut k (fun o => { o with grantCap := some (match o.grantCap with | some g => min g |d.alloc.grant[k]| | none => |d.alloc.grant[k]|) }) d
    else d) d

/-- A side has lost the barrier (R30): the host tells every session, and an outstanding request has no answer any more; the field
side ends every outlet's session on a module alone. -/
def loseBarrier (at_ : Side) (d : Dev) : Dev :=
  let d := onSide30 at_ (fun x => { x with view := .lost }) d
  match at_ with
  | .host =>
    let d := onSite (fun s => { s with sessions := s.sessions.map (fun x => { x with outstanding := [] }) }) d
    raise 0 .barrierLost [] (noticeAll 1 0 (bump 0x1042 0x08 d))
  | .field =>
    let d := raise 7 .barrierLost [] d
    if roleOf d = 3 then (all 12).foldl (fun d k =>
      if (d.out[k]).state = .delivering ∨ (d.out[k]).state = .returning then raiseCause k 10 d else d) d
    else if holds d then onPair (fun p => { p with supportLost := true }) d
    else d

/-- BARRIER_LOSS (R30): no valid heartbeat for 5 ms; where the last heartbeat announced a restart, the announced bound plus
500 ms. -/
def execBarrierLoss (at_ : Side) (s : State) : Host.Outcome State Fault Refusal :=
  let d := s.dev
  let x := sideOf at_ d
  let me : Fin 8 := match at_ with
    | .host => 0
    | .field => 7
  done s (if !up me d then d else match x.view, x.bound with
    | .lost, _ => d
    | .up, some _ =>
      let d := onSide30 at_ (fun x => { x with view := .restartAwaited }) (reach (x.lastHeartbeat + ms 5) d)
      (match at_ with
        | .host => d
        | .field => holdGrants d)
    | .restartAwaited, some b => loseBarrier at_ (reach (x.lastHeartbeat + b + ms 500) d)
    | _, none => loseBarrier at_ (reach (x.lastHeartbeat + ms 5) d))

/-- POWER_FAIL_NOTICE (R242): the metrology island saves no more and waits for its final write. -/
def execPowerFailNotice (s : State) : Host.Outcome State Fault Refusal :=
  let d := s.dev
  done s (if metering d then onMetro (fun m => { m with warned := some (m.warned.getD d.time.now), finalDone := m.finalDone && m.warned.isSome }) d
  else d)

/-! Ridge frames towards the networks (R277). -/

/-- A Ridge frame routed by its prefix (Table 9.9): CAN FD controllers take it into their urgent queues with function code 0,
the Eaveline network into its slot. -/
def routeRidge (b : List Byte) (d : Dev) : Dev :=
  let network := fieldAt b 0 1
  let slot := fieldAt b 1 1
  let f := b.drop 8
  let can (c : Fin 2) : Dev := stage c true ⟨canId 0 d.site.addr.id, true, canPad f, islandTime 0 d⟩ d
  match network with
  | 1 => can 0
  | 2 => can 1
  | 4 => if h : slot < 24 then onEave (fun e => { e with ridge := upd e.ridge ⟨slot, h⟩ (fun _ => f) }) d else d
  | _ => d

/-- RIDGE_FRAME_FROM_SAFETY (R277). -/
def execRidgeFrameFromSafety (m : TenonMsg) (s : State) : Host.Outcome State Fault Refusal :=
  if !up 0 s.dev then done s s.dev else
  let (d, ok) := receive .fh m s.dev
  done s (if ok && hdrType m.header == 0x04 && decide (8 ≤ m.payload.length) then routeRidge m.payload d else d)

/-! What is sent at fixed times. -/

/-- CAN_HEARTBEAT (R349, Table 12.7): every 100 ms. -/
def execCanHeartbeat (s : State) : Host.Outcome State Fault Refusal :=
  let d := s.dev
  done s (if !up 0 d || d.site.addr.state ≠ .held then d else
    let d := tick 6 (ms 100) d
    let mask := (d.barrier.host.upMask.toNat &&& 0xDE) ||| (if up 0 d then 1 else 0) ||| (if up 5 d then 0x20 else 0)
    let b := leBytes 1 (roleOf d) ++ leBytes 1 mask ++ leBytes 2 0 ++ leBytes 4 (Config.serial.toNat % 2 ^ 32)
    stageAll ⟨canId 0xF d.site.addr.id, true, b, d.time.now⟩ d)

/-- WALL_CLOCK_OFFSET_SEND (R389): once per second the host island sends the wall-clock offset, and whether it is synchronised, to the
metrology island. No row of Table 1.6 names the message: the model sends a time mark to PD2. -/
def execWallClockOffsetSend (s : State) : Host.Outcome State Fault Refusal :=
  let d := s.dev
  done s (if !up 0 d || barrierLost d then d else
    let d := tick 7 (sec 1) d
    enqueue .hf (tenonItems 0x02 2 2 16 [wallOffset d, flag d.site.ptp.synchronised] d) d)

/-- PARTNER_WAIT_EXPIRY (R327): a SYNCING module that has never seen the lease held may bid once the partner wait, doubled at
rank 2, has passed since its start. -/
def execPartnerWaitExpiry (s : State) : Host.Outcome State Fault Refusal :=
  let d := s.dev
  done s (if !(up 6 d && pairMode d) || roleOf d ≠ 0 || leaseValid d || d.pair.bid.isSome || d.pair.lastValid ≠ 0 then d else
    let d := reach (d.pair.startedAt + ms (nat d 0x1C01 0x01 * (if nat d 0x1C00 0x02 = 2 then 2 else 1))) d
    if grantHolds d || partnerSeen d then d else sendBid d)

end Sys2Proof.Machine
end

