-- ==== Sys2Proof/Machine/Period.lean ====
section
/-! DEFINITION. One control period of the field control island (R12, R13, R46, R60 to R72, R117 to R124, R326 to R344,
Tables 1.3, 3.2 and 5.1). -/
namespace Sys2Proof.Machine

/-! The boundary, the contact inputs and the topology (R40 to R55). -/

/-- The boundary of the period: the counts advance, and the engine runs. -/
def beginPeriod (d : Dev) : Dev :=
  let d := boundaryTick d
  let d := { d with eng := { d.eng with w := (d.eng.w + 1) % 100 } }
  setNum 0x2600 0x01 1 d

/-- The topology fault of R46: the legs of the segments that break an invariant are held at zero, and its entry is counted and
reported; it ends when both invariants hold again. -/
def topologyPeriod (d : Dev) : Dev :=
  let broken := brokenRails d
  let d' := { d with ring := { d.ring with faultZero := tab (fun j => broken.contains j), broken := broken != [] } }
  if broken != [] && !d.ring.broken then
    raise 1 .topologyFault (leBytes 2 (broken.foldl (fun a j => a + 2 ^ j.val) 0)) (bump 0x2800 0x07 d')
  else d'

/-- The contact inputs and what follows from them in a period: the segments are derived anew (R49), and the rails' groups follow. -/
def contactPeriod (d : Dev) : Dev :=
  let d := checkTravel (countPermits (checkSense (clearAgreed (debounceContacts d))))
  regroup (topologyPeriod (zeroDropped (deriveSegments (clearDropped (checkDropped d)))))

/-! The profile window and the set-points (Table 5.1). -/

/-- The set-points of every rail (R95 to R113). -/
def setPoints (d : Dev) : Dev :=
  let held (j : Fin 12) : Bool := segStopped (segOf j d) d
  let d := (all 12).foldl (fun d j => stopBitPeriod j (held j) (commandPeriod j (held j) (boundPeriod j (sensePeriod j d)))) (isolateUnfitted d)
  let d := (all 12).foldl (fun d j => stopWaitPeriod j (passivePeriod j (setPointPeriod j d))) d
  let d := (all 12).foldl (fun d j => legLossPeriod j d) d
  (all 12).foldl (fun d j => ratioPeriod j held d) d

/-- Whether a generator is updated in a period (Table 5.5). -/
def genDue (g : Fin 28) (d : Dev) : Bool :=
  if g.val < 12 then true
  else if g.val < 24 then (axesDue d.sync.periods).any (fun x => x.val + 12 == g.val)
  else let n := nat d (genIdx g) 0x0B; n != 0 && d.sync.periods % n == 0

/-- The profile unit: the generators that are due and the injection signals. -/
def profileWindow (d : Dev) : Dev :=
  let d := outletGenerators d
  let d := (all 28).foldl (fun d g => if genDue g d then genUpdate g d else d) d
  signalPeriod d

/-! The input image (R120, R339). -/

/-- A running safety island sends its stop and torque-off masks, every period and at once on a change (Table 1.2); of one that does not
run the field control island keeps what came last, until the channel is stale (R11). -/
def takeStop (d : Dev) : Dev :=
  if up 3 d then transfer .safetyStop { d with eng := { d.eng with stopMask := stopBits d, torqueOff := torqueBits d } } else d

/-- Whether a thermal loop's input comes from no spline port. -/
def remoteInput (w : Fin 16) (d : Dev) : Bool := w.val < 12 || nat d (thermalIdx w) 0x02 / 256 == 1

/-- The freeze at 2.000 µs: the collector's flags are cleared and the stop mask is sampled; in pair mode the inputs that come from
no spline port are those latched one period ago (R339). -/
def freezeImage (d : Dev) : Dev :=
  let d := takeStop d
  let now : Late := ⟨d.eng.stopMask, d.eng.stopMask, tab (fun w => ((d.eng.thermal[w]).input, (d.eng.thermal[w]).inputAt))⟩
  let used := if pairMode d then d.pair.late else now
  let d := { d with eng := { d.eng with
    stopFirst := used.stopFirst, filling := tab (fun _ => Fresh.cell),
    thermal := tab (fun w => if remoteInput w d then { d.eng.thermal[w] with input := (used.thermal[w]).1 } else d.eng.thermal[w]) } }
  onPair (fun p => { p with late := now }) d

/-- The thermal inputs of the period's end: the latest that their sources have delivered. -/
def thawThermal (d : Dev) : Dev :=
  { d with eng := { d.eng with thermal := tab (fun w =>
      if remoteInput w d then { d.eng.thermal[w] with input := (d.pair.late.thermal[w]).1 } else d.eng.thermal[w]) } }

/-! The slots (R117 to R133). -/

/-- Whether a thermal loop runs (R133, R204). -/
def loopEnabled (w : Fin 16) (d : Dev) : Bool :=
  if h : w.val < 12 then (d.out[(⟨w.val, h⟩ : Fin 12)]).cooling else on d (thermalIdx w) 0x01

/-- The sequencer at position 3 (R78 to R85): the transitions to OFF come before braking, shedding and the shares; the heads whose
segments release are collected. -/
def sequencer (d : Dev) : Dev × List (Fin 12) :=
  let d := (all 96).foldl (fun d n => offPeriod n d) d
  let busy (h : Fin 12) : Bool := moveBusy h d
  let returning (k : Fin 12) : Bool := (d.out[k]).state == .returning
  (heads d).foldl (fun (x : Dev × List (Fin 12)) h =>
    let y := sequenceSegment busy returning h x.1
    (y.1, if y.2 then x.2 ++ [h] else x.2)) (d, [])

/-- The slots of a period, in their order, with the heads of the segments released at position 3. Every slot runs; those in `bad` had words
in error, and their outputs are what was last sent (R117, R124). -/
def runSlots (bad : List (Fin 136)) (d : Dev) : Dev × List (Fin 12) :=
  let d0 := d
  let rails := bad.filter (fun s => decide (slotPos s < 3))
  let d := rails.foldl (fun d s => repeatOutput d0 s d) ((all 12).foldl (fun d j => railSlot j d) d)
  let x := sequencer d
  let d := (all 96).foldl (fun d n => legSlot n d) x.1
  let off := d.eng.torqueOff
  let d1 := d
  let d := (axesDue d.sync.periods).foldl (fun d x => axisSlot off x d) d
  let d := if h : d.eng.w < 16 then (if loopEnabled ⟨d.eng.w, h⟩ d then thermalSlot ⟨d.eng.w, h⟩ d else d) else d
  let d := (bad.filter (fun s => slotPos s == 28)).foldl (fun d s => repeatOutput d1 s d) d
  (analysisPeriod d, x.2)

/-- The second stop sample, the swap of the banks, the outputs of every leg, and the repair of slots in error (R121 to R124); with w = 99 the
duties of the thermal loops go to the load command transfer (R119). -/
def closeBank (bad : List (Fin 136)) (d : Dev) : Dev :=
  let d := takeStop d
  let d := { d with eng := { d.eng with
    loadDuty := if d.eng.w = 99 then tab (fun w => (d.eng.thermal[w]).duty) else d.eng.loadDuty
    stopSecond := d.eng.stopMask, closed := d.eng.filling, filling := d.eng.closed, faulted := bad } }
  let ph := phases d
  let d := (all 96).foldl (fun d n => legOutput n (ph.lookup n) d) d
  bad.foldl (fun d s => rebuildSlot s d) d

/-! The downlink frames (R59 to R65, R72, Tables 3.3 to 3.6 and 3.13). -/

/-- The header of a frame: its type and the count of the boundary it applies at. -/
def downHeader (type : Nat) (d : Dev) : W16 := BitVec.ofNat 16 (type * 4096 + (nextCount d).toNat)

/-- A request in the service field (Table 3.9): the write of a value to an address, or nothing. -/
def serviceField (q : List (Nat × Nat)) : BitVec 24 := match q with
  | (a, v) :: _ => BitVec.ofNat 24 (2 ^ 23 + a * 65536 + v)
  | [] => 0

/-- The control byte of a brick (Table 3.6); after a restart the contactor bits are the states that the card last reported (R72). -/
def brickControl (k : Fin 24) (d : Dev) : Byte :=
  let b := d.brick[k]
  let tie : Bool := match (all 12).find? (fun j => (tieCards j).contains k) with
    | some j => (d.ring.tie[j]).cmd
    | none => false
  let bits : Bool × Bool × Bool :=
    if d.ring.restart then ((b.aux[(0 : Fin 3)]).raw, (b.aux[(1 : Fin 3)]).raw, (b.aux[(2 : Fin 3)]).raw)
    else (b.contactor.cmd, (d.ring.outlet[railOf k]).cmd, tie)
  let reset := (legsOf k).any (fun n => (d.leg[n]).resetBit)
  BitVec.ofNat 8 ((if bits.1 then 128 else 0) + (if bits.2.1 then 64 else 0) + (if bits.2.2 then 32 else 0) + if reset then 16 else 0)

/-- The frame of a brick. -/
def brickFrame (k : Fin 24) (d : Dev) : BrickDown :=
  let command := d.ring.restart || commandsCard ⟨k.val, by omega⟩ d
  let f : BrickDown :=
    { framed := true, late := false, header := downHeader (if command then 1 else 2) d, epoch := BitVec.ofNat 32 (frameEpoch d)
      words := tab (fun i => if d.ring.restart then 0 else (d.leg[(⟨4 * k.val + i.val, by omega⟩ : Fin 96)]).word)
      control := brickControl k d, service := serviceField (d.brick[k]).serviceQ, crc := 0 }
  { f with crc := crc16 (brickDownBytes f) }

/-- The frame of an axis drive. -/
def axisFrame (u : Fin 4) (d : Dev) : AxisDown :=
  let command := d.ring.restart || commandsCard ⟨24 + u.val, by omega⟩ d
  let axis (i : Fin 3) : Fin 12 := ⟨3 * u.val + i.val, by omega⟩
  let en := (all 3).foldl (fun a i => if axisEnabled (axis i) d then a + 2 ^ (7 - i.val) else a) 0
  let f : AxisDown :=
    { framed := true, late := false, header := downHeader (if command then 4 else 5) d, epoch := BitVec.ofNat 32 (frameEpoch d)
      torque := tab (fun i => BitVec.ofInt 16 (d.eng.axis[axis i]).torque)
      control := BitVec.ofNat 8 en, service := serviceField (d.drive[u]).serviceQ, crc := 0 }
  { f with crc := crc16 (axisDownBytes f) }

/-- The frames of a period are sent on every port; service words and fault resets are spent. A restarted island sends a brick nothing
before its card has reported the contact states that the frame is to carry (R72; DEDUCED, log 187). -/
def sendFrames (d : Dev) : Dev :=
  let d := { d with sent := tab (fun c =>
    if h : c.val < 24 then
      if d.ring.restart ∧ (d.brick[c.val]).lastGood = 0 then none else some (.brick (brickFrame ⟨c.val, h⟩ d))
    else some (.axis (axisFrame ⟨c.val - 24, by omega⟩ d))) }
  { d with
    brick := d.brick.map (fun b => { b with serviceQ := b.serviceQ.tail })
    drive := tab (fun u => { d.drive[u] with
      serviceQ := (d.drive[u]).serviceQ.tail
      torque := tab (fun i => (d.eng.axis[(⟨3 * u.val + i.val, by omega⟩ : Fin 12)]).torque) })
    leg := d.leg.map (fun l => { l with resetBit := false, resetWait := if l.resetBit then 2 else l.resetWait }) }

/-- After a restart of the island: its contactors stand as their contacts report, until every fitted brick has given 100
consecutive good uplinks (R72). -/
def restartPeriod (d : Dev) : Dev :=
  if !d.ring.restart then d else
  let d := contactorOrder.foldl (fun d x =>
    let st := (contacts x d).any (·.raw)
    onContactor x (fun c => { c with want := st, cmd := st, travel := none }) d) d
  let ready := (all 24).all (fun k => !brickFitted k d || decide (100 ≤ (d.brick[k]).goodUps))
  regroup (deriveSegments { d with ring := { d.ring with restart := !ready } })

/-! The pair at a period (R326 to R344). -/

/-- The highest epoch seen in any uplink of the last 100 periods (R329). -/
def learnSeen (d : Dev) : Dev :=
  onPair (fun p => { p with seen := ((cardsSeen d).filter (fun x => d.time.now ≤ x.at_ + 100 * period)).foldl (fun a x => max a x.epoch) 0 }) d

/-- Whether this module sends command frames. -/
def commandsAny (d : Dev) : Bool := d.ring.restart || (all 28).any (fun c => commandsCard c d)

/-- Whether the last mirror block is more than 8 periods older than now (R334). -/
def mirrorStale (d : Dev) : Bool := match d.pair.lastMirror with
  | some t => decide (t + 8 * period < d.time.now)
  | none => true
/-- The lease state read at 7.9 µs and the take-over condition (R13, R331); over a stale mirror every running move counts as omitted (R334). -/
def takeOverPeriod (d : Dev) : Dev :=
  let d := learnSeen (if up 6 d then transfer .leaseState d else d)
  if takeOverMet d then takeOver (if mirrorStale d then omitAll d else d) else d

/-- What the pair does at the end of a period: the fencing condition (R330) and the end of ACTIVE where the peer link has been
silent for 1 ms (Table 11.2). -/
def pairPeriod (d : Dev) : Dev :=
  let d := if fenced (commandsAny d) d then enterSyncing d else d
  let silent : Bool := match d.pair.silentSince with
    | some t => decide (t + ms 1 ≤ d.time.now)
    | none => false
  let d := if roleOf d == 2 && silent then setRole 3 d else d
  pairActivation d

/-! The period. -/

/-- Whether this module runs the control class: it holds the lease, or has taken the class over (R331, R334). -/
def controls (d : Dev) : Bool := holds d || d.pair.takeEpoch.isSome

/-- The outlets, the allocator and the interlock of a period; a module that only shadows has them from the mirror (R338). -/
def decisions (released : List (Fin 12)) (d : Dev) : Dev :=
  if !controls d then (all 12).foldl (fun d k => statusPeriod k d) d else
  let d := released.foldl (fun d h => releaseOutlets h d) d
  let d := allocatorPeriod released d
  let d := (all 12).foldl (fun d k => outletPeriod k d) d
  if d.ring.restart then d else interlock outletPermit (thawOutlets d)

/-- What follows the slots: outputs at 7.950 µs, decisions, frames at 8.0 µs, averages and the transfers of the period. -/
def endPeriod (bad : List (Fin 136)) (released : List (Fin 12)) (d : Dev) : Dev :=
  let d := closeBank bad (reach (d.sync.boundary + 780) d)
  let d := thawThermal (abortPeriod released d)
  let d := restartPeriod (decisions released d)
  let d := takeOverPeriod (reach (d.sync.boundary + 790) d)
  let d := repeatUpdates (sendFrames (reach (d.sync.boundary + us 8) d))
  let d := transfer .shadowState (averagePeriod d)
  watchHealth (pairPeriod (keepSamples d))

/-- One control period. `ecc` lists the slots whose words had an error: corrected, or, with `true`, not to be corrected; the second
such error of a slot in a row resets the island (R124). -/
def controlPeriod (ecc : List (Fin 136 × Bool)) (d : Dev) : Dev :=
  let d := fieldStore d
  let bad := (ecc.filter (fun e => e.2)).map Prod.fst
  let d := contactPeriod (beginPeriod d)
  let d := profileWindow (setPoints d)
  let d := freezeImage (reach (d.sync.boundary + us 2) d)
  let d := bumpBy 0x2600 0x0B ((ecc.countP (fun e => !e.2) : Nat) : Int) d
  let twice := bad.any (fun s => d.eng.faulted.contains s)
  let d := bad.foldl (fun d s => slotFault s d) d
  if twice then setNum 0x2600 0x01 2 (startIsland 1 4 d)
  else
    let x := runSlots bad d
    endPeriod bad x.2 x.1

/-- CONTROL_PERIOD (R117). -/
def execControlPeriod (ecc : List (Fin 136 × Bool)) (s : State) : Host.Outcome State Fault Refusal :=
  done s (if up 1 s.dev then controlPeriod ecc s.dev else s.dev)

end Sys2Proof.Machine
end

