-- ==== Sys2Proof/Machine/HandlersHost.lean ====
section
/-! DEFINITION. What the chapters on sessions, the site bus, Eaveline, time following, sample movement, snapshots and pairing
say of a write to their entries. -/
namespace Sys2Proof.Machine

/-- The key of the entry written. -/
def WriteCall.key (c : WriteCall) : Nat := Machine.key c.idx c.sub
/-- The value takes its place in the entry. -/
def plainAct (c : WriteCall) (d : Dev) : Dev := setVal c.key c.val d
/-- A write that its table's range alone judges. -/
def plainHandler : Handler where act := plainAct
/-- The lower of an object's position and its bound. -/
def objAt (n : Nat) (h : 0 < n) (idx base stride : Nat) : Fin n := ⟨(idx - base) / stride % n, Nat.mod_lt _ h⟩

/-! The site bus (R346 to R364) and time following (R388 to R390). -/

/-- The stored node ID: not one that another module is heard holding. -/
def nodeIdHandler : Handler where
  checks c d := failing (c.nat != 0 && c.nat != d.site.addr.id && d.site.addr.heard.getLsbD c.nat) 5 0x12000011
  act := plainAct

/-- The re-claim command (R364). -/
def reClaimHandler : Handler where act _ d := reClaim d

/-- The controller of an index 0x1201 or 0x1202. -/
def canOfIdx (idx : Nat) : Fin 2 := objAt 2 (by omega) idx 0x1201 1
/-- A controller is enabled or disabled. -/
def canEnableHandler : Handler where
  act c d := enableCan (canOfIdx c.idx) (c.nat != 0) (plainAct c d)
/-- Bit timing and termination: written while the controller is disabled, the data rate not below the nominal rate (R347). -/
def canTimingHandler : Handler where
  checks c d :=
    let slow : Int := if c.sub = 0x02 then c.num else num d c.idx 0x02
    let fast : Int := if c.sub = 0x03 then c.num else num d c.idx 0x03
    failing (on d c.idx 0x01) 5 0x12000012 ++ failing (decide (fast < slow)) 6 0x12000010
  act := plainAct
/-- Filters 1 to 5 are fixed (R356). -/
def filterHandler : Handler where
  checks c _ := failing (decide (c.sub ≤ 5)) 5 0x12000013
  act := plainAct

/-- PTP enabled or disabled (R388). -/
def ptpEnableHandler : Handler where
  act c d := onPtp (fun p => if c.nat = 0
    then { p with state := 0, within := 0, beyond := 0, wall := wallOffset d, slipFrom := some d.time.now, synchronised := false }
    else { p with state := max 1 p.state }) (plainAct c d)
/-- A wall clock set by a host (R390). -/
def wallClockHandler : Handler where
  checks _ d := failing (d.site.ptp.state == 3) 5 0x14000010
  act c d := onPtp (fun p => { p with wall := c.num - 10 * (siteTime d : Int), slipFrom := p.slipFrom.map (fun _ => d.time.now), synchronised := false }) d

/-! Eaveline (R417). -/

/-- The remove command. -/
def removeNodeHandler : Handler where
  checks _ d := failing (!isMaster d) 5 0x13000013
  act c d := removeNode ⟨c.nat % 16, by omega⟩ d
/-- An expected serial: not while the node is admitted. -/
def expectedSerialHandler : Handler where
  checks c d := failing (admitted (objAt 16 (by omega) c.idx 0x1310 1) d) 5 0x13000012
  act := plainAct

/-- An expected phase (R415): where it differs from the classification reported, the event is raised. -/
def expectedPhaseHandler : Handler where
  act c d :=
    let n : Fin 16 := objAt 16 (by omega) c.idx 0x1310 1
    let d := plainAct c d
    if up 5 d && c.nat != 0 && nat d c.idx 0x06 != 0 && nat d c.idx 0x06 != c.nat then raise1 5 .phaseWiring n.val d else d

/-! Sample movement (R420 to R429). -/

/-- The channel of an index 0x1810 to 0x181F. -/
def dmaOfIdx (idx : Nat) : Fin 16 := objAt 16 (by omega) idx 0x1810 1
/-- Whether a channel is running, or waits for a descriptor within its run. -/
def dmaBusy (c : Fin 16) (d : Dev) : Bool := (d.dma.chan[c]).state == .running || (d.dma.chan[c]).state == .waiting
/-- Whether a control write sets the stop request alone: that bit by itself, or added to the control in force. -/
def stopAlone (c : Fin 16) (v : Nat) (d : Dev) : Bool :=
  let w := nat d (0x1810 + c.val) 0x04
  v == 2 ^ 30 || (bit v 30 && v % 2 ^ 30 == w % 2 ^ 30 && bit v 31 == bit w 31)

/-- A channel's source, destination or count (R420, R425). A source need not be an address where the mode is fill. -/
def dmaRegisterHandler : Handler where
  checks c d :=
    failing (dmaBusy (dmaOfIdx c.idx) d) 5 0x18000010
      ++ failing ((c.sub == 1 || c.sub == 2) && c.nat % 4 != 0 && !(c.sub == 1 && field (nat d c.idx 0x04) 12 3 == 5)) 6 0x18000011
  act := plainAct

/-- A channel's control (R421, R422, R424): a start, a stop request, or settings. -/
def dmaControlHandler : Handler where
  checks c d :=
    let n := dmaOfIdx c.idx
    failing (dmaBusy n d && !stopAlone n c.nat d) 5 0x18000010
      ++ failing (bit c.nat 31 && !dmaBusy n d && 13 ≤ n.val) 5 0x18000013
      ++ failing (field c.nat 24 6 != 0 || field c.nat 0 5 != 0 || decide (5 < field c.nat 12 3)) 6 0x18000011
  act c d :=
    let n := dmaOfIdx c.idx
    if dmaBusy n d then askStop n d
    else
      let d := setNum c.idx 0x04 ((c.nat % 2 ^ 30 + (if bit c.nat 31 then 2 ^ 31 else 0) : Nat) : Int) d
      if bit c.nat 31 then startChannel n c.session d else d

/-- The descriptor of an index and sub-index. -/
def descOf (idx sub : Nat) : Fin 256 := ⟨((idx - 0x1840) * 64 + (sub - 1)) % 256, by omega⟩
/-- A descriptor (R425): not while a running channel holds it. -/
def descriptorHandler : Handler where
  checks c d := failing (descHeld (descOf c.idx c.sub) d) 5 0x18000012
  act := plainAct

/-- The claim of capture memory (R427). -/
def captureClaimHandler : Handler where
  checks _ d := failing (d.dma.capState != .free) 4 0x18000015
  act c d := { d with dma := { d.dma with capState := .held, capOwner := c.session, capUsed := 0 } }
/-- The release of capture memory (R427). -/
def captureReleaseHandler : Handler where
  checks c d := failing (d.dma.capState == .filling) 5 0x18000016 ++ failing (d.dma.capOwner != c.session || c.session == 0) 4 0x18000017
  act _ d := releaseCapture d

/-! Snapshots (R430, R433). -/

/-- The trigger command: it needs the barrier and a set that is not locked. -/
def triggerHandler : Handler where
  checks _ d := failing (barrierLost d) 1 0x10000022 ++ failing ((oldestSet d).isNone && !recentTrigger d) 4 0x19000011
  act c d := (fireTrigger 2 c.session 0 0 d).1
  refused c code d := if code = 0x19000011 then (fireTrigger 2 c.session 0 0 d).1 else d

/-! Pairing (R333, R344, R345). -/

/-- Pair mode: every outlet OUT_OF_SERVICE, and the extended hold at 8. -/
def pairModeHandler : Handler where
  checks c d :=
    failing (!allOutOfService d || (c.nat == 1 && decide (nat d 0x2301 0x04 < 8))) 5 0x1C000012
  act c d :=
    let was := pairMode d
    let d := plainAct c d
    if c.nat = 1 ∧ !was then enterSyncing d else d
/-- The rank. -/
def rankHandler : Handler where
  checks _ d := failing (!allOutOfService d) 5 0x1C000012
  act := plainAct
/-- The swap command (R344). -/
def swapHandler : Handler where
  checks _ d :=
    failing (roleOf d != 2 || !(match d.pair.partner with | some q => q.inStep | none => false)) 5 0x1C000011
      ++ failing d.pair.swap.isSome 5 0x1C000014
  act _ d := beginSwap d

end Sys2Proof.Machine
end

