-- ==== Sys2Proof/Machine/HandlersPower.lean ====
section
/-! DEFINITION. What the chapters on legs, the ring, rails, the loop engine and the allocator say of a write to their
entries. -/
namespace Sys2Proof.Machine

/-! Legs and bricks (R56, R89, R90). -/

/-- The leg of an index of a table of legs. -/
def legOfIdx (idx base : Nat) : Fin 96 := objAt 96 (by omega) idx base 1
/-- Whether every leg's gains are representable with a Kp, a Ki and the inductances (R127, R129). -/
def legGainsOk (bfp : Bool) (kp ki : Rat) (henry : Fin 96 → Rat) : Bool :=
  (all 96).all (fun n => representable bfp (1 / 8) (kp * henry n / 1200) && representable bfp (1 / 64) (ki * henry n / 1200))
/-- The inductance of a leg in 0.1 µH. -/
def inductance (d : Dev) (n : Fin 96) : Rat := num d (legIdx n) 0x02
/-- A leg enabled or disabled (R90): not while it brakes. -/
def legEnableHandler : Handler where
  checks c d := failing ((d.leg[legOfIdx c.idx 0x2000]).state == .braking) 5 0x20000010
  act := plainAct
/-- A leg's inductance (R90): not in service. The gains it scales are checked again (R129). -/
def inductanceHandler : Handler where
  checks c d :=
    let n := legOfIdx c.idx 0x2000
    failing (inService d.leg[n] || (d.leg[n]).state == .braking) 5 0x20000010
      ++ failing (!legGainsOk (classBfp 0 d) (bfpVal (getVal d (key 0x2610 1))) (bfpVal (getVal d (key 0x2610 2)))
          (fun m => if m = n then (c.num : Rat) else inductance d m)) 6 0x26000012
  act := plainAct
/-- The order derate start < derate end ≤ trip temperature of three entries (R90, R209). -/
def tempOrder (lo : Nat) (c : WriteCall) (d : Dev) : Bool :=
  let v (i : Nat) : Int := if c.sub = lo + i then c.num else num d c.idx (lo + i)
  decide (v 0 < v 1 ∧ v 1 ≤ v 2)
/-- A leg's temperatures. -/
def legTempHandler : Handler where
  checks c d := failing (!tempOrder 0x04 c d) 6 0x20000011
  act := plainAct
/-- A leg fault reset (R90, Table 3.16): the reset bit is sent for one period. A leg whose flags show no latched fault is in STANDBY at once;
otherwise the uplinks after the reset bit show whether the card has cleared them. -/
def legResetHandler : Handler where
  checks c d := failing (causesPresent (legOfIdx c.idx 0x2000) d != 0) 5 0x20000013
  act c d :=
    let n := legOfIdx c.idx 0x2000
    onLeg n (fun l =>
      if l.state ≠ .fault then l
      else if latchedFlags l then { l with resetBit := true }
      else { l with state := .standby, cause := 0, resetBit := true }) d
/-- A leg's and a brick's peak capture (R89). -/
def legCaptureHandler : Handler where act c d := captureLeg (legOfIdx c.idx 0x2100) d
/-- The brick of an index. -/
def brickOfIdx (idx : Nat) : Fin 24 := objAt 24 (by omega) idx 0x2200 1
def brickCaptureHandler : Handler where act c d := captureBrick (brickOfIdx c.idx) d

/-- Whether the ring is idle: every outlet IDLE or OUT_OF_SERVICE and every fitted tie open (R56). -/
def ringIdle (d : Dev) : Bool :=
  (all 12).all (fun k => (d.out[k]).state == .idle || (d.out[k]).state == .outOfService)
    && (all 12).all (fun j => !tieFitted j d || !tieClosed j d)
/-- The ring configuration (R56). -/
def ringConfigHandler : Handler where
  checks _ d := failing (!ringIdle d) 5 0x28000010
  act c d := isolateUnfitted (plainAct c d)
/-- An isolation request (Table 2.8). -/
def isolationHandler : Handler where
  checks c d := failing (!on d c.idx 0x01) 5 0x22000010
  act := plainAct

/-- A card parameter: written to every card by its service word when it changes (R65). A pair keeps the extended hold at 8 (R333). -/
def cardParamHandler : Handler where
  checks c d := failing (c.sub == 0x04 && pairMode d && decide (c.num < 8)) 5 0x1C000012
  act c d := paramWrites d (plainAct c d)

/-- Whether shed levels are in order for the defaults and every outlet's effective levels (R90). -/
def shedOrder (c : WriteCall) (d : Dev) : Bool :=
  let v (idx sub : Nat) : Int := if idx = c.idx ∧ sub = c.sub then c.num else num d idx sub
  let level (t : Nat) (k : Nat) : Int := let x := v (0x2311 + t) (k + 1); if x = 0 then v 0x2310 (2 + t) else x
  decide (v 0x2310 2 < v 0x2310 3 ∧ v 0x2310 3 < v 0x2310 4)
    && (List.range 12).all (fun k => decide (level 0 k < level 1 k ∧ level 1 k < level 2 k))
def shedHandler : Handler where
  checks c d := failing (!shedOrder c d) 6 0x23000010
  act := plainAct

/-! Rails (R95 to R116). -/

/-- The rail of an index. -/
def railOfIdx (idx : Nat) : Fin 12 := objAt 12 (by omega) idx 0x2400 16
/-- A rail under control source 0 takes no host write (R96). -/
def underSession (c : WriteCall) (d : Dev) : List (Nat × Nat) := failing (!hostSource (railOfIdx c.idx) d) 5 0x24000010
/-- The control source (R96). -/
def sourceHandler : Handler where
  checks c d := failing (c.nat == 1 && (d.out[railOfIdx c.idx]).state != .outOfService) 5 0x24000017
  act := plainAct
/-- The voltage and rate that a command write issues, in 10 µV and 0.01 V/ms (R97). -/
def commandOf (c : WriteCall) (d : Dev) : Int × Nat :=
  let j := railOfIdx c.idx
  if c.sub = 0x02 then (100 * num d (railIdx j 2) (c.nat + 1), nat d (railIdx j 3) (c.nat + 1)) else (100 * c.num, nat d c.idx 0x04)
/-- Whether a rail's episode, or its state, keeps it from commands (R97, R113). -/
def railBusy (j : Fin 12) (d : Dev) : Bool :=
  let r := d.rail[j]
  !(r.state == .free || r.state == .live) || r.episode != .none
/-- A voltage command (R97, R98). -/
def commandHandler : Handler where
  checks c d :=
    let j := railOfIdx c.idx
    let v := (commandOf c d).1
    underSession c d ++ failing (railBusy j d) 5 0x24000015 ++ failing (d.rail[j]).currentMode 5 0x24000014
      ++ failing (c.sub == 0x02 && v == 0) 5 0x24000012
      ++ failing (decide (v < 15000000 ∨ vCeil j d < v) && !(c.sub == 0x02 && v == 0)) 6 0x24000011
  act c d :=
    let j := railOfIdx c.idx
    let (v, rate) := commandOf c d
    let d := plainAct c d
    if (d.rail[j]).state = .free then onRail j (fun r => { r with t := v, rate := rate }) d
    else
      let d := if (d.rail[j]).command.isSome then bump (railIdx j 0) 0x0F d else d
      onRail j (fun r => { r with command := some (v, rate) }) d
/-- The current target, within the outlet maximum. -/
def currentTargetHandler : Handler where
  checks c d := underSession c d ++ failing (decide (num d (outIdx (railOfIdx c.idx) 1) 0x02 < |c.num|)) 6 0x24000011
  act := plainAct
/-- The direct rate, the current limit and the ratiometric settings. -/
def railOwnHandler : Handler where
  checks c d := underSession c d
  act := plainAct
/-- The mode request (R95). -/
def modeHandler : Handler where
  checks c d := underSession c d ++ failing ((d.rail[railOfIdx c.idx]).episode != .none) 5 0x24000015
  act c d := onRail (railOfIdx c.idx) (fun r => { r with modeAsked := some (c.nat == 1) }) (plainAct c d)
/-- The start command (R105). -/
def railStartHandler : Handler where
  checks c d := underSession c d ++ (match startRefusal (railOfIdx c.idx) d with
    | some e => failing true 5 e
    | none => [])
  act c d := beginStart (railOfIdx c.idx) d
/-- The stop command (R111). -/
def railStopHandler : Handler where
  checks c d :=
    let j := railOfIdx c.idx
    underSession c d ++ failing (!((d.rail[j]).state == .live || (d.rail[j]).state == .precharging) || (d.rail[j]).episode == .stop) 5 0x24000015
  act c d := beginStop (railOfIdx c.idx) d
/-- Whether a rail may be isolated, or restored (Table 4.4). -/
def mayIsolate (j : Fin 12) (d : Dev) : Bool :=
  (d.rail[j]).state == .free && !tieClosed j d && !tieClosed (shift j (-1)) d && !outletClosed j d
    && (match measured j d with | some v => decide (v ≤ dischargeLevel j d) | none => false)
def mayRestore (j : Fin 12) (d : Dev) : Bool :=
  (d.rail[j]).state == .isolated && railFitted j d
    && (match (d.rail[j]).validSince with | some t => decide (t + ms 100 ≤ d.time.now) | none => false)
    && (match measured j d with | some v => decide (v ≤ dischargeLevel j d) | none => false)
/-- The isolation command. -/
def railIsolationHandler : Handler where
  checks c d :=
    let j := railOfIdx c.idx
    failing (!(if c.nat = 2 then mayRestore j d else mayIsolate j d)) 5 0x24000015
  act c d :=
    let j := railOfIdx c.idx
    if c.nat = 2 then onRail j (fun r => { r with state := .free, isoCause := .none }) d else isolate j .command none d
/-- The member mask (R116). -/
def maskHandler : Handler where
  checks c d := underSession c d ++ failing (decide (0x1000 ≤ c.nat)) 6 0x24000019
  act := plainAct
/-- A ratiometric command (R103, R107, R109). -/
def ratioHandler : Handler where
  checks c d :=
    let j := railOfIdx c.idx
    let m : Vector Bool 12 := tab (fun i => bit (nat d c.idx 0x01) i.val)
    let same (i : Fin 12) : Bool := match (d.rail[i]).leader, d.ratio[j] with
      | some l, some q => l == j && q.mask == m && !q.stop
      | _, _ => false
    let bad (f : Fin 12 → Bool) : Bool := (maskRails m).any f
    underSession c d
      ++ failing (bad (fun i => let r := d.rail[i]
          r.episode == .stop || !(r.state == .free || ((r.state == .live || r.state == .precharging) && governs i d)))) 5 0x24000015
      ++ failing (!m[j] || bad (fun i => (d.rail[i]).episode != .none && (d.rail[i]).episode != .stop && !same i)) 5 0x24000016
      ++ failing (bad (fun i => !hasLegs i d)) 5 0x24000018
  act c d :=
    let m : Vector Bool 12 := tab (fun i => bit (nat d c.idx 0x01) i.val)
    beginRatio (railOfIdx c.idx) m (100 * num d c.idx 0x02) (nat d c.idx 0x03) false d

/-! The loop engine (R127, R134 to R146). -/

/-- Whether a class is running (R127). -/
def classRuns (cls : SlotClass) (d : Dev) : Bool := match cls with
  | 0 | 1 => (all 12).any (fun j => (d.rail[j]).state != .free && (d.rail[j]).state != .isolated)
  | 2 => (all 12).any (fun x => axisEnabled x d)
  | 3 => (all 16).any (fun w => loopEnabled w d)
/-- The full scale of a converted coefficient and its value in engineering units (Table 5.3), for a value of its entry; the
legs' gains stand apart. -/
def coefScale (idx sub : Nat) (v : DVal) : Option (Rat × Rat) :=
  if idx = 0x2610 ∧ sub = 3 then some (1, bfpVal v)
  else if 0x2620 ≤ idx ∧ idx ≤ 0x262B then match sub with
    | 1 | 5 => some (1024, bfpVal v)
    | 2 => some (16, bfpVal v)
    | 3 => some (131072, intOf v)
    | 4 => some (1, bfpVal v)
    | 6 => some (4096, (intOf v : Rat) / 10)
    | _ => none
  else if 0x2640 ≤ idx ∧ idx ≤ 0x264B then match sub with
    | 1 => some (8192, bfpVal v)
    | 2 => some (1 / 64, bfpVal v)
    | 3 | 5 => some (1 / 512, bfpVal v)
    | 4 => some (2, bfpVal v)
    | _ => none
  else if 0x2650 ≤ idx ∧ idx ≤ 0x265F then match sub with
    | 4 => some (16, bfpVal v)
    | 5 => some (1, bfpVal v)
    | _ => none
  else none
/-- The class of an index. -/
def classOfIdx (idx : Nat) : SlotClass := if idx < 0x2620 then 0 else if idx < 0x2640 then 1 else if idx < 0x2650 then 2 else 3
/-- Whether an entry's value converts to a format (R127). -/
def coefOk (bfp : Bool) (idx sub : Nat) (v : DVal) (d : Dev) : Bool :=
  if idx = 0x2610 ∧ sub ≤ 2 then
    legGainsOk bfp (bfpVal (if sub = 1 then v else getVal d (key 0x2610 1))) (bfpVal (if sub = 2 then v else getVal d (key 0x2610 2)))
      (inductance d)
  else match coefScale idx sub v with
    | some (fs, q) => representable bfp fs q
    | none => true
/-- The coefficient entries of a class. -/
def classCoefs (cls : SlotClass) : List (Nat × Nat) := match cls with
  | 0 => [(0x2610, 1), (0x2610, 3)]
  | 1 => (List.range 12).flatMap (fun j => (List.range 6).map (fun s => (0x2620 + j, s + 1)))
  | 2 => (List.range 12).flatMap (fun x => (List.range 5).map (fun s => (0x2640 + x, s + 1)))
  | 3 => (List.range 16).flatMap (fun w => [(0x2650 + w, 4), (0x2650 + w, 5)])
/-- The integrators that a class at rest still holds, those of the thermal loops, keep their values in the format it takes (DESIGN CHOICE,
log 199). -/
def reformat (cls : SlotClass) (bfp : Bool) (d : Dev) : Dev :=
  if cls ≠ 3 then d else
  { d with eng := { d.eng with thermal := d.eng.thermal.map (fun x => { x with
      xt := (stageOne ⟨bfp, 1⟩ (fixVal (scaleOf 3 1 d) x.xt) 0).1 }) } }
/-- A class format (R127). -/
def formatHandler : Handler where
  checks c d :=
    let cls : SlotClass := ⟨(c.sub - 7) % 4, by omega⟩
    failing (classRuns cls d) 5 0x26000010
      ++ failing (!(classCoefs cls).all (fun e => coefOk (c.nat == 1) e.1 e.2 (getVal d (key e.1 e.2)) d)) 6 0x26000012
  act c d := plainAct c (reformat ⟨(c.sub - 7) % 4, by omega⟩ (c.nat == 1) d)
/-- A coefficient (R127). -/
def coefHandler : Handler where
  checks c d := failing (!coefOk (classBfp (classOfIdx c.idx) d) c.idx c.sub c.val d) 6 0x26000012
  act := plainAct

/-- A following-error reset (R140). -/
def followResetHandler : Handler where
  checks c d :=
    let x : Fin 12 := objAt 12 (by omega) c.idx 0x2640 1
    failing (axisEnabled x d || decide (num d (axisIdx x) 0x07 < |(d.eng.axis[x]).error|)) 5 0x26000015
  act c d := onAxis (objAt 12 (by omega) c.idx 0x2640 1) (fun a => { a with flag := false, follow := 0 }) d

/-- The thermal loop of an index. -/
def loopOfIdx (idx : Nat) : Fin 16 := objAt 16 (by omega) idx 0x2650 1
/-- A thermal loop's source (Table 5.10). -/
def thermalSourceHandler : Handler where
  checks c _ :=
    let i := c.nat % 256
    let ok : Bool := match c.nat / 256 with
      | 0 => true
      | 1 => decide (i < 16)
      | 2 => decide (i < 24)
      | 3 => decide (i < 96)
      | _ => false
    failing (decide ((loopOfIdx c.idx).val < 12)) 3 0x26000019 ++ failing (!ok) 6 0x26000011
  act := plainAct
/-- A thermal loop's output channel. -/
def thermalOutputHandler : Handler where
  checks c d :=
    failing (decide ((loopOfIdx c.idx).val < 12)) 3 0x26000019 ++ failing (channelTaken c.nat (some c.idx) d) 4 0x2600001A
  act c d :=
    let old := nat d c.idx c.sub
    let d := plainAct c d
    if old ≠ c.nat then releaseChannel old d else d
/-- A thermal loop's duty bounds. -/
def thermalDutyHandler : Handler where
  checks c d :=
    let lo := if c.sub = 7 then c.num else num d c.idx 7
    let hi := if c.sub = 8 then c.num else num d c.idx 8
    failing (decide (hi < lo)) 6 0x26000011
  act := plainAct

/-- The generator of an index. -/
def genOfIdx (idx : Nat) : Fin 28 := objAt 28 (by omega) idx 0x2680 1
/-- A generator's limits, in force at its next update (R147). -/
def genLimitHandler : Handler where
  act c d := onGen (genOfIdx c.idx) (fun x => { x with replan := true }) (plainAct c d)
/-- The host's use of a general generator by its binding (Table 5.5). -/
def hostUser (g : Fin 28) (d : Dev) : GenUser := if nat d (genIdx g) 0x0C = 0xFF then .hostFree else .hostThermal
/-- Whether a host holds a generator. -/
def hostHeld (g : Fin 28) (d : Dev) : Bool := (d.eng.gen[g]).user == .hostFree || (d.eng.gen[g]).user == .hostThermal
/-- A generator's target (R134, R137): an axis moves; a general generator is the host's from then on. -/
def genTargetHandler : Handler where
  checks c d :=
    let u := (d.eng.gen[genOfIdx c.idx]).user
    failing (u == .outlet || u == .allocator || decide (c.idx < 0x268C)) 4 0x26000013
  act c d :=
    let g := genOfIdx c.idx
    let d := plainAct c d
    if g.val < 24 then genTarget g c.num d
    else
      let d := onGen g (fun x => { x with user := hostUser g d }) d
      if nat d c.idx 0x0E = 0xFF then genTarget g c.num d else d
/-- The settings of a host-held general generator. -/
def genHostHandler : Handler where
  checks c d := failing (!hostHeld (genOfIdx c.idx) d) 4 0x26000013
  act c d :=
    let g := genOfIdx c.idx
    let d := plainAct c d
    if c.sub = 0x0C then onGen g (fun x => { x with user := hostUser g d }) d else d
/-- A general generator's start (R141). -/
def genStartHandler : Handler where
  checks c d :=
    let g := genOfIdx c.idx
    let t := nat d c.idx 0x0E
    let taken : Bool := if h : t < 4 then (match d.eng.timer[t] with | some o => o != g.val | none => false) else false
    failing (!hostHeld g d) 4 0x26000013 ++ failing taken 4 0x26000014
  act c d := generatorStart (genOfIdx c.idx) d

/-- The injection channel of an index. -/
def injOfIdx (idx : Nat) : Fin 2 := objAt 2 (by omega) idx 0x2700 16
/-- The settings of an injection channel, while it is idle. -/
def injSetHandler : Handler where
  checks c d :=
    let i := c.nat % 256
    let ok : Bool := match c.nat / 256 with
      | 0 => i == 0
      | 1 => decide (i < 96)
      | 2 => decide (i < 12)
      | 3 => decide (i < 12)
      | 4 => decide (i < 16)
      | _ => false
    failing (injRunning (injOfIdx c.idx) d) 5 0x26000016 ++ failing ((c.idx == 0x2700 || c.idx == 0x2710) && c.sub == 1 && !ok) 6 0x26000011
  act := plainAct
/-- Whether the target of a channel is in test condition (R142). -/
def injTargetOk (c : Fin 2) (d : Dev) : Bool :=
  let i := injIndex c d
  let rail (j : Fin 12) : Bool := (d.out[j]).state == .outOfService && hostSource j d
  match injClass c d with
  | 1 => rail (railOf (brickOf (Fin.ofNat 96 i)))
  | 2 => rail (Fin.ofNat 12 i)
  | 3 => let x : Fin 12 := Fin.ofNat 12 i
    axisEnabled x d && (d.out[Config.unitOutlet (axisUnit x)]).state == .outOfService
  | 4 => true
  | _ => false
/-- The highest frequency of a target in mHz: 0.4 of its sample rate (R142). -/
def injTop (cls : Nat) : Nat := if cls = 3 then 5000000 else if cls = 4 then 400000 else 40000000
/-- The start of an injection (R142). -/
def injStartHandler : Handler where
  checks c d :=
    let n := injOfIdx c.idx
    let fs := injFreqs n d
    let used := if injEntry n 0x03 d = 1 then injEntry n 0x05 d :: injEntry n 0x06 d :: fs else fs
    let top := injTop (injClass n d)
    let timer : Bool := (d.eng.timer[(Fin.ofNat 4 (injEntry n 0x0F d) : Fin 4)]).isSome
    failing timer 4 0x26000014 ++ failing (captures n d && d.dma.capState != .free) 4 0x18000015
      ++ failing (injRunning n d) 5 0x26000016 ++ failing (!injTargetOk n d) 5 0x26000015
      ++ failing (used.any (fun f => decide (top < f ∨ f < 1000))) 6 0x26000017
      ++ failing (fs == [] || !(fs.zip (fs.drop 1)).all (fun p => decide (p.1 < p.2))) 6 0x2600001B
      ++ failing (captures n d && !captureFits n d) 6 0x26000018
  act c d := injBegin (injOfIdx c.idx) c.session d
/-- The stop of an injection (R145). -/
def injStopHandler : Handler where act c d := injAbort (injOfIdx c.idx) 1 d

/-! The ring's commands and the allocator (R47, R57, R152, R177, R178). -/

/-- The contactor test (R57): one contactor toggled through the interlock. -/
def testToggle (x : ContactorId) (d : Dev) : Dev := askContactor x (!(contactor x d).cmd) d
def contactorTestHandler : Handler where
  checks c d :=
    let refused : Bool := match contactorNamed c.nat with
      | some x => (refusal outletPermit x (testToggle x d)).isSome
      | none => false
    failing (!allOutOfService d) 5 0x28000010 ++ failing refused 5 0x28000011 ++ failing (contactorNamed c.nat).isNone 6 0x28000014
  act c d := match contactorNamed c.nat with
    | some x => judge outletPermit x (testToggle x d)
    | none => d
/-- Whether a contactor's contacts agree with its command. -/
def contactsAgree (x : ContactorId) (d : Dev) : Bool := contactsReport x (contactor x d).cmd d
/-- The clear of a frozen tie (R47). -/
def clearTieHandler : Handler where
  checks c d := failing (let x := ContactorId.tie (Fin.ofNat 12 c.nat); (contactor x d).frozen && !contactsAgree x d) 5 0x28000016
  act c d := onContactor (.tie (Fin.ofNat 12 c.nat)) (fun k => { k with frozen := false }) d
/-- The clear of a contactor's travel fault (R47): not while a contact of it, the outlet's feedback contact among them, reports it closed. -/
def clearFaultHandler : Handler where
  checks c d := match contactorNamed c.nat with
    | some (.tie _) | none => failing true 6 0x28000014
    | some x => failing ((contactor x d).travelFault && countsClosed x d) 5 0x28000016
  act c d := match contactorNamed c.nat with
    | some x => onContactor x (fun k => { k with travelFault := false }) d
    | none => d
/-- A mask of ties or rails (R56, R58). -/
def ringMaskHandler : Handler where
  checks c d := failing (!ringIdle d) 5 0x28000010 ++ failing (decide (0x1000 ≤ c.nat)) 6 0x28000012
  act c d := isolateUnfitted (plainAct c d)
/-- A grid limit, which puts both limits in force for the lifetime, or the lifetime itself (R152). -/
def gridLimitHandler : Handler where
  act c d := if c.sub = 0x03 then plainAct c d else gridWrite (plainAct c d)
/-- The layout hold and the replan command need the allocator (R178). -/
def allocatorRestarts (d : Dev) : List (Nat × Nat) := failing d.ring.restart 5 0x28000013
def layoutHoldHandler : Handler where
  checks _ d := allocatorRestarts d
  act := plainAct
def replanHandler : Handler where
  checks _ d := allocatorRestarts d
  act _ d := replan d

end Sys2Proof.Machine
end

