-- ==== Sys2Proof/Machine/HandlersField.lean ====
section
/-! DEFINITION. What the chapters on outlets, metrology, safety and load channels say of a write to their entries; and the
handler and the range code of every entry. -/
namespace Sys2Proof.Machine

/-! Outlets, vehicles and cooling (R179 to R209). -/

/-- The outlet of an index of a table of outlets. -/
def outOfIdx (idx base : Nat) : Fin 12 := objAt 12 (by omega) idx base 16
def outletOfIdx (idx base : Nat) : Fin 12 := objAt 12 (by omega) idx base 1
/-- An outlet's greatest power in W if a configuration write is taken. -/
def powerWith (k : Fin 12) (c : WriteCall) (d : Dev) (j : Fin 12) : Rat :=
  if j ≠ k then maxPower j d else
  let v (sub : Nat) : Int := if c.sub = sub then c.num else num d c.idx sub
  (v 0x02 * v 0x03 : Int) / 10000
/-- Whether the limits of the outlet's type hold (Table 7.1). -/
def typeHolds (c : WriteCall) (d : Dev) : Bool :=
  let v (sub : Nat) : Int := if c.sub = sub then c.num else num d c.idx sub
  if v 0x01 = 1 then decide (v 0x02 ≤ 30000 ∧ v 0x03 ≤ 1250000) else decide (v 0x02 ≤ 5000 ∧ v 0x03 ≤ 1000000)
/-- Whether another outlet has the head node. -/
def headTaken (k : Fin 12) (n : Int) (d : Dev) : Bool := n != 0xFF && (all 12).any (fun j => j != k && num d (outIdx j 1) 0x05 == n)
/-- The configuration of an outlet (R179, R180, R237). -/
def outletConfigHandler : Handler where
  checks c d :=
    let k := outOfIdx c.idx 0x3000
    failing (c.sub == 0x05 && headTaken k c.num d) 4 0x30000013 ++ failing ((d.out[k]).state != .outOfService) 5 0x30000010
      ++ failing (c.sub == 0x08 && decide (768 ≤ c.nat)) 6 0x30000011
      ++ failing (decide (c.sub ≤ 3) && !typeHolds c d) 6 0x30000014
      ++ failing ((c.sub == 2 || c.sub == 3) && !pulsesHold (powerWith k c d) d) 6 0x38000013
  act := plainAct
/-- The insulation levels (R209). -/
def insulationHandler : Handler where
  checks c d :=
    let warn := if c.sub = 0x04 then c.num else num d c.idx 0x04
    let fault := if c.sub = 0x05 then c.num else num d c.idx 0x05
    failing (decide (warn ≤ fault)) 6 0x30000011
  act := plainAct
/-- The stop command: HANDSHAKE to RETURNING. -/
def outletStopHandler : Handler where
  checks c d :=
    let x := outCode (d.out[outOfIdx c.idx 0x3000]).state
    failing (!(2 ≤ x && x ≤ 6)) 5 0x30000012
  act c d := raiseCause (outOfIdx c.idx 0x3000) 2 d
/-- The event of the service command. -/
def serviceEvent (x : Nat) : OutEvent := if x = 2 then .toService else .outOfService
/-- The service command (Table 7.4). -/
def outletServiceHandler : Handler where
  checks c d :=
    failing (!eventHolds (outOfIdx c.idx 0x3000) d (serviceEvent c.nat)) 5 0x30000012
  act c d := raiseEvent (outOfIdx c.idx 0x3000) (serviceEvent c.nat) d
/-- The fault reset command (Table 7.4, R209). -/
def outletResetHandler : Handler where
  checks c d :=
    let k := outOfIdx c.idx 0x3000
    failing (!mayReset k d) 5 0x30000012 ++ failing (faultPresent k d) 5 0x30000015
  act c d := raiseEvent (outOfIdx c.idx 0x3000) .reset d
/-- The protocol priority: three codes of 0x30k0.04. -/
def priorityHandler : Handler where
  checks c _ := failing ([0, 4, 8].any (fun b => decide (3 < field c.nat b 4))) 6 0x31000010
  act := plainAct
/-- The authorization result (R191). -/
def authorizationHandler : Handler where
  checks c d := failing (d.vehicle[outletOfIdx c.idx 0x3120]).pendingSince.isNone 5 0x31000011
  act c d := authorize (outletOfIdx c.idx 0x3120) c.nat d
/-- The pump channel (R204, R300). -/
def pumpHandler : Handler where
  checks c d :=
    failing (channelTaken c.nat (some c.idx) d) 4 0x32000010 ++ failing (decide (c.nat < 32)) 6 0x32000011
  act c d :=
    let old := nat d c.idx c.sub
    let d := plainAct c d
    if old ≠ c.nat then releaseChannel old d else d
/-- The derating and trip temperatures (R209). -/
def pinTempHandler : Handler where
  checks c d := failing (!tempOrder 0x04 c d) 6 0x32000012
  act := plainAct

/-! Metrology (R217, R237, R244). -/

/-- The conditions of a seal-relevant write, with their steps. -/
def sealSteps (idx : Nat) (d : Dev) : List (Nat × Nat) := (sealChecks idx d).map (fun e => (if e = 0x38000014 then 5 else 3, e))
/-- A seal-relevant entry of an outlet. -/
def sealHandler : Handler where
  checks c d := sealSteps c.idx d
  act c d := plainAct c (sealed 1 c.session c.idx c.sub c.val d)
/-- A pulse output (R236, R237, R240): those of SO1 to SO4 are seal-relevant. -/
def pulseHandler : Handler where
  checks c d :=
    let so := decide (c.idx < 0x3858)
    let p : Fin 8 := Fin.ofNat 8 (if so then c.idx - 0x3850 else c.idx - 0x3854)
    let v (sub : Nat) : Nat := if c.sub = sub then c.nat else nat d c.idx sub
    (if so then sealSteps c.idx d else []) ++ failing (!pulseBound p (v 0x01) (v 0x03) (v 0x04) (fun k => maxPower k d)) 6 0x38000013
  act c d := plainAct c (if c.idx < 0x3858 then sealed 1 c.session c.idx c.sub c.val d else d)
/-- The pair command (R217). -/
def pairHandler : Handler where
  checks c d :=
    let x := d.metro.meter[outletOfIdx c.idx 0x3830]
    sealSteps c.idx d ++ failing (!x.link || rateFault x) 5 0x38000015
  act c d := pairHead (outletOfIdx c.idx 0x3830) c.session d
/-- The metrology window (R244). -/
def windowHandler : Handler where
  checks c d := if c.nat ≠ 1 then [] else
    failing (c.session != 5) 3 0x38000017 ++ failing (!(lifeOf d == 2 || lifeOf d == 3)) 3 0x38000016
      ++ failing (d.metro.window.isNone && decide (960 ≤ auditUsed d)) 3 0x38000012
  act c d := if c.nat = 1 then openWindow c.session d else shutWindow c.session d

/-! Safety (R287 to R293). -/

/-- A locked island takes no write (R293). -/
def lockGuard (d : Dev) : List (Nat × Nat) := failing (safetyLocked d) 3 0x4000001B
/-- A locked island takes a transaction only where its commit leads to START: its lock cause is "configuration invalid" alone (Table 9.2, R293). -/
def lockedFast (d : Dev) : List (Nat × Nat) := failing (safetyLocked d && nat d 0x4000 0x02 != 4) 3 0x4000001B
/-- An entry that a locked island refuses and nothing else governs. -/
def lockedHandler : Handler where
  checks _ d := lockGuard d
  act := plainAct
/-- The expected CRC belongs to a transaction (R291). -/
def expectedCrcHandler : Handler where
  checks _ d := lockedFast d
  act := plainAct
/-- The password (R287, R290). -/
def passwordHandler : Handler where
  checks c d :=
    failing d.safety.password.isNone 3 0x40000015 ++ failing d.safety.lockedOut.isSome 3 0x40000013
      ++ failing (d.safety.lockedOut.isNone && d.safety.password.isSome && !passwordRight c.bytes d) 3 0x40000012
  act c d := writePassword c.session c.bytes d
  refused c code d :=
    if code = 0x40000012 then writePassword c.session c.bytes d
    else if code = 0x40000013 ∨ code = 0x40000015 then safetyLogSame 6 c.session d else d
/-- Whether the session is connected over CAN FD. -/
def overCan (session : Nat) (d : Dev) : Bool := match slotOf session with
  | some n => (match (d.site.sessions[n]).conn with
    | some (.can _ _) => true
    | _ => false)
  | none => false
/-- The conditions of a commit (R287, R289, R291, R405). -/
def commitChecks (session : Nat) (d : Dev) : List (Nat × Nat) := match d.safety.trans with
  | none => failing true 3 0x40000010
  | some t =>
    failing (t.owner != session) 3 0x40000014 ++ failing (d.safety.password.isNone && t.newPassword.isNone) 3 0x40000015
      ++ failing (nat d 0x4060 0x03 != pendingCrc d) 3 0x40000016 ++ failing (decide (2 < eaveConnections t d)) 6 0x40000011
/-- The conditions of an opening (R287). -/
def openChecks (session : Nat) (d : Dev) : List (Nat × Nat) :=
  let mine : Bool := match d.safety.trans with
    | some t => t.owner == session
    | none => false
  failing (d.safety.trans.isSome && !mine) 3 0x40000014 ++ failing (overCan session d) 3 0x40000018
    ++ failing (d.safety.password.isNone && session != 5) 3 0x40000017
    ++ failing (d.safety.password.isSome && !mine && !passwordHeld session d) 3 0x40000012
/-- Whether a commit is being carried out (R291). -/
def committing (d : Dev) : Bool := match d.safety.trans with
  | some t => t.committing
  | none => false
/-- The transaction command: 1 open, 2 commit, 3 abort. -/
def transactionHandler : Handler where
  checks c d :=
    lockedFast d ++ if committing d then failing true 5 0x40000008
    else match c.nat with
      | 1 => openChecks c.session d
      | 2 => commitChecks c.session d
      | _ => (match d.safety.trans with
        | none => failing true 3 0x40000010
        | some t => failing (t.owner != c.session) 3 0x40000014)
  act c d := match c.nat with
    | 1 => if d.safety.trans.isSome then d else openTrans c.session d
    | 2 => commitTrans c.session d
    | _ => endTrans 3 c.session d
/-- The restart command (Table 9.2). -/
def restartHandler : Handler where
  checks c d := failing d.safety.lockedOut.isSome 3 0x40000013 ++ failing (!passwordHeld c.session d) 3 0x40000012
  act c d := restartSafety c.session d
/-- The output of a fault reset: outlets, then units U1 to U4. -/
def resetOutput (c : WriteCall) : Fin 16 := if c.sub = 1 then Fin.ofNat 16 (c.nat % 12) else Fin.ofNat 16 (12 + c.nat % 4)
/-- A fault reset of the safety island (Table 9.14). -/
def safetyResetHandler : Handler where
  checks c d := lockGuard d ++ failing (!resetAllowed (resetOutput c) d) 5 0x4000001A
  act c d := resetFaults (resetOutput c) d
/-- Whether text is printable ASCII. -/
def printable (b : List Byte) : Bool := b.all (fun x => 0x20 ≤ x.toNat && x.toNat ≤ 0x7E)
/-- A SAFE entry (R283, R288, R289). -/
def safeHandler : Handler where
  checks c d := lockedFast d ++ match d.safety.trans with
    | none => failing true 3 0x40000010
    | some t =>
      failing t.committing 3 0x40000010 ++ failing (t.owner != c.session) 3 0x40000014
        ++ failing (0x4040 ≤ c.idx && decide (c.idx ≤ 0x4057) && c.sub == 0x04 && identityTaken c.key c.num t d) 6 0x4000001C
        ++ failing (c.idx == 0x4060 && !printable c.bytes) 6 0x40000011
  act c d := safeWrite c.key c.val d

/-! Load channels (R296, R299, R305, R311 to R314). -/

/-- The channel of a sub-index. -/
def chanOfSub (sub : Nat) : Fin 64 := Fin.ofNat 64 (sub - 1)
/-- A command or a duty (R296, R299). -/
def loadCommandHandler : Handler where
  checks c d :=
    let n := chanOfSub c.sub
    failing (channelTaken n.val none d) 4 0x44000012
      ++ failing (c.idx == 0x4411 && !pwmCapable n && c.num != 32767) 6 0x44000011
  act := plainAct
/-- A PWM frequency. -/
def pwmHandler : Handler where
  checks c _ := failing (!pwmCapable (chanOfSub c.sub)) 5 0x44000011
  act := plainAct
/-- The clear command (Table 10.3, R305). -/
def clearHandler : Handler where
  checks c d := let x := d.load.chan[chanOfSub c.sub]; failing (x.state == .latched && decide (1300 ≤ x.junction)) 5 0x44000015
  act c d := clearChannel (chanOfSub c.sub) d
/-- The external select permit (R311, R312). -/
def permitHandler : Handler where
  checks c d := failing (c.nat == 1 && nat d 0x4400 0x05 != 0xFF) 5 0x44000017
  act c d := staleReadings (plainAct c d)
/-- The forced select (R312). -/
def forcedHandler : Handler where
  checks c d := failing (c.nat != 0xFF && extselHonoured d) 5 0x44000016
  act c d := staleReadings (plainAct c d)
/-- The limp-home map (R313, R314). -/
def limpMapHandler : Handler where
  checks c d :=
    failing (c.nat != 0xFF && bit (nat d 0x4432 0x01) (c.sub - 1)) 4 0x44000013
      ++ failing (c.nat != 0xFF && (List.range 8).any (fun p => p + 1 != c.sub && nat d 0x4430 (p + 1) == c.nat)) 4 0x44000014
  act := plainAct
/-- The general input enable (R314). -/
def generalInputHandler : Handler where
  checks c d := failing ((List.range 8).any (fun p => bit c.nat p && nat d 0x4430 (p + 1) != 0xFF)) 4 0x44000013
  act := plainAct

/-! The handler of every entry. -/

def handlerSite (idx sub : Nat) : Handler :=
  if idx = 0x1200 ∧ sub = 0x01 then nodeIdHandler else if idx = 0x1200 ∧ sub = 0x04 then reClaimHandler
  else if idx = 0x1201 ∨ idx = 0x1202 then (if sub = 0x01 then canEnableHandler else canTimingHandler)
  else if idx = 0x1203 ∨ idx = 0x1204 then filterHandler
  else if idx = 0x1420 ∧ sub = 0x01 then ptpEnableHandler else if idx = 0x1420 ∧ sub = 0x0B then wallClockHandler
  else if idx = 0x1300 ∧ sub = 0x0C then removeNodeHandler
  else if 0x1310 ≤ idx ∧ idx < 0x1320 ∧ sub = 0x01 then expectedSerialHandler
  else if 0x1310 ≤ idx ∧ idx < 0x1320 ∧ sub = 0x02 then expectedPhaseHandler
  else if 0x1810 ≤ idx ∧ idx < 0x1820 then (if sub = 0x04 then dmaControlHandler else dmaRegisterHandler)
  else if 0x1840 ≤ idx ∧ idx < 0x1844 then descriptorHandler
  else if idx = 0x1880 ∧ sub = 0x03 then captureClaimHandler else if idx = 0x1880 ∧ sub = 0x04 then captureReleaseHandler
  else if idx = 0x1900 ∧ sub = 0x01 then triggerHandler
  else if idx = 0x1C00 then (if sub = 0x01 then pairModeHandler else if sub = 0x02 then rankHandler
    else if sub = 0x0C then swapHandler else plainHandler)
  else if idx = 0x1A00 then (if sub = 0x03 then armHandler else if sub = 0x04 then transitionHandler else plainHandler)
  else if idx = 0x1A11 then administratorHandler
  else if 0x1A20 ≤ idx ∧ idx ≤ 0x1A26 then publicItemHandler
  else if 0x1A40 ≤ idx ∧ idx < 0x1A80 then (if sub = 0x03 then keyValueHandler else if sub = 0x04 then keyGenerateHandler
    else if sub = 0x07 then keyDeleteHandler else keyTypeHandler)
  else if 0x1B10 ≤ idx ∧ idx < 0x1B15 then (if sub = 0x01 then imageStageHandler else if sub = 0x0A then discardHandler else fallBackHandler)
  else if idx = 0x1B20 then activateHandler
  else if idx = 0x1B40 then (if sub = 0x01 then commitHandler else if sub = 0x04 then restoreHandler else plainHandler)
  else plainHandler

def handlerPower (idx sub : Nat) : Handler :=
  if idx < 0x2100 then match sub with
    | 0x01 => legEnableHandler
    | 0x02 => inductanceHandler
    | 0x04 | 0x05 | 0x06 => legTempHandler
    | 0x07 => legResetHandler
    | _ => plainHandler
  else if idx < 0x2200 then (if sub = 0x20 then legCaptureHandler else plainHandler)
  else if idx < 0x2300 then match sub with
    | 0x01 => ringConfigHandler
    | 0x02 => isolationHandler
    | 0x26 => brickCaptureHandler
    | _ => plainHandler
  else if idx < 0x2400 then
    if idx = 0x2301 ∧ sub ≤ 0x05 then cardParamHandler
    else if (idx = 0x2310 ∧ 2 ≤ sub ∧ sub ≤ 4) ∨ (0x2311 ≤ idx ∧ idx ≤ 0x2313) then shedHandler else plainHandler
  else if idx < 0x2600 then
    let t := idx % 16
    if t = 1 then match sub with
      | 0x01 => sourceHandler
      | 0x02 | 0x03 => commandHandler
      | 0x04 | 0x07 => railOwnHandler
      | 0x05 => currentTargetHandler
      | 0x06 => modeHandler
      | 0x0A => railStartHandler
      | 0x0B => railStopHandler
      | 0x0C => railIsolationHandler
      | _ => plainHandler
    else if t = 5 then match sub with
      | 0x01 => maskHandler
      | 0x02 | 0x03 => railOwnHandler
      | 0x04 => ratioHandler
      | _ => plainHandler
    else plainHandler
  else if idx < 0x2700 then
    if idx = 0x2600 ∧ 7 ≤ sub ∧ sub ≤ 0x0A then formatHandler
    else if idx = 0x2610 ∨ (0x2620 ≤ idx ∧ idx < 0x262C ∧ sub ≤ 6) then coefHandler
    else if 0x2640 ≤ idx ∧ idx < 0x264C then (if sub ≤ 5 then coefHandler else if sub = 0x0C then followResetHandler else plainHandler)
    else if 0x2650 ≤ idx ∧ idx < 0x2660 then match sub with
      | 0x02 => thermalSourceHandler
      | 0x04 | 0x05 => coefHandler
      | 0x06 => thermalOutputHandler
      | 0x07 | 0x08 => thermalDutyHandler
      | _ => plainHandler
    else if 0x2680 ≤ idx ∧ idx < 0x269C then
      if 2 ≤ sub ∧ sub ≤ 5 then genLimitHandler else if sub = 6 then genTargetHandler
      else if sub = 0x0F then genStartHandler else if 0x0B ≤ sub ∧ sub ≤ 0x0E then genHostHandler else plainHandler
    else plainHandler
  else if idx < 0x2800 then
    if idx = 0x2702 ∨ idx = 0x2712 then injSetHandler
    else if idx = 0x2700 ∨ idx = 0x2710 then (if sub ≤ 0x10 then injSetHandler else if sub = 0x11 then injStartHandler
      else if sub = 0x12 then injStopHandler else plainHandler)
    else plainHandler
  else if idx = 0x2802 then ringConfigHandler
  else if idx = 0x2805 then ringMaskHandler
  else if idx = 0x2806 then (if sub = 1 then contactorTestHandler else if sub = 2 then clearTieHandler else clearFaultHandler)
  else if idx = 0x2810 ∧ sub = 0x0D then layoutHoldHandler
  else if idx = 0x2811 ∧ sub ≤ 3 then gridLimitHandler
  else if idx = 0x2817 ∧ sub = 0x0B then replanHandler
  else plainHandler

def handlerField (idx sub : Nat) : Handler :=
  if idx < 0x3100 then
    let t := idx % 16
    if t = 1 then outletConfigHandler
    else if t = 2 then (if sub = 4 ∨ sub = 5 then insulationHandler else plainHandler)
    else if t = 3 then (if sub = 1 then outletStopHandler else if sub = 2 then outletServiceHandler else outletResetHandler)
    else plainHandler
  else if idx = 0x3100 ∧ sub = 1 then priorityHandler
  else if 0x3120 ≤ idx ∧ idx < 0x312C ∧ sub = 1 then authorizationHandler
  else if 0x3200 ≤ idx ∧ idx < 0x32C0 ∧ idx % 16 = 0 then
    if sub = 1 then pumpHandler else if 4 ≤ sub ∧ sub ≤ 6 then pinTempHandler else plainHandler
  else if idx = 0x3800 ∧ sub = 7 then windowHandler
  else if 0x3830 ≤ idx ∧ idx < 0x383C then (if sub = 6 then pairHandler else if sub = 7 then plainHandler else sealHandler)
  else if 0x3850 ≤ idx ∧ idx < 0x385C then pulseHandler
  else if idx = 0x4000 then (if sub = 8 then restartHandler else lockedHandler)
  else if idx = 0x4007 then safetyResetHandler
  else if idx = 0x4060 ∧ sub = 1 then passwordHandler
  else if idx = 0x4060 ∧ sub = 2 then transactionHandler
  else if idx = 0x4060 ∧ sub = 3 then expectedCrcHandler
  else if 0x4000 ≤ idx ∧ idx < 0x4100 then (match rowOf idx sub with
    | some r => if r.acc = .safe then safeHandler else lockedHandler
    | none => lockedHandler)
  else if idx = 0x4410 ∨ idx = 0x4411 then loadCommandHandler
  else if idx = 0x4412 then pwmHandler
  else if idx = 0x4417 then clearHandler
  else if idx = 0x4400 ∧ sub = 4 then permitHandler
  else if idx = 0x4400 ∧ sub = 5 then forcedHandler
  else if idx = 0x4430 then limpMapHandler
  else if idx = 0x4432 then generalInputHandler
  else plainHandler

/-- The handler of an entry. -/
def handlerOf (idx sub : Nat) : Handler :=
  if idx < 0x2000 then handlerSite idx sub else if idx < 0x3000 then handlerPower idx sub else handlerField idx sub

/-- The subject group of an index (R494). -/
def groupCode (idx : Nat) : Nat :=
  let hi := idx / 256
  (if hi = 0x27 then 0x26 else if hi = 0x25 then 0x24 else hi) * 2 ^ 24
/-- The low half of the code for a value out of range, by the high byte of the index (the chapters' code tables). -/
def rangeHalf (idx sub : Nat) (v : DVal) : Nat := match idx / 256 with
  | 0x11 => 0x20
  | 0x1A => if 0x1A40 ≤ idx ∧ sub = 3 then 0x12 else 0x11
  | 0x14 | 0x18 | 0x1B => 0x11
  | 0x1C => 0x13
  | 0x20 => 0x12
  | 0x22 | 0x23 | 0x26 | 0x27 => 0x11
  | 0x24 => if idx % 16 = 5 ∧ sub = 1 then 0x19 else 0x11
  | 0x28 => if idx = 0x2805 then 0x12
    else if idx = 0x2811 ∧ ((sub = 3 ∧ v = .num 0) ∨ sub = 4 ∨ sub = 5) then 0x15 else 0x14
  | 0x30 | 0x32 | 0x38 | 0x40 => 0x11
  | _ => 0x10
/-- The code for a value outside the range of its entry. -/
def rangeCode (idx sub : Nat) (v : DVal) : Nat := groupCode idx + rangeHalf idx sub v

end Sys2Proof.Machine
end

