-- ==== Sys2Proof/Machine/Live.lean ====
section
/-! DEFINITION. What a read of an entry returns (R367, R370): the register file's value, or, for an entry that reports state held
elsewhere in the model, that state. -/
namespace Sys2Proof.Machine

/-- A count as a value. -/
def vNat (n : Nat) : DVal := .num (n : Int)
/-- A flag as a value. -/
def vFlag (b : Bool) : DVal := .num (flag b)
/-- An instant or 0 for none. -/
def vTime (t : Option Nat) : DVal := vNat (t.getD 0)
/-- What is left of a span since an instant, in whole seconds, rounded up. -/
def remaining (t span : Nat) (d : Dev) : Nat := ceilDiv (t + span - d.time.now) (sec 1)

/-! The directory (R497, Table 17.4). -/

/-- The code of a type in the directory. -/
def tyCode : Ty → Nat
  | .bool => 1 | .u8 => 2 | .u16 => 3 | .u32 => 4 | .u64 => 5 | .i16 => 6 | .i32 => 7 | .i64 => 8 | .q15 => 9 | .bfp => 10
  | .str => 11 | .oct => 12 | .time64 => 13
/-- Whether an entry is seal-relevant (R244). -/
def sealRelevant (idx sub : Nat) : Bool :=
  (0x3830 ≤ idx && idx ≤ 0x383B && ([1, 2, 3, 4, 6, 8] : List Nat).contains sub) || (0x3850 ≤ idx && idx ≤ 0x3853 && sub ≤ 4)
/-- Whether an entry is held on the field side (Table 17.1, R504). -/
def fieldHeld (idx sub : Nat) : Bool := islandOf idx sub != 0 && islandOf idx sub != 5
/-- Whether only the lease holder takes writes to an index (R337). -/
def leaseOnly (idx : Nat) : Bool := (0x2000 ≤ idx && idx ≤ 0x32FF) || (0x4400 ≤ idx && idx ≤ 0x44FF)
/-- Whether a write needs the privilege of R449. -/
def privilegedEntry (idx sub : Nat) : Bool :=
  (0x1A20 ≤ idx && idx ≤ 0x1A26) || (0x1A40 ≤ idx && idx ≤ 0x1A7F && sub != 5 && sub != 6) || idx == 0x1A11
    || (0x1B10 ≤ idx && idx ≤ 0x1B14 && sub == 1) || (idx == 0x1B20 && sub == 1)
/-- A directory record. -/
def dirRecord (k : Nat) (r : Row) : List Byte :=
  let idx := k / 256
  let sub := k % 256
  let keepCode : Nat := match r.keep with | .v => 0 | .p => 1 | .f => 2
  let low := (if privilegedEntry idx sub then 2 ^ 12 else 0) + (if leaseOnly idx then 2 ^ 13 else 0) + (if fieldHeld idx sub then 2 ^ 14 else 0)
    + (if sealRelevant idx sub then 2 ^ 15 else 0)
  leBytes 8 (idx * 2 ^ 48 + sub * 2 ^ 40 + tyCode r.ty * 2 ^ 32 + r.acc.ctorIdx * 2 ^ 28 + keepCode * 2 ^ 24
    + (groupOf idx sub).getD 0 * 2 ^ 16 + low)
/-- The directory. -/
def directory : List Byte := allEntries.flatMap (fun e => dirRecord e.1 e.2)

/-! Subscriptions' shares (R26, R354, R383). -/

/-- The bytes that the values of a subscription take. -/
def subBytes (s : Sub) : Nat := s.keys.foldl (fun a k => a + (match rowOf (k / 256) (k % 256) with
  | some r => (tySize r.ty).getD 0
  | none => 0)) 0
/-- The kbit/s that a subscription commits on lane FH: its field-side values with the 15 characters of a message, once a
period in ms; none without a field-side value. -/
def laneShare (period : Nat) (keys : List Nat) : Nat :=
  let l := keys.filter (fun k => fieldHeld (k / 256) (k % 256))
  if l = [] then 0 else ceilDiv (8 * (subBytes ⟨0, 0, l, 0, 0, 0⟩ + 15)) period
/-- The kbit/s that a transfer of capture data or of a snapshot part commits on lane FH: what its fragments can take of the 2000 requests a
second of Table 1.6, each answered by a message of 1039 characters. -/
def transferShare : Nat := 2000 * 8 * 1039 / 1000
/-- Whether a segmented read travels in capture or snapshot fragments (Table 1.6). -/
def bulkRead (k : Nat) : Bool := k == key 0x1880 0x06 || (0x1910 ≤ k / 256 && k / 256 < 0x1918)
/-- The kbit/s committed on lane FH. -/
def laneCommitted (d : Dev) : Nat :=
  d.site.subs.toList.foldl (fun a s => a + (match s with | some x => x.share | none => 0)) 0
    + transferShare * (d.site.sessions.toList.countP (fun x => match x.transfer with
        | some t => !t.write && bulkRead t.key
        | none => false))
/-- The longest duration in ns of a frame with an N-byte CAN payload (R354). -/
def canTime (c : Fin 2) (n : Nat) (d : Dev) : Nat :=
  let per (sub : Nat) : Nat := 1000000 / max 1 (nat d (canIdx c) sub)
  34 * per 0x02 + (ceilDiv (125 * (5 + 8 * n)) 100 + 32) * per 0x03
/-- The millionths of a controller's bus time that a subscription of so many value bytes takes. -/
def canShareOf (c : Fin 2) (period bytes : Nat) (d : Dev) : Nat := ceilDiv (canTime c (canLength (23 + bytes)) d) (max 1 period)
/-- The controller that carries a session. -/
def canOf (session : Nat) (d : Dev) : Option (Fin 2) := match slotOf session with
  | some n => (match (d.site.sessions[n]).conn with
    | some (.can c _) => some c
    | _ => none)
  | none => none
/-- The millionths of a controller's bus time committed to publications. -/
def canCommitted (c : Fin 2) (d : Dev) : Nat := d.site.subs.toList.foldl (fun a s => match s with
  | some x => if canOf x.session d = some c then a + canShareOf c x.period (subBytes x) d else a
  | none => a) 0

/-! The host side. -/

def liveIdentity (idx sub : Nat) (d : Dev) : Option DVal := match idx, sub with
  | 0x1000, 0x03 => some (.oct (ascii (if Config.indicative then "TH-96-I" else "TH-96-L")))
  | 0x1000, 0x04 => some (vFlag Config.indicative)
  | 0x1000, 0x05 => some (vNat Config.serial.toNat)
  | 0x1000, 0x08 => some (vNat (Config.dictionaryVersion (d.sys.img[(0 : Fin 5)]).running).toNat)
  | 0x1000, 0x09 => some (vNat allEntries.length)
  | 0x1001, 0x0A => some (.num (num d 0x1001 0x0A + (((d.time.now - d.time.since) / sec 3600 : Nat) : Int)))
  | 0x1003, 0x01 => some (.oct directory)
  | 0x1040, 0x01 => some (vNat (siteTime d))
  | 0x1040, 0x02 => some (vFlag d.time.onRefIn)
  | 0x1040, 0x06 => some (.num d.time.pairStep)
  | 0x1041, 0x09 => some (vNat (maskOf (fun i : Fin 8 => d.time.holdover[i])))
  | 0x1041, n => some (.num d.time.offset[(Fin.ofNat 8 (n - 1) : Fin 8)])
  | 0x1042, 0x07 => some (vNat d.barrier.host.view.ctorIdx)
  | 0x1042, 0x0A => some (vNat (laneCommitted d))
  | 0x1043, n =>
    let i : Fin 8 := Fin.ofNat 8 (n - 1)
    some (vNat (if i.val = 0 ∨ i.val = 5 then d.isl[i] else d.site.islandSeen[i]).ctorIdx)
  | _, _ => none

def liveServer (idx sub : Nat) (d : Dev) : Option DVal :=
  let s := d.site.sessions[(Fin.ofNat 6 (sub - 1) : Fin 6)]
  match idx, sub with
  | 0x1100, 0x02 => some (vNat (maskOf (fun n : Fin 6 => (d.site.sessions[n]).conn.isSome)))
  | 0x1101, _ => some (vNat (transportOf s.conn))
  | 0x1102, _ => some (.oct s.identity)
  | 0x1103, g => some (vNat (ownerOf g d))
  | 0x1106, 0x01 => some (vNat (d.site.subs.toList.countP Option.isSome))
  | _, _ => none

def liveBus (idx sub : Nat) (d : Dev) : Option DVal :=
  let q := d.site.can[canOfIdx idx]
  let p := d.site.ptp
  match idx, sub with
  | 0x1200, 0x02 => some (vNat (if d.site.addr.state = .held then d.site.addr.id else 0))
  | 0x1200, 0x03 => some (vNat d.site.addr.state.ctorIdx)
  | 0x1201, 0x07 | 0x1202, 0x07 => some (vNat q.bus.ctorIdx)
  | 0x1201, 0x11 | 0x1202, 0x11 => some (vNat (canCommitted (canOfIdx idx) d / 10000))
  | 0x1300, 0x02 => some (vNat (lineState d))
  | 0x1400, 0x01 => some (vNat d.site.ethLink[(0 : Fin 2)])
  | 0x1401, 0x01 => some (vNat d.site.ethLink[(1 : Fin 2)])
  | 0x1410, 0x01 => some (vNat (d.site.tls.toList.countP Option.isSome))
  | 0x1420, 0x05 => some (vNat p.state)
  | 0x1420, 0x06 => some (.num p.offset)
  | 0x1420, 0x07 => some (.num p.rate)
  | 0x1420, 0x08 => some (vNat p.grandmaster)
  | 0x1420, 0x09 => some (vFlag p.synchronised)
  | 0x1420, 0x0B => some (.num (max 0 (wallClock d)))
  | _, _ => if 0x1310 ≤ idx ∧ idx < 0x1320 ∧ sub = 0x0D then some (vNat (stepUpCount (Fin.ofNat 16 (idx - 0x1310)) d)) else none

/-- The DMA channels, capture memory, snapshots and the event log. -/
def liveSample (idx sub : Nat) (d : Dev) : Option DVal :=
  if 0x1810 ≤ idx ∧ idx < 0x1820 then
    let c := d.dma.chan[dmaOfIdx idx]
    match sub with
    | 0x05 => some (vNat c.state.ctorIdx)
    | 0x06 => some (vNat (match c.current with | some n => n.val | none => 0xFFFF))
    | 0x0A => some (vNat c.starter)
    | _ => none
  else if 0x1910 ≤ idx ∧ idx < 0x1918 then
    let x := d.snap.sets[(Fin.ofNat 8 (idx - 0x1910) : Fin 8)]
    if !x.valid then some (.oct [])
    else if sub = 0x01 then some (.oct (setHeader x))
    else let i : Fin 8 := Fin.ofNat 8 (sub - 2); some (.oct (if x.stored[i] then Config.snapshotBytes i x.words[i] else []))
  else match idx, sub with
  | 0x1880, 0x01 => some (vNat d.dma.capState.ctorIdx)
  | 0x1880, 0x02 => some (vNat d.dma.capOwner)
  | 0x1880, 0x05 => some (vNat d.dma.capUsed)
  | 0x1880, 0x06 => some (.oct (captureData d))
  | 0x1900, 0x08 => some (vNat (maskOf (fun s : Fin 8 => (d.snap.sets[s]).valid)))
  | 0x1900, 0x09 => some (vNat (match d.snap.newest with | some n => n.val | none => 0xFF))
  | 0x1920, 0x01 => some (vNat d.log.ring.length)
  | 0x1920, 0x02 => some (vNat d.log.nextSeq)
  | 0x1920, 0x05 => some (.oct ((logEntry (nat d 0x1920 0x04) d).getD []))
  | 0x1920, 0x07 => some (vNat d.log.unflushed)
  | _, _ => none

/-- Keys, images, stores and pairing; an activation or a commit that is carried out shows as running (R370). -/
def liveModule (idx sub : Nat) (d : Dev) : Option DVal :=
  if 0x1A40 ≤ idx ∧ idx < 0x1A80 then
    let k := keyOfIdx idx
    match d.sys.keys.blob[k], sub with
    | some b, 0x01 => some (vNat b.algorithm)
    | some b, 0x02 => some (vNat b.usage)
    | _, 0x06 => some (vNat (keyState k d))
    | _, _ => none
  else if 0x1B10 ≤ idx ∧ idx < 0x1B15 ∧ sub = 0x09 then
    let t := typeOfIdx idx
    some (vNat (if num d (imgIdx t) 0x03 = 1 then remaining (d.sys.img[t]).bootAt (sec 600) d else 0))
  else match idx, sub with
  | 0x1A00, 0x01 => some (vNat d.sys.keys.fieldBank)
  | 0x1B20, 0x01 => if d.sys.act.isSome then some (vNat 1) else none
  | 0x1B40, 0x01 | 0x1B40, 0x04 => if d.sys.store.toList.any (fun x => x.writing.isSome || x.waits) then some (vNat 1) else none
  | 0x1A10, 0x01 => some (vNat (d.sys.keys.slot.toList.countP Option.isSome))
  | 0x1B40, 0x02 => some (vNat (maskOf (fun s : Fin 2 => (d.sys.store[s]).unsaved.isSome)))
  | 0x1C00, 0x03 => some (vNat (roleOf d))
  | 0x1C00, 0x09 => some (vNat (maskOf (fun p : Fin 2 => (d.pair.port[p]).up)))
  | 0x1C00, 0x0A => some (vNat (match d.pair.lastMirror with | some t => min 0xFFFF ((d.time.now - t) / period) | none => 0xFFFF))
  | _, _ => none

/-! The power side. -/

def liveLeg (sub : Nat) (n : Fin 96) (d : Dev) : Option DVal :=
  let l := d.leg[n]
  match sub with
  | 0x01 => some (vNat l.state.ctorIdx)
  | 0x02 => some (vNat l.shedCause.ctorIdx)
  | 0x03 => some (vNat l.cause)
  | 0x04 => some (.num l.current)
  | 0x05 => some (vNat (l.word.toNat / 65536))
  | 0x06 => some (vNat (l.word.toNat / 16 % 4096))
  | 0x07 => some (vNat l.limit)
  | _ => none

/-- The link state of a brick (0x22kk.10). -/
def linkCode (b : Brick) : Nat :=
  if b.link = .lost then 5 else if b.orphan then 4 else if b.holding then 3 else b.link.ctorIdx
def liveBrick (sub : Nat) (k : Fin 24) (d : Dev) : Option DVal :=
  let b := d.brick[k]
  match sub with
  | 0x03 => some (vNat (contactorCode (.brick k) d))
  | 0x04 => some (vNat (maskOf (fun i : Fin 4 => inService d.leg[(Fin.ofNat 96 (4 * k.val + i.val) : Fin 96)])))
  | 0x05 => some (vNat (maskOf (fun i : Fin 3 => (b.aux[i]).deb)))
  | 0x10 => some (vNat (linkCode b))
  | 0x11 => some (vNat b.authority)
  | 0x12 => some (vNat b.epochSeen)
  | 0x13 => some (vNat b.vDc)
  | 0x14 => some (vNat b.vOut)
  | 0x15 => some (vNat b.vRail)
  | 0x16 => some (.num b.iOut)
  | 0x17 => some (.num b.cardTemp)
  | 0x18 => some (.num b.capTemp)
  | 0x19 => some (vNat b.delay[(0 : Fin 2)])
  | 0x1A => some (vNat b.delay[(1 : Fin 2)])
  | _ => none

/-- A rail's status (Table 4.5): a JOINED rail reports the governing rail's set-point (R91), and the current reference is the one that the
profile generator of current mode carries (R94). -/
def liveRail (sub : Nat) (j : Fin 12) (d : Dev) : Option DVal :=
  let r := d.rail[j]
  let g := if r.state = .joined then d.rail[r.governing] else r
  match sub with
  | 0x01 => some (vNat r.state.ctorIdx)
  | 0x02 => some (vFlag r.currentMode)
  | 0x03 => some (vNat r.governing.val)
  | 0x04 => some (.num (match measured j d with | some v => v / 5000 | none => 0xFFFF))
  | 0x05 => some (.num (g.s / 100))
  | 0x06 => some (.num (g.t / 100))
  | 0x07 => some (vNat g.rate)
  | 0x08 => some (.num (if r.currentMode then genReport (d.eng.gen[outletGen j]).p else 0))
  | 0x09 => some (vNat r.episode.ctorIdx)
  | 0x0A => some (.num (match r.leader with
      | some l => (match d.ratio[l] with | some q => (q.x * 65535).floor | none => 0)
      | none => 0))
  | 0x0B => some (vFlag r.inWindow)
  | 0x0C => some (vNat r.atLimit)
  | 0x0D => some (vNat r.result.ctorIdx)
  | 0x0E => some (vNat r.isoCause.ctorIdx)
  | _ => none

def liveEngine (idx sub : Nat) (d : Dev) : Option DVal :=
  if idx = 0x2600 ∧ sub = 0x02 then some (vNat (d.sync.periods % 2 ^ 32))
  else if 0x2640 ≤ idx ∧ idx < 0x264C then
    let a := d.eng.axis[(Fin.ofNat 12 (idx - 0x2640) : Fin 12)]
    if sub = 0x0A then some (.num a.error) else if sub = 0x0B then some (vFlag a.flag) else none
  else if 0x2650 ≤ idx ∧ idx < 0x2660 then
    let x := d.eng.thermal[loopOfIdx idx]
    if sub = 0x09 then some (.num x.duty) else if sub = 0x0A then some (vFlag x.stale) else none
  else if 0x2680 ≤ idx ∧ idx < 0x269C then
    let g := d.eng.gen[genOfIdx idx]
    match sub with
    | 0x01 => some (vNat (if g.user = .none then 0xFF else g.user.ctorIdx))
    | 0x0A => some (vNat (if d.alloc.plan.moves.any (fun m => m.gen == some (genOfIdx idx) && m.held) then 2 else g.state.ctorIdx))
    | 0x07 => some (.num (genReport g.p))
    | 0x08 => some (.num (genReport g.v))
    | 0x09 => some (.num (genReport g.a))
    | _ => none
  else if idx = 0x2700 ∨ idx = 0x2710 then
    let x := d.eng.inj[injOfIdx idx]
    if sub = 0x13 then some (vNat x.state.ctorIdx) else if sub = 0x14 then some (vNat x.cause) else none
  else if idx = 0x2720 then some (vNat ((d.eng.timer[(Fin.ofNat 4 (sub - 1) : Fin 4)]).getD 0xFF))
  else none

def liveRing (idx sub : Nat) (d : Dev) : Option DVal :=
  let k : Fin 12 := Fin.ofNat 12 (sub - 1)
  let a := d.alloc
  match idx, sub with
  | 0x2800, 0x01 => some (vNat (maskOf (fun j => tieClosed j d)))
  | 0x2800, 0x02 => some (vNat (maskOf (fun j : Fin 12 => (d.ring.tie[j]).cmd)))
  | 0x2800, 0x03 => some (vNat (maskOf (fun j => outletClosed j d)))
  | 0x2800, 0x04 => some (vNat (maskOf (fun j : Fin 12 => (d.ring.tie[j]).frozen)))
  | 0x2800, 0x05 => some (vNat ((all 12).filter (fun h => d.ring.head[h] == h)).length)
  | 0x2801, _ => some (vNat (d.ring.head[k]).val)
  | 0x2811, 0x06 => some (vFlag (gridLimits d).2.2)
  | 0x2811, 0x07 => some (vNat (gridLimits d).1)
  | 0x2811, 0x08 => some (vNat (gridLimits d).2.1)
  | 0x2814, _ => some (.num a.grant[k])
  | 0x2815, _ => some (.num a.plan.demand[k])
  | 0x2816, _ => some (vNat a.cause[k])
  | 0x2817, 0x01 => some (vNat a.planNo)
  | 0x2817, 0x02 => some (vNat a.planTime)
  | 0x2817, 0x03 => some (vNat (maskOf (fun j : Fin 12 => a.plan.ties[j])))
  | 0x2817, 0x04 => some (vNat a.plan.moves.length)
  | 0x2817, 0x05 => some (vNat a.ended)
  | 0x2817, 0x06 => some (.num a.plan.impKw.floor)
  | 0x2817, 0x07 => some (.num a.plan.expKw.floor)
  | 0x2820, n => some (vNat (match a.plan.moves[n - 1]? with | some m => moveRecord (n - 1) m d | none => 0))
  | _, _ => none

def livePower (idx sub : Nat) (d : Dev) : Option DVal :=
  match idx / 256 with
  | 0x21 => liveLeg sub (legOfIdx idx 0x2100) d
  | 0x22 => liveBrick sub (brickOfIdx idx) d
  | 0x23 => if idx = 0x2300 ∧ sub = 0x04 then some (vNat (if num d 0x2300 0x01 = 1 then d.sync.state.ctorIdx else 0))
    else if idx = 0x2300 ∧ sub = 0x05 then some (.num d.sync.error)
    else if idx = 0x2330 ∧ sub = 0x07 then some (vNat (detectorMask d)) else none
  | 0x24 => if idx % 16 = 0 then liveRail sub (railOfIdx idx) d else none
  | 0x26 | 0x27 => liveEngine idx sub d
  | 0x28 => liveRing idx sub d
  | _ => none

/-! Outlets, metrology, safety and load channels. -/

def liveOutlet (sub : Nat) (k : Fin 12) (d : Dev) : Option DVal :=
  let o := d.out[k]
  match sub with
  | 0x01 => some (vNat (outCode o.state))
  | 0x02 => some (vNat o.cause)
  | 0x03 => some (vNat o.faults)
  | 0x05 => some (.num ((o.cableV.getD 0) / 5000))
  | 0x06 => some (.num o.outI)
  | 0x07 => some (vNat (match o.imd with | some x => x.kohm | none => 0xFFFF))
  | 0x08 => some (vNat o.insul)
  | 0x0A => some (vNat o.since)
  | 0x0B => some (vNat (contactorCode (.outlet k) d))
  | 0x0C => some (vNat o.vcc)
  | _ => none

/-- The cooling state of an outlet (0x32k1.06). -/
def coolCode (o : Outlet) : Nat :=
  if o.headStale then 4 else if o.flowFault then 3 else if o.runOn.isSome then 2 else if o.cooling then 1 else 0
def liveCooling (sub : Nat) (k : Fin 12) (d : Dev) : Option DVal :=
  let o := d.out[k]
  match sub with
  | 0x01 => some (.num (if o.headAt.isNone then 0 else o.pin.getD (-32768)))
  | 0x02 => some (.num o.supplyT)
  | 0x03 => some (.num o.returnT)
  | 0x04 => some (vNat o.flow)
  | 0x05 => some (.num o.derated)
  | _ => some (vNat (coolCode o))

/-- The metering role of an outlet (0x381k.08). -/
def roleCode (x : MSession) : Nat := match x.role with
  | .meter => 1 | .witness => if x.late then 3 else 2 | .handover => 4 | .continuation => 5
def liveMeter (sub : Nat) (k : Fin 12) (d : Dev) : Option DVal :=
  let x := d.metro.meter[k]
  match sub with
  | 0x01 => some (vNat (delivered k d))
  | 0x02 => some (vNat (returned k d))
  | 0x03 => some (.num ((delivered k d : Int) - returned k d))
  | 0x04 => some (vNat (delivered k d + returned k d))
  | 0x05 => some (.num (if x.fed then x.feedV.getD 0xFFFF else 0))
  | 0x06 => some (.num (if x.fed then x.feedI.getD (-32768) else 0))
  | 0x07 => some (.num x.temp)
  | 0x08 => some (vNat (match x.session with | some s => roleCode s | none => 0))
  | 0x09 => some (vTime (x.session.map MSession.openedAt))
  | 0x0A => some (vTime (x.session.map MSession.gap))
  | 0x0B => some (vTime (x.session.map MSession.below))
  | _ => none
def liveHead (sub : Nat) (k : Fin 12) (d : Dev) : Option DVal :=
  let x := d.metro.meter[k]
  match sub with
  | 0x09 => some (vNat (if !x.link then 0 else if rateFault x then 3 else if paired k d then 1 else 2))
  | 0x0A => some (vNat ((x.head[(2 : Fin 8)]).getD 0 + 2 ^ 32 * (x.head[(3 : Fin 8)]).getD 0))
  | 0x0B => some (.num (roundAway (x.dt * 10)))
  | _ => none
def liveIsland2 (sub : Nat) (d : Dev) : Option DVal := match sub with
  | 0x02 => some (vFlag Config.indicative)
  | 0x03 => some (vNat (nat d 0x1B13 0x02))
  | 0x04 => some (.oct (Config.imageSha (d.sys.img[(3 : Fin 5)]).running))
  | 0x05 => some (.oct (match d.metro.keyNo with | some n => Config.publicKey 1 (Config.metrologyKey n) | none => []))
  | 0x08 => some (vFlag d.metro.window.isSome)
  | 0x09 => some (vNat (match d.metro.window with | some t => remaining t (sec 600) d | none => 0))
  | 0x0A => some (vNat d.metro.ring.length)
  | 0x10 => some (vNat (auditUsed d))
  | 0x12 => some (.oct (d.metro.audit.getD (nat d 0x3800 0x11 - 1) []))
  | _ => none

/-- The state of an instance (0x4001, 0x4002): 4 not in use. -/
def instCode (i : Fin 16) (d : Dev) : Nat := if !inUse i d then 4 else (instState i d).ctorIdx
/-- The sources of an instance in use as its entry reports them, with the pending test and the island's state. -/
def sourceCode (i : Fin 16) (d : Dev) : Nat :=
  let off := num d 0x4000 0x01 != 1
  if !inUse i d then 0 else sources i d + (if i.val < 12 then (if off then 2 ^ 26 else 0) else (if testPending i d then 2 ^ 27 else 0) + (if off then 2 ^ 28 else 0))
def liveSafety (idx sub : Nat) (d : Dev) : Option DVal :=
  let s := d.safety
  let i : Fin 16 := Fin.ofNat 16 (sub - 1)
  let u : Fin 16 := Fin.ofNat 16 (sub + 11)
  if 0x4040 ≤ idx ∧ idx < 0x4050 then
    let c : Fin 16 := Fin.ofNat 16 (idx - 0x4040)
    if sub = 0x08 then some (vNat (if on d (conIdx c) 0x01 then (s.consumer[c]).state.ctorIdx + 1 else 0)) else none
  else if 0x4050 ≤ idx ∧ idx < 0x4058 then
    let p : Fin 8 := Fin.ofNat 8 (idx - 0x4050)
    if sub = 0x06 then some (vNat (if on d (prodIdx p) 0x01 then (s.producer[p]).state.ctorIdx + 1 else 0)) else none
  else match idx, sub with
  | 0x4000, 0x05 | 0x4000, 0x06 => some (vNat (nat d 0x1B12 0x02))
  | 0x4000, 0x07 => some (vFlag s.permit)
  | 0x4000, 0x09 => some (vNat (maskOf (fun j : Fin 12 => (stopBits d)[j])))
  | 0x4000, 0x0A => some (vNat (maskOf (fun v : Fin 4 => (torqueBits d)[v])))
  | 0x4001, _ => some (vNat (instCode i d))
  | 0x4002, _ => some (vNat (instCode u d))
  | 0x4003, _ => some (vNat (sourceCode i d))
  | 0x4004, _ => some (vNat (sourceCode u d))
  | 0x4010, _ =>
    let n : Fin 8 := Fin.ofNat 8 (sub - 1)
    let x := s.input[n]
    some (.num (flag x.closed[(0 : Fin 2)] + 2 * flag x.closed[(1 : Fin 2)] + 4 * flag (inputActs n d) + 8 * flag x.fault + 16 * flag x.testSeen))
  | 0x4011, _ => some (vFlag (s.fb[(Fin.ofNat 12 (sub - 1) : Fin 12)]).deb)
  | 0x4060, 0x02 => if (match s.trans with | some t => t.committing | none => false) then some (vNat 1) else none
  | 0x4060, 0x04 => some (vNat (match s.trans with | some t => if t.committing then 2 else 1 | none => 0))
  | 0x4060, 0x05 => some (vNat (match s.trans with | some t => t.owner | none => 0))
  | 0x4060, 0x06 => some (vNat (if s.trans.isSome then pendingCrc d else 0))
  | 0x4060, 0x09 => some (vNat (match s.lockedOut with | some t => remaining t (sec 600) d | none => 0))
  | 0x4070, 0x01 => some (vNat s.log.length)
  | 0x4070, 0x04 => some (.oct (s.log.getD (nat d 0x4070 0x03 - 1) []))
  | 0x4080, 0x01 => some (vNat (maskOf (fun o : Fin 16 => s.outFault[o])))
  | 0x4080, 0x02 => some (vNat (maskOf (fun j : Fin 12 => s.contFault[j])))
  | _, _ => none

def liveLoad (idx sub : Nat) (d : Dev) : Option DVal :=
  let n := chanOfSub sub
  let c := d.load.chan[n]
  match idx, sub with
  | 0x4400, 0x03 => some (vFlag (extselHonoured d))
  | 0x4400, 0x06 => some (vFlag d.load.limp)
  | 0x4400, 0x07 => some (vFlag d.load.orphan)
  | 0x4420, _ => some (vNat c.state.ctorIdx)
  | 0x4421, _ => some (vNat (c.reading.getD 0xFFFF))
  | 0x4422, _ => some (.num c.current)
  | 0x4423, _ => some (vNat (c.heat * 1000 / 2 ^ 24))
  | 0x4424, _ => some (.num c.junction)
  | 0x4425, _ => some (vNat c.retries)
  | 0x4426, _ => some (vNat c.cause)
  | 0x4427, _ => some (vNat (commandInForce n d).2.2)
  | 0x4429, _ => some (.num (flag c.openLoad + 2 * flag c.senseFlag + 4 * flag c.clampLast + 8 * flag c.reading.isNone))
  | 0x4432, 0x02 => some (vNat (maskOf (fun p : Fin 8 => bit (nat d 0x4432 0x01) p.val && d.load.pins[p])))
  | _, _ => none

/-- The vehicle communication entries that count (R190). -/
def liveVehicle (idx sub : Nat) (d : Dev) : Option DVal :=
  let held (i : Nat) : Nat := (List.range 8).countP (fun n => bytesOf (getVal d (key i (n + 1))) != [])
  if idx = 0x3100 ∧ sub = 0x06 then some (vNat (16 * held 0x1A21 + held 0x1A20))
  else if idx = 0x3100 ∧ sub = 0x07 then some (vNat (d.vehicle.toList.countP (·.tls))) else none

def liveField (idx sub : Nat) (d : Dev) : Option DVal := match idx / 256 with
  | 0x30 => if idx % 16 = 0 then liveOutlet sub (outOfIdx idx 0x3000) d else none
  | 0x31 => liveVehicle idx sub d
  | 0x32 => if idx % 16 = 1 then liveCooling sub (outOfIdx idx 0x3200) d else none
  | 0x38 =>
    if idx = 0x3800 then liveIsland2 sub d
    else if 0x3810 ≤ idx ∧ idx < 0x381C then liveMeter sub (outletOfIdx idx 0x3810) d
    else if 0x3830 ≤ idx ∧ idx < 0x383C then liveHead sub (outletOfIdx idx 0x3830) d
    else if 0x3850 ≤ idx ∧ idx < 0x385C ∧ sub = 0x06 then
      some (vNat (d.metro.pulse[(Fin.ofNat 8 (if idx < 0x3858 then idx - 0x3850 else idx - 0x3854) : Fin 8)]).backlog)
    else none
  | 0x40 => liveSafety idx sub d
  | 0x44 => liveLoad idx sub d
  | _ => none

/-- An entry's state where the model holds it elsewhere than in the register file. -/
def live (idx sub : Nat) (d : Dev) : Option DVal := match idx / 256 with
  | 0x10 => liveIdentity idx sub d
  | 0x11 => liveServer idx sub d
  | 0x12 | 0x13 | 0x14 => liveBus idx sub d
  | 0x18 | 0x19 => liveSample idx sub d
  | 0x1A | 0x1B | 0x1C => liveModule idx sub d
  | _ => if idx < 0x3000 then livePower idx sub d else liveField idx sub d

/-- Quantities that no command carries, with the least and the number of their values: the domain powers and the load supply; the error counts of a
controller on the bus, and whether it is error active or passive (R346); the address leased of a port in DHCP mode (R386); the downlink
margin that an admitted node reports (R417). -/
def measuredRange (idx sub : Nat) (d : Dev) : Option (Int × Nat) :=
  if idx = 0x1D01 ∨ (idx = 0x4400 ∧ sub = 0x01) then some (0, 65536)
  else if (idx = 0x1201 ∨ idx = 0x1202) ∧ busOn (canOfIdx idx) d then
    (if sub = 0x08 ∨ sub = 0x09 then some (0, 256) else if sub = 0x07 then some (0, 2) else none)
  else if (idx = 0x1400 ∨ idx = 0x1401) ∧ sub = 0x03 ∧ num d idx 0x02 = 1 then some (0, 2 ^ 32)
  else if 0x1310 ≤ idx ∧ idx < 0x1320 ∧ sub = 0x09 ∧ admitted (Fin.ofNat 16 (idx - 0x1310)) d then some (-32768, 65536)
  else none

/-- The value that a read returns. A measured quantity is a free value. -/
def readValue (idx sub : Nat) (d : Dev) : DVal × Dev :=
  match measuredRange idx sub d with
  | some (lo, n) => let (x, d) := freeNat d; (.num (lo + ((x % n : Nat) : Int)), d)
  | none => ((live idx sub d).getD (getVal d (key idx sub)), d)

end Sys2Proof.Machine
end

