-- ==== Sys2Proof/Machine/DictServer.lean ====
section
/-! DEFINITION. The dictionary server: the checks of a request in their order (R367, R498), reads and writes, segmented transfers
(R371 to R373), subscriptions and publications (R382 to R385), and the journey of a request (R29, R365 to R370). -/
namespace Sys2Proof.Machine

/-- What a service answers: flags and data, or an abort code. -/
abbrev Answer := Except Nat (Nat × List Byte)
/-- A plain response with its data. -/
def reply (b : List Byte) : Answer := .ok (0, b)

/-! The checks of R367. -/

/-- The services that a host may send (check 2). -/
def hostService (n : Nat) : Bool :=
  (1 ≤ n && n ≤ 3) || (0x10 ≤ n && n ≤ 0x16) || (0x20 ≤ n && n ≤ 0x22) || n == 0x30 || n == 0x31
/-- Whether an index lies in a range of Table 17.1. -/
def inMap (idx : Nat) : Bool :=
  let hi := idx / 256
  let lo := idx % 256
  if hi = 0x20 ∨ hi = 0x21 then decide (lo < 0x60)
  else if hi = 0x22 then decide (lo < 0x18)
  else if hi = 0x24 ∨ hi = 0x30 then decide (lo < 0xC0)
  else ([0x10, 0x11, 0x12, 0x13, 0x14, 0x18, 0x19, 0x1A, 0x1B, 0x1C, 0x1D, 0x23, 0x26, 0x27, 0x28, 0x31, 0x32, 0x38, 0x40, 0x44] : List Nat).contains hi
/-- Check 4: the entry exists, and then its sub-index (R494, R495); the row of the entry, or the code. -/
def findEntry (idx sub : Nat) : Except Nat Row :=
  if !inMap idx then .error 0x10000001
  else match rowOf idx sub with
    | some r => .ok r
    | none => .error (groupCode idx + (if (rowsOf (idx / 256)).any (fun r => rowHasIndex r idx) then 2 else 1))
/-- Whether another session has a segmented transfer of an entry in progress (R372). -/
def busyElsewhere (session idx sub : Nat) (d : Dev) : Bool :=
  (all 6).any (fun n => n.val + 1 != session && (match (d.site.sessions[n]).transfer with
    | some t => t.key == key idx sub
    | none => false))
/-- Whether a session may write an entry under check 5: an entry of a group is its owner's, by the field-side port's table for an entry of
the field side (R29), by what the host side knows of it for any other. -/
def mayOwn (session idx sub : Nat) (r : Row) (d : Dev) : Bool :=
  if r.acc = .own ∨ r.acc = .cmd then (match groupOf idx sub with
    | some g => (if fieldHeld idx sub then fieldOwner g d else ownerOf g d) == session
    | none => true) else true
/-- Check 5 for a write. -/
def writeAccess (session idx sub : Nat) (r : Row) (d : Dev) : Option Nat :=
  if r.acc = .ro ∨ r.keep = .f then some (groupCode idx + 4)
  else if !mayOwn session idx sub r d then some (groupCode idx + 7)
  else if busyElsewhere session idx sub d then some (groupCode idx + 8) else none
/-- Check 5 for a read. -/
def readAccess (session idx sub : Nat) (r : Row) (d : Dev) : Option Nat :=
  if r.acc = .wo then some (groupCode idx + 3)
  else if busyElsewhere session idx sub d then some (groupCode idx + 8) else none
/-- Check 6: the length suits the type, and the value is valid for the type. -/
def valueCheck (idx : Nat) (r : Row) (b : List Byte) : Option Nat :=
  match tySize r.ty with
  | some n =>
    if b.length ≠ n then some (groupCode idx + 5)
    else if r.ty = .bool ∧ 1 < leNat b then some (groupCode idx + 6) else none
  | none => if r.ty = .str ∧ !utf8Ok 0 0 0 b then some (groupCode idx + 6) else none
/-- Step 1 of R498: the barrier and the island (R24, R30, R504). -/
def available (idx sub : Nat) (d : Dev) : List (Nat × Nat) :=
  let needs : Bool := fieldHeld idx sub || (idx == 0x1900 && sub == 0x01) || (idx == 0x1A00 && sub == 0x04)
  if needs && barrierLost d then [(1, 0x10000022)] else failing (!up (islandOf idx sub) d) 1 0x10000021
/-- The condition that names the code: the first step, and within it the lower low half (R498). -/
def firstFailing (l : List (Nat × Nat)) : Option Nat :=
  (l.foldl (fun b x => match b with
    | none => some x
    | some y => if x.1 < y.1 ∨ (x.1 = y.1 ∧ x.2 % 65536 < y.2 % 65536) then some x else some y) none).map (·.2)
/-- Check 7 for a write: every condition that fails, with its step. -/
def subjectChecks (c : WriteCall) (r : Row) (d : Dev) : List (Nat × Nat) :=
  available c.idx c.sub d ++ failing (leaseOnly c.idx && !holds d) 2 0x1C000010
    ++ (handlerOf c.idx c.sub).checks c d ++ failing (!inDom r.dom c.val) 6 (rangeCode c.idx c.sub c.val)
/-- Check 7 for a read: the island, and what capture memory and the event log say of their data (R427, Table 14.12). -/
def readChecks (idx sub : Nat) (d : Dev) : List (Nat × Nat) :=
  available idx sub d ++ failing (idx == 0x1880 && sub == 0x06 && d.dma.capState == .filling) 5 0x18000016
    ++ failing (idx == 0x1920 && sub == 0x05 && (logEntry (nat d 0x1920 0x04) d).isNone) 5 0x19000012

/-! Reads and writes. -/

/-- The largest data and the largest segment data of a transport, CAN FD or another (Table 12.10). -/
def largestOn (can : Bool) : Nat := if can then 53 else 1014
def largestSegment (can : Bool) : Nat := if can then 49 else 1010
/-- Whether a connection is CAN FD. -/
def isCan : Conn → Bool
  | .can _ _ => true
  | _ => false
/-- The largest data of a connection. -/
def largestData (c : Conn) : Nat := largestOn (isCan c)

/-- A store has an unsaved write (R470). -/
def markUnsaved (idx sub : Nat) (r : Row) (d : Dev) : Dev :=
  if r.keep = .p then (match storeOf idx sub with
    | some st => markStore st d
    | none => d)
  else d
/-- A write that passed every check: a CMD entry's status is done (R370), the entry's chapter says the rest. -/
def accept (c : WriteCall) (r : Row) (d : Dev) : Dev :=
  markUnsaved c.idx c.sub r ((handlerOf c.idx c.sub).act c (if r.acc = .cmd then setNum c.idx c.sub 2 d else d))
/-- A write that check 7 refused: a CMD entry's status is refused (R370). -/
def refuse (c : WriteCall) (r : Row) (code : Nat) (d : Dev) : Dev :=
  (handlerOf c.idx c.sub).refused c code (if r.acc = .cmd then setNum c.idx c.sub 3 d else d)
/-- A value written to an entry that passed checks 4 and 5. -/
def writeValue (session idx sub : Nat) (r : Row) (b : List Byte) (d : Dev) : Dev × Option Nat :=
  match valueCheck idx r b with
  | some code => (d, some code)
  | none =>
    let c : WriteCall := ⟨session, idx, sub, bytesVal r.ty b⟩
    match firstFailing (subjectChecks c r d) with
    | some code => (refuse c r code d, some code)
    | none => (accept c r d, none)
/-- The answer to a write. -/
def writeAnswer (x : Dev × Option Nat) : Dev × Answer := match x.2 with
  | some code => (x.1, .error code)
  | none => (x.1, reply [])
/-- The write service. -/
def writeService (session idx sub : Nat) (b : List Byte) (d : Dev) : Dev × Answer :=
  match findEntry idx sub with
  | .error code => (d, .error code)
  | .ok r => match writeAccess session idx sub r d with
    | some code => (d, .error code)
    | none => writeAnswer (writeValue session idx sub r b d)
/-- The checks of a read up to its value. -/
def readGuard (session idx sub : Nat) (d : Dev) : Except Nat Row :=
  match findEntry idx sub with
  | .error code => .error code
  | .ok r => match readAccess session idx sub r d with
    | some code => .error code
    | none => match firstFailing (readChecks idx sub d) with
      | some code => .error code
      | none => .ok r
/-- The read service. -/
def readService (can : Bool) (session idx sub : Nat) (d : Dev) : Dev × Answer :=
  match readGuard session idx sub d with
  | .error code => (d, .error code)
  | .ok r =>
    let x := readValue idx sub d
    let b := valBytes r.ty x.1
    if largestOn can < b.length then (x.2, .error (groupCode idx + 9)) else (x.2, reply b)

/-! Segmented transfers (R371 to R373). -/

/-- A session's transfer set; a new one ends the memory of a timeout. -/
def setTransfer (n : Fin 6) (t : Option Transfer) (d : Dev) : Dev := onSlot n (fun x => { x with transfer := t, timedOut := false }) d
/-- Whether a type takes segmented transfers. -/
def segmented (t : Ty) : Bool := t == .str || t == .oct
/-- The largest length of an entry's value. -/
def largestOf (idx sub : Nat) (r : Row) : Nat :=
  if 0x1B10 ≤ idx ∧ idx < 0x1B15 ∧ sub = 0x01 then largestImage (typeOfIdx idx)
  else match r.dom with
    | .len _ hi => hi
    | .lenIn l => l.foldl max 0
    | _ => 16
/-- A read-segmented start (R371): the value is copied; the lane must have the rate for capture and snapshot fragments (R26). -/
def readStart (n : Fin 6) (idx sub : Nat) (d : Dev) : Dev × Answer :=
  match readGuard (n.val + 1) idx sub d with
  | .error code => (d, .error code)
  | .ok r =>
    if !segmented r.ty then (d, .error (groupCode idx + 5))
    else if (d.site.sessions[n]).transfer.isSome then (d, .error 0x11000019)
    else if bulkRead (key idx sub) ∧ 120000 < laneCommitted d + transferShare then (d, .error 0x10000023)
    else
      let x := readValue idx sub d
      let b := valBytes r.ty x.1
      (setTransfer n (some ⟨false, key idx sub, b.length, b, d.time.now⟩) x.2, reply (leBytes 4 b.length))
/-- A write-segmented start (R371). How much storage its target has free the manual does not say: a free value. -/
def writeStart (n : Fin 6) (idx sub : Nat) (b : List Byte) (d : Dev) : Dev × Answer :=
  match findEntry idx sub with
  | .error code => (d, .error code)
  | .ok r => match writeAccess (n.val + 1) idx sub r d with
    | some code => (d, .error code)
    | none =>
      let total := leNat b
      if !segmented r.ty ∨ b.length ≠ 4 then (d, .error (groupCode idx + 5))
      else match firstFailing (available idx sub d ++ failing (leaseOnly idx && !holds d) 2 0x1C000010) with
        | some code => (d, .error code)
        | none =>
          let (storage, d) := freeNat d
          if total = 0 ∨ total = 0xFFFFFFFF ∨ largestOf idx sub r < total ∨ storage < total then (d, .error 0x11000016)
          else if (d.site.sessions[n]).transfer.isSome then (d, .error 0x11000019)
          else (setTransfer n (some ⟨true, key idx sub, total, [], d.time.now⟩) d, reply [])
/-- A segment that fits no transfer: the code, and the transfer is discarded (R372). -/
def badSegment (n : Fin 6) (d : Dev) : Dev × Answer := (setTransfer n none d, .error 0x11000017)
/-- A segment of a session without a transfer. -/
def noTransfer (n : Fin 6) (d : Dev) : Dev × Answer :=
  if (d.site.sessions[n]).timedOut then (setTransfer n none d, .error 0x11000018) else (d, .error 0x11000017)
/-- A read segment (R372); the transfer ends with the segment that reaches its total. Capture data crosses in capture
fragments (Table 1.6, type 0x0F). -/
def readSegmentService (can : Bool) (n : Fin 6) (idx sub : Nat) (b : List Byte) (d : Dev) : Dev × Answer :=
  match (d.site.sessions[n]).transfer with
  | none => noTransfer n d
  | some t =>
    let off := leNat b
    if t.write ∨ t.key ≠ key idx sub ∨ b.length ≠ 4 ∨ t.total ≤ off then badSegment n d
    else
      let part := (t.data.drop off).take (largestSegment can)
      let last : Bool := decide (t.total ≤ off + part.length)
      let d := setTransfer n (if last then none else some { t with last := d.time.now }) d
      let d := if idx = 0x1880 then enqueue .fh (tenonItems 0x0F 1 0 part.length [off, part.length] d) d else d
      (d, .ok (if last then 2 else 0, b ++ part))
/-- A write segment (R372, R373). -/
def writeSegmentService (n : Fin 6) (idx sub flags : Nat) (b : List Byte) (d : Dev) : Dev × Answer :=
  match (d.site.sessions[n]).transfer with
  | none => noTransfer n d
  | some t =>
    let part := b.drop 4
    let have_ := t.data.length + part.length
    let last := bit flags 1
    if !t.write ∨ t.key ≠ key idx sub ∨ b.length < 4 ∨ leNat (b.take 4) ≠ t.data.length ∨ t.total < have_ ∨ (last ∧ have_ ≠ t.total)
    then badSegment n d
    else if last then
      match findEntry idx sub with
      | .error code => (setTransfer n none d, .error code)
      | .ok r => match writeAccess (n.val + 1) idx sub r d with
        | some code => (setTransfer n none d, .error code)
        | none => writeAnswer (writeValue (n.val + 1) idx sub r (t.data ++ part) (setTransfer n none d))
    else (setTransfer n (some { t with data := t.data ++ part, last := d.time.now }) d, reply [])

/-! Subscriptions (R382 to R385). -/

/-- The entries that a subscribe request names, three bytes each. -/
def subKeys : List Byte → Option (List Nat)
  | [] => some []
  | a :: b :: c :: r => (subKeys r).map (key (leNat [a, b]) c.toNat :: ·)
  | _ => none
/-- Whether an entry is readable and of a fixed size. -/
def publishable (k : Nat) : Bool := match rowOf (k / 256) (k % 256) with
  | some r => r.acc != .wo && (tySize r.ty).isSome && inMap (k / 256)
  | none => false
/-- The subscription that a request describes, where it is valid (R382). -/
def subRequest (conn : Conn) (session : Nat) (b : List Byte) : Option Sub :=
  match subKeys (b.drop 3) with
  | none => none
  | some keys =>
    let p := leNat (b.take 2)
    let x : Sub := ⟨session, p, keys, 0, laneShare p keys, 0⟩
    if 3 ≤ b.length ∧ keys.length = leNat ((b.drop 2).take 1) ∧ 1 ≤ keys.length ∧ keys.length ≤ 32
      ∧ (if isCan conn then 10 else 1) ≤ p ∧ p ≤ 60000 ∧ keys.all publishable ∧ subBytes x ≤ largestData conn - 12
    then some x else none
/-- The subscribe service. -/
def subscribeService (conn : Conn) (session : Nat) (b : List Byte) (d : Dev) : Dev × Answer :=
  match subRequest conn session b with
  | none => (d, .error 0x1100001A)
  | some x =>
    let free := (all 16).find? (fun i => (d.site.subs[i]).isNone)
    let mine := d.site.subs.toList.countP (fun s => match s with | some y => y.session == session | none => false)
    match (if mine < 8 then free else none) with
    | none => (d, .error 0x1100001B)
    | some i =>
      if 120000 < laneCommitted d + x.share then (d, .error 0x10000023)
      else if (match conn with
        | .can c _ => decide (300000 < canCommitted c d + canShareOf c x.period (subBytes x) d)
        | _ => false) then (d, .error 0x12000014)
      else (onSite (fun s => { s with subs := upd s.subs i (fun _ => some { x with next := nextMultiple (ms x.period) d }) }) d, reply (leBytes 1 (i.val + 1)))
/-- The unsubscribe service. -/
def unsubscribeService (session : Nat) (b : List Byte) (d : Dev) : Dev × Answer :=
  match (all 16).find? (fun i => b == leBytes 1 (i.val + 1) && (match d.site.subs[i] with | some y => y.session == session | none => false)) with
  | some i => (onSite (fun s => { s with subs := upd s.subs i (fun _ => none) }) d, reply [])
  | none => (d, .error 0x1100001A)

/-- The values of a publication in order, each at its type's size. -/
def sample (keys : List Nat) (d : Dev) : List Byte × Dev :=
  keys.foldl (fun x k => match rowOf (k / 256) (k % 256) with
    | some r => let v := readValue (k / 256) (k % 256) x.2; (x.1 ++ valBytes r.ty v.1, v.2)
    | none => x) ([], d)
/-- Whether staging takes one more normal frame (R352). -/
def stagingRoom (conn : Conn) (d : Dev) : Bool := match conn with
  | .can c _ => on d (canIdx c) 0x01 && d.site.addr.state == .held && decide ((d.site.can[c]).normal.length < 128)
  | _ => true
/-- The islands whose values a subscription carries over lane FH. -/
def subIslands (keys : List Nat) : List Nat :=
  fieldIslands.filter (fun i => keys.any (fun k => (islandOf (k / 256) (k % 256)).val == i))
/-- A publication at its next instant, a multiple of its period, which is its sample time (R384, R385). -/
def publish (n : Fin 16) (d : Dev) : Dev := match d.site.subs[n] with
  | none => d
  | some x =>
    let d := reach x.next d
    let seq := x.seq
    let at_ := ((x.next : Int) + d.time.base).toNat
    let next := atSite ((at_ / ms x.period + 1) * ms x.period) d
    let d := onSite (fun s => { s with subs := upd s.subs n (fun _ => some { x with seq := (x.seq + 1) % 65536, next := next }) }) d
    match slotOf x.session with
    | none => d
    | some i => match (d.site.sessions[i]).conn with
      | none => d
      | some conn =>
        let isl := subIslands x.keys
        if !stagingRoom conn d || (isl != [] && barrierLost d) then bump 0x1106 0x02 d
        else
          let v := sample x.keys d
          let m : DictMsg := ⟨0x32, 0, x.session, 0, 0, 0, leBytes 1 (n.val + 1) ++ leBytes 1 0 ++ leBytes 2 seq ++ leBytes 8 at_ ++ v.1⟩
          let d := isl.foldl (fun d i => enqueue .fh (tenonItems 0x0C i n.val (12 + v.1.length) [n.val + 1, seq] d) d) v.2
          deliver conn 0x5 m (onSlot i (fun y => { y with notice := some m }) d)

/-- PUBLICATION (R384, R385). -/
def execPublication (n : Fin 16) (s : State) : Host.Outcome State Fault Refusal := done s (publish n s.dev)

/-! The journey of a request. -/

/-- What the services on an entry do where the entry is held. -/
def entryService (can : Bool) (n : Fin 6) (m : DictMsg) (d : Dev) : Dev × Answer :=
  let session := n.val + 1
  match m.service with
  | 0x10 => readService can session m.index m.sub d
  | 0x11 => writeService session m.index m.sub m.data d
  | 0x12 => readStart n m.index m.sub d
  | 0x13 => readSegmentService can n m.index m.sub m.data d
  | 0x14 => writeStart n m.index m.sub m.data d
  | 0x15 => writeSegmentService n m.index m.sub m.flags m.data d
  | _ => (d, .error 0x1100001D)
/-- The answer to a claim, release or query. -/
def groupAnswer (x : Dev × Except Nat (List Byte)) : Dev × Answer :=
  (x.1, match x.2 with | .ok b => reply b | .error code => .error code)
/-- What a service does on the host side once checks 1 to 3 are passed. A request for an entry that the field side holds gets here only
where the barrier does not carry it: its checks are judged, and nothing is done (R24, R30). -/
def perform (conn : Conn) (n : Fin 6) (m : DictMsg) (d : Dev) : Dev × Answer :=
  let session := n.val + 1
  if 0x10 ≤ m.service ∧ m.service ≤ 0x15 then
    let x := entryService (isCan conn) n m d
    if fieldHeld m.index m.sub then
      (d, match x.2 with | .error code => .error code | .ok _ => .error (if barrierLost d then 0x10000022 else 0x10000021))
    else x
  else match m.service with
  | 0x02 | 0x03 => (d, reply [])
  | 0x16 => (setTransfer n none d, reply [])
  | 0x20 | 0x21 | 0x22 => groupAnswer (hostGroup m.service m.index session (bit m.flags 2) d)
  | 0x30 => subscribeService conn session m.data d
  | 0x31 => unsubscribeService session m.data d
  | _ => (d, .error 0x1100001D)
/-- The message that answers a request. -/
def answerMsg (m : DictMsg) : Answer → DictMsg
  | .error code => abortMsg m code
  | .ok x => { replyMsg m x.2 with flags := x.1 }

/-- Whether a request crosses the barrier: one for a field-side entry or for a group that the field side's owner table
holds, while the barrier is there (R29, R381). -/
def crosses (m : DictMsg) (d : Dev) : Bool :=
  !barrierLost d && up 7 d && (if 0x10 ≤ m.service ∧ m.service ≤ 0x15 then fieldHeld m.index m.sub && (findEntry m.index m.sub).toOption.isSome
    else if 0x20 ≤ m.service ∧ m.service ≤ 0x22 then isGroup m.index && m.index != 6 else false)
/-- The island that a request across the barrier concerns. -/
def targetIsland (m : DictMsg) : Nat := if 0x20 ≤ m.service then 7 else (islandOf m.index m.sub).val
/-- A dictionary message put into a lane's queue. -/
def enqueueDict (l : Lane) (type : Nat) (q m : DictMsg) (d : Dev) : Dev :=
  enqueue l (tenonBytes type q.session q.tag (targetIsland q) 0 (dictBytes m) d) d
/-- The dictionary requests that wait for lane HF. -/
def waitingRequests (d : Dev) : Nat := ((laneOf .hf d).queue[(2 : Fin 4)]).countP (fun m => m.type == 0x05)

/-- A response reaches its session: it is kept for a repeat, and goes out on the session's transport (R366, R368). A closed
session's response is discarded (R377). -/
def respond (n : Fin 6) (conn : Conn) (m : DictMsg) (d : Dev) : Dev :=
  if (d.site.sessions[n]).conn = some conn then deliver conn 0xC m (onSlot n (fun x => { x with reply := some m }) d) else d

/-- Whether a request repeats the session's previous one (R368). -/
def repeats (x : Session) (m : DictMsg) (now : Nat) : Bool := match x.prev with
  | some (p, t) => p.service == m.service && p.tag == m.tag && p.index == m.index && p.sub == m.sub && decide (now ≤ t + sec 2)
  | none => false

/-- A new request noted in its session, for the repeat rule (R368). -/
def note (n : Fin 6) (m : DictMsg) (d : Dev) : Dev := onSlot n (fun x => { x with prev := some (m, d.time.now), reply := none }) d
/-- A request put into lane HF, its response outstanding. -/
def passAcross (n : Fin 6) (m : DictMsg) (d : Dev) : Dev :=
  enqueueDict .hf 0x05 m m (onSlot n (fun x => { x with outstanding := x.outstanding ++ [m.tag] }) d)
/-- Whether the server is too busy for a request (R369). -/
def tooBusy (n : Fin 6) (m : DictMsg) (d : Dev) : Bool :=
  decide (8 ≤ (d.site.sessions[n]).outstanding.length) || (crosses m d && decide (64 ≤ waitingRequests d))
/-- A request's answer on its way to its session. -/
def answered (n : Fin 6) (conn : Conn) (m : DictMsg) (x : Dev × Answer) : Dev := respond n conn (answerMsg m x.2) x.1
/-- A new request of an open session: busy, sent across the barrier, or done on the host side (R369, R18, R29). -/
def serveNew (n : Fin 6) (conn : Conn) (m : DictMsg) (d : Dev) : Dev :=
  if tooBusy n m d then respond n conn (abortMsg m 0x1100001C) (bump 0x1104 0x01 (note n m d))
  else if m.service = 0x02 then closeSession n (respond n conn (replyMsg m []) (note n m d))
  else if crosses m d then passAcross n m (note n m d)
  else answered n conn m (perform conn n m (note n m d))

/-- A request (R367): checks 1 to 3, then a repeat's previous answer or the request itself. -/
def serveMsg (conn : Conn) (m : DictMsg) (d : Dev) : Dev :=
  if m.flags / 8 ≠ 0 then (match conn with | .can c _ => bump (canIdx c) 0x10 d | _ => d)
  else if !hostService m.service then deliver conn 0xC (abortMsg m 0x1100001D) (onSite (fun s => { s with stray := some (abortMsg m 0x1100001D) }) d)
  else
    let none_ := deliver conn 0xC (abortMsg m 0x11000011) (onSite (fun s => { s with stray := some (abortMsg m 0x11000011) }) d)
    match slotOf m.session with
    | none => none_
    | some n =>
      if (d.site.sessions[n]).conn ≠ some conn then none_
      else
        let d := onSlot n (fun x => { x with last := d.time.now }) d
        if repeats d.site.sessions[n] m d.time.now then
          (match (d.site.sessions[n]).reply with
            | some r => deliver conn 0xC r (bump 0x1104 0x02 d)
            | none => d)
        else serveNew n conn m d

/-- A request as it comes by its transport (R364, R366): one whose data exceed the transport's largest cannot be of the length
it states, and is discarded and counted (check 1). -/
def serve (service idx sub : Nat) (a : Ask) (d : Dev) : Dev :=
  if !reaches a.conn d then d
  else
    let m := requestMsg service idx sub a
    if largestData a.conn < a.data.length then (match a.conn with | .can c _ => bump (canIdx c) 0x10 d | _ => d)
    else serveMsg a.conn m (takeRequest a m d)
/-! The field-side port (R24, R29). -/

/-- What the port does with a request of an open session: a group's, at its table; one for an entry, at the island that holds it, where that
runs. -/
def portService (can : Bool) (n : Fin 6) (q : DictMsg) (d : Dev) : Dev × Answer :=
  if 0x20 ≤ q.service then
    (if isGroup q.index && q.index != 6 then groupAnswer (groupService q.service q.index (n.val + 1) (bit q.flags 2) d) else (d, .error 0x1100001F))
  else if !islandUp (targetIsland q) d then (d, .error 0x10000021)
  else entryService can n q d
/-- A request that the port has received, validated and dispatched: its answer waits for lane FH. -/
def atPort (n : Fin 6) (q : DictMsg) (d : Dev) : Dev := match d.site.fieldSession[n] with
  | none => d
  | some x => let y := portService (x.1 == 1 || x.1 == 2) n q d; enqueueDict .fh 0x06 q (answerMsg q y.2) y.1
/-- A command that is named for the effect of an entry of the field side: the write as its port dispatches it to the island. -/
def portWrite (idx sub : Nat) (a : Ask) (d : Dev) : Dev :=
  if !up 7 d then d else match slotOf a.session.toNat with
  | none => d
  | some n => atPort n (requestMsg 0x11 idx sub a) d

/-- A write whose value the command carries whole, whichever of the write services brought it: at the entry's island on the field side, or at
the server on the host side. -/
def serveWrite (idx sub : Nat) (a : Ask) (d : Dev) : Dev :=
  if fieldHeld idx sub then portWrite idx sub a d
  else if !reaches a.conn d then d
  else
    let m := requestMsg 0x11 idx sub a
    serveMsg a.conn m (takeRequest a m d)
/-- A write of the value that a command's own name says. -/
def serveValue (idx sub n v : Nat) (a : Ask) (d : Dev) : Dev := serveWrite idx sub { a with data := leBytes n v } d

/-! What the lanes carry. -/

/-- The dictionary message that bytes spell (Table 12.8), where the data length matches and the reserved byte is 0. -/
def parseDict (b : List Byte) : Option DictMsg :=
  let f (lo n : Nat) : Nat := leNat ((b.drop lo).take n)
  let m : DictMsg := ⟨f 0 1, f 1 1, f 2 1, f 3 1, f 4 2, f 6 1, b.drop 10⟩
  if 10 ≤ b.length ∧ f 7 1 = 0 ∧ f 8 2 = m.data.length then some m else none

/-- DICTIONARY_REQUEST (R24, R29): the field-side port receives a request, validates it, has it done at its island and answers it. -/
def execDictionaryRequest (m : TenonMsg) (s : State) : Host.Outcome State Fault Refusal :=
  let r := receive .hf m s.dev
  done s (if !r.2 || hdrType m.header != 0x05 then r.1 else
    match parseDict m.payload, slotOf (hdrSession m.header) with
    | some q, some n => atPort n { q with session := n.val + 1, tag := hdrTag m.header } r.1
    | _, _ => r.1)

/-- An answer that has come back across the barrier, where its request is outstanding (R369). -/
def heardAnswer (n : Fin 6) (conn : Conn) (q : DictMsg) (tag : Nat) (d : Dev) : Dev :=
  if !((d.site.sessions[n]).outstanding).contains tag then d else
  let d := onSlot n (fun x => { x with outstanding := x.outstanding.erase tag }) d
  let d := if (q.service = 0xA0 ∨ q.service = 0xA1) ∧ q.flags % 2 = 0 then groupHeard (q.service - 0x80) q.index (n.val + 1) d else d
  respond n conn q d

/-- DICTIONARY_RESPONSE (R365): a response arrives in PD0 and goes to its session. -/
def execDictionaryResponse (m : TenonMsg) (s : State) : Host.Outcome State Fault Refusal :=
  let r := receive .fh m s.dev
  done s (if !r.2 || hdrType m.header != 0x06 then r.1 else
    match parseDict m.payload, slotOf (hdrSession m.header) with
    | some q, some n =>
      match (r.1.site.sessions[n]).conn with
      | some conn => heardAnswer n conn q (hdrTag m.header) r.1
      | none => r.1
    | _, _ => r.1)

/-- TRANSFER_TIMEOUT (R372): 1 s without a segment. -/
def execTransferTimeout (n : Fin 6) (s : State) : Host.Outcome State Fault Refusal :=
  let d := s.dev
  done s (match (d.site.sessions[n]).transfer with
    | some t => onSlot n (fun x => { x with transfer := none, timedOut := true }) (notice n 6 0 (reach (t.last + sec 1) d))
    | none => d)

end Sys2Proof.Machine
end

