-- ==== Sys2Proof/Machine/DictCommands.lean ====
section
/-! DEFINITION. The commands that a host gives through the dictionary: the services of Table 12.9, and the writes to which a
chapter gives an effect of its own, each as its write to its entry. A command of one fixed value carries no data of its
own. -/
namespace Sys2Proof.Machine


/-! The services (Table 12.9). -/

/-- CLOSE_SESSION (R377): answered, then closed. -/
def execCloseSession (a : Ask) (s : State) : Host.Outcome State Fault Refusal := done s (serve 0x02 0 0 a s.dev)
/-- KEEP_ALIVE (R377). -/
def execKeepAlive (a : Ask) (s : State) : Host.Outcome State Fault Refusal := done s (serve 0x03 0 0 a s.dev)
/-- READ (R367). -/
def execRead (a : Ask) (index sub : Nat) (s : State) : Host.Outcome State Fault Refusal := done s (serve 0x10 index sub a s.dev)
/-- WRITE (R367). -/
def execWrite (a : Ask) (index sub : Nat) (s : State) : Host.Outcome State Fault Refusal := done s (serve 0x11 index sub a s.dev)
/-- READ_SEGMENTED_START (R371). -/
def execReadSegmentedStart (a : Ask) (index sub : Nat) (s : State) : Host.Outcome State Fault Refusal := done s (serve 0x12 index sub a s.dev)
/-- READ_SEGMENT (R372). -/
def execReadSegment (a : Ask) (index sub : Nat) (s : State) : Host.Outcome State Fault Refusal := done s (serve 0x13 index sub a s.dev)
/-- WRITE_SEGMENTED_START (R371). -/
def execWriteSegmentedStart (a : Ask) (index sub : Nat) (s : State) : Host.Outcome State Fault Refusal := done s (serve 0x14 index sub a s.dev)
/-- WRITE_SEGMENT (R372, R373). -/
def execWriteSegment (a : Ask) (index sub : Nat) (s : State) : Host.Outcome State Fault Refusal := done s (serve 0x15 index sub a s.dev)
/-- TRANSFER_ABANDON (R372). -/
def execTransferAbandon (a : Ask) (s : State) : Host.Outcome State Fault Refusal := done s (serve 0x16 0 0 a s.dev)
/-- CLAIM_GROUP (R379). -/
def execClaimGroup (a : Ask) (group : Nat) (s : State) : Host.Outcome State Fault Refusal := done s (serve 0x20 group 0 a s.dev)
/-- RELEASE_GROUP (R380). -/
def execReleaseGroup (a : Ask) (group : Nat) (s : State) : Host.Outcome State Fault Refusal := done s (serve 0x21 group 0 a s.dev)
/-- QUERY_OWNER (Table 12.9). -/
def execQueryOwner (a : Ask) (group : Nat) (s : State) : Host.Outcome State Fault Refusal := done s (serve 0x22 group 0 a s.dev)
/-- SUBSCRIBE (R382, R383). -/
def execSubscribe (a : Ask) (s : State) : Host.Outcome State Fault Refusal := done s (serve 0x30 0 0 a s.dev)
/-- UNSUBSCRIBE (R383). -/
def execUnsubscribe (a : Ask) (s : State) : Host.Outcome State Fault Refusal := done s (serve 0x31 0 0 a s.dev)

/-! The ring and the legs (chapters 2 and 3). -/

/-- CONTACTOR_TEST (R57). -/
def execContactorTest (a : Ask) (s : State) : Host.Outcome State Fault Refusal := done s (serveWrite 0x2806 0x01 a s.dev)
/-- CLEAR_FROZEN_TIE (R47). -/
def execClearFrozenTie (a : Ask) (s : State) : Host.Outcome State Fault Refusal := done s (serveWrite 0x2806 0x02 a s.dev)
/-- CLEAR_CONTACTOR_TRAVEL_FAULT (R47). -/
def execClearContactorTravelFault (a : Ask) (s : State) : Host.Outcome State Fault Refusal := done s (serveWrite 0x2806 0x03 a s.dev)
/-- RING_CONFIGURATION_WRITE (R56). -/
def execRingConfigurationWrite (a : Ask) (index sub : Nat) (s : State) : Host.Outcome State Fault Refusal := done s (serveWrite index sub a s.dev)
/-- ISOLATION_REQUEST (R174). -/
def execIsolationRequest (a : Ask) (k : Fin 24) (s : State) : Host.Outcome State Fault Refusal := done s (serveWrite (0x2200 + k.val) 0x02 a s.dev)
/-- LEG_FAULT_RESET (R90). -/
def execLegFaultReset (a : Ask) (n : Fin 96) (s : State) : Host.Outcome State Fault Refusal := done s (serveValue (0x2000 + n.val) 0x07 1 1 a s.dev)
/-- LEG_ENABLE_WRITE (R90). -/
def execLegEnableWrite (a : Ask) (n : Fin 96) (s : State) : Host.Outcome State Fault Refusal := done s (serveWrite (0x2000 + n.val) 0x01 a s.dev)
/-- PEAK_CAPTURE (R89). -/
def execPeakCapture (a : Ask) (brick : Bool) (n : Nat) (s : State) : Host.Outcome State Fault Refusal := done s (serveValue ((if brick then 0x2200 else 0x2100) + n) (if brick then 0x26 else 0x20) 1 1 a s.dev)

/-! Rails (chapter 4). -/

/-- CONTROL_SOURCE_WRITE (R96). -/
def execControlSourceWrite (a : Ask) (j : Fin 12) (s : State) : Host.Outcome State Fault Refusal := done s (serveWrite (0x2401 + 16 * j.val) 0x01 a s.dev)
/-- SETPOINT_INDEX_WRITE (R97). -/
def execSetpointIndexWrite (a : Ask) (j : Fin 12) (s : State) : Host.Outcome State Fault Refusal := done s (serveWrite (0x2401 + 16 * j.val) 0x02 a s.dev)
/-- DIRECT_SETPOINT_WRITE (R97). -/
def execDirectSetpointWrite (a : Ask) (j : Fin 12) (s : State) : Host.Outcome State Fault Refusal := done s (serveWrite (0x2401 + 16 * j.val) 0x03 a s.dev)
/-- MODE_REQUEST_WRITE (R95). -/
def execModeRequestWrite (a : Ask) (j : Fin 12) (s : State) : Host.Outcome State Fault Refusal := done s (serveWrite (0x2401 + 16 * j.val) 0x06 a s.dev)
/-- RAIL_START (R105). -/
def execRailStart (a : Ask) (j : Fin 12) (s : State) : Host.Outcome State Fault Refusal := done s (serveValue (0x2401 + 16 * j.val) 0x0A 1 1 a s.dev)
/-- RAIL_STOP (R111). -/
def execRailStop (a : Ask) (j : Fin 12) (s : State) : Host.Outcome State Fault Refusal := done s (serveValue (0x2401 + 16 * j.val) 0x0B 1 1 a s.dev)
/-- RAIL_ISOLATE (R114). -/
def execRailIsolate (a : Ask) (j : Fin 12) (s : State) : Host.Outcome State Fault Refusal := done s (serveValue (0x2401 + 16 * j.val) 0x0C 1 1 a s.dev)
/-- RAIL_RESTORE (R114). -/
def execRailRestore (a : Ask) (j : Fin 12) (s : State) : Host.Outcome State Fault Refusal := done s (serveValue (0x2401 + 16 * j.val) 0x0C 1 2 a s.dev)
/-- RATIOMETRIC_START (R109). -/
def execRatiometricStart (a : Ask) (j : Fin 12) (s : State) : Host.Outcome State Fault Refusal := done s (serveValue (0x2405 + 16 * j.val) 0x04 1 1 a s.dev)

/-! The loop engine (chapter 5). -/

/-- CLASS_FORMAT_WRITE (R127). -/
def execClassFormatWrite (a : Ask) (cls : Fin 4) (s : State) : Host.Outcome State Fault Refusal := done s (serveWrite 0x2600 (7 + cls.val) a s.dev)
/-- COEFFICIENT_WRITE (R127). -/
def execCoefficientWrite (a : Ask) (index sub : Nat) (s : State) : Host.Outcome State Fault Refusal := done s (serveWrite index sub a s.dev)
/-- GENERATOR_TARGET_WRITE (R137). -/
def execGeneratorTargetWrite (a : Ask) (g : Fin 28) (sub : Nat) (s : State) : Host.Outcome State Fault Refusal := done s (serveWrite (0x2680 + g.val) sub a s.dev)
/-- GENERATOR_START (R141). -/
def execGeneratorStart (a : Ask) (g : Fin 28) (s : State) : Host.Outcome State Fault Refusal := done s (serveValue (0x2680 + g.val) 0x0F 1 1 a s.dev)
/-- INJECTION_START (R142). -/
def execInjectionStart (a : Ask) (c : Fin 2) (s : State) : Host.Outcome State Fault Refusal := done s (serveValue (0x2700 + 16 * c.val) 0x11 1 1 a s.dev)
/-- INJECTION_STOP (R145). -/
def execInjectionStop (a : Ask) (c : Fin 2) (s : State) : Host.Outcome State Fault Refusal := done s (serveValue (0x2700 + 16 * c.val) 0x12 1 1 a s.dev)
/-- FOLLOWING_ERROR_RESET (R140). -/
def execFollowingErrorReset (a : Ask) (x : Fin 12) (s : State) : Host.Outcome State Fault Refusal := done s (serveValue (0x2640 + x.val) 0x0C 1 1 a s.dev)

/-! The allocator (chapter 6). -/

/-- GRID_LIMIT_WRITE (R152). -/
def execGridLimitWrite (a : Ask) (sub : Nat) (s : State) : Host.Outcome State Fault Refusal := done s (serveWrite 0x2811 sub a s.dev)
/-- REPLAN (R159). -/
def execReplan (a : Ask) (s : State) : Host.Outcome State Fault Refusal := done s (serveValue 0x2817 0x0B 1 1 a s.dev)
/-- LAYOUT_HOLD_WRITE (R177). -/
def execLayoutHoldWrite (a : Ask) (s : State) : Host.Outcome State Fault Refusal := done s (serveWrite 0x2810 0x0D a s.dev)

/-! Outlets (chapter 7). -/

/-- OUTLET_STOP (R183). -/
def execOutletStop (a : Ask) (k : Fin 12) (s : State) : Host.Outcome State Fault Refusal := done s (serveValue (0x3003 + 16 * k.val) 0x01 1 1 a s.dev)
/-- OUTLET_OUT_OF_SERVICE (R209). -/
def execOutletOutOfService (a : Ask) (k : Fin 12) (s : State) : Host.Outcome State Fault Refusal := done s (serveValue (0x3003 + 16 * k.val) 0x02 1 1 a s.dev)
/-- OUTLET_RETURN_TO_SERVICE (R181). -/
def execOutletReturnToService (a : Ask) (k : Fin 12) (s : State) : Host.Outcome State Fault Refusal := done s (serveValue (0x3003 + 16 * k.val) 0x02 1 2 a s.dev)
/-- OUTLET_FAULT_RESET (R209). -/
def execOutletFaultReset (a : Ask) (k : Fin 12) (s : State) : Host.Outcome State Fault Refusal := done s (serveValue (0x3003 + 16 * k.val) 0x03 1 1 a s.dev)
/-- AUTHORIZATION_RESULT_WRITE (R191). -/
def execAuthorizationResultWrite (a : Ask) (k : Fin 12) (s : State) : Host.Outcome State Fault Refusal := done s (serveWrite (0x3120 + k.val) 0x01 a s.dev)

/-! Metrology (chapter 8). -/

/-- PAIR_HEAD (R217). -/
def execPairHead (a : Ask) (k : Fin 12) (s : State) : Host.Outcome State Fault Refusal := done s (serveValue (0x3830 + k.val) 0x06 1 1 a s.dev)
/-- METROLOGY_WINDOW_OPEN (R244). -/
def execMetrologyWindowOpen (a : Ask) (s : State) : Host.Outcome State Fault Refusal := done s (serveValue 0x3800 0x07 1 1 a s.dev)
/-- METROLOGY_WINDOW_CLOSE (R244). -/
def execMetrologyWindowClose (a : Ask) (s : State) : Host.Outcome State Fault Refusal := done s (serveValue 0x3800 0x07 1 2 a s.dev)
/-- SEAL_RELEVANT_WRITE (R244). -/
def execSealRelevantWrite (a : Ask) (index sub : Nat) (s : State) : Host.Outcome State Fault Refusal := done s (serveWrite index sub a s.dev)

/-! Safety (chapter 9). -/

/-- SF2_FAULT_RESET (R260). -/
def execSf2FaultReset (a : Ask) (s : State) : Host.Outcome State Fault Refusal := done s (serveWrite 0x4007 0x01 a s.dev)
/-- SF1_FAULT_RESET (R260). -/
def execSf1FaultReset (a : Ask) (s : State) : Host.Outcome State Fault Refusal := done s (serveWrite 0x4007 0x02 a s.dev)
/-- SAFETY_RESTART (R293). -/
def execSafetyRestart (a : Ask) (s : State) : Host.Outcome State Fault Refusal := done s (serveValue 0x4000 0x08 1 1 a s.dev)
/-- PASSWORD_WRITE (R287). -/
def execPasswordWrite (a : Ask) (s : State) : Host.Outcome State Fault Refusal := done s (serveWrite 0x4060 0x01 a s.dev)
/-- TRANSACTION_OPEN (R287). -/
def execTransactionOpen (a : Ask) (s : State) : Host.Outcome State Fault Refusal := done s (serveValue 0x4060 0x02 1 1 a s.dev)
/-- TRANSACTION_COMMIT (R291). -/
def execTransactionCommit (a : Ask) (s : State) : Host.Outcome State Fault Refusal := done s (serveValue 0x4060 0x02 1 2 a s.dev)
/-- TRANSACTION_ABORT (R292). -/
def execTransactionAbort (a : Ask) (s : State) : Host.Outcome State Fault Refusal := done s (serveValue 0x4060 0x02 1 3 a s.dev)
/-- SAFE_WRITE (R288). -/
def execSafeWrite (a : Ask) (index sub : Nat) (s : State) : Host.Outcome State Fault Refusal := done s (serveWrite index sub a s.dev)

/-! Load channels (chapter 10). -/

/-- CHANNEL_COMMAND_WRITE (R299). -/
def execChannelCommandWrite (a : Ask) (duty : Bool) (n : Fin 64) (s : State) : Host.Outcome State Fault Refusal := done s (serveWrite (if duty then 0x4411 else 0x4410) (n.val + 1) a s.dev)
/-- CHANNEL_CLEAR (R305). -/
def execChannelClear (a : Ask) (n : Fin 64) (s : State) : Host.Outcome State Fault Refusal := done s (serveValue 0x4417 (n.val + 1) 1 1 a s.dev)
/-- FORCED_SELECT_WRITE (R312). -/
def execForcedSelectWrite (a : Ask) (s : State) : Host.Outcome State Fault Refusal := done s (serveWrite 0x4400 0x05 a s.dev)
/-- EXTERNAL_SELECT_PERMIT_WRITE (R312). -/
def execExternalSelectPermitWrite (a : Ask) (s : State) : Host.Outcome State Fault Refusal := done s (serveWrite 0x4400 0x04 a s.dev)
/-- LIMP_HOME_MAP_WRITE (R313). -/
def execLimpHomeMapWrite (a : Ask) (n : Fin 8) (s : State) : Host.Outcome State Fault Refusal := done s (serveWrite 0x4430 (n.val + 1) a s.dev)
/-- GENERAL_INPUT_ENABLE_WRITE (R314). -/
def execGeneralInputEnableWrite (a : Ask) (s : State) : Host.Outcome State Fault Refusal := done s (serveWrite 0x4432 0x01 a s.dev)

/-! Pairing, the site bus, time following and Eaveline (chapters 11 to 13). -/

/-- SWAP (R344). -/
def execSwap (a : Ask) (s : State) : Host.Outcome State Fault Refusal := done s (serveValue 0x1C00 0x0C 1 1 a s.dev)
/-- PAIRING_CONFIGURATION_WRITE (R345). -/
def execPairingConfigurationWrite (a : Ask) (sub : Nat) (s : State) : Host.Outcome State Fault Refusal := done s (serveWrite 0x1C00 sub a s.dev)
/-- RE_CLAIM (R364). -/
def execReClaim (a : Ask) (s : State) : Host.Outcome State Fault Refusal := done s (serveValue 0x1200 0x04 1 1 a s.dev)
/-- WALL_CLOCK_WRITE (R390). -/
def execWallClockWrite (a : Ask) (s : State) : Host.Outcome State Fault Refusal := done s (serveWrite 0x1420 0x0B a s.dev)
/-- REMOVE_NODE (R417). -/
def execRemoveNode (a : Ask) (s : State) : Host.Outcome State Fault Refusal := done s (serveWrite 0x1300 0x0C a s.dev)
/-- EXPECTED_SERIAL_WRITE (R417). -/
def execExpectedSerialWrite (a : Ask) (n : Fin 16) (s : State) : Host.Outcome State Fault Refusal := done s (serveWrite (0x1310 + n.val) 0x01 a s.dev)

/-! Sample movement and snapshots (chapter 14). -/

/-- DMA_CHANNEL_START (R422). -/
def execDmaChannelStart (a : Ask) (c : Fin 16) (s : State) : Host.Outcome State Fault Refusal := done s (serveWrite (0x1810 + c.val) 0x04 a s.dev)
/-- DMA_STOP_REQUEST (R424). -/
def execDmaStopRequest (a : Ask) (c : Fin 16) (s : State) : Host.Outcome State Fault Refusal := done s (serveValue (0x1810 + c.val) 0x04 4 (2 ^ 30) a s.dev)
/-- DMA_CHANNEL_REGISTER_WRITE (R425). -/
def execDmaChannelRegisterWrite (a : Ask) (c : Fin 16) (reg : Fin 4) (s : State) : Host.Outcome State Fault Refusal := done s (serveWrite (0x1810 + c.val) (reg.val + 1) a s.dev)
/-- DESCRIPTOR_WRITE (R425). -/
def execDescriptorWrite (a : Ask) (n : Fin 256) (s : State) : Host.Outcome State Fault Refusal := done s (serveWrite (0x1840 + n.val / 64) (n.val % 64 + 1) a s.dev)
/-- CAPTURE_CLAIM (R427). -/
def execCaptureClaim (a : Ask) (s : State) : Host.Outcome State Fault Refusal := done s (serveValue 0x1880 0x03 1 1 a s.dev)
/-- CAPTURE_RELEASE (R427). -/
def execCaptureRelease (a : Ask) (s : State) : Host.Outcome State Fault Refusal := done s (serveValue 0x1880 0x04 1 1 a s.dev)
/-- SNAPSHOT_TRIGGER_COMMAND (R430). -/
def execSnapshotTriggerCommand (a : Ask) (s : State) : Host.Outcome State Fault Refusal := done s (serveValue 0x1900 0x01 1 1 a s.dev)

/-! Keys, life cycle, images and leaves (chapter 15). -/

/-- TRANSITION_ARM (R445). -/
def execTransitionArm (a : Ask) (s : State) : Host.Outcome State Fault Refusal := done s (serveWrite 0x1A00 0x03 a s.dev)
/-- TRANSITION_TO_FIELD (R444). -/
def execTransitionToField (a : Ask) (s : State) : Host.Outcome State Fault Refusal := done s (serveValue 0x1A00 0x04 1 3 a s.dev)
/-- TRANSITION_TO_RETURN (R444). -/
def execTransitionToReturn (a : Ask) (s : State) : Host.Outcome State Fault Refusal := done s (serveValue 0x1A00 0x04 1 4 a s.dev)
/-- TRANSITION_TO_DECOMMISSIONED (R444). -/
def execTransitionToDecommissioned (a : Ask) (s : State) : Host.Outcome State Fault Refusal := done s (serveValue 0x1A00 0x04 1 5 a s.dev)
/-- KEY_VALUE_WRITE (R449). -/
def execKeyValueWrite (a : Ask) (k : Fin 64) (s : State) : Host.Outcome State Fault Refusal := done s (serveWrite (0x1A40 + k.val) 0x03 a s.dev)
/-- KEY_GENERATE (R450). -/
def execKeyGenerate (a : Ask) (k : Fin 64) (s : State) : Host.Outcome State Fault Refusal := done s (serveValue (0x1A40 + k.val) 0x04 1 1 a s.dev)
/-- KEY_DELETE (R449). -/
def execKeyDelete (a : Ask) (k : Fin 64) (s : State) : Host.Outcome State Fault Refusal := done s (serveValue (0x1A40 + k.val) 0x07 1 1 a s.dev)
/-- PUBLIC_ITEM_WRITE (R452). -/
def execPublicItemWrite (a : Ask) (index sub : Nat) (s : State) : Host.Outcome State Fault Refusal := done s (serveWrite index sub a s.dev)
/-- IMAGE_STAGE (R455): the whole image, as its segmented write completes. -/
def execImageStage (a : Ask) (t : Fin 5) (s : State) : Host.Outcome State Fault Refusal := done s (serveWrite (0x1B10 + t.val) 0x01 a s.dev)
/-- DISCARD_STAGED (Table 15.13). -/
def execDiscardStaged (a : Ask) (t : Fin 5) (s : State) : Host.Outcome State Fault Refusal := done s (serveValue (0x1B10 + t.val) 0x0A 1 1 a s.dev)
/-- FALL_BACK (R457). -/
def execFallBack (a : Ask) (t : Fin 5) (s : State) : Host.Outcome State Fault Refusal := done s (serveValue (0x1B10 + t.val) 0x0B 1 1 a s.dev)
/-- ACTIVATE_MODULE (R460). -/
def execActivateModule (a : Ask) (t : Fin 5) (s : State) : Host.Outcome State Fault Refusal := done s (serveValue 0x1B20 0x01 1 t.val a s.dev)
/-- ACTIVATE_PAIR (R463). -/
def execActivatePair (a : Ask) (t : Fin 5) (s : State) : Host.Outcome State Fault Refusal := done s (serveValue 0x1B20 0x01 1 (16 + t.val) a s.dev)
/-- COMMIT (R470). -/
def execCommit (a : Ask) (s : State) : Host.Outcome State Fault Refusal := done s (serveValue 0x1B40 0x01 1 1 a s.dev)
/-- RESTORE_DEFAULTS (R472). -/
def execRestoreDefaults (a : Ask) (s : State) : Host.Outcome State Fault Refusal := done s (serveValue 0x1B40 0x04 1 1 a s.dev)

end Sys2Proof.Machine
end

