-- ==== Sys2Proof/Machine/Dispatch.lean ====
section
/-! DEFINITION. Which meaning each command has. -/
namespace Sys2Proof.Machine

/-- A command's effect on everything but the queue. -/
def exec (i : Instr) (s : State) : Host.Outcome State Fault Refusal :=
  match i with
  | .controlPeriod ecc => Sys2Proof.Machine.execControlPeriod ecc s
  | .heartbeat at_ m => Sys2Proof.Machine.execHeartbeat at_ m s
  | .barrierLoss at_ => Sys2Proof.Machine.execBarrierLoss at_ s
  | .timeMark isl offset => Sys2Proof.Machine.execTimeMark isl offset s
  | .channelStale ch => Sys2Proof.Machine.execChannelStale ch s
  | .referenceSwitch refIn => Sys2Proof.Machine.execReferenceSwitch refIn s
  | .peerTimeTransfer holderTime arrival => Sys2Proof.Machine.execPeerTimeTransfer holderTime arrival s
  | .laneNextMessage lane => Sys2Proof.Machine.execLaneNextMessage lane s
  | .laneRealign lane => Sys2Proof.Machine.execLaneRealign lane s
  | .dictionaryRequest m => Sys2Proof.Machine.execDictionaryRequest m s
  | .dictionaryResponse m => Sys2Proof.Machine.execDictionaryResponse m s
  | .sessionNotice m n => Sys2Proof.Machine.execSessionNotice m n s
  | .ridgeFrameToSafety m => Sys2Proof.Machine.execRidgeFrameToSafety m s
  | .ridgeFrameFromSafety m => Sys2Proof.Machine.execRidgeFrameFromSafety m s
  | .vehicleTargetUpdate m => Sys2Proof.Machine.execVehicleTargetUpdate m s
  | .outletStatus m => Sys2Proof.Machine.execOutletStatus m s
  | .sitePowerData m x => Sys2Proof.Machine.execSitePowerData m x s
  | .headData m x => Sys2Proof.Machine.execHeadData m x s
  | .meteringRecord m => Sys2Proof.Machine.execMeteringRecord m s
  | .meteringRecordAcknowledge m => Sys2Proof.Machine.execMeteringRecordAcknowledge m s
  | .meteringRecordRetransmit seq => Sys2Proof.Machine.execMeteringRecordRetransmit seq s
  | .scribeNotice m => Sys2Proof.Machine.execScribeNotice m s
  | .snapshotFragment m set part => Sys2Proof.Machine.execSnapshotFragment m set part s
  | .imageBlock m t offset block => Sys2Proof.Machine.execImageBlock m t offset block s
  | .powerFailNotice => Sys2Proof.Machine.execPowerFailNotice s
  | .lifeCycleNotice m to_ => Sys2Proof.Machine.execLifeCycleNotice m to_ s
  | .event m => Sys2Proof.Machine.execEvent m s
  | .contactorTravelConfirmed x => Sys2Proof.Machine.execContactorTravelConfirmed x s
  | .contactorTravelFault x => Sys2Proof.Machine.execContactorTravelFault x s
  | .contactDisagreement x => Sys2Proof.Machine.execContactDisagreement x s
  | .contactorTest a => Sys2Proof.Machine.execContactorTest a s
  | .clearFrozenTie a => Sys2Proof.Machine.execClearFrozenTie a s
  | .clearContactorTravelFault a => Sys2Proof.Machine.execClearContactorTravelFault a s
  | .ringConfigurationWrite a index sub => Sys2Proof.Machine.execRingConfigurationWrite a index sub s
  | .isolationRequest a k => Sys2Proof.Machine.execIsolationRequest a k s
  | .uplinkDeadline port u => Sys2Proof.Machine.execUplinkDeadline port u s
  | .linkHoldExpiry k => Sys2Proof.Machine.execLinkHoldExpiry k s
  | .brickLinkUp port => Sys2Proof.Machine.execBrickLinkUp port s
  | .legLostRecovery n => Sys2Proof.Machine.execLegLostRecovery n s
  | .portDelayMeasurement k arrival => Sys2Proof.Machine.execPortDelayMeasurement k arrival s
  | .downlinkFrameAccept card port f => Sys2Proof.Machine.execDownlinkFrameAccept card port f s
  | .cardDownlinkDeadline card => Sys2Proof.Machine.execCardDownlinkDeadline card s
  | .cardContactorHold k => Sys2Proof.Machine.execCardContactorHold k s
  | .serviceRequest card port request => Sys2Proof.Machine.execServiceRequest card port request s
  | .fieldIslandRestart => Sys2Proof.Machine.execFieldIslandRestart s
  | .syncInEdge at_ => Sys2Proof.Machine.execSyncInEdge at_ s
  | .syncLoss offRate => Sys2Proof.Machine.execSyncLoss offRate s
  | .diodeEmulationEntry n => Sys2Proof.Machine.execDiodeEmulationEntry n s
  | .shedDwellExpiry head => Sys2Proof.Machine.execShedDwellExpiry head s
  | .brakingWindowEnd n => Sys2Proof.Machine.execBrakingWindowEnd n s
  | .senseImplausible n => Sys2Proof.Machine.execSenseImplausible n s
  | .legFaultReset a n => Sys2Proof.Machine.execLegFaultReset a n s
  | .legEnableWrite a n => Sys2Proof.Machine.execLegEnableWrite a n s
  | .peakCapture a brick n => Sys2Proof.Machine.execPeakCapture a brick n s
  | .telemetryWindowEnd w => Sys2Proof.Machine.execTelemetryWindowEnd w s
  | .controlSourceWrite a j => Sys2Proof.Machine.execControlSourceWrite a j s
  | .setpointIndexWrite a j => Sys2Proof.Machine.execSetpointIndexWrite a j s
  | .directSetpointWrite a j => Sys2Proof.Machine.execDirectSetpointWrite a j s
  | .modeRequestWrite a j => Sys2Proof.Machine.execModeRequestWrite a j s
  | .railStart a j => Sys2Proof.Machine.execRailStart a j s
  | .railStop a j => Sys2Proof.Machine.execRailStop a j s
  | .railIsolate a j => Sys2Proof.Machine.execRailIsolate a j s
  | .railRestore a j => Sys2Proof.Machine.execRailRestore a j s
  | .ratiometricStart a j => Sys2Proof.Machine.execRatiometricStart a j s
  | .startSettleExpiry j => Sys2Proof.Machine.execStartSettleExpiry j s
  | .trackingTimeout j => Sys2Proof.Machine.execTrackingTimeout j s
  | .ratiometricPauseLimit j => Sys2Proof.Machine.execRatiometricPauseLimit j s
  | .drainTimeout j => Sys2Proof.Machine.execDrainTimeout j s
  | .episodePause j => Sys2Proof.Machine.execEpisodePause j s
  | .railSenseLost j => Sys2Proof.Machine.execRailSenseLost j s
  | .classFormatWrite a cls => Sys2Proof.Machine.execClassFormatWrite a cls s
  | .coefficientWrite a index sub => Sys2Proof.Machine.execCoefficientWrite a index sub s
  | .generatorTargetWrite a g sub => Sys2Proof.Machine.execGeneratorTargetWrite a g sub s
  | .generatorStart a g => Sys2Proof.Machine.execGeneratorStart a g s
  | .generatorStartDelayExpiry g => Sys2Proof.Machine.execGeneratorStartDelayExpiry g s
  | .thermalInputStale w => Sys2Proof.Machine.execThermalInputStale w s
  | .injectionStart a c => Sys2Proof.Machine.execInjectionStart a c s
  | .injectionStop a c => Sys2Proof.Machine.execInjectionStop a c s
  | .injectionEnd c => Sys2Proof.Machine.execInjectionEnd c s
  | .followingErrorTimer x => Sys2Proof.Machine.execFollowingErrorTimer x s
  | .followingErrorReset a x => Sys2Proof.Machine.execFollowingErrorReset a x s
  | .planningCycle => Sys2Proof.Machine.execPlanningCycle s
  | .planningOverrun => Sys2Proof.Machine.execPlanningOverrun s
  | .gridLimitWrite a sub => Sys2Proof.Machine.execGridLimitWrite a sub s
  | .gridLimitExpiry => Sys2Proof.Machine.execGridLimitExpiry s
  | .frontEndStale n => Sys2Proof.Machine.execFrontEndStale n s
  | .frontEndStaleHoldExpiry n => Sys2Proof.Machine.execFrontEndStaleHoldExpiry n s
  | .moveStart n => Sys2Proof.Machine.execMoveStart n s
  | .handoverEnd n => Sys2Proof.Machine.execHandoverEnd n s
  | .handoverTimeout n => Sys2Proof.Machine.execHandoverTimeout n s
  | .openWaitLimit n => Sys2Proof.Machine.execOpenWaitLimit n s
  | .restoreWaitLimit n => Sys2Proof.Machine.execRestoreWaitLimit n s
  | .releaseHoldExpiry head => Sys2Proof.Machine.execReleaseHoldExpiry head s
  | .replan a => Sys2Proof.Machine.execReplan a s
  | .layoutHoldWrite a => Sys2Proof.Machine.execLayoutHoldWrite a s
  | .connectionDetected k => Sys2Proof.Machine.execConnectionDetected k s
  | .unplugDetected k => Sys2Proof.Machine.execUnplugDetected k s
  | .plugTimeout k => Sys2Proof.Machine.execPlugTimeout k s
  | .targetTimeout k => Sys2Proof.Machine.execTargetTimeout k s
  | .outletStop a k => Sys2Proof.Machine.execOutletStop a k s
  | .outletOutOfService a k => Sys2Proof.Machine.execOutletOutOfService a k s
  | .outletReturnToService a k => Sys2Proof.Machine.execOutletReturnToService a k s
  | .outletFaultReset a k => Sys2Proof.Machine.execOutletFaultReset a k s
  | .authorizationResultWrite a k => Sys2Proof.Machine.execAuthorizationResultWrite a k s
  | .authorizationTimeout k => Sys2Proof.Machine.execAuthorizationTimeout k s
  | .vehicleMessage k v => Sys2Proof.Machine.execVehicleMessage k v s
  | .cableCheckRailReady k => Sys2Proof.Machine.execCableCheckRailReady k s
  | .imdSettleExpiry k => Sys2Proof.Machine.execImdSettleExpiry k s
  | .cableCheckTimeout k => Sys2Proof.Machine.execCableCheckTimeout k s
  | .cableShort k => Sys2Proof.Machine.execCableShort k s
  | .imdReading k kohm status stamp => Sys2Proof.Machine.execImdReading k kohm status stamp s
  | .imdAgeExpiry k => Sys2Proof.Machine.execImdAgeExpiry k s
  | .directionChangeComplete k => Sys2Proof.Machine.execDirectionChangeComplete k s
  | .fastStopEnd k => Sys2Proof.Machine.execFastStopEnd k s
  | .outletContactorOpen k => Sys2Proof.Machine.execOutletContactorOpen k s
  | .faultedRailStop k => Sys2Proof.Machine.execFaultedRailStop k s
  | .winddownTimeout k => Sys2Proof.Machine.execWinddownTimeout k s
  | .weldCheckPass k => Sys2Proof.Machine.execWeldCheckPass k s
  | .cableDischargeExpiry k => Sys2Proof.Machine.execCableDischargeExpiry k s
  | .headStale k => Sys2Proof.Machine.execHeadStale k s
  | .deratingUpdate => Sys2Proof.Machine.execDeratingUpdate s
  | .flowFault k => Sys2Proof.Machine.execFlowFault k s
  | .flowFaultClear k => Sys2Proof.Machine.execFlowFaultClear k s
  | .runOnExpiry k => Sys2Proof.Machine.execRunOnExpiry k s
  | .meteringUplinkFrame k arrival f => Sys2Proof.Machine.execMeteringUplinkFrame k arrival f s
  | .meteringDownlinkFrame k => Sys2Proof.Machine.execMeteringDownlinkFrame k s
  | .meteringIntervalEnd => Sys2Proof.Machine.execMeteringIntervalEnd s
  | .pulseBacklogIssue p => Sys2Proof.Machine.execPulseBacklogIssue p s
  | .testPulseEdge p => Sys2Proof.Machine.execTestPulseEdge p s
  | .meteringLinkDown k => Sys2Proof.Machine.execMeteringLinkDown k s
  | .meteringLinkUp k => Sys2Proof.Machine.execMeteringLinkUp k s
  | .outletStatusCopy k state time holder => Sys2Proof.Machine.execOutletStatusCopy k state time holder s
  | .meteringSessionOpen k => Sys2Proof.Machine.execMeteringSessionOpen k s
  | .meteringSessionClose k => Sys2Proof.Machine.execMeteringSessionClose k s
  | .recordSigned => Sys2Proof.Machine.execRecordSigned s
  | .lateStartWitness k => Sys2Proof.Machine.execLateStartWitness k s
  | .metrologyRestartContinuation => Sys2Proof.Machine.execMetrologyRestartContinuation s
  | .periodicSave => Sys2Proof.Machine.execPeriodicSave s
  | .finalWriteStart => Sys2Proof.Machine.execFinalWriteStart s
  | .metrologyStartClose => Sys2Proof.Machine.execMetrologyStartClose s
  | .pairHead a k => Sys2Proof.Machine.execPairHead a k s
  | .metrologyWindowOpen a => Sys2Proof.Machine.execMetrologyWindowOpen a s
  | .metrologyWindowClose a => Sys2Proof.Machine.execMetrologyWindowClose a s
  | .metrologyWindowExpiry => Sys2Proof.Machine.execMetrologyWindowExpiry s
  | .sealRelevantWrite a index sub => Sys2Proof.Machine.execSealRelevantWrite a index sub s
  | .safetyCycle core agree read => Sys2Proof.Machine.execSafetyCycle core agree read s
  | .safetyInputSample a b fb => Sys2Proof.Machine.execSafetyInputSample a b fb s
  | .discrepancyTimeout n => Sys2Proof.Machine.execDiscrepancyTimeout n s
  | .darkPulseTest core o took => Sys2Proof.Machine.execDarkPulseTest core o took s
  | .darkPulseTimeout core o => Sys2Proof.Machine.execDarkPulseTimeout core o s
  | .chargePumpTimeout core => Sys2Proof.Machine.execChargePumpTimeout core s
  | .coreDisagreement cause => Sys2Proof.Machine.execCoreDisagreement cause s
  | .safetySelfTestComplete pass => Sys2Proof.Machine.execSafetySelfTestComplete pass s
  | .currentWaitTimeout j => Sys2Proof.Machine.execCurrentWaitTimeout j s
  | .feedbackTimerEnd j => Sys2Proof.Machine.execFeedbackTimerEnd j s
  | .sf2FaultReset a => Sys2Proof.Machine.execSf2FaultReset a s
  | .sf1FaultReset a => Sys2Proof.Machine.execSf1FaultReset a s
  | .safetyFeed => Sys2Proof.Machine.execSafetyFeed s
  | .ridgeWatchdog c => Sys2Proof.Machine.execRidgeWatchdog c s
  | .ridgeFaultRecovery c => Sys2Proof.Machine.execRidgeFaultRecovery c s
  | .ridgeAcknowledge m => Sys2Proof.Machine.execRidgeAcknowledge m s
  | .ridgeProducerWatchdog p => Sys2Proof.Machine.execRidgeProducerWatchdog p s
  | .safetyRestart a => Sys2Proof.Machine.execSafetyRestart a s
  | .passwordWrite a => Sys2Proof.Machine.execPasswordWrite a s
  | .passwordHoldExpiry => Sys2Proof.Machine.execPasswordHoldExpiry s
  | .transactionOpen a => Sys2Proof.Machine.execTransactionOpen a s
  | .transactionCommit a => Sys2Proof.Machine.execTransactionCommit a s
  | .transactionAbort a => Sys2Proof.Machine.execTransactionAbort a s
  | .transactionTimeout => Sys2Proof.Machine.execTransactionTimeout s
  | .safeWrite a index sub => Sys2Proof.Machine.execSafeWrite a index sub s
  | .lockoutExpiry => Sys2Proof.Machine.execLockoutExpiry s
  | .loadCommandTransfer => Sys2Proof.Machine.execLoadCommandTransfer s
  | .channelCommandWrite a duty n => Sys2Proof.Machine.execChannelCommandWrite a duty n s
  | .wireModelUpdate current junction => Sys2Proof.Machine.execWireModelUpdate current junction s
  | .shortCircuitTrip n => Sys2Proof.Machine.execShortCircuitTrip n s
  | .retryDelayExpiry n => Sys2Proof.Machine.execRetryDelayExpiry n s
  | .retryResetExpiry n => Sys2Proof.Machine.execRetryResetExpiry n s
  | .junctionLatch n temp => Sys2Proof.Machine.execJunctionLatch n temp s
  | .channelClear a n => Sys2Proof.Machine.execChannelClear a n s
  | .clampEvent n => Sys2Proof.Machine.execClampEvent n s
  | .senseScanStep pin => Sys2Proof.Machine.execSenseScanStep pin s
  | .extselChange high => Sys2Proof.Machine.execExtselChange high s
  | .forcedSelectWrite a => Sys2Proof.Machine.execForcedSelectWrite a s
  | .externalSelectPermitWrite a => Sys2Proof.Machine.execExternalSelectPermitWrite a s
  | .limpNChange asserted => Sys2Proof.Machine.execLimpNChange asserted s
  | .lhInChange n high => Sys2Proof.Machine.execLhInChange n high s
  | .limpHomeMapWrite a n => Sys2Proof.Machine.execLimpHomeMapWrite a n s
  | .generalInputEnableWrite a => Sys2Proof.Machine.execGeneralInputEnableWrite a s
  | .loadCommandStale => Sys2Proof.Machine.execLoadCommandStale s
  | .orphanTimeout => Sys2Proof.Machine.execOrphanTimeout s
  | .dissipationEstimate => Sys2Proof.Machine.execDissipationEstimate s
  | .openLoadDetection n => Sys2Proof.Machine.execOpenLoadDetection n s
  | .loadSupplyLow => Sys2Proof.Machine.execLoadSupplyLow s
  | .loadSupplyReturn => Sys2Proof.Machine.execLoadSupplyReturn s
  | .dowelRenewalSend => Sys2Proof.Machine.execDowelRenewalSend s
  | .dowelRenewal f => Sys2Proof.Machine.execDowelRenewal f s
  | .leaseExpiry => Sys2Proof.Machine.execLeaseExpiry s
  | .bidGuardExpiry => Sys2Proof.Machine.execBidGuardExpiry s
  | .bid f => Sys2Proof.Machine.execBid f s
  | .bidAnswer f => Sys2Proof.Machine.execBidAnswer f s
  | .bidWaitExpiry => Sys2Proof.Machine.execBidWaitExpiry s
  | .leaseSupportLost => Sys2Proof.Machine.execLeaseSupportLost s
  | .holderLeaseEnd => Sys2Proof.Machine.execHolderLeaseEnd s
  | .swap a => Sys2Proof.Machine.execSwap a s
  | .yield f => Sys2Proof.Machine.execYield f s
  | .yieldAcknowledge f => Sys2Proof.Machine.execYieldAcknowledge f s
  | .yieldAckTimeout => Sys2Proof.Machine.execYieldAckTimeout s
  | .swapBoundary => Sys2Proof.Machine.execSwapBoundary s
  | .mirrorBlock f x => Sys2Proof.Machine.execMirrorBlock f x s
  | .peerStatus f x => Sys2Proof.Machine.execPeerStatus f x s
  | .peerPortUp p => Sys2Proof.Machine.execPeerPortUp p s
  | .peerPortDown p => Sys2Proof.Machine.execPeerPortDown p s
  | .bulkRequest f object => Sys2Proof.Machine.execBulkRequest f object s
  | .bulkData f entries => Sys2Proof.Machine.execBulkData f entries s
  | .resynchronisation holderTime boundary count => Sys2Proof.Machine.execResynchronisation holderTime boundary count s
  | .resyncTimeout => Sys2Proof.Machine.execResyncTimeout s
  | .inStepGained => Sys2Proof.Machine.execInStepGained s
  | .inStepLost cause => Sys2Proof.Machine.execInStepLost cause s
  | .switchOverTargetHoldExpiry k => Sys2Proof.Machine.execSwitchOverTargetHoldExpiry k s
  | .pairingConfigurationWrite a sub => Sys2Proof.Machine.execPairingConfigurationWrite a sub s
  | .canFrameReceived c f extended remote => Sys2Proof.Machine.execCanFrameReceived c f extended remote s
  | .canFrameTransmitted c => Sys2Proof.Machine.execCanFrameTransmitted c s
  | .stagingAdmission c => Sys2Proof.Machine.execStagingAdmission c s
  | .busOff c => Sys2Proof.Machine.execBusOff c s
  | .busOffRecovery c => Sys2Proof.Machine.execBusOffRecovery c s
  | .canHeartbeat => Sys2Proof.Machine.execCanHeartbeat s
  | .addrInHigh => Sys2Proof.Machine.execAddrInHigh s
  | .addressListenExpiry => Sys2Proof.Machine.execAddressListenExpiry s
  | .claimListenExpiry => Sys2Proof.Machine.execClaimListenExpiry s
  | .addressClaim c f => Sys2Proof.Machine.execAddressClaim c f s
  | .claimRetryDelay => Sys2Proof.Machine.execClaimRetryDelay s
  | .reClaim a => Sys2Proof.Machine.execReClaim a s
  | .frontEndStatus c f => Sys2Proof.Machine.execFrontEndStatus c f s
  | .imdReadingFrame c f => Sys2Proof.Machine.execImdReadingFrame c f s
  | .imdCommand k => Sys2Proof.Machine.execImdCommand k s
  | .openSession a client => Sys2Proof.Machine.execOpenSession a client s
  | .closeSession a => Sys2Proof.Machine.execCloseSession a s
  | .keepAlive a => Sys2Proof.Machine.execKeepAlive a s
  | .read a index sub => Sys2Proof.Machine.execRead a index sub s
  | .write a index sub => Sys2Proof.Machine.execWrite a index sub s
  | .readSegmentedStart a index sub => Sys2Proof.Machine.execReadSegmentedStart a index sub s
  | .readSegment a index sub => Sys2Proof.Machine.execReadSegment a index sub s
  | .writeSegmentedStart a index sub => Sys2Proof.Machine.execWriteSegmentedStart a index sub s
  | .writeSegment a index sub => Sys2Proof.Machine.execWriteSegment a index sub s
  | .transferAbandon a => Sys2Proof.Machine.execTransferAbandon a s
  | .transferTimeout n => Sys2Proof.Machine.execTransferTimeout n s
  | .claimGroup a group => Sys2Proof.Machine.execClaimGroup a group s
  | .releaseGroup a group => Sys2Proof.Machine.execReleaseGroup a group s
  | .queryOwner a group => Sys2Proof.Machine.execQueryOwner a group s
  | .subscribe a => Sys2Proof.Machine.execSubscribe a s
  | .unsubscribe a => Sys2Proof.Machine.execUnsubscribe a s
  | .publication n => Sys2Proof.Machine.execPublication n s
  | .sessionTimeout n => Sys2Proof.Machine.execSessionTimeout n s
  | .usbChallengeExpiry => Sys2Proof.Machine.execUsbChallengeExpiry s
  | .tlsConnection port => Sys2Proof.Machine.execTlsConnection port s
  | .tlsHandshakeTimeout n => Sys2Proof.Machine.execTlsHandshakeTimeout n s
  | .tlsIdleTimeout n => Sys2Proof.Machine.execTlsIdleTimeout n s
  | .ptpSync x => Sys2Proof.Machine.execPtpSync x s
  | .ptpSyncLoss => Sys2Proof.Machine.execPtpSyncLoss s
  | .wallClockOffsetSend => Sys2Proof.Machine.execWallClockOffsetSend s
  | .wallClockWrite a => Sys2Proof.Machine.execWallClockWrite a s
  | .eavelineCycle => Sys2Proof.Machine.execEavelineCycle s
  | .cycleHeader n content crc => Sys2Proof.Machine.execCycleHeader n content crc s
  | .controlBlock n b => Sys2Proof.Machine.execControlBlock n b s
  | .dataBlock n ridge b => Sys2Proof.Machine.execDataBlock n ridge b s
  | .messageReassemblyTimeout n => Sys2Proof.Machine.execMessageReassemblyTimeout n s
  | .robustStepUp n snr => Sys2Proof.Machine.execRobustStepUp n snr s
  | .stepUpCountReset n => Sys2Proof.Machine.execStepUpCountReset n s
  | .layoutSwitch => Sys2Proof.Machine.execLayoutSwitch s
  | .admissionAnswer n b => Sys2Proof.Machine.execAdmissionAnswer n b s
  | .nodeRefusedRetry n => Sys2Proof.Machine.execNodeRefusedRetry n s
  | .nodeLost n => Sys2Proof.Machine.execNodeLost n s
  | .nodePreambleLoss n => Sys2Proof.Machine.execNodePreambleLoss n s
  | .zeroCrossingReport n report => Sys2Proof.Machine.execZeroCrossingReport n report s
  | .mainsRefCrossing at_ => Sys2Proof.Machine.execMainsRefCrossing at_ s
  | .removeNode a => Sys2Proof.Machine.execRemoveNode a s
  | .expectedSerialWrite a n => Sys2Proof.Machine.execExpectedSerialWrite a n s
  | .eavelineStateSync x => Sys2Proof.Machine.execEavelineStateSync x s
  | .eavelineMasterTake => Sys2Proof.Machine.execEavelineMasterTake s
  | .dmaChannelStart a c => Sys2Proof.Machine.execDmaChannelStart a c s
  | .dmaStopRequest a c => Sys2Proof.Machine.execDmaStopRequest a c s
  | .dmaDescriptorEnd c => Sys2Proof.Machine.execDmaDescriptorEnd c s
  | .dmaChannelRegisterWrite a c reg => Sys2Proof.Machine.execDmaChannelRegisterWrite a c reg s
  | .descriptorWrite a n => Sys2Proof.Machine.execDescriptorWrite a n s
  | .captureClaim a => Sys2Proof.Machine.execCaptureClaim a s
  | .captureRelease a => Sys2Proof.Machine.execCaptureRelease a s
  | .snapshotTriggerCommand a => Sys2Proof.Machine.execSnapshotTriggerCommand a s
  | .snapInEdge rising => Sys2Proof.Machine.execSnapInEdge rising s
  | .partnerScribeTrigger => Sys2Proof.Machine.execPartnerScribeTrigger s
  | .snapshotFieldStore => Sys2Proof.Machine.execSnapshotFieldStore s
  | .snapshotSetValid set => Sys2Proof.Machine.execSnapshotSetValid set s
  | .eventRaised isl name data => Sys2Proof.Machine.execEventRaised isl name data s
  | .eventQueueRoom isl => Sys2Proof.Machine.execEventQueueRoom isl s
  | .eventLogFlush => Sys2Proof.Machine.execEventLogFlush s
  | .transitionArm a => Sys2Proof.Machine.execTransitionArm a s
  | .transitionToField a => Sys2Proof.Machine.execTransitionToField a s
  | .transitionToReturn a => Sys2Proof.Machine.execTransitionToReturn a s
  | .transitionToDecommissioned a => Sys2Proof.Machine.execTransitionToDecommissioned a s
  | .factoryTransition to_ => Sys2Proof.Machine.execFactoryTransition to_ s
  | .keyValueWrite a k => Sys2Proof.Machine.execKeyValueWrite a k s
  | .keyGenerate a k => Sys2Proof.Machine.execKeyGenerate a k s
  | .keyDelete a k => Sys2Proof.Machine.execKeyDelete a k s
  | .publicItemWrite a index sub => Sys2Proof.Machine.execPublicItemWrite a index sub s
  | .keySlotLoad k ends => Sys2Proof.Machine.execKeySlotLoad k ends s
  | .keySlotWaitTimeout => Sys2Proof.Machine.execKeySlotWaitTimeout s
  | .imageStage a t => Sys2Proof.Machine.execImageStage a t s
  | .discardStaged a t => Sys2Proof.Machine.execDiscardStaged a t s
  | .fallBack a t => Sys2Proof.Machine.execFallBack a t s
  | .activateModule a t => Sys2Proof.Machine.execActivateModule a t s
  | .activatePair a t => Sys2Proof.Machine.execActivatePair a t s
  | .fxWinddownEnd => Sys2Proof.Machine.execFxWinddownEnd s
  | .bootCheck t => Sys2Proof.Machine.execBootCheck t s
  | .trialConfirm t => Sys2Proof.Machine.execTrialConfirm t s
  | .confirmTimeout t => Sys2Proof.Machine.execConfirmTimeout t s
  | .commit a => Sys2Proof.Machine.execCommit a s
  | .autoCommit st => Sys2Proof.Machine.execAutoCommit st s
  | .leafWriteComplete st readBack => Sys2Proof.Machine.execLeafWriteComplete st readBack s
  | .restoreDefaults a => Sys2Proof.Machine.execRestoreDefaults a s
  | .fieldPowerFailWarning => Sys2Proof.Machine.execFieldPowerFailWarning s
  | .fieldSequenceEnd => Sys2Proof.Machine.execFieldSequenceEnd s
  | .hostPowerFailWarning => Sys2Proof.Machine.execHostPowerFailWarning s
  | .fieldPowerUp cold => Sys2Proof.Machine.execFieldPowerUp cold s
  | .hostPowerUp => Sys2Proof.Machine.execHostPowerUp s
  | .holdupCharged energy => Sys2Proof.Machine.execHoldupCharged energy s
  | .domainStartFailed isl => Sys2Proof.Machine.execDomainStartFailed isl s
  | .supplyRedundancyLost n volts => Sys2Proof.Machine.execSupplyRedundancyLost n volts s
  | .supplyRedundancyRestored n volts => Sys2Proof.Machine.execSupplyRedundancyRestored n volts s
  | .holdupTest host energy => Sys2Proof.Machine.execHoldupTest host energy s
  | .coldPlateRead temp => Sys2Proof.Machine.execColdPlateRead temp s
  | .overTemperatureShutdown => Sys2Proof.Machine.execOverTemperatureShutdown s
  | .overTemperatureRestart => Sys2Proof.Machine.execOverTemperatureRestart s
  | .partnerWaitExpiry => Sys2Proof.Machine.execPartnerWaitExpiry s
  | .islandWatchdogReset isl => Sys2Proof.Machine.execIslandWatchdogReset isl s
  | .holdoverLimit isl => Sys2Proof.Machine.execHoldoverLimit isl s
  | .imageStatus m t acked => Sys2Proof.Machine.execImageStatus m t acked s
  | .ethernetLinkChange port link => Sys2Proof.Machine.execEthernetLinkChange port link s
  | .commitSpacingExpiry st => Sys2Proof.Machine.execCommitSpacingExpiry st s

end Sys2Proof.Machine
end

