-- ==== Sys2Proof/Safety.lean ====
section
/-! DEFINITION. The words that claims are stated in: what a command gives, which parts of the module it leaves as they were, and
which requests the dictionary server takes. -/
namespace Sys2Proof.Machine

/-! What a command gives, and what it leaves. -/

/-- From this state the command answers a next state with the same queue, whose module meets `P`. -/
def Gives (c : Instr) (s : State) (P : Dev → Prop) : Prop :=
  ∃ t, exec c s = .next t ∧ t.pending = s.pending ∧ P t.dev

/-- The parts of the module's state. -/
inductive Part
  | time | isl | chan | barrier | site | dma | snap | log | ring | brick | drive | leg | card | sent | sync | rail | ratio | eng
  | alloc | out | vehicle | safety | metro | load | pair | eave | sys | freeCount
  deriving DecidableEq, Repr

/-- Two modules agree in a part; the time base does where it differs in the instant, which never goes back, and in what is due alone. -/
def same (p : Part) (d e : Dev) : Prop := match p with
  | .time => d.time.now ≤ e.time.now ∧ { e.time with now := d.time.now, ticked := d.time.ticked } = d.time
  | .isl => e.isl = d.isl
  | .chan => e.chan = d.chan
  | .barrier => e.barrier = d.barrier
  | .site => e.site = d.site
  | .dma => e.dma = d.dma
  | .snap => e.snap = d.snap
  | .log => e.log = d.log
  | .ring => e.ring = d.ring
  | .brick => e.brick = d.brick
  | .drive => e.drive = d.drive
  | .leg => e.leg = d.leg
  | .card => e.card = d.card
  | .sent => e.sent = d.sent
  | .sync => e.sync = d.sync
  | .rail => e.rail = d.rail
  | .ratio => e.ratio = d.ratio
  | .eng => e.eng = d.eng
  | .alloc => e.alloc = d.alloc
  | .out => e.out = d.out
  | .vehicle => e.vehicle = d.vehicle
  | .safety => e.safety = d.safety
  | .metro => e.metro = d.metro
  | .load => e.load = d.load
  | .pair => e.pair = d.pair
  | .eave => e.eave = d.eave
  | .sys => e.sys = d.sys
  | .freeCount => e.freeCount = d.freeCount

/-- Nothing changed outside these parts, and no entry of the register file outside the indices whose high byte is listed. -/
def Within (parts : List Part) (groups : List Nat) (d e : Dev) : Prop :=
  (∀ p, p ∉ parts → same p d e) ∧ ∀ k, k / 65536 ∉ groups → getVal e k = getVal d k

/-- Wherever the command answers a next state, the queue stands and nothing changed outside these parts and groups of
entries. -/
def Framed (c : Instr) (parts : List Part) (groups : List Nat) : Prop :=
  ∀ s t, exec c s = .next t → t.pending = s.pending ∧ Within parts groups s.dev t.dev

/-- The parts that raising an event may change, with the entries of groups 0x19: the barrier's queue, the snapshots, the log. -/
def eventParts : List Part := [.barrier, .snap, .log]

/-! Requests to the dictionary server. -/

/-- A request as it comes: its service, its entry, what the client puts into it, and whether the command is its dispatch by the field-side
port rather than its coming to the server. -/
structure Asked where
  service : Nat
  idx : Nat
  sub : Nat
  ask : Ask
  port : Bool := false
/-- A command that is named for the effect of an entry: the write to it, on the field side at the port. -/
def Asked.named (idx sub : Nat) (a : Ask) : Asked := ⟨0x11, idx, sub, a, fieldHeld idx sub⟩

/-- The message of a request. -/
def Asked.msg (q : Asked) : DictMsg := requestMsg q.service q.idx q.sub q.ask

/-- The request that a command is, where it is one to the dictionary server with an open session. -/
def askedBy : Instr → Option Asked
  | .controlPeriod _ => none
  | .heartbeat _ _ => none
  | .barrierLoss _ => none
  | .timeMark _ _ => none
  | .channelStale _ => none
  | .referenceSwitch _ => none
  | .peerTimeTransfer _ _ => none
  | .laneNextMessage _ => none
  | .laneRealign _ => none
  | .dictionaryRequest _ => none
  | .dictionaryResponse _ => none
  | .sessionNotice _ _ => none
  | .ridgeFrameToSafety _ => none
  | .ridgeFrameFromSafety _ => none
  | .vehicleTargetUpdate _ => none
  | .outletStatus _ => none
  | .sitePowerData _ _ => none
  | .headData _ _ => none
  | .meteringRecord _ => none
  | .meteringRecordAcknowledge _ => none
  | .meteringRecordRetransmit _ => none
  | .scribeNotice _ => none
  | .snapshotFragment _ _ _ => none
  | .imageBlock _ _ _ _ => none
  | .powerFailNotice => none
  | .lifeCycleNotice _ _ => none
  | .event _ => none
  | .contactorTravelConfirmed _ => none
  | .contactorTravelFault _ => none
  | .contactDisagreement _ => none
  | .contactorTest a => some (.named 0x2806 0x01 a)
  | .clearFrozenTie a => some (.named 0x2806 0x02 a)
  | .clearContactorTravelFault a => some (.named 0x2806 0x03 a)
  | .ringConfigurationWrite a index sub => some (.named index sub a)
  | .isolationRequest a k => some (.named (0x2200 + k.val) 0x02 a)
  | .uplinkDeadline _ _ => none
  | .linkHoldExpiry _ => none
  | .brickLinkUp _ => none
  | .legLostRecovery _ => none
  | .portDelayMeasurement _ _ => none
  | .downlinkFrameAccept _ _ _ => none
  | .cardDownlinkDeadline _ => none
  | .cardContactorHold _ => none
  | .serviceRequest _ _ _ => none
  | .fieldIslandRestart => none
  | .syncInEdge _ => none
  | .syncLoss _ => none
  | .diodeEmulationEntry _ => none
  | .shedDwellExpiry _ => none
  | .brakingWindowEnd _ => none
  | .senseImplausible _ => none
  | .legFaultReset a n => some (.named (0x2000 + n.val) 0x07 { a with data := leBytes 1 1 })
  | .legEnableWrite a n => some (.named (0x2000 + n.val) 0x01 a)
  | .peakCapture a brick n => some (.named ((if brick then 0x2200 else 0x2100) + n) (if brick then 0x26 else 0x20) { a with data := leBytes 1 1 })
  | .telemetryWindowEnd _ => none
  | .controlSourceWrite a j => some (.named (0x2401 + 16 * j.val) 0x01 a)
  | .setpointIndexWrite a j => some (.named (0x2401 + 16 * j.val) 0x02 a)
  | .directSetpointWrite a j => some (.named (0x2401 + 16 * j.val) 0x03 a)
  | .modeRequestWrite a j => some (.named (0x2401 + 16 * j.val) 0x06 a)
  | .railStart a j => some (.named (0x2401 + 16 * j.val) 0x0A { a with data := leBytes 1 1 })
  | .railStop a j => some (.named (0x2401 + 16 * j.val) 0x0B { a with data := leBytes 1 1 })
  | .railIsolate a j => some (.named (0x2401 + 16 * j.val) 0x0C { a with data := leBytes 1 1 })
  | .railRestore a j => some (.named (0x2401 + 16 * j.val) 0x0C { a with data := leBytes 1 2 })
  | .ratiometricStart a j => some (.named (0x2405 + 16 * j.val) 0x04 { a with data := leBytes 1 1 })
  | .startSettleExpiry _ => none
  | .trackingTimeout _ => none
  | .ratiometricPauseLimit _ => none
  | .drainTimeout _ => none
  | .episodePause _ => none
  | .railSenseLost _ => none
  | .classFormatWrite a cls => some (.named 0x2600 (7 + cls.val) a)
  | .coefficientWrite a index sub => some (.named index sub a)
  | .generatorTargetWrite a g sub => some (.named (0x2680 + g.val) sub a)
  | .generatorStart a g => some (.named (0x2680 + g.val) 0x0F { a with data := leBytes 1 1 })
  | .generatorStartDelayExpiry _ => none
  | .thermalInputStale _ => none
  | .injectionStart a c => some (.named (0x2700 + 16 * c.val) 0x11 { a with data := leBytes 1 1 })
  | .injectionStop a c => some (.named (0x2700 + 16 * c.val) 0x12 { a with data := leBytes 1 1 })
  | .injectionEnd _ => none
  | .followingErrorTimer _ => none
  | .followingErrorReset a x => some (.named (0x2640 + x.val) 0x0C { a with data := leBytes 1 1 })
  | .planningCycle => none
  | .planningOverrun => none
  | .gridLimitWrite a sub => some (.named 0x2811 sub a)
  | .gridLimitExpiry => none
  | .frontEndStale _ => none
  | .frontEndStaleHoldExpiry _ => none
  | .moveStart _ => none
  | .handoverEnd _ => none
  | .handoverTimeout _ => none
  | .openWaitLimit _ => none
  | .restoreWaitLimit _ => none
  | .releaseHoldExpiry _ => none
  | .replan a => some (.named 0x2817 0x0B { a with data := leBytes 1 1 })
  | .layoutHoldWrite a => some (.named 0x2810 0x0D a)
  | .connectionDetected _ => none
  | .unplugDetected _ => none
  | .plugTimeout _ => none
  | .targetTimeout _ => none
  | .outletStop a k => some (.named (0x3003 + 16 * k.val) 0x01 { a with data := leBytes 1 1 })
  | .outletOutOfService a k => some (.named (0x3003 + 16 * k.val) 0x02 { a with data := leBytes 1 1 })
  | .outletReturnToService a k => some (.named (0x3003 + 16 * k.val) 0x02 { a with data := leBytes 1 2 })
  | .outletFaultReset a k => some (.named (0x3003 + 16 * k.val) 0x03 { a with data := leBytes 1 1 })
  | .authorizationResultWrite a k => some (.named (0x3120 + k.val) 0x01 a)
  | .authorizationTimeout _ => none
  | .vehicleMessage _ _ => none
  | .cableCheckRailReady _ => none
  | .imdSettleExpiry _ => none
  | .cableCheckTimeout _ => none
  | .cableShort _ => none
  | .imdReading _ _ _ _ => none
  | .imdAgeExpiry _ => none
  | .directionChangeComplete _ => none
  | .fastStopEnd _ => none
  | .outletContactorOpen _ => none
  | .faultedRailStop _ => none
  | .winddownTimeout _ => none
  | .weldCheckPass _ => none
  | .cableDischargeExpiry _ => none
  | .headStale _ => none
  | .deratingUpdate => none
  | .flowFault _ => none
  | .flowFaultClear _ => none
  | .runOnExpiry _ => none
  | .meteringUplinkFrame _ _ _ => none
  | .meteringDownlinkFrame _ => none
  | .meteringIntervalEnd => none
  | .pulseBacklogIssue _ => none
  | .testPulseEdge _ => none
  | .meteringLinkDown _ => none
  | .meteringLinkUp _ => none
  | .outletStatusCopy _ _ _ _ => none
  | .meteringSessionOpen _ => none
  | .meteringSessionClose _ => none
  | .recordSigned => none
  | .lateStartWitness _ => none
  | .metrologyRestartContinuation => none
  | .periodicSave => none
  | .finalWriteStart => none
  | .metrologyStartClose => none
  | .pairHead a k => some (.named (0x3830 + k.val) 0x06 { a with data := leBytes 1 1 })
  | .metrologyWindowOpen a => some (.named 0x3800 0x07 { a with data := leBytes 1 1 })
  | .metrologyWindowClose a => some (.named 0x3800 0x07 { a with data := leBytes 1 2 })
  | .metrologyWindowExpiry => none
  | .sealRelevantWrite a index sub => some (.named index sub a)
  | .safetyCycle _ _ _ => none
  | .safetyInputSample _ _ _ => none
  | .discrepancyTimeout _ => none
  | .darkPulseTest _ _ _ => none
  | .darkPulseTimeout _ _ => none
  | .chargePumpTimeout _ => none
  | .coreDisagreement _ => none
  | .safetySelfTestComplete _ => none
  | .currentWaitTimeout _ => none
  | .feedbackTimerEnd _ => none
  | .sf2FaultReset a => some (.named 0x4007 0x01 a)
  | .sf1FaultReset a => some (.named 0x4007 0x02 a)
  | .safetyFeed => none
  | .ridgeWatchdog _ => none
  | .ridgeFaultRecovery _ => none
  | .ridgeAcknowledge _ => none
  | .ridgeProducerWatchdog _ => none
  | .safetyRestart a => some (.named 0x4000 0x08 { a with data := leBytes 1 1 })
  | .passwordWrite a => some (.named 0x4060 0x01 a)
  | .passwordHoldExpiry => none
  | .transactionOpen a => some (.named 0x4060 0x02 { a with data := leBytes 1 1 })
  | .transactionCommit a => some (.named 0x4060 0x02 { a with data := leBytes 1 2 })
  | .transactionAbort a => some (.named 0x4060 0x02 { a with data := leBytes 1 3 })
  | .transactionTimeout => none
  | .safeWrite a index sub => some (.named index sub a)
  | .lockoutExpiry => none
  | .loadCommandTransfer => none
  | .channelCommandWrite a duty n => some (.named (if duty then 0x4411 else 0x4410) (n.val + 1) a)
  | .wireModelUpdate _ _ => none
  | .shortCircuitTrip _ => none
  | .retryDelayExpiry _ => none
  | .retryResetExpiry _ => none
  | .junctionLatch _ _ => none
  | .channelClear a n => some (.named 0x4417 (n.val + 1) { a with data := leBytes 1 1 })
  | .clampEvent _ => none
  | .senseScanStep _ => none
  | .extselChange _ => none
  | .forcedSelectWrite a => some (.named 0x4400 0x05 a)
  | .externalSelectPermitWrite a => some (.named 0x4400 0x04 a)
  | .limpNChange _ => none
  | .lhInChange _ _ => none
  | .limpHomeMapWrite a n => some (.named 0x4430 (n.val + 1) a)
  | .generalInputEnableWrite a => some (.named 0x4432 0x01 a)
  | .loadCommandStale => none
  | .orphanTimeout => none
  | .dissipationEstimate => none
  | .openLoadDetection _ => none
  | .loadSupplyLow => none
  | .loadSupplyReturn => none
  | .dowelRenewalSend => none
  | .dowelRenewal _ => none
  | .leaseExpiry => none
  | .bidGuardExpiry => none
  | .bid _ => none
  | .bidAnswer _ => none
  | .bidWaitExpiry => none
  | .leaseSupportLost => none
  | .holderLeaseEnd => none
  | .swap a => some (.named 0x1C00 0x0C { a with data := leBytes 1 1 })
  | .yield _ => none
  | .yieldAcknowledge _ => none
  | .yieldAckTimeout => none
  | .swapBoundary => none
  | .mirrorBlock _ _ => none
  | .peerStatus _ _ => none
  | .peerPortUp _ => none
  | .peerPortDown _ => none
  | .bulkRequest _ _ => none
  | .bulkData _ _ => none
  | .resynchronisation _ _ _ => none
  | .resyncTimeout => none
  | .inStepGained => none
  | .inStepLost _ => none
  | .switchOverTargetHoldExpiry _ => none
  | .pairingConfigurationWrite a sub => some (.named 0x1C00 sub a)
  | .canFrameReceived _ _ _ _ => none
  | .canFrameTransmitted _ => none
  | .stagingAdmission _ => none
  | .busOff _ => none
  | .busOffRecovery _ => none
  | .canHeartbeat => none
  | .addrInHigh => none
  | .addressListenExpiry => none
  | .claimListenExpiry => none
  | .addressClaim _ _ => none
  | .claimRetryDelay => none
  | .reClaim a => some (.named 0x1200 0x04 { a with data := leBytes 1 1 })
  | .frontEndStatus _ _ => none
  | .imdReadingFrame _ _ => none
  | .imdCommand _ => none
  | .openSession _ _ => none
  | .closeSession a => some ⟨0x02, 0, 0, a, false⟩
  | .keepAlive a => some ⟨0x03, 0, 0, a, false⟩
  | .read a index sub => some ⟨0x10, index, sub, a, false⟩
  | .write a index sub => some ⟨0x11, index, sub, a, false⟩
  | .readSegmentedStart a index sub => some ⟨0x12, index, sub, a, false⟩
  | .readSegment a index sub => some ⟨0x13, index, sub, a, false⟩
  | .writeSegmentedStart a index sub => some ⟨0x14, index, sub, a, false⟩
  | .writeSegment a index sub => some ⟨0x15, index, sub, a, false⟩
  | .transferAbandon a => some ⟨0x16, 0, 0, a, false⟩
  | .transferTimeout _ => none
  | .claimGroup a group => some ⟨0x20, group, 0, a, false⟩
  | .releaseGroup a group => some ⟨0x21, group, 0, a, false⟩
  | .queryOwner a group => some ⟨0x22, group, 0, a, false⟩
  | .subscribe a => some ⟨0x30, 0, 0, a, false⟩
  | .unsubscribe a => some ⟨0x31, 0, 0, a, false⟩
  | .publication _ => none
  | .sessionTimeout _ => none
  | .usbChallengeExpiry => none
  | .tlsConnection _ => none
  | .tlsHandshakeTimeout _ => none
  | .tlsIdleTimeout _ => none
  | .ptpSync _ => none
  | .ptpSyncLoss => none
  | .wallClockOffsetSend => none
  | .wallClockWrite a => some (.named 0x1420 0x0B a)
  | .eavelineCycle => none
  | .cycleHeader _ _ _ => none
  | .controlBlock _ _ => none
  | .dataBlock _ _ _ => none
  | .messageReassemblyTimeout _ => none
  | .robustStepUp _ _ => none
  | .stepUpCountReset _ => none
  | .layoutSwitch => none
  | .admissionAnswer _ _ => none
  | .nodeRefusedRetry _ => none
  | .nodeLost _ => none
  | .nodePreambleLoss _ => none
  | .zeroCrossingReport _ _ => none
  | .mainsRefCrossing _ => none
  | .removeNode a => some (.named 0x1300 0x0C a)
  | .expectedSerialWrite a n => some (.named (0x1310 + n.val) 0x01 a)
  | .eavelineStateSync _ => none
  | .eavelineMasterTake => none
  | .dmaChannelStart a c => some (.named (0x1810 + c.val) 0x04 a)
  | .dmaStopRequest a c => some (.named (0x1810 + c.val) 0x04 { a with data := leBytes 4 (2 ^ 30) })
  | .dmaDescriptorEnd _ => none
  | .dmaChannelRegisterWrite a c reg => some (.named (0x1810 + c.val) (reg.val + 1) a)
  | .descriptorWrite a n => some (.named (0x1840 + n.val / 64) (n.val % 64 + 1) a)
  | .captureClaim a => some (.named 0x1880 0x03 { a with data := leBytes 1 1 })
  | .captureRelease a => some (.named 0x1880 0x04 { a with data := leBytes 1 1 })
  | .snapshotTriggerCommand a => some (.named 0x1900 0x01 { a with data := leBytes 1 1 })
  | .snapInEdge _ => none
  | .partnerScribeTrigger => none
  | .snapshotFieldStore => none
  | .snapshotSetValid _ => none
  | .eventRaised _ _ _ => none
  | .eventQueueRoom _ => none
  | .eventLogFlush => none
  | .transitionArm a => some (.named 0x1A00 0x03 a)
  | .transitionToField a => some (.named 0x1A00 0x04 { a with data := leBytes 1 3 })
  | .transitionToReturn a => some (.named 0x1A00 0x04 { a with data := leBytes 1 4 })
  | .transitionToDecommissioned a => some (.named 0x1A00 0x04 { a with data := leBytes 1 5 })
  | .factoryTransition _ => none
  | .keyValueWrite a k => some (.named (0x1A40 + k.val) 0x03 a)
  | .keyGenerate a k => some (.named (0x1A40 + k.val) 0x04 { a with data := leBytes 1 1 })
  | .keyDelete a k => some (.named (0x1A40 + k.val) 0x07 { a with data := leBytes 1 1 })
  | .publicItemWrite a index sub => some (.named index sub a)
  | .keySlotLoad _ _ => none
  | .keySlotWaitTimeout => none
  | .imageStage a t => some (.named (0x1B10 + t.val) 0x01 a)
  | .discardStaged a t => some (.named (0x1B10 + t.val) 0x0A { a with data := leBytes 1 1 })
  | .fallBack a t => some (.named (0x1B10 + t.val) 0x0B { a with data := leBytes 1 1 })
  | .activateModule a t => some (.named 0x1B20 0x01 { a with data := leBytes 1 t.val })
  | .activatePair a t => some (.named 0x1B20 0x01 { a with data := leBytes 1 (16 + t.val) })
  | .fxWinddownEnd => none
  | .bootCheck _ => none
  | .trialConfirm _ => none
  | .confirmTimeout _ => none
  | .commit a => some (.named 0x1B40 0x01 { a with data := leBytes 1 1 })
  | .autoCommit _ => none
  | .leafWriteComplete _ _ => none
  | .restoreDefaults a => some (.named 0x1B40 0x04 { a with data := leBytes 1 1 })
  | .fieldPowerFailWarning => none
  | .fieldSequenceEnd => none
  | .hostPowerFailWarning => none
  | .fieldPowerUp _ => none
  | .hostPowerUp => none
  | .holdupCharged _ => none
  | .domainStartFailed _ => none
  | .supplyRedundancyLost _ _ => none
  | .supplyRedundancyRestored _ _ => none
  | .holdupTest _ _ => none
  | .coldPlateRead _ => none
  | .overTemperatureShutdown => none
  | .overTemperatureRestart => none
  | .partnerWaitExpiry => none
  | .islandWatchdogReset _ => none
  | .holdoverLimit _ => none
  | .imageStatus _ _ _ => none
  | .ethernetLinkChange _ _ => none
  | .commitSpacingExpiry _ => none

/-- The session slot of a request that passes checks 1 to 3 of R367, is no repeat (R368) and finds the server not busy
(R369). -/
def newRequest (q : Asked) (d : Dev) : Option (Fin 6) :=
  match slotOf q.ask.session.toNat with
  | none => none
  | some n =>
    let x := d.site.sessions[n]
    if reaches q.ask.conn d && q.ask.flags.toNat / 8 == 0 && hostService q.service && x.conn == some q.ask.conn
      && !repeats x q.msg d.time.now && !tooBusy n q.msg d
    then some n else none

/-- The device as checks 4 to 7 find it at the server: the request taken from its receive queue and noted in its session. -/
def arrive (n : Fin 6) (q : Asked) (d : Dev) : Dev :=
  note n q.msg (onSlot n (fun x => { x with last := d.time.now }) (takeRequest q.ask q.msg d))

/-- A request where it is judged and done: its session's slot, its message, whether its session is on CAN FD, whether that is the field-side
port, and the device as it is then. -/
structure Served where
  slot : Fin 6
  msg : DictMsg
  can : Bool
  port : Bool
  dev : Dev

/-- A request that the field-side port dispatches to an island that runs, or to its own owner table, for a session that it has as open. -/
def portServed (n : Fin 6) (m : DictMsg) (d : Dev) : Option Served := match d.site.fieldSession[n] with
  | some x => if 0x20 ≤ m.service || islandUp (targetIsland m) d then some ⟨n, m, x.1 == 1 || x.1 == 2, true, d⟩ else none
  | none => none

/-- The request that a command has done: at the port, a tenon message of type 0x05 that passes the checks of R21, and a command named for an
entry of the field side; at the server, a new request that does not cross the barrier. -/
def served (c : Instr) (d : Dev) : Option Served := match c with
  | .dictionaryRequest m =>
    let r := receive .hf m d
    if r.2 && hdrType m.header == 0x05 then (match parseDict m.payload, slotOf (hdrSession m.header) with
      | some q, some n => portServed n { q with session := n.val + 1, tag := hdrTag m.header } r.1
      | _, _ => none)
    else none
  | c => match askedBy c with
    | none => none
    | some q =>
      if q.port then (match slotOf q.ask.session.toNat with
        | some n => if up 7 d then portServed n q.msg d else none
        | none => none)
      else match newRequest q d with
        | some n => if crosses q.msg d then none else some ⟨n, q.msg, isCan q.ask.conn, false, arrive n q d⟩
        | none => none

/-- The write that a request is: its session number, its entry and its value; where the entry has no row, the write of 0. -/
def Served.write (h : Served) : WriteCall := match rowOf h.msg.index h.msg.sub with
  | some r => ⟨h.slot.val + 1, h.msg.index, h.msg.sub, bytesVal r.ty h.msg.data⟩
  | none => ⟨h.slot.val + 1, h.msg.index, h.msg.sub, .num 0⟩

/-- Whether a request is a write that passes every check of R367. -/
def Served.taken (h : Served) : Bool := match findEntry h.msg.index h.msg.sub with
  | .ok r => h.msg.service == 0x11 && (writeAccess (h.slot.val + 1) h.msg.index h.msg.sub r h.dev).isNone
      && (valueCheck h.msg.index r h.msg.data).isNone && (firstFailing (subjectChecks h.write r h.dev)).isNone
  | .error _ => false

/-- The code by which check 7 refuses a write that passed checks 1 to 6 (R367, R498). -/
def Served.refusedBy (h : Served) : Option Nat := match findEntry h.msg.index h.msg.sub with
  | .ok r => if h.msg.service == 0x11 && (writeAccess (h.slot.val + 1) h.msg.index h.msg.sub r h.dev).isNone
      && (valueCheck h.msg.index r h.msg.data).isNone then firstFailing (subjectChecks h.write r h.dev) else none
  | .error _ => none

/-- The parts that every taken write may change besides its own effect: the session and its answer, the lanes, and the mark of
an unsaved store. -/
def writeParts : List Part := [.site, .barrier, .sys]

/-- The message at the end of a class's queue at a lane's sending port. -/
def lastOf (l : Lane) (c : Fin 4) (e : Dev) : Option TenonOut := ((laneOf l e).queue[c]).getLast?

/-! Invariants. -/

/-- The register file and the DMA memory are in their canonical forms. -/
def Dev.canonical (d : Dev) : Prop := regsWf d.regs = true ∧ Memory.wf d.dma.mem = true

end Sys2Proof.Machine
end

