-- ==== Sys2Proof/Claims/Barrier.lean ====
section
/-! DEFINITION. Claims about the time base, the handshake channels, the barrier and its lanes (chapter 1), one for each command: what
it gives where its condition holds, and that it rests otherwise. -/
namespace Sys2Proof.Claims
open Machine

/-- The command answers, and leaves the block as it was. -/
def Rests (c : Instr) (s : State) : Prop := exec c s = .next s

/-! Time (R11, R14 to R17). -/

/-- TIME_MARK (R14, R16). The correction moves the copy by one step at most, towards the master where the phase error is a step or less. The
fractional increment is a free value. PD7 is the master and has no copy. -/
def timeMark : Prop := ∀ (i : Fin 8) (x : Int) (s : State),
  (i ≠ 7 → up i s.dev = true → Gives (.timeMark i x) s (fun e => e.time.offset[i] = x
    ∧ |e.time.error[i] - copyError i s.dev| ≤ 1
    ∧ (s.dev.time.marked[i] < s.dev.time.now → -10 ≤ x → x ≤ 10 → |copyError i s.dev| ≤ 1 → e.time.error[i] = 0)
    ∧ e.time.holdover[i] = false ∧ e.time.flagged[i] = false ∧ (∀ ch, markChannel i = some ch → isStale ch e = false)
    ∧ e.time.now = s.dev.time.now))
  ∧ (i = 0 → up 0 s.dev = true → Gives (.timeMark i x) s (fun e => 0 ≤ num e 0x1042 0x09 ∧ num e 0x1042 0x09 ≤ 2000))
  ∧ (i = 7 ∨ up i s.dev = false → Rests (.timeMark i x) s)

/-- HOLDOVER_LIMIT (Table 1.4): 100 ms after holdover began. PD0 is in holdover 10 ms after its last mark, and PD5 with it or with its line
link silent. -/
def holdoverLimit : Prop := ∀ (i : Fin 8) (s : State),
  let d := hostHoldover s.dev
  (d.time.holdover[i] = true → Gives (.holdoverLimit i) s (fun e =>
    e.time.flagged[i] = true ∧ d.time.holdoverFrom[i] + ms 100 ≤ e.time.now))
  ∧ (s.dev.time.holdover[(0 : Fin 8)] = false → up 0 s.dev = true → s.dev.time.marked[(0 : Fin 8)] + ms 10 ≤ s.dev.time.now →
      Gives (.holdoverLimit i) s (fun e => e.time.holdover[(0 : Fin 8)] = true
        ∧ e.time.holdoverFrom[(0 : Fin 8)] = s.dev.time.marked[(0 : Fin 8)] + ms 10))
  ∧ (d.time.holdover[i] = false → Gives (.holdoverLimit i) s (fun e => e.time = d.time))

/-- REFERENCE_SWITCH (R15): REF_IN drives the master once it has stood within 20 ppm for 1 s and is preferred, the TCXO otherwise; a change is
counted, and the count of steps is moved by neither. -/
def referenceSwitch : Prop := ∀ (x : Option Int) (s : State),
  let good : Bool := (match x with | some v => decide (-20000 ≤ v ∧ v ≤ 20000) | none => false)
  let use : Bool := on s.dev 0x1040 0x03 && good && s.dev.time.goodSince.isSome
  (up 7 s.dev = true → Gives (.referenceSwitch x) s (fun e => e.time.onRefIn = use ∧ e.time.refError = x
    ∧ num e 0x1040 0x04 = x.getD 0x7FFFFFFF ∧ e.time.goodSince.isSome = good
    ∧ (∀ t, good = true → s.dev.time.goodSince = some t → t + sec 1 ≤ e.time.now)
    ∧ (good = true → s.dev.time.goodSince = none → e.time.goodSince = some s.dev.time.now)
    ∧ num e 0x1040 0x05 = num s.dev 0x1040 0x05 + flag (use != s.dev.time.onRefIn)))
  ∧ (up 7 s.dev = false → Rests (.referenceSwitch x) s)

/-- R15: the master's frequency moves by 0.1 ppm in a second at most. -/
def masterRateSlews : Prop := ∀ (d : Dev) (n : Nat),
  |masterRate { d with time := { d.time with now := max d.time.now d.time.rateAt + n * sec 1 } }
    - masterRate { d with time := { d.time with now := max d.time.now d.time.rateAt } }| ≤ 100 * n + 1

/-- What the silence of a channel makes of its receiver (Table 1.2, R17, R269, R316). -/
def silentAt (ch : Channel) (d e : Dev) : Prop := match ch with
  | .timeMark r => e.time.holdover[chanReceiver (.timeMark r)] = true
      ∧ (d.time.holdover[chanReceiver (.timeMark r)] = false → e.time.holdoverFrom[chanReceiver (.timeMark r)] = e.time.now)
  | .safetyStop => (∀ j : Fin 12, e.eng.stopFirst[j] = true ∧ e.eng.stopSecond[j] = true ∧ e.eng.stopMask[j] = true)
      ∧ ∀ u : Fin 4, e.eng.torqueOff[u] = true
  | .safetyFeed => (∀ j : Fin 12, e.safety.lows[j] = 0 ∧ e.safety.follow[j] = false)
      ∧ e.safety.permit = (d.safety.permit && (d.safety.role == 2 || d.safety.role == 3))
  | .peerTime => e.time.steeringHeld = true
  | .loadCommand => e.load.orphanAt = some e.time.now
  | .lineLink => up 5 d = true → e.time.holdover[(5 : Fin 8)] = true
  | .leaseState | .shadowState | .loadStatus | .metrologyFeed => True

/-- CHANNEL_STALE (R11): the stale timeout after the last transfer. A channel already stale, or of an island that does not run,
rests, so that an episode acts once. -/
def channelStale : Prop := ∀ (ch : Channel) (s : State),
  (isStale ch s.dev = false → up (chanReceiver ch) s.dev = true → Gives (.channelStale ch) s (fun e =>
    isStale ch e = true ∧ (s.dev.chan[chanIdx ch]).last + staleAfter ch ≤ e.time.now
      ∧ (e.chan[chanIdx ch]).last = (s.dev.chan[chanIdx ch]).last ∧ silentAt ch s.dev e))
  ∧ (isStale ch s.dev = true ∨ up (chanReceiver ch) s.dev = false → Rests (.channelStale ch) s)

/-- PEER_TIME_TRANSFER (R14, R17): the partner of the lease holder gains a step where it lags, and never steps back; before its alignment
step a SYNCING module only notes the difference. -/
def peerTimeTransfer : Prop := ∀ (t a : Nat) (s : State),
  (up 6 s.dev = true → up 7 s.dev = true → pairMode s.dev = true → Gives (.peerTimeTransfer t a) s (fun e =>
    e.time.steeringHeld = false ∧ isStale .peerTime e = false
      ∧ (holds s.dev = true → e.pair.timeOffset = s.dev.pair.timeOffset ∧ e.time.now = s.dev.time.now)
      ∧ (roleOf s.dev = 0 → s.dev.metro.aligned = false → e.pair.timeOffset = (t : Int) - a ∧ e.time.now = s.dev.time.now)
      ∧ (holds s.dev = false → roleOf s.dev ≠ 0 ∨ s.dev.metro.aligned = true →
          e.time.now = s.dev.time.now + (if a < t then 1 else 0) ∧ e.pair.timeOffset = (t : Int) - a - (if a < t then 1 else 0)
            ∧ e.time.trim = (if a < t then 1 else if t < a then -1 else 0))))
  ∧ (up 6 s.dev = false ∨ up 7 s.dev = false ∨ pairMode s.dev = false → Rests (.peerTimeTransfer t a) s)

/-- SAFETY_FEED (R274): the permit, the role and the counts of feed values below 5 A. -/
def safetyFeed : Prop := ∀ s : State,
  (up 1 s.dev = true → up 3 s.dev = true → Gives .safetyFeed s (fun e =>
    isStale .safetyFeed e = false ∧ e.safety.permit = outputPermit s.dev ∧ e.safety.role = roleOf s.dev
      ∧ (∀ x : Fin 12, e.safety.follow[x] = (s.dev.eng.axis[x]).flag)
      ∧ ∀ j : Fin 12, e.safety.lows[j] = (if decide (|segCurrent (segOf j s.dev) s.dev| < 5) || !outletClosed j s.dev
          then min 3 (s.dev.safety.lows[j] + 1) else 0)))
  ∧ (up 1 s.dev = false ∨ up 3 s.dev = false → Rests .safetyFeed s)

/-- WALL_CLOCK_OFFSET_SEND (R389): at the next second the offset waits for lane HF, in the message of the model's choice. -/
def wallClockOffsetSend : Prop := ∀ s : State,
  (up 0 s.dev = true → barrierLost s.dev = false → Gives .wallClockOffsetSend s (fun e =>
    e.time.now = dueAt s.dev.time.ticked[(7 : Fin 9)] (sec 1) s.dev ∧ (0 ≤ (s.dev.time.now : Int) + s.dev.time.base → siteTime e % sec 1 = 0)
      ∧ lastOf .hf 0 e = some (tenonItems 0x02 2 2 16 [wallOffset e, flag s.dev.site.ptp.synchronised] e)))
  ∧ (up 0 s.dev = false ∨ barrierLost s.dev = true → Rests .wallClockOffsetSend s)

/-! The lanes (R19 to R26). -/

/-- LANE_NEXT_MESSAGE (R20, R25, R26): with nothing sent in the last second, the head of class 0 goes first under the next sequence number,
with its header and CRC, and takes 40 ns a character; with nothing waiting, the lane falls silent. -/
def laneNextMessage : Prop := ∀ (l : Lane) (s : State),
  let q := laneOf l s.dev
  (∀ m r, q.recent = [] → q.queue[(0 : Fin 4)] = m :: r → (typeSpec m.type).isSome = true → Gives (.laneNextMessage l) s (fun e =>
    (laneOf l e).onLane = some m ∧ (laneOf l e).queue[(0 : Fin 4)] = r ∧ (laneOf l e).txSeq = q.txSeq + 1
      ∧ (laneOf l e).header = headerOf m q.txSeq ∧ (laneOf l e).crc = crcOf m (headerOf m q.txSeq)
      ∧ e.time.now = max s.dev.time.now q.busyUntil ∧ (laneOf l e).busyUntil = e.time.now + 4 * (m.length + 15)
      ∧ (laneOf l e).recent = [⟨m.type, m.key, e.time.now, 4 * (m.length + 15)⟩]))
  ∧ ((∀ c : Fin 4, q.queue[c] = []) → (∀ i : Fin 8, s.dev.log.queue[i] = []) → Gives (.laneNextMessage l) s (fun e =>
    (laneOf l e).onLane = none ∧ (laneOf l e).txSeq = q.txSeq ∧ e.time.now = max s.dev.time.now q.busyUntil))

/-- R389: at the end of the message that carries it, the metrology island has the wall-clock offset. -/
def wallClockLands : Prop := ∀ (m : TenonOut) (wall synced : Int) (s : State), (laneOf .hf s.dev).onLane = some m → m.type = 0x02 →
  m.island = 2 → m.items = [wall, synced] → up 2 s.dev = true →
  Gives (.laneNextMessage .hf) s (fun e => num e 0x3800 0x13 = wall ∧ num e 0x3800 0x14 = synced)

/-- R20: a header as it is sent reads back field by field, and its reserved bits are zero. -/
def headersReadBack : Prop := ∀ (m : TenonOut) (q : W16), m.type < 256 → m.session < 256 → m.tag < 256 → m.island < 16 → m.length < 2048 →
  let h := headerOf m q
  hdrType h = m.type ∧ hdrSession h = m.session ∧ hdrTag h = m.tag ∧ hdrFirst h = m.first ∧ hdrLast h = m.last ∧ hdrIsland h = m.island
    ∧ hdrSeq h = q ∧ hdrLength h = m.length ∧ hdrReserved h = true

/-- LANE_REALIGN (R23): the receiver starts afresh, and the transmitter is not disturbed. -/
def laneRealign : Prop := ∀ (l : Lane) (s : State),
  Gives (.laneRealign l) s (fun e => laneOf l e = { laneOf l s.dev with crcFails := [], realigned := (laneOf l s.dev).realigned + 1 })

/-- Whether a received tenon message passes the checks of R21 on a lane, its island running, and is of this type. -/
def heard (l : Lane) (type : Nat) (m : TenonMsg) (d : Dev) : Prop := (receive l m d).2 = true ∧ hdrType m.header = type
/-- What a message that is not heard as of a type leaves: the receipt alone, counted and reported as R21 and R22 say. -/
def receivedOnly (c : Instr) (l : Lane) (m : TenonMsg) (s : State) : Prop := exec c s = done s (receive l m s.dev).1

/-- HEARTBEAT (R30, Table 1.7). -/
def heartbeat : Prop := ∀ (at_ : Side) (m : TenonMsg) (s : State),
  let lane : Lane := if at_ = .host then .fh else .hf
  let me : Fin 8 := if at_ = .host then 0 else 7
  (up me s.dev = true → heard lane 0x01 m s.dev → Gives (.heartbeat at_ m) s (fun e =>
    (sideOf at_ e).view = .up ∧ (sideOf at_ e).lastHeartbeat = s.dev.time.now
      ∧ (sideOf at_ e).upMask = BitVec.ofNat 8 (leNat m.payload) ∧ (sideOf at_ e).powerFail = bit (leNat m.payload) 9
      ∧ (sideOf at_ e).bound = (if bit (leNat m.payload) 8 then some (ms 10 * field (leNat m.payload) 16 16) else none)))
  ∧ (up me s.dev = true → ¬ heard lane 0x01 m s.dev → receivedOnly (.heartbeat at_ m) lane m s)
  ∧ (up me s.dev = false → Rests (.heartbeat at_ m) s)

/-- BARRIER_LOSS (R30): 5 ms without a heartbeat; where the last one announced a restart, the announced bound plus 500 ms. -/
def barrierLoss : Prop := ∀ (at_ : Side) (s : State),
  let x := sideOf at_ s.dev
  let me : Fin 8 := if at_ = .host then 0 else 7
  (up me s.dev = true → x.view = .up → x.bound.isSome = true → Gives (.barrierLoss at_) s (fun e =>
    (sideOf at_ e).view = .restartAwaited ∧ x.lastHeartbeat + ms 5 ≤ e.time.now))
  ∧ (∀ b, up me s.dev = true → x.view = .restartAwaited → x.bound = some b → Gives (.barrierLoss at_) s (fun e =>
    (sideOf at_ e).view = .lost ∧ x.lastHeartbeat + b + ms 500 ≤ e.time.now))
  ∧ (up me s.dev = true → x.view ≠ .lost → x.bound = none → Gives (.barrierLoss at_) s (fun e =>
    (sideOf at_ e).view = .lost ∧ x.lastHeartbeat + ms 5 ≤ e.time.now
      ∧ (at_ = .host → (∀ n : Fin 6, (e.site.sessions[n]).outstanding = []) ∧ num e 0x1042 0x08 = num s.dev 0x1042 0x08 + 1)
      ∧ (at_ = .field → roleOf s.dev ≠ 3 → holds s.dev = true → e.pair.supportLost = true)))
  ∧ (up me s.dev = false ∨ x.view = .lost → Rests (.barrierLoss at_) s)

/-- R23: the third CRC failure within 1 ms re-aligns the receiver. -/
def crcRealigns : Prop := ∀ (l : Lane) (m : TenonMsg) (d : Dev) (a b : Nat), up (receiverOf l) d = true → tenonCheck l m d = some 2 →
  (laneOf l d).crcFails = [a, b] → d.time.now < a + ms 1 → d.time.now < b + ms 1 →
  (laneOf l (receive l m d).1).realigned = (laneOf l d).realigned + 1 ∧ (laneOf l (receive l m d).1).crcFails = []

/-- R22: a message whose CRC is good counts those that are missing before it, whether it is accepted or rejected later. -/
def gapsCounted : Prop := ∀ (l : Lane) (m : TenonMsg) (d : Dev) (x : W16), up (receiverOf l) d = true →
  (∀ n, tenonCheck l m d = some n → 3 ≤ n) → (laneOf l d).rxSeq = some x →
  let e := (receive l m d).1
  num e 0x1042 0x05 = num d 0x1042 0x05 + (hdrSeq m.header - x).toNat ∧ (laneOf l e).rxSeq = some (hdrSeq m.header + 1)

/-- SESSION_NOTICE (R29, R375, R381): a closing releases every field-side group of the session, and an opening makes its session known; one
that another client held is closed first. -/
def sessionNotice : Prop := ∀ (m : TenonMsg) (n : SessionChange) (s : State),
  let freed (e : Dev) : Prop := ∀ g : Fin 60, g.val ≠ 6 →
    e.site.owners[g] = (if s.dev.site.owners[g] = n.session.val + 1 then 0 else s.dev.site.owners[g])
  (heard .hf 0x07 m s.dev → n.opening = false → Gives (.sessionNotice m n) s (fun e => freed e ∧ e.site.fieldSession[n.session] = none))
  ∧ (heard .hf 0x07 m s.dev → n.opening = true → Gives (.sessionNotice m n) s (fun e =>
      e.site.fieldSession[n.session] = some (n.transport, n.digest) ∧ (openForOther n.session n.digest s.dev = true → freed e)
        ∧ (openForOther n.session n.digest s.dev = false → e.site.owners = s.dev.site.owners)))
  ∧ (¬ heard .hf 0x07 m s.dev → receivedOnly (.sessionNotice m n) .hf m s)

/-- The dictionary message at the end of the queue that lane FH answers from. -/
def lastAnswer (e : Dev) : Option TenonOut := ((laneOf .fh e).queue[(2 : Fin 4)]).getLast?

/-- DICTIONARY_REQUEST (R24, R29): the field side answers in the session and with the tag of the request; of an island that does not run with
0x10000021. What the services do at the port is said with the server's. -/
def dictionaryRequest : Prop := ∀ (m : TenonMsg) (s : State) (q : DictMsg) (n : Fin 6),
  (heard .hf 0x05 m s.dev → parseDict m.payload = some q → slotOf (hdrSession m.header) = some n →
    (s.dev.site.fieldSession[n]).isSome = true →
    let q' := { q with session := n.val + 1, tag := hdrTag m.header }
    Gives (.dictionaryRequest m) s (fun e => ∃ x, lastAnswer e = some x ∧ x.type = 0x06 ∧ x.session = n.val + 1 ∧ x.tag = hdrTag m.header
      ∧ ∃ a, x.body = dictBytes (answerMsg q' a)
        ∧ (q.service < 0x20 → islandUp (targetIsland q) (receive .hf m s.dev).1 = false → a = .error 0x10000021)))
  ∧ (¬ heard .hf 0x05 m s.dev ∨ parseDict m.payload = none → receivedOnly (.dictionaryRequest m) .hf m s)

/-- DICTIONARY_RESPONSE (R365): the outstanding request of that tag is answered. -/
def dictionaryResponse : Prop := ∀ (m : TenonMsg) (s : State) (q : DictMsg) (n : Fin 6),
  (heard .fh 0x06 m s.dev → parseDict m.payload = some q → slotOf (hdrSession m.header) = some n →
    (s.dev.site.sessions[n]).conn.isSome = true → ((s.dev.site.sessions[n]).outstanding).contains (hdrTag m.header) = true →
    (q.service ≠ 0xA1 ∨ q.flags % 2 = 1) → Gives (.dictionaryResponse m) s (fun e => (e.site.sessions[n]).reply = some q
      ∧ (e.site.sessions[n]).outstanding = (s.dev.site.sessions[n]).outstanding.erase (hdrTag m.header)))
  ∧ (¬ heard .fh 0x06 m s.dev ∨ parseDict m.payload = none → receivedOnly (.dictionaryResponse m) .fh m s)

/-- RIDGE_FRAME_FROM_SAFETY (R277): a frame for a slot of the Eaveline network takes its place there. -/
def ridgeFrameFromSafety : Prop := ∀ (m : TenonMsg) (s : State) (k : Fin 24),
  (up 0 s.dev = true → heard .fh 0x04 m s.dev → 8 ≤ m.payload.length → fieldAt m.payload 0 1 = 4 → fieldAt m.payload 1 1 = k.val →
    Gives (.ridgeFrameFromSafety m) s (fun e => e.eave.ridge[k] = m.payload.drop 8))
  ∧ (∀ c : Fin 2, up 0 s.dev = true → heard .fh 0x04 m s.dev → 8 ≤ m.payload.length → fieldAt m.payload 0 1 = c.val + 1 →
    s.dev.site.addr.state ≠ .conflict → on s.dev (canIdx c) 0x01 = true → (s.dev.site.can[c]).urgent.length < 16 →
    Gives (.ridgeFrameFromSafety m) s (fun e => ∃ f, (e.site.can[c]).urgent = (s.dev.site.can[c]).urgent ++ [f]
      ∧ f.id = canId 0 s.dev.site.addr.id ∧ f.data = canPad (m.payload.drop 8)))
  ∧ (up 0 s.dev = true → ¬ heard .fh 0x04 m s.dev → receivedOnly (.ridgeFrameFromSafety m) .fh m s)
  ∧ (up 0 s.dev = false → Rests (.ridgeFrameFromSafety m) s)

/-! Snapshots and the event log (R430 to R440). -/

/-- A trigger that no other precedes within 100 µs, with a set free to write (R430 to R433): the oldest set that is not locked holds
it, with the source and the instant. -/
def triggered (source : Nat) (d e : Dev) : Prop := ∀ i, oldestSet d = some i →
  (∀ t, d.snap.lastTrigger = some t → t + us 100 ≤ d.time.now) →
  (e.snap.sets[i]).written = true ∧ (e.snap.sets[i]).source = source ∧ (e.snap.sets[i]).time = siteTime d
    ∧ (e.snap.sets[i]).seq = d.snap.nextSeq ∧ e.snap.nextSeq = d.snap.nextSeq + 1 ∧ e.snap.lastTrigger = some d.time.now

/-- SNAP_IN_EDGE (R430): the configured edge fires. -/
def snapInEdge : Prop := ∀ (rising : Bool) (s : State),
  let fires := up 7 s.dev && on s.dev 0x1900 0x03 && (num s.dev 0x1900 0x04 == if rising then 0 else 1)
  (fires = true → Gives (.snapInEdge rising) s (fun e => triggered 1 s.dev e)) ∧ (fires = false → Rests (.snapInEdge rising) s)

/-- PARTNER_SCRIBE_TRIGGER (R430). -/
def partnerScribeTrigger : Prop := ∀ s : State,
  let fires := up 7 s.dev && on s.dev 0x1900 0x06
  (fires = true → Gives .partnerScribeTrigger s (fun e => triggered 4 s.dev e)) ∧ (fires = false → Rests .partnerScribeTrigger s)

/-- SCRIBE_NOTICE (R431): each running host-side island that has not latched stores its words in the newest set. -/
def scribeNotice : Prop := ∀ (m : TenonMsg) (s : State),
  (∀ n, heard .fh 0x13 m s.dev → (receive .fh m s.dev).1.snap.newest = some n → ∀ i : Fin 8, i = 0 ∨ i = 5 → up i s.dev = true →
    Gives (.scribeNotice m) s (fun e => (e.snap.sets[n]).latched[i] = true))
  ∧ (¬ heard .fh 0x13 m s.dev → receivedOnly (.scribeNotice m) .fh m s)

/-- SNAPSHOT_FRAGMENT (R504): the last fragment of a latched part completes the part. -/
def snapshotFragment : Prop := ∀ (m : TenonMsg) (set part : Fin 8) (s : State),
  (heard .fh 0x0E m s.dev → hdrLast m.header = true → ((receive .fh m s.dev).1.snap.sets[set]).latched[part] = true →
    Gives (.snapshotFragment m set part) s (fun e => (e.snap.sets[set]).stored[part] = true))
  ∧ (¬ heard .fh 0x0E m s.dev ∨ hdrLast m.header = false → receivedOnly (.snapshotFragment m set part) .fh m s)

/-- SNAPSHOT_FIELD_STORE (R436): at the next period boundary the field control island's words join the set. -/
def snapshotFieldStore : Prop := ∀ s : State,
  (∀ n, s.dev.snap.fieldDue = some n → Gives .snapshotFieldStore s (fun e => e.snap.fieldDue = none
    ∧ e.time.now = max s.dev.time.now (nextBoundary s.dev)
    ∧ ∃ w, (e.snap.sets[n]).words[(1 : Fin 8)] = (s.dev.snap.sets[n]).words[(1 : Fin 8)] ++ w))
  ∧ (s.dev.snap.fieldDue = none → Rests .snapshotFieldStore s)

/-- SNAPSHOT_SET_VALID (R433). -/
def snapshotSetValid : Prop := ∀ (i : Fin 8) (s : State),
  (setComplete i s.dev = true → Gives (.snapshotSetValid i) s (fun e => (e.snap.sets[i]).valid = true))
  ∧ (setComplete i s.dev = false → Rests (.snapshotSetValid i) s)

/-- EVENT_RAISED (R438): a field-side island queues an event where one of the 32 places is free, and counts a lost one
otherwise; the host side's events reach the log at once. -/
def eventRaised : Prop := ∀ (i : Fin 8) (n : EventName) (b : List Byte) (s : State),
  (up i s.dev = true → i ≠ 0 → i ≠ 5 → (s.dev.log.queue[i]).length < 32 → Gives (.eventRaised i n b) s (fun e =>
    e.log.queue[i] = s.dev.log.queue[i] ++ [⟨n, islandTime i s.dev, b, s.dev.time.flagged[i]⟩] ∧ e.log.ring = s.dev.log.ring))
  ∧ (up i s.dev = true → i ≠ 0 → i ≠ 5 → 32 ≤ (s.dev.log.queue[i]).length → Gives (.eventRaised i n b) s (fun e =>
    e.log.queue[i] = s.dev.log.queue[i] ∧ e.log.lost[i] = s.dev.log.lost[i] + 1))
  ∧ (up i s.dev = true → i = 0 ∨ i = 5 → Gives (.eventRaised i n b) s (fun e => e.log.nextSeq = s.dev.log.nextSeq + 1
    ∧ ∃ x, e.log.ring.getLast? = some (s.dev.log.nextSeq, x)))
  ∧ (up i s.dev = false → Rests (.eventRaised i n b) s)

/-- EVENT_QUEUE_ROOM (R438): the count of lost events travels as one event; the host side's own goes to the log. -/
def eventQueueRoom : Prop := ∀ (i : Fin 8) (s : State),
  (0 < s.dev.log.lost[i] → (s.dev.log.queue[i]).length < 32 → Gives (.eventQueueRoom i) s (fun e => e.log.lost[i] = 0
    ∧ (i ≠ 0 → i ≠ 5 → ∃ x, e.log.queue[i] = s.dev.log.queue[i] ++ [x] ∧ x.name = .eventsLost
        ∧ x.data = evData [(4, s.dev.log.lost[i])])))
  ∧ (s.dev.log.lost[i] = 0 ∨ 32 ≤ (s.dev.log.queue[i]).length → Rests (.eventQueueRoom i) s)

/-- EVENT (R438): the arrived event ends the log ring, under the next sequence number. -/
def event : Prop := ∀ (m : TenonMsg) (s : State),
  (heard .fh 0x0D m s.dev → Gives (.event m) s (fun e => 
    let r := (receive .fh m s.dev).1.log
    e.log.nextSeq = r.nextSeq + 1
      ∧ ∃ b, e.log.ring = (if 4096 ≤ r.ring.length then r.ring.drop 1 else r.ring) ++ [(r.nextSeq, b)]))
  ∧ (¬ heard .fh 0x0D m s.dev → receivedOnly (.event m) .fh m s)

/-- EVENT_LOG_FLUSH (R439): every entry of the ring is in flash. -/
def eventLogFlush : Prop := ∀ s : State,
  (up 0 s.dev = true → Gives .eventLogFlush s (fun e => e.log.flash = s.dev.log.ring ∧ e.log.ring = s.dev.log.ring ∧ e.log.unflushed = 0
    ∧ e.log.lastFlush = e.time.now ∧ (s.dev.log.unflushed < 64 → s.dev.log.lastFlush + sec 1 ≤ e.time.now)))
  ∧ (up 0 s.dev = false → Rests .eventLogFlush s)

end Sys2Proof.Claims
end

