-- ==== Sys2Proof/Claims/Site.lean ====
section
/-! DEFINITION. Claims about the site bus, address claiming, the TLS connections, time following and the times of sessions (chapter 12),
one for each command that is no request to the dictionary server. -/
namespace Sys2Proof.Claims
open Machine

/-! The CAN FD controllers (R346 to R358). -/

/-- STAGING_ADMISSION (R352): an urgent frame enters whenever the FIFO has room, a normal one only below the admission limit; the greatest
filling is kept. -/
def stagingAdmission : Prop := ∀ (c : Fin 2) (s : State),
  let q := s.dev.site.can[c]
  (∀ f r, q.urgent = f :: r → q.fifo.length < 32 → Gives (.stagingAdmission c) s (fun e =>
    (e.site.can[c]).fifo = q.fifo ++ [f] ∧ (e.site.can[c]).urgent = r ∧ (e.site.can[c]).normal = q.normal
      ∧ num e (canIdx c) 0x0C = max (num s.dev (canIdx c) 0x0C) ((q.fifo.length : Int) + 1)))
  ∧ (∀ f, q.urgent = [] → firstNormal q.normal = some f → q.fifo.length < 32 → q.fifo.length < nat s.dev (canIdx c) 0x0B →
    Gives (.stagingAdmission c) s (fun e => (e.site.can[c]).fifo = q.fifo ++ [f] ∧ (e.site.can[c]).normal = q.normal.erase f))
  ∧ (32 ≤ q.fifo.length ∨ (q.urgent = [] ∧ (q.normal = [] ∨ nat s.dev (canIdx c) 0x0B ≤ q.fifo.length)) →
    Gives (.stagingAdmission c) s (fun e => e.site = s.dev.site))

/-- CAN_FRAME_TRANSMITTED (R351, R358, R364): a frame that the module may send, under the node ID it holds, or the claim for one. -/
def canFrameTransmitted : Prop := ∀ (c : Fin 2) (s : State),
  let q := s.dev.site.can[c]
  (∀ f r, busOn c s.dev = true → maySend f s.dev = true → q.fifo = f :: r → Gives (.canFrameTransmitted c) s (fun e =>
    (e.site.can[c]).fifo = r ∧ (e.site.can[c]).lastSent = some (islandTime 0 s.dev)))
  ∧ (busOn c s.dev = false ∨ (∀ f, q.fifo.head? = some f → maySend f s.dev = false) → Rests (.canFrameTransmitted c) s)

/-- BUS_OFF (R347): the FIFO keeps its content. -/
def busOff : Prop := ∀ (c : Fin 2) (s : State),
  (busOn c s.dev = true → Gives (.busOff c) s (fun e => (e.site.can[c]).bus = .off ∧ (e.site.can[c]).fifo = (s.dev.site.can[c]).fifo
    ∧ num e (canIdx c) 0x0A = num s.dev (canIdx c) 0x0A + 1))
  ∧ (busOn c s.dev = false → Rests (.busOff c) s)

/-- BUS_OFF_RECOVERY (R347). -/
def busOffRecovery : Prop := ∀ (c : Fin 2) (s : State),
  ((s.dev.site.can[c]).bus = .off → Gives (.busOffRecovery c) s (fun e => (e.site.can[c]).bus = .active
    ∧ num e (canIdx c) 0x08 = 0 ∧ num e (canIdx c) 0x09 = 0 ∧ (e.site.can[c]).fifo = (s.dev.site.can[c]).fifo))
  ∧ ((s.dev.site.can[c]).bus ≠ .off → Rests (.busOffRecovery c) s)

/-- A received frame discarded and counted (R356). -/
def discarded (c : Fin 2) (sub : Nat) (d e : Dev) : Prop :=
  num e (canIdx c) sub = num d (canIdx c) sub + 1 ∧ e.site.can = d.site.can

/-- CAN_FRAME_RECEIVED (R346, R350, R356 to R358): no frame of a controller off the bus and no remote frame is taken; an extended or a
short frame, or one that no filter passes, is discarded; any other is stamped and goes to the receive queue of its
filter, or, by a host's filter, to the owner of the site bus monitor group. -/
def canFrameReceived : Prop := ∀ (c : Fin 2) (f : CanFrame) (ext rem : Bool) (s : State),
  let q := s.dev.site.can[c]
  let short : Bool := match contentLength f with | some n => decide (f.data.length < n) | none => false
  let g : CanFrame := { f with stamp := islandTime 0 s.dev }
  let live := busOn c s.dev = true ∧ rem = false
  (¬ live → Rests (.canFrameReceived c f ext rem) s)
  ∧ (live → ext = true ∨ short = true → Gives (.canFrameReceived c f ext rem) s (fun e => discarded c 0x10 s.dev e))
  ∧ (live → ext = false → short = false → filterOf c f.id s.dev = none → Gives (.canFrameReceived c f ext rem) s (fun e =>
    discarded c 0x10 s.dev e))
  ∧ (∀ n, live → ext = false → short = false → filterOf c f.id s.dev = some n → n < 6 → bit (nat s.dev (0x1203 + c.val) n) 30 = false →
    q.rxq0.length < 64 → Gives (.canFrameReceived c f ext rem) s (fun e => (e.site.can[c]).rxq0 = q.rxq0 ++ [g]))
  ∧ (∀ n, live → ext = false → short = false → filterOf c f.id s.dev = some n → n < 6 → bit (nat s.dev (0x1203 + c.val) n) 30 = true →
    q.rxq1.length < 64 → Gives (.canFrameReceived c f ext rem) s (fun e => (e.site.can[c]).rxq1 = q.rxq1 ++ [g]))
  ∧ (∀ n, live → ext = false → short = false → filterOf c f.id s.dev = some n → n < 6 → bit (nat s.dev (0x1203 + c.val) n) 30 = false →
    64 ≤ q.rxq0.length → Gives (.canFrameReceived c f ext rem) s (fun e => discarded c 0x0E s.dev e))
  ∧ (∀ n, live → ext = false → short = false → filterOf c f.id s.dev = some n → n < 6 → bit (nat s.dev (0x1203 + c.val) n) 30 = true →
    64 ≤ q.rxq1.length → Gives (.canFrameReceived c f ext rem) s (fun e => discarded c 0x0F s.dev e))
  ∧ (∀ n (o : Fin 6), live → ext = false → short = false → filterOf c f.id s.dev = some n → 6 ≤ n →
    s.dev.site.owners[(6 : Fin 60)] = o.val + 1 → (s.dev.site.sessions[o]).conn.isSome = true →
    Gives (.canFrameReceived c f ext rem) s (fun e => ∃ m, (e.site.sessions[o]).notice = some m ∧ m.service = 0x34
      ∧ m.data = frameNotice c g))

/-- CAN_HEARTBEAT (R349, Table 12.7): at the next 100 ms, on every enabled controller with room. -/
def canHeartbeat : Prop := ∀ s : State,
  (up 0 s.dev = true → s.dev.site.addr.state = .held → Gives .canHeartbeat s (fun e => e.time.now = dueAt s.dev.time.ticked[(6 : Fin 9)] (ms 100) s.dev
    ∧ ∀ c : Fin 2, on s.dev (canIdx c) 0x01 = true → (s.dev.site.can[c]).normal.length < 128 → ∃ f,
        (e.site.can[c]).normal = (s.dev.site.can[c]).normal ++ [f] ∧ f.id = canId 0xF s.dev.site.addr.id ∧ f.data.length = 8
          ∧ f.data.take 1 = leBytes 1 (roleOf s.dev) ∧ f.data.drop 4 = leBytes 4 (Config.serial.toNat % 2 ^ 32)))
  ∧ (up 0 s.dev = false ∨ s.dev.site.addr.state ≠ .held → Rests .canHeartbeat s)

/-! Address claiming (R362 to R364). -/

/-- A claim begins for an ID. -/
def claims (id : Nat) (e : Dev) : Prop := e.site.addr.state = .claiming ∧ e.site.addr.id = id ∧ e.site.addr.since = e.time.now

/-- ADDR_IN_HIGH (R362, R363): a stored ID is claimed at once; with none the module listens. -/
def addrInHigh : Prop := ∀ s : State,
  let a := s.dev.site.addr
  (a.state = .waiting → up 0 s.dev = true → nat s.dev 0x1200 0x01 ≠ 0 → Gives .addrInHigh s (fun e =>
    e.site.addr.addrInHigh = true ∧ claims (nat s.dev 0x1200 0x01) e))
  ∧ (a.state = .waiting → up 0 s.dev = true → nat s.dev 0x1200 0x01 = 0 → Gives .addrInHigh s (fun e =>
    e.site.addr = { a with state := .listening, id := 0, since := s.dev.time.now, heard := 0, tries := 0, addrInHigh := true }))
  ∧ (a.state ≠ .waiting ∨ up 0 s.dev = false → Gives .addrInHigh s (fun e => e.site.addr = { a with addrInHigh := true }))

/-- ADDRESS_LISTEN_EXPIRY (R363): after 300 ms the lowest free ID is claimed. -/
def addressListenExpiry : Prop := ∀ s : State,
  let a := s.dev.site.addr
  (∀ id, a.state = .listening → freeId s.dev = some id → a.tries < 32 → Gives .addressListenExpiry s (fun e =>
    claims id e ∧ e.site.addr.tries = a.tries + 1 ∧ a.since + ms 300 ≤ e.time.now))
  ∧ (a.state = .listening → freeId s.dev = none ∨ 32 ≤ a.tries → Gives .addressListenExpiry s (fun e =>
    e.site.addr.state = .noAddress ∧ a.since + ms 300 ≤ e.time.now))
  ∧ (a.state ≠ .listening → Rests .addressListenExpiry s)

/-- CLAIM_LISTEN_EXPIRY (R362, R363): 100 ms without a defence. -/
def claimListenExpiry : Prop := ∀ s : State,
  let a := s.dev.site.addr
  (a.state = .claiming → Gives .claimListenExpiry s (fun e => e.site.addr = { a with state := .held, addrOut := true }
    ∧ num e 0x1200 0x01 = (if num s.dev 0x1200 0x01 = 0 then (a.id : Int) else num s.dev 0x1200 0x01)
    ∧ a.since + ms 100 ≤ e.time.now))
  ∧ (a.state ≠ .claiming → Rests .claimListenExpiry s)

/-- CLAIM_RETRY_DELAY (R351, R363): the corrupted claim has left the FIFO, and the claim comes again, after a delay of 10 ms to 50 ms that is a free value. -/
def claimRetryDelay : Prop := ∀ s : State,
  (s.dev.site.addr.state = .claiming → Gives .claimRetryDelay s (fun e => claims s.dev.site.addr.id e
    ∧ s.dev.time.now + ms 10 ≤ e.time.now ∧ e.time.now ≤ s.dev.time.now + ms 50 ∧ e.freeCount = s.dev.freeCount + 1
    ∧ ∀ c : Fin 2, (e.site.can[c]).fifo = (s.dev.site.can[c]).fifo.filter (fun f => funcCode f.id != 0xE)))
  ∧ (s.dev.site.addr.state ≠ .claiming → Rests .claimRetryDelay s)

/-- ADDRESS_CLAIM (R363, R364): the holder defends its ID; a claimant that is answered gives way: the next ID, or a conflict for a stored
ID. A frame that is not next of the queues is not taken. -/
def addressClaim : Prop := ∀ (c : Fin 2) (f : CanFrame) (s : State) (d : Dev),
  let a := s.dev.site.addr
  let foreign := payload f 8 8 ≠ Config.serial.toNat ∧ nodeOf f.id = a.id
  (funcCode f.id = 0xE → takeFrame c f s.dev = some d → foreign → a.state = .held → payload f 0 1 = 1 →
    (∀ k : Fin 2, on s.dev (canIdx k) 0x01 = true → (s.dev.site.can[k]).normal.length < 128 →
      Gives (.addressClaim c f) s (fun e => e.site.addr.state = .held ∧ ∃ g, (e.site.can[k]).normal.getLast? = some g
        ∧ g.id = canId 0xE a.id ∧ g.data = leBytes 8 2 ++ leBytes 8 Config.serial.toNat)))
  ∧ (funcCode f.id = 0xE → takeFrame c f s.dev = some d → foreign → a.state = .claiming → payload f 0 1 = 2 → num s.dev 0x1200 0x01 ≠ 0 →
    Gives (.addressClaim c f) s (fun e => e.site.addr.state = .conflict ∧ e.site.addr.addrOut = false))
  ∧ (∀ id, funcCode f.id = 0xE → takeFrame c f s.dev = some d → foreign → a.state = .claiming → payload f 0 1 = 2 →
    num s.dev 0x1200 0x01 = 0 → freeId (hear (nodeOf f.id) s.dev) = some id → a.tries < 32 →
    Gives (.addressClaim c f) s (fun e => claims id e ∧ e.site.addr.tries = a.tries + 1))
  ∧ (funcCode f.id ≠ 0xE ∨ takeFrame c f s.dev = none → Rests (.addressClaim c f) s)

/-! Front ends and insulation monitors (R359 to R361). -/

/-- FRONT_END_STATUS (R348, R359): the capacities of a listed node, 0 where it is not running, and its site power data on lane HF, where
only its newest wait. -/
def frontEndStatus : Prop := ∀ (c : Fin 2) (f : CanFrame) (s : State) (d : Dev),
  let node (i : Nat) : Bool := nat s.dev 0x1211 (i + 1) == nodeOf f.id && nodeOf f.id != 0
  let runs := payload f 10 1 = 1 ∨ payload f 10 1 = 2
  (∀ i, funcCode f.id = 0x1 → takeFrame c f s.dev = some d → (List.range 8).find? node = some i → Gives (.frontEndStatus c f) s (fun e =>
    nat e 0x1212 (i + 1) = (if runs then payload f 0 4 else 0) ∧ nat e 0x1213 (i + 1) = (if runs then payload f 4 4 else 0)
      ∧ ∃ m ∈ (laneOf .hf e).queue[(1 : Fin 4)], m.type = 0x0B ∧ m.key = i ∧ (f.stamp : Int) ≤ m.items.getD 6 0
          ∧ (m.items.getD 6 0 = f.stamp → m.items = [0, (i : Int), nat e 0x1212 (i + 1), nat e 0x1213 (i + 1), payload f 8 2, payload f 10 1, f.stamp]
            ∨ m ∈ (laneOf .hf s.dev).queue[(1 : Fin 4)])))
  ∧ (funcCode f.id = 0x1 → takeFrame c f s.dev = some d → (List.range 8).find? node = none → Gives (.frontEndStatus c f) s (fun e =>
    e.site = d.site ∧ e.barrier = s.dev.barrier))
  ∧ (funcCode f.id ≠ 0x1 ∨ takeFrame c f s.dev = none → Rests (.frontEndStatus c f) s)

/-- IMD_READING_FRAME (R360): one message for each outlet that the node serves. -/
def imdReadingFrame : Prop := ∀ (c : Fin 2) (f : CanFrame) (s : State) (d : Dev),
  (funcCode f.id = 0x2 → takeFrame c f s.dev = some d → Gives (.imdReadingFrame c f) s (fun e =>
    (laneOf .hf e).queue[(1 : Fin 4)] = (laneOf .hf s.dev).queue[(1 : Fin 4)]
      ++ (imdOutlets (nodeOf f.id) s.dev).map (fun k => tenonItems 0x0B 1 (16 + k.val) 64
          [1, k.val, payload f 0 2, payload f 2 1, payload f 6 2, (f.stamp : Int) - ms (payload f 4 2)] s.dev)))
  ∧ (funcCode f.id ≠ 0x2 ∨ takeFrame c f s.dev = none → Rests (.imdReadingFrame c f) s)

/-- IMD_COMMAND (R361): the holder's command for an outlet whose monitor is on the site bus, with a running count. -/
def imdCommand : Prop := ∀ (k : Fin 12) (s : State),
  let may := up 0 s.dev = true ∧ holds s.dev = true ∧ nat s.dev (outIdx k 1) 0x08 / 256 = 1 ∧ s.dev.site.addr.state = .held
  (may → Gives (.imdCommand k) s (fun e => e.site.imdCount[k] = (s.dev.site.imdCount[k] + 1) % 256
    ∧ ∀ c : Fin 2, on s.dev (canIdx c) 0x01 = true → (s.dev.site.can[c]).normal.length < 128 → ∃ f,
        (e.site.can[c]).normal = (s.dev.site.can[c]).normal ++ [f] ∧ f.id = canId 0x3 s.dev.site.addr.id))
  ∧ (¬ may → Rests (.imdCommand k) s)

/-! Ethernet, TLS and time following (R386 to R390). -/

/-- ETHERNET_LINK_CHANGE (R386). -/
def ethernetLinkChange : Prop := ∀ (p : Fin 2) (l : Fin 3) (s : State),
  Gives (.ethernetLinkChange p l) s (fun e => e.site.ethLink[p] = l.val ∧ ∀ q : Fin 2, q ≠ p → e.site.ethLink[q] = s.dev.site.ethLink[q])

/-- TLS_CONNECTION (R386, R387): the lowest free of four places; a fifth connection is closed at once. -/
def tlsConnection : Prop := ∀ (p : Fin 2) (s : State),
  let free := (all 4).find? (fun n => (s.dev.site.tls[n]).isNone)
  (∀ n, s.dev.site.ethLink[p] ≠ 0 → free = some n → Gives (.tlsConnection p) s (fun e => e.site.tls[n] = some ⟨s.dev.time.now, false⟩))
  ∧ (s.dev.site.ethLink[p] = 0 ∨ free = none → Rests (.tlsConnection p) s)

/-- TLS_HANDSHAKE_TIMEOUT (R387). -/
def tlsHandshakeTimeout : Prop := ∀ (n : Fin 4) (s : State),
  (∀ x, s.dev.site.tls[n] = some x → x.established = false → Gives (.tlsHandshakeTimeout n) s (fun e => e.site.tls[n] = none
    ∧ num e 0x1410 0x02 = num s.dev 0x1410 0x02 + 1 ∧ x.since + sec 10 ≤ e.time.now))
  ∧ ((∀ x, s.dev.site.tls[n] = some x → x.established = true) → Rests (.tlsHandshakeTimeout n) s)

/-- TLS_IDLE_TIMEOUT (R387). -/
def tlsIdleTimeout : Prop := ∀ (n : Fin 4) (s : State),
  let idle := s.dev.site.sessions.toList.all (fun x => x.conn ≠ some (.tls n))
  (∀ x, s.dev.site.tls[n] = some x → x.established = true → idle = true → Gives (.tlsIdleTimeout n) s (fun e =>
    e.site.tls[n] = none ∧ x.since + sec 10 ≤ e.time.now))
  ∧ (s.dev.site.tls[n] = none ∨ idle = false → Rests (.tlsIdleTimeout n) s)

/-- PTP_SYNC (R388, R389): offset and wall clock by the delay request-response mechanism; 16 offsets in a row within the limit set the flag,
16 beyond it clear it. The rate estimate is a free value. -/
def ptpSync : Prop := ∀ (x : PtpExchange) (s : State),
  let p := s.dev.site.ptp
  let delay := ((x.t2 - x.t1) + (x.t4 - x.t3)) / 2
  let inside := (x.t2 - x.t1 - delay).natAbs ≤ nat s.dev 0x1420 0x0A
  (ptpTakes x s.dev = true → Gives (.ptpSync x) s (fun e => e.site.ptp.state = 3
    ∧ e.site.ptp.offset = x.t2 - x.t1 - delay ∧ e.site.ptp.wall = x.t1 + delay - x.utcOffset * 1000000000 - x.t2
    ∧ e.site.ptp.lastSync = s.dev.time.now ∧ e.site.ptp.grandmaster = x.grandmaster.toNat
    ∧ (inside → e.site.ptp.within = p.within + 1 ∧ e.site.ptp.beyond = 0)
    ∧ (¬ inside → e.site.ptp.within = 0 ∧ e.site.ptp.beyond = p.beyond + 1)
    ∧ e.site.ptp.synchronised = (if 16 ≤ e.site.ptp.within then true else if 16 ≤ e.site.ptp.beyond then false else p.synchronised)
    ∧ e.freeCount = s.dev.freeCount + 1))
  ∧ (ptpTakes x s.dev = false → Rests (.ptpSync x) s)

/-- PTP_SYNC_LOSS (R389): 4 s without Sync; the wall clock runs on. -/
def ptpSyncLoss : Prop := ∀ s : State,
  (s.dev.site.ptp.state = 3 → Gives .ptpSyncLoss s (fun e => e.site.ptp.state = 1 ∧ e.site.ptp.synchronised = false
    ∧ e.site.ptp.wall = s.dev.site.ptp.wall ∧ e.site.ptp.slipFrom = some e.time.now ∧ s.dev.site.ptp.lastSync + sec 4 ≤ e.time.now))
  ∧ (s.dev.site.ptp.state ≠ 3 → Rests .ptpSyncLoss s)

/-! Sessions and their times (R372, R375, R377, R384). -/

/-- OPEN_SESSION (R374 to R376, R387): the first free slot of the connection's kind, where the client has an identity; no two open sessions
have one identity. A TLS client without one loses its connection, and a USB client is first given a challenge, which is a free value. -/
def openSession : Prop := ∀ (a : Ask) (x : ClientAuth) (s : State),
  let m := requestMsg 0x01 0 0 a
  let right := ∀ n, slotOf a.session.toNat = some n → n ∈ slotsFor a.conn
  let known (id : List Byte) := clientIdentity a x s.dev = some id
  let fresh (id : List Byte) := ∀ n : Fin 6, (s.dev.site.sessions[n]).conn.isSome = true → (s.dev.site.sessions[n]).identity ≠ id
  let free := (slotsFor a.conn).find? (fun n => (s.dev.site.sessions[n]).conn.isNone)
  let asks := reaches a.conn s.dev = true ∧ right ∧ (a.conn = .peer → peerSessionMay s.dev = true)
  (∀ n id, asks → ¬ (a.conn = .usb ∧ a.data = []) → known id → fresh id → free = some n → Gives (.openSession a x) s (fun e =>
    (e.site.sessions[n]).conn = some a.conn ∧ (e.site.sessions[n]).identity = id ∧ (e.site.sessions[n]).last = s.dev.time.now
      ∧ (e.site.sessions[n]).reply = some (replyMsg m (leBytes 1 (n.val + 1) ++ leBytes 2 (nat s.dev 0x1100 0x01)))))
  ∧ (∀ id, asks → ¬ (a.conn = .usb ∧ a.data = []) → known id → fresh id → free = none → Gives (.openSession a x) s (fun e =>
    e.site.stray = some (abortMsg m 0x11000010) ∧ e.site.sessions = s.dev.site.sessions))
  ∧ (asks → ¬ (a.conn = .usb ∧ a.data = []) → (∀ n, a.conn ≠ .tls n) → clientIdentity a x s.dev = none → Gives (.openSession a x) s (fun e =>
    e.site.stray = some (abortMsg m 0x11000015) ∧ e.site.sessions = s.dev.site.sessions))
  ∧ (∀ n, asks → a.conn = .tls n → clientIdentity a x s.dev = none → Gives (.openSession a x) s (fun e =>
    e.site.tls[n] = none ∧ num e 0x1410 0x02 = num s.dev 0x1410 0x02 + 1 ∧ e.site.stray = s.dev.site.stray
      ∧ e.site.sessions = s.dev.site.sessions))
  ∧ (∀ id, asks → ¬ (a.conn = .usb ∧ a.data = []) → known id → Gives (.openSession a x) s (fun e => ∀ i j : Fin 6,
    (e.site.sessions[i]).conn.isSome = true → (e.site.sessions[j]).conn.isSome = true → (e.site.sessions[i]).identity = id →
    (e.site.sessions[j]).identity = id → i = j))
  ∧ (asks → a.conn = .usb → a.data = [] → Gives (.openSession a x) s (fun e => e.freeCount = s.dev.freeCount + 1
    ∧ ∃ b, b.length = 16 ∧ e.site.challenge = some (b, s.dev.time.now) ∧ e.site.stray = some (replyMsg m b)))
  ∧ (reaches a.conn s.dev = true → ¬ right ∨ (a.conn = .peer ∧ peerSessionMay s.dev = false) → Gives (.openSession a x) s (fun e =>
    e.site.stray = some (abortMsg m 0x11000014) ∧ e.site.sessions = s.dev.site.sessions))
  ∧ (reaches a.conn s.dev = false → Rests (.openSession a x) s)

/-- What the closing of a session leaves on the host side (R377): no connection, no subscription, no monitor group; the field side is told, or
will be once the barrier is there again (R381). -/
def closed (n : Fin 6) (d e : Dev) : Prop :=
  (e.site.sessions[n]).conn = none ∧ (e.site.sessions[n]).transfer = none
    ∧ (∀ i : Fin 16, ∀ x, e.site.subs[i] = some x → x.session ≠ n.val + 1)
    ∧ e.site.owners[(6 : Fin 60)] ≠ n.val + 1
    ∧ (barrierLost d = true → e.site.unsentNotices = d.site.unsentNotices ++ [(n, false)])
    ∧ (barrierLost d = false → ∃ m, lastOf .hf 1 e = some m ∧ m.type = 0x07 ∧ m.items.take 2 = [n.val + 1, 0])

/-- SESSION_TIMEOUT (R377): the session timeout after the last message; the partner's session closes with the peer link. -/
def sessionTimeout : Prop := ∀ (n : Fin 6) (s : State),
  let x := s.dev.site.sessions[n]
  (x.conn.isSome = true → n ≠ 5 → Gives (.sessionTimeout n) s (fun e => closed n s.dev e ∧ x.last + ms (nat s.dev 0x1100 0x01) ≤ e.time.now))
  ∧ (x.conn.isSome = true → n = 5 → s.dev.pair.silentSince.isSome = true → Gives (.sessionTimeout n) s (fun e => closed n s.dev e))
  ∧ (x.conn = none ∨ (n = 5 ∧ s.dev.pair.silentSince = none) → Rests (.sessionTimeout n) s)

/-- USB_CHALLENGE_EXPIRY (R375): 10 s. -/
def usbChallengeExpiry : Prop := ∀ s : State,
  (∀ b t, s.dev.site.challenge = some (b, t) → Gives .usbChallengeExpiry s (fun e => e.site.challenge = none ∧ t + sec 10 ≤ e.time.now))
  ∧ (s.dev.site.challenge = none → Rests .usbChallengeExpiry s)

/-- TRANSFER_TIMEOUT (R372): 1 s without a segment. -/
def transferTimeout : Prop := ∀ (n : Fin 6) (s : State),
  (∀ t, (s.dev.site.sessions[n]).transfer = some t → Gives (.transferTimeout n) s (fun e => (e.site.sessions[n]).transfer = none
    ∧ (e.site.sessions[n]).timedOut = true ∧ t.last + sec 1 ≤ e.time.now
    ∧ ((s.dev.site.sessions[n]).conn.isSome = true → ∃ m, (e.site.sessions[n]).notice = some m ∧ m.service = 0x33 ∧ m.data = [6, 0])))
  ∧ ((s.dev.site.sessions[n]).transfer = none → Rests (.transferTimeout n) s)

/-- PUBLICATION (R384, R385): at the next multiple of its period a subscription publishes its values in order, or, without room or without
the barrier that its values need, counts a dropped one; its sequence goes on either way. -/
def publication : Prop := ∀ (n : Fin 16) (s : State),
  let count (x : Sub) : Nat := ((x.next : Int) + s.dev.time.base).toNat
  let after (x : Sub) : Sub :=
    { x with seq := (x.seq + 1) % 65536, next := atSite ((count x / ms x.period + 1) * ms x.period : Nat) s.dev }
  (∀ x i conn, s.dev.site.subs[n] = some x → slotOf x.session = some i → (s.dev.site.sessions[i]).conn = some conn →
    stagingRoom conn s.dev = true → subIslands x.keys = [] ∨ barrierLost s.dev = false → Gives (.publication n) s (fun e =>
      e.time.now = max s.dev.time.now x.next ∧ e.site.subs[n] = some (after x)
        ∧ ∃ m, (e.site.sessions[i]).notice = some m ∧ m.service = 0x32
          ∧ m.data = leBytes 1 (n.val + 1) ++ leBytes 1 0 ++ leBytes 2 x.seq ++ leBytes 8 (count x)
              ++ (sample x.keys (onSite (fun y => { y with subs := upd y.subs n (fun _ => some (after x)) }) (reach x.next s.dev))).1))
  ∧ (∀ x i conn, s.dev.site.subs[n] = some x → slotOf x.session = some i → (s.dev.site.sessions[i]).conn = some conn →
    stagingRoom conn s.dev = false ∨ (subIslands x.keys ≠ [] ∧ barrierLost s.dev = true) → Gives (.publication n) s (fun e =>
      num e 0x1106 0x02 = num s.dev 0x1106 0x02 + 1 ∧ e.site.subs[n] = some (after x)))
  ∧ (s.dev.site.subs[n] = none → Rests (.publication n) s)

end Sys2Proof.Claims
end

