-- ==== Sys2Proof/Claims/Ring.lean ====
section
/-! DEFINITION. Claims about contactors, the spline links, the cards, the legs and synchronisation (chapters 2 and 3), one for each
command. -/
namespace Sys2Proof.Claims
open Machine

/-! Contactors in travel (R45 to R48). -/

/-- The entry that counts a contactor's operations (Tables 2.6 and 2.8). -/
def operations (x : ContactorId) (d : Dev) : Int := match x with
  | .tie j => num d 0x2803 (j.val + 1)
  | .outlet j => num d 0x2804 (j.val + 1)
  | .brick k => num d (brickIdx k) 0x06

/-- CONTACTOR_TRAVEL_CONFIRMED (Table 2.5): every contact that reports has reported the commanded state for the debounce time. -/
def contactorTravelConfirmed : Prop := ∀ (x : ContactorId) (s : State),
  let c := contactor x s.dev
  let done_ := c.travel.isSome && reporting x s.dev != [] && (reporting x s.dev).all (fun a => a.raw == c.cmd)
  (done_ = true → Gives (.contactorTravelConfirmed x) s (fun e => (contactor x e).travel = none ∧ (contactor x e).disagree = false
    ∧ (contactor x e).cmd = c.cmd ∧ operations x e = operations x s.dev + 1
    ∧ ∀ a ∈ reporting x s.dev, a.since + debounce s.dev ≤ e.time.now))
  ∧ (done_ = false → Rests (.contactorTravelConfirmed x) s)

/-- CONTACTOR_TRAVEL_FAULT (R47): travel time, debounce time and 10 ms have passed; a tie's command is withdrawn and the tie frozen, any other
contactor's command opens and it is in travel fault. That withdrawing puts the tie's bit back is the model's reading (log 173). -/
def contactorTravelFault : Prop := ∀ (x : ContactorId) (s : State),
  let c := contactor x s.dev
  (∀ t, c.travel = some t → contactsReport x c.cmd s.dev = false → Gives (.contactorTravelFault x) s (fun e =>
    (contactor x e).want = (contactor x e).cmd ∧ (contactor x e).travel = none
      ∧ t + travelTime x c.cmd s.dev + debounce s.dev + ms 10 ≤ e.time.now
      ∧ (match x with
        | .tie _ => (contactor x e).frozen = true ∧ (contactor x e).cmd = !c.cmd
        | _ => (contactor x e).travelFault = true ∧ (contactor x e).cmd = false)))
  ∧ (c.travel = none ∨ contactsReport x c.cmd s.dev = true → Rests (.contactorTravelFault x) s)

/-- CONTACT_DISAGREEMENT (R48): the two contacts of a tie or an outlet differ for the debounce time; the contactor counts as closed. -/
def contactDisagreement : Prop := ∀ (x : ContactorId) (s : State),
  (∀ a b, contacts x s.dev = [a, b] → a.raw ≠ b.raw → (contactor x s.dev).disagree = false →
    Gives (.contactDisagreement x) s (fun e => (contactor x e).disagree = true ∧ max a.since b.since + debounce s.dev ≤ e.time.now
      ∧ (contactor x e).cmd = (contactor x s.dev).cmd))
  ∧ ((∀ a b, contacts x s.dev = [a, b] → a.raw = b.raw ∨ (contactor x s.dev).disagree = true) → Rests (.contactDisagreement x) s)

/-! The spline links (R62 to R72). -/

/-- What a missing uplink leaves of a brick (R71): the last good samples stay; the second in a row brakes the legs in service, unless their
contactor sends them to OFF at the coming boundary (R78). -/
def brickMissed (k : Fin 24) (d e : Dev) : Prop :=
  (e.brick[k]).fresh = false ∧ (e.brick[k]).missing = (d.brick[k]).missing + 1 ∧ (e.brick[k]).goodRun = 0
    ∧ (e.brick[k]).vRail = (d.brick[k]).vRail ∧ (e.brick[k]).iOut = (d.brick[k]).iOut
    ∧ ((d.brick[k]).missing = 1 → brickOff k (debounceContacts (reach (nextBoundary d) d)) = false →
        ∀ n : Fin 96, brickOf n = k → inService (d.leg[n]) = true →
          (e.leg[n]).state = .braking ∧ (e.leg[n]).brakeStart = some d.time.now)
/-- What a missing uplink leaves of an axis drive. -/
def driveMissed (u : Fin 4) (d e : Dev) : Prop :=
  (e.drive[u]).fresh = false ∧ (e.drive[u]).missing = (d.drive[u]).missing + 1 ∧ (e.drive[u]).goodRun = 0
    ∧ (e.drive[u]).position = (d.drive[u]).position

/-- UPLINK_DEADLINE (R64, R70, R71, Table 3.7): a good frame's samples are taken; a late, bad or missing one is counted as such. The card has
measured either way, and counts its periods below 2 A. -/
def uplinkDeadline : Prop := ∀ (s : State),
  (∀ (k : Fin 24) (port : Fin 28) (f : BrickUp), up 1 s.dev = true → port.val = k.val → brickUpGood f s.dev = true →
    Gives (.uplinkDeadline port (.brick f)) s (fun e => (e.brick[k]).fresh = true ∧ (e.brick[k]).missing = 0
      ∧ (e.brick[k]).lastGood = s.dev.time.now ∧ (e.brick[k]).vRail = f.vRail.toNat ∧ (e.brick[k]).vOut = f.vOut.toNat
      ∧ (e.brick[k]).vDc = f.vDc.toNat ∧ (e.brick[k]).iOut = f.iOut.toInt ∧ (e.brick[k]).epochSeen = f.epochSeen.toNat
      ∧ (∀ j : Fin 4, (e.leg[(⟨4 * k.val + j.val, by omega⟩ : Fin 96)]).current = (f.legCurrent[j]).toInt)
      ∧ num e (brickIdx k) 0x30 = num s.dev (brickIdx k) 0x30 + 1))
  ∧ (∀ (k : Fin 24) (port : Fin 28), up 1 s.dev = true → port.val = k.val →
    Gives (.uplinkDeadline port .missing) s (brickMissed k s.dev)
    ∧ Gives (.uplinkDeadline port .late) s (fun e => brickMissed k s.dev e
        ∧ num e (brickIdx k) 0x32 = num s.dev (brickIdx k) 0x32 + 1)
    ∧ (∀ f, brickUpGood f s.dev = false → Gives (.uplinkDeadline port (.brick f)) s (fun e => brickMissed k s.dev e
        ∧ num e (brickIdx k) 0x31 = num s.dev (brickIdx k) 0x31 + 1)))
  ∧ (∀ (u : Fin 4) (port : Fin 28), up 1 s.dev = true → port.val = 24 + u.val →
    (∀ f, axisUpGood f s.dev = true → Gives (.uplinkDeadline port (.axis f)) s (fun e => (e.drive[u]).fresh = true
      ∧ (e.drive[u]).missing = 0 ∧ (e.drive[u]).position = f.position.map (·.toInt) ∧ (e.drive[u]).status = f.status))
    ∧ (∀ f, axisUpGood f s.dev = false → Gives (.uplinkDeadline port (.axis f)) s (driveMissed u s.dev))
    ∧ Gives (.uplinkDeadline port .missing) s (driveMissed u s.dev))
  ∧ (∀ (port : Fin 28) (u : Uplink), up 1 s.dev = false → Gives (.uplinkDeadline port u) s (fun e =>
    Within [.card, .freeCount] [] s.dev e))
  ∧ (∀ (k : Fin 24) (c : Fin 28) (f : BrickUp), c.val = k.val → f.framed = true → f.crc = crc16 (brickUpBytes f) →
    Gives (.uplinkDeadline c (.brick f)) s (fun e => (e.card[c]).iOut = f.iOut.toInt
      ∧ (e.card[c]).current = f.legCurrent.map (·.toInt)
      ∧ (e.card[c]).low = (if (f.iOut.toInt).natAbs < 100 then min 3 ((s.dev.card[c]).low + 1) else 0)))

/-- LINK_HOLD_EXPIRY (R54, R71): the card is lost, its legs with it, its brick contactor counts as commanded open, and its ties
and its rail's outlet contactor are frozen. -/
def linkHoldExpiry : Prop := ∀ (k : Fin 24) (s : State),
  let b := s.dev.brick[k]
  (nat s.dev 0x2301 0x06 ≤ b.missing → b.link ≠ .lost → Gives (.linkHoldExpiry k) s (fun e => (e.brick[k]).link = .lost
    ∧ (e.brick[k]).fresh = false ∧ (contactor (.brick k) e).cmd = false
    ∧ (∀ n : Fin 96, brickOf n = k → (e.leg[n]).state = .lost)
    ∧ (∀ j : Fin 12, k ∈ tieCards j → (e.ring.tie[j]).frozen = true) ∧ (e.ring.outlet[railOf k]).frozen = true
    ∧ (e.brick[k]).outFrozen = true))
  ∧ (b.missing < nat s.dev 0x2301 0x06 ∨ b.link = .lost → Rests (.linkHoldExpiry k) s)

/-- BRICK_LINK_UP (R63, R65, R71): 100 good uplinks in a row; the module then writes its service values. -/
def brickLinkUp : Prop := ∀ (s : State),
  (∀ (k : Fin 24) (port : Fin 28), port.val = k.val →
    let b := s.dev.brick[k]
    (b.link = .starting → 100 ≤ b.goodRun → b.fibreRefused = false → Gives (.brickLinkUp port) s (fun e =>
      (e.brick[k]).link = .up ∧ (e.brick[k]).serviceQ = linkWrites b.delay s.dev))
    ∧ (b.link ≠ .starting ∨ b.goodRun < 100 ∨ b.fibreRefused = true → Rests (.brickLinkUp port) s))
  ∧ (∀ (u : Fin 4) (port : Fin 28), port.val = 24 + u.val →
    let b := s.dev.drive[u]
    (b.link = .starting → 100 ≤ b.goodRun → b.fibreRefused = false → Gives (.brickLinkUp port) s (fun e =>
      (e.drive[u]).link = .up ∧ (e.drive[u]).serviceQ = linkWrites b.delay s.dev))
    ∧ (b.link ≠ .starting ∨ b.goodRun < 100 ∨ b.fibreRefused = true → Rests (.brickLinkUp port) s))

/-- LEG_LOST_RECOVERY (Table 3.16): good uplinks for 10 ms take a leg from LOST to OFF. -/
def legLostRecovery : Prop := ∀ (n : Fin 96) (s : State),
  let l := s.dev.leg[n]
  (∀ t, l.goodSince = some t → l.state = .lost → (s.dev.brick[brickOf n]).missing = 0 → Gives (.legLostRecovery n) s (fun e =>
    (e.leg[n]).state = .off ∧ t + ms 10 ≤ e.time.now))
  ∧ (l.goodSince = none ∨ l.state ≠ .lost ∨ (s.dev.brick[brickOf n]).missing ≠ 0 → Rests (.legLostRecovery n) s)

/-- PORT_DELAY_MEASUREMENT (R63, R66): half the arrival less 240 ns and the delay in force; more than 200 ns refuses the link,
anything else is written to the card. Stated for a brick card. -/
def portDelayMeasurement : Prop := ∀ (k : Fin 24) (port : Fin 28) (arrival : Nat) (s : State), port.val = k.val →
  let p := myPort s.dev
  let b := s.dev.brick[k]
  let new : Int := divRound ((arrival : Int) - 240 + b.delay[p]) 2
  (200 < new → Gives (.portDelayMeasurement port arrival) s (fun e => (e.brick[k]).fibreRefused = true
    ∧ (e.brick[k]).delay = b.delay ∧ (e.brick[k]).serviceQ = b.serviceQ))
  ∧ (new ≤ 200 → Gives (.portDelayMeasurement port arrival) s (fun e => (e.brick[k]).fibreRefused = false
    ∧ (e.brick[k]).delay[p] = (max 0 new).toNat ∧ (e.brick[k]).serviceQ = b.serviceQ ++ [(8 + p.val, (max 0 new).toNat)]))

/-! The cards (R64 to R70). -/

/-- Whether a frame at a card is good and its count the next one (R64). -/
def counted (c : Fin 28) (f : Downlink) (d : Dev) : Prop :=
  (downView c f).good = true ∧ ((d.card[c]).authority = none ∨ frameCount (downView c f).header = (d.card[c]).count + 1)

/-- DOWNLINK_FRAME_ACCEPT (R64, R67, R69): a command frame is applied from the highest epoch seen on; at an equal epoch only from
the port in authority, and the other port's is a conflict for 100 ms; lower epochs and shadow frames are not applied. -/
def downlinkFrameAccept : Prop := ∀ (c : Fin 28) (p : Fin 2) (f : Downlink) (s : State),
  let v := downView c f
  let x := s.dev.card[c]
  (counted c f s.dev → v.command = true → x.highest < v.epoch ∨ x.highest = v.epoch ∧ (x.authority = none ∨ x.authority = some p) →
    Gives (.downlinkFrameAccept c p f) s (fun e => (e.card[c]).authority = some p ∧ (e.card[c]).highest = v.epoch
      ∧ (e.card[c]).next = some v.words ∧ (e.card[c]).nextControl = v.control ∧ (e.card[c]).miss = 0
      ∧ (e.card[c]).orphan = false ∧ (e.card[c]).braking = false ∧ (e.card[c]).lastAccepted = s.dev.time.now
      ∧ (e.card[c]).count + 1 = frameCount v.header ∧ (e.card[c]).brkOpened = false))
  ∧ (counted c f s.dev → v.command = true → v.epoch = x.highest → x.authority = some (1 - p) →
    Gives (.downlinkFrameAccept c p f) s (fun e => (e.card[c]).conflictUntil = some (s.dev.time.now + ms 100)
      ∧ (e.card[c]).authority = x.authority ∧ (e.card[c]).highest = x.highest ∧ (e.card[c]).next = x.next))
  ∧ (counted c f s.dev → v.command = false ∨ v.epoch < x.highest →
    Gives (.downlinkFrameAccept c p f) s (fun e => (e.card[c]).gotFrame[p] = true
      ∧ (e.card[c]).authority = x.authority ∧ (e.card[c]).highest = x.highest ∧ (e.card[c]).next = x.next))
  ∧ (¬ counted c f s.dev → Rests (.downlinkFrameAccept c p f) s)

/-- CARD_DOWNLINK_DEADLINE (R60, R68, R69, Table 3.14): the accepted words are in force from the boundary on. With no frame accepted the third
miss orphans the card, or the first beyond its hold count; it brakes after its hold count, or after two misses with no other live port, and
then a brick card puts every leg that switches into braking and a drive's torque is 0. -/
def cardDownlinkDeadline : Prop := ∀ (c : Fin 28) (s : State),
  let x := s.dev.card[c]
  (∀ w, x.next = some w → Gives (.cardDownlinkDeadline c) s (fun e => (e.card[c]).miss = 0 ∧ (e.card[c]).orphan = false
    ∧ (e.card[c]).braking = false ∧ (e.card[c]).next = none ∧ (e.card[c]).words = w
    ∧ (e.card[c]).control = x.nextControl ∧ (e.card[c]).count = x.count + 1))
  ∧ (x.next = none → Gives (.cardDownlinkDeadline c) s (fun e => (e.card[c]).miss = x.miss + 1
    ∧ (e.card[c]).orphan = (x.orphan || decide (3 ≤ x.miss + 1) || decide (x.params[11] < x.miss + 1))
    ∧ ((e.card[c]).braking = false → (e.card[c]).words = x.words)
    ∧ ((e.card[c]).braking = true → ∀ j : Fin 4, (e.card[c]).words[j] = if 24 ≤ c.val then 0
        else if x.words[j] &&& 0xC = 0 then x.words[j] else x.words[j] ||| 0xC)
    ∧ (x.params[11] < x.miss + 1 ∨ x.authority = none → (e.card[c]).braking = true)
    ∧ (∀ p, x.authority = some p → x.miss = 0 → 1 ≤ x.params[11] → (e.card[c]).braking = false)))

/-- CARD_CONTACTOR_HOLD (R70). -/
def cardContactorHold : Prop := ∀ (k : Fin 24) (c : Fin 28) (s : State), c.val = k.val →
  let x := s.dev.card[c]
  (1 ≤ x.miss → 3 ≤ x.low → Gives (.cardContactorHold k) s (fun e => (e.card[c]).brkOpened = true
    ∧ (e.card[c]).control = x.control &&& 0x7F ∧ x.lastAccepted + ms x.params[12] ≤ e.time.now))
  ∧ (x.miss = 0 ∨ x.low < 3 → Rests (.cardContactorHold k) s)

/-- SERVICE_REQUEST (R65, Tables 3.9 and 3.12): address 0 is no request; a read answers the value; a write in range from the port in
authority is echoed and takes effect at the boundary; any other write answers the error bit and leaves the parameters. -/
def serviceRequest : Prop := ∀ (c : Fin 28) (p : Fin 2) (q : BitVec 24) (s : State),
  let a := (q.extractLsb' 16 7).toNat
  let v := (q.extractLsb' 0 16).toNat
  let x := s.dev.card[c]
  (a = 0 → Gives (.serviceRequest c p q) s (fun e => (e.card[c]).answer[p] = 0 ∧ (e.card[c]).nextWrite = x.nextWrite))
  ∧ (∀ y, a ≠ 0 → q.getLsbD 23 = false → serviceValue c x a = some y → Gives (.serviceRequest c p q) s (fun e =>
    (e.card[c]).answer[p] = BitVec.ofNat 24 (a * 2 ^ 16 + y) ∧ (e.card[c]).nextWrite = x.nextWrite))
  ∧ (∀ lo hi, q.getLsbD 23 = true → serviceRange a = some (lo, hi) → x.authority = some p → lo ≤ v → v ≤ hi →
    Gives (.serviceRequest c p q) s (fun e =>
      (e.card[c]).answer[p] = BitVec.ofNat 24 (a * 2 ^ 16 + v) ∧ (e.card[c]).nextWrite = some (a - 8, v)))
  ∧ (a ≠ 0 → q.getLsbD 23 = true → (∀ y, serviceValue c x a = some y → y < 65536) →
      (x.authority ≠ some p ∨ serviceRange a = none ∨ ∃ lo hi, serviceRange a = some (lo, hi) ∧ (v < lo ∨ hi < v)) →
    Gives (.serviceRequest c p q) s (fun e => (e.card[c]).answer[p].getLsbD 23 = true ∧ (e.card[c]).nextWrite = x.nextWrite))

/-! Synchronisation (R73 to R75). -/

/-- Whether an edge is off the configured rate by more than 500 ppm (R74). -/
def edgeOffRate (at_ : Nat) (d : Dev) : Bool := match d.sync.lastEdge with
  | some t => let n := nat d 0x2300 0x02
              decide (n * 1000 * 500 < ((at_ : Int) - t - n * 1000).natAbs * 1000000)
  | none => false

/-- SYNC_IN_EDGE (R73 to R75): the phase error is taken; the module that holds the lease corrects the next boundary by one step at
most, and the sixteenth edge in a row within 20 ns locks. -/
def syncInEdge : Prop := ∀ (at_ : Nat) (s : State),
  let t := atSite at_ s.dev
  let e0 := phaseError t (nat s.dev 0x2300 0x03) s.dev.sync.boundary
  (up 1 s.dev = true → num s.dev 0x2300 0x01 = 1 → Gives (.syncInEdge at_) s (fun e => e.sync.lastEdge = some t
    ∧ e.sync.error = 10 * e0 ∧ t ≤ e.time.now ∧ e.sync.offRate = edgeOffRate t s.dev ∧ e.sync.boundary = s.dev.sync.boundary
    ∧ e.sync.trim = (if holds s.dev = true ∧ edgeOffRate t s.dev = false then -(Int.sign e0) else 0)
    ∧ (edgeOffRate t s.dev = false → e0.natAbs ≤ 2 → 15 ≤ s.dev.sync.inside → e.sync.state = .locked)))
  ∧ (up 1 s.dev = false ∨ num s.dev 0x2300 0x01 ≠ 1 → Rests (.syncInEdge at_) s)

/-- SYNC_LOSS (R74): a locked module goes to holdover, and counts it. -/
def syncLoss : Prop := ∀ (off : Bool) (s : State),
  (s.dev.sync.state = .locked → (off = true → s.dev.sync.offRate = true) → Gives (.syncLoss off) s (fun e =>
    e.sync.state = .holdover ∧ e.sync.trim = 0 ∧ e.sync.inside = 0 ∧ e.sync.count = s.dev.sync.count
      ∧ num e 0x2300 0x09 = num s.dev 0x2300 0x09 + 1
      ∧ ∀ t, off = false → s.dev.sync.lastEdge = some t → t + nat s.dev 0x2300 0x02 * 4500 ≤ e.time.now))
  ∧ (s.dev.sync.state ≠ .locked ∨ off = true ∧ s.dev.sync.offRate = false → Rests (.syncLoss off) s)

/-! The legs (R79 to R88). -/

/-- DIODE_EMULATION_ENTRY (R79): ten periods below the boundary, where it is enabled. -/
def diodeEmulationEntry : Prop := ∀ (n : Fin 96) (s : State),
  let l := s.dev.leg[n]
  (l.state = .active → 10 ≤ l.belowBd → on s.dev 0x2310 0x07 = true → Gives (.diodeEmulationEntry n) s (fun e =>
    e.leg[n] = { l with state := .diodeEmu }))
  ∧ (l.state ≠ .active ∨ l.belowBd < 10 ∨ on s.dev 0x2310 0x07 = false → Rests (.diodeEmulationEntry n) s)

/-- SHED_DWELL_EXPIRY (R80): legs are shed for light load until as many stay active as the reference needs, and at least the
minimum. -/
def shedDwellExpiry : Prop := ∀ (h : Fin 12) (s : State),
  let d := s.dev
  let keep := max (nat d 0x2310 0x06) (ceilRat (refOf h d / shedLevel 2 h d))
  (∀ t, d.ring.group[h] = h → (d.ring.seg[h]).shedSince = some t → Gives (.shedDwellExpiry h) s (fun e =>
    (e.ring.seg[h]).shedSince = none ∧ t + ms (nat d 0x2310 0x05) ≤ e.time.now
      ∧ (activeLegs h e).length = min (activeLegs h d).length keep
      ∧ ∀ n : Fin 96, e.leg[n] = d.leg[n] ∨ (n ∈ activeLegs h d ∧ (e.leg[n]).state = .shed ∧ (e.leg[n]).shedCause = .lightLoad)))
  ∧ (d.ring.group[h] ≠ h ∨ (d.ring.seg[h]).shedSince = none → Rests (.shedDwellExpiry h) s)

/-- BRAKING_WINDOW_END (R84): within ±0.5 A the leg goes to STANDBY, otherwise to FAULT; with no good sample it awaits one. -/
def brakingWindowEnd : Prop := ∀ (n : Fin 96) (s : State),
  let l := s.dev.leg[n]
  (l.state = .braking → l.awaiting = false → Gives (.brakingWindowEnd n) s (fun e =>
    l.brakeStart.getD s.dev.time.now + period * nat s.dev 0x2330 0x06 ≤ e.time.now
      ∧ ((s.dev.brick[brickOf n]).missing = 0 → -50 ≤ l.current ∧ l.current ≤ 50 → (e.leg[n]).state = .standby)
      ∧ ((s.dev.brick[brickOf n]).missing = 0 → l.current < -50 ∨ 50 < l.current →
          (e.leg[n]).state = .fault ∧ (e.leg[n]).cause = l.cause ||| 8)
      ∧ ((s.dev.brick[brickOf n]).missing ≠ 0 → (e.leg[n]).state = .braking ∧ (e.leg[n]).awaiting = true)))
  ∧ (l.state ≠ .braking ∨ l.awaiting = true → Rests (.brakingWindowEnd n) s)

/-- SENSE_IMPLAUSIBLE (Table 3.16): 100 periods. -/
def senseImplausible : Prop := ∀ (n : Fin 96) (s : State),
  let l := s.dev.leg[n]
  (100 ≤ l.implausible → l.state ≠ .lost → Gives (.senseImplausible n) s (fun e =>
    (e.leg[n]).state = .fault ∧ (e.leg[n]).cause = l.cause ||| 16))
  ∧ (l.implausible < 100 ∨ l.state = .lost → Rests (.senseImplausible n) s)

/-- TELEMETRY_WINDOW_END (R88): every average of the window is stored and begun again. -/
def telemetryWindowEnd : Prop := ∀ (w : Fin 3) (s : State),
  Gives (.telemetryWindowEnd w) s (fun e =>
    e.time.now = dueAt (s.dev.time.ticked[w.val]'(by omega)) (windowLength w) s.dev
    ∧ (∀ n : Fin 96, (e.leg[n]).avgI.n[w] = 0 ∧ (e.leg[n]).avgI.sum[w] = 0
        ∧ ((s.dev.leg[n]).avgI.n[w] ≠ 0 →
            num e (legTele n) (0x10 + w.val) = divRound (s.dev.leg[n]).avgI.sum[w] (s.dev.leg[n]).avgI.n[w])
        ∧ ((s.dev.leg[n]).avgP.n[w] ≠ 0 →
            num e (legTele n) (0x13 + w.val) = divRound (s.dev.leg[n]).avgP.sum[w] ((s.dev.leg[n]).avgP.n[w] * 2000)))
    ∧ ∀ k : Fin 24, (e.brick[k]).power.n[w] = 0
        ∧ ((s.dev.brick[k]).power.n[w] ≠ 0 →
            num e (brickIdx k) (0x20 + w.val) = divRound (s.dev.brick[k]).power.sum[w] ((s.dev.brick[k]).power.n[w] * 1000)))

end Sys2Proof.Claims
end

