-- ==== Sys2Proof/Claims/Power.lean ====
section
/-! DEFINITION. Claims about the rails, the control period, the engine's timers, the allocator and its moves (chapters 4 to 6), one for
each command. -/
namespace Sys2Proof.Claims
open Machine

/-! Rails (R102 to R113). -/

/-- START_SETTLE_EXPIRY (R105, R106): an episode's settle time is over. -/
def startSettleExpiry : Prop := ∀ (j : Fin 12) (s : State),
  let r := s.dev.rail[j]
  (r.episode ≠ .none → Gives (.startSettleExpiry j) s (fun e =>
    e.rail[j] = { r with settleUntil := 0 } ∧ r.settleUntil ≤ e.time.now))
  ∧ (r.episode = .none → Rests (.startSettleExpiry j) s)

/-- TRACKING_TIMEOUT (R106): a coincident episode ends with result timeout, and a stop begins. -/
def trackingTimeout : Prop := ∀ (j : Fin 12) (s : State),
  let r := s.dev.rail[j]
  (r.episode = .coincidentTie ∨ r.episode = .coincidentOutlet → Gives (.trackingTimeout j) s (fun e =>
    (e.rail[j]).state = .draining ∧ (e.rail[j]).episode = .stop ∧ (e.rail[j]).result = .timeout
      ∧ r.epStart + ms (par j 0x02 s.dev) ≤ e.time.now))
  ∧ (r.episode ≠ .coincidentTie → r.episode ≠ .coincidentOutlet → Rests (.trackingTimeout j) s)

/-- RATIOMETRIC_PAUSE_LIMIT (R108): frozen for more than the limit, the members are held where they are, with result deviation; a stop is not
aborted. That a PRECHARGING member is LIVE then is the model's reading (log 190). -/
def ratiometricPauseLimit : Prop := ∀ (l : Fin 12) (s : State),
  (∀ q, s.dev.ratio[l] = some q → q.stop = false → ms (par l 0x06 s.dev) < q.frozen * period →
    Gives (.ratiometricPauseLimit l) s (fun e => e.ratio[l] = none ∧ ∀ j : Fin 12, q.mask[j] = true →
      (e.rail[j]).state = .live ∧ (e.rail[j]).episode = .none ∧ (e.rail[j]).result = .deviation
        ∧ (e.rail[j]).s = (s.dev.rail[j]).s ∧ (e.rail[j]).t = (s.dev.rail[j]).s))
  ∧ ((∀ q, s.dev.ratio[l] = some q → q.stop = true ∨ q.frozen * period ≤ ms (par l 0x06 s.dev)) →
    Rests (.ratiometricPauseLimit l) s)

/-- DRAIN_TIMEOUT (R112): after the timeout, in which no time under a safety stop counts, the rail is isolated, and no leg of its segment stays
in service. -/
def drainTimeout : Prop := ∀ (j : Fin 12) (s : State),
  let r := s.dev.rail[j]
  (r.state = .draining → r.stopHeld = false → Gives (.drainTimeout j) s (fun e => (e.rail[j]).state = .isolated
    ∧ (e.rail[j]).isoCause = .drainIncomplete
    ∧ s.dev.sync.boundary + (ms (par j 0x09 s.dev) - r.drained) ≤ e.time.now
    ∧ ∀ n ∈ segLegs (segOf j s.dev) s.dev, inService (e.leg[n]) = false))
  ∧ (r.state ≠ .draining ∨ r.stopHeld = true → Rests (.drainTimeout j) s)

/-- EPISODE_PAUSE (R104): ten periods without a measured voltage. -/
def episodePause : Prop := ∀ (j : Fin 12) (s : State),
  let r := s.dev.rail[j]
  (10 ≤ r.missing → r.episode ≠ .none → Gives (.episodePause j) s (fun e => e.rail[j] = { r with paused := true }))
  ∧ (r.missing < 10 ∨ r.episode = .none → Rests (.episodePause j) s)

/-- RAIL_SENSE_LOST (R104): 10 ms without a measured voltage isolate the rail; a JOINED rail is flagged. -/
def railSenseLost : Prop := ∀ (j : Fin 12) (s : State),
  let r := s.dev.rail[j]
  (ms 10 ≤ r.missing * period → r.state ≠ .joined → Gives (.railSenseLost j) s (fun e =>
    (e.rail[j]).state = .isolated ∧ (e.rail[j]).isoCause = .senseLost))
  ∧ (ms 10 ≤ r.missing * period → r.state = .joined → Gives (.railSenseLost j) s (fun e => e.rail[j] = { r with flagged := true }))
  ∧ (r.missing * period < ms 10 → Rests (.railSenseLost j) s)

/-! The control period and the engine (R60, R117 to R146). -/

/-- CONTROL_PERIOD (R64, R72, R73, R117, R119, R124): the boundary advances by one period and the trim, the engine's counters by one, and every
port has a frame with the count of the next boundary and its CRC; a slot in error for the second period running resets the island. -/
def controlPeriod : Prop := ∀ (ecc : List (Fin 136 × Bool)) (s : State),
  let d := s.dev
  let bad := (ecc.filter (fun x => x.2)).map Prod.fst
  let t := nextBoundary d
  (up 1 d = true → bad.any (fun x => d.eng.faulted.contains x) = false → Gives (.controlPeriod ecc) s (fun e =>
    e.sync.boundary = t ∧ e.sync.count = d.sync.count + 1 ∧ e.sync.trim = 0 ∧ t + us 8 ≤ e.time.now
      ∧ e.eng.w = (d.eng.w + 1) % 100 ∧ e.eng.faulted = bad ∧ e.sync.periods = d.sync.periods + 1
      ∧ (∀ (k : Fin 24) (c : Fin 28), c.val = k.val → d.ring.restart = false → ∃ f, e.sent[c] = some (.brick f) ∧ f.crc = crc16 (brickDownBytes f)
          ∧ frameCount f.header = BitVec.ofNat 8 (d.sync.count + 2) ∧ (frameType f.header = 1 ∨ frameType f.header = 2))
      ∧ (∀ (u : Fin 4) (c : Fin 28), c.val = 24 + u.val → ∃ f, e.sent[c] = some (.axis f) ∧ f.crc = crc16 (axisDownBytes f)
          ∧ frameCount f.header = BitVec.ofNat 8 (d.sync.count + 2) ∧ (frameType f.header = 4 ∨ frameType f.header = 5))))
  ∧ (up 1 d = true → bad.any (fun x => d.eng.faulted.contains x) = true → Gives (.controlPeriod ecc) s (fun e =>
    num e 0x2600 0x01 = 2 ∧ num e 0x1001 0x02 = 4))
  ∧ (up 1 d = false → Rests (.controlPeriod ecc) s)

/-- GENERATOR_START_DELAY_EXPIRY (R141): the move starts at its boundary and its timer is free. -/
def generatorStartDelayExpiry : Prop := ∀ (g : Fin 28) (s : State),
  (∀ n, (s.dev.eng.gen[g]).due = some n → Gives (.generatorStartDelayExpiry g) s (fun e => (e.eng.gen[g]).due = none
    ∧ (e.eng.gen[g]).target = num s.dev (genIdx g) 0x06 * 2 ^ 24 ∧ (e.eng.gen[g]).replan = true
    ∧ s.dev.sync.boundary + (n - s.dev.sync.periods) * period ≤ e.time.now ∧ ∀ t : Fin 4, e.eng.timer[t] ≠ some g.val))
  ∧ ((s.dev.eng.gen[g]).due = none → Rests (.generatorStartDelayExpiry g) s)

/-- THERMAL_INPUT_STALE (R133): three intervals without a value drive the loop to its duty maximum. -/
def thermalInputStale : Prop := ∀ (w : Fin 16) (s : State), Gives (.thermalInputStale w) s (fun e =>
  (e.eng.thermal[w]).stale = true ∧ (e.eng.thermal[w]).duty = num s.dev (thermalIdx w) 0x08
    ∧ (s.dev.eng.thermal[w]).inputAt + ms 3 ≤ e.time.now ∧ (e.eng.thermal[w]).input = (s.dev.eng.thermal[w]).input)

/-- FOLLOWING_ERROR_TIMER (R140). -/
def followingErrorTimer : Prop := ∀ (x : Fin 12) (s : State),
  let a := s.dev.eng.axis[x]
  (nat s.dev (axisIdx x) 0x08 ≤ a.follow → a.flag = false → Gives (.followingErrorTimer x) s (fun e =>
    e.eng.axis[x] = { a with flag := true }))
  ∧ (a.follow < nat s.dev (axisIdx x) 0x08 ∨ a.flag = true → Rests (.followingErrorTimer x) s)

/-- INJECTION_END (R144): after the last sample the channel is done, adds nothing more, and its timer is free. -/
def injectionEnd : Prop := ∀ (c : Fin 2) (s : State),
  (injRunning c s.dev = true → injTotal c s.dev ≤ (s.dev.eng.inj[c]).n → Gives (.injectionEnd c) s (fun e =>
    (e.eng.inj[c]).state = .done ∧ (e.eng.inj[c]).cause = 0 ∧ (e.eng.inj[c]).value = 0
      ∧ (e.eng.inj[c]).complete = (injFreqs c s.dev).length ∧ ∀ t : Fin 4, e.eng.timer[t] ≠ some (0x40 + c.val)))
  ∧ (injRunning c s.dev = false ∨ (s.dev.eng.inj[c]).n < injTotal c s.dev → Rests (.injectionEnd c) s)

/-! Planning (R149 to R161). -/

/-- PLANNING_CYCLE (R149, R152): at the next multiple of 20 ms a plan is computed, with the limits in force from this cycle on; the plan in
force stays until the new one is decided. -/
def planningCycle : Prop := ∀ (s : State),
  (up 1 s.dev = true → s.dev.ring.restart = false → Gives .planningCycle s (fun e => e.time.now = nextMultiple (ms 20) s.dev
    ∧ (∃ p, e.alloc.next = some p ∧ p.moves.length ≤ 16) ∧ e.alloc.cycle = some e.time.now ∧ e.alloc.overrun = false
    ∧ gridLimits e = (if s.dev.alloc.writtenAt = none then (nat s.dev 0x2811 0x04, nat s.dev 0x2811 0x05, true)
        else (s.dev.alloc.written.1, s.dev.alloc.written.2, false))
    ∧ e.alloc.plan = s.dev.alloc.plan ∧ e.alloc.grant = s.dev.alloc.grant ∧ e.alloc.planNo = s.dev.alloc.planNo))
  ∧ (up 1 s.dev = false ∨ s.dev.ring.restart = true → Rests .planningCycle s)

/-- PLANNING_OVERRUN (R150): the plan in force stays, and the overrun is counted. -/
def planningOverrun : Prop := ∀ (s : State),
  (∀ p t, s.dev.alloc.next = some p → s.dev.alloc.cycle = some t → Gives .planningOverrun s (fun e => e.alloc.next = none ∧ e.alloc.overrun = true
    ∧ e.alloc.plan = s.dev.alloc.plan ∧ t + us 6500 ≤ e.time.now ∧ num e 0x2817 0x0A = num s.dev 0x2817 0x0A + 1))
  ∧ (s.dev.alloc.next = none ∨ s.dev.alloc.cycle = none → Rests .planningOverrun s)

/-- GRID_LIMIT_EXPIRY (R152): the written limits have ended; the next cycle puts the fallback limits in force. -/
def gridLimitExpiry : Prop := ∀ (s : State),
  (∀ t, s.dev.alloc.writtenAt = some t → Gives .gridLimitExpiry s (fun e => e.alloc.writtenAt = none
    ∧ t + sec (nat s.dev 0x2811 0x03) ≤ e.time.now ∧ gridLimits e = gridLimits s.dev))
  ∧ (s.dev.alloc.writtenAt = none → Rests .gridLimitExpiry s)

/-- FRONT_END_STALE (R151, R152): 300 ms without data; the capacities hold. -/
def frontEndStale : Prop := ∀ (i : Fin 8) (s : State),
  let f := s.dev.alloc.front[i]
  (∀ t, f.at_ = some t → f.stale = false → Gives (.frontEndStale i) s (fun e =>
    e.alloc.front[i] = { f with stale := true } ∧ t + ms 300 ≤ e.time.now))
  ∧ (f.at_ = none ∨ f.stale = true → Rests (.frontEndStale i) s)

/-- FRONT_END_STALE_HOLD_EXPIRY (R151): the capacities count as 0 kW. -/
def frontEndStaleHoldExpiry : Prop := ∀ (i : Fin 8) (s : State),
  let f := s.dev.alloc.front[i]
  (∀ t, f.at_ = some t → f.stale = true → Gives (.frontEndStaleHoldExpiry i) s (fun e =>
    e.alloc.front[i] = { f with imp := 0, exp := 0, gone := true } ∧ t + ms 300 + ms (nat s.dev 0x2810 0x0C) ≤ e.time.now))
  ∧ (f.at_ = none ∨ f.stale = false → Rests (.frontEndStaleHoldExpiry i) s)

/-- SITE_POWER_DATA (R151, R196, R348, R360): a front end's capacities count where its status is 1 or 2; the reading of an IMD is taken where the
outlet takes its readings from the site bus. An older reading changes nothing. -/
def sitePowerData : Prop := ∀ (m : TenonMsg) (s : State),
  (∀ i imp exp st stamp, heard .hf 0x0B m s.dev → up 1 s.dev = true →
    Gives (.sitePowerData m (.frontEnd i imp exp st stamp)) s (fun e => e.alloc.front[i] =
      if stamp < (s.dev.alloc.front[i]).stamp then s.dev.alloc.front[i]
      else if st = 1 ∨ st = 2 then ⟨imp, exp, stamp, some s.dev.time.now, false, false⟩
      else ⟨0, 0, stamp, some s.dev.time.now, false, false⟩))
  ∧ (∀ k kohm st stamp, heard .hf 0x0B m s.dev → up 1 s.dev = true → 1 ≤ st → st ≤ 3 → nat s.dev (outIdx k 1) 0x08 / 256 = 1 →
    (∀ y, (s.dev.out[k]).imd = some y → y.stamp ≤ stamp) →
    Gives (.sitePowerData m (.imd k kohm st stamp)) s (fun e => (e.out[k]).imd = some ⟨kohm, st, stamp⟩))
  ∧ (∀ x, ¬ heard .hf 0x0B m s.dev ∨ up 1 s.dev = false → receivedOnly (.sitePowerData m x) .hf m s)

/-- RELEASE_HOLD_EXPIRY (R159): the surplus rails of the segment go at the next cycle. -/
def releaseHoldExpiry : Prop := ∀ (h : Fin 12) (s : State),
  (∀ t, s.dev.alloc.surplusSince[h] = some t → Gives (.releaseHoldExpiry h) s (fun e => e.alloc.surplusDue[h] = true
    ∧ t + ms (nat s.dev 0x2810 0x04) ≤ e.time.now))
  ∧ (s.dev.alloc.surplusSince[h] = none → Rests (.releaseHoldExpiry h) s)

/-! Moves (R162 to R173). -/

/-- MOVE_START (R167, R169, Table 6.3): ready, with no ready move before it on a common segment and a generator left for it where it needs
one, it is under way from now, in the first phase of its kind. -/
def moveStart : Prop := ∀ (n : Fin 16) (s : State),
  (∀ m, up 1 s.dev = true → moveAt n.val s.dev = some m → mayBegin n.val m s.dev = true → Gives (.moveStart n) s (fun e =>
    ∃ x, moveAt n.val e = some x ∧ x.kind = m.kind ∧ x.object = m.object ∧ x.started = s.dev.time.now ∧ x.state ≠ .queued
      ∧ (m.kind = .join → x.state = .running ∧ x.phase = .track) ∧ (m.kind = .restore → x.state = .running ∧ x.phase = .permitWait)))
  ∧ (up 1 s.dev = false ∨ moveAt n.val s.dev = none ∨ (∃ m, moveAt n.val s.dev = some m ∧ mayBegin n.val m s.dev = false) →
    Rests (.moveStart n) s)

/-- HANDOVER_END (R164, R165): with the generator at its target, a running split or isolate whose rest can carry the current waits
for its contactor to open, a running shed is done with its legs shed, and a running join or addition is done within the tolerance. -/
def handoverEnd : Prop := ∀ (n : Fin 16) (s : State) (m : PlanMove), moveAt n.val s.dev = some m →
  let d := s.dev
  let h := segOf m.rail d
  let ng := (activeLegs h d).countP (fun x => m.group.contains x)
  let rest := (activeLegs h d).length - ng
  (∀ g, m.state = .running → m.phase = .handover → m.gen = some g → genAtTarget g d = true →
    (m.kind = .split ∨ m.kind = .isolate → ng = 0 ∨ heldShare h ng rest d ≤ 0 → Gives (.handoverEnd n) s (fun e =>
      moveAt n.val e = some { m with phase := .openWait, phaseAt := d.time.now }))
    ∧ (m.kind = .shedLegs → ng = 0 ∨ heldShare h ng rest d ≤ 0 → Gives (.handoverEnd n) s (fun e =>
      (∃ x, moveAt n.val e = some x ∧ x.state = .done ∧ x.gen = none) ∧ ∀ l ∈ m.group, inService (e.leg[l]) = false))
    ∧ (m.kind = .join ∨ m.kind = .addLegs → ng = 0 ∨
        |genVal (d.eng.gen[g]).p / 10 - equalShare h d| ≤ (num d 0x2810 0x09 : Rat) / 10 → Gives (.handoverEnd n) s (fun e =>
      ∃ x, moveAt n.val e = some x ∧ x.state = .done ∧ x.gen = none)))
  ∧ (m.phase ≠ .handover ∨ underWay m = false → Rests (.handoverEnd n) s)

/-- HANDOVER_TIMEOUT (R170, Table 6.3): a running move is reversed, a reversing one fails. -/
def handoverTimeout : Prop := ∀ (n : Fin 16) (s : State) (m : PlanMove), moveAt n.val s.dev = some m →
  (m.phase = .handover → m.state = .running → Gives (.handoverTimeout n) s (fun e => ∃ x, moveAt n.val e = some x
    ∧ (x.state = .reversing ∨ x.state = .reversed) ∧ x.cause = .handoverTimeout
    ∧ m.phaseAt + ms (nat s.dev 0x2810 0x08) ≤ e.time.now))
  ∧ (m.phase = .handover → m.state = .reversing → Gives (.handoverTimeout n) s (fun e => ∃ x, moveAt n.val e = some x
    ∧ x.state = .failed ∧ x.cause = .handoverTimeout ∧ x.gen = none))
  ∧ (m.phase ≠ .handover ∨ underWay m = false → Rests (.handoverTimeout n) s)

/-- OPEN_WAIT_LIMIT (R172): an opening still refused; the request is withdrawn. -/
def openWaitLimit : Prop := ∀ (n : Fin 16) (s : State) (m : PlanMove), moveAt n.val s.dev = some m →
  (m.phase = .openWait → m.state = .running → Gives (.openWaitLimit n) s (fun e => ∃ x, moveAt n.val e = some x
    ∧ (x.state = .reversing ∨ x.state = .reversed) ∧ x.cause = .openRefused
    ∧ (∀ c, moveContactor m = some c → (contactor c e).want = (contactor c s.dev).cmd)
    ∧ m.phaseAt + ms (nat s.dev 0x2810 0x0A) ≤ e.time.now))
  ∧ (m.phase = .openWait → m.state = .reversing → Gives (.openWaitLimit n) s (fun e => ∃ x, moveAt n.val e = some x
    ∧ x.state = .failed ∧ x.cause = .openRefused))
  ∧ (m.phase ≠ .openWait ∨ underWay m = false → Rests (.openWaitLimit n) s)

/-- RESTORE_WAIT_LIMIT (Table 6.3): the restore fails, and is not planned again for one further wait. -/
def restoreWaitLimit : Prop := ∀ (n : Fin 16) (s : State) (m : PlanMove), moveAt n.val s.dev = some m →
  (m.phase = .permitWait → underWay m = true → Gives (.restoreWaitLimit n) s (fun e => (∃ x, moveAt n.val e = some x
    ∧ x.state = .failed ∧ x.cause = .noPermit) ∧ m.phaseAt + sec (nat s.dev 0x2810 0x0B) ≤ e.time.now
    ∧ e.alloc.restoreAfter[(Fin.ofNat 24 m.object : Fin 24)] = e.time.now + sec (nat s.dev 0x2810 0x0B)))
  ∧ (m.phase ≠ .permitWait ∨ underWay m = false → Rests (.restoreWaitLimit n) s)

end Sys2Proof.Claims
end

