-- ==== Sys2Proof/Claims/Outlets.lean ====
section
/-! DEFINITION. Claims about outlets, vehicle sessions, heads and cooling (chapter 7), one for each command. -/
namespace Sys2Proof.Claims
open Machine

/-- What the causes of a period, the highest first, make of an outlet (R182, R183): paths F and W, and the states that have no session. The
first cause that ends a session is recorded. -/
def caused (k : Fin 12) (l : List Nat) (d e : Dev) : Prop :=
  let o := d.out[k]
  let p := e.out[k]
  let recorded (c : Nat) : Prop := p.cause = if o.cause = 0 then c else o.cause
  let safety (c : Nat) : Bool := c == 11 || c == 12 || c == 21
  match o.state with
  | .outOfService => e = d
  | .faulted => p.state = .faulted ∧ p.cause = o.cause ∧ ∀ c ∈ l, pathF c = true → bit p.faults c = true
  | .idle | .ended => ∀ c, l.find? safety = some c → p.state = .faulted ∧ bit p.faults c = true
  | .plugged | .handshake => ∀ c, l.head? = some c → p.state = (if safety c then .faulted else .ended) ∧ recorded c
  | .winddown | .weldCheck => ∀ c, l.find? pathF = some c → p.state = .faulted ∧ bit p.faults c = true
  | _ => ∀ c, l.head? = some c → p.state = (if pathF c then .faulted else .winddown) ∧ recorded c

/-- A cause is noted for the outlet's next boundary, and the outlet's state and end cause stand until then (R182). -/
def causeNoted (k : Fin 12) (c : Nat) (d e : Dev) : Prop :=
  (e.out[k]).raised = (d.out[k]).raised ||| 2 ^ c ∧ (e.out[k]).state = (d.out[k]).state ∧ (e.out[k]).cause = (d.out[k]).cause
/-- An event of Table 7.4 is noted for the outlet's next boundary. -/
def eventNoted (k : Fin 12) (x : OutEvent) (d e : Dev) : Prop :=
  (e.out[k]).events = (d.out[k]).events ++ [x] ∧ (e.out[k]).state = (d.out[k]).state ∧ (e.out[k]).cause = (d.out[k]).cause

/-- What an event makes of an outlet whose state takes it (Table 7.4). -/
def evented (k : Fin 12) (x : OutEvent) (d e : Dev) : Prop :=
  let o := d.out[k]
  let p := e.out[k]
  match x with
  | .plug => p.state = .plugged ∧ p.cause = 0 ∧ p.reqI = 0 ∧ p.vehMax = none ∧ num e (outIdx k 0) 0x09 = num d (outIdx k 0) 0x09 + 1
  | .unplug => p.state = .idle ∧ p.reqI = 0 ∧ p.cause = if o.cause = 0 then 7 else o.cause
  | .pass => p.state = .ended ∧ p.cause = o.cause ∧ (governs k d = true → (d.rail[k]).state = .live → (e.rail[k]).state = .draining)
  | .turned => p.turning = false ∧ p.state = if o.state = .delivering then .returning else .delivering
  | .outOfService => p.state = .outOfService
  | .toService => p.state = .idle ∧ num e (railIdx k 1) 0x01 = 0
  | .reset => p.faults = 0 ∧ p.state = if o.conn = 1 ∨ o.conn = 2 then .plugged else .idle

/-- An outlet at a period boundary (R182, Table 7.4): at most one transition, of the highest cause that its state knows, otherwise of an event;
what was noted is spent. Stated beside a cable check, whose own steps come first. -/
def outletBoundary : Prop := ∀ (k : Fin 12) (s : State),
  let d := s.dev
  let l := causesNow k d
  (caused k l d (takeCauses k l d))
  ∧ ((d.out[k]).state ≠ .cableCheck → causesMove k l d = true → caused k l d (outletPeriod k d))
  ∧ ((d.out[k]).state ≠ .cableCheck → causesMove k l d = false → ∀ x, (d.out[k]).events.find? (eventHolds k d) = some x →
      evented k x d (outletPeriod k d))
  ∧ ((d.out[k]).state ≠ .cableCheck → ((outletPeriod k d).out[k]).raised = 0 ∧ ((outletPeriod k d).out[k]).events = [])

/-! Plugging and phases (Table 7.4, R186). -/

/-- CONNECTION_DETECTED (R30, R182, R462): connected for 100 ms; no session starts while an FX activation waits, nor on a module alone that has
lost the barrier. -/
def connectionDetected : Prop := ∀ (k : Fin 12) (s : State),
  let o := s.dev.out[k]
  (o.state = .idle → o.conn = 1 ∨ o.conn = 2 → fxWaits s.dev = false → noNewSession s.dev = false →
    Gives (.connectionDetected k) s (fun e => eventNoted k .plug s.dev e ∧ o.connSince + ms 100 ≤ e.time.now))
  ∧ (o.state ≠ .idle ∨ (o.conn ≠ 1 ∧ o.conn ≠ 2) ∨ fxWaits s.dev = true ∨ noNewSession s.dev = true →
    Rests (.connectionDetected k) s)

/-- UNPLUG_DETECTED: no connection for 100 ms. -/
def unplugDetected : Prop := ∀ (k : Fin 12) (s : State),
  let o := s.dev.out[k]
  let may := o.state = .plugged ∨ o.state = .handshake ∨ o.state = .ended
  (may → o.conn = 0 → Gives (.unplugDetected k) s (fun e => eventNoted k .unplug s.dev e ∧ o.connSince + ms 100 ≤ e.time.now))
  ∧ (¬ may ∨ o.conn ≠ 0 → Rests (.unplugDetected k) s)

/-- PLUG_TIMEOUT: cause 4. -/
def plugTimeout : Prop := ∀ (k : Fin 12) (s : State),
  let o := s.dev.out[k]
  (o.state = .plugged → Gives (.plugTimeout k) s (fun e => causeNoted k 4 s.dev e ∧ o.since + sec (nat s.dev (outIdx k 2) 0x12) ≤ e.time.now))
  ∧ (o.state ≠ .plugged → Rests (.plugTimeout k) s)

/-- TARGET_TIMEOUT (R186): cause 5; not while a restart is awaited or a switch-over hold runs. -/
def targetTimeout : Prop := ∀ (k : Fin 12) (s : State),
  let o := s.dev.out[k]
  let runs := inCharge o.state && o.swHold.isNone && s.dev.barrier.field.view != .restartAwaited
  (runs = true → Gives (.targetTimeout k) s (fun e => causeNoted k 5 s.dev e ∧ o.updAt + ms (nat s.dev (outIdx k 2) 0x0F) ≤ e.time.now))
  ∧ (runs = false → Rests (.targetTimeout k) s)

/-- SWITCH_OVER_TARGET_HOLD_EXPIRY (R336): the hold ends, with cause 5 for an outlet in charge. -/
def switchOverTargetHoldExpiry : Prop := ∀ (k : Fin 12) (s : State),
  let o := s.dev.out[k]
  (∀ t, o.swHold = some t → Gives (.switchOverTargetHoldExpiry k) s (fun e => (e.out[k]).swHold = none
    ∧ (e.out[k]).grantCap = none ∧ t + ms (nat s.dev 0x1C01 0x03) ≤ e.time.now
    ∧ (inCharge o.state = true → causeNoted k 5 s.dev e)))
  ∧ (o.swHold = none → Rests (.switchOverTargetHoldExpiry k) s)

/-- VEHICLE_TARGET_UPDATE (R186): a discarded update is counted; an accepted one is taken with the current and the voltage clipped
to the outlet's. -/
def vehicleTargetUpdate : Prop := ∀ (k : Fin 12) (m : TenonMsg) (s : State),
  let b := m.payload
  let max_ := num s.dev (outIdx k 1) 0x02
  (heard .hf 0x08 m s.dev → up 1 s.dev = true → fieldAt b 0 1 = k.val → updateBad k b s.dev = true →
    Gives (.vehicleTargetUpdate m) s (fun e => e.out[k] = s.dev.out[k]
      ∧ num e (outIdx k 0) 0x0E = num s.dev (outIdx k 0) 0x0E + 1))
  ∧ (heard .hf 0x08 m s.dev → up 1 s.dev = true → fieldAt b 0 1 = k.val → updateBad k b s.dev = false →
    Gives (.vehicleTargetUpdate m) s (fun e => (e.out[k]).updCount = some (fieldAt b 34 4) ∧ (e.out[k]).updAt = s.dev.time.now
      ∧ (e.out[k]).phase = fieldAt b 1 1 ∧ (e.out[k]).targetV = fieldAt b 4 4
      ∧ (e.out[k]).reqI = clamp (-max_) max_ (signed 16 (fieldAt b 8 2))
      ∧ (inCharge (s.dev.out[k]).state = true → (e.out[k]).vehMax = some (min (fieldAt b 14 4 : Int) (num s.dev (outIdx k 1) 0x03)))
      ∧ (e.out[k]).state = (s.dev.out[k]).state))
  ∧ (¬ heard .hf 0x08 m s.dev ∨ up 1 s.dev = false → receivedOnly (.vehicleTargetUpdate m) .hf m s)

/-- OUTLET_STATUS (R187): the latest status is held. -/
def outletStatus : Prop := ∀ (k : Fin 12) (m : TenonMsg) (s : State),
  (heard .fh 0x09 m s.dev → up 0 s.dev = true → fieldAt m.payload 0 1 = k.val → Gives (.outletStatus m) s (fun e =>
    (e.vehicle[k]).status = m.payload))
  ∧ (¬ heard .fh 0x09 m s.dev ∨ up 0 s.dev = false → receivedOnly (.outletStatus m) .fh m s)

/-! Vehicle sessions (R188 to R192). -/

/-- VEHICLE_MESSAGE: an offer selects a protocol and authorizes nothing; the end of the connection, an unsupported message or one of
more than 8192 bytes ends the session; every message is answered. -/
def vehicleMessage : Prop := ∀ (k : Fin 12) (s : State),
  let ended (e : Dev) : Prop := (e.vehicle[k]).protocol = 0 ∧ (e.vehicle[k]).tls = false ∧ (e.vehicle[k]).authorized = false
    ∧ (e.vehicle[k]).pendingSince = none
  (∀ l tls p, up 0 s.dev = true → selectProtocol k l tls s.dev = some p → Gives (.vehicleMessage k (.offer l tls)) s (fun e =>
    (e.vehicle[k]).protocol = p ∧ (e.vehicle[k]).tls = tls ∧ (e.vehicle[k]).authorized = false ∧ (e.vehicle[k]).pendingSince = none))
  ∧ (∀ l tls, up 0 s.dev = true → selectProtocol k l tls s.dev = none → Gives (.vehicleMessage k (.offer l tls)) s (fun e =>
    e.vehicle[k] = s.dev.vehicle[k]))
  ∧ (∀ v, up 0 s.dev = true → v = .closed ∨ v = .unsupported ∨ (∃ n, v = .oversize n ∧ 8192 < n) →
    Gives (.vehicleMessage k v) s ended)
  ∧ (∀ i sv soc, up 0 s.dev = true → Gives (.vehicleMessage k (.data i sv soc)) s (fun e => e.vehicle[k] = s.dev.vehicle[k]
    ∧ num e (vehIdx k) 0x02 = sv ∧ num e (vehIdx k) 0x04 = soc ∧ getVal e (key (vehIdx k) 0x01) = .oct (i.take 8)))
  ∧ (∀ ok ch i, up 0 s.dev = true → (s.dev.vehicle[k]).protocol ≠ 0 → on s.dev 0x3100 0x03 = true →
    Gives (.vehicleMessage k (.identify false ok ch i)) s (fun e => (e.vehicle[k]).pendingSince = some s.dev.time.now
      ∧ num e (authIdx k) 0x01 = 0 ∧ num e (authIdx k) 0x02 = 1))
  ∧ (∀ r, up 0 s.dev = true → (s.dev.vehicle[k]).protocol ≠ 0 → ¬ (r.phase = 1 ∧ 48 ≤ s.dev.metro.ring.length) →
    Gives (.vehicleMessage k (.request r)) s (fun e =>
      num e (vehIdx k) 0x03 = flag (r.dynamic && (s.dev.vehicle[k]).protocol == 3)
        ∧ updateFields (e.vehicle[k]).update =
            updateFields (updateBytes k r (s.dev.vehicle[k]).authorized false (s.dev.vehicle[k]).protocol 0 0)))
  ∧ (∀ v, up 0 s.dev = false → Rests (.vehicleMessage k v) s)

/-- AUTHORIZATION_TIMEOUT (R191): the authorization is rejected and the session ends. -/
def authorizationTimeout : Prop := ∀ (k : Fin 12) (s : State),
  (∀ t, (s.dev.vehicle[k]).pendingSince = some t → Gives (.authorizationTimeout k) s (fun e => num e (authIdx k) 0x01 = 2
    ∧ (e.vehicle[k]).authorized = false ∧ (e.vehicle[k]).pendingSince = none ∧ (e.vehicle[k]).protocol = 0
    ∧ t + ms (nat s.dev 0x3100 0x04) ≤ e.time.now))
  ∧ ((s.dev.vehicle[k]).pendingSince = none → Rests (.authorizationTimeout k) s)

/-! Cable check and insulation (R193 to R197). -/

/-- CABLE_CHECK_RAIL_READY (R193): a free rail alone in its segment, with legs, begins to raise towards the cable. -/
def cableCheckRailReady : Prop := ∀ (k : Fin 12) (s : State),
  let o := s.dev.out[k]
  let ready : Prop := o.state = .cableCheck ∧ o.step = .wait ∧ (s.dev.rail[k]).state = .free
    ∧ (members (segOf k s.dev) s.dev).length = 1 ∧ hasLegs k s.dev = true
  (ready → Gives (.cableCheckRailReady k) s (fun e => (e.out[k]).step = .closing
    ∧ (startRefusal k s.dev = none → (e.rail[k]).episode = .coincidentOutlet ∧ (e.rail[k]).state = .precharging)))
  ∧ (¬ ready → Rests (.cableCheckRailReady k) s)

/-- IMD_SETTLE_EXPIRY (R193, R196, R197): a fresh reading passes the check unless it is a fault, cause 13; without one, cause 15. -/
def imdSettleExpiry : Prop := ∀ (k : Fin 12) (s : State),
  let d := s.dev
  let o := d.out[k]
  let t := max d.time.now (o.stepAt + ms (nat d (outIdx k 2) 0x03))
  let stale (x : ImdReading) : Prop :=
    x.stamp - d.time.base ≤ o.stepAt ∨ x.stamp + sec (nat d (outIdx k 2) 0x11) < siteTime (reach t d)
  (∀ x, o.state = .cableCheck → o.step = .hold → o.imd = some x → ¬ stale x → insulClass k x d ≠ 3 →
    Gives (.imdSettleExpiry k) s (fun e => (e.out[k]).step = .passed ∧ (e.out[k]).insul = insulClass k x d ∧ e.time.now = t))
  ∧ (∀ x, o.state = .cableCheck → o.step = .hold → o.imd = some x → ¬ stale x → insulClass k x d = 3 →
    Gives (.imdSettleExpiry k) s (fun e => causeNoted k 13 d e ∧ e.time.now = t))
  ∧ (o.state = .cableCheck → o.step = .hold → (∀ x, o.imd = some x → stale x) →
    Gives (.imdSettleExpiry k) s (fun e => causeNoted k 15 d e ∧ e.time.now = t))
  ∧ (o.state ≠ .cableCheck ∨ o.step ≠ .hold → Rests (.imdSettleExpiry k) s)

/-- CABLE_CHECK_TIMEOUT (R193): cause 17. -/
def cableCheckTimeout : Prop := ∀ (k : Fin 12) (s : State),
  let o := s.dev.out[k]
  (o.state = .cableCheck → o.step ≠ .passed → Gives (.cableCheckTimeout k) s (fun e => causeNoted k 17 s.dev e ∧ o.since + sec (nat s.dev (outIdx k 2) 0x10) ≤ e.time.now))
  ∧ (o.state ≠ .cableCheck ∨ o.step = .passed → Rests (.cableCheckTimeout k) s)

/-- CABLE_SHORT (R195): cause 14. -/
def cableShort : Prop := ∀ (k : Fin 12) (s : State),
  let o := s.dev.out[k]
  let due := ms (nat s.dev (outIdx k 2) 0x06) < o.shortTicks * period
  (o.state = .cableCheck → due → Gives (.cableShort k) s (causeNoted k 14 s.dev))
  ∧ (o.state ≠ .cableCheck ∨ ¬ due → Rests (.cableShort k) s)

/-- IMD_READING (R196): a reading of status 1 to 3 is taken; after a passed check a fault stops the outlet with cause 13. -/
def imdReading : Prop := ∀ (k : Fin 12) (kohm st : Nat) (stamp : Int) (s : State),
  let o := s.dev.out[k]
  let x : ImdReading := ⟨kohm, st, stamp⟩
  (1 ≤ st → st ≤ 3 → Gives (.imdReading k kohm st stamp) s (fun e => (e.out[k]).imd = some x
    ∧ (o.step = .passed → inCharge o.state = true → (e.out[k]).insul = insulClass k x s.dev
        ∧ (insulClass k x s.dev = 3 → causeNoted k 13 s.dev e))))
  ∧ (st < 1 ∨ 3 < st → Rests (.imdReading k kohm st stamp) s)

/-- IMD_AGE_EXPIRY (R197): cause 15. -/
def imdAgeExpiry : Prop := ∀ (k : Fin 12) (s : State),
  let o := s.dev.out[k]
  (o.step = .passed → inCharge o.state = true → Gives (.imdAgeExpiry k) s (fun e => causeNoted k 15 s.dev e
    ∧ ∀ x, o.imd = some x → atSite (x.stamp + sec (nat s.dev (outIdx k 2) 0x11)) s.dev ≤ e.time.now))
  ∧ (o.step ≠ .passed ∨ inCharge o.state = false → Rests (.imdAgeExpiry k) s)

/-! Delivery and its ends (R183 to R202, R502). -/

/-- DIRECTION_CHANGE_COMPLETE (R199): the outlet's generator rests at zero, and the direction turns at the next boundary. -/
def directionChangeComplete : Prop := ∀ (k : Fin 12) (s : State),
  let o := s.dev.out[k]
  let g := s.dev.eng.gen[outletGen k]
  (o.turning = true → g.p = 0 → g.state = .rest → Gives (.directionChangeComplete k) s (eventNoted k .turned s.dev))
  ∧ (o.turning = false ∨ g.p ≠ 0 ∨ g.state ≠ .rest → Rests (.directionChangeComplete k) s)

/-- FAST_STOP_END (R184): the generator rests at zero. -/
def fastStopEnd : Prop := ∀ (k : Fin 12) (s : State),
  (∀ p t, (s.dev.out[k]).fast = some (p, t) → Gives (.fastStopEnd k) s (fun e => (e.out[k]).fast = none
    ∧ (e.eng.gen[outletGen k]).p = 0 ∧ (e.eng.gen[outletGen k]).state = .rest ∧ t + ms (nat s.dev (outIdx k 2) 0x0A) ≤ e.time.now))
  ∧ ((s.dev.out[k]).fast = none → Rests (.fastStopEnd k) s)

/-- OUTLET_CONTACTOR_OPEN (R185): low current in WINDDOWN or FAULTED, or the bound of FAULTED, asks for the opening. -/
def outletContactorOpen : Prop := ∀ (k : Fin 12) (s : State),
  let o := s.dev.out[k]
  (o.state = .winddown ∨ o.state = .faulted → 3 ≤ o.lows → Gives (.outletContactorOpen k) s (fun e =>
    (contactor (.outlet k) e).want = false))
  ∧ (o.state = .faulted → o.lows < 3 → Gives (.outletContactorOpen k) s (fun e =>
    (contactor (.outlet k) e).want = false ∧ o.since + ms (nat s.dev (outIdx k 2) 0x0A) + ms 10 ≤ e.time.now))
  ∧ ((o.state ≠ .winddown ∧ o.state ≠ .faulted) ∨ (o.state = .winddown ∧ o.lows < 3) → Rests (.outletContactorOpen k) s)

/-- FAULTED_RAIL_STOP (R502): the rail of a faulted outlet stops once its contactor counts open. -/
def faultedRailStop : Prop := ∀ (k : Fin 12) (s : State),
  let due := (s.dev.out[k]).stopDue && !outletClosed k s.dev
  (due = true → Gives (.faultedRailStop k) s (fun e => (e.out[k]).stopDue = false
    ∧ (governs k s.dev = true → (s.dev.rail[k]).state = .live → (e.rail[k]).state = .draining)))
  ∧ (due = false → Rests (.faultedRailStop k) s)

/-- WINDDOWN_TIMEOUT (R201): cause 18. -/
def winddownTimeout : Prop := ∀ (k : Fin 12) (s : State),
  let o := s.dev.out[k]
  (o.state = .winddown → Gives (.winddownTimeout k) s (fun e => causeNoted k 18 s.dev e ∧ o.since + ms (nat s.dev (outIdx k 2) 0x0C) ≤ e.time.now))
  ∧ (o.state ≠ .winddown → Rests (.winddownTimeout k) s)

/-- WELD_CHECK_PASS (R202): three feed updates below the dead level end the session at the next boundary. -/
def weldCheckPass : Prop := ∀ (k : Fin 12) (s : State),
  let o := s.dev.out[k]
  (o.state = .weldCheck → 3 ≤ o.dead → Gives (.weldCheckPass k) s (eventNoted k .pass s.dev))
  ∧ (o.state ≠ .weldCheck ∨ o.dead < 3 → Rests (.weldCheckPass k) s)

/-- CABLE_DISCHARGE_EXPIRY (R202): a cable still near its rail's voltage is a weld, cause 19; otherwise cause 20. -/
def cableDischargeExpiry : Prop := ∀ (k : Fin 12) (s : State),
  let o := s.dev.out[k]
  let weld : Prop := ∃ c v, o.cableV = some c ∧ measured k s.dev = some v ∧ |c - v| ≤ 20000 * num s.dev (railIdx k 4) 0x03
  (o.state = .weldCheck → Gives (.cableDischargeExpiry k) s (fun e =>
    (weld → causeNoted k 19 s.dev e) ∧ (¬ weld → causeNoted k 20 s.dev e)
    ∧ o.since + ms (nat s.dev (outIdx k 2) 0x0D) ≤ e.time.now))
  ∧ (o.state ≠ .weldCheck → Rests (.cableDischargeExpiry k) s)

/-! Heads and cooling (R180, R204 to R206). -/

/-- HEAD_DATA (R180): taken for the outlet that names the head's node. Two states of a vehicle connected count as one (Table 7.2). -/
def headData : Prop := ∀ (k : Fin 12) (m : TenonMsg) (x : HeadData) (s : State),
  let named := (all 12).find? (fun k => num s.dev (outIdx k 1) 0x05 == x.node.val)
  (heard .hf 0x17 m s.dev → up 1 s.dev = true → named = some k → Gives (.headData m x) s (fun e =>
    (e.out[k]).conn = x.connection.val ∧ (e.out[k]).headAt = some s.dev.time.now ∧ (e.out[k]).headStale = false
      ∧ (e.out[k]).supplyT = x.supply ∧ (e.out[k]).returnT = x.return_ ∧ (e.out[k]).flow = x.flow
      ∧ (e.out[k]).connSince = (if sameConnection (s.dev.out[k]).conn x.connection.val then (s.dev.out[k]).connSince else s.dev.time.now)))
  ∧ (¬ heard .hf 0x17 m s.dev ∨ up 1 s.dev = false ∨ named = none → receivedOnly (.headData m x) .hf m s)

/-- HEAD_STALE (R205): no derated current is left, with cause 8; a head never heard, or one while a restart is awaited, rests. -/
def headStale : Prop := ∀ (k : Fin 12) (s : State),
  let o := s.dev.out[k]
  (∀ t, o.headAt = some t → o.headStale = false → s.dev.barrier.field.view ≠ .restartAwaited → Gives (.headStale k) s (fun e =>
    (e.out[k]).headStale = true ∧ (e.out[k]).derated = 0 ∧ t + ms (nat s.dev (coolIdx k 0) 0x09) ≤ e.time.now ∧ causeNoted k 8 s.dev e))
  ∧ (o.headAt = none ∨ o.headStale = true ∨ s.dev.barrier.field.view = .restartAwaited → Rests (.headStale k) s)

/-- DERATING_UPDATE (R205): every 1 ms. -/
def deratingUpdate : Prop := ∀ (s : State),
  (up 1 s.dev = true → Gives .deratingUpdate s (fun e => e.time.now = dueAt s.dev.time.ticked[(8 : Fin 9)] (ms 1) s.dev
    ∧ ∀ k : Fin 12, (e.out[k]).derated = deratedOf k s.dev ∧ (e.out[k]).state = (s.dev.out[k]).state))
  ∧ (up 1 s.dev = false → Rests .deratingUpdate s)

/-- FLOW_FAULT (R206): at once where the pump's channel has tripped, otherwise after the flow fault time. -/
def flowFault : Prop := ∀ (k : Fin 12) (s : State),
  let o := s.dev.out[k]
  (pumpTripped k s.dev = true → Gives (.flowFault k) s (fun e => e.out[k] = { o with flowFault := true, flowLow := none }))
  ∧ (∀ t, pumpTripped k s.dev = false → o.flowLow = some t → Gives (.flowFault k) s (fun e =>
    e.out[k] = { o with flowFault := true, flowLow := none } ∧ t + ms (nat s.dev (coolIdx k 0) 0x03) ≤ e.time.now))
  ∧ (pumpTripped k s.dev = false → o.flowLow = none → Rests (.flowFault k) s)

/-- FLOW_FAULT_CLEAR (R206). -/
def flowFaultClear : Prop := ∀ (k : Fin 12) (s : State),
  let o := s.dev.out[k]
  (∀ t, o.flowOk = some t → o.flowFault = true → Gives (.flowFaultClear k) s (fun e =>
    e.out[k] = { o with flowFault := false } ∧ t + ms (nat s.dev (coolIdx k 0) 0x03) ≤ e.time.now))
  ∧ (o.flowOk = none ∨ o.flowFault = false → Rests (.flowFaultClear k) s)

/-- RUN_ON_EXPIRY (R204): cooling ends. -/
def runOnExpiry : Prop := ∀ (k : Fin 12) (s : State),
  let o := s.dev.out[k]
  (∀ t, o.runOn = some t → Gives (.runOnExpiry k) s (fun e =>
    e.out[k] = { o with cooling := false, runOn := none } ∧ t + sec (nat s.dev (coolIdx k 0) 0x08) ≤ e.time.now))
  ∧ (o.runOn = none → Rests (.runOnExpiry k) s)

end Sys2Proof.Claims
end

