-- ==== Sys2Proof/Claims/Metrology.lean ====
section
/-! DEFINITION. Claims about the metering link, registers, pulses, sessions, records and saves (chapter 8), one for each command. -/
namespace Sys2Proof.Claims
open Machine

/-! The metering link (R213 to R216). -/

/-- METERING_UPLINK_FRAME (R214 to R216): a missing or bad frame is counted and adds 250 µs to the gap of an open session; a good
frame in its sequence, its sample interval within 100 ppm, is counted as accepted. -/
def meteringUplinkFrame : Prop := ∀ (k : Fin 12) (arrival : Nat) (f : Option MeterUp) (s : State),
  let x := s.dev.metro.meter[k]
  (metering s.dev = true → f = none ∨ (∃ g, f = some g ∧ meterUpGood g = false) → Gives (.meteringUplinkFrame k arrival f) s (fun e =>
    (e.metro.meter[k]).missRun = min 40 (x.missRun + 1) ∧ (e.metro.meter[k]).goodRun = 0 ∧ atSite arrival s.dev ≤ e.time.now
      ∧ (e.metro.meter[k]).totD = x.totD ∧ num e (meterCfg k) 0x0D = num s.dev (meterCfg k) 0x0D + 1
      ∧ ∀ y, x.session = some y → (e.metro.meter[k]).session = some { y with gap := y.gap + 250 }))
  ∧ (∀ g, metering s.dev = true → f = some g → meterUpGood g = true → x.expect = none ∨ x.expect = some g.count →
    rateFault (measureInterval g.count arrival x) = false → Gives (.meteringUplinkFrame k arrival f) s (fun e =>
      (e.metro.meter[k]).expect = some (g.count + 8) ∧ (e.metro.meter[k]).missRun = 0
        ∧ (e.metro.meter[k]).goodRun = min 400 (x.goodRun + 1) ∧ (e.metro.meter[k]).temp = signed 16 g.temp.toNat
        ∧ atSite arrival s.dev ≤ e.time.now ∧ num e (meterCfg k) 0x0C = num s.dev (meterCfg k) 0x0C + 1))
  ∧ (metering s.dev = false → Gives (.meteringUplinkFrame k arrival f) s (fun e => e.metro = s.dev.metro))

/-- METERING_DOWNLINK_FRAME (R213): the frame asks for the next address of the rotation. -/
def meteringDownlinkFrame : Prop := ∀ (k : Fin 12) (s : State),
  (metering s.dev = true → Gives (.meteringDownlinkFrame k) s (fun e => e.time.now = nextMultiple (ms 1) s.dev
    ∧ (e.metro.meter[k]).asked = (s.dev.metro.meter[k]).asked % 8 + 1
    ∧ (e.metro.meter[k]).down = meterDownBytes ((s.dev.metro.meter[k]).asked % 8 + 1)))
  ∧ (metering s.dev = false → Rests (.meteringDownlinkFrame k) s)

/-- METERING_LINK_DOWN (R216): 40 missing frames in a row; the feed has no values. -/
def meteringLinkDown : Prop := ∀ (k : Fin 12) (s : State),
  let x := s.dev.metro.meter[k]
  (x.link = true → 40 ≤ x.missRun → Gives (.meteringLinkDown k) s (fun e => (e.metro.meter[k]).link = false
    ∧ (e.metro.meter[k]).feedV = none ∧ (e.metro.meter[k]).feedI = none))
  ∧ (x.link = false ∨ x.missRun < 40 → Rests (.meteringLinkDown k) s)

/-- METERING_LINK_UP (R216): 400 good frames in a row, with the calibration identity read. -/
def meteringLinkUp : Prop := ∀ (k : Fin 12) (s : State),
  let x := s.dev.metro.meter[k]
  (x.link = false → 400 ≤ x.goodRun → x.head[(4 : Fin 8)].isSome = true → Gives (.meteringLinkUp k) s (fun e => e.metro.meter[k] = { x with link := true }))
  ∧ (x.link = true ∨ x.goodRun < 400 ∨ x.head[(4 : Fin 8)] = none → Rests (.meteringLinkUp k) s)

/-! Intervals and pulses (R218 to R222, R238 to R240). -/

/-- The sums of the intervals up to a number, delivered and returned. -/
def sumsTo (last : Nat) (x : Meter) : Int × Int :=
  let l := x.acc.takeWhile (fun a => decide (a.interval ≤ last))
  ((l.map (·.del)).sum, (l.map (·.ret)).sum)

/-- METERING_INTERVAL_END (R218, R221, R222): every interval that has ended is closed, and each total with its remainder takes exactly
the energy of its samples. -/
def meteringIntervalEnd : Prop := ∀ (s : State),
  let d := s.dev
  let t := max ((d.metro.interval + 1) * ms 1) (siteTime d / ms 1 * ms 1)
  (metering d = true → Gives .meteringIntervalEnd s (fun e => e.metro.interval = t / ms 1 ∧ atSite t d ≤ e.time.now
    ∧ isStale .metrologyFeed e = false ∧ ∀ k : Fin 12, let x := d.metro.meter[k]
      ((e.metro.meter[k]).totD : Rat) + (e.metro.meter[k]).remD = x.totD + x.remD + energyOf (sumsTo (t / ms 1 - 1) x).1 x.dt
      ∧ ((e.metro.meter[k]).totR : Rat) + (e.metro.meter[k]).remR = x.totR + x.remR + energyOf (sumsTo (t / ms 1 - 1) x).2 x.dt))
  ∧ (metering d = false → Rests .meteringIntervalEnd s)

/-- PULSE_BACKLOG_ISSUE (R239): one pulse of the backlog, at an interval boundary that its spacing allows. -/
def pulseBacklogIssue : Prop := ∀ (p : Fin 8) (s : State),
  let x := s.dev.metro.pulse[p]
  (x.backlog ≠ 0 → Gives (.pulseBacklogIssue p) s (fun e => (e.metro.pulse[p]).backlog = x.backlog - 1
    ∧ (e.metro.pulse[p]).residue = x.residue
    ∧ (∃ u, (e.metro.pulse[p]).lastEdge = some u ∧ u % ms 1 = 0 ∧ siteTime s.dev ≤ u ∧ atSite u s.dev ≤ e.time.now
        ∧ ∀ t, x.lastEdge = some t → t + 2 * ms (nat s.dev (pulseIdx p) 0x04) ≤ u)
    ∧ num e (pulseIdx p) 0x05 = num s.dev (pulseIdx p) 0x05 + 1))
  ∧ (x.backlog = 0 → Rests (.pulseBacklogIssue p) s)

/-- TEST_PULSE_EDGE (R240): the next edge due. -/
def testPulseEdge : Prop := ∀ (p : Fin 4) (q : Fin 8) (s : State), q.val = 4 + p.val →
  let x := s.dev.metro.pulse[q]
  (∀ t r, x.edges = t :: r → Gives (.testPulseEdge p) s (fun e => (e.metro.pulse[q]).edges = r ∧ atSite t s.dev ≤ e.time.now
    ∧ (∃ u, (e.metro.pulse[q]).lastEdge = some u ∧ t ≤ u ∧ ∀ v, x.lastEdge = some v → v + us 100 ≤ u)
    ∧ num e (pulseIdx q) 0x05 = num s.dev (pulseIdx q) 0x05 + 1))
  ∧ (x.edges = [] → Rests (.testPulseEdge p) s)

/-! Sessions and records (R31, R225 to R234). -/

/-- OUTLET_STATUS_COPY (R225, R226): the copy is kept; CABLE_CHECK asks for an opening, and an ending state for a closing. -/
def outletStatusCopy : Prop := ∀ (k : Fin 12) (st : Fin 12) (t : Nat) (holder : Bool) (s : State),
  let x := s.dev.metro.meter[k]
  (metering s.dev = true → Gives (.outletStatusCopy k st t holder) s (fun e => (e.metro.meter[k]).copy = some (st.val, t, holder)
    ∧ (st = 3 → x.copy = none → x.session = none → (e.metro.meter[k]).opening = some (t, holder))
    ∧ (endsSession st.val = true → x.session.isSome = true → x.closing = none → (e.metro.meter[k]).closing = some t)
    ∧ (e.metro.meter[k]).session = x.session))
  ∧ (metering s.dev = false → Rests (.outletStatusCopy k st t holder) s)

/-- METERING_SESSION_OPEN (R226, R227): at the first interval boundary after the copy, with the readings there; a module that does not
hold the lease opens as witness, once its time base is aligned. -/
def meteringSessionOpen : Prop := ∀ (k : Fin 12) (s : State),
  let d := s.dev
  (∀ t holder, metering d = true → mayMeter d = true → (d.metro.meter[k]).opening = some (t, holder) →
    holder = true ∨ d.metro.aligned = true → Gives (.meteringSessionOpen k) s (fun e => (e.metro.meter[k]).opening = none
      ∧ atSite (boundaryAfter t) d ≤ e.time.now ∧ ∃ x, (e.metro.meter[k]).session = some x ∧ x.role = (if holder then .meter else .witness)
        ∧ x.openedAt = boundaryAfter t ∧ x.late = false ∧ x.number = nat d (outIdx k 0) 0x09
        ∧ x.startD = delivered k e ∧ x.startR = returned k e))
  ∧ (metering d = false ∨ mayMeter d = false ∨ (d.metro.meter[k]).opening = none → Rests (.meteringSessionOpen k) s)

/-- METERING_SESSION_CLOSE (R226): at the end of the interval of the ending copy; the closed session waits for its signature. -/
def meteringSessionClose : Prop := ∀ (k : Fin 12) (s : State),
  let d := s.dev
  (∀ t x, metering d = true → (d.metro.meter[k]).closing = some t → (d.metro.meter[k]).session = some x →
    Gives (.meteringSessionClose k) s (fun e => (e.metro.meter[k]).session = none ∧ (e.metro.meter[k]).closing = none
      ∧ atSite (boundaryAfter t) d ≤ e.time.now ∧ ∃ r, e.metro.toSign = d.metro.toSign ++ [r] ∧ r.outlet = k ∧ r.session.number = x.number
        ∧ r.closedAt = boundaryAfter t ∧ r.endD = delivered k e ∧ r.endR = returned k e ∧ r.session.startD = x.startD))
  ∧ (metering d = false ∨ (d.metro.meter[k]).closing = none ∨ (d.metro.meter[k]).session = none →
    Rests (.meteringSessionClose k) s)

/-- LATE_START_WITNESS (R229). -/
def lateStartWitness : Prop := ∀ (k : Fin 12) (s : State),
  let d := s.dev
  let x := d.metro.meter[k]
  let may : Prop := metering d = true ∧ mayMeter d = true ∧ (∃ c t, x.copy = some (c, t, false) ∧ sessionState c = true)
    ∧ d.metro.aligned = true ∧ x.session = none ∧ x.opening = none ∧ 0 < x.goodRun
  (may → Gives (.lateStartWitness k) s (fun e => ∃ y, (e.metro.meter[k]).session = some y ∧ y.role = .witness ∧ y.late = true
    ∧ y.openedAt = siteTime d ∧ y.startD = delivered k d))
  ∧ (¬ may → Rests (.lateStartWitness k) s)

/-- RECORD_SIGNED (R233, R234): the oldest closed session is signed with the island's key, takes the next record number and a place in the ring,
and waits for lane FH; an island without a key signs nothing (Table 15.2). -/
def recordSigned : Prop := ∀ (s : State),
  let d := s.dev
  (∀ r rest n, d.metro.toSign = r :: rest → up 2 d = true → d.metro.keyNo = some n → d.metro.ring.length < 64 → Gives .recordSigned s (fun e =>
    let p := recordPayload (nat d 0x3800 0x0C) r n d
    e.metro.toSign = rest ∧ e.metro.ring = d.metro.ring ++ [⟨nat d 0x3800 0x0C, p, none⟩]
      ∧ num e 0x3800 0x0C = num d 0x3800 0x0C + 1 ∧ num e 0x3800 0x0B = num d 0x3800 0x0B + 1
      ∧ ∃ x, lastOf .fh 2 e = some x ∧ x.type = 0x10 ∧ x.body = p))
  ∧ (d.metro.toSign = [] ∨ up 2 d = false ∨ d.metro.keyNo = none ∨ 64 ≤ d.metro.ring.length → Rests .recordSigned s)

/-- METERING_RECORD (R31): stored once, and acknowledged every time. -/
def meteringRecord : Prop := ∀ (m : TenonMsg) (s : State),
  (heard .fh 0x10 m s.dev → up 0 s.dev = true → Gives (.meteringRecord m) s (fun e => m.payload ∈ e.metro.stored
    ∧ (m.payload ∈ s.dev.metro.stored → e.metro.stored = s.dev.metro.stored)
    ∧ ∃ x, lastOf .hf 2 e = some x ∧ x.type = 0x11 ∧ x.body = m.payload.take 4))
  ∧ (¬ heard .fh 0x10 m s.dev ∨ up 0 s.dev = false → receivedOnly (.meteringRecord m) .fh m s)

/-- METERING_RECORD_ACKNOWLEDGE (R31): the acknowledged record leaves the ring. -/
def meteringRecordAcknowledge : Prop := ∀ (m : TenonMsg) (s : State),
  (heard .hf 0x11 m s.dev → up 2 s.dev = true → Gives (.meteringRecordAcknowledge m) s (fun e =>
    e.metro.ring = s.dev.metro.ring.filter (fun r => r.seq != leNat (m.payload.take 4))))
  ∧ (¬ heard .hf 0x11 m s.dev ∨ up 2 s.dev = false → receivedOnly (.meteringRecordAcknowledge m) .hf m s)

/-- METERING_RECORD_RETRANSMIT (R31): 100 ms after lane FH took it last; a record that waits for the lane is not sent twice. -/
def meteringRecordRetransmit : Prop := ∀ (seq : Nat) (s : State),
  (∀ r t, up 2 s.dev = true → s.dev.metro.ring.find? (fun x => x.seq == seq) = some r → r.sentAt = some t →
    Gives (.meteringRecordRetransmit seq) s (fun e =>
    t + ms 100 ≤ e.time.now ∧ e.metro.ring.length = s.dev.metro.ring.length
      ∧ ∃ x, lastOf .fh 2 e = some x ∧ x.type = 0x10 ∧ x.body = r.payload))
  ∧ (up 2 s.dev = false ∨ (∀ r, s.dev.metro.ring.find? (fun x => x.seq == seq) = some r → r.sentAt = none) → Rests (.meteringRecordRetransmit seq) s)

/-! Saves and starts (R230, R241 to R244). -/

/-- The newest save is the next in sequence, of this kind, with the totals and the open sessions. -/
def savedNow (final : Bool) (d e : Dev) : Prop :=
  e.metro.saveSeq = d.metro.saveSeq + 1 ∧ num e 0x3800 0x0D = siteTime e ∧ ∃ (i : Fin 2) (b : SaveBlock), e.metro.saves[i] = some b
    ∧ b.seq = d.metro.saveSeq + 1 ∧ b.final = final ∧ b.at_ = siteTime e ∧ ∀ k : Fin 12, b.totals[k] = ((e.metro.meter[k]).totD, (e.metro.meter[k]).totR)
        ∧ b.sessions[k].isSome = (d.metro.meter[k]).session.isSome

/-- PERIODIC_SAVE (R241, R242): every 250 ms, until a power-fail warning. -/
def periodicSave : Prop := ∀ (s : State),
  (metering s.dev = true → s.dev.metro.warned = none → Gives .periodicSave s (fun e =>
    e.time.now = nextMultiple 25000000 s.dev ∧ savedNow false s.dev e ∧ e.metro.meter = s.dev.metro.meter))
  ∧ (metering s.dev = false ∨ s.dev.metro.warned.isSome = true → Rests .periodicSave s)

/-- FINAL_WRITE_START (R242): once after a warning; the write lasts for 8 ms at most. -/
def finalWriteStart : Prop := ∀ (s : State),
  (s.dev.metro.warned.isSome = true → metering s.dev = true → s.dev.metro.finalDone = false → Gives .finalWriteStart s (fun e =>
    e.metro.finalDone = true ∧ savedNow true s.dev e
      ∧ ∃ t, e.sys.power.finalAt = some t ∧ e.time.now ≤ t ∧ t ≤ e.time.now + ms 8))
  ∧ (s.dev.metro.warned = none ∨ metering s.dev = false ∨ s.dev.metro.finalDone = true → Rests .finalWriteStart s)

/-- What a start leaves (R243): metering, no open session, every link down, and the totals of the newest save. -/
def startedFrom (d e : Dev) : Prop := num e 0x3800 0x01 = 1 ∧ e.metro.warned = none
  ∧ ∀ k : Fin 12, (e.metro.meter[k]).link = false
    ∧ ∀ b, lastSave d = some b → (e.metro.meter[k]).totD = (b.totals[k]).1 ∧ (e.metro.meter[k]).totR = (b.totals[k]).2

/-- METROLOGY_START_CLOSE (R243): the start after a power loss, counted; no session is open. -/
def metrologyStartClose : Prop := ∀ (s : State),
  (meterStarting s.dev = true → Gives .metrologyStartClose s (fun e => startedFrom s.dev e
    ∧ (∀ k : Fin 12, (e.metro.meter[k]).session = none) ∧ num e 0x3800 0x0F = num s.dev 0x3800 0x0F + 1))
  ∧ (meterStarting s.dev = false → Rests .metrologyStartClose s)

/-- METROLOGY_RESTART_CONTINUATION (R230): outlets in session go on in a session of role continuation; no power-up is counted. -/
def metrologyRestartContinuation : Prop := ∀ (s : State),
  (meterStarting s.dev = true → Gives .metrologyRestartContinuation s (fun e => startedFrom s.dev e
    ∧ num e 0x3800 0x0F = num s.dev 0x3800 0x0F
    ∧ ∀ (k : Fin 12) (c : Nat) (t : Nat) (h : Bool), (s.dev.metro.meter[k]).copy = some (c, t, h) →
        if sessionState c = true ∧ mayMeter s.dev = true then ∃ x, (e.metro.meter[k]).session = some x ∧ x.role = .continuation
        else (e.metro.meter[k]).session = none))
  ∧ (meterStarting s.dev = false → Rests .metrologyRestartContinuation s)

/-- METROLOGY_WINDOW_EXPIRY (R244): 600 s after the last seal-relevant write. -/
def metrologyWindowExpiry : Prop := ∀ (s : State),
  (∀ t, s.dev.metro.window = some t → Gives .metrologyWindowExpiry s (fun e => e.metro.window = none ∧ t + sec 600 ≤ e.time.now))
  ∧ (s.dev.metro.window = none → Rests .metrologyWindowExpiry s)

/-- POWER_FAIL_NOTICE (R242): no further periodic save; the first notice counts. -/
def powerFailNotice : Prop := ∀ (s : State),
  (metering s.dev = true → Gives .powerFailNotice s (fun e =>
    e.metro.warned = some (s.dev.metro.warned.getD s.dev.time.now) ∧ e.metro.saves = s.dev.metro.saves))
  ∧ (metering s.dev = false → Rests .powerFailNotice s)

end Sys2Proof.Claims
end

