-- ==== Sys2Proof/Claims/Safety.lean ====
section
/-! DEFINITION. Claims about the safety island (chapter 9), one for each command. -/
namespace Sys2Proof.Claims
open Machine

/-! The cores and the outputs (R253 to R269). -/

/-- SAFETY_CYCLE (R253 to R257, R266, R267, R274): after a core's cycle in RUN its switch of an output is on only where the instance is in
use and ENABLED, the permit stands and the output has no fault; an ENABLED instance has no demand source; a second mismatch of the
readback running faults the output. -/
def safetyCycle : Prop := ∀ (c : Fin 2) (agree : Bool) (read : BitVec 16) (s : State),
  let x := s.dev.safety.core[c]
  (safetyRuns s.dev = true → Gives (.safetyCycle c agree read) s (fun e => (e.safety.core[c]).pumped = true
    ∧ (e.safety.core[c]).lastCycle = e.time.now ∧ x.lastCycle + ms 1 ≤ e.time.now
    ∧ ∀ i : Fin 16, ((e.safety.core[c]).on[i] = true → (e.safety.core[c]).inst[i] = .enabled ∧ e.safety.permit = true
        ∧ e.safety.outFault[i] = false)
      ∧ ((e.safety.core[c]).inst[i] = .enabled → inUse i e = true ∧ sources i e = 0)
      ∧ (1 ≤ x.mismatch[i] → switchOn c i s.dev ≠ read.getLsbD i.val → e.safety.outFault[i] = true)))
  ∧ (up 3 s.dev = true → safetyRuns s.dev = false → Gives (.safetyCycle c agree read) s (fun e => (e.safety.core[c]).pumped = true
    ∧ (e.safety.core[c]).inst = x.inst ∧ (e.safety.core[c]).on = x.on))
  ∧ (up 3 s.dev = false → Rests (.safetyCycle c agree read) s)

/-- The samples of a channel as the filter recognises them (R261). -/
def recognised (f : Nat) (v level closed : Bool) (run : Nat) : Bool := if f ≤ (if level = v then run + 1 else 1) then v else closed

/-- SAFETY_INPUT_SAMPLE (R261): every 250 µs; a level is recognised after the filter's number of equal samples. -/
def safetyInputSample : Prop := ∀ (a b : BitVec 8) (fb : BitVec 12) (s : State),
  (up 3 s.dev = true → Gives (.safetyInputSample a b fb) s (fun e => e.time.now = nextMultiple (us 250) s.dev ∧ ∀ n : Fin 8,
    let x := s.dev.safety.input[n]
    let y := e.safety.input[n]
    let f := nat s.dev (inIdx n) 0x02
    y.level[(0 : Fin 2)] = a.getLsbD n.val ∧ y.level[(1 : Fin 2)] = b.getLsbD n.val
      ∧ y.closed[(0 : Fin 2)] = recognised f (a.getLsbD n.val) x.level[(0 : Fin 2)] x.closed[(0 : Fin 2)] x.run[(0 : Fin 2)]
      ∧ y.closed[(1 : Fin 2)] = recognised f (b.getLsbD n.val) x.level[(1 : Fin 2)] x.closed[(1 : Fin 2)] x.run[(1 : Fin 2)]
      ∧ (x.fault = false → y.fault = false)))
  ∧ (up 3 s.dev = false → Rests (.safetyInputSample a b fb) s)

/-- DISCREPANCY_TIMEOUT (R262). -/
def discrepancyTimeout : Prop := ∀ (n : Fin 8) (s : State),
  let x := s.dev.safety.input[n]
  (∀ t, x.differs = some t → x.fault = false → up 3 s.dev = true → Gives (.discrepancyTimeout n) s (fun e =>
    e.safety.input[n] = { x with fault := true, stage := 0 } ∧ t + ms (nat s.dev (inIdx n) 0x03) ≤ e.time.now))
  ∧ (x.differs = none ∨ x.fault = true ∨ up 3 s.dev = false → Rests (.discrepancyTimeout n) s)

/-- DARK_PULSE_TEST (R258): an interval after the switch's last test; a readback within 300 µs passes and is measured; otherwise the switch stays dark. -/
def darkPulseTest : Prop := ∀ (c other : Fin 2) (o : Fin 16) (took : Option Nat) (s : State), other ≠ c →
  let x := s.dev.safety.core[c]
  let at_ := match x.lastDark[o] with
    | some t => max s.dev.time.now (t + sec (nat s.dev 0x4030 0x06))
    | none => s.dev.time.now
  let may : Prop := safetyRuns s.dev = true ∧ x.on[o] = true ∧ x.dark[o] = none
    ∧ ∀ t, (s.dev.safety.core[other]).lastDark[o] = some t → t + ms 50 ≤ s.dev.time.now
  (∀ n, may → took = some n → n ≤ 300 → Gives (.darkPulseTest c o took) s (fun e => (e.safety.core[c]).dark[o] = none
    ∧ (e.safety.core[c]).lastDark[o] = some at_ ∧ at_ + us n ≤ e.time.now
    ∧ num e 0x4080 0x03 = num s.dev 0x4080 0x03 + 1 ∧ num e 0x4080 0x05 = max (num s.dev 0x4080 0x05) n))
  ∧ (may → (∀ n, took = some n → 300 < n) → Gives (.darkPulseTest c o took) s (fun e =>
    (e.safety.core[c]).dark[o] = some at_ ∧ switchOn c o e = false))
  ∧ (¬ may → Rests (.darkPulseTest c o took) s)

/-- DARK_PULSE_TIMEOUT (R257, R258): an output fault at 300 µs; both switches are commanded off and the instance meets a demand. -/
def darkPulseTimeout : Prop := ∀ (c : Fin 2) (o : Fin 16) (s : State),
  (∀ t, (s.dev.safety.core[c]).dark[o] = some t → Gives (.darkPulseTimeout c o) s (fun e => e.safety.outFault[o] = true
    ∧ t + us 300 ≤ e.time.now ∧ num e 0x4080 0x04 = num s.dev 0x4080 0x04 + 1
    ∧ ∀ k : Fin 2, (e.safety.core[k]).on[o] = false ∧ (e.safety.core[k]).inst[o] = .demand ∧ (e.safety.core[k]).dark[o] = none))
  ∧ ((s.dev.safety.core[c]).dark[o] = none → Rests (.darkPulseTimeout c o) s)

/-- CHARGE_PUMP_TIMEOUT (R254): no switch of the core conducts. -/
def chargePumpTimeout : Prop := ∀ (c : Fin 2) (s : State), Gives (.chargePumpTimeout c) s (fun e =>
  (e.safety.core[c]).pumped = false ∧ (s.dev.safety.core[c]).lastCycle + ms 2 ≤ e.time.now ∧ ∀ i : Fin 16, switchOn c i e = false)

/-- The island is locked, with every instance in DEMAND and every switch commanded off (Table 9.2). -/
def lockedNow (e : Dev) : Prop := num e 0x4000 0x01 = 2
  ∧ ∀ (c : Fin 2) (i : Fin 16), (e.safety.core[c]).inst[i] = .demand ∧ (e.safety.core[c]).on[i] = false

/-- CORE_DISAGREEMENT (R255): RUN ends in LOCKED with its cause: a disagreement of three cycles running, a missed cycle, a failed self-test. -/
def coreDisagreement : Prop := ∀ (cause : Fin 4) (s : State),
  let met : Prop := cause = 1 ∨ cause = 3 ∨ ∃ c : Fin 2, 3 ≤ (s.dev.safety.core[c]).differ
  (safetyRuns s.dev = true → met → Gives (.coreDisagreement cause) s (fun e => lockedNow e
    ∧ num e 0x4000 0x02 = (2 ^ (if cause = 2 then 0 else cause.val) : Nat)))
  ∧ (safetyRuns s.dev = false ∨ ¬ met → Rests (.coreDisagreement cause) s)

/-- SAFETY_SELF_TEST_COMPLETE (Table 9.2): START ends in RUN where the test passes and a safety leaf is valid, otherwise in LOCKED. -/
def safetySelfTestComplete : Prop := ∀ (pass : Bool) (s : State),
  let starting := up 3 s.dev && num s.dev 0x4000 0x01 == 0
  (starting = true → pass = true → s.dev.safety.leafValid = true → Gives (.safetySelfTestComplete pass) s (fun e =>
    num e 0x4000 0x01 = 1 ∧ num e 0x4000 0x02 = 0 ∧ ∀ n : Fin 8, (e.safety.input[n]).testSeen = false))
  ∧ (starting = true → pass = false ∨ s.dev.safety.leafValid = false → Gives (.safetySelfTestComplete pass) s (fun e => lockedNow e
    ∧ num e 0x4000 0x02 = if pass then 4 else 16))
  ∧ (starting = false → Rests (.safetySelfTestComplete pass) s)

/-- CURRENT_WAIT_TIMEOUT (R269): 40 ms in CURRENT_WAIT, and the output is switched off. -/
def currentWaitTimeout : Prop := ∀ (j : Fin 12) (i : Fin 16) (s : State), i.val = j.val →
  (∀ c : Fin 2, (s.dev.safety.core[c]).inst[i] = .currentWait → Gives (.currentWaitTimeout j) s (fun e =>
    (e.safety.core[c]).inst[i] = .demand ∧ (e.safety.core[c]).on[i] = false
      ∧ (s.dev.safety.core[c]).waitSince[i] + ms 40 ≤ e.time.now ∧ (e.safety.fbTimer[j]).isSome = true))
  ∧ ((∀ c : Fin 2, (s.dev.safety.core[c]).inst[i] ≠ .currentWait) → Rests (.currentWaitTimeout j) s)

/-- FEEDBACK_TIMER_END (R268): a contactor that has not opened is a feedback fault, where the check applies and the instance is still in
DEMAND. -/
def feedbackTimerEnd : Prop := ∀ (j : Fin 12) (i : Fin 16) (s : State), i.val = j.val →
  let d := s.dev
  (∀ t applies, d.safety.fbTimer[j] = some (t, applies) → Gives (.feedbackTimerEnd j) s (fun e => e.safety.fbTimer[j] = none
    ∧ t + ms (nat d 0x4030 0x05) ≤ e.time.now
    ∧ e.safety.contFault[j] = (d.safety.contFault[j] || (applies && !(d.safety.fb[j]).deb && instState i d == .demand))))
  ∧ (d.safety.fbTimer[j] = none → Rests (.feedbackTimerEnd j) s)

/-! Ridge connections (R277 to R281). -/

/-- A consumer connection in FAULT with its cause, counted. -/
def consumerFaulted (c : Fin 16) (cause : Nat) (d e : Dev) : Prop := (e.safety.consumer[c]).state = .fault
  ∧ num e (conIdx c) 0x0A = cause ∧ num e (conIdx c) 0x09 = num d (conIdx c) 0x09 + 1 ∧ (e.safety.consumer[c]).ackDue = none

/-- RIDGE_FRAME_TO_SAFETY (R277, R278): an accepted frame's data is taken and an acknowledge is due; a frame with a bad CRC, identity or time
or out of sequence faults the connection; a repeated frame is acknowledged again. -/
def ridgeFrameToSafety : Prop := ∀ (c : Fin 16) (m : TenonMsg) (s : State),
  let b := m.payload.drop 8
  let x := s.dev.safety.consumer[c]
  let next := if x.lastSeq = 0xFFFF then 1 else x.lastSeq + 1
  let here : Prop := heard .hf 0x03 m s.dev ∧ up 3 s.dev = true ∧ ridgeByte m.payload 1 = c.val ∧ on s.dev (conIdx c) 0x01 = true
  let inOrder : Prop := (x.state = .waiting ∧ ridgeRestart b = true ∧ ridgeSeq b = 1)
    ∨ (x.state = .running ∧ b ≠ x.lastFrame ∧ ridgeRestart b = false ∧ ridgeSeq b = next)
  let again : Prop := x.state = .running ∧ b = x.lastFrame
  (here → ridgeChecks 1 4 (conIdx c) b s.dev = none → inOrder → Gives (.ridgeFrameToSafety m) s (fun e =>
    (e.safety.consumer[c]).state = .running ∧ (e.safety.consumer[c]).data = (b.drop 10).take 4
      ∧ (e.safety.consumer[c]).lastSeq = ridgeSeq b ∧ (e.safety.consumer[c]).lastAt = s.dev.time.now
      ∧ (e.safety.consumer[c]).ackDue = some (ridgeSeq b, ridgeRestart b)))
  ∧ (here → ridgeChecks 1 4 (conIdx c) b s.dev = none → again → Gives (.ridgeFrameToSafety m) s (fun e =>
    e.safety.consumer[c] = { x with ackDue := some (ridgeSeq b, ridgeRestart b) }))
  ∧ (here → ridgeChecks 1 4 (conIdx c) b s.dev = none → x.state ≠ .fault → ¬ inOrder → ¬ again →
    Gives (.ridgeFrameToSafety m) s (consumerFaulted c 6 s.dev))
  ∧ (∀ n, here → ridgeChecks 1 4 (conIdx c) b s.dev = some n → n ≠ 0 → x.state ≠ .fault →
    Gives (.ridgeFrameToSafety m) s (consumerFaulted c n s.dev))
  ∧ (here → x.state = .fault ∨ ridgeChecks 1 4 (conIdx c) b s.dev = some 0 → receivedOnly (.ridgeFrameToSafety m) .hf m s)
  ∧ (¬ heard .hf 0x03 m s.dev ∨ up 3 s.dev = false → receivedOnly (.ridgeFrameToSafety m) .hf m s)

/-- RIDGE_WATCHDOG (R279): cause 7. -/
def ridgeWatchdog : Prop := ∀ (c : Fin 16) (s : State),
  let x := s.dev.safety.consumer[c]
  (x.state = .running → Gives (.ridgeWatchdog c) s (fun e => consumerFaulted c 7 s.dev e
    ∧ x.lastAt + ms (nat s.dev (conIdx c) 0x05) ≤ e.time.now))
  ∧ (x.state ≠ .running → Rests (.ridgeWatchdog c) s)

/-- RIDGE_FAULT_RECOVERY (R279). -/
def ridgeFaultRecovery : Prop := ∀ (c : Fin 16) (s : State),
  let x := s.dev.safety.consumer[c]
  (x.state = .fault → Gives (.ridgeFaultRecovery c) s (fun e => (e.safety.consumer[c]).state = .waiting
    ∧ (e.safety.consumer[c]).lastSeq = 0 ∧ x.faultAt + ms (nat s.dev (conIdx c) 0x05) ≤ e.time.now))
  ∧ (x.state ≠ .fault → Rests (.ridgeFaultRecovery c) s)

/-- A producer connection in FAULT, counted, with its restart frame sent. -/
def producerFaulted (p : Fin 8) (d e : Dev) : Prop := (e.safety.producer[p]).state = .fault ∧ (e.safety.producer[p]).seq = 1
  ∧ (e.safety.producer[p]).frame.isSome = true ∧ num e (prodIdx p) 0x07 = num d (prodIdx p) 0x07 + 1

/-- RIDGE_ACKNOWLEDGE (R281): the acknowledge of the outstanding frame ends it and the connection runs; another sequence is a fault; the
last accepted acknowledge again is discarded. -/
def ridgeAcknowledge : Prop := ∀ (p : Fin 8) (m : TenonMsg) (s : State),
  let b := m.payload.drop 8
  let x := s.dev.safety.producer[p]
  let here : Prop := heard .hf 0x03 m s.dev ∧ up 3 s.dev = true ∧ ridgeByte m.payload 1 = 16 + p.val ∧ on s.dev (prodIdx p) 0x01 = true
  (here → b ≠ x.lastAck → ridgeChecks 2 0 (prodIdx p) b s.dev = none → x.frame.isSome = true → ridgeSeq b = x.seq →
    Gives (.ridgeAcknowledge m) s (fun e => (e.safety.producer[p]).state = .running ∧ (e.safety.producer[p]).frame = none
      ∧ (e.safety.producer[p]).lastAck = b))
  ∧ (here → b ≠ x.lastAck → ridgeChecks 2 0 (prodIdx p) b s.dev = none → x.frame = none ∨ ridgeSeq b ≠ x.seq → x.state ≠ .fault →
    Gives (.ridgeAcknowledge m) s (producerFaulted p s.dev))
  ∧ (here → b = x.lastAck → receivedOnly (.ridgeAcknowledge m) .hf m s)
  ∧ (¬ heard .hf 0x03 m s.dev ∨ up 3 s.dev = false → receivedOnly (.ridgeAcknowledge m) .hf m s)

/-- RIDGE_PRODUCER_WATCHDOG (R281). -/
def ridgeProducerWatchdog : Prop := ∀ (p : Fin 8) (s : State),
  let x := s.dev.safety.producer[p]
  (x.frame.isSome = true → x.state ≠ .fault → Gives (.ridgeProducerWatchdog p) s (fun e => producerFaulted p s.dev e
    ∧ x.firstSent + ms (nat s.dev (prodIdx p) 0x05) ≤ e.time.now))
  ∧ (x.frame = none ∨ x.state = .fault → Rests (.ridgeProducerWatchdog p) s)

/-! The transaction (R287 to R290). -/

/-- PASSWORD_HOLD_EXPIRY (R287): 10 s. -/
def passwordHoldExpiry : Prop := ∀ (s : State),
  (∀ x t, s.dev.safety.held = some (x, t) → Gives .passwordHoldExpiry s (fun e => e.safety.held = none ∧ t + sec 10 ≤ e.time.now))
  ∧ (s.dev.safety.held = none → Rests .passwordHoldExpiry s)

/-- LOCKOUT_EXPIRY (R290): 10 min. -/
def lockoutExpiry : Prop := ∀ (s : State),
  (∀ t, s.dev.safety.lockedOut = some t → Gives .lockoutExpiry s (fun e => e.safety.lockedOut = none ∧ t + sec 600 ≤ e.time.now))
  ∧ (s.dev.safety.lockedOut = none → Rests .lockoutExpiry s)

/-- TRANSACTION_TIMEOUT (R288): 30 min without a SAFE write; the running configuration stays. -/
def transactionTimeout : Prop := ∀ (s : State),
  (∀ t, s.dev.safety.trans = some t → t.committing = false → Gives .transactionTimeout s (fun e => e.safety.trans = none
    ∧ t.lastWrite + sec 1800 ≤ e.time.now ∧ e.safety.logSeq = s.dev.safety.logSeq + 1
    ∧ ∀ k, k / 256 ≠ 0x4070 → getVal e k = getVal s.dev k))
  ∧ ((∀ t, s.dev.safety.trans = some t → t.committing = true) → Rests .transactionTimeout s)

end Sys2Proof.Claims
end

