-- ==== Sys2Proof/Claims/Load.lean ====
section
/-! DEFINITION. Claims about the protected load channels (chapter 10), one for each command. -/
namespace Sys2Proof.Claims
open Machine

/-- A channel has followed the command that was in force (Table 10.3): an off channel goes on only below the retry level, a tripped one after
its retry delay too, with one retry less; a channel whose command ends goes off, and a locked-out, latched or faulted channel stays. One that
waits for the next load command transfer stays too (R305, R315). -/
def followed (n : Fin 64) (d e : Dev) : Prop :=
  let c := d.load.chan[n]
  let x := commandInForce n d
  let want := asksOn n x
  let waits := c.await && decide (3 ≤ x.2.2)
  let cool : Prop := c.heat < retryLevel d
  let again : Prop := waits = false ∧ want = true ∧ cool ∧ c.trippedAt + ms (nat d 0x4400 0x0A) ≤ d.time.now
  (e.load.chan[n]).state = (if waits then c.state else match c.state with
    | .off => if want = true ∧ cool then .on else .off
    | .on => if want then .on else .off
    | .tripped => if again then .on else if want then .tripped else .off
    | y => y) ∧ (e.load.chan[n]).heat = c.heat
  ∧ (e.load.chan[n]).retries = (if c.state = .tripped ∧ again then c.retries - 1 else c.retries)

/-- A channel that was on has tripped (Table 10.3). -/
def tripped (n : Fin 64) (cause : Nat) (d e : Dev) : Prop :=
  (e.load.chan[n]).state = (if 0 < (d.load.chan[n]).retries then .tripped else .lockedOut) ∧ (e.load.chan[n]).cause = cause
    ∧ (e.load.chan[n]).trippedAt = e.time.now ∧ num e 0x4428 (n.val + 1) = num d 0x4428 (n.val + 1) + 1

/-! Commands (R298, R314 to R317, R480). -/

/-- LOAD_COMMAND_TRANSFER (R298, R316): every 1 ms each channel takes the composed command and follows it. -/
def loadCommandTransfer : Prop := ∀ (s : State),
  (up 1 s.dev = true → up 4 s.dev = true → Gives .loadCommandTransfer s (fun e => e.time.now = dueAt s.dev.time.ticked[(5 : Fin 9)] (ms 1) s.dev
    ∧ isStale .loadCommand e = false ∧ e.load.orphan = false ∧ ∀ n : Fin 64,
      ((e.load.chan[n]).cmd, (e.load.chan[n]).duty, (e.load.chan[n]).rule) = composeCommand n { s.dev with time := e.time }
      ∧ (e.load.chan[n]).await = false
      ∧ ((e.load.chan[n]).state = .on → (s.dev.load.chan[n]).state = .on ∨ (s.dev.load.chan[n]).state = .off
          ∨ (s.dev.load.chan[n]).state = .tripped)))
  ∧ (up 1 s.dev = false ∨ up 4 s.dev = false → Rests .loadCommandTransfer s)

/-- LOAD_COMMAND_STALE (R316): the orphan timer starts; every channel holds. -/
def loadCommandStale : Prop := ∀ (s : State),
  (isStale .loadCommand s.dev = false → up 4 s.dev = true → Gives .loadCommandStale s (fun e => isStale .loadCommand e = true
    ∧ e.load.orphanAt = some e.time.now ∧ e.load.chan = s.dev.load.chan))
  ∧ (isStale .loadCommand s.dev = true ∨ up 4 s.dev = false → Rests .loadCommandStale s)

/-- ORPHAN_TIMEOUT (R316, R462): counted, and every channel follows its orphan action; not while an FX activation restarts. -/
def orphanTimeout : Prop := ∀ (s : State),
  let due := isStale .loadCommand s.dev && !s.dev.load.orphan && up 4 s.dev && !fxStopped s.dev
  (∀ t, due = true → s.dev.load.orphanAt = some t → Gives .orphanTimeout s (fun e => e.load.orphan = true
    ∧ num e 0x4400 0x0D = num s.dev 0x4400 0x0D + 1 ∧ t + ms (nat s.dev 0x4400 0x08) ≤ e.time.now
    ∧ ∀ n : Fin 64, followed n (onLoad (fun l => { l with orphan := true }) (reach (t + ms (nat s.dev 0x4400 0x08)) s.dev)) e))
  ∧ (due = false ∨ s.dev.load.orphanAt = none → Rests .orphanTimeout s)

/-- LIMP_N_CHANGE (R315, Table 16.7): honoured from 20 ms after PD4 was enabled. A mapped channel under host control waits for the next load
command transfer when LIMP_N is released; every other channel follows its command. -/
def limpNChange : Prop := ∀ (x : Bool) (s : State),
  let freed (n : Fin 64) : Bool := s.dev.load.limp && !x && (mappedPin n s.dev).isSome && (s.dev.load.chan[n]).rule == 5
  Gives (.limpNChange x) s (fun e => e.load.limp = x
  ∧ (up 4 s.dev = true → s.dev.load.limpFrom ≤ e.time.now ∧ ∀ n : Fin 64,
      (freed n = true → (e.load.chan[n]).await = true
        ∧ (isStale .loadCommand s.dev = false → (e.load.chan[n]).state = (s.dev.load.chan[n]).state))
      ∧ (freed n = false → followed n (onLoad (fun l => { l with limp := x }) (reach s.dev.load.limpFrom s.dev)) e))
  ∧ (up 4 s.dev = false → e.load.chan = s.dev.load.chan))

/-- LH_IN_CHANGE (R314, R315). -/
def lhInChange : Prop := ∀ (p : Fin 8) (x : Bool) (s : State), Gives (.lhInChange p x) s (fun e => e.load.pins[p] = x
  ∧ (up 4 s.dev = true → ∀ n : Fin 64, followed n (onLoad (fun l => { l with pins := upd l.pins p (fun _ => x) }) s.dev) e)
  ∧ (up 4 s.dev = false → e.load.chan = s.dev.load.chan))

/-- LOAD_SUPPLY_LOW (R480): every output is off, and the channels keep what they hold; PD4 is off where FIELD_24V does not feed it either. -/
def loadSupplyLow : Prop := ∀ (s : State),
  (s.dev.load.supplyLow = false → Gives .loadSupplyLow s (fun e => e.load.supplyLow = true
    ∧ (∀ n : Fin 64, e.load.chan[n] = { s.dev.load.chan[n] with drive := 0 })
    ∧ e.isl[(4 : Fin 8)] = (if fieldFeeds s.dev then s.dev.isl[(4 : Fin 8)] else .off) ∧ ∀ n : Fin 64, outputOn n e = false))
  ∧ (s.dev.load.supplyLow = true → Rests .loadSupplyLow s)

/-- LOAD_SUPPLY_RETURN (R480): the channels follow their commands; a PD4 that was off is powered up. -/
def loadSupplyReturn : Prop := ∀ (s : State), Gives .loadSupplyReturn s (fun e => e.load.supplyLow = false
  ∧ (s.dev.isl[(4 : Fin 8)] ≠ .off → ∀ n : Fin 64, followed n (onLoad (fun l => { l with supplyLow := false }) s.dev) e)
  ∧ (s.dev.isl[(4 : Fin 8)] = .off → up 4 e = true ∧ e.load.limpFrom = e.time.now + ms 20))

/-! Protection (R301 to R308). -/

/-- The channels with the currents and junctions of a millisecond, at its end. -/
def sensed (current junction : Vector Int 64) (d : Dev) : Dev :=
  onLoad (fun l => { l with chan := tab (fun n => { l.chan[n] with current := current[n], junction := junction[n] }) })
    (reach (nextMultiple (ms 1) d) d)

/-- WIRE_MODEL_UPDATE (R301, R302): every 1 ms each wire's heat state moves one step; a channel that is on at 1.0 trips. The heat goes
on through a reset that keeps the island powered. -/
def wireModelUpdate : Prop := ∀ (current junction : Vector Int 64) (s : State),
  let d := sensed current junction s.dev
  (up 4 s.dev = true → Gives (.wireModelUpdate current junction) s (fun e => e.time.now = nextMultiple (ms 1) s.dev
    ∧ isStale .loadStatus e = false ∧ ∀ n : Fin 64, (e.load.chan[n]).heat = heatStep n d ∧ (e.load.chan[n]).current = current[n]
      ∧ (e.load.chan[n]).junction = junction[n]
      ∧ ((s.dev.load.chan[n]).state = .on → 16777216 ≤ heatStep n d → tripped n 1 s.dev e)))
  ∧ (up 4 s.dev = false → s.dev.isl[(4 : Fin 8)] ≠ .off → Gives (.wireModelUpdate current junction) s (fun e =>
    e.time.now = nextMultiple (ms 1) s.dev ∧ ∀ n : Fin 64, (e.load.chan[n]).heat = heatStep n (reach (nextMultiple (ms 1) s.dev) s.dev)
      ∧ (e.load.chan[n]).state = (s.dev.load.chan[n]).state))
  ∧ (s.dev.isl[(4 : Fin 8)] = .off → Rests (.wireModelUpdate current junction) s)

/-- SHORT_CIRCUIT_TRIP (R303): cause 2. -/
def shortCircuitTrip : Prop := ∀ (n : Fin 64) (s : State),
  (up 4 s.dev = true → (s.dev.load.chan[n]).state = .on → Gives (.shortCircuitTrip n) s (tripped n 2 s.dev))
  ∧ (up 4 s.dev = false ∨ (s.dev.load.chan[n]).state ≠ .on → Rests (.shortCircuitTrip n) s)

/-- RETRY_DELAY_EXPIRY (Table 10.3): one retry is used where the wire has cooled and the command still asks the channel on. -/
def retryDelayExpiry : Prop := ∀ (n : Fin 64) (s : State),
  let d := s.dev
  let c := d.load.chan[n]
  let d' := reach (c.trippedAt + ms (nat d 0x4400 0x0A)) d
  (c.state = .tripped → Gives (.retryDelayExpiry n) s (fun e => c.trippedAt + ms (nat d 0x4400 0x0A) ≤ e.time.now ∧ followed n d' e
    ∧ ((e.load.chan[n]).state = .on → (e.load.chan[n]).onFrom = some e.time.now)))
  ∧ (c.state ≠ .tripped → Rests (.retryDelayExpiry n) s)

/-- RETRY_RESET_EXPIRY (R304): the retries are restored, and the timer runs again. -/
def retryResetExpiry : Prop := ∀ (n : Fin 64) (s : State),
  let c := s.dev.load.chan[n]
  (∀ t, c.onFrom = some t → Gives (.retryResetExpiry n) s (fun e => (e.load.chan[n]).retries = nat s.dev 0x4414 (n.val + 1)
    ∧ (e.load.chan[n]).ran = 0 ∧ (e.load.chan[n]).onFrom = some e.time.now ∧ t + sec (nat s.dev 0x4400 0x0B) - c.ran ≤ e.time.now))
  ∧ (c.onFrom = none → Rests (.retryResetExpiry n) s)

/-- JUNCTION_LATCH (R305): from 145.0 °C the channel latches off with cause 3. -/
def junctionLatch : Prop := ∀ (n : Fin 64) (t : Int) (s : State),
  let c := s.dev.load.chan[n]
  (c.state ≠ .latched → 1450 ≤ t → Gives (.junctionLatch n t) s (fun e => (e.load.chan[n]).state = .latched
    ∧ (e.load.chan[n]).cause = 3 ∧ (e.load.chan[n]).junction = t))
  ∧ (c.state = .latched ∨ t < 1450 → Gives (.junctionLatch n t) s (fun e => e.load.chan[n] = { c with junction := t }))

/-- CLAMP_EVENT (R308): the third in a row is a fault, cause 4, of a channel that is on or off. -/
def clampEvent : Prop := ∀ (n : Fin 64) (s : State),
  let c := s.dev.load.chan[n]
  (2 ≤ c.clamps → c.state = .on ∨ c.state = .off → Gives (.clampEvent n) s (fun e => (e.load.chan[n]).state = .fault
    ∧ (e.load.chan[n]).cause = 4))
  ∧ (c.clamps < 2 ∨ (c.state ≠ .on ∧ c.state ≠ .off) → Gives (.clampEvent n) s (fun e =>
    e.load.chan[n] = { c with clamps := min 3 (c.clamps + 1), clampLast := true }))

/-- OPEN_LOAD_DETECTION (Table 10.7): 100 ms. -/
def openLoadDetection : Prop := ∀ (n : Fin 64) (s : State),
  let c := s.dev.load.chan[n]
  (∀ t, c.openSince = some t → Gives (.openLoadDetection n) s (fun e => e.load.chan[n] = { c with openLoad := true } ∧ t + ms 100 ≤ e.time.now))
  ∧ (c.openSince = none → Rests (.openLoadDetection n) s)

/-! Current sense and dissipation (R297, R310 to R312). -/

/-- SENSE_SCAN_STEP (R309, R310, R312): every 62.5 µs the selected channel of each group is read from its group's pin, by its typical ratio. -/
def senseScanStep : Prop := ∀ (r : Vector Nat 4) (s : State),
  let f := nat s.dev 0x4400 0x05
  let m := if f = 0xFF then s.dev.load.select else f
  (up 4 s.dev = true → extselHonoured s.dev = false → m < 16 → Gives (.senseScanStep r) s (fun e =>
    e.time.now = nextMultiple 6250 s.dev ∧ e.load.select = (m + 1) % 16
      ∧ ∀ (g : Fin 4) (n : Fin 64), n.val = 16 * g.val + m → (e.load.chan[n]).reading = some (scaleReading n r[g])))
  ∧ (up 4 s.dev = false ∨ extselHonoured s.dev = true → Rests (.senseScanStep r) s)

/-- EXTSEL_CHANGE (R311): an external selection that is allowed leaves no reading; one that is not is refused, and the readings stay. -/
def extselChange : Prop := ∀ (high : Bool) (s : State),
  (high = true → on s.dev 0x4400 0x04 = true → Gives (.extselChange high) s (fun e => e.load.extsel = true
    ∧ ∀ n : Fin 64, (e.load.chan[n]).reading = none))
  ∧ (high = true → on s.dev 0x4400 0x04 = false → Gives (.extselChange high) s (fun e => e.load.extsel = true
    ∧ e.load.chan = s.dev.load.chan))
  ∧ (high = false → Gives (.extselChange high) s (fun e => e.load.extsel = false))

/-- The dissipation of every channel whose output is on, from its current and its on resistance (R297). -/
def dissipation (d : Dev) : Nat :=
  (all 64).foldl (fun a n =>
    if outputOn n d then a + ((d.load.chan[n]).current.natAbs) ^ 2 * Config.onResistance n.val (d.load.chan[n]).junction else a) 0

/-- DISSIPATION_ESTIMATE (R297): every 1 ms, in 0.1 W; 30 W or less ends the time above it. -/
def dissipationEstimate : Prop := ∀ (s : State),
  (up 4 s.dev = true → Gives .dissipationEstimate s (fun e => e.time.now = nextMultiple (ms 1) s.dev
    ∧ num e 0x4400 0x02 = (min 65535 (dissipation s.dev / 100000000000) : Nat)
    ∧ (dissipation s.dev ≤ 30000000000000 → e.load.hotSince = none ∧ e.load.hotTold = false)
    ∧ (30000000000000 < dissipation s.dev → e.load.hotSince = some (s.dev.load.hotSince.getD e.time.now)
        ∧ (s.dev.load.hotSince.getD e.time.now + sec 10 ≤ e.time.now → e.load.hotTold = true))))
  ∧ (up 4 s.dev = false → Rests .dissipationEstimate s)

end Sys2Proof.Claims
end

