-- ==== Sys2Proof/Claims/Line.lean ====
section
/-! DEFINITION. Claims about the Eaveline link (chapter 13) and the DMA engine (chapter 14), one for each command. -/
namespace Sys2Proof.Claims
open Machine

/-! Cycles (R398, R399, R412, R416). -/

/-- Whether the line island sends cycles as master (R416). -/
def mayMaster (d : Dev) : Bool := up 5 d && on d 0x1300 0x01 && holds d

/-- What a cycle of the master leaves: the next millisecond's number, and a header that says what is in force. -/
def cycleSent (d e : Dev) : Prop := e.eave.master = true ∧ e.time.now = dueAt d.time.ticked[(3 : Fin 9)] (ms 1) d
  ∧ e.eave.cycle = siteTime e / ms 1 % 2 ^ 32 ∧ e.eave.cycleAt = e.time.now ∧ num e 0x1300 0x03 = e.eave.cycle
  ∧ num e 0x1300 0x05 = e.eave.admitted.toNat ∧ e.eave.header = headerBytes e

/-- EAVELINE_CYCLE (R398). -/
def eavelineCycle : Prop := ∀ (s : State),
  (mayMaster s.dev = true → Gives .eavelineCycle s (fun e => cycleSent s.dev e ∧ isStale .lineLink e = false))
  ∧ (mayMaster s.dev = false → Gives .eavelineCycle s (fun e => e.eave = { s.dev.eave with master := false }))

/-- EAVELINE_MASTER_TAKE (R416): a line island that has not been master starts every admitted node in robust mode. -/
def eavelineMasterTake : Prop := ∀ (s : State),
  (mayMaster s.dev = true → s.dev.eave.master = false → Gives .eavelineMasterTake s (fun e => cycleSent s.dev e
    ∧ e.eave.shared = none ∧ e.eave.robust = e.eave.admitted
    ∧ e.eave.admitted = (match s.dev.eave.shared with | some x => x.admitted | none => s.dev.eave.admitted)))
  ∧ (mayMaster s.dev = false ∨ s.dev.eave.master = true → Rests .eavelineMasterTake s)

/-- CYCLE_HEADER (R399, R412): a node transmits in the cycle only where it decodes the header, is admitted in it, and knows its layout. -/
def cycleHeader : Prop := ∀ (n : Fin 16) (b : List Byte) (crc : W32) (s : State),
  let x := s.dev.eave.side[n]
  let good := b.length == 20 && crc == crc32 b
  let ser := BitVec.ofNat 32 (fieldAt b 16 4)
  let may := bit (fieldAt b 10 2) n.val && (ser == x.master || !x.admitted || fieldAt b 4 1 == x.version)
  (good = true → Gives (.cycleHeader n b crc) s (fun e => (e.eave.side[n]).transmits = may ∧ (e.eave.side[n]).admitted = may
    ∧ (e.eave.side[n]).master = ser ∧ (e.eave.side[n]).preambleAt = s.dev.time.now))
  ∧ (good = false → Gives (.cycleHeader n b crc) s (fun e =>
    e.eave.side[n] = { x with transmits := false, preambleAt := s.dev.time.now }))

/-- NODE_PREAMBLE_LOSS (R412): 20 cycles. -/
def nodePreambleLoss : Prop := ∀ (n : Fin 16) (s : State),
  let x := s.dev.eave.side[n]
  (x.admitted = true → Gives (.nodePreambleLoss n) s (fun e => e.eave.side[n] = { x with admitted := false, transmits := false }
    ∧ x.preambleAt + ms 20 ≤ e.time.now))
  ∧ (x.admitted = false → Rests (.nodePreambleLoss n) s)

/-! Blocks and messages (R400 to R406). -/

/-- CONTROL_BLOCK (R401, R406): the scheduled uplink block of an admitted node is taken once a cycle; a node that has decoded the cycle's header
takes a downlink one; a bad one is nothing. -/
def controlBlock : Prop := ∀ (n : Fin 16) (b : EaveBlock) (s : State),
  let x := s.dev.eave.node[n]
  let c := b.content
  let good := c.length == 26 && b.crc == crc32 c && fieldAt c 0 1 / 16 == n.val
  let kind := fieldAt c 0 1 % 16
  (good = true → b.up = true → isMaster s.dev = true → admitted n s.dev = true → x.ctrlDue = true → x.ctrlGood = false → kind = 1 →
    Gives (.controlBlock n b) s (fun e => (e.eave.node[n]).ctrlGood = true ∧ (e.eave.node[n]).echoed = heldSince x.echoed (fieldAt c 1 1) s.dev.eave.cycle
      ∧ (e.eave.node[n]).queueUnits = fieldAt c 4 1 ∧ (e.eave.node[n]).lastUp = s.dev.eave.cycle
      ∧ (e.eave.node[n]).flight = x.flight.filter (fun y => decide (s.dev.eave.cycle ≤ y.1))))
  ∧ (good = true → b.up = false → kind = 2 → (s.dev.eave.side[n]).transmits = true → Gives (.controlBlock n b) s (fun e =>
    (e.eave.side[n]).version = fieldAt c 1 1 ∧ (e.eave.side[n]).imdEnable = bit (fieldAt c 4 1) 0
      ∧ (e.eave.side[n]).expected = fieldAt c 5 2 ∧ (e.eave.side[n]).shown = fieldAt c 7 1))
  ∧ (good = false → Rests (.controlBlock n b) s)

/-- DATA_BLOCK (R400, R402, R405): an uplink block from an admitted node is a good or a bad one of its cycle; a good Ridge block is relayed to
the safety island. -/
def dataBlock : Prop := ∀ (n : Fin 16) (b : EaveBlock) (s : State),
  let h := fieldAt b.content 0 4
  let good := b.crc == crc32 b.content && b.content.length == upContent n s.dev && decide (field h 0 6 + 4 ≤ b.content.length)
    && field h 28 4 == n.val
  let whole := b.crc == crc32 b.content && b.content.length == 26
  let here := b.up && isMaster s.dev && admitted n s.dev
  (here = true → Gives (.dataBlock n none b) s (fun e => (e.eave.node[n]).dataSeen = (s.dev.eave.node[n]).dataSeen ++ [good]))
  ∧ (∀ w, here = true → Gives (.dataBlock n (some w) b) s (fun e =>
      (e.eave.node[n]).ridgeSeen = (s.dev.eave.node[n]).ridgeSeen ++ [whole]))
  ∧ (∀ (w : Fin 2) i, here = true → whole = true → field h 28 4 = n.val → field h 26 2 = 0 → 14 ≤ field h 0 6 → field h 0 6 ≤ 22 →
      (ridgeSlots s.dev)[w.val]? = some i → ridgeNode i s.dev = n.val →
    Gives (.dataBlock n (some w) b) s (fun e => ∃ x, lastOf .hf 0 e = some x ∧ x.type = 0x03 ∧ x.key = i.val
      ∧ x.body.drop 8 = (b.content.drop 4).take (field h 0 6)))
  ∧ (∀ r, here = false → Rests (.dataBlock n r b) s)

/-- MESSAGE_REASSEMBLY_TIMEOUT (R402): 100 cycles; counted. -/
def messageReassemblyTimeout : Prop := ∀ (n : Fin 16) (s : State),
  let x := (s.dev.eave.node[n]).inbox.find? (fun m => !m.dead && (wholeMsg m).isNone)
  (∀ m, x = some m → Gives (.messageReassemblyTimeout n) s (fun e => m.since + ms 100 ≤ e.time.now
    ∧ num e 0x1300 0x0E = num s.dev 0x1300 0x0E + 1))
  ∧ (x = none → Rests (.messageReassemblyTimeout n) s)

/-! Modes, admission, layout (R404, R409 to R412, R416). -/

/-- ROBUST_STEP_UP (R409): a map whose capacity has not fallen is used at once in normal mode; another waits for the next layout. -/
def robustStepUp : Prop := ∀ (n : Fin 16) (snr : List Int) (s : State),
  let d := s.dev
  let x := d.eave.node[n]
  let due := isMaster d && admitted n d && isRobust n d && !x.stepWaits && decide (stepUpCount n d ≤ x.goodRun)
  let new := estimateMap snr d.eave.margin
  let old := mapOf true n d
  (due = true → mapCapacity old ≤ mapCapacity new → 0 < mapCapacity old → Gives (.robustStepUp n snr) s (fun e =>
    isRobust n e = false ∧ (e.eave.node[n]).steppedUp = some d.time.now ∧ num e (nodeIdx n) 0x03 = 2))
  ∧ (due = true → mapCapacity new < mapCapacity old ∨ mapCapacity old = 0 → Gives (.robustStepUp n snr) s (fun e =>
    isRobust n e = true ∧ (e.eave.node[n]).stepWaits = true ∧ (e.eave.node[n]).maps[(1 : Fin 2)] = new ∧ e.eave.relayout = true))
  ∧ (due = false → Rests (.robustStepUp n snr) s)

/-- STEP_UP_COUNT_RESET (R409): 60 s without a step-down, and the count in force is the configured one again. -/
def stepUpCountReset : Prop := ∀ (n : Fin 16) (s : State),
  (∀ t, (s.dev.eave.node[n]).steppedDown = some t → Gives (.stepUpCountReset n) s (fun e => (e.eave.node[n]).steppedDown = none
    ∧ (e.eave.node[n]).factor = 1 ∧ t + sec 60 ≤ e.time.now))
  ∧ ((s.dev.eave.node[n]).steppedDown = none → Rests (.stepUpCountReset n) s)

/-- LAYOUT_SWITCH (R404, R411, R417): from the switch cycle on the new layout is in force, with the attenuation and SNR margin of the entries; a
node stays admitted that has held it for two cycles and is not to be removed, and the node being admitted joins where it has. -/
def layoutSwitch : Prop := ∀ (s : State),
  let d := s.dev
  let since (l : Layout) (c : Nat) : Nat := (l.switchAt + 2 ^ 32 - c) % 2 ^ 32
  let held (l : Layout) (n : Fin 16) : Bool := match (d.eave.node[n]).echoed with
    | some (v, c) => v == l.version && decide (2 ≤ since l c ∧ since l c < 2 ^ 31)
    | none => false
  let reached (l : Layout) : Prop := (d.eave.cycle + 2 ^ 32 - l.switchAt) % 2 ^ 32 < 2 ^ 31
  (∀ l, d.eave.pending = some l → isMaster d = true → reached l → Gives .layoutSwitch s (fun e => e.eave.layout = l
    ∧ e.eave.pending = none ∧ e.eave.admitting = none ∧ e.eave.remove = 0 ∧ num e 0x1300 0x04 = l.version
    ∧ e.eave.attenuation = nat d 0x1300 0x08 ∧ e.eave.margin = num d 0x1300 0x09
    ∧ ∀ n : Fin 16, admitted n e = (held l n && ((admitted n d && !d.eave.remove.getLsbD n.val) || d.eave.admitting == some n))))
  ∧ ((∀ l, d.eave.pending = some l → isMaster d = false ∨ ¬ reached l) → Rests .layoutSwitch s)

/-- ADMISSION_ANSWER (R411): the node offered is taken up where the configured serial is open or its own, and refused otherwise; then it
acknowledges the grant and the four fragments of the layout table. -/
def admissionAnswer : Prop := ∀ (n : Fin 16) (b : EaveBlock) (s : State),
  let d := s.dev
  let good := b.up && b.content.length == 26 && b.crc == crc32 b.content && fieldAt b.content 0 1 == n.val * 16 + 3
  let ser := fieldAt b.content 1 8
  let want := nat d (nodeIdx n) 0x01
  let here : Prop := isMaster d = true ∧ good = true ∧ d.eave.offer = some n
  (here → d.eave.admitting ≠ some n → admitted n d = false → want = 0 ∨ want = ser → Gives (.admissionAnswer n b) s (fun e =>
    e.eave.admitting = some n ∧ num e (nodeIdx n) 0x03 = 1 ∧ num e (nodeIdx n) 0x04 = ser ∧ (e.eave.node[n]).echoed = none))
  ∧ (here → d.eave.admitting ≠ some n → admitted n d = true ∨ (want ≠ 0 ∧ want ≠ ser) → Gives (.admissionAnswer n b) s (fun e =>
    (e.eave.node[n]).refusedAt = some d.time.now ∧ e.eave.admitting = d.eave.admitting ∧ e.eave.admitted = d.eave.admitted))
  ∧ (here → d.eave.admitting = some n → d.eave.admitDown ≠ [] → Gives (.admissionAnswer n b) s (fun e =>
    e.eave.admitStep = d.eave.admitStep + 1 ∧ e.eave.admitDown = []
      ∧ (d.eave.admitStep = 4 → (e.eave.node[n]).echoed = d.eave.pending.map (fun l => (l.version, d.eave.cycle)))))
  ∧ (here → d.eave.admitting = some n → d.eave.admitDown = [] → Rests (.admissionAnswer n b) s)
  ∧ (¬ here → Rests (.admissionAnswer n b) s)

/-- NODE_REFUSED_RETRY (R411): 10 s. -/
def nodeRefusedRetry : Prop := ∀ (n : Fin 16) (s : State),
  let x := s.dev.eave.node[n]
  (∀ t, x.refusedAt = some t → Gives (.nodeRefusedRetry n) s (fun e =>
    e.eave.node[n] = { x with refusedAt := none } ∧ t + sec 10 ≤ e.time.now))
  ∧ (x.refusedAt = none → Rests (.nodeRefusedRetry n) s)

/-- NODE_LOST (R412): 50 cycles without a control block. -/
def nodeLost : Prop := ∀ (n : Fin 16) (s : State),
  let lost := isMaster s.dev && admitted n s.dev && decide (50 ≤ (s.dev.eave.node[n]).missRun)
  (lost = true → Gives (.nodeLost n) s (fun e => admitted n e = false ∧ isRobust n e = false ∧ e.eave.relayout = true
    ∧ num e (nodeIdx n) 0x03 = 4 ∧ ∀ k : Fin 16, k ≠ n → admitted k e = admitted k s.dev))
  ∧ (lost = false → Rests (.nodeLost n) s)

/-- EAVELINE_STATE_SYNC (R416). -/
def eavelineStateSync : Prop := ∀ (x : Option EaveSync) (s : State),
  (isMaster s.dev = true → x = none → Gives (.eavelineStateSync x) s (fun e => e.eave.shared = some (eaveShared s.dev)))
  ∧ (∀ y, isMaster s.dev = false → x = some y → Gives (.eavelineStateSync x) s (fun e => e.eave.shared = some y))
  ∧ (isMaster s.dev = x.isSome → Rests (.eavelineStateSync x) s)

/-! Mains phase (R414, R415). -/

/-- MAINS_REF_CROSSING (R414): stamped to 1 µs; over 50 periods the frequency is known, in 0.01 Hz, and 0 outside 45 Hz to 65 Hz. -/
def mainsRefCrossing : Prop := ∀ (at_ : Nat) (s : State),
  let t := atSite (at_ / 100 * 100 : Nat) s.dev
  let l := (t :: s.dev.eave.crossings).take 51
  (up 5 s.dev = true → Gives (.mainsRefCrossing at_) s (fun e => e.eave.crossings = l ∧ atSite at_ s.dev ≤ e.time.now
    ∧ ∀ z, l[50]? = some z → let f := (divRound (5000 * sec 1 : Nat) (t - z)).toNat
        num e 0x1300 0x0B = (if 4500 ≤ f ∧ f ≤ 6500 then f else 0 : Nat)))
  ∧ (up 5 s.dev = false → Gives (.mainsRefCrossing at_) s (fun e => e.eave = s.dev.eave))

/-- The instant of a reported crossing (R414): a cycle of the last 2^32 and an offset of 1 µs. -/
def crossingAt (cycle offset : Nat) (d : Dev) : Int :=
  (d.eave.cycleAt : Int) - ((d.eave.cycle + 2 ^ 32 - cycle) % 2 ^ 32 * ms 1 : Nat) + (offset * 100 : Nat)

/-- ZERO_CROSSING_REPORT (R414, R415): the angle of a reported crossing and its classification, fifty times alike before it counts. Stated
for a report of one crossing. -/
def zeroCrossingReport : Prop := ∀ (n : Fin 16) (r : List Byte) (s : State),
  let d := s.dev
  let x := d.eave.node[n]
  let here := isMaster d && admitted n d
  (∀ a, here = true → r.length = 8 → fieldAt r 0 1 = 1 → phaseAngle (crossingAt (fieldAt r 2 4) (fieldAt r 6 2) d) d = some a →
    Gives (.zeroCrossingReport n r) s (fun e => num e (nodeIdx n) 0x07 = a ∧ (e.eave.node[n]).phase = classify a
      ∧ (e.eave.node[n]).phaseRun = (if x.phase = classify a then min 50 (x.phaseRun + 1) else 1)
      ∧ ((e.eave.node[n]).phaseRun = 50 → num e (nodeIdx n) 0x06 = classify a)))
  ∧ (here = false → Rests (.zeroCrossingReport n r) s)

/-! DMA (R422 to R426). -/

/-- DMA_DESCRIPTOR_END (R420 to R425): the engine has served the running channels until this one's transfer is moved or has met a bus error;
its units are counted, and the channel stops where asked, goes on along its chain, or ends. -/
def dmaDescriptorEnd : Prop := ∀ (c : Fin 16) (s : State),
  let d := s.dev
  let h := d.dma.chan[c]
  let m := currentMove c d
  let r := runTransfer c d
  (h.state = .running → c.val ≤ 12 → Gives (.dmaDescriptorEnd c) s (fun e => e.dma.mem = r.dma.mem
    ∧ num e 0x1800 0x01 = num d 0x1800 0x01 + (r.dma.chan[c]).moved
    ∧ (h.current = none → num e (0x1810 + c.val) 0x09 = if moveCause m ≠ 0 then moveCause m else (r.dma.chan[c]).cause)
    ∧ (h.stopAsked = true → (e.dma.chan[c]).state = .stopped)
    ∧ (h.stopAsked = false → m.chain = true → (e.dma.chan[c]).current = some (Fin.ofNat 256 m.next)
        ∧ ((e.dma.chan[c]).state = .running ∨ (e.dma.chan[c]).state = .waiting))
    ∧ (h.stopAsked = false → m.chain = false → (e.dma.chan[c]).state = .ended ∧ (e.dma.chan[c]).current = none)))
  ∧ (h.state ≠ .running ∨ 12 < c.val → Rests (.dmaDescriptorEnd c) s)

/-- R420, R425: in a rotation a running host channel writes its next unit where its transfer says; one that meets a bus error is left there. -/
def dmaServe : Prop := ∀ (c : Fin 16) (s : State),
  let d := s.dev
  let h := d.dma.chan[c]
  let m := currentMove c d
  h.state = .running → c.val ≤ 12 → h.cause = 0 → moveCause m = 0 → h.moved < m.count →
    (∀ a w, unitOf m c d h.moved = .ok (a, w) → (serveUnit c d).dma.mem = putUnit a w d.dma.mem
      ∧ ((serveUnit c d).dma.chan[c]).moved = h.moved + 1)
    ∧ (∀ n, unitOf m c d h.moved = .error n → (serveUnit c d).dma.mem = d.dma.mem ∧ ((serveUnit c d).dma.chan[c]).cause = n)

end Sys2Proof.Claims
end

