-- ==== Sys2Proof/Claims/Server.lean ====
section
/-! DEFINITION. Claims about the services of the dictionary server (chapter 12), one for each command: what a new request of an open
session does and how it is answered. -/
namespace Sys2Proof.Claims
open Machine

/-- A command is a new request of an open session at the server, in the session's slot, with no more data than its transport carries. -/
def Asks (c : Instr) (d : Dev) (q : Asked) (n : Fin 6) : Prop :=
  askedBy c = some q ∧ q.port = false ∧ newRequest q d = some n ∧ q.ask.data.length ≤ largestData q.ask.conn

/-- A command has a request of a service done, at the server with no more data than its transport carries, or at the field-side port. -/
def Does (c : Instr) (d : Dev) (service : Nat) (h : Served) : Prop :=
  served c d = some h ∧ h.msg.service = service ∧ (h.port = false → h.msg.data.length ≤ largestOn h.can)

/-- A request that is done is answered: from the port by the last response that waits for lane FH, else straight to its session (R29,
R365). -/
def Answered (h : Served) (r : Answer) (e : Dev) : Prop :=
  if h.port then ∃ m, lastOf .fh 2 e = some m ∧ m.type = 0x06 ∧ m.session = h.msg.session ∧ m.tag = h.msg.tag
    ∧ m.body = dictBytes (answerMsg h.msg r)
  else (e.site.sessions[h.slot]).reply = some (answerMsg h.msg r)

/-- R18, R29, R369: a request for an entry that the field side holds, or for a group of its owner table, goes into lane HF with its
session and tag, its answer outstanding; nothing else of it happens yet. -/
def requestsCross : Prop := ∀ (c : Instr) (q : Asked) (n : Fin 6) (s : State), Asks c s.dev q n → crosses q.msg s.dev = true →
  Gives c s (fun e => lastOf .hf 2 e = some (tenonBytes 0x05 q.msg.session q.msg.tag (targetIsland q.msg) 0 (dictBytes q.msg) s.dev)
    ∧ (e.site.sessions[n]).outstanding = (s.dev.site.sessions[n]).outstanding ++ [q.msg.tag]
    ∧ (e.site.sessions[n]).prev = some (q.msg, s.dev.time.now) ∧ (e.site.sessions[n]).transfer = (s.dev.site.sessions[n]).transfer
    ∧ e.site.owners = s.dev.site.owners ∧ Within [.site, .barrier] [] s.dev e)

/-! Sessions (R374, R377). -/

/-- CLOSE_SESSION (R377, R381): answered, then the session ends with its subscriptions and its transfer; the field side is told, or will be
once the barrier is there again. -/
def closeSession : Prop := ∀ (a : Ask) (s : State) (q : Asked) (n : Fin 6), Asks (.closeSession a) s.dev q n →
  Gives (.closeSession a) s (fun e => (e.site.sessions[n]).conn = none ∧ (e.site.sessions[n]).transfer = none
    ∧ (e.site.sessions[n]).reply = some (replyMsg q.msg [])
    ∧ (∀ i : Fin 16, ∀ x, e.site.subs[i] = some x → x.session ≠ n.val + 1)
    ∧ e.site.owners[(6 : Fin 60)] ≠ n.val + 1
    ∧ (barrierLost s.dev = true → e.site.unsentNotices = s.dev.site.unsentNotices ++ [(n, false)])
    ∧ (barrierLost s.dev = false → ∃ m, lastOf .hf 1 e = some m ∧ m.type = 0x07 ∧ m.items.take 2 = [n.val + 1, 0]))

/-- KEEP_ALIVE (R377): the session's time begins anew. -/
def keepAlive : Prop := ∀ (a : Ask) (s : State) (h : Served), Does (.keepAlive a) s.dev 0x03 h →
  Gives (.keepAlive a) s (fun e => Answered h (reply []) e ∧ (e.site.sessions[h.slot]).last = s.dev.time.now
    ∧ (e.site.sessions[h.slot]).conn = some a.conn)

/-! Reads and writes (R367). -/

/-- READ (R367, R495), at the server or at the port: checks 4 and 5, then the barrier and the island, then the value. -/
def read : Prop := ∀ (c : Instr) (s : State) (h : Served), Does c s.dev 0x10 h →
  let n := h.slot
  let index := h.msg.index
  let sub := h.msg.sub
  (∀ code, findEntry index sub = .error code → Gives c s (fun e => Answered h (.error code) e))
  ∧ (∀ r, findEntry index sub = .ok r → r.acc = .wo → Gives c s (fun e => Answered h (.error (groupCode index + 3)) e))
  ∧ (∀ r, findEntry index sub = .ok r → r.acc ≠ .wo → busyElsewhere (n.val + 1) index sub h.dev = true → Gives c s
      (fun e => Answered h (.error (groupCode index + 8)) e))
  ∧ (∀ r, findEntry index sub = .ok r → r.acc ≠ .wo → busyElsewhere (n.val + 1) index sub h.dev = false → barrierLost s.dev = true →
      fieldHeld index sub = true → h.port = false → Gives c s (fun e => Answered h (.error 0x10000022) e))
  ∧ (∀ r, readGuard (n.val + 1) index sub h.dev = .ok r → (h.port = true ∨ fieldHeld index sub = false) →
      let b := valBytes r.ty (readValue index sub h.dev).1
      Gives c s (fun e => Answered h (if largestOn h.can < b.length then .error (groupCode index + 9) else reply b) e))

/-- The writes that may end the session they came in: an activation and a fall-back, which restart islands (R457, R460). -/
def restartsSite (index sub : Nat) : Bool := (index == 0x1B20 && sub == 0x01) || (0x1B10 ≤ index && index ≤ 0x1B14 && sub == 0x0B)

/-- WRITE (R367, R370, R498), at the server or at the port: a check that fails answers with its code, and a refused command shows 3; a write
that passes is answered, and where no chapter gives the write an effect of its own the value stands in its entry. -/
def write : Prop := ∀ (c : Instr) (s : State) (h : Served), Does c s.dev 0x11 h →
  let n := h.slot
  let index := h.msg.index
  let sub := h.msg.sub
  let there : Prop := h.port = true ∨ fieldHeld index sub = false
  (∀ code, findEntry index sub = .error code → Gives c s (fun e => Answered h (.error code) e))
  ∧ (∀ r code, findEntry index sub = .ok r → writeAccess (n.val + 1) index sub r h.dev = some code →
      Gives c s (fun e => Answered h (.error code) e))
  ∧ (∀ r code, findEntry index sub = .ok r → writeAccess (n.val + 1) index sub r h.dev = none → valueCheck index r h.msg.data = some code →
      Gives c s (fun e => Answered h (.error code) e))
  ∧ (∀ r code, findEntry index sub = .ok r → writeAccess (n.val + 1) index sub r h.dev = none → valueCheck index r h.msg.data = none →
      firstFailing (subjectChecks h.write r h.dev) = some code →
      Gives c s (fun e => Answered h (.error code) e ∧ (there → r.acc = .cmd → num e index sub = 3)))
  ∧ (h.taken = true → there → Gives c s (fun e => (restartsSite index sub = false → Answered h (reply []) e)
      ∧ ((∀ x, (handlerOf index sub).act h.write x = plainAct h.write x) → getVal e (key index sub) = h.write.val)))

/-! Segmented transfers (R371 to R373). -/

/-- A service is done where its entry is held: at the port, or on the host side for an entry of its own. -/
def There (h : Served) : Prop := h.port = true ∨ fieldHeld h.msg.index h.msg.sub = false

/-- READ_SEGMENTED_START (R26, R371): the value is copied for the transfer and its length answered. -/
def readSegmentedStart : Prop := ∀ (c : Instr) (s : State) (h : Served), Does c s.dev 0x12 h → There h →
  let index := h.msg.index
  let sub := h.msg.sub
  let x := h.dev.site.sessions[h.slot]
  (∀ r, readGuard (h.slot.val + 1) index sub h.dev = .ok r → segmented r.ty = false → Gives c s (fun e =>
      Answered h (.error (groupCode index + 5)) e))
  ∧ (∀ r, readGuard (h.slot.val + 1) index sub h.dev = .ok r → segmented r.ty = true → x.transfer.isSome = true → Gives c s (fun e =>
      Answered h (.error 0x11000019) e ∧ (e.site.sessions[h.slot]).transfer = x.transfer))
  ∧ (∀ r, readGuard (h.slot.val + 1) index sub h.dev = .ok r → segmented r.ty = true → x.transfer = none →
      bulkRead (key index sub) = true → 120000 < laneCommitted h.dev + transferShare → Gives c s (fun e =>
      Answered h (.error 0x10000023) e ∧ (e.site.sessions[h.slot]).transfer = none))
  ∧ (∀ r, readGuard (h.slot.val + 1) index sub h.dev = .ok r → segmented r.ty = true → x.transfer = none →
      bulkRead (key index sub) = false ∨ laneCommitted h.dev + transferShare ≤ 120000 →
      let b := valBytes r.ty (readValue index sub h.dev).1
      Gives c s (fun e => Answered h (reply (leBytes 4 b.length)) e
        ∧ (e.site.sessions[h.slot]).transfer = some ⟨false, key index sub, b.length, b, h.dev.time.now⟩))
  ∧ (∀ code, readGuard (h.slot.val + 1) index sub h.dev = .error code → Gives c s (fun e => Answered h (.error code) e
      ∧ (e.site.sessions[h.slot]).transfer = x.transfer))

/-- READ_SEGMENT (R372): the bytes from the offset, at most a segment; the transfer ends with the last. A segment out of order discards it. -/
def readSegment : Prop := ∀ (c : Instr) (s : State) (h : Served), Does c s.dev 0x13 h → There h →
  let k := key h.msg.index h.msg.sub
  let b := h.msg.data
  let x := h.dev.site.sessions[h.slot]
  let off := leNat b
  (∀ t, x.transfer = some t → t.write = false → t.key = k → b.length = 4 → off < t.total →
      let part := (t.data.drop off).take (largestSegment h.can)
      let last : Bool := decide (t.total ≤ off + part.length)
      Gives c s (fun e => Answered h (.ok (if last then 2 else 0, b ++ part)) e
        ∧ (e.site.sessions[h.slot]).transfer = if last then none else some { t with last := h.dev.time.now }))
  ∧ (∀ t, x.transfer = some t → t.write = true ∨ t.key ≠ k ∨ b.length ≠ 4 ∨ t.total ≤ off →
      Gives c s (fun e => Answered h (.error 0x11000017) e ∧ (e.site.sessions[h.slot]).transfer = none))
  ∧ (x.transfer = none → Gives c s (fun e => Answered h (.error (if x.timedOut then 0x11000018 else 0x11000017)) e
      ∧ (e.site.sessions[h.slot]).timedOut = false))

/-- WRITE_SEGMENTED_START (R371): a length outside what the entry takes, or above the storage that its target has free (a free value), is refused;
a started transfer holds nothing yet. -/
def writeSegmentedStart : Prop := ∀ (c : Instr) (s : State) (h : Served), Does c s.dev 0x14 h → There h →
  let index := h.msg.index
  let sub := h.msg.sub
  let b := h.msg.data
  let x := h.dev.site.sessions[h.slot]
  let total := leNat b
  let room := (freeNat h.dev).1
  ∀ r, findEntry index sub = .ok r → writeAccess (h.slot.val + 1) index sub r h.dev = none →
    (segmented r.ty = false ∨ b.length ≠ 4 → Gives c s (fun e => Answered h (.error (groupCode index + 5)) e))
    ∧ (segmented r.ty = true → b.length = 4 → available index sub h.dev = [] → (leaseOnly index && !holds h.dev) = false →
        (total = 0 ∨ total = 0xFFFFFFFF ∨ largestOf index sub r < total ∨ room < total → Gives c s (fun e => Answered h (.error 0x11000016) e))
        ∧ (0 < total → total ≠ 0xFFFFFFFF → total ≤ largestOf index sub r → total ≤ room → x.transfer.isSome = true → Gives c s (fun e =>
            Answered h (.error 0x11000019) e ∧ (e.site.sessions[h.slot]).transfer = x.transfer))
        ∧ (0 < total → total ≠ 0xFFFFFFFF → total ≤ largestOf index sub r → total ≤ room → x.transfer = none → Gives c s (fun e =>
            Answered h (reply []) e
              ∧ (e.site.sessions[h.slot]).transfer = some ⟨true, key index sub, total, [], h.dev.time.now⟩)))

/-- WRITE_SEGMENT (R372, R373): a segment at the offset reached is added; the last one ends the transfer, and the whole value is judged as a
write. Any other segment discards the transfer. -/
def writeSegment : Prop := ∀ (c : Instr) (s : State) (h : Served), Does c s.dev 0x15 h → There h →
  let index := h.msg.index
  let sub := h.msg.sub
  let b := h.msg.data
  let x := h.dev.site.sessions[h.slot]
  let part := b.drop 4
  let last := bit h.msg.flags 1
  (∀ t, x.transfer = some t → t.write = true → t.key = key index sub → 4 ≤ b.length → leNat (b.take 4) = t.data.length →
      t.data.length + part.length ≤ t.total → last = false → Gives c s (fun e => Answered h (reply []) e
        ∧ (e.site.sessions[h.slot]).transfer = some { t with data := t.data ++ part, last := h.dev.time.now }))
  ∧ (∀ t r code, x.transfer = some t → t.write = true → t.key = key index sub → 4 ≤ b.length →
      leNat (b.take 4) = t.data.length → t.data.length + part.length = t.total → last = true → findEntry index sub = .ok r →
      writeAccess (h.slot.val + 1) index sub r h.dev = none → valueCheck index r (t.data ++ part) = some code →
      Gives c s (fun e => Answered h (.error code) e ∧ (e.site.sessions[h.slot]).transfer = none))
  ∧ (∀ t r, x.transfer = some t → t.write = true → t.key = key index sub → 4 ≤ b.length →
      leNat (b.take 4) = t.data.length → t.data.length + part.length = t.total → last = true → findEntry index sub = .ok r →
      segmented r.ty = true → writeAccess (h.slot.val + 1) index sub r h.dev = none → valueCheck index r (t.data ++ part) = none →
      let w : WriteCall := ⟨h.slot.val + 1, index, sub, bytesVal r.ty (t.data ++ part)⟩
      firstFailing (subjectChecks w r (setTransfer h.slot none h.dev)) = none →
      Gives c s (fun e => Answered h (reply []) e
        ∧ ((∀ d, (handlerOf index sub).act w d = plainAct w d) → getVal e (key index sub) = w.val)))
  ∧ (∀ t, x.transfer = some t → t.write = false ∨ t.key ≠ key index sub ∨ b.length < 4 ∨ leNat (b.take 4) ≠ t.data.length
        ∨ t.total < t.data.length + part.length ∨ (last = true ∧ t.data.length + part.length ≠ t.total) →
      Gives c s (fun e => Answered h (.error 0x11000017) e ∧ (e.site.sessions[h.slot]).transfer = none))
  ∧ (x.transfer = none → Gives c s (fun e => Answered h (.error (if x.timedOut then 0x11000018 else 0x11000017)) e))

/-- TRANSFER_ABANDON (R372). -/
def transferAbandon : Prop := ∀ (a : Ask) (s : State) (h : Served), Does (.transferAbandon a) s.dev 0x16 h →
  Gives (.transferAbandon a) s (fun e => Answered h (reply []) e ∧ (e.site.sessions[h.slot]).transfer = none
    ∧ (e.site.sessions[h.slot]).timedOut = false)

/-! Groups (R378 to R381). -/

/-- Where a group is asked for: at the port any but 0x06, on the host side 0x06 alone (R381). -/
def groupThere (h : Served) : Bool := isGroup h.msg.index && (h.port == (h.msg.index != 6))

/-- CLAIM_GROUP (R379, R381): at the table that holds it a free group, or the session's own, becomes its own; another's stays. While the
barrier is lost the host side refuses any but group 0x06. -/
def claimGroup : Prop := ∀ (c : Instr) (s : State) (h : Served), Does c s.dev 0x20 h →
  let g := h.msg.index
  let n := h.slot.val + 1
  (groupThere h = true → fieldOwner g h.dev = 0 ∨ fieldOwner g h.dev = n → Gives c s (fun e => Answered h (reply []) e
      ∧ fieldOwner g e = n ∧ ∀ x, x ≠ g → fieldOwner x e = fieldOwner x s.dev))
  ∧ (groupThere h = true → fieldOwner g h.dev ≠ 0 → fieldOwner g h.dev ≠ n → Gives c s (fun e =>
      Answered h (.error 0x11000012) e ∧ e.site.owners = s.dev.site.owners))
  ∧ (isGroup g = false → Gives c s (fun e => Answered h (.error 0x1100001F) e ∧ e.site.owners = s.dev.site.owners))
  ∧ (isGroup g = true → g ≠ 6 → h.port = false → barrierLost s.dev = true → Gives c s (fun e => Answered h (.error 0x10000022) e
      ∧ e.site.owners = s.dev.site.owners))

/-- RELEASE_GROUP (R380): by its owner, or by session 5 with force, which takes it from its owner. -/
def releaseGroup : Prop := ∀ (c : Instr) (s : State) (h : Served), Does c s.dev 0x21 h → groupThere h = true →
  let g := h.msg.index
  let n := h.slot.val + 1
  let force := bit h.msg.flags 2
  (force = true → n ≠ 5 → Gives c s (fun e => Answered h (.error 0x1100001E) e ∧ e.site.owners = s.dev.site.owners))
  ∧ (force = false ∨ n = 5 → fieldOwner g h.dev = n → Gives c s (fun e => Answered h (reply []) e ∧ fieldOwner g e = 0))
  ∧ (force = true → n = 5 → fieldOwner g h.dev ≠ 5 → fieldOwner g h.dev ≠ 0 → Gives c s (fun e => Answered h (reply []) e
      ∧ fieldOwner g e = 0 ∧ (h.port = false → num e 0x1104 0x03 = num s.dev 0x1104 0x03 + 1)))
  ∧ (force = false → fieldOwner g h.dev ≠ n → Gives c s (fun e => Answered h (.error 0x11000013) e
      ∧ e.site.owners = s.dev.site.owners))

/-- QUERY_OWNER (Table 12.9): the owner, 0 for none. -/
def queryOwner : Prop := ∀ (c : Instr) (s : State) (h : Served), Does c s.dev 0x22 h →
  let g := h.msg.index
  (groupThere h = true → Gives c s (fun e => Answered h (reply (leBytes 1 (fieldOwner g h.dev))) e
      ∧ e.site.owners = s.dev.site.owners))
  ∧ (isGroup g = false → Gives c s (fun e => Answered h (.error 0x1100001F) e))

/-- R380, R381: with the answer to a claim or a release the host side knows the group's owner; a release that took the group from another
session is counted and reported. -/
def groupAnswers : Prop := ∀ (m : TenonMsg) (q : DictMsg) (n : Fin 6) (g : Fin 60) (s : State), heard .fh 0x06 m s.dev →
  parseDict m.payload = some q → slotOf (hdrSession m.header) = some n → (s.dev.site.sessions[n]).conn.isSome = true →
  ((s.dev.site.sessions[n]).outstanding).contains (hdrTag m.header) = true → q.index = g.val → q.flags % 2 = 0 →
  (q.service = 0xA0 → Gives (.dictionaryResponse m) s (fun e => e.site.ownersSeen[g] = n.val + 1))
  ∧ (q.service = 0xA1 → Gives (.dictionaryResponse m) s (fun e => e.site.ownersSeen[g] = 0
      ∧ num e 0x1104 0x03 = num s.dev 0x1104 0x03
          + (if s.dev.site.ownersSeen[g] = 0 ∨ s.dev.site.ownersSeen[g] = n.val + 1 then 0 else 1)))

/-! Subscriptions (R382, R383). -/

/-- The subscriptions that a session holds. -/
def subsOf (session : Nat) (d : Dev) : Nat := (all 16).countP (fun i => match d.site.subs[i] with
  | some y => y.session == session
  | none => false)
/-- Whether a subscription's share would pass the 300 kbit/s of a CAN FD controller (R382). -/
def canFull (conn : Conn) (x : Sub) (d : Dev) : Bool := match conn with
  | .can c _ => decide (300000 < canCommitted c d + canShareOf c x.period (subBytes x) d)
  | _ => false

/-- SUBSCRIBE (R382, R383): a valid request takes the lowest free slot, unless its session holds 8, none is free, or the rate that it
commits is not there. -/
def subscribe : Prop := ∀ (a : Ask) (s : State) (h : Served), Does (.subscribe a) s.dev 0x30 h →
  let c := Instr.subscribe a
  let n := h.slot
  (subRequest a.conn (n.val + 1) a.data = none → Gives c s (fun e => Answered h (.error 0x1100001A) e
      ∧ e.site.subs = s.dev.site.subs))
  ∧ (∀ x, subRequest a.conn (n.val + 1) a.data = some x →
      8 ≤ subsOf (n.val + 1) s.dev ∨ (∀ i : Fin 16, (s.dev.site.subs[i]).isSome = true) →
      Gives c s (fun e => Answered h (.error 0x1100001B) e ∧ e.site.subs = s.dev.site.subs))
  ∧ (∀ x (i : Fin 16), subRequest a.conn (n.val + 1) a.data = some x → subsOf (n.val + 1) s.dev < 8 → s.dev.site.subs[i] = none →
      (∀ j : Fin 16, j < i → (s.dev.site.subs[j]).isSome = true) →
      (120000 < laneCommitted s.dev + x.share → Gives c s (fun e => Answered h (.error 0x10000023) e
        ∧ e.site.subs = s.dev.site.subs))
      ∧ (laneCommitted s.dev + x.share ≤ 120000 → canFull a.conn x s.dev = true → Gives c s (fun e =>
        Answered h (.error 0x12000014) e ∧ e.site.subs = s.dev.site.subs))
      ∧ (laneCommitted s.dev + x.share ≤ 120000 → canFull a.conn x s.dev = false → Gives c s (fun e =>
        Answered h (reply (leBytes 1 (i.val + 1))) e ∧ e.site.subs[i] = some { x with next := nextMultiple (ms x.period) s.dev }
          ∧ ∀ j : Fin 16, j ≠ i → e.site.subs[j] = s.dev.site.subs[j])))

/-- UNSUBSCRIBE (R383): by the session that holds it. -/
def unsubscribe : Prop := ∀ (a : Ask) (s : State) (h : Served), Does (.unsubscribe a) s.dev 0x31 h →
  let c := Instr.unsubscribe a
  let n := h.slot
  (∀ (i : Fin 16) (x : Sub), a.data = leBytes 1 (i.val + 1) → s.dev.site.subs[i] = some x → x.session = n.val + 1 →
      Gives c s (fun e => Answered h (reply []) e ∧ e.site.subs[i] = none
        ∧ ∀ j : Fin 16, j ≠ i → e.site.subs[j] = s.dev.site.subs[j]))
  ∧ ((∀ (i : Fin 16) (x : Sub), a.data = leBytes 1 (i.val + 1) → s.dev.site.subs[i] = some x → x.session ≠ n.val + 1) →
      Gives c s (fun e => Answered h (.error 0x1100001A) e ∧ e.site.subs = s.dev.site.subs))

end Sys2Proof.Claims
end

