-- ==== Sys2Proof/WellFormed.lean ====
section
/-! DEFINITION. Which commands are well formed: operands of the sizes that the messages give them, an entry named by a family's
command lying in that family, and no data with a command that has one fixed value. -/
namespace Sys2Proof

/-- An entry that the ring's configuration rule governs (R56). -/
def ringConfigurationEntry (index sub : Nat) : Bool :=
  (0x2200 ≤ index && index < 0x2218 && sub == 1) || (index == 0x2802 && 1 ≤ sub && sub ≤ 0x0A) || (index == 0x2805 && 1 ≤ sub && sub ≤ 2)
/-- A coefficient of a class format (R127). -/
def coefficientEntry (index sub : Nat) : Bool :=
  (index == 0x2610 && 1 ≤ sub && sub ≤ 3) || (0x2620 ≤ index && index < 0x262C && ([1, 2, 4, 5] : List Nat).contains sub)
    || (0x2640 ≤ index && index < 0x264C && 1 ≤ sub && sub ≤ 5) || (0x2650 ≤ index && index < 0x2660 && (sub == 4 || sub == 5))
/-- A seal-relevant entry (R244) written as a value; the pair command has a row of its own. -/
def sealEntry (index sub : Nat) : Bool :=
  (0x3830 ≤ index && index < 0x383C && ([1, 2, 3, 4, 8] : List Nat).contains sub) || (0x3850 ≤ index && index < 0x3854 && 1 ≤ sub && sub ≤ 4)
/-- An entry of the safety range (R288). -/
def safeEntry (index sub : Nat) : Bool := 0x4000 ≤ index && index < 0x4100 && 1 ≤ sub && sub < 256
/-- A certificate or public key entry (R452), or an administrator (R449). -/
def publicItemEntry (index sub : Nat) : Bool := ((0x1A20 ≤ index && index ≤ 0x1A26) || index == 0x1A11) && 1 ≤ sub && sub ≤ 8
/-- An index and sub-index of Table 12.8. -/
def entryName (index sub : Nat) : Bool := index < 65536 && sub < 256

/-- A host chooses tags from 1 to 255 (R365). -/
def taggedAsk (a : Ask) : Bool := a.tag != 0
/-- A request whose data the data length field can state. -/
def dataAsk (a : Ask) : Bool := taggedAsk a && a.data.length < 65536
/-- A request without data. -/
def plainAsk (a : Ask) : Bool := taggedAsk a && a.data.length == 0
/-- Bit 31 of a U32 value. -/
def bit31 (b : List Byte) : Bool := match b with
  | [_, _, _, x] => x.getLsbD 7
  | _ => false
/-- A tenon message has at most 2047 payload bytes, the reach of its length field (Table 1.5). -/
def tenonOk (m : TenonMsg) : Bool := m.payload.length < 2048
/-- A CAN FD frame has at most 64 payload bytes, a classical one 8 (R349). -/
def canFrameOk (f : CanFrame) : Bool := f.data.length ≤ (if f.fd then 64 else 8)
/-- A peer frame has at most 1024 payload bytes. -/
def peerOk (f : PeerFrame) : Bool := f.payload.length ≤ 1024
/-- An Eaveline block's content. -/
def eaveBlockOk (b : EaveBlock) : Bool := b.content.length ≤ 1024
/-- A site power data message's values. -/
def siteDataOk : SiteData → Bool
  | .frontEnd _ imp exp status _ => imp < 2 ^ 32 && exp < 2 ^ 32 && status < 256
  | .imd _ kohm status _ => kohm < 65536 && status < 256

/-- Whether a command is well formed. -/
def Instr.wellFormed : Instr → Bool
  | .heartbeat _ m => tenonOk m
  | .dictionaryRequest m => tenonOk m
  | .dictionaryResponse m => tenonOk m
  | .sessionNotice m n => tenonOk m && n.transport ≤ 5
  | .ridgeFrameToSafety m => tenonOk m
  | .ridgeFrameFromSafety m => tenonOk m
  | .vehicleTargetUpdate m => tenonOk m
  | .outletStatus m => tenonOk m
  | .sitePowerData m x => tenonOk m && siteDataOk x
  | .headData m x => tenonOk m && x.pins.length ≤ 4
  | .meteringRecord m => tenonOk m
  | .meteringRecordAcknowledge m => tenonOk m
  | .meteringRecordRetransmit seq => 1 ≤ seq
  | .scribeNotice m => tenonOk m
  | .snapshotFragment m _ _ => tenonOk m
  | .imageBlock m _ _ block => tenonOk m && block.length ≤ 1016
  | .lifeCycleNotice m _ => tenonOk m
  | .event m => tenonOk m
  | .contactorTest a => dataAsk a
  | .clearFrozenTie a => dataAsk a
  | .clearContactorTravelFault a => dataAsk a
  | .ringConfigurationWrite a index sub => dataAsk a && ringConfigurationEntry index sub
  | .isolationRequest a _ => dataAsk a
  | .legFaultReset a _ => plainAsk a
  | .legEnableWrite a _ => dataAsk a
  | .peakCapture a brick n => plainAsk a && n < (if brick then 24 else 96)
  | .controlSourceWrite a _ => dataAsk a
  | .setpointIndexWrite a _ => dataAsk a
  | .directSetpointWrite a _ => dataAsk a
  | .modeRequestWrite a _ => dataAsk a
  | .railStart a _ => plainAsk a
  | .railStop a _ => plainAsk a
  | .railIsolate a _ => plainAsk a
  | .railRestore a _ => plainAsk a
  | .ratiometricStart a _ => plainAsk a
  | .classFormatWrite a _ => dataAsk a
  | .coefficientWrite a index sub => dataAsk a && coefficientEntry index sub
  | .generatorTargetWrite a _ sub => dataAsk a && 2 ≤ sub && sub ≤ 6
  | .generatorStart a _ => plainAsk a
  | .injectionStart a _ => plainAsk a
  | .injectionStop a _ => plainAsk a
  | .followingErrorReset a _ => plainAsk a
  | .gridLimitWrite a sub => dataAsk a && 1 ≤ sub && sub ≤ 3
  | .replan a => plainAsk a
  | .layoutHoldWrite a => dataAsk a
  | .outletStop a _ => plainAsk a
  | .outletOutOfService a _ => plainAsk a
  | .outletReturnToService a _ => plainAsk a
  | .outletFaultReset a _ => plainAsk a
  | .authorizationResultWrite a _ => dataAsk a
  | .imdReading _ kohm status _ => kohm < 65536 && status < 256
  | .pairHead a _ => plainAsk a
  | .metrologyWindowOpen a => plainAsk a
  | .metrologyWindowClose a => plainAsk a
  | .sealRelevantWrite a index sub => dataAsk a && sealEntry index sub
  | .sf2FaultReset a => dataAsk a
  | .sf1FaultReset a => dataAsk a
  | .ridgeAcknowledge m => tenonOk m
  | .safetyRestart a => plainAsk a
  | .passwordWrite a => dataAsk a
  | .transactionOpen a => plainAsk a
  | .transactionCommit a => plainAsk a
  | .transactionAbort a => plainAsk a
  | .safeWrite a index sub => dataAsk a && safeEntry index sub
  | .channelCommandWrite a _ _ => dataAsk a
  | .channelClear a _ => plainAsk a
  | .senseScanStep pin => pin.toList.all (fun x => x < 65536)
  | .forcedSelectWrite a => dataAsk a
  | .externalSelectPermitWrite a => dataAsk a
  | .limpHomeMapWrite a _ => dataAsk a
  | .generalInputEnableWrite a => dataAsk a
  | .dowelRenewal f => peerOk f
  | .bid f => peerOk f
  | .bidAnswer f => peerOk f
  | .swap a => plainAsk a
  | .yield f => peerOk f
  | .yieldAcknowledge f => peerOk f
  | .mirrorBlock f _ => peerOk f
  | .peerStatus f _ => peerOk f
  | .bulkRequest f _ => peerOk f
  | .bulkData f entries => f.payload.length ≤ 1024 && entries.all (fun e => e.1 < 16777216)
  | .pairingConfigurationWrite a sub => dataAsk a && (sub == 1 || sub == 2)
  | .canFrameReceived _ f _ _ => canFrameOk f
  | .addressClaim _ f => canFrameOk f
  | .reClaim a => plainAsk a
  | .frontEndStatus _ f => canFrameOk f
  | .imdReadingFrame _ f => canFrameOk f
  | .openSession a client => dataAsk a && client.leafDigest.length ≤ 64
  | .closeSession a => plainAsk a
  | .keepAlive a => plainAsk a
  | .read a index sub => plainAsk a && entryName index sub
  | .write a index sub => dataAsk a && entryName index sub
  | .readSegmentedStart a index sub => plainAsk a && entryName index sub
  | .readSegment a index sub => dataAsk a && entryName index sub
  | .writeSegmentedStart a index sub => dataAsk a && entryName index sub
  | .writeSegment a index sub => dataAsk a && entryName index sub
  | .transferAbandon a => plainAsk a
  | .claimGroup a group => plainAsk a && group < 65536
  | .releaseGroup a group => plainAsk a && group < 65536
  | .queryOwner a group => plainAsk a && group < 65536
  | .subscribe a => dataAsk a
  | .unsubscribe a => dataAsk a
  | .wallClockWrite a => dataAsk a
  | .cycleHeader _ content _ => content.length ≤ 1024
  | .controlBlock _ b => eaveBlockOk b
  | .dataBlock _ _ b => eaveBlockOk b
  | .robustStepUp _ snr => snr.length ≤ 4096
  | .admissionAnswer _ b => eaveBlockOk b
  | .zeroCrossingReport _ report => report.length ≤ 64
  | .removeNode a => dataAsk a
  | .expectedSerialWrite a _ => dataAsk a
  | .dmaChannelStart a _ => dataAsk a && a.data.length == 4 && bit31 a.data
  | .dmaStopRequest a _ => plainAsk a
  | .dmaChannelRegisterWrite a _ _ => dataAsk a
  | .descriptorWrite a _ => dataAsk a
  | .captureClaim a => plainAsk a
  | .captureRelease a => plainAsk a
  | .snapshotTriggerCommand a => plainAsk a
  | .eventRaised _ _ data => data.length ≤ 12
  | .transitionArm a => dataAsk a
  | .transitionToField a => plainAsk a
  | .transitionToReturn a => plainAsk a
  | .transitionToDecommissioned a => plainAsk a
  | .keyValueWrite a _ => dataAsk a
  | .keyGenerate a _ => plainAsk a
  | .keyDelete a _ => plainAsk a
  | .publicItemWrite a index sub => dataAsk a && publicItemEntry index sub
  | .imageStage a _ => taggedAsk a
  | .discardStaged a _ => plainAsk a
  | .fallBack a _ => plainAsk a
  | .activateModule a _ => plainAsk a
  | .activatePair a _ => plainAsk a
  | .commit a => plainAsk a
  | .restoreDefaults a => plainAsk a
  | .imageStatus m _ _ => tenonOk m
  | .controlPeriod _ | .barrierLoss _ | .timeMark _ _ | .channelStale _ | .referenceSwitch _ | .peerTimeTransfer _ _
  | .laneNextMessage _ | .laneRealign _ | .powerFailNotice | .contactorTravelConfirmed _ | .contactorTravelFault _
  | .contactDisagreement _ | .uplinkDeadline _ _ | .linkHoldExpiry _ | .brickLinkUp _ | .legLostRecovery _
  | .portDelayMeasurement _ _ | .downlinkFrameAccept _ _ _ | .cardDownlinkDeadline _ | .cardContactorHold _
  | .serviceRequest _ _ _ | .fieldIslandRestart | .syncInEdge _ | .syncLoss _ | .diodeEmulationEntry _ | .shedDwellExpiry _
  | .brakingWindowEnd _ | .senseImplausible _ | .telemetryWindowEnd _ | .startSettleExpiry _ | .trackingTimeout _
  | .ratiometricPauseLimit _ | .drainTimeout _ | .episodePause _ | .railSenseLost _ | .generatorStartDelayExpiry _
  | .thermalInputStale _ | .injectionEnd _ | .followingErrorTimer _ | .planningCycle | .planningOverrun | .gridLimitExpiry
  | .frontEndStale _ | .frontEndStaleHoldExpiry _ | .moveStart _ | .handoverEnd _ | .handoverTimeout _ | .openWaitLimit _
  | .restoreWaitLimit _ | .releaseHoldExpiry _ | .connectionDetected _ | .unplugDetected _ | .plugTimeout _ | .targetTimeout _
  | .authorizationTimeout _ | .vehicleMessage _ _ | .cableCheckRailReady _ | .imdSettleExpiry _ | .cableCheckTimeout _
  | .cableShort _ | .imdAgeExpiry _ | .directionChangeComplete _ | .fastStopEnd _ | .outletContactorOpen _ | .faultedRailStop _
  | .winddownTimeout _ | .weldCheckPass _ | .cableDischargeExpiry _ | .headStale _ | .deratingUpdate | .flowFault _
  | .flowFaultClear _ | .runOnExpiry _ | .meteringUplinkFrame _ _ _ | .meteringDownlinkFrame _ | .meteringIntervalEnd
  | .pulseBacklogIssue _ | .testPulseEdge _ | .meteringLinkDown _ | .meteringLinkUp _ | .outletStatusCopy _ _ _ _
  | .meteringSessionOpen _ | .meteringSessionClose _ | .recordSigned | .lateStartWitness _ | .metrologyRestartContinuation
  | .periodicSave | .finalWriteStart | .metrologyStartClose | .metrologyWindowExpiry | .safetyCycle _ _ _
  | .safetyInputSample _ _ _ | .discrepancyTimeout _ | .darkPulseTest _ _ _ | .darkPulseTimeout _ _ | .chargePumpTimeout _
  | .coreDisagreement _ | .safetySelfTestComplete _ | .currentWaitTimeout _ | .feedbackTimerEnd _ | .safetyFeed
  | .ridgeWatchdog _ | .ridgeFaultRecovery _ | .ridgeProducerWatchdog _ | .passwordHoldExpiry | .transactionTimeout
  | .lockoutExpiry | .loadCommandTransfer | .wireModelUpdate _ _ | .shortCircuitTrip _ | .retryDelayExpiry _
  | .retryResetExpiry _ | .junctionLatch _ _ | .clampEvent _ | .extselChange _ | .limpNChange _ | .lhInChange _ _
  | .loadCommandStale | .orphanTimeout | .dissipationEstimate | .openLoadDetection _ | .loadSupplyLow | .loadSupplyReturn
  | .dowelRenewalSend | .leaseExpiry | .bidGuardExpiry | .bidWaitExpiry | .leaseSupportLost | .holderLeaseEnd
  | .yieldAckTimeout | .swapBoundary | .peerPortUp _ | .peerPortDown _ | .resynchronisation _ _ _ | .resyncTimeout
  | .inStepGained | .inStepLost _ | .switchOverTargetHoldExpiry _ | .canFrameTransmitted _ | .stagingAdmission _ | .busOff _
  | .busOffRecovery _ | .canHeartbeat | .addrInHigh | .addressListenExpiry | .claimListenExpiry | .claimRetryDelay
  | .imdCommand _ | .transferTimeout _ | .publication _ | .sessionTimeout _ | .usbChallengeExpiry | .tlsConnection _
  | .tlsHandshakeTimeout _ | .tlsIdleTimeout _ | .ptpSync _ | .ptpSyncLoss | .wallClockOffsetSend | .eavelineCycle
  | .messageReassemblyTimeout _ | .stepUpCountReset _ | .layoutSwitch | .nodeRefusedRetry _ | .nodeLost _ | .nodePreambleLoss _
  | .mainsRefCrossing _ | .eavelineStateSync _ | .eavelineMasterTake | .dmaDescriptorEnd _ | .snapInEdge _
  | .partnerScribeTrigger | .snapshotFieldStore | .snapshotSetValid _ | .eventQueueRoom _ | .eventLogFlush
  | .factoryTransition _ | .keySlotLoad _ _ | .keySlotWaitTimeout | .fxWinddownEnd | .bootCheck _ | .trialConfirm _
  | .confirmTimeout _ | .autoCommit _ | .leafWriteComplete _ _ | .fieldPowerFailWarning | .fieldSequenceEnd
  | .hostPowerFailWarning | .fieldPowerUp _ | .hostPowerUp | .holdupCharged _ | .domainStartFailed _
  | .supplyRedundancyLost _ _ | .supplyRedundancyRestored _ _ | .holdupTest _ _ | .coldPlateRead _ | .overTemperatureShutdown
  | .overTemperatureRestart | .partnerWaitExpiry | .islandWatchdogReset _ | .holdoverLimit _ | .ethernetLinkChange _ _
  | .commitSpacingExpiry _ => true

end Sys2Proof
end

