-- ==== Sys2Proof/Claims/WriteRing.lean ====
section
/-! DEFINITION. Claims about the writes of the chapters on legs, the ring, rails, the loop engine and the allocator (chapters 2 to 6), one
for each command: a write that passes every check of R367, what must then have held, what it does, and what it leaves. -/
namespace Sys2Proof.Claims
open Machine

/-- Wherever a command is a write that passes every check, it answers a next state, `P` holds of the write and of that state, and nothing
changed but the server's own parts, these parts, and entries of these groups. -/
def Takes (c : Instr) (s : State) (parts : List Part) (groups : List Nat) (P : WriteCall → Dev → Prop) : Prop :=
  ∀ h, served c s.dev = some h → h.taken = true →
    Gives c s (fun e => P h.write e ∧ Within (writeParts ++ parts) (0x12 :: groups) s.dev e)
/-- The value written stands in its entry. -/
def Stands (idx sub : Nat) (w : WriteCall) (e : Dev) : Prop := getVal e (key idx sub) = w.val
/-- A CMD entry shows its command done (R370). -/
def Shown (idx sub : Nat) (e : Dev) : Prop := num e idx sub = 2

/-! Legs, bricks and the ring (chapters 2 and 3). -/

/-- CONTACTOR_TEST (R57): with every outlet out of service, and where the interlock grants it, the contactor is commanded the other way. -/
def contactorTest : Prop := ∀ (a : Ask) (s : State), Takes (.contactorTest a) s [.ring, .brick] [0x28] (fun w e =>
  allOutOfService s.dev = true ∧ Shown 0x2806 1 e ∧ ∃ x, contactorNamed w.nat = some x
    ∧ refusal outletPermit x (askContactor x (!(contactor x s.dev).cmd) s.dev) = none
    ∧ (contactor x e).cmd = !(contactor x s.dev).cmd ∧ (contactor x e).travel = some s.dev.time.now
    ∧ ∀ y, y ≠ x → contactor y e = contactor y s.dev)

/-- CLEAR_FROZEN_TIE (R47): a frozen tie whose contacts agree with its command. -/
def clearFrozenTie : Prop := ∀ (a : Ask) (s : State), Takes (.clearFrozenTie a) s [.ring] [0x28] (fun w e =>
  let j : Fin 12 := Fin.ofNat 12 w.nat
  ((s.dev.ring.tie[j]).frozen = true → contactsReport (.tie j) (s.dev.ring.tie[j]).cmd s.dev = true) ∧ Shown 0x2806 2 e
    ∧ e.ring.tie[j] = { s.dev.ring.tie[j] with frozen := false } ∧ ∀ i, i ≠ j → e.ring.tie[i] = s.dev.ring.tie[i])

/-- CLEAR_CONTACTOR_TRAVEL_FAULT (R47): of a brick or outlet contactor none of whose contacts, an outlet's feedback contact among them,
reports it closed. -/
def clearContactorTravelFault : Prop := ∀ (a : Ask) (s : State), Takes (.clearContactorTravelFault a) s [.ring, .brick] [0x28] (fun w e =>
  Shown 0x2806 3 e ∧ ∃ x, contactorNamed w.nat = some x ∧ (∀ j, x ≠ .tie j)
    ∧ ((contactor x s.dev).travelFault = true → countsClosed x s.dev = false)
    ∧ contactor x e = { contactor x s.dev with travelFault := false } ∧ ∀ y, y ≠ x → contactor y e = contactor y s.dev)

/-- RING_CONFIGURATION_WRITE (R56, R58): with the ring idle only; a rail that is not fitted is isolated. -/
def ringConfigurationWrite : Prop := ∀ (a : Ask) (index sub : Nat) (s : State), ringConfigurationEntry index sub = true →
  Takes (.ringConfigurationWrite a index sub) s [.rail, .ratio] [index / 256] (fun w e => ringIdle s.dev = true ∧ Stands index sub w e
    ∧ ∀ j : Fin 12, railFitted j e = false → (e.rail[j]).state = .isolated ∧ (e.rail[j]).isoCause = .notFitted)

/-- ISOLATION_REQUEST (R174): of a fitted brick. -/
def isolationRequest : Prop := ∀ (a : Ask) (k : Fin 24) (s : State), Takes (.isolationRequest a k) s [] [0x22] (fun w e =>
  on s.dev (0x2200 + k.val) 0x01 = true ∧ Stands (0x2200 + k.val) 0x02 w e)

/-- LEG_FAULT_RESET (R90): with no cause present, a leg in FAULT is reset and goes to STANDBY, where a latched flag of its card stands
once the card has answered; any other leg stays. -/
def legFaultReset : Prop := ∀ (a : Ask) (n : Fin 96) (s : State), Takes (.legFaultReset a n) s [.leg] [0x20] (fun _ e =>
  causesPresent n s.dev = 0 ∧ Shown (0x2000 + n.val) 0x07 e
    ∧ ((s.dev.leg[n]).state = .fault → (e.leg[n]).resetBit = true)
    ∧ ((s.dev.leg[n]).state = .fault → latchedFlags s.dev.leg[n] = false → (e.leg[n]).state = .standby ∧ (e.leg[n]).cause = 0)
    ∧ ((s.dev.leg[n]).state ≠ .fault → e.leg[n] = s.dev.leg[n]) ∧ ∀ m, m ≠ n → e.leg[m] = s.dev.leg[m])

/-- LEG_ENABLE_WRITE (R90): not while the leg brakes. -/
def legEnableWrite : Prop := ∀ (a : Ask) (n : Fin 96) (s : State), Takes (.legEnableWrite a n) s [] [0x20] (fun w e =>
  (s.dev.leg[n]).state ≠ .braking ∧ Stands (0x2000 + n.val) 0x01 w e)

/-- PEAK_CAPTURE (R89): the peaks are shown, and the record begins anew. -/
def peakCapture : Prop := ∀ (a : Ask) (s : State),
  (∀ n : Fin 96, Takes (.peakCapture a false n.val) s [.leg] [0x21] (fun _ e =>
    (∀ x y, (s.dev.leg[n]).peakI = some (x, y) → num e (0x2100 + n.val) 0x21 = x ∧ num e (0x2100 + n.val) 0x22 = y)
      ∧ (∀ t, (s.dev.leg[n]).peakT = some t → num e (0x2100 + n.val) 0x23 = t)
      ∧ e.leg[n] = { s.dev.leg[n] with peakI := none, peakT := none }))
  ∧ (∀ k : Fin 24, Takes (.peakCapture a true k.val) s [.brick] [0x22] (fun _ e =>
    (∀ x y, (s.dev.brick[k]).peakI = some (x, y) → num e (0x2200 + k.val) 0x27 = x ∧ num e (0x2200 + k.val) 0x28 = y)
      ∧ (∀ v, (s.dev.brick[k]).peakVdc = some v → num e (0x2200 + k.val) 0x29 = v)
      ∧ e.brick[k] = { s.dev.brick[k] with peakI := none, peakVdc := none }))

/-! Rails (chapter 4). -/

/-- CONTROL_SOURCE_WRITE (R96): to host control only with the outlet out of service. -/
def controlSourceWrite : Prop := ∀ (a : Ask) (j : Fin 12) (s : State), Takes (.controlSourceWrite a j) s [] [0x24] (fun w e =>
  (w.nat = 1 → (s.dev.out[j]).state = .outOfService) ∧ Stands (railIdx j 1) 0x01 w e)

/-- A voltage command issued to a rail under host control with no episode: a free rail takes it as its target, a live one waits for the
period's commands (R97). -/
def commanded (j : Fin 12) (v : Int) (rate : Nat) (d e : Dev) : Prop :=
  hostSource j d = true ∧ railBusy j d = false ∧ (d.rail[j]).currentMode = false
    ∧ ((d.rail[j]).state = .free → (e.rail[j]).t = v ∧ (e.rail[j]).rate = rate)
    ∧ ((d.rail[j]).state = .live → (e.rail[j]).command = some (v, rate)
      ∧ ((d.rail[j]).command.isSome = true → num e (railIdx j 0) 0x0F = num d (railIdx j 0) 0x0F + 1))
    ∧ ∀ i, i ≠ j → e.rail[i] = d.rail[i]

/-- SETPOINT_INDEX_WRITE (R97): the entry of the set-point table that the index names, which must not be 0. -/
def setpointIndexWrite : Prop := ∀ (a : Ask) (j : Fin 12) (s : State), Takes (.setpointIndexWrite a j) s [.rail] [0x24] (fun w e =>
  let v := 100 * num s.dev (railIdx j 2) (w.nat + 1)
  Stands (railIdx j 1) 0x02 w e ∧ v ≠ 0 ∧ commanded j v (nat s.dev (railIdx j 3) (w.nat + 1)) s.dev e)

/-- DIRECT_SETPOINT_WRITE (R97, R98): the voltage written, within the rail's bounds, at the direct rate. -/
def directSetpointWrite : Prop := ∀ (a : Ask) (j : Fin 12) (s : State), Takes (.directSetpointWrite a j) s [.rail] [0x24] (fun w e =>
  Stands (railIdx j 1) 0x03 w e ∧ 15000000 ≤ 100 * w.num ∧ 100 * w.num ≤ vCeil j s.dev
    ∧ commanded j (100 * w.num) (nat s.dev (railIdx j 1) 0x04) s.dev e)

/-- MODE_REQUEST_WRITE (R95): the mode is asked for. -/
def modeRequestWrite : Prop := ∀ (a : Ask) (j : Fin 12) (s : State), Takes (.modeRequestWrite a j) s [.rail] [0x24] (fun w e =>
  hostSource j s.dev = true ∧ (s.dev.rail[j]).episode = .none ∧ Stands (railIdx j 1) 0x06 w e
    ∧ e.rail[j] = { s.dev.rail[j] with modeAsked := some (w.nat == 1) } ∧ ∀ i, i ≠ j → e.rail[i] = s.dev.rail[i])

/-- RAIL_START (R105): a segment of free rails with legs begins its start. -/
def railStart : Prop := ∀ (a : Ask) (j : Fin 12) (s : State), Takes (.railStart a j) s [.leg, .rail, .eng] [0x24] (fun _ e =>
  hostSource j s.dev = true ∧ startRefusal j s.dev = none ∧ Shown (railIdx j 1) 0x0A e
    ∧ (e.rail[j]).state = .precharging ∧ (e.rail[j]).episode = .start ∧ (e.rail[j]).epStart = s.dev.time.now
    ∧ (e.rail[j]).s = ((s.dev.rail[j]).vPrev).getD (s.dev.rail[j]).s ∧ ∀ i, i ≠ j → e.rail[i] = s.dev.rail[i])

/-- RAIL_STOP (R111): a live or starting rail begins to drain; one in current mode first lets its current go to 0. -/
def railStop : Prop := ∀ (a : Ask) (j : Fin 12) (s : State), Takes (.railStop a j) s [.leg, .rail, .ratio, .eng] [0x24] (fun _ e =>
  hostSource j s.dev = true ∧ ((s.dev.rail[j]).state = .live ∨ (s.dev.rail[j]).state = .precharging)
    ∧ (s.dev.rail[j]).episode ≠ .stop ∧ Shown (railIdx j 1) 0x0B e ∧ (e.rail[j]).state = .draining ∧ (e.rail[j]).episode = .stop
    ∧ ((s.dev.rail[j]).currentMode = true → (e.rail[j]).stopWaits = true ∧ (e.eng.gen[outletGen j]).target = 0))

/-- RAIL_ISOLATE (R114). -/
def railIsolate : Prop := ∀ (a : Ask) (j : Fin 12) (s : State), Takes (.railIsolate a j) s [.rail] [0x24] (fun _ e =>
  mayIsolate j s.dev = true ∧ Shown (railIdx j 1) 0x0C e ∧ (e.rail[j]).state = .isolated ∧ (e.rail[j]).isoCause = .command
    ∧ ∀ i, i ≠ j → e.rail[i] = s.dev.rail[i])

/-- RAIL_RESTORE (R114). -/
def railRestore : Prop := ∀ (a : Ask) (j : Fin 12) (s : State), Takes (.railRestore a j) s [.rail] [0x24] (fun _ e =>
  mayRestore j s.dev = true ∧ Shown (railIdx j 1) 0x0C e ∧ e.rail[j] = { s.dev.rail[j] with state := .free, isoCause := .none }
    ∧ ∀ i, i ≠ j → e.rail[i] = s.dev.rail[i])

/-- RATIOMETRIC_START (R107, R109): every rail of the mask that the entry holds joins the leader's episode. A free member may come to govern
its segment. -/
def ratiometricStart : Prop := ∀ (a : Ask) (j : Fin 12) (s : State), Takes (.ratiometricStart a j) s [.leg, .rail, .ratio, .eng] [0x24]
  (fun _ e =>
    let m (i : Fin 12) : Bool := bit (nat s.dev (railIdx j 5) 0x01) i.val
    hostSource j s.dev = true ∧ m j = true ∧ Shown (railIdx j 5) 0x04 e
      ∧ (∀ i, m i = true → (e.rail[i]).episode = .ratiometric ∧ (e.rail[i]).leader = some j ∧ hasLegs i s.dev = true
        ∧ (e.rail[i]).state = if (s.dev.rail[i]).state = .free then .precharging else (s.dev.rail[i]).state)
      ∧ (∀ i, m i = false → e.rail[i] = { s.dev.rail[i] with governing := (e.rail[i]).governing })
      ∧ ∃ q, e.ratio[j] = some q ∧ q.vEnd = 100 * num s.dev (railIdx j 5) 0x02 ∧ q.rate = nat s.dev (railIdx j 5) 0x03
        ∧ q.stop = false ∧ ∀ i, q.mask[i] = m i)

/-! The loop engine (chapter 5). -/

/-- CLASS_FORMAT_WRITE (R127): not while the class runs, and every coefficient of the class converts to the new format. The thermal loops'
integrators are kept in it. -/
def classFormatWrite : Prop := ∀ (a : Ask) (cls : Fin 4) (s : State), Takes (.classFormatWrite a cls) s [.eng] [0x26] (fun w e =>
  classRuns cls s.dev = false ∧ Stands 0x2600 (7 + cls.val) w e ∧ (cls ≠ 3 → e.eng = s.dev.eng)
    ∧ (∀ l : Fin 16, e.eng.thermal[l] = { s.dev.eng.thermal[l] with xt := (e.eng.thermal[l]).xt })
    ∧ ∀ x ∈ classCoefs cls, coefOk (w.nat == 1) x.1 x.2 (getVal s.dev (key x.1 x.2)) s.dev = true)

/-- COEFFICIENT_WRITE (R127): one that converts to the format of its class. -/
def coefficientWrite : Prop := ∀ (a : Ask) (index sub : Nat) (s : State), coefficientEntry index sub = true →
  Takes (.coefficientWrite a index sub) s [] [0x26] (fun w e =>
    coefOk (classBfp (classOfIdx index) s.dev) index sub w.val s.dev = true ∧ Stands index sub w e)

/-- GENERATOR_TARGET_WRITE (R137, R147): a limit or target takes effect at the next update; a general generator is the host's from its target
write on, and waits where a timer is named. -/
def generatorTargetWrite : Prop := ∀ (a : Ask) (g : Fin 28) (sub : Nat) (s : State), 2 ≤ sub → sub ≤ 6 →
  Takes (.generatorTargetWrite a g sub) s [.eng] [0x26] (fun w e =>
    Stands (genIdx g) sub w e
      ∧ (sub < 6 → e.eng.gen[g] = { s.dev.eng.gen[g] with replan := true })
      ∧ (sub = 6 → 12 ≤ g.val ∧ (s.dev.eng.gen[g]).user ≠ .outlet ∧ (s.dev.eng.gen[g]).user ≠ .allocator
        ∧ (g.val < 24 ∨ nat s.dev (genIdx g) 0x0E = 0xFF → (e.eng.gen[g]).target = w.num * 2 ^ 24 ∧ (e.eng.gen[g]).replan = true)
        ∧ (24 ≤ g.val → (e.eng.gen[g]).user = hostUser g s.dev)
        ∧ (24 ≤ g.val → nat s.dev (genIdx g) 0x0E ≠ 0xFF → (e.eng.gen[g]).target = (s.dev.eng.gen[g]).target))
      ∧ ∀ h, h ≠ g → e.eng.gen[h] = s.dev.eng.gen[h])

/-- GENERATOR_START (R141): a host-held generator starts after its delay on its timer, or at once without one. -/
def generatorStart : Prop := ∀ (a : Ask) (g : Fin 28) (s : State), Takes (.generatorStart a g) s [.eng] [0x26] (fun _ e =>
  let t := nat s.dev (genIdx g) 0x0E
  hostHeld g s.dev = true ∧ Shown (genIdx g) 0x0F e
    ∧ (∀ u : Fin 4, t = u.val → e.eng.timer[u] = some g.val
        ∧ (e.eng.gen[g]).due = some (s.dev.sync.periods + nat s.dev (genIdx g) 0x0D))
    ∧ (4 ≤ t → (e.eng.gen[g]).target = num s.dev (genIdx g) 0x06 * 2 ^ 24 ∧ (e.eng.gen[g]).replan = true ∧ e.eng.timer = s.dev.eng.timer))

/-- INJECTION_START (R142): an idle channel whose target is in test condition begins, its results cleared. -/
def injectionStart : Prop := ∀ (a : Ask) (c : Fin 2) (s : State), Takes (.injectionStart a c) s [.dma, .eng] [0x27] (fun w e =>
  injRunning c s.dev = false ∧ injTargetOk c s.dev = true ∧ (captures c s.dev = true → s.dev.dma.capState = .free)
    ∧ Shown (0x2700 + 16 * c.val) 0x11 e
    ∧ (e.eng.inj[c]).state = (if injEntry c 0x03 s.dev = 1 then .measuring else .settling)
    ∧ (e.eng.inj[c]).session = w.session ∧ (e.eng.inj[c]).startTime = s.dev.sync.boundary + period ∧ (e.eng.inj[c]).complete = 0
    ∧ (captures c s.dev = true → e.dma.capState = .filling ∧ e.dma.capOwner = w.session)
    ∧ (captures c s.dev = false → e.dma = s.dev.dma)
    ∧ ∀ i, i < 64 → num e (injIdx c + 3) (i + 1) = -32768 ∧ num e (injIdx c + 4) (i + 1) = -32768)

/-- INJECTION_STOP (R145): a running injection is aborted by command; an idle channel stays. -/
def injectionStop : Prop := ∀ (a : Ask) (c : Fin 2) (s : State), Takes (.injectionStop a c) s [.dma, .eng] [0x27] (fun _ e =>
  Shown (0x2700 + 16 * c.val) 0x12 e
    ∧ (injRunning c s.dev = true → (e.eng.inj[c]).state = .aborted ∧ (e.eng.inj[c]).cause = 1 ∧ (e.eng.inj[c]).value = 0)
    ∧ (injRunning c s.dev = false → e.eng = s.dev.eng ∧ e.dma = s.dev.dma))

/-- FOLLOWING_ERROR_RESET (R140): of a disabled axis whose error is within its limit. -/
def followingErrorReset : Prop := ∀ (a : Ask) (x : Fin 12) (s : State), Takes (.followingErrorReset a x) s [.eng] [0x26] (fun _ e =>
  axisEnabled x s.dev = false ∧ |(s.dev.eng.axis[x]).error| ≤ num s.dev (axisIdx x) 0x07 ∧ Shown (axisIdx x) 0x0C e
    ∧ e.eng.axis[x] = { s.dev.eng.axis[x] with flag := false, follow := 0 } ∧ ∀ y, y ≠ x → e.eng.axis[y] = s.dev.eng.axis[y])

/-! The allocator (chapter 6). -/

/-- GRID_LIMIT_WRITE (R152): a write of a limit puts both in force from now on for their lifetime; a write of the lifetime alone does not. -/
def gridLimitWrite : Prop := ∀ (a : Ask) (sub : Nat) (s : State), 1 ≤ sub → sub ≤ 3 →
  Takes (.gridLimitWrite a sub) s [.alloc] [0x28] (fun w e => Stands 0x2811 sub w e
    ∧ (sub < 3 → e.alloc = { s.dev.alloc with
        written := (nat e 0x2811 0x01, nat e 0x2811 0x02), writtenAt := some s.dev.time.now, fallback := false })
    ∧ (sub = 3 → e.alloc = s.dev.alloc))

/-- REPLAN (R159): every surplus that holds is due at once. -/
def replan : Prop := ∀ (a : Ask) (s : State), Takes (.replan a) s [.alloc] [0x28] (fun _ e =>
  s.dev.ring.restart = false ∧ Shown 0x2817 0x0B e
    ∧ ∀ h : Fin 12, e.alloc.surplusDue[h] = (s.dev.alloc.surplusSince[h]).isSome)

/-- LAYOUT_HOLD_WRITE (R177). -/
def layoutHoldWrite : Prop := ∀ (a : Ask) (s : State), Takes (.layoutHoldWrite a) s [] [0x28] (fun w e =>
  s.dev.ring.restart = false ∧ Stands 0x2810 0x0D w e)

end Sys2Proof.Claims
end

