-- ==== Sys2Proof/Claims/WriteField.lean ====
section
/-! DEFINITION. Claims about the writes of the chapters on outlets, metrology, safety and load channels (chapters 7 to 10), one for each
command: a write that passes every check of R367, what must then have held, what it does, and what it leaves. -/
namespace Sys2Proof.Claims
open Machine

/-! Outlets (chapter 7). -/

/-- OUTLET_STOP (R183): cause 2, from HANDSHAKE to RETURNING; the outlet takes it at its next boundary (R182). -/
def outletStop : Prop := ∀ (a : Ask) (k : Fin 12) (s : State),
  Takes (.outletStop a k) s [.out] [0x30] (fun _ e =>
    2 ≤ outCode (s.dev.out[k]).state ∧ outCode (s.dev.out[k]).state ≤ 6 ∧ causeNoted k 2 s.dev e ∧ Shown (outIdx k 3) 0x01 e
      ∧ ∀ j, j ≠ k → e.out[j] = s.dev.out[j])

/-- OUTLET_OUT_OF_SERVICE (R182, R209): from IDLE, ENDED or FAULTED, the contactor confirmed open; the outlet leaves service at its next
boundary. -/
def outletOutOfService : Prop := ∀ (a : Ask) (k : Fin 12) (s : State),
  Takes (.outletOutOfService a k) s [.out] [0x30] (fun _ e =>
    ((s.dev.out[k]).state = .idle ∨ (s.dev.out[k]).state = .ended ∨ (s.dev.out[k]).state = .faulted) ∧ outConfirmed k false s.dev = true
      ∧ eventNoted k .outOfService s.dev e ∧ Shown (outIdx k 3) 0x02 e ∧ ∀ j, j ≠ k → e.out[j] = s.dev.out[j])

/-- OUTLET_RETURN_TO_SERVICE (R181, R182): a fitted outlet with a head node, its contactor open, in a state of the life cycle that serves;
it returns at its next boundary. -/
def outletReturnToService : Prop := ∀ (a : Ask) (k : Fin 12) (s : State),
  Takes (.outletReturnToService a k) s [.out] [0x30] (fun _ e =>
    (s.dev.out[k]).state = .outOfService ∧ mayServe k s.dev = true ∧ eventNoted k .toService s.dev e ∧ Shown (outIdx k 3) 0x02 e
      ∧ ∀ j, j ≠ k → e.out[j] = s.dev.out[j])

/-- OUTLET_FAULT_RESET (R182, R209): no cause present, the contactor open and free of a travel fault, the rail at rest; the outlet leaves
FAULTED at its next boundary. -/
def outletFaultReset : Prop := ∀ (a : Ask) (k : Fin 12) (s : State), Takes (.outletFaultReset a k) s [.out] [0x30] (fun _ e =>
  (s.dev.out[k]).state = .faulted ∧ faultPresent k s.dev = false ∧ outConfirmed k false s.dev = true
    ∧ (s.dev.ring.outlet[k]).travelFault = false ∧ ((s.dev.rail[k]).state = .free ∨ (s.dev.rail[k]).state = .isolated)
    ∧ eventNoted k .reset s.dev e ∧ Shown (outIdx k 3) 0x03 e ∧ ∀ j, j ≠ k → e.out[j] = s.dev.out[j])

/-- AUTHORIZATION_RESULT_WRITE (R191): while one is pending; 1 authorises, 2 ends the vehicle's session. -/
def authorizationResultWrite : Prop := ∀ (a : Ask) (k : Fin 12) (s : State),
  Takes (.authorizationResultWrite a k) s [.vehicle] [0x31] (fun w e =>
    (s.dev.vehicle[k]).pendingSince.isSome = true ∧ num e (0x3120 + k.val) 0x01 = w.nat
      ∧ (w.nat = 1 → e.vehicle[k] = { s.dev.vehicle[k] with pendingSince := none, authorized := true })
      ∧ (w.nat = 2 → (e.vehicle[k]).pendingSince = none ∧ (e.vehicle[k]).authorized = false ∧ (e.vehicle[k]).protocol = 0
        ∧ (e.vehicle[k]).tls = false)
      ∧ ∀ j, j ≠ k → e.vehicle[j] = s.dev.vehicle[j])

/-! Metrology (chapter 8). -/

/-- One more record in the audit trail, and the window's time anew (R244, R245). -/
def audited (d e : Dev) : Prop := d.metro.window.isSome = true ∧ auditUsed d < 960
  ∧ (∃ r, e.metro.audit = d.metro.audit ++ [r]) ∧ e.metro.window = some d.time.now

/-- PAIR_HEAD (R217): the identity of the head that answers becomes the expected one, with the window open; audited. -/
def pairHead : Prop := ∀ (a : Ask) (k : Fin 12) (s : State), Takes (.pairHead a k) s [.metro] [0x38] (fun _ e =>
  audited s.dev e ∧ (s.dev.metro.meter[k]).link = true ∧ (s.dev.metro.meter[k]).session = none
    ∧ num e (0x3830 + k.val) 0x05 = (((s.dev.metro.meter[k]).head[(4 : Fin 8)]).getD 0 : Nat) ∧ Shown (0x3830 + k.val) 0x06 e)

/-- METROLOGY_WINDOW_OPEN (R244): by session 5, in PROVISIONED or FIELD, with audit room; opened, counted and audited. -/
def metrologyWindowOpen : Prop := ∀ (a : Ask) (s : State), Takes (.metrologyWindowOpen a) s [.metro] [0x38] (fun w e =>
  w.session = 5 ∧ (lifeOf s.dev = 2 ∨ lifeOf s.dev = 3) ∧ e.metro.window = some s.dev.time.now ∧ Shown 0x3800 0x07 e
    ∧ (s.dev.metro.window = none → auditUsed s.dev < 960 ∧ (∃ r, e.metro.audit = s.dev.metro.audit ++ [r])
      ∧ num e 0x3800 0x06 = num s.dev 0x3800 0x06 + 1)
    ∧ (s.dev.metro.window.isSome = true → e.metro.audit = s.dev.metro.audit))

/-- METROLOGY_WINDOW_CLOSE (R244). -/
def metrologyWindowClose : Prop := ∀ (a : Ask) (s : State), Takes (.metrologyWindowClose a) s [.metro] [0x38] (fun _ e =>
  e.metro.window = none ∧ Shown 0x3800 0x07 e
    ∧ (s.dev.metro.window.isSome = true → auditUsed s.dev < 1024 → ∃ r, e.metro.audit = s.dev.metro.audit ++ [r])
    ∧ (s.dev.metro.window = none → e.metro = s.dev.metro))

/-- SEAL_RELEVANT_WRITE (R244, R246): with the window open, audit room, and no metering session on the outlet concerned; audited. -/
def sealRelevantWrite : Prop := ∀ (a : Ask) (index sub : Nat) (s : State), sealEntry index sub = true →
  Takes (.sealRelevantWrite a index sub) s [.metro] [0x38] (fun w e =>
    audited s.dev e ∧ meteringOpen (sealOutlet index s.dev) s.dev = false ∧ Stands index sub w e)

/-! Safety (chapter 9). -/

/-- A reset of an output's faults in a safety island that is not locked (Table 9.14): the fault of an output whose cause has gone is
cleared. -/
def faultsReset (i : Fin 16) (d e : Dev) : Prop := safetyLocked d = false ∧ resetAllowed i d = true
  ∧ e.safety.outFault[i] = false ∧ (∀ o, o ≠ i → e.safety.outFault[o] = d.safety.outFault[o])
  ∧ (∀ j : Fin 12, j.val = i.val → e.safety.contFault[j] = false)
  ∧ ∀ j : Fin 12, j.val ≠ i.val → e.safety.contFault[j] = d.safety.contFault[j]

/-- SF2_FAULT_RESET (R260). -/
def sf2FaultReset : Prop := ∀ (a : Ask) (s : State), Takes (.sf2FaultReset a) s [.safety] [0x40] (fun w e =>
  faultsReset (Fin.ofNat 16 (w.nat % 12)) s.dev e ∧ Shown 0x4007 0x01 e)

/-- SF1_FAULT_RESET (R260). -/
def sf1FaultReset : Prop := ∀ (a : Ask) (s : State), Takes (.sf1FaultReset a) s [.safety] [0x40] (fun w e =>
  faultsReset (Fin.ofNat 16 (12 + w.nat % 4)) s.dev e ∧ Shown 0x4007 0x02 e)

/-- SAFETY_RESTART (R293): by the session that holds the password, which it uses; the island is in START with every output off. -/
def safetyRestart : Prop := ∀ (a : Ask) (s : State), Takes (.safetyRestart a) s [.safety] [0x40] (fun w e =>
  passwordHeld w.session s.dev = true ∧ num e 0x4000 0x01 = 0 ∧ e.safety.held = none ∧ Shown 0x4000 0x08 e
    ∧ ∀ (c : Fin 2) (o : Fin 16), (e.safety.core[c]).on[o] = false ∧ (e.safety.core[c]).inst[o] = .demand)

/-- PASSWORD_WRITE (R287, R290): the right password is held for its session; a wrong one is logged, and the fifth within 10 min locks
passwords out. -/
def passwordWrite : Prop := ∀ (a : Ask) (s : State),
  Takes (.passwordWrite a) s [.safety] [0x40] (fun w e => passwordRight w.bytes s.dev = true ∧ s.dev.safety.lockedOut = none
    ∧ e.safety = { s.dev.safety with held := some (w.session, s.dev.time.now) })
  ∧ (∀ h, served (.passwordWrite a) s.dev = some h → h.refusedBy = some 0x40000012 → Gives (.passwordWrite a) s (fun e =>
      let recent := s.dev.safety.wrong.filter (fun t => decide (s.dev.time.now < t + sec 600)) ++ [s.dev.time.now]
      e.safety.held = s.dev.safety.held
        ∧ (recent.length < 5 → e.safety.wrong = recent ∧ e.safety.lockedOut = none ∧ e.safety.logSeq = s.dev.safety.logSeq + 1)
        ∧ (5 ≤ recent.length → e.safety.wrong = [] ∧ e.safety.lockedOut = some s.dev.time.now
          ∧ e.safety.logSeq = s.dev.safety.logSeq + 2)))

/-- TRANSACTION_OPEN (R287): never over CAN FD; with a password set, by the session that holds it, which it uses; without one, by
session 5. -/
def transactionOpen : Prop := ∀ (a : Ask) (s : State), Takes (.transactionOpen a) s [.safety] [0x40] (fun w e =>
  overCan w.session s.dev = false ∧ Shown 0x4060 0x02 e
    ∧ (s.dev.safety.trans = none → e.safety.trans = some ⟨w.session, s.dev.time.now, [], none, false⟩ ∧ e.safety.held = none
      ∧ (s.dev.safety.password.isSome = true → passwordHeld w.session s.dev = true)
      ∧ (s.dev.safety.password = none → w.session = 5))
    ∧ (∀ t, s.dev.safety.trans = some t → t.owner = w.session ∧ e.safety = s.dev.safety))

/-- TRANSACTION_COMMIT (R289, R291): by the owner, the confirmed CRC being that of the pending set; a running island carries it out at the end
of its cycle, any other at once: the pending values are in force, and the island starts. -/
def transactionCommit : Prop := ∀ (a : Ask) (s : State) (t : Trans), s.dev.safety.trans = some t →
  (safetyRuns s.dev = true → Takes (.transactionCommit a) s [.safety] [0x40] (fun w e =>
    t.owner = w.session ∧ nat s.dev 0x4060 0x03 = pendingCrc s.dev ∧ t.committing = false
      ∧ (s.dev.safety.password.isSome = true ∨ t.newPassword.isSome = true)
      ∧ e.safety.trans = some { t with committing := true } ∧ Shown 0x4060 0x02 e))
  ∧ (safetyRuns s.dev = false →
    Takes (.transactionCommit a) s [.safety, .freeCount] (0x40 :: t.pending.map (fun p => p.1 / 65536)) (fun w e =>
      t.owner = w.session ∧ nat s.dev 0x4060 0x03 = pendingCrc s.dev ∧ e.safety.trans = none ∧ num e 0x4000 0x01 = 0
        ∧ (t.newPassword = none → e.safety.password = s.dev.safety.password)
        ∧ ∀ o : Fin 16, ∀ c : Fin 2, (e.safety.core[c]).on[o] = false))

/-- TRANSACTION_ABORT (R292): by the owner; nothing of the pending set takes effect. -/
def transactionAbort : Prop := ∀ (a : Ask) (s : State), Takes (.transactionAbort a) s [.safety] [0x40] (fun w e =>
  (∃ t, s.dev.safety.trans = some t ∧ t.owner = w.session ∧ t.committing = false) ∧ e.safety.trans = none ∧ Shown 0x4060 0x02 e
    ∧ e.safety.password = s.dev.safety.password)

/-- SAFE_WRITE (R288): the value goes into the pending set of the owning transaction, and the running entry keeps its value; the password entry
sets the new password of the set. -/
def safeWrite : Prop := ∀ (a : Ask) (index sub : Nat) (s : State) (r : Row), safeEntry index sub = true → rowOf index sub = some r → r.acc = .safe →
  Takes (.safeWrite a index sub) s [.safety] [] (fun w e => ∃ t, s.dev.safety.trans = some t ∧ t.owner = w.session ∧ t.committing = false
    ∧ (key index sub ≠ key 0x4060 0x07 → e.safety = { s.dev.safety with
        trans := some { t with pending := (key index sub, w.val) :: t.pending.filter (fun p => p.1 != key index sub),
                               lastWrite := s.dev.time.now } })
    ∧ (key index sub = key 0x4060 0x07 → e.safety = { s.dev.safety with
        trans := some { t with newPassword := some w.bytes, lastWrite := s.dev.time.now } }))

/-! Load channels (chapter 10). -/

/-- CHANNEL_COMMAND_WRITE (R296, R299): of a channel without a consumer, and a duty below the full one only of a channel that pulses. -/
def channelCommandWrite : Prop := ∀ (a : Ask) (duty : Bool) (n : Fin 64) (s : State),
  Takes (.channelCommandWrite a duty n) s [] [0x44] (fun w e => channelTaken n.val none s.dev = false
    ∧ (duty = true → pwmCapable n = false → w.num = 32767) ∧ Stands (if duty then 0x4411 else 0x4410) (n.val + 1) w e)

/-- A channel holds these fields, its pin apart, which follows the island's state (R296). -/
def holdsChannel (n : Fin 64) (x : LoadChan) (e : Dev) : Prop := e.load.chan[n] = { x with drive := (e.load.chan[n]).drive }

/-- CHANNEL_CLEAR (R305): a locked-out or faulted channel is off again, and a latched one below 130 °C. -/
def channelClear : Prop := ∀ (a : Ask) (n : Fin 64) (s : State), Takes (.channelClear a n) s [.load] [0x44] (fun _ e =>
  let x := s.dev.load.chan[n]
  Shown 0x4417 (n.val + 1) e ∧ (x.state = .latched → x.junction < 1300)
    ∧ (x.state = .lockedOut → holdsChannel n { x with state := .off, await := true, retries := nat s.dev 0x4414 (n.val + 1) } e)
    ∧ (x.state = .latched → holdsChannel n { x with state := .off, await := true } e)
    ∧ (x.state = .fault → holdsChannel n { x with state := .off, await := true, clamps := 0 } e)
    ∧ (x.state ≠ .lockedOut → x.state ≠ .latched → x.state ≠ .fault → e.load.chan[n] = x)
    ∧ ∀ m, m ≠ n → holdsChannel m s.dev.load.chan[m] e)

/-- The readings that a selection leaves without a measurement are gone, and every other stands (R311, R312). -/
def selected (d e : Dev) : Prop := ∀ n : Fin 64,
  let out := extselHonoured e || (nat e 0x4400 0x05 != 0xFF && n.val % 16 != nat e 0x4400 0x05)
  (e.load.chan[n]).reading = if out then none else (d.load.chan[n]).reading

/-- FORCED_SELECT_WRITE (R312): not while the external select is honoured. -/
def forcedSelectWrite : Prop := ∀ (a : Ask) (s : State), Takes (.forcedSelectWrite a) s [.load] [0x44] (fun w e =>
  (w.nat ≠ 0xFF → extselHonoured s.dev = false) ∧ Stands 0x4400 0x05 w e ∧ selected s.dev e)

/-- EXTERNAL_SELECT_PERMIT_WRITE (R311, R312): not given while a select is forced. -/
def externalSelectPermitWrite : Prop := ∀ (a : Ask) (s : State), Takes (.externalSelectPermitWrite a) s [.load] [0x44] (fun w e =>
  (w.nat = 1 → nat s.dev 0x4400 0x05 = 0xFF) ∧ Stands 0x4400 0x04 w e ∧ selected s.dev e)

/-- LIMP_HOME_MAP_WRITE (R313): a pin that is no general input maps to a channel that no other pin has. -/
def limpHomeMapWrite : Prop := ∀ (a : Ask) (n : Fin 8) (s : State), Takes (.limpHomeMapWrite a n) s [] [0x44] (fun w e =>
  Stands 0x4430 (n.val + 1) w e ∧ (w.nat ≠ 0xFF → bit (nat s.dev 0x4432 0x01) n.val = false
    ∧ ∀ p : Fin 8, p ≠ n → nat s.dev 0x4430 (p.val + 1) ≠ w.nat))

/-- GENERAL_INPUT_ENABLE_WRITE (R314): of pins that map to no channel. -/
def generalInputEnableWrite : Prop := ∀ (a : Ask) (s : State), Takes (.generalInputEnableWrite a) s [] [0x44] (fun w e =>
  Stands 0x4432 0x01 w e ∧ ∀ p : Fin 8, bit w.nat p.val = true → nat s.dev 0x4430 (p.val + 1) = 0xFF)

end Sys2Proof.Claims
end

