-- ==== Sys2Proof/Claims/WriteSite.lean ====
section
/-! DEFINITION. Claims about the writes of the chapters on pairing, the site bus, time following, Eaveline, sample movement, snapshots, keys,
the life cycle, images and leaves (chapters 11 to 15), one for each command: a write that passes every check of R367, what must then
have held, what it does, and what it leaves. -/
namespace Sys2Proof.Claims
open Machine

/-! Pairing, the site bus, time following, Eaveline (chapters 11 to 13). -/

/-- SWAP (R344): an ACTIVE module in step offers the lease of the next epoch, 100 periods on. -/
def swap : Prop := ∀ (a : Ask) (s : State), Takes (.swap a) s [.pair] [0x1C] (fun _ e =>
  roleOf s.dev = 2 ∧ (∃ p, s.dev.pair.partner = some p ∧ p.inStep = true) ∧ s.dev.pair.swap = none ∧ Shown 0x1C00 0x0C e
    ∧ e.pair.swap = some (epochKnown s.dev + 1, (s.dev.sync.periods + 100) % 2 ^ 32, s.dev.time.now, false)
    ∧ e.pair.sent[(4 : Fin 10)] = leBytes 4 (epochKnown s.dev + 1) ++ leBytes 4 ((s.dev.sync.periods + 100) % 2 ^ 32))

/-- PAIRING_CONFIGURATION_WRITE (R333, R345): with every outlet out of service, and pair mode only with an extended hold of 8; a module put
into pair mode is SYNCING. -/
def pairingConfigurationWrite : Prop := ∀ (a : Ask) (sub : Nat) (s : State), sub = 1 ∨ sub = 2 →
  Takes (.pairingConfigurationWrite a sub) s [.pair, .metro] [0x1C] (fun w e => allOutOfService s.dev = true ∧ Stands 0x1C00 sub w e
    ∧ (sub = 1 → w.nat = 1 → 8 ≤ nat s.dev 0x2301 0x04)
    ∧ (sub = 1 → w.nat = 1 → pairMode s.dev = false → nat e 0x1C00 0x03 = 0 ∧ num e 0x1C00 0x06 = 0 ∧ e.pair.bid = none
      ∧ e.metro = { s.dev.metro with aligned := false })
    ∧ (sub = 2 → e.pair = s.dev.pair ∧ e.metro = s.dev.metro))

/-- RE_CLAIM (R364): the address is given up, and claimed anew where the daisy chain lets it. -/
def reClaim : Prop := ∀ (a : Ask) (s : State), Takes (.reClaim a) s [] [] (fun _ e =>
  let stored := nat s.dev 0x1200 0x01
  (s.dev.site.addr.addrInHigh = false → e.site.addr.state = .waiting ∧ e.site.addr.id = 0 ∧ e.site.addr.addrOut = false)
    ∧ (s.dev.site.addr.addrInHigh = true → stored = 0 → e.site.addr.state = .listening ∧ e.site.addr.heard = 0)
    ∧ (s.dev.site.addr.addrInHigh = true → stored ≠ 0 → claims stored e))

/-- WALL_CLOCK_WRITE (R389, R390): not while PTP follows a master. -/
def wallClockWrite : Prop := ∀ (a : Ask) (s : State), Takes (.wallClockWrite a) s [] [] (fun w e =>
  s.dev.site.ptp.state ≠ 3 ∧ e.site.ptp = { s.dev.site.ptp with
    wall := w.num - 10 * (siteTime s.dev : Int), slipFrom := (s.dev.site.ptp.slipFrom).map (fun _ => s.dev.time.now), synchronised := false })

/-- REMOVE_NODE (R417): on the master, with the next layout. -/
def removeNode : Prop := ∀ (a : Ask) (s : State), Takes (.removeNode a) s [.eave] [0x13] (fun w e =>
  isMaster s.dev = true ∧ Shown 0x1300 0x0C e
    ∧ e.eave = { s.dev.eave with remove := putBit s.dev.eave.remove ⟨w.nat % 16, Nat.mod_lt _ (by decide)⟩ true, relayout := true })

/-- EXPECTED_SERIAL_WRITE (R417): not of an admitted node. -/
def expectedSerialWrite : Prop := ∀ (a : Ask) (n : Fin 16) (s : State), Takes (.expectedSerialWrite a n) s [] [0x13] (fun w e =>
  admitted n s.dev = false ∧ Stands (0x1310 + n.val) 0x01 w e)

/-! Sample movement and snapshots (chapter 14). -/

/-- A channel's control written (R421, R422, R424): while it runs, or waits for a descriptor, only as the stop request, which a waiting channel
meets at once; else a start of one of channels 0 to 12, or settings. -/
def controlled (c : Fin 16) (w : WriteCall) (d e : Dev) : Prop :=
  let i := 0x1810 + c.val
  (dmaBusy c d = true → stopAlone c w.nat d = true)
  ∧ ((d.dma.chan[c]).state = .running → nat e i 0x04 = nat d i 0x04 % 2 ^ 30 + 3 * 2 ^ 30
      ∧ e.dma = { d.dma with chan := upd d.dma.chan c (fun h => { h with stopAsked := true }) })
  ∧ ((d.dma.chan[c]).state = .waiting → nat e i 0x04 = nat d i 0x04 % 2 ^ 30
      ∧ e.dma = { d.dma with chan := upd d.dma.chan c (fun h => { h with state := .stopped, current := none, stopAsked := false }) })
  ∧ (dmaBusy c d = false → bit w.nat 31 = true → c.val < 13 ∧ nat e i 0x04 = w.nat % 2 ^ 30 + 2 ^ 31 ∧ num e i 0x09 = 0
      ∧ e.dma = { d.dma with chan := upd d.dma.chan c (fun _ => ⟨.running, none, false, w.session, 0, 0⟩) })
  ∧ (dmaBusy c d = false → bit w.nat 31 = false → e.dma = d.dma ∧ nat e i 0x04 = w.nat % 2 ^ 30)

/-- DMA_CHANNEL_START (R422). -/
def dmaChannelStart : Prop := ∀ (a : Ask) (c : Fin 16) (s : State), Takes (.dmaChannelStart a c) s [.dma] [0x18] (fun w e =>
  controlled c w s.dev e)

/-- DMA_STOP_REQUEST (R424): a channel that runs or waits is asked to stop at its descriptor's end. -/
def dmaStopRequest : Prop := ∀ (a : Ask) (c : Fin 16) (s : State), Takes (.dmaStopRequest a c) s [.dma] [0x18] (fun w e =>
  w.nat = 2 ^ 30 ∧ controlled c w s.dev e)

/-- DMA_CHANNEL_REGISTER_WRITE (R420, R425): source, destination and count while the channel rests. -/
def dmaChannelRegisterWrite : Prop := ∀ (a : Ask) (c : Fin 16) (reg : Fin 4) (s : State),
  Takes (.dmaChannelRegisterWrite a c reg) s [.dma] [0x18] (fun w e =>
    (reg.val < 3 → dmaBusy c s.dev = false ∧ Stands (0x1810 + c.val) (reg.val + 1) w e ∧ e.dma = s.dev.dma)
      ∧ (reg.val = 3 → controlled c w s.dev e))

/-- DESCRIPTOR_WRITE (R425): not of a descriptor that a channel holds. -/
def descriptorWrite : Prop := ∀ (a : Ask) (n : Fin 256) (s : State), Takes (.descriptorWrite a n) s [] [0x18] (fun w e =>
  descHeld n s.dev = false ∧ Stands (0x1840 + n.val / 64) (n.val % 64 + 1) w e)

/-- CAPTURE_CLAIM (R427): free capture memory becomes the session's. -/
def captureClaim : Prop := ∀ (a : Ask) (s : State), Takes (.captureClaim a) s [.dma] [0x18] (fun w e =>
  s.dev.dma.capState = .free ∧ Shown 0x1880 0x03 e
    ∧ e.dma = { s.dev.dma with capState := .held, capOwner := w.session, capUsed := 0 })

/-- CAPTURE_RELEASE (R427): by its owner, not while it fills; its content is gone, and every other byte stands. -/
def captureRelease : Prop := ∀ (a : Ask) (s : State), Takes (.captureRelease a) s [.dma] [0x18] (fun w e =>
  s.dev.dma.capState ≠ .filling ∧ s.dev.dma.capOwner = w.session ∧ Shown 0x1880 0x04 e
    ∧ e.dma.capState = .free ∧ e.dma.capOwner = 0 ∧ e.dma.epoch = s.dev.dma.epoch + 1 ∧ e.dma.chan = s.dev.dma.chan
    ∧ (∀ x ∈ e.dma.mem, inCapture x.1 = false) ∧ ∀ x, inCapture x.1 = false → (x ∈ e.dma.mem ↔ x ∈ s.dev.dma.mem))

/-- SNAPSHOT_TRIGGER_COMMAND (R430, R433): within 100 µs of the last trigger it is merged into the newest set; else the oldest set that is not
locked is written anew with source 2 and the session. -/
def snapshotTriggerCommand : Prop := ∀ (a : Ask) (s : State), Takes (.snapshotTriggerCommand a) s [.snap] [0x19] (fun w e =>
  let x := s.dev.snap
  let recent : Prop := ∃ t, x.lastTrigger = some t ∧ s.dev.time.now < t + us 100
  (recent → ∀ i, x.newest = some i →
      e.snap = { x with sets := upd x.sets i (fun y => { y with merged := min 255 (y.merged + 1) }) } ∧ num e 0x1900 0x0A = num s.dev 0x1900 0x0A + 1)
    ∧ (¬ recent → ∃ i, oldestSet s.dev = some i ∧ e.snap.newest = some i ∧ e.snap.nextSeq = x.nextSeq + 1
      ∧ e.snap.lastTrigger = some s.dev.time.now ∧ (e.snap.sets[i]).written = true ∧ (e.snap.sets[i]).seq = x.nextSeq
      ∧ (e.snap.sets[i]).source = 2 ∧ (e.snap.sets[i]).session = w.session ∧ (e.snap.sets[i]).time = siteTime s.dev
      ∧ ∀ j, j ≠ i → e.snap.sets[j] = x.sets[j]))

/-! The life cycle (chapter 15). -/

/-- TRANSITION_ARM (R445): armed for its session by the low 32 bits of the serial number, and disarmed by anything else. -/
def transitionArm : Prop := ∀ (a : Ask) (s : State), Takes (.transitionArm a) s [] [] (fun w e =>
  e.sys.keys.armed = if w.nat = Config.serial.toNat % 2 ^ 32 then some (w.session, s.dev.time.now) else none)

/-- A transition commanded (R444, R445): by session 5, armed within 10 s, where Table 15.2 allows it; the notice waits for the field side, and
the arm is spent. -/
def transits (n : Nat) (d : Dev) (w : WriteCall) (e : Dev) : Prop :=
  w.session = 5 ∧ armHolds 5 d = true ∧ oneTransition (lifeOf d) n = true ∧ transitionMay n d = true ∧ Shown 0x1A00 0x04 e
    ∧ e.sys.keys = { d.sys.keys with armed := none } ∧ ∃ m, lastOf .hf 1 e = some m ∧ m.type = 0x18 ∧ m.items = [(n : Int)]

/-- TRANSITION_TO_FIELD (R444). -/
def transitionToField : Prop := ∀ (a : Ask) (s : State), Takes (.transitionToField a) s [] [0x1A] (fun w e => transits 3 s.dev w e)
/-- TRANSITION_TO_RETURN (R444). -/
def transitionToReturn : Prop := ∀ (a : Ask) (s : State), Takes (.transitionToReturn a) s [] [0x1A] (fun w e => transits 4 s.dev w e)
/-- TRANSITION_TO_DECOMMISSIONED (R444). -/
def transitionToDecommissioned : Prop := ∀ (a : Ask) (s : State), Takes (.transitionToDecommissioned a) s [] [0x1A] (fun w e =>
  transits 5 s.dev w e)

/-! Keys (chapter 15). -/

/-- A blob that wraps a key (R447): under the host root of the life-cycle state, its header authenticated, its nonce the generator's next. -/
def wrapped (k : Fin 64) (alg usage : Nat) (plain nonce : List Byte) (d e : Dev) : Prop :=
  ∃ b, e.sys.keys.blob[k] = some b ∧ b.algorithm = alg ∧ b.usage = usage ∧ b.state = lifeOf d ∧ b.count = nat d 0x1A00 0x02
    ∧ b.nonce = nonce.take 12 ∧ (b.cipher, b.tag) = Config.aesGcm (hostRoot d) b.nonce (blobHead k alg usage d) plain
    ∧ ∀ j, j ≠ k → e.sys.keys.blob[j] = d.sys.keys.blob[j]

/-- KEY_VALUE_WRITE (R449): a privileged write of a key as long as its algorithm's, where none is usable. -/
def keyValueWrite : Prop := ∀ (a : Ask) (k : Fin 64) (s : State), Takes (.keyValueWrite a k) s [] [] (fun w e =>
  let alg := nat s.dev (keyIdx k) 0x01
  privileged w.session s.dev = true ∧ keyPresent k s.dev = false ∧ keyLength alg = some w.bytes.length
    ∧ wrapped k alg (nat s.dev (keyIdx k) 0x02) w.bytes (Config.drbg s.dev.sys.keys.drawn) s.dev e
    ∧ e.sys.keys.drawn = s.dev.sys.keys.drawn + 1)

/-- KEY_GENERATE (R450): the secret is the generator's next, wrapped with the draw after it, and the public key becomes readable. -/
def keyGenerate : Prop := ∀ (a : Ask) (k : Fin 64) (s : State), Takes (.keyGenerate a k) s [] [0x1A] (fun w e =>
  let alg := nat s.dev (keyIdx k) 0x01
  let secret := Config.drbg s.dev.sys.keys.drawn
  privileged w.session s.dev = true ∧ keyPresent k s.dev = false ∧ (alg = 1 ∨ alg = 2) ∧ Shown (keyIdx k) 0x04 e
    ∧ getVal e (key (keyIdx k) 0x05) = .oct (Config.publicKey alg secret)
    ∧ wrapped k alg (nat s.dev (keyIdx k) 0x02) secret (Config.drbg (s.dev.sys.keys.drawn + 1)) s.dev e
    ∧ e.sys.keys.drawn = s.dev.sys.keys.drawn + 2)

/-- KEY_DELETE (R449): the blob and every slot copy are gone, with what the entries show of them. -/
def keyDelete : Prop := ∀ (a : Ask) (k : Fin 64) (s : State), Takes (.keyDelete a k) s [] [0x1A] (fun w e =>
  privileged w.session s.dev = true ∧ Shown (keyIdx k) 0x07 e ∧ e.sys.keys.blob[k] = none
    ∧ (∀ j, j ≠ k → e.sys.keys.blob[j] = s.dev.sys.keys.blob[j])
    ∧ (∀ (i : Fin 16) (x : KeySlot), e.sys.keys.slot[i] = some x → x.key ≠ k)
    ∧ (∀ (i : Fin 16) (x : KeySlot), s.dev.sys.keys.slot[i] = some x → x.key ≠ k → e.sys.keys.slot[i] = some x)
    ∧ num e (keyIdx k) 0x01 = 0 ∧ num e (keyIdx k) 0x02 = 0 ∧ getVal e (key (keyIdx k) 0x05) = .oct [])

/-- PUBLIC_ITEM_WRITE (R449, R452): privileged, and a certificate must parse; the item stands in a blob of its own. The administrator list is
session 5's alone. -/
def publicItemWrite : Prop := ∀ (a : Ask) (index sub : Nat) (s : State), publicItemEntry index sub = true →
  Takes (.publicItemWrite a index sub) s [] [0x1A] (fun w e => getVal e (key index sub) = .oct w.bytes
    ∧ (index = 0x1A11 → w.session = 5 ∧ e.sys.keys = s.dev.sys.keys)
    ∧ (index ≠ 0x1A11 → privileged w.session s.dev = true
      ∧ (w.bytes = [] → e.sys.keys.items = s.dev.sys.keys.items.filter (fun x => x.1 != key index sub))
      ∧ (w.bytes ≠ [] → ∃ b, e.sys.keys.items = s.dev.sys.keys.items.filter (fun x => x.1 != key index sub) ++ [(key index sub, b)]
        ∧ b.cipher = w.bytes ∧ b.state = lifeOf s.dev ∧ b.count = nat s.dev 0x1A00 0x02
        ∧ b.nonce = (Config.drbg s.dev.sys.keys.drawn).take 12 ∧ e.sys.keys.drawn = s.dev.sys.keys.drawn + 1)
      ∧ (index = 0x1A23 ∨ w.bytes = [] ∨ Config.certificateOk w.bytes = true)))

/-! Images and leaves (chapter 15). -/

/-- IMAGE_STAGE (R455): a privileged write of a whole image of its type; it is STAGED in the place of the previous one, and goes to a field-side
island in blocks of 1016 bytes. -/
def imageStage : Prop := ∀ (a : Ask) (t : Fin 5) (s : State), Takes (.imageStage a t) s [] [0x1B] (fun w e =>
  privileged w.session s.dev = true ∧ stagingOk t w.bytes = true ∧ w.bytes.length ≤ largestImage t ∧ num s.dev (imgIdx t) 0x03 ≠ 1
    ∧ (∀ x, s.dev.sys.act = some x → x.type ≠ t) ∧ (e.sys.img[t]).flash = [] ∧ (e.sys.img[t]).acked = 0
    ∧ (e.sys.img[t]).staged = some w.bytes ∧ (e.sys.img[t]).previous = none ∧ (e.sys.img[t]).running = (s.dev.sys.img[t]).running
    ∧ num e (imgIdx t) 0x05 = (hdrVersion w.bytes : Nat) ∧ num e (imgIdx t) 0x06 = 1 ∧ num e (imgIdx t) 0x04 = 0
    ∧ (e.barrier.hf.queue[(3 : Fin 4)]).length = (s.dev.barrier.hf.queue[(3 : Fin 4)]).length
        + (if (imageIsland t).isSome then ceilDiv w.bytes.length 1016 else 0)
    ∧ ∀ u, u ≠ t → e.sys.img[u] = s.dev.sys.img[u])

/-- DISCARD_STAGED (Table 15.13): the staged image is gone. -/
def discardStaged : Prop := ∀ (a : Ask) (t : Fin 5) (s : State), Takes (.discardStaged a t) s [] [0x1B] (fun _ e =>
  e.sys.img[t] = { s.dev.sys.img[t] with staged := none } ∧ num e (imgIdx t) 0x05 = 0 ∧ num e (imgIdx t) 0x06 = 0
    ∧ Shown (imgIdx t) 0x0A e)

/-- The parts that the restart of an island may change. -/
def restartParts : List Part := writeParts ++ [.isl, .dma, .snap, .log, .ring, .brick, .drive, .leg, .sync, .rail, .ratio, .eng, .alloc, .out,
  .vehicle, .safety, .load, .pair, .eave]

/-- FALL_BACK (R457): of a trial image; its island restarts with cause 3, on the previous image. -/
def fallBack : Prop := ∀ (a : Ask) (t : Fin 5) (s : State) (h : Served), served (.fallBack a t) s.dev = some h → h.taken = true →
  Gives (.fallBack a t) s (fun e => num s.dev (imgIdx t) 0x03 = 1
    ∧ e.isl[activated t] = .running ∧ num e 0x1001 ((activated t).val + 1) = 3
    ∧ (∀ p, (s.dev.sys.img[t]).previous = some p → (e.sys.img[t]).running = p ∧ (e.sys.img[t]).previous = none)
    ∧ ∀ p, p ∉ restartParts → same p s.dev e)

/-- The parts that the first steps of an activation may change. -/
def activationParts : List Part := [.isl, .dma, .snap, .log, .ring, .brick, .leg, .rail, .ratio, .eng, .out, .safety, .metro, .freeCount]

/-- ACTIVATE_MODULE (R459 to R462): of a STAGED image whose conditions hold, with no activation and no commit under way. FX first gives every
outlet in charge cause 2; any other island stops at once. -/
def activateModule : Prop := ∀ (a : Ask) (t : Fin 5) (s : State),
  Takes (.activateModule a t) s activationParts [0x19, 0x1B, 0x30, 0x40] (fun w e =>
    privileged w.session s.dev = true ∧ s.dev.sys.act = none ∧ num s.dev (imgIdx t) 0x06 = 1 ∧ activationMay t false s.dev = true
      ∧ num e (imgIdx t) 0x06 = 2
      ∧ (t.val = 1 → e.sys.act = some ⟨t, false, s.dev.time.now, none, false, false⟩ ∧ num e 0x1B20 0x02 = 1
        ∧ ∀ k : Fin 12, inCharge (s.dev.out[k]).state = true → causeNoted k 2 s.dev e)
      ∧ (t.val ≠ 1 → e.sys.act = some ⟨t, false, s.dev.time.now, some s.dev.time.now, false, false⟩ ∧ num e 0x1B20 0x02 = 4
        ∧ (s.dev.isl[activated t] ≠ .off → e.isl[activated t] = .updating))
      ∧ (t.val = 0 → ∀ n : Fin 6, n.val < 5 → (e.site.sessions[n]).conn = none))

/-- ACTIVATE_PAIR (R463): on the ACTIVE module of a pair in step; the partner updates first. -/
def activatePair : Prop := ∀ (a : Ask) (t : Fin 5) (s : State), Takes (.activatePair a t) s [.freeCount] [0x1B] (fun w e =>
  privileged w.session s.dev = true ∧ roleOf s.dev = 2 ∧ (∃ p, s.dev.pair.partner = some p ∧ p.inStep = true) ∧ s.dev.sys.act = none
    ∧ e.sys.act = some ⟨t, true, s.dev.time.now, none, false, false⟩ ∧ num e 0x1B20 0x02 = 2 ∧ num e (imgIdx t) 0x06 = 2)

/-- A commit asked of a store (R470): none after a power-fail warning, not within 1 s of the last; else the running values of its P entries
are being written. -/
def committed (st : Fin 2) (values d e : Dev) : Prop :=
  let x := d.sys.store[st]
  let y := e.sys.store[st]
  let early : Prop := ∃ t, x.lastCommit = some t ∧ d.time.now < t + sec 1
  (powerWarned st d = true → y.writing = none ∧ y.waits = x.waits)
  ∧ (powerWarned st d = false → early → y.writing = none ∧ y.waits = true)
  ∧ (powerWarned st d = false → ¬ early → y.writing = some (captureBody st values) ∧ y.unsaved = none
      ∧ y.lastCommit = some d.time.now ∧ y.waits = false)

/-- COMMIT (R470): of both stores, while neither is being written. -/
def commit : Prop := ∀ (a : Ask) (s : State), Takes (.commit a) s [] [0x1B] (fun _ e =>
  (∀ st : Fin 2, (s.dev.sys.store[st]).writing = none ∧ committed st s.dev s.dev e) ∧ Shown 0x1B40 0x01 e)

/-- RESTORE_DEFAULTS (R472): with every outlet out of service, every P entry of the stores but the exempt ones holds its default, and nothing
else changes; then both stores are committed. -/
def restoreDefaults : Prop := ∀ (a : Ask) (s : State) (h : Served), served (.restoreDefaults a) s.dev = some h → h.taken = true →
  Gives (.restoreDefaults a) s (fun e =>
    let lost (k : Nat) : Prop := ∃ r, rowOf (k / 256) (k % 256) = some r ∧ r.keep = .p ∧ (storeOf (k / 256) (k % 256)).isSome = true
      ∧ restoreExempt (k / 256) (k % 256) = false
    allOutOfService s.dev = true ∧ (∀ k, k / 65536 ≠ 0x12 → lost k → getVal e k = defaultOf k)
      ∧ (∀ k, k / 65536 ≠ 0x12 → k ≠ key 0x1B40 0x04 → ¬ lost k → getVal e k = getVal s.dev k)
      ∧ (∀ st : Fin 2, (s.dev.sys.store[st]).writing = none → committed st
          { s.dev with regs := s.dev.regs.filter (fun x => !(match rowOf (x.1 / 256) (x.1 % 256) with
            | some r => r.keep == .p && (storeOf (x.1 / 256) (x.1 % 256)).isSome && !restoreExempt (x.1 / 256) (x.1 % 256)
            | none => false)) } s.dev e)
      ∧ ∀ p, p ∉ writeParts ++ [.brick, .drive] → same p s.dev e)

end Sys2Proof.Claims
end

