-- ==== Sys2Proof/Claims/Frames.lean ====
section
/-! DEFINITION. What commands leave as it was, whatever they do (the frame): for each, the parts of the module that it may change, where
the instant alone may always rise, and the groups of entries, by the high byte of their index, that it may change. -/
namespace Sys2Proof.Claims
open Machine

/-- Wherever the command answers a next state, the queue stands and nothing changed outside these parts and the register file. -/
def Keeps (c : Instr) (parts : List Part) : Prop :=
  ∀ s t, exec c s = .next t → t.pending = s.pending ∧ ∀ p, p ∉ parts → same p s.dev t.dev

/-- The time base, the barrier, snapshots and the event log: what each of their commands leaves (chapters 1 and 14). -/
def timeAndBarrierFrames : Prop :=
  (∀ x0 x1, Framed (.heartbeat x0 x1) [.barrier, .site, .log, .sys] [0x10, 0x12, 0x19])
  ∧ (∀ x0, Framed (.barrierLoss x0) [.barrier, .site, .snap, .log, .out, .pair] [0x10, 0x12, 0x19])
  ∧ (∀ x0 x1, Framed (.timeMark x0 x1) [.time, .chan, .freeCount] [0x10])
  ∧ (∀ x0, Framed (.channelStale x0) [.time, .chan, .barrier, .snap, .log, .eng, .safety, .load] [0x19])
  ∧ (∀ x0, Framed (.referenceSwitch x0) [.time, .barrier, .snap, .log] [0x10, 0x19])
  ∧ (∀ x0 x1, Framed (.peerTimeTransfer x0 x1) [.time, .chan, .pair] [])
  ∧ (∀ x0, Framed (.laneNextMessage x0) [.barrier, .log, .metro] [0x10])
  ∧ (∀ x0, Framed (.laneRealign x0) [.barrier] [])
  ∧ (∀ x0, Keeps (.dictionaryRequest x0) [.isl, .barrier, .site, .dma, .snap, .log, .ring, .brick, .drive, .leg, .sync, .rail, .ratio, .eng, .alloc, .out, .vehicle, .safety, .metro, .load, .pair, .eave, .sys, .freeCount])
  ∧ (∀ x0, Framed (.dictionaryResponse x0) [.barrier, .site, .log] [0x10, 0x12, 0x19])
  ∧ (∀ x0 x1, Framed (.sessionNotice x0 x1) [.barrier, .site, .dma, .log, .safety, .metro] [0x10, 0x19, 0x40])
  ∧ (∀ x0, Framed (.ridgeFrameFromSafety x0) [.barrier, .site, .log, .eave] [0x10, 0x12, 0x19])
  ∧ (∀ x0, Framed (.scribeNotice x0) [.barrier, .snap, .log] [0x10, 0x19])
  ∧ (∀ x0 x1 x2, Framed (.snapshotFragment x0 x1 x2) [.barrier, .snap, .log] [0x10, 0x19])
  ∧ (∀ x0, Framed (.event x0) [.barrier, .log] [0x10, 0x19])
  ∧ (Framed .safetyFeed [.chan, .safety] [])
  ∧ (Framed .wallClockOffsetSend [.barrier] [])
  ∧ (∀ x0, Framed (.snapInEdge x0) [.barrier, .snap] [0x19])
  ∧ (Framed .partnerScribeTrigger [.barrier, .snap] [0x19])
  ∧ (Framed .snapshotFieldStore [.snap, .dma] [])
  ∧ (∀ x0, Framed (.snapshotSetValid x0) [.snap] [])
  ∧ (∀ x0 x1 x2, Framed (.eventRaised x0 x1 x2) [.barrier, .snap, .log] [0x19])
  ∧ (∀ x0, Framed (.eventQueueRoom x0) [.barrier, .snap, .log] [0x19])
  ∧ (Framed .eventLogFlush [.log] [])
  ∧ (∀ x0, Framed (.holdoverLimit x0) [.time] [])

/-- The ring, the links and the legs (chapters 1 to 3). -/
def ringFrames : Prop :=
  (∀ x0, Framed (.contactorTravelConfirmed x0) [.ring, .brick, .leg, .rail, .ratio, .eng] [0x22, 0x28])
  ∧ (∀ x0, Framed (.contactorTravelFault x0) [.barrier, .snap, .log, .ring, .brick] [0x19])
  ∧ (∀ x0, Framed (.contactDisagreement x0) [.barrier, .snap, .log, .ring, .brick] [0x19])
  ∧ (∀ x0 x1, Framed (.uplinkDeadline x0 x1) [.barrier, .snap, .log, .brick, .drive, .leg, .card, .eng, .freeCount] [0x19, 0x21, 0x22])
  ∧ (∀ x0, Framed (.linkHoldExpiry x0) [.ring, .brick, .leg] [])
  ∧ (∀ x0, Framed (.brickLinkUp x0) [.brick, .drive] [])
  ∧ (∀ x0, Framed (.legLostRecovery x0) [.leg] [])
  ∧ (∀ x0 x1, Framed (.portDelayMeasurement x0 x1) [.barrier, .snap, .log, .brick, .drive] [0x19])
  ∧ (∀ x0 x1 x2, Framed (.downlinkFrameAccept x0 x1 x2) [.card] [])
  ∧ (∀ x0, Framed (.cardDownlinkDeadline x0) [.card] [])
  ∧ (∀ x0, Framed (.cardContactorHold x0) [.card] [])
  ∧ (∀ x0 x1 x2, Framed (.serviceRequest x0 x1 x2) [.card] [])
  ∧ (∀ x0, Framed (.syncInEdge x0) [.sync] [])
  ∧ (∀ x0, Framed (.syncLoss x0) [.barrier, .snap, .log, .sync] [0x19, 0x23])
  ∧ (∀ x0, Framed (.diodeEmulationEntry x0) [.leg] [])
  ∧ (∀ x0, Framed (.shedDwellExpiry x0) [.ring, .leg] [])
  ∧ (∀ x0, Framed (.brakingWindowEnd x0) [.barrier, .snap, .log, .leg] [0x19])
  ∧ (∀ x0, Framed (.senseImplausible x0) [.barrier, .snap, .log, .leg] [0x19])
  ∧ (∀ x0, Framed (.telemetryWindowEnd x0) [.brick, .leg] [0x21, 0x22])

/-- Rails, the loop engine and the allocator (chapters 4 to 6). -/
def powerFrames : Prop :=
  (∀ x0 x1, Framed (.sitePowerData x0 x1) [.barrier, .log, .alloc, .out] [0x10, 0x19])
  ∧ (∀ x0, Framed (.startSettleExpiry x0) [.rail] [])
  ∧ (∀ x0, Framed (.trackingTimeout x0) [.leg, .rail, .ratio, .eng] [])
  ∧ (∀ x0, Framed (.ratiometricPauseLimit x0) [.rail, .ratio] [])
  ∧ (∀ x0, Framed (.drainTimeout x0) [.leg, .rail, .ratio, .eng] [])
  ∧ (∀ x0, Framed (.episodePause x0) [.rail] [])
  ∧ (∀ x0, Framed (.railSenseLost x0) [.rail, .ratio, .eng, .leg] [])
  ∧ (∀ x0, Framed (.generatorStartDelayExpiry x0) [.eng] [])
  ∧ (∀ x0, Framed (.thermalInputStale x0) [.eng] [])
  ∧ (∀ x0, Framed (.injectionEnd x0) [.dma, .eng] [0x27])
  ∧ (∀ x0, Framed (.followingErrorTimer x0) [.barrier, .snap, .log, .eng] [0x19])
  ∧ (Framed .planningCycle [.alloc] [])
  ∧ (Framed .planningOverrun [.barrier, .snap, .log, .alloc] [0x19, 0x28])
  ∧ (Framed .gridLimitExpiry [.barrier, .snap, .log, .alloc] [0x19])
  ∧ (∀ x0, Framed (.frontEndStale x0) [.barrier, .snap, .log, .alloc] [0x19])
  ∧ (∀ x0, Framed (.frontEndStaleHoldExpiry x0) [.alloc] [])
  ∧ (∀ x0, Framed (.moveStart x0) [.barrier, .snap, .log, .leg, .rail, .eng, .alloc] [0x19, 0x28])
  ∧ (∀ x0, Framed (.handoverEnd x0) [.barrier, .snap, .log, .leg, .eng, .alloc] [0x19, 0x28])
  ∧ (∀ x0, Framed (.handoverTimeout x0) [.barrier, .snap, .log, .eng, .alloc, .brick, .ring] [0x19, 0x28])
  ∧ (∀ x0, Framed (.openWaitLimit x0) [.barrier, .snap, .log, .ring, .brick, .eng, .alloc] [0x19, 0x28])
  ∧ (∀ x0, Framed (.restoreWaitLimit x0) [.barrier, .snap, .log, .ring, .brick, .leg, .rail, .ratio, .eng, .alloc] [0x19, 0x28])
  ∧ (∀ x0, Framed (.releaseHoldExpiry x0) [.alloc] [])

/-- Outlets, vehicles and heads (chapter 7). -/
def outletFrames : Prop :=
  (∀ x0, Framed (.vehicleTargetUpdate x0) [.barrier, .log, .out] [0x10, 0x19, 0x30])
  ∧ (∀ x0, Framed (.outletStatus x0) [.barrier, .log, .vehicle] [0x10, 0x19])
  ∧ (∀ x0 x1, Framed (.headData x0 x1) [.barrier, .log, .eng, .out] [0x10, 0x19])
  ∧ (∀ x0, Framed (.connectionDetected x0) [.out] [])
  ∧ (∀ x0, Framed (.unplugDetected x0) [.out] [])
  ∧ (∀ x0, Framed (.plugTimeout x0) [.out] [])
  ∧ (∀ x0, Framed (.targetTimeout x0) [.out] [])
  ∧ (∀ x0, Framed (.authorizationTimeout x0) [.barrier, .vehicle] [0x31])
  ∧ (∀ x0 x1, Framed (.vehicleMessage x0 x1) [.barrier, .vehicle, .freeCount, .eave] [0x31])
  ∧ (∀ x0, Framed (.cableCheckRailReady x0) [.leg, .rail, .eng, .out] [])
  ∧ (∀ x0, Framed (.imdSettleExpiry x0) [.barrier, .out] [])
  ∧ (∀ x0, Framed (.cableCheckTimeout x0) [.out] [])
  ∧ (∀ x0, Framed (.cableShort x0) [.out] [])
  ∧ (∀ x0 x1 x2 x3, Framed (.imdReading x0 x1 x2 x3) [.out] [])
  ∧ (∀ x0, Framed (.imdAgeExpiry x0) [.out] [])
  ∧ (∀ x0, Framed (.directionChangeComplete x0) [.out] [])
  ∧ (∀ x0, Framed (.fastStopEnd x0) [.eng, .out] [])
  ∧ (∀ x0, Framed (.outletContactorOpen x0) [.ring, .brick] [])
  ∧ (∀ x0, Framed (.faultedRailStop x0) [.leg, .rail, .ratio, .eng, .out] [])
  ∧ (∀ x0, Framed (.winddownTimeout x0) [.out] [])
  ∧ (∀ x0, Framed (.weldCheckPass x0) [.out] [])
  ∧ (∀ x0, Framed (.cableDischargeExpiry x0) [.out] [])
  ∧ (∀ x0, Framed (.headStale x0) [.out] [])
  ∧ (Framed .deratingUpdate [.out] [])
  ∧ (∀ x0, Framed (.flowFault x0) [.out] [])
  ∧ (∀ x0, Framed (.flowFaultClear x0) [.out] [])
  ∧ (∀ x0, Framed (.runOnExpiry x0) [.out] [])
  ∧ (∀ x0, Framed (.switchOverTargetHoldExpiry x0) [.out] [])

/-- Metrology (chapter 8). -/
def metrologyFrames : Prop :=
  (∀ x0, Framed (.meteringRecord x0) [.barrier, .log, .metro] [0x10, 0x19])
  ∧ (∀ x0, Framed (.meteringRecordAcknowledge x0) [.barrier, .log, .metro] [0x10, 0x19])
  ∧ (∀ x0, Framed (.meteringRecordRetransmit x0) [.barrier, .metro] [])
  ∧ (Framed .powerFailNotice [.metro] [])
  ∧ (∀ x0 x1 x2, Framed (.meteringUplinkFrame x0 x1 x2) [.metro] [0x38])
  ∧ (∀ x0, Framed (.meteringDownlinkFrame x0) [.metro] [])
  ∧ (Framed .meteringIntervalEnd [.chan, .rail, .out, .metro] [0x38])
  ∧ (∀ x0, Framed (.pulseBacklogIssue x0) [.metro] [0x38])
  ∧ (∀ x0, Framed (.testPulseEdge x0) [.metro] [0x38])
  ∧ (∀ x0, Framed (.meteringLinkDown x0) [.metro] [])
  ∧ (∀ x0, Framed (.meteringLinkUp x0) [.metro] [])
  ∧ (∀ x0 x1 x2 x3, Framed (.outletStatusCopy x0 x1 x2 x3) [.metro] [])
  ∧ (∀ x0, Framed (.meteringSessionOpen x0) [.metro] [0x38])
  ∧ (∀ x0, Framed (.meteringSessionClose x0) [.metro] [0x38])
  ∧ (Framed .recordSigned [.barrier, .metro] [0x38])
  ∧ (∀ x0, Framed (.lateStartWitness x0) [.metro] [])
  ∧ (Framed .metrologyRestartContinuation [.barrier, .snap, .log, .metro] [0x19, 0x38])
  ∧ (Framed .periodicSave [.metro] [0x38])
  ∧ (Framed .finalWriteStart [.metro, .freeCount, .sys] [0x38])
  ∧ (Framed .metrologyStartClose [.barrier, .snap, .log, .metro] [0x19, 0x38])
  ∧ (Framed .metrologyWindowExpiry [.metro] [])

/-- Safety (chapter 9). -/
def safetyFrames : Prop :=
  (∀ x0, Framed (.ridgeFrameToSafety x0) [.barrier, .snap, .log, .safety] [0x10, 0x19, 0x40])
  ∧ (∀ x0 x1 x2, Keeps (.safetyCycle x0 x1 x2) [.barrier, .snap, .log, .safety, .freeCount])
  ∧ (∀ x0 x1 x2, Framed (.safetyInputSample x0 x1 x2) [.safety] [])
  ∧ (∀ x0, Framed (.discrepancyTimeout x0) [.barrier, .snap, .log, .safety] [0x19])
  ∧ (∀ x0 x1 x2, Framed (.darkPulseTest x0 x1 x2) [.safety] [0x40])
  ∧ (∀ x0 x1, Framed (.darkPulseTimeout x0 x1) [.barrier, .snap, .log, .safety] [0x19, 0x40])
  ∧ (∀ x0, Framed (.chargePumpTimeout x0) [.safety] [])
  ∧ (∀ x0, Framed (.coreDisagreement x0) [.safety] [0x40])
  ∧ (∀ x0, Framed (.safetySelfTestComplete x0) [.safety] [0x40])
  ∧ (∀ x0, Framed (.currentWaitTimeout x0) [.barrier, .snap, .log, .safety] [0x19])
  ∧ (∀ x0, Framed (.feedbackTimerEnd x0) [.barrier, .snap, .log, .safety] [0x19])
  ∧ (∀ x0, Framed (.ridgeWatchdog x0) [.safety] [0x40])
  ∧ (∀ x0, Framed (.ridgeFaultRecovery x0) [.safety] [])
  ∧ (∀ x0, Framed (.ridgeAcknowledge x0) [.barrier, .snap, .log, .safety] [0x10, 0x19, 0x40])
  ∧ (∀ x0, Framed (.ridgeProducerWatchdog x0) [.barrier, .safety] [0x40])
  ∧ (Framed .passwordHoldExpiry [.safety] [])
  ∧ (Framed .transactionTimeout [.safety] [0x40])
  ∧ (Framed .lockoutExpiry [.safety] [])

/-- Load channels (chapter 10). -/
def loadFrames : Prop :=
  (Framed .loadCommandTransfer [.chan, .load] [])
  ∧ (∀ x0 x1, Framed (.wireModelUpdate x0 x1) [.chan, .barrier, .snap, .log, .load] [0x19, 0x44])
  ∧ (∀ x0, Framed (.shortCircuitTrip x0) [.barrier, .snap, .log, .load] [0x19, 0x44])
  ∧ (∀ x0, Framed (.retryDelayExpiry x0) [.load] [])
  ∧ (∀ x0, Framed (.retryResetExpiry x0) [.load] [])
  ∧ (∀ x0 x1, Framed (.junctionLatch x0 x1) [.load] [])
  ∧ (∀ x0, Framed (.clampEvent x0) [.load] [])
  ∧ (∀ x0, Framed (.senseScanStep x0) [.barrier, .snap, .log, .load] [0x19])
  ∧ (∀ x0, Framed (.extselChange x0) [.barrier, .snap, .log, .load] [0x19])
  ∧ (∀ x0, Framed (.limpNChange x0) [.load] [])
  ∧ (∀ x0 x1, Framed (.lhInChange x0 x1) [.load] [])
  ∧ (Framed .loadCommandStale [.chan, .barrier, .snap, .log, .load] [0x19])
  ∧ (Framed .orphanTimeout [.load] [0x44])
  ∧ (Framed .dissipationEstimate [.barrier, .snap, .log, .load] [0x19, 0x44])
  ∧ (∀ x0, Framed (.openLoadDetection x0) [.load] [])
  ∧ (Framed .loadSupplyLow [.barrier, .snap, .log, .load] [0x19])
  ∧ (Framed .loadSupplyReturn [.load, .chan, .isl, .sys] [0x10, 0x44])

/-- Pairing (chapter 11). -/
def pairFrames : Prop :=
  (Framed .dowelRenewalSend [.pair] [])
  ∧ (∀ x0, Framed (.dowelRenewal x0) [.pair, .metro] [0x1C])
  ∧ (Framed .leaseExpiry [] [0x1C])
  ∧ (Framed .bidGuardExpiry [.barrier, .snap, .log, .pair, .metro] [0x19, 0x1C])
  ∧ (∀ x0, Framed (.bid x0) [.pair, .metro] [0x1C])
  ∧ (∀ x0, Framed (.bidAnswer x0) [.site, .ring, .out, .vehicle, .metro, .pair] [0x1C, 0x44])
  ∧ (Framed .bidWaitExpiry [.site, .ring, .out, .vehicle, .metro, .pair] [0x1C, 0x44])
  ∧ (Framed .leaseSupportLost [.pair] [])
  ∧ (Framed .holderLeaseEnd [.pair, .metro] [0x1C])
  ∧ (∀ x0, Framed (.yield x0) [.pair] [])
  ∧ (∀ x0, Framed (.yieldAcknowledge x0) [.pair] [])
  ∧ (Framed .yieldAckTimeout [.barrier, .snap, .log, .pair] [0x19])
  ∧ (Framed .swapBoundary [.site, .ring, .out, .vehicle, .metro, .pair] [0x1C, 0x44])
  ∧ (∀ x0 x1, Keeps (.mirrorBlock x0 x1) [.ring, .brick, .leg, .rail, .ratio, .eng, .alloc, .out, .load, .pair, .sync])
  ∧ (∀ x0 x1, Framed (.peerStatus x0 x1) [.barrier, .snap, .log, .pair] [0x19, 0x1C])
  ∧ (∀ x0, Framed (.peerPortUp x0) [.pair] [])
  ∧ (∀ x0, Framed (.peerPortDown x0) [.pair] [])
  ∧ (∀ x0 x1, Framed (.bulkRequest x0 x1) [.pair] [])
  ∧ (∀ x0 x1, Keeps (.bulkData x0 x1) [.pair, .sys])
  ∧ (∀ x0 x1 x2, Framed (.resynchronisation x0 x1 x2) [.time, .barrier, .snap, .log, .sync, .metro, .pair] [0x19, 0x38])
  ∧ (Framed .resyncTimeout [.barrier, .snap, .log, .pair] [0x19])
  ∧ (Framed .inStepGained [.pair] [0x1C])
  ∧ (∀ x0, Framed (.inStepLost x0) [.pair, .metro] [0x1C])
  ∧ (Framed .partnerWaitExpiry [.barrier, .snap, .log, .pair] [0x19])

/-- The site bus and the times of sessions (chapter 12). -/
def siteFrames : Prop :=
  (∀ x0 x1 x2 x3, Framed (.canFrameReceived x0 x1 x2 x3) [.site] [0x12])
  ∧ (∀ x0, Framed (.canFrameTransmitted x0) [.site] [])
  ∧ (∀ x0, Framed (.stagingAdmission x0) [.site] [0x12])
  ∧ (∀ x0, Framed (.busOff x0) [.barrier, .site, .snap, .log] [0x12, 0x19])
  ∧ (∀ x0, Framed (.busOffRecovery x0) [.site] [0x12])
  ∧ (Framed .canHeartbeat [.site] [0x12])
  ∧ (Framed .addrInHigh [.site] [0x12])
  ∧ (Framed .addressListenExpiry [.barrier, .site, .snap, .log] [0x12, 0x19])
  ∧ (Framed .claimListenExpiry [.site, .sys] [0x12])
  ∧ (∀ x0 x1, Framed (.addressClaim x0 x1) [.barrier, .site, .snap, .log] [0x12, 0x19])
  ∧ (Framed .claimRetryDelay [.site, .freeCount] [0x12])
  ∧ (∀ x0 x1, Framed (.frontEndStatus x0 x1) [.barrier, .site] [0x12])
  ∧ (∀ x0 x1, Framed (.imdReadingFrame x0 x1) [.barrier, .site] [])
  ∧ (∀ x0, Framed (.imdCommand x0) [.site] [0x12])
  ∧ (∀ x0 x1, Framed (.openSession x0 x1) [.barrier, .site, .dma, .safety, .metro, .freeCount] [0x12, 0x14, 0x40])
  ∧ (∀ x0, Framed (.transferTimeout x0) [.site] [0x12])
  ∧ (∀ x0, Framed (.publication x0) [.barrier, .site, .freeCount] [0x11, 0x12])
  ∧ (∀ x0, Framed (.sessionTimeout x0) [.barrier, .site, .dma, .safety, .metro] [0x40])
  ∧ (Framed .usbChallengeExpiry [.site] [])
  ∧ (∀ x0, Framed (.tlsConnection x0) [.site] [])
  ∧ (∀ x0, Framed (.tlsHandshakeTimeout x0) [.site] [0x14])
  ∧ (∀ x0, Framed (.tlsIdleTimeout x0) [.site] [])
  ∧ (∀ x0, Framed (.ptpSync x0) [.site, .freeCount] [])
  ∧ (Framed .ptpSyncLoss [.site] [])
  ∧ (∀ x0 x1, Framed (.ethernetLinkChange x0 x1) [.site] [])

/-- The services of the dictionary server but the writes (chapter 12). -/
def serverFrames : Prop :=
  (∀ x0, Framed (.closeSession x0) [.barrier, .site, .dma, .safety, .metro] [0x11, 0x12, 0x40])
  ∧ (∀ x0, Framed (.keepAlive x0) [.barrier, .site] [0x11, 0x12])
  ∧ (∀ x0 x1 x2, Framed (.read x0 x1 x2) [.barrier, .site, .freeCount] [0x11, 0x12])
  ∧ (∀ x0 x1 x2, Framed (.readSegmentedStart x0 x1 x2) [.barrier, .site, .freeCount] [0x11, 0x12])
  ∧ (∀ x0 x1 x2, Framed (.readSegment x0 x1 x2) [.barrier, .site, .freeCount] [0x11, 0x12])
  ∧ (∀ x0 x1 x2, Framed (.writeSegmentedStart x0 x1 x2) [.barrier, .site, .freeCount] [0x11, 0x12])
  ∧ (∀ x0, Framed (.transferAbandon x0) [.barrier, .site, .freeCount] [0x11, 0x12])
  ∧ (∀ x0 x1, Framed (.claimGroup x0 x1) [.barrier, .site, .snap, .log] [0x11, 0x12, 0x19])
  ∧ (∀ x0 x1, Framed (.releaseGroup x0 x1) [.barrier, .site, .snap, .log] [0x11, 0x12, 0x19])
  ∧ (∀ x0 x1, Framed (.queryOwner x0 x1) [.barrier, .site, .snap, .log] [0x11, 0x12, 0x19])
  ∧ (∀ x0, Framed (.subscribe x0) [.site] [0x11, 0x12])
  ∧ (∀ x0, Framed (.unsubscribe x0) [.site] [0x11, 0x12])

/-- Eaveline and the DMA engine (chapters 13 and 14). -/
def lineFrames : Prop :=
  (Framed .eavelineCycle [.chan, .eave, .freeCount] [0x13])
  ∧ (∀ x0 x1 x2, Framed (.cycleHeader x0 x1 x2) [.eave] [])
  ∧ (∀ x0 x1, Framed (.controlBlock x0 x1) [.barrier, .eave] [0x13])
  ∧ (∀ x0 x1 x2, Framed (.dataBlock x0 x1 x2) [.barrier, .snap, .log, .eave] [0x13, 0x19])
  ∧ (∀ x0, Framed (.messageReassemblyTimeout x0) [.barrier, .snap, .log, .eave] [0x13, 0x19])
  ∧ (∀ x0 x1, Framed (.robustStepUp x0 x1) [.eave] [0x13])
  ∧ (∀ x0, Framed (.stepUpCountReset x0) [.eave] [0x13])
  ∧ (Framed .layoutSwitch [.eave] [0x13])
  ∧ (∀ x0 x1, Framed (.admissionAnswer x0 x1) [.barrier, .snap, .log, .eave] [0x13, 0x19])
  ∧ (∀ x0, Framed (.nodeRefusedRetry x0) [.eave] [])
  ∧ (∀ x0, Framed (.nodeLost x0) [.barrier, .snap, .log, .eave] [0x13, 0x19])
  ∧ (∀ x0, Framed (.nodePreambleLoss x0) [.eave] [])
  ∧ (∀ x0 x1, Framed (.zeroCrossingReport x0 x1) [.barrier, .snap, .log, .eave] [0x13, 0x19])
  ∧ (∀ x0, Framed (.mainsRefCrossing x0) [.eave] [0x13])
  ∧ (∀ x0, Framed (.eavelineStateSync x0) [.eave] [])
  ∧ (Framed .eavelineMasterTake [.eave, .freeCount] [0x13])
  ∧ (∀ x0, Framed (.dmaDescriptorEnd x0) [.barrier, .dma, .snap, .log] [0x18, 0x19])

/-- Keys, images, leaves and supplies (chapters 15 and 16). -/
def moduleFrames : Prop :=
  (∀ x0 x1 x2 x3, Framed (.imageBlock x0 x1 x2 x3) [.barrier, .log, .sys] [0x10, 0x19])
  ∧ (∀ x0 x1, Keeps (.lifeCycleNotice x0 x1) [.isl, .barrier, .site, .dma, .snap, .log, .ring, .brick, .drive, .leg, .sync, .rail, .ratio, .eng, .alloc, .out, .vehicle, .safety, .metro, .load, .pair, .eave, .sys, .chan])
  ∧ (Keeps .fieldIslandRestart [.isl, .barrier, .site, .dma, .snap, .log, .ring, .brick, .drive, .leg, .sync, .rail, .ratio, .eng, .alloc, .out, .vehicle, .safety, .load, .pair, .eave, .sys, .chan, .metro])
  ∧ (∀ x0, Keeps (.factoryTransition x0) [.isl, .barrier, .site, .dma, .snap, .log, .ring, .brick, .drive, .leg, .sync, .rail, .ratio, .eng, .alloc, .out, .vehicle, .safety, .metro, .load, .pair, .eave, .sys, .chan])
  ∧ (∀ x0 x1, Framed (.keySlotLoad x0 x1) [.barrier, .snap, .log, .sys] [0x19, 0x1A])
  ∧ (Framed .keySlotWaitTimeout [.barrier, .snap, .log, .sys] [0x19, 0x1A])
  ∧ (Framed .fxWinddownEnd [.isl, .sys] [0x1B])
  ∧ (∀ x0, Keeps (.bootCheck x0) [.isl, .barrier, .site, .dma, .snap, .log, .ring, .brick, .drive, .leg, .sync, .rail, .ratio, .eng, .alloc, .out, .vehicle, .safety, .load, .pair, .eave, .sys, .chan, .metro])
  ∧ (∀ x0, Framed (.trialConfirm x0) [.sys] [0x1B])
  ∧ (∀ x0, Framed (.confirmTimeout x0) [.barrier, .snap, .log, .sys] [0x19])
  ∧ (∀ x0, Framed (.autoCommit x0) [.sys] [])
  ∧ (∀ x0 x1, Framed (.leafWriteComplete x0 x1) [.barrier, .snap, .log, .pair, .sys, .load] [0x19, 0x1B])
  ∧ (Framed .fieldPowerFailWarning [.isl, .barrier, .metro, .sys] [0x1D])
  ∧ (Framed .fieldSequenceEnd [.isl, .sys] [])
  ∧ (Framed .hostPowerFailWarning [.isl, .barrier, .log] [0x1D])
  ∧ (∀ x0, Keeps (.fieldPowerUp x0) [.time, .isl, .barrier, .site, .dma, .snap, .log, .ring, .brick, .drive, .leg, .sync, .rail, .ratio, .eng, .alloc, .out, .vehicle, .safety, .metro, .load, .pair, .eave, .sys, .chan])
  ∧ (Keeps .hostPowerUp [.isl, .barrier, .site, .dma, .snap, .log, .ring, .brick, .drive, .leg, .sync, .rail, .ratio, .eng, .alloc, .out, .vehicle, .safety, .load, .pair, .eave, .sys, .chan, .metro])
  ∧ (∀ x0, Keeps (.holdupCharged x0) [.isl, .barrier, .site, .dma, .snap, .log, .ring, .brick, .drive, .leg, .sync, .rail, .ratio, .eng, .alloc, .out, .vehicle, .safety, .load, .pair, .eave, .sys, .chan, .metro])
  ∧ (∀ x0, Framed (.domainStartFailed x0) [.isl, .barrier, .snap, .log] [0x19])
  ∧ (∀ x0 x1, Framed (.supplyRedundancyLost x0 x1) [.barrier, .snap, .log] [0x19, 0x1D])
  ∧ (∀ x0 x1, Framed (.supplyRedundancyRestored x0 x1) [] [0x1D])
  ∧ (∀ x0 x1, Framed (.holdupTest x0 x1) [.barrier, .snap, .log] [0x19, 0x1D])
  ∧ (∀ x0, Framed (.coldPlateRead x0) [.barrier, .snap, .log, .sys] [0x19, 0x1D])
  ∧ (Framed .overTemperatureShutdown [.isl, .barrier, .log, .metro, .sys] [0x1D])
  ∧ (Keeps .overTemperatureRestart [.isl, .barrier, .site, .dma, .snap, .log, .ring, .brick, .drive, .leg, .sync, .rail, .ratio, .eng, .alloc, .out, .vehicle, .safety, .load, .pair, .eave, .sys, .chan, .metro])
  ∧ (∀ x0, Keeps (.islandWatchdogReset x0) [.isl, .barrier, .site, .dma, .snap, .log, .ring, .brick, .drive, .leg, .sync, .rail, .ratio, .eng, .alloc, .out, .vehicle, .safety, .load, .pair, .eave, .sys, .chan, .metro])
  ∧ (∀ x0 x1 x2, Framed (.imageStatus x0 x1 x2) [.barrier, .log, .sys] [0x10, 0x19])
  ∧ (∀ x0, Framed (.commitSpacingExpiry x0) [.sys] [])

end Sys2Proof.Claims
end

