-- ==== Sys2Proof/Claims/General.lean ====
section
/-! DEFINITION. Claims about every request, every contactor change and every step. -/
namespace Sys2Proof.Claims
open Machine

/-! Requests (R367 to R379, R498). -/

/-- A write that passes checks 1 to 6 of R367 and the first two steps of R498, where its entry is held: its island and the lease let it in. -/
def Judged (h : Served) : Prop := There h ∧ available h.msg.index h.msg.sub h.dev = [] ∧ (leaseOnly h.msg.index = true → holds h.dev = true)
  ∧ ∃ r, findEntry h.msg.index h.msg.sub = .ok r ∧ writeAccess (h.slot.val + 1) h.msg.index h.msg.sub r h.dev = none
    ∧ valueCheck h.msg.index r h.msg.data = none

/-- Such a write is refused with a code: it is answered with it, and nothing but the server's own parts changes, with the status of a
CMD entry. -/
def Refuses (c : Instr) (s : State) (code : Nat) : Prop := ∀ h, Does c s.dev 0x11 h → Judged h →
  Gives c s (fun e => Answered h (.error code) e ∧ Within [.site, .barrier] [0x12, h.msg.index / 256] s.dev e
    ∧ ∀ k, k / 65536 = h.msg.index / 256 → k / 65536 ≠ 0x12 → k ≠ key h.msg.index h.msg.sub → getVal e k = getVal s.dev k)

/-- The writes that are refused and still leave a trace of their own: a wrong password is counted (R290), a trigger with every set locked is
counted (R433), and an activation draws the open answer of the partner. -/
def leavesTrace (index sub : Nat) : Bool := (index == 0x4060 && sub == 0x01) || (index == 0x1900 && sub == 0x01) || (index == 0x1B20 && sub == 0x01)

/-- R498: a write that check 7 refuses is answered with its code; a CMD entry shows 3, any other keeps its value, and nothing but the
server's own parts changes. -/
def refusedWrites : Prop := ∀ (c : Instr) (h : Served) (r : Row) (code : Nat) (s : State), Does c s.dev 0x11 h → There h →
  (∀ m, c ≠ .dictionaryRequest m) → rowOf h.msg.index h.msg.sub = some r → h.refusedBy = some code → leavesTrace h.msg.index h.msg.sub = false →
  Gives c s (fun e => Answered h (.error code) e
    ∧ (r.acc = .cmd → num e h.msg.index h.msg.sub = 3) ∧ Within [.site, .barrier, .sys] [0x12, h.msg.index / 256] s.dev e
    ∧ (∀ k, k / 65536 ≠ 0x12 → k ≠ key h.msg.index h.msg.sub ∨ r.acc ≠ .cmd → getVal e k = getVal s.dev k)
    ∧ e.sys.store = s.dev.sys.store ∧ e.sys.img = s.dev.sys.img ∧ e.site.owners = s.dev.site.owners ∧ e.site.subs = s.dev.site.subs)

/-- R368: a repeat of the session's previous request within 2 s is answered with the response kept of it, and is not performed again. -/
def repeatedRequests : Prop := ∀ (c : Instr) (q : Asked) (n : Fin 6) (p : DictMsg) (t : Nat) (s : State), askedBy c = some q → q.port = false →
  slotOf q.ask.session.toNat = some n → reaches q.ask.conn s.dev = true → q.ask.flags.toNat / 8 = 0 → hostService q.service = true →
  q.ask.data.length ≤ largestData q.ask.conn →
  let x := s.dev.site.sessions[n]
  x.conn = some q.ask.conn → x.prev = some (p, t) → p.service = q.msg.service → p.tag = q.msg.tag → p.index = q.msg.index →
  p.sub = q.msg.sub → s.dev.time.now ≤ t + sec 2 →
  Gives c s (fun e => Within [.site] [0x11, 0x12] s.dev e ∧ e.site.owners = s.dev.site.owners ∧ e.site.subs = s.dev.site.subs
    ∧ e.site.sessions[n] = { x with last := s.dev.time.now } ∧ (∀ m, m ≠ n → e.site.sessions[m] = s.dev.site.sessions[m])
    ∧ (x.reply.isSome = true → num e 0x1104 0x02 = num s.dev 0x1104 0x02 + 1)
    ∧ ∀ (k : Fin 2) (node : BitVec 7) (r : DictMsg), q.ask.conn = .can k node → x.reply = some r → r.data.length ≤ 53 →
        on s.dev (canIdx k) 0x01 = true → (s.dev.site.can[k]).normal.length < 128 → ∃ f,
        (e.site.can[k]).normal = (s.dev.site.can[k]).normal ++ [f] ∧ f.id = canId 0xC s.dev.site.addr.id
          ∧ f.data = canPad (leBytes 1 node.toNat ++ dictBytes r))

/-- A request of a session that is not open on its transport is performed by no service: only its answer and the counters of its frame
change (R367 check 3). -/
def unopenedSessions : Prop := ∀ (c : Instr) (q : Asked) (s : State), askedBy c = some q →
  (∀ n, slotOf q.ask.session.toNat = some n → if q.port then s.dev.site.fieldSession[n] = none
    else (s.dev.site.sessions[n]).conn ≠ some q.ask.conn) →
  Gives c s (fun e => Within [.site] [0x12] s.dev e ∧ e.site.sessions = s.dev.site.sessions ∧ e.site.owners = s.dev.site.owners
    ∧ e.site.ownersSeen = s.dev.site.ownersSeen ∧ e.site.subs = s.dev.site.subs ∧ e.site.tls = s.dev.site.tls ∧ e.site.addr = s.dev.site.addr)

/-- R379: a write to an entry of a group by any session but its owner is refused with generic 0x0007, and nothing of it is kept. -/
def ownersOnly : Prop := ∀ (c : Instr) (h : Served) (r : Row) (g : Nat) (s : State), Does c s.dev 0x11 h → There h →
  findEntry h.msg.index h.msg.sub = .ok r → r.keep ≠ .f → r.acc = .own ∨ r.acc = .cmd → groupOf h.msg.index h.msg.sub = some g →
  (if h.port then fieldOwner g h.dev else ownerOf g h.dev) ≠ h.slot.val + 1 →
  Gives c s (fun e => Answered h (.error (groupCode h.msg.index + 7)) e ∧ e.site.owners = s.dev.site.owners
    ∧ ((∀ m, c ≠ .dictionaryRequest m) → Within [.site, .barrier] [0x12] s.dev e))

/-! The topology interlock (R41 to R44, Table 2.4). -/

/-- A change that the interlock makes is the change asked for, and no condition of Table 2.4 refuses it; a tie is closed only where another fitted
tie stays open, at most one closed outlet is joined, both rail voltages are valid and three close permits in a row were met. A
refused change keeps the contactor's command and is counted and reported once; where none is asked for, nothing happens. -/
def interlock : Prop := ∀ (permit : Fin 12 → Dev → Bool) (x : ContactorId) (d : Dev),
  let e := judge permit x d
  let c := contactor x d
  ((contactor x e).cmd ≠ c.cmd → (contactor x e).cmd = c.want ∧ refusal permit x d = none)
  ∧ (∀ y, y ≠ x → (contactor y e).cmd = (contactor y d).cmd)
  ∧ (c.want = c.cmd → e = d)
  ∧ (∀ n, c.want ≠ c.cmd → refusal permit x d = some n → (contactor x e).cmd = c.cmd ∧ (contactor x e).refused = true
      ∧ num e 0x2800 0x06 = num d 0x2800 0x06 + (if c.refused then 0 else 1))
  ∧ (∀ j, x = .tie j → c.cmd = false → (contactor x e).cmd = true →
      (∃ i, i ≠ j ∧ tieFitted i d = true ∧ tieClosed i d = false) ∧ tieFitted j d = true ∧ c.frozen = false ∧ c.travelFault = false
        ∧ railValid j d = true ∧ railValid (above j) d = true ∧ 3 ≤ c.permits
        ∧ ∀ a b : Fin 12, a ≠ b → outletClosed a d = true → outletClosed b d = true →
            let joined := members (headOf j d) (deriveSegments d) ++ members (headOf (above j) d) (deriveSegments d)
            a ∈ joined → b ∉ joined)
  ∧ (∀ j, x = .outlet j → c.cmd = false → (contactor x e).cmd = true → permit j d = true ∧ c.frozen = false ∧ c.travelFault = false)

/-! Steps. -/

/-- A step carries out the command at the front of the queue with the rest of the queue; with an empty queue the block idles (the model's
choice, log entry 1). -/
def stepRunsTheFront : Prop := ∀ s : State,
  (∀ c rest, s.pending = c :: rest → step s = exec c { s with pending := rest }) ∧ (s.pending = [] → step s = .next s)

/-- Every step answers a next state, whose queue is the rest of the queue; no step takes the instant back, and none but the start of the field
side and a resynchronisation moves the site time base against it (R14, R17). Every command, with any operands, completes in every state. -/
def everyStepAnswers : Prop :=
  (∀ s : State, ∃ t, step s = .next t ∧ t.pending = s.pending.tail ∧ s.dev.time.now ≤ t.dev.time.now
    ∧ ((∀ r c, s.pending = c :: r → (∀ k, c ≠ .fieldPowerUp k) ∧ (∀ f h p, c ≠ .resynchronisation f h p)) →
        t.dev.time.base = s.dev.time.base))
  ∧ ∀ (c : Instr) (s : State), ∃ t, exec c s = .next t ∧ t.pending = s.pending ∧ s.dev.time.now ≤ t.dev.time.now

/-- After reset no island runs, every entry holds its default (R5), the time base stands at 0 (R14), no session is open, no group is owned, no
command waits, and the register file and the DMA memory are canonical. -/
def resetState : Prop :=
  (∀ i : Fin 8, State.reset.dev.isl[i] = .off) ∧ (∀ k, getVal State.reset.dev k = defaultOf k) ∧ State.reset.dev.time.now = 0
    ∧ (∀ n : Fin 6, (State.reset.dev.site.sessions[n]).conn = none) ∧ (∀ g : Fin 60, State.reset.dev.site.owners[g] = 0)
    ∧ State.reset.pending = [] ∧ State.reset.dev.canonical

/-- Every step keeps the canonical forms of the register file and of the DMA memory. -/
def stepsKeepCanonical : Prop := ∀ s t : State, s.dev.canonical → step s = .next t → t.dev.canonical

end Sys2Proof.Claims
end

