-- ==== Sys2Proof/Claims/Pair.lean ====
section
/-! DEFINITION. Claims about the peer link, the lease, take-over and the shadow (chapter 11), one for each command. -/
namespace Sys2Proof.Claims
open Machine

/-- The role as 0x1C00.03 holds it: 0 SYNCING, 1 STANDBY, 2 ACTIVE, 3 ALONE. -/
def role (d : Dev) : Nat := nat d 0x1C00 0x03
/-- Whether a peer frame is good, of this type, and the first copy of its sequence number (R325). -/
def peerHeard (type : Byte) (f : PeerFrame) (d : Dev) : Prop := (peerReceive type f d).2 = true
/-- The receipt of a peer frame alone. -/
def peerOnly (c : Instr) (type : Byte) (f : PeerFrame) (s : State) : Prop := exec c s = done s (peerReceive type f s.dev).1
/-- Whether the peer island runs in pair mode. -/
def paired (d : Dev) : Prop := up 6 d = true ∧ pairMode d = true

/-! The peer ports (R325). -/

/-- PEER_PORT_UP: 100 consecutive good frames. -/
def peerPortUp : Prop := ∀ (p : Fin 2) (s : State),
  (100 ≤ (s.dev.pair.port[p]).good → Gives (.peerPortUp p) s (fun e => (e.pair.port[p]).up = true ∧ e.pair.silentSince = none))
  ∧ ((s.dev.pair.port[p]).good < 100 → Rests (.peerPortUp p) s)

/-- PEER_PORT_DOWN: three periods without a good frame; the link falls silent with its second port. -/
def peerPortDown : Prop := ∀ (p : Fin 2) (s : State),
  ((s.dev.pair.port[p]).up = true → Gives (.peerPortDown p) s (fun e => (e.pair.port[p]).up = false
    ∧ (s.dev.pair.port[p]).lastGood + 3 * period ≤ e.time.now
    ∧ ((∀ q : Fin 2, q ≠ p → (s.dev.pair.port[q]).up = false) → e.pair.silentSince = some e.time.now ∧ e.pair.rxSeq = none)
    ∧ (∀ q : Fin 2, q ≠ p → e.pair.port[q] = s.dev.pair.port[q])))
  ∧ ((s.dev.pair.port[p]).up = false → Rests (.peerPortDown p) s)

/-! The lease (R326 to R330). -/

/-- DOWEL_RENEWAL_SEND (R326): a holder with lease support renews at the next millisecond; without it renewals stop. -/
def dowelRenewalSend : Prop := ∀ s : State,
  let d := reach (nextMultiple (ms 1) s.dev) s.dev
  (paired s.dev → holds s.dev = true → s.dev.pair.supportLost = false → leaseSupport d = true → Gives .dowelRenewalSend s (fun e =>
    e.pair.sent[(1 : Fin 10)] = renewalPayload d ∧ e.pair.renewals = s.dev.pair.renewals + 1 ∧ e.pair.txSeq = s.dev.pair.txSeq + 1
      ∧ e.pair.lastRenewal = e.time.now ∧ e.time.now = nextMultiple (ms 1) s.dev))
  ∧ (paired s.dev → holds s.dev = true → s.dev.pair.supportLost = true ∨ leaseSupport d = false → Gives .dowelRenewalSend s (fun e =>
    e.pair = { s.dev.pair with supportLost := true }))
  ∧ (¬ paired s.dev ∨ holds s.dev = false → Rests .dowelRenewalSend s)

/-- DOWEL_RENEWAL (R327, Table 11.2): one of the known epoch or a later one keeps the lease for 4 ms; a later epoch than its own sends
a holder to SYNCING; an earlier one says nothing. -/
def dowelRenewal : Prop := ∀ (f : PeerFrame) (s : State),
  let n := leNat (f.payload.take 4)
  (peerHeard 0x01 f s.dev → f.payload.length = 24 → holds s.dev = false → epochKnown s.dev ≤ n → Gives (.dowelRenewal f) s (fun e =>
    leaseValid e = true ∧ epochKnown e = n ∧ e.pair.expiry = s.dev.time.now + ms 4 ∧ e.pair.lastValid = s.dev.time.now
      ∧ role e = role s.dev))
  ∧ (peerHeard 0x01 f s.dev → f.payload.length = 24 → holds s.dev = true → epochKnown s.dev < n → Gives (.dowelRenewal f) s (fun e =>
    role e = 0 ∧ leaseValid e = true ∧ epochKnown e = n))
  ∧ (¬ peerHeard 0x01 f s.dev ∨ f.payload.length ≠ 24 ∨ n < epochKnown s.dev → peerOnly (.dowelRenewal f) 0x01 f s)

/-- LEASE_EXPIRY (R327). -/
def leaseExpiry : Prop := ∀ s : State,
  let due := pairMode s.dev && !holds s.dev && leaseValid s.dev
  (due = true → Gives .leaseExpiry s (fun e => leaseValid e = false ∧ s.dev.pair.expiry ≤ e.time.now))
  ∧ (due = false → Rests .leaseExpiry s)

/-- What a bid leaves (R327, R329): its epoch waits for an answer, and the bid is on the link. -/
def bids (d e : Dev) : Prop :=
  e.pair.bid = some (bidEpoch d, e.time.now)
    ∧ e.pair.sent[(2 : Fin 10)] = leBytes 4 (bidEpoch d) ++ leBytes 8 Config.serial.toNat ++ leBytes 1 (nat d 0x1C00 0x02)

/-- BID_GUARD_EXPIRY (R327, R342): 1 ms after the expiry, and not before the partner wait where it is SYNCING; a STANDBY that sees the
partner in authority goes to SYNCING. -/
def bidGuardExpiry : Prop := ∀ s : State,
  let wait := if roleOf s.dev = 0 then s.dev.pair.startedAt + ms (nat s.dev 0x1C01 0x01 * (if nat s.dev 0x1C00 0x02 = 2 then 2 else 1)) else 0
  let d := reach (max (s.dev.pair.expiry + ms 1) wait) s.dev
  let may := paired s.dev ∧ holds s.dev = false ∧ leaseValid s.dev = false ∧ s.dev.pair.bid = none
  (may → grantHolds d = false → partnerSeen d = false → bidEpoch d < 0xFFFFFFFF → Gives .bidGuardExpiry s (fun e =>
    bids d e ∧ s.dev.pair.expiry + ms 1 ≤ e.time.now ∧ wait ≤ e.time.now))
  ∧ (may → grantHolds d = false → partnerSeen d = true → role s.dev = 1 → Gives .bidGuardExpiry s (fun e => role e = 0))
  ∧ (¬ may → Rests .bidGuardExpiry s)

/-- PARTNER_WAIT_EXPIRY (R327): a module that has never seen the lease held bids after the partner wait. -/
def partnerWaitExpiry : Prop := ∀ s : State,
  let wait := s.dev.pair.startedAt + ms (nat s.dev 0x1C01 0x01 * (if nat s.dev 0x1C00 0x02 = 2 then 2 else 1))
  let d := reach wait s.dev
  let may := paired s.dev ∧ roleOf s.dev = 0 ∧ leaseValid s.dev = false ∧ s.dev.pair.bid = none ∧ s.dev.pair.lastValid = 0
  (may → grantHolds d = false → partnerSeen d = false → bidEpoch d < 0xFFFFFFFF → Gives .partnerWaitExpiry s (fun e =>
    bids d e ∧ wait ≤ e.time.now))
  ∧ (¬ may → Rests .partnerWaitExpiry s)

/-- What taking the lease leaves (R327, R335, R336): the role, the lease, every outlet in charge under the switch-over hold, no
vehicle session of it under TLS, and no group owned. -/
def tookLease (r : Nat) (d e : Dev) : Prop :=
  role e = r ∧ leaseValid e = true ∧ e.pair.takenAt = e.time.now ∧ e.pair.lastRenewal = e.time.now ∧ e.pair.bid = none
    ∧ e.pair.supportLost = false ∧ (∀ g : Fin 60, e.site.owners[g] = 0 ∧ e.site.ownersSeen[g] = 0)
    ∧ ∀ k : Fin 12, inCharge (d.out[k]).state = true → (e.out[k]).swHold = some e.time.now
        ∧ (e.out[k]).grantCap = some |d.alloc.grant[k]| ∧ (e.vehicle[k]).tls = false ∧ (e.vehicle[k]).authorized = false

/-- BID_WAIT_EXPIRY (R327): 0.5 ms with no answer makes the bidder ALONE. -/
def bidWaitExpiry : Prop := ∀ s : State,
  (∀ n t, s.dev.pair.bid = some (n, t) → Gives .bidWaitExpiry s (fun e =>
    tookLease 3 s.dev e ∧ epochKnown e = max (epochKnown s.dev) n ∧ t + us 500 ≤ e.time.now))
  ∧ (s.dev.pair.bid = none → Rests .bidWaitExpiry s)

/-- The answer to a bid as it stands on the link: the bid's epoch, 1 for granted or 2 for refused, and the epoch known. -/
def answered (n result known : Nat) (e : Dev) : Prop :=
  e.pair.sent[(3 : Fin 10)] = leBytes 4 n ++ leBytes 1 result ++ leBytes 4 known

/-- BID (R328, Table 11.2). -/
def bid : Prop := ∀ (f : PeerFrame) (s : State),
  let n := leNat (f.payload.take 4)
  let rank := leNat ((f.payload.drop 12).take 1)
  let mine := nat s.dev 0x1C00 0x02
  (peerHeard 0x02 f s.dev → f.payload.length = 13 → holds s.dev = true → Gives (.bid f) s (fun e => answered n 2 (epochKnown s.dev) e
    ∧ (epochKnown s.dev < n → role e = 0 ∧ leaseValid e = false ∧ epochKnown e = n)
    ∧ (n ≤ epochKnown s.dev → role e = role s.dev)))
  ∧ (peerHeard 0x02 f s.dev → f.payload.length = 13 → holds s.dev = false → (∀ b, s.dev.pair.bid = some b → b.1 ≠ n) →
    Gives (.bid f) s (fun e => answered n 1 (max (epochKnown s.dev) n) e ∧ e.pair.granted = some (n, s.dev.time.now) ∧ e.pair.bid = s.dev.pair.bid
      ∧ epochKnown e = max (epochKnown s.dev) n))
  ∧ (∀ t, peerHeard 0x02 f s.dev → f.payload.length = 13 → holds s.dev = false → s.dev.pair.bid = some (n, t) → mine < rank →
    Gives (.bid f) s (fun e => answered n 2 (epochKnown s.dev) e ∧ e.pair.bid = some (n, t)))
  ∧ (∀ t, peerHeard 0x02 f s.dev → f.payload.length = 13 → holds s.dev = false → s.dev.pair.bid = some (n, t) → rank < mine →
    Gives (.bid f) s (fun e => answered n 1 (max (epochKnown s.dev) n) e ∧ e.pair.bid = none ∧ e.pair.granted = some (n, s.dev.time.now)))
  ∧ (¬ peerHeard 0x02 f s.dev ∨ f.payload.length ≠ 13 → peerOnly (.bid f) 0x02 f s)

/-- BID_ANSWER (R327): a grant takes the lease, a refusal ends the bid and teaches the epoch. -/
def bidAnswer : Prop := ∀ (f : PeerFrame) (s : State),
  let n := leNat (f.payload.take 4)
  let result := leNat ((f.payload.drop 4).take 1)
  let ok := peerHeard 0x03 f s.dev ∧ f.payload.length = 9 ∧ ∃ t, s.dev.pair.bid = some (n, t)
  (ok → result = 1 → Gives (.bidAnswer f) s (fun e => tookLease 3 s.dev e ∧ epochKnown e = max (epochKnown s.dev) n))
  ∧ (ok → result = 2 → Gives (.bidAnswer f) s (fun e => e.pair.bid = none ∧ role e = role s.dev
    ∧ epochKnown e = max (epochKnown s.dev) (leNat (f.payload.drop 5))))
  ∧ (ok → result ≠ 1 → result ≠ 2 → peerOnly (.bidAnswer f) 0x03 f s)
  ∧ (¬ ok → peerOnly (.bidAnswer f) 0x03 f s)

/-- LEASE_SUPPORT_LOST (R326). -/
def leaseSupportLost : Prop := ∀ s : State,
  let lost := pairMode s.dev && holds s.dev && !leaseSupport s.dev
  (lost = true → Gives .leaseSupportLost s (fun e => e.pair = { s.dev.pair with supportLost := true }))
  ∧ (lost = false → Rests .leaseSupportLost s)

/-- HOLDER_LEASE_END (R326): 4 ms after the last renewal sent, the holder without support is SYNCING. -/
def holderLeaseEnd : Prop := ∀ s : State,
  let due := pairMode s.dev && holds s.dev && s.dev.pair.supportLost
  (due = true → Gives .holderLeaseEnd s (fun e => role e = 0 ∧ leaseValid e = false ∧ s.dev.pair.lastRenewal + ms 4 ≤ e.time.now
    ∧ e.pair.expiry = s.dev.pair.lastRenewal + ms 4))
  ∧ (due = false → Rests .holderLeaseEnd s)

/-! The swap (R344). -/

/-- YIELD: a STANDBY in step acknowledges a higher epoch with the frame's own payload. -/
def yield_ : Prop := ∀ (f : PeerFrame) (s : State),
  let n := leNat (f.payload.take 4)
  let ok := peerHeard 0x04 f s.dev ∧ f.payload.length = 8 ∧ role s.dev = 1 ∧ on s.dev 0x1C00 0x06 = true ∧ epochKnown s.dev < n
  (ok → Gives (.yield f) s (fun e => e.pair.yielded = some (n, leNat (f.payload.drop 4)) ∧ e.pair.sent[(5 : Fin 10)] = f.payload))
  ∧ (¬ ok → peerOnly (.yield f) 0x04 f s)

/-- YIELD_ACKNOWLEDGE. -/
def yieldAcknowledge : Prop := ∀ (f : PeerFrame) (s : State) (n b t : Nat) (a : Bool), s.dev.pair.swap = some (n, b, t, a) →
  (peerHeard 0x05 f s.dev → f.payload = leBytes 4 n ++ leBytes 4 b → Gives (.yieldAcknowledge f) s (fun e =>
    e.pair.swap = some (n, b, t, true)))
  ∧ (¬ peerHeard 0x05 f s.dev ∨ f.payload ≠ leBytes 4 n ++ leBytes 4 b → peerOnly (.yieldAcknowledge f) 0x05 f s)

/-- YIELD_ACK_TIMEOUT: 1 ms without the acknowledgement ends the swap. -/
def yieldAckTimeout : Prop := ∀ s : State,
  (∀ n b t, s.dev.pair.swap = some (n, b, t, false) → Gives .yieldAckTimeout s (fun e =>
    e.pair.swap = none ∧ t + ms 1 ≤ e.time.now ∧ role e = role s.dev))
  ∧ ((∀ n b t, s.dev.pair.swap ≠ some (n, b, t, false)) → Rests .yieldAckTimeout s)

/-- SWAP_BOUNDARY: at the boundary named the holder becomes STANDBY and in step, and the standby ACTIVE. -/
def swapBoundary : Prop := ∀ (s : State) (n b : Nat), s.dev.sync.periods = b → pairMode s.dev = true →
  (∀ t, s.dev.pair.swap = some (n, b, t, true) → role s.dev = 2 → Gives .swapBoundary s (fun e =>
    role e = 1 ∧ on e 0x1C00 0x06 = true ∧ e.pair.swap = none ∧ epochKnown e = max (epochKnown s.dev) n
      ∧ e.pair.expiry = s.dev.time.now + ms 4))
  ∧ (s.dev.pair.swap = none → s.dev.pair.yielded = some (n, b) → role s.dev = 1 → Gives .swapBoundary s (fun e =>
    tookLease 2 s.dev e ∧ epochKnown e = max (epochKnown s.dev) n))
  ∧ (s.dev.pair.swap = none → s.dev.pair.yielded = none → Rests .swapBoundary s)

/-! The shadow and resynchronisation (R338 to R343). -/

/-- Whether a module shadows the mirror blocks that it hears (R2, R343): it does not hold the lease, the metering types agree, and a SYNCING module
has passed step 1. -/
def shadows (d : Dev) : Bool := !holds d && !typesDiffer d && !(roleOf d == 0 && !peersAgree d)

/-- MIRROR_BLOCK (R75, R338, R341, R343): a module that shadows adopts the mirrored states, unless it has taken over. Once it has adopted the
phase its boundary follows the holder's by one step a period at most. -/
def mirrorBlock : Prop := ∀ (f : PeerFrame) (x : Mirror) (s : State),
  (peerHeard 0x06 f s.dev → shadows s.dev = true → s.dev.pair.takeEpoch = none → Gives (.mirrorBlock f x) s (fun e =>
    e.alloc = x.alloc ∧ e.ratio = x.ratio ∧ e.ring = x.ring ∧ e.eng.gen = x.gen ∧ e.pair.late = x.late
      ∧ e.pair.lastMirror = some s.dev.time.now ∧ e.pair.mirrorCount = x.periods
      ∧ (∀ k : Fin 24, (e.brick[k]).contactor = x.brickContactor[k])
      ∧ (∀ j : Fin 12, (e.rail[j]).state = (x.rail[j]).state ∧ (e.rail[j]).s = (x.rail[j]).s)
      ∧ e.sync.boundary = s.dev.sync.boundary ∧ (s.dev.pair.phaseAdopted = false → e.sync = s.dev.sync)
      ∧ (s.dev.pair.phaseAdopted = true → |e.sync.trim| ≤ 1 ∧ (x.boundary = s.dev.sync.boundary + s.dev.time.base → e.sync.trim = 0
        ∧ e.sync.count = x.count ∧ e.sync.periods = x.periods))
      ∧ (roleOf s.dev = 0 → e.pair.rotations = if s.dev.pair.phaseAdopted then s.dev.pair.rotations ||| (1#16 <<< x.rotation.val) else 0)
      ∧ (x.digest ≠ slotDigest s.dev → e.pair.equalRun = 0 ∧ e.pair.differRun = min 3 (s.dev.pair.differRun + 1))
      ∧ (x.digest = slotDigest s.dev → e.pair.differRun = 0 ∧ e.pair.equalRun = min 1000 (s.dev.pair.equalRun + 1))))
  ∧ (peerHeard 0x06 f s.dev → shadows s.dev = true → s.dev.pair.takeEpoch.isSome = true → Gives (.mirrorBlock f x) s (fun e =>
    e.alloc = s.dev.alloc ∧ e.ring = s.dev.ring ∧ e.rail = s.dev.rail ∧ e.pair.lastMirror = some s.dev.time.now))
  ∧ (¬ peerHeard 0x06 f s.dev ∨ shadows s.dev = false → peerOnly (.mirrorBlock f x) 0x06 f s)

/-- PEER_STATUS (R2, R323, R341): the partner's status is kept, and ALONE and ACTIVE follow its role; a module that does not hold the lease
reports the other metering type, once while it lasts (the model's choice, log 155). -/
def peerStatus : Prop := ∀ (f : PeerFrame) (x : PeerInfo) (s : State),
  (peerHeard 0x07 f s.dev → Gives (.peerStatus f x) s (fun e => e.pair.partner = some x ∧ nat e 0x1C00 0x07 = x.role.val
    ∧ nat e 0x1C00 0x08 = x.serial.toNat
    ∧ role e = (if role s.dev = 3 ∧ x.role.val = 1 ∧ x.inStep = true then 2
        else if role s.dev = 2 ∧ x.role.val ≠ 1 then 3 else role s.dev)
    ∧ (x.indicative ≠ Config.indicative → holds s.dev = false → e.pair.mismatchTold = true
      ∧ (s.dev.pair.mismatchTold = false → (s.dev.log.queue[(6 : Fin 8)]).length < 32 →
          ∃ y, e.log.queue[(6 : Fin 8)] = s.dev.log.queue[(6 : Fin 8)] ++ [y] ∧ y.name = .orderingMismatch))
    ∧ (x.indicative = Config.indicative → e.pair.mismatchTold = false)))
  ∧ (¬ peerHeard 0x07 f s.dev → peerOnly (.peerStatus f x) 0x07 f s)

/-- Whether a SYNCING module has all that R341 and R343 ask for STANDBY. -/
def inStepCondition (d : Dev) : Bool :=
  pairMode d && roleOf d == 0 && leaseValid d
    && (match d.pair.partner with
        | some q => q.indicative == Config.indicative && decide (2 ≤ q.role.val) && q.format == nat d 0x1C00 0x11
            && q.pairCrc == nat d 0x1B41 0x07
        | none => false)
    && decide (1000 ≤ d.pair.equalRun) && d.pair.phaseAdopted && d.pair.configPulled && d.pair.rotations == 0xFFFF
    && decide (-5 ≤ d.pair.timeOffset ∧ d.pair.timeOffset ≤ 5)
/-- IN_STEP_GAINED. -/
def inStepGained : Prop := ∀ s : State,
  (inStepCondition s.dev = true → Gives .inStepGained s (fun e => role e = 1 ∧ on e 0x1C00 0x06 = true ∧ e.pair.resyncAt = none))
  ∧ (inStepCondition s.dev = false → Rests .inStepGained s)

/-- IN_STEP_LOST (R341): cause 0 three unequal digests, 1 the pair CRCs for 1 s, 2 no mirror for 1 ms. Without a valid lease the module stays
STANDBY, out of step, and a silent mirror says nothing. -/
def inStepLost : Prop := ∀ (c : Fin 3) (s : State),
  let may := pairMode s.dev && roleOf s.dev == 1 && on s.dev 0x1C00 0x06
  let lost (e : Dev) : Prop := on e 0x1C00 0x06 = false ∧ role e = (if leaseValid s.dev then 0 else 1)
    ∧ num e 0x1C00 0x12 = num s.dev 0x1C00 0x12 + 1
  (may = true → c = 0 → 3 ≤ s.dev.pair.differRun → Gives (.inStepLost c) s lost)
  ∧ (∀ t, may = true → c = 1 → s.dev.pair.crcDiffers = some t → Gives (.inStepLost c) s (fun e => lost e ∧ t + sec 1 ≤ e.time.now))
  ∧ (∀ t, may = true → leaseValid s.dev = true → c = 2 → s.dev.pair.lastMirror = some t → Gives (.inStepLost c) s (fun e =>
    lost e ∧ t + ms 1 ≤ e.time.now))
  ∧ (may = true → c = 0 → s.dev.pair.differRun < 3 → Rests (.inStepLost c) s)
  ∧ (pairMode s.dev = false ∨ roleOf s.dev ≠ 1 → Rests (.inStepLost c) s)

/-- RESYNCHRONISATION (R17, R75, R343): the boundary and the counts adopted, and, once in a stay in SYNCING, the one step of the time base. -/
def resynchronisation : Prop := ∀ (t b n : Nat) (s : State),
  let may := pairMode s.dev && roleOf s.dev == 0 && leaseValid s.dev && peersAgree s.dev && s.dev.pair.configPulled
  (may = true → Gives (.resynchronisation t b n) s (fun e => e.time.now = s.dev.time.now
    ∧ e.sync.boundary = ((b : Int) - e.time.base).toNat ∧ e.sync.count = n ∧ e.sync.periods = n
    ∧ e.pair.phaseAdopted = true ∧ e.metro.aligned = true
    ∧ (s.dev.metro.aligned = false → siteTime e = t ∧ e.time.pairStep = (t : Int) - siteTime s.dev ∧ e.pair.timeOffset = 0)
    ∧ (s.dev.metro.aligned = true → e.time = s.dev.time ∧ e.pair.timeOffset = s.dev.pair.timeOffset)))
  ∧ (may = false → Rests (.resynchronisation t b n) s)

/-- RESYNC_TIMEOUT (R343): it begins afresh. -/
def resyncTimeout : Prop := ∀ s : State,
  (∀ t, s.dev.pair.resyncAt = some t → roleOf s.dev = 0 → Gives .resyncTimeout s (fun e => e.pair.resyncAt = some e.time.now
    ∧ t + sec (nat s.dev 0x1C01 0x04) ≤ e.time.now ∧ e.pair.rotations = 0 ∧ e.pair.configPulled = false ∧ e.pair.phaseAdopted = false))
  ∧ (s.dev.pair.resyncAt = none ∨ roleOf s.dev ≠ 0 → Rests .resyncTimeout s)

/-- BULK_REQUEST (R343): the holder sends the field configuration's leaf in force. -/
def bulkRequest : Prop := ∀ (f : PeerFrame) (object : Nat) (s : State),
  (peerHeard 0x08 f s.dev → holds s.dev = true → object = 0 → Gives (.bulkRequest f object) s (fun e =>
    e.pair.bulkOut = bulkObject s.dev))
  ∧ (¬ peerHeard 0x08 f s.dev ∨ holds s.dev = false ∨ object ≠ 0 → peerOnly (.bulkRequest f object) 0x08 f s)

/-- Whether a key names a P entry of the field store. -/
def fieldStored (k : Nat) : Bool := storeOf (k / 256) (k % 256) == some 1 && (match rowOf (k / 256) (k % 256) with
  | some r => r.keep == .p
  | none => false)
/-- BULK_DATA (R2, R343, R471): a module that does not hold the lease, of the partner's metering type and mirror format, takes the values of
the field store over, those of its own identity left out. -/
def bulkData : Prop := ∀ (f : PeerFrame) (l : List (Nat × DVal)) (s : State),
  (peerHeard 0x09 f s.dev → holds s.dev = false → peersAgree s.dev = true → (l.map Prod.fst).Nodup → Gives (.bulkData f l) s (fun e =>
    e.pair.configPulled = true
      ∧ (∀ p ∈ l, fieldStored p.1 = true → ¬ (0x1C00 ≤ p.1 / 256 ∧ p.1 / 256 ≤ 0x1DFF) → getVal e p.1 = p.2)
      ∧ ∀ k, (∀ p ∈ l, p.1 ≠ k) ∨ fieldStored k = false → getVal e k = getVal s.dev k))
  ∧ (¬ peerHeard 0x09 f s.dev ∨ holds s.dev = true ∨ peersAgree s.dev = false → peerOnly (.bulkData f l) 0x09 f s)

end Sys2Proof.Claims
end

