-- ==== Sys2Proof/Claims/System.lean ====
section
/-! DEFINITION. Claims about restarts, supplies, keys, the life cycle, images and configuration leaves (chapters 1, 15 and 16), one for
each command that does not come by the dictionary. -/
namespace Sys2Proof.Claims
open Machine

/-! Restarts (R10, R72). -/

/-- ISLAND_WATCHDOG_RESET (R10): the island runs again with cause 5, and no other island's state changes. -/
def islandWatchdogReset : Prop := ∀ (i : Fin 8) (s : State),
  (up i s.dev = true → Gives (.islandWatchdogReset i) s (fun e => num e 0x1001 (i.val + 1) = 5 ∧ e.isl = s.dev.isl))
  ∧ (up i s.dev = false → Rests (.islandWatchdogReset i) s)

/-- FIELD_ISLAND_RESTART (R72, R99, R181): cause 6; every rail is FREE, every outlet OUT_OF_SERVICE, every leg off, and legs stay off until
the ring is judged again. -/
def fieldIslandRestart : Prop := ∀ s : State,
  (up 1 s.dev = true → Gives .fieldIslandRestart s (fun e => num e 0x1001 0x02 = 6 ∧ e.ring.restart = true
    ∧ (∀ j : Fin 12, (e.rail[j]).state = .free ∧ (e.out[j]).state = .outOfService) ∧ (∀ n : Fin 96, (e.leg[n]).state = .off)
    ∧ e.sync.count = s.dev.sync.count))
  ∧ (up 1 s.dev = false → Rests .fieldIslandRestart s)

/-! Supplies (R479 to R488). -/

/-- FIELD_POWER_FAIL_WARNING (R482). -/
def fieldPowerFailWarning : Prop := ∀ s : State,
  (up 7 s.dev = true → s.dev.sys.power.fieldSeq = none → Gives .fieldPowerFailWarning s (fun e =>
    e.isl[(1 : Fin 8)] = .off ∧ e.isl[(3 : Fin 8)] = .off ∧ e.isl[(6 : Fin 8)] = .off ∧ e.isl[(2 : Fin 8)] = s.dev.isl[(2 : Fin 8)]
      ∧ e.isl[(4 : Fin 8)] = (if s.dev.load.supplyLow then .off else s.dev.isl[(4 : Fin 8)])
      ∧ e.sys.power.fieldSeq = some s.dev.time.now ∧ e.metro.warned = some s.dev.time.now ∧ num e 0x1D02 0x01 = 2
      ∧ ∃ m, ((laneOf .fh e).queue[(0 : Fin 4)]).getLast? = some m ∧ m.type = 0x16 ∧ m.body = leBytes 8 (siteTime s.dev)))
  ∧ (up 7 s.dev = false ∨ s.dev.sys.power.fieldSeq.isSome = true → Rests .fieldPowerFailWarning s)

/-- FIELD_SEQUENCE_END (R482): 2 ms after the final write. -/
def fieldSequenceEnd : Prop := ∀ s : State,
  let may := s.dev.sys.power.fieldSeq.isSome && (!metering s.dev || s.dev.metro.finalDone)
  (may = true → Gives .fieldSequenceEnd s (fun e => e.isl[(2 : Fin 8)] = .off ∧ e.sys.power.fieldSeq = none
    ∧ e.time.now = max s.dev.time.now (s.dev.sys.power.finalAt.getD s.dev.time.now + ms 2)))
  ∧ (may = false → Rests .fieldSequenceEnd s)

/-- HOST_POWER_FAIL_WARNING (R483): PD5 off, the log in flash, PD0 off after 20 ms. -/
def hostPowerFailWarning : Prop := ∀ s : State,
  (up 0 s.dev = true → Gives .hostPowerFailWarning s (fun e => e.isl[(0 : Fin 8)] = .off ∧ e.isl[(5 : Fin 8)] = .off
    ∧ e.log.flash = s.dev.log.ring ∧ e.time.now = s.dev.time.now + ms 20))
  ∧ (up 0 s.dev = false → Rests .hostPowerFailWarning s)

/-- FIELD_POWER_UP (R485): PD7 starts with the time base at 0; after a sequence that PD7 outlived it runs on. The islands of the field side
follow in steps of 10 ms. -/
def fieldPowerUp : Prop := ∀ (cold : Bool) (s : State),
  let quiet := s.dev.sys.power.fieldSeq = none ∧ s.dev.sys.power.overTemp = false
  let runs (e : Dev) : Prop := up 2 e = true ∧ up 3 e = true ∧ up 4 e = true ∧ up 6 e = true ∧ up 7 e = true
  (quiet → up 7 s.dev = false ∨ (cold = true ∧ up 1 s.dev = false ∧ up 2 s.dev = false ∧ up 3 s.dev = false) →
    Gives (.fieldPowerUp cold) s (fun e => runs e ∧ siteTime e = ms 30 ∧ e.time.now = s.dev.time.now + ms 30
      ∧ e.time.onRefIn = false ∧ e.metro.aligned = false ∧ num e 0x1D02 0x01 = 0))
  ∧ (quiet → up 7 s.dev = true → cold = false → up 3 s.dev = false → Gives (.fieldPowerUp cold) s (fun e =>
    runs e ∧ e.time.base = s.dev.time.base ∧ e.time.now = s.dev.time.now + ms 20))
  ∧ (¬ quiet → Rests (.fieldPowerUp cold) s)

/-- HOLDUP_CHARGED (R484, R485). -/
def holdupCharged : Prop := ∀ (energy : Nat) (s : State),
  (up 7 s.dev = true → s.dev.sys.power.fieldSeq = none → Gives (.holdupCharged energy) s (fun e =>
    (s.dev.isl[(1 : Fin 8)] = .off → up 1 e = true ∧ num e 0x1001 0x02 = s.dev.sys.power.startCause)
      ∧ (s.dev.isl[(1 : Fin 8)] ≠ .off → e.isl = s.dev.isl) ∧ nat e 0x1D02 0x02 = energy ∧ num e 0x1D02 0x01 = 1))
  ∧ (up 7 s.dev = false ∨ s.dev.sys.power.fieldSeq.isSome = true → Rests (.holdupCharged energy) s)

/-- HOST_POWER_UP (R486). -/
def hostPowerUp : Prop := ∀ s : State,
  (up 0 s.dev = false → s.dev.sys.power.overTemp = false → Gives .hostPowerUp s (fun e =>
    up 0 e = true ∧ up 5 e = true ∧ num e 0x1001 0x01 = 0 ∧ num e 0x1001 0x06 = 0
      ∧ ∀ n : Fin 6, (e.site.sessions[n]).conn = none))
  ∧ (up 0 s.dev = true ∨ s.dev.sys.power.overTemp = true → Rests .hostPowerUp s)

/-- DOMAIN_START_FAILED (R487). -/
def domainStartFailed : Prop := ∀ (i : Fin 8) (s : State),
  (up i s.dev = false → Gives (.domainStartFailed i) s (fun e => e.isl[i] = .inReset))
  ∧ (up i s.dev = true → Rests (.domainStartFailed i) s)

/-- The supply voltages as the entries 0x1D00.01 to 0x1D00.04 give them. -/
def supplied (v : Vector Nat 4) (e : Dev) : Prop := ∀ i : Fin 4, nat e 0x1D00 (i.val + 1) = v[i]
/-- SUPPLY_REDUNDANCY_LOST (R479): a watched input below 18 V with the other of its pair above. -/
def supplyRedundancyLost : Prop := ∀ (i : Fin 4) (v : Vector Nat 4) (s : State),
  (up 7 s.dev = true → Gives (.supplyRedundancyLost i v) s (fun e => supplied v e ∧ nat e 0x1D00 0x06 =
    (if bit (nat s.dev 0x1D00 0x05) i.val && !bit (nat s.dev 0x1D00 0x06) i.val && decide (v[i] < 1800) && decide (1800 < v[otherInput i])
      then nat s.dev 0x1D00 0x06 + 2 ^ i.val else nat s.dev 0x1D00 0x06)))
  ∧ (up 7 s.dev = false → Rests (.supplyRedundancyLost i v) s)
/-- SUPPLY_REDUNDANCY_RESTORED (R479). -/
def supplyRedundancyRestored : Prop := ∀ (i : Fin 4) (v : Vector Nat 4) (s : State),
  (up 7 s.dev = true → Gives (.supplyRedundancyRestored i v) s (fun e => supplied v e ∧ nat e 0x1D00 0x06 =
    (if bit (nat s.dev 0x1D00 0x06) i.val && decide (1800 ≤ v[i])
      then nat s.dev 0x1D00 0x06 - 2 ^ i.val else nat s.dev 0x1D00 0x06)))
  ∧ (up 7 s.dev = false → Rests (.supplyRedundancyRestored i v) s)

/-- HOLDUP_TEST (R484): degraded below 4 J, or below 0.5 J on the host side. -/
def holdupTest : Prop := ∀ (host : Bool) (energy : Nat) (s : State),
  let sub := if host then 0x03 else 0x01
  (up 7 s.dev = true → s.dev.sys.power.fieldSeq = none → Gives (.holdupTest host energy) s (fun e =>
    nat e 0x1D02 (sub + 1) = energy ∧ num e 0x1D02 sub = (if energy < (if host then 500 else 4000) then 3 else 1)))
  ∧ (up 7 s.dev = false ∨ s.dev.sys.power.fieldSeq.isSome = true → Rests (.holdupTest host energy) s)

/-- COLD_PLATE_READ (R488). -/
def coldPlateRead : Prop := ∀ (t : Int) (s : State),
  (up 7 s.dev = true → Gives (.coldPlateRead t) s (fun e => num e 0x1D03 0x01 = t ∧ e.time.now = dueAt s.dev.time.ticked[(4 : Fin 9)] (ms 100) s.dev
    ∧ e.sys.power.hotSince = (if 750 ≤ t then some (s.dev.sys.power.hotSince.getD e.time.now) else none)
    ∧ e.sys.power.coolSince = (if t < 600 then some (s.dev.sys.power.coolSince.getD e.time.now) else none)))
  ∧ (up 7 s.dev = false → Rests (.coldPlateRead t) s)

/-- OVER_TEMPERATURE_SHUTDOWN (R488): 1 s at 75 °C, both warnings. -/
def overTemperatureShutdown : Prop := ∀ s : State,
  (∀ t, s.dev.sys.power.hotSince = some t → s.dev.sys.power.overTemp = false → Gives .overTemperatureShutdown s (fun e =>
    e.sys.power.overTemp = true ∧ t + sec 1 ≤ e.time.now ∧ num e 0x1D03 0x03 = num s.dev 0x1D03 0x03 + 1
      ∧ (up 0 s.dev = true → up 0 e = false) ∧ (up 7 s.dev = true → s.dev.sys.power.fieldSeq = none → up 1 e = false)))
  ∧ (s.dev.sys.power.hotSince = none ∨ s.dev.sys.power.overTemp = true → Rests .overTemperatureShutdown s)

/-- OVER_TEMPERATURE_RESTART (R488): 60 s below 60 °C. -/
def overTemperatureRestart : Prop := ∀ s : State,
  (∀ t, s.dev.sys.power.coolSince = some t → s.dev.sys.power.overTemp = true → s.dev.sys.power.fieldSeq = none →
    Gives .overTemperatureRestart s (fun e => e.sys.power.overTemp = false ∧ t + sec 60 ≤ e.time.now ∧ up 0 e = true ∧ up 3 e = true))
  ∧ (s.dev.sys.power.coolSince = none ∨ s.dev.sys.power.overTemp = false ∨ s.dev.sys.power.fieldSeq.isSome = true →
    Rests .overTemperatureRestart s)

/-! Keys and the life cycle (R443 to R452). -/

/-- KEY_SLOT_LOAD (R451): a key in a slot is pinned, one that is not takes a slot, and one that finds none waits; at the operation's end
the pin goes. A blob of another life-cycle state is told as unusable. -/
def keySlotLoad : Prop := ∀ (k : Fin 64) (ends : Bool) (s : State),
  let d := s.dev
  (∀ b i, up 0 d = true → ends = false → d.sys.keys.blob[k] = some b → keyUsable b d = true → slotHolding k d = some i →
    Gives (.keySlotLoad k ends) s (fun e => e.sys.keys.slot[i]
      = (d.sys.keys.slot[i]).map (fun x => { x with pins := x.pins + 1, used := d.time.now })))
  ∧ (∀ b i, up 0 d = true → ends = false → d.sys.keys.blob[k] = some b → keyUsable b d = true → slotHolding k d = none →
    slotFor d = some i → Gives (.keySlotLoad k ends) s (fun e => e.sys.keys.slot[i] = some ⟨k, 1, d.time.now⟩
      ∧ num e 0x1A10 0x02 = num d 0x1A10 0x02 + 1))
  ∧ (∀ b, up 0 d = true → ends = false → d.sys.keys.blob[k] = some b → keyUsable b d = true → slotHolding k d = none →
    slotFor d = none → Gives (.keySlotLoad k ends) s (fun e => e.sys.keys.waiting = d.sys.keys.waiting ++ [(k, d.time.now)]))
  ∧ (∀ b, up 0 d = true → ends = false → d.sys.keys.blob[k] = some b → keyUsable b d = false →
    Gives (.keySlotLoad k ends) s (fun e => e.sys.keys.told.getLsbD k.val = true ∧ e.sys.keys.slot = d.sys.keys.slot))
  ∧ (∀ i, up 0 d = true → ends = true → slotHolding k d = some i → d.sys.keys.waiting = [] →
    Gives (.keySlotLoad k ends) s (fun e => e.sys.keys.slot[i]
      = (d.sys.keys.slot[i]).map (fun x => { x with pins := x.pins - 1, used := d.time.now })))
  ∧ (up 0 d = false → Rests (.keySlotLoad k ends) s)

/-- KEY_SLOT_WAIT_TIMEOUT (R451): 100 ms. -/
def keySlotWaitTimeout : Prop := ∀ s : State,
  (∀ k t r, s.dev.sys.keys.waiting = (k, t) :: r → Gives .keySlotWaitTimeout s (fun e => e.sys.keys.waiting = r
    ∧ num e 0x1A10 0x03 = num s.dev 0x1A10 0x03 + 1 ∧ t + ms 100 ≤ e.time.now))
  ∧ (s.dev.sys.keys.waiting = [] → Rests .keySlotWaitTimeout s)

/-- A life-cycle state entered (R3, R444, R448): the field bank holds it, and the host bank with a running host island, which leaves no key; the
arm is spent, the step stands in the audit trail, and PROVISIONED has a new metrology key. -/
def entered (to_ : Nat) (d e : Dev) : Prop :=
  e.sys.keys.fieldBank = to_ ∧ (up 0 d = true → e.sys.keys.hostBank = to_ ∧ ∀ k : Fin 64, e.sys.keys.blob[k] = none)
    ∧ (up 0 d = false → e.sys.keys.hostBank = d.sys.keys.hostBank) ∧ lifeOf e = to_ ∧ e.sys.keys.armed = none
    ∧ (to_ = 2 → e.metro.keyNo = some (d.metro.keyNo.getD 0 + 1)) ∧ (to_ = 5 → e.metro.keyNo = none) ∧ e.metro.audit.length = d.metro.audit.length + 1

/-- LIFE_CYCLE_NOTICE (R444). -/
def lifeCycleNotice : Prop := ∀ (m : TenonMsg) (to_ : Fin 6) (s : State),
  let bound := oneTransition (lifeOf s.dev) to_.val && decide (3 ≤ to_.val)
  (heard .hf 0x18 m s.dev → bound = true → auditUsed s.dev < 1024 → Gives (.lifeCycleNotice m to_) s (fun e => entered to_.val s.dev e))
  ∧ (¬ heard .hf 0x18 m s.dev ∨ bound = false → receivedOnly (.lifeCycleNotice m to_) .hf m s)

/-- FACTORY_TRANSITION (Table 15.2): the first steps, and the return to PROVISIONED while its count allows. -/
def factoryTransition : Prop := ∀ (to_ : Fin 6) (s : State),
  let n := lifeOf s.dev
  let may := (n = 0 ∧ to_.val = 1) ∨ (n = 1 ∧ to_.val = 2) ∨ (n = 4 ∧ to_.val = 2 ∧ nat s.dev 0x1A00 0x02 < 3)
  (may → auditUsed s.dev < 1024 → Gives (.factoryTransition to_) s (fun e => entered to_.val s.dev e))
  ∧ (¬ may → Rests (.factoryTransition to_) s)

/-! Images (R453 to R465). -/

/-- IMAGE_BLOCK (R455): the island stores a block where it meets what is stored. -/
def imageBlock : Prop := ∀ (m : TenonMsg) (t : Fin 5) (off : Nat) (b : List Byte) (s : State),
  (∀ i, imageIsland t = some i → heard .hf 0x14 m s.dev → hdrIsland m.header = i → off ≤ (s.dev.sys.img[t]).flash.length →
    Gives (.imageBlock m t off b) s (fun e => (e.sys.img[t]).flash
      = (s.dev.sys.img[t]).flash.take off ++ b ++ (s.dev.sys.img[t]).flash.drop (off + b.length)))
  ∧ (imageIsland t = none ∨ ¬ heard .hf 0x14 m s.dev → receivedOnly (.imageBlock m t off b) .hf m s)

/-- IMAGE_STATUS (R455). -/
def imageStatus : Prop := ∀ (m : TenonMsg) (t : Fin 5) (n : Nat) (s : State),
  (heard .fh 0x15 m s.dev → Gives (.imageStatus m t n) s (fun e => (e.sys.img[t]).acked = max (s.dev.sys.img[t]).acked n))
  ∧ (¬ heard .fh 0x15 m s.dev → receivedOnly (.imageStatus m t n) .fh m s)

/-- FX_WINDDOWN_END (R462): the field control island stops for the activation, at the longest after the wait. -/
def fxWinddownEnd : Prop := ∀ s : State,
  (∀ a, s.dev.sys.act = some a → fxWaits s.dev = true → Gives .fxWinddownEnd s (fun e =>
    e.sys.act = some { a with stopped := some e.time.now } ∧ num e 0x1B20 0x02 = 4 ∧ up 1 e = false
      ∧ (outletWithin 1 8 s.dev = true → a.since + winddownLimit s.dev ≤ e.time.now)))
  ∧ (fxWaits s.dev = false → Rests .fxWinddownEnd s)

/-- BOOT_CHECK (R456, R457): the staged image, or for a field-side island the stored one, boots in trial or is rejected with its cause. -/
def bootCheck : Prop := ∀ (t : Fin 5) (s : State) (a : Activation) (t0 : Nat) (b0 : List Byte),
  s.dev.sys.act = some a → a.stopped = some t0 → a.type = t → a.booted = false → (s.dev.sys.img[t]).staged = some b0 →
  let b := if (imageIsland t).isSome then (s.dev.sys.img[t]).flash else b0
  (rejectCause t b s.dev = none → Gives (.bootCheck t) s (fun e => (e.sys.img[t]).running = b.take 320 ∧ (e.sys.img[t]).staged = none
    ∧ (e.sys.img[t]).previous = some (s.dev.sys.img[t]).running ∧ num e (imgIdx t) 0x03 = 1 ∧ up (activated t) e = true
    ∧ (a.pair = false → num e 0x1B20 0x02 = 5 ∧ e.sys.act = none)))
  ∧ (∀ n, rejectCause t b s.dev = some n → Gives (.bootCheck t) s (fun e => num e (imgIdx t) 0x06 = 3 ∧ nat e (imgIdx t) 0x07 = n
    ∧ up (activated t) e = true ∧ num e 0x1B20 0x02 = 6 ∧ e.sys.act = none))

/-- BOOT_CHECK where the staged image has been discarded (the model's choice, log 239): the running image boots, and the activation has
failed. -/
def bootWithout : Prop := ∀ (t : Fin 5) (s : State) (a : Activation) (t0 : Nat),
  s.dev.sys.act = some a → a.stopped = some t0 → a.type = t → a.booted = false → (s.dev.sys.img[t]).staged = none →
  Gives (.bootCheck t) s (fun e => up (activated t) e = true ∧ num e 0x1B20 0x02 = 6 ∧ e.sys.act = none)

/-- TRIAL_CONFIRM (R457, R458): 60 s of health within 600 s of the boot; the health conditions are looked at first. -/
def trialConfirm : Prop := ∀ (t : Fin 5) (s : State),
  let x := (watchHealth s.dev).sys.img[t]
  (∀ t0, x.healthy = some t0 → num s.dev (imgIdx t) 0x03 = 1 → t0 + sec 60 ≤ x.bootAt + sec 600 → Gives (.trialConfirm t) s (fun e =>
    num e (imgIdx t) 0x03 = 0 ∧ nat e (imgIdx t) 0x08 = max (nat s.dev (imgIdx t) 0x08) (hdrLevel x.running)
      ∧ (e.sys.img[t]).previous = none ∧ t0 + sec 60 ≤ e.time.now))
  ∧ (num s.dev (imgIdx t) 0x03 = 1 → healthNow t s.dev = false → Gives (.trialConfirm t) s (fun e => (e.sys.img[t]).healthy = none
    ∧ num e (imgIdx t) 0x03 = 1))
  ∧ (x.healthy = none ∨ num s.dev (imgIdx t) 0x03 ≠ 1 → exec (.trialConfirm t) s = done s (watchHealth s.dev))

/-- CONFIRM_TIMEOUT (R457). -/
def confirmTimeout : Prop := ∀ (t : Fin 5) (s : State),
  (num s.dev (imgIdx t) 0x03 = 1 → (s.dev.sys.img[t]).timedOut = false → Gives (.confirmTimeout t) s (fun e =>
    (e.sys.img[t]).timedOut = true ∧ (s.dev.sys.img[t]).bootAt + sec 600 ≤ e.time.now ∧ (e.sys.img[t]).running = (s.dev.sys.img[t]).running))
  ∧ (num s.dev (imgIdx t) 0x03 ≠ 1 ∨ (s.dev.sys.img[t]).timedOut = true → Rests (.confirmTimeout t) s)

/-! Configuration leaves (R466 to R471). -/

/-- AUTO_COMMIT (R470): the delay after the last unsaved write; the commit captures the values of its start, or waits where one is being
written. -/
def autoCommit : Prop := ∀ (st : Fin 2) (s : State),
  let x := s.dev.sys.store[st]
  let may := nat s.dev 0x1B40 0x03 ≠ 0 ∧ up 0 s.dev = true ∧ (st = 1 → up 7 s.dev = true)
  (∀ t, x.unsaved = some t → may → powerWarned st s.dev = false → x.writing = none → x.lastCommit = none →
    Gives (.autoCommit st) s (fun e => (e.sys.store[st]).writing = some (captureBody st s.dev) ∧ (e.sys.store[st]).unsaved = none
      ∧ (e.sys.store[st]).lastCommit = some e.time.now ∧ t + sec (nat s.dev 0x1B40 0x03) ≤ e.time.now))
  ∧ (∀ t, x.unsaved = some t → may → powerWarned st s.dev = false → x.writing.isSome = true →
    Gives (.autoCommit st) s (fun e => e.sys.store[st] = { x with waits := true }))
  ∧ (x.unsaved = none ∨ ¬ may → Rests (.autoCommit st) s)

/-- COMMIT_SPACING_EXPIRY (R470): a commit that waits starts 1 s after the store's last. -/
def commitSpacingExpiry : Prop := ∀ (st : Fin 2) (s : State),
  let x := s.dev.sys.store[st]
  (∀ t, x.lastCommit = some t → x.waits = true → x.writing = none → powerWarned st s.dev = false → Gives (.commitSpacingExpiry st) s (fun e =>
    (e.sys.store[st]).writing = some (captureBody st s.dev) ∧ (e.sys.store[st]).waits = false ∧ t + sec 1 ≤ e.time.now))
  ∧ (x.lastCommit = none ∨ x.waits = false ∨ x.writing.isSome = true → Rests (.commitSpacingExpiry st) s)

/-- LEAF_WRITE_COMPLETE (R469): the commit takes the leaf that is not in force, with the next sequence; one that does not read back leaves
the leaf in force. -/
def leafWriteComplete : Prop := ∀ (st : Fin 2) (ok : Bool) (s : State),
  let x := s.dev.sys.store[st]
  let target : Fin 2 := if x.inForce = some 0 then 1 else 0
  let runs := up (if st = 0 then 0 else 7) s.dev = true
  (∀ body, runs → x.writing = some body → ok = true → Gives (.leafWriteComplete st ok) s (fun e =>
    (e.sys.store[st]).inForce = some target ∧ (e.sys.store[st]).writing = none
      ∧ (e.sys.store[st]).leaf[target] = ⟨true, true, body, match x.inForce with
          | some l => nextLeafSeq (x.leaf[l]).seq
          | none => 1⟩))
  ∧ (∀ body, runs → x.writing = some body → ok = false → Gives (.leafWriteComplete st ok) s (fun e =>
    (e.sys.store[st]).inForce = x.inForce ∧ (e.sys.store[st]).writing = none ∧ ((e.sys.store[st]).leaf[target]).seq = 0xFFFFFFFF
      ∧ (∀ l, l ≠ target → (e.sys.store[st]).leaf[l] = x.leaf[l])))
  ∧ (¬ runs ∨ x.writing = none → Rests (.leafWriteComplete st ok) s)

end Sys2Proof.Claims
end

