-- ==== Sys2Proof/Certificates/Slice0/Obligations.lean ====
section
/-! DEFINITION. The statements for the provers. Each gathers claims of Sys2Proof/Claims, which say command by command what the
numbered rules of the manual give. -/

section
open Sys2Proof Sys2Proof.Machine

/-- A step carries out the command at the front of the queue; an empty queue idles. -/
def Obligations.StepRunsTheFrontCommand : Prop :=
  Claims.stepRunsTheFront

/-- Every step and every command answers a next state, and time does not go back. -/
def Obligations.EveryStepAnswers : Prop :=
  Claims.everyStepAnswers

/-- After reset no island runs, every entry holds its default, no session is open and nothing waits. -/
def Obligations.ResetState : Prop :=
  Claims.resetState

/-- Every step keeps the canonical forms of the register file and of the DMA memory. -/
def Obligations.EveryStepKeepsCanonicalForm : Prop :=
  Claims.stepsKeepCanonical

/-- A request whose session is not open on its transport changes nothing but its answer and the frame counters. -/
def Obligations.UnopenedSessionsChangeNothing : Prop :=
  Claims.unopenedSessions

/-- A repeat of the previous request is answered with the previous response and not performed again. -/
def Obligations.RepeatedRequestsActOnce : Prop :=
  Claims.repeatedRequests

/-- A write that check 7 refuses is answered with its code and changes nothing. -/
def Obligations.RefusedWritesChangeNothing : Prop :=
  Claims.refusedWrites

/-- A group is claimed by one session, and a write by any other is refused. -/
def Obligations.GroupsAreClaimedAndKept : Prop :=
  Claims.claimGroup ∧ Claims.ownersOnly

/-- The interlock makes only a change asked for that Table 2.4 allows. -/
def Obligations.InterlockKeepsTheRingSafe : Prop :=
  Claims.interlock

/-- A contactor test needs every outlet out of service and the interlock. -/
def Obligations.ContactorTest : Prop :=
  Claims.contactorTest
  ∧ (∀ (a : Ask) (s : State), allOutOfService s.dev = false → Claims.Refuses (.contactorTest a) s 0x28000010)
  ∧ ∀ (a : Ask) (s : State) (x : ContactorId) (m : Nat), allOutOfService s.dev = true →
      contactorNamed (leNat a.data) = some x → refusal outletPermit x (askContactor x (!(contactor x s.dev).cmd) s.dev) = some m →
      Claims.Refuses (.contactorTest a) s 0x28000011

/-- Restore-defaults puts every kept entry but the exempt ones to its default. -/
def Obligations.RestoreDefaults : Prop :=
  Claims.restoreDefaults
  ∧ ∀ (a : Ask) (s : State), allOutOfService s.dev = false → Claims.Refuses (.restoreDefaults a) s 0x1B000015

/-- A host sets the wall clock while PTP is not in the slave state. -/
def Obligations.WallClock : Prop :=
  Claims.wallClockWrite
  ∧ ∀ (a : Ask) (s : State), s.dev.site.ptp.state = 3 → Claims.Refuses (.wallClockWrite a) s 0x14000010

/-- What the time base, its marks and its channels do. -/
def Obligations.TimeBaseCommands : Prop :=
  Claims.timeMark ∧ Claims.holdoverLimit ∧ Claims.referenceSwitch ∧ Claims.peerTimeTransfer ∧ Claims.channelStale
  ∧ Claims.wallClockOffsetSend ∧ Claims.safetyFeed ∧ Claims.masterRateSlews

/-- What the lanes of the barrier and their messages do. -/
def Obligations.LaneCommands : Prop :=
  Claims.laneNextMessage ∧ Claims.laneRealign ∧ Claims.heartbeat ∧ Claims.barrierLoss ∧ Claims.sessionNotice
  ∧ Claims.dictionaryRequest ∧ Claims.dictionaryResponse ∧ Claims.ridgeFrameFromSafety ∧ Claims.headersReadBack
  ∧ Claims.crcRealigns ∧ Claims.gapsCounted ∧ Claims.requestsCross ∧ Claims.groupAnswers ∧ Claims.wallClockLands

/-- What triggers, snapshot sets and events do. -/
def Obligations.SnapshotAndEventCommands : Prop :=
  Claims.snapInEdge ∧ Claims.partnerScribeTrigger ∧ Claims.snapshotFieldStore ∧ Claims.snapshotSetValid
  ∧ Claims.eventRaised ∧ Claims.eventQueueRoom ∧ Claims.eventLogFlush ∧ Claims.scribeNotice ∧ Claims.snapshotFragment
  ∧ Claims.event

/-- How the lease is renewed, bid for, granted and lost. -/
def Obligations.LeaseCommands : Prop :=
  Claims.dowelRenewalSend ∧ Claims.dowelRenewal ∧ Claims.leaseExpiry ∧ Claims.bidGuardExpiry ∧ Claims.bid
  ∧ Claims.bidAnswer ∧ Claims.bidWaitExpiry ∧ Claims.leaseSupportLost ∧ Claims.holderLeaseEnd ∧ Claims.partnerWaitExpiry

/-- How the roles of a pair swap and what its ports do. -/
def Obligations.SwapCommands : Prop :=
  Claims.yield_ ∧ Claims.yieldAcknowledge ∧ Claims.yieldAckTimeout ∧ Claims.swapBoundary ∧ Claims.swap ∧ Claims.peerStatus
  ∧ Claims.peerPortUp ∧ Claims.peerPortDown

/-- How a pair comes into step and stays in step. -/
def Obligations.PairSynchronisationCommands : Prop :=
  Claims.mirrorBlock ∧ Claims.bulkRequest ∧ Claims.bulkData ∧ Claims.resynchronisation ∧ Claims.resyncTimeout
  ∧ Claims.inStepGained ∧ Claims.inStepLost ∧ Claims.pairingConfigurationWrite

/-- What the key store and the life cycle do. -/
def Obligations.KeyAndLifeCycleCommands : Prop :=
  Claims.keySlotLoad ∧ Claims.keySlotWaitTimeout ∧ Claims.lifeCycleNotice ∧ Claims.factoryTransition
  ∧ Claims.transitionArm ∧ Claims.transitionToField ∧ Claims.transitionToReturn ∧ Claims.transitionToDecommissioned

/-- What a privileged session does to keys and public items. -/
def Obligations.KeyWrites : Prop :=
  Claims.keyValueWrite ∧ Claims.keyGenerate ∧ Claims.keyDelete ∧ Claims.publicItemWrite

/-- How images are staged, checked, run in trial and confirmed. -/
def Obligations.ImageCommands : Prop :=
  Claims.imageBlock ∧ Claims.imageStatus ∧ Claims.bootCheck ∧ Claims.trialConfirm ∧ Claims.confirmTimeout
  ∧ Claims.fxWinddownEnd ∧ Claims.imageStage ∧ Claims.discardStaged ∧ Claims.fallBack ∧ Claims.activateModule
  ∧ Claims.activatePair ∧ Claims.bootWithout

/-- How the configuration stores are committed. -/
def Obligations.LeafCommands : Prop :=
  Claims.autoCommit ∧ Claims.commitSpacingExpiry ∧ Claims.leafWriteComplete ∧ Claims.commit

/-- What the supplies and the power-fail sequences do. -/
def Obligations.PowerSequenceCommands : Prop :=
  Claims.fieldPowerFailWarning ∧ Claims.fieldSequenceEnd ∧ Claims.hostPowerFailWarning ∧ Claims.fieldPowerUp
  ∧ Claims.hostPowerUp ∧ Claims.holdupCharged ∧ Claims.domainStartFailed

/-- What redundancy, temperature and restarts of islands do. -/
def Obligations.SupplyCommands : Prop :=
  Claims.supplyRedundancyLost ∧ Claims.supplyRedundancyRestored ∧ Claims.holdupTest ∧ Claims.coldPlateRead
  ∧ Claims.overTemperatureShutdown ∧ Claims.overTemperatureRestart ∧ Claims.islandWatchdogReset
  ∧ Claims.fieldIslandRestart

/-- What the CAN FD controllers do with frames. -/
def Obligations.CanCommands : Prop :=
  Claims.canFrameReceived ∧ Claims.canFrameTransmitted ∧ Claims.stagingAdmission ∧ Claims.busOff ∧ Claims.busOffRecovery
  ∧ Claims.canHeartbeat ∧ Claims.imdCommand ∧ Claims.frontEndStatus ∧ Claims.imdReadingFrame

/-- How a module claims and gives up its address. -/
def Obligations.AddressCommands : Prop :=
  Claims.addrInHigh ∧ Claims.addressListenExpiry ∧ Claims.claimListenExpiry ∧ Claims.addressClaim ∧ Claims.claimRetryDelay
  ∧ Claims.reClaim

/-- How sessions open, live and close. -/
def Obligations.SessionCommands : Prop :=
  Claims.openSession ∧ Claims.sessionTimeout ∧ Claims.usbChallengeExpiry ∧ Claims.transferTimeout ∧ Claims.publication
  ∧ Claims.closeSession ∧ Claims.keepAlive

/-- What TLS connections, PTP and the Ethernet links do. -/
def Obligations.ConnectionCommands : Prop :=
  Claims.tlsConnection ∧ Claims.tlsHandshakeTimeout ∧ Claims.tlsIdleTimeout ∧ Claims.ptpSync ∧ Claims.ptpSyncLoss
  ∧ Claims.ethernetLinkChange

/-- How the dictionary server answers reads, writes, releases and subscriptions. -/
def Obligations.ReadsAndWrites : Prop :=
  Claims.read ∧ Claims.write ∧ Claims.releaseGroup ∧ Claims.queryOwner ∧ Claims.subscribe ∧ Claims.unsubscribe

/-- How segmented transfers run. -/
def Obligations.SegmentedTransfers : Prop :=
  Claims.readSegmentedStart ∧ Claims.readSegment ∧ Claims.writeSegmentedStart ∧ Claims.writeSegment
  ∧ Claims.transferAbandon

/-- How contactor travel is confirmed, failed and cleared. -/
def Obligations.ContactorCommands : Prop :=
  Claims.contactorTravelConfirmed ∧ Claims.contactorTravelFault ∧ Claims.contactDisagreement ∧ Claims.clearFrozenTie
  ∧ Claims.clearContactorTravelFault ∧ Claims.ringConfigurationWrite ∧ Claims.isolationRequest

/-- What the spline links and the cards do. -/
def Obligations.SplineLinkCommands : Prop :=
  Claims.uplinkDeadline ∧ Claims.linkHoldExpiry ∧ Claims.brickLinkUp ∧ Claims.portDelayMeasurement
  ∧ Claims.downlinkFrameAccept ∧ Claims.cardDownlinkDeadline ∧ Claims.cardContactorHold ∧ Claims.serviceRequest

/-- What legs do and what a host does to them. -/
def Obligations.LegCommands : Prop :=
  Claims.legLostRecovery ∧ Claims.syncInEdge ∧ Claims.syncLoss ∧ Claims.diodeEmulationEntry ∧ Claims.shedDwellExpiry
  ∧ Claims.brakingWindowEnd ∧ Claims.senseImplausible ∧ Claims.telemetryWindowEnd ∧ Claims.legFaultReset
  ∧ Claims.legEnableWrite ∧ Claims.peakCapture

/-- How rails start, track, drain and lose their sense. -/
def Obligations.RailCommands : Prop :=
  Claims.startSettleExpiry ∧ Claims.trackingTimeout ∧ Claims.ratiometricPauseLimit ∧ Claims.drainTimeout
  ∧ Claims.episodePause ∧ Claims.railSenseLost

/-- What a host commands of a rail. -/
def Obligations.RailWrites : Prop :=
  Claims.controlSourceWrite ∧ Claims.setpointIndexWrite ∧ Claims.directSetpointWrite ∧ Claims.modeRequestWrite
  ∧ Claims.railStart ∧ Claims.railStop ∧ Claims.railIsolate ∧ Claims.railRestore ∧ Claims.ratiometricStart

/-- What the control period and the loop engine do. -/
def Obligations.EngineCommands : Prop :=
  Claims.controlPeriod ∧ Claims.generatorStartDelayExpiry ∧ Claims.thermalInputStale ∧ Claims.followingErrorTimer
  ∧ Claims.injectionEnd

/-- What a host commands of the loop engine. -/
def Obligations.EngineWrites : Prop :=
  Claims.classFormatWrite ∧ Claims.coefficientWrite ∧ Claims.generatorTargetWrite ∧ Claims.generatorStart
  ∧ Claims.injectionStart ∧ Claims.injectionStop ∧ Claims.followingErrorReset

/-- What the allocator plans and what bounds it. -/
def Obligations.PlanningCommands : Prop :=
  Claims.planningCycle ∧ Claims.planningOverrun ∧ Claims.gridLimitExpiry ∧ Claims.frontEndStale
  ∧ Claims.frontEndStaleHoldExpiry ∧ Claims.sitePowerData ∧ Claims.releaseHoldExpiry ∧ Claims.gridLimitWrite
  ∧ Claims.replan ∧ Claims.layoutHoldWrite

/-- How the moves of a plan run. -/
def Obligations.MoveCommands : Prop :=
  Claims.moveStart ∧ Claims.handoverEnd ∧ Claims.handoverTimeout ∧ Claims.openWaitLimit ∧ Claims.restoreWaitLimit

/-- How an outlet is plugged, authorised and given its targets. -/
def Obligations.OutletSessionCommands : Prop :=
  Claims.connectionDetected ∧ Claims.unplugDetected ∧ Claims.plugTimeout ∧ Claims.targetTimeout
  ∧ Claims.switchOverTargetHoldExpiry ∧ Claims.vehicleTargetUpdate ∧ Claims.outletStatus ∧ Claims.vehicleMessage
  ∧ Claims.authorizationTimeout ∧ Claims.authorizationResultWrite ∧ Claims.outletBoundary

/-- How a cable is checked and its insulation watched. -/
def Obligations.CableCheckCommands : Prop :=
  Claims.cableCheckRailReady ∧ Claims.imdSettleExpiry ∧ Claims.cableCheckTimeout ∧ Claims.cableShort ∧ Claims.imdReading
  ∧ Claims.imdAgeExpiry ∧ Claims.directionChangeComplete

/-- How an outlet ends a session. -/
def Obligations.OutletEndCommands : Prop :=
  Claims.fastStopEnd ∧ Claims.outletContactorOpen ∧ Claims.faultedRailStop ∧ Claims.winddownTimeout ∧ Claims.weldCheckPass
  ∧ Claims.cableDischargeExpiry ∧ Claims.outletStop ∧ Claims.outletOutOfService ∧ Claims.outletReturnToService
  ∧ Claims.outletFaultReset

/-- What the head data and the cooling do. -/
def Obligations.CoolingCommands : Prop :=
  Claims.headData ∧ Claims.headStale ∧ Claims.deratingUpdate ∧ Claims.flowFault ∧ Claims.flowFaultClear
  ∧ Claims.runOnExpiry

/-- What the metering link and its registers do. -/
def Obligations.MeteringLinkCommands : Prop :=
  Claims.meteringUplinkFrame ∧ Claims.meteringDownlinkFrame ∧ Claims.meteringLinkDown ∧ Claims.meteringLinkUp
  ∧ Claims.meteringIntervalEnd ∧ Claims.pulseBacklogIssue ∧ Claims.testPulseEdge ∧ Claims.outletStatusCopy

/-- How metering sessions are opened, closed, signed and acknowledged. -/
def Obligations.MeteringSessionCommands : Prop :=
  Claims.meteringSessionOpen ∧ Claims.meteringSessionClose ∧ Claims.lateStartWitness ∧ Claims.recordSigned
  ∧ Claims.meteringRecord ∧ Claims.meteringRecordAcknowledge ∧ Claims.meteringRecordRetransmit

/-- How metrology is saved, restarted and sealed. -/
def Obligations.MetrologySaveCommands : Prop :=
  Claims.periodicSave ∧ Claims.finalWriteStart ∧ Claims.metrologyStartClose ∧ Claims.metrologyRestartContinuation
  ∧ Claims.metrologyWindowExpiry ∧ Claims.powerFailNotice ∧ Claims.pairHead ∧ Claims.metrologyWindowOpen
  ∧ Claims.metrologyWindowClose ∧ Claims.sealRelevantWrite

/-- What the safety island does with inputs, outputs and tests. -/
def Obligations.SafetyCycleCommands : Prop :=
  Claims.safetyCycle ∧ Claims.safetyInputSample ∧ Claims.discrepancyTimeout ∧ Claims.darkPulseTest
  ∧ Claims.darkPulseTimeout ∧ Claims.chargePumpTimeout ∧ Claims.coreDisagreement ∧ Claims.safetySelfTestComplete
  ∧ Claims.currentWaitTimeout ∧ Claims.feedbackTimerEnd

/-- What Ridge consumers and producers do. -/
def Obligations.RidgeCommands : Prop :=
  Claims.ridgeFrameToSafety ∧ Claims.ridgeWatchdog ∧ Claims.ridgeFaultRecovery ∧ Claims.ridgeAcknowledge
  ∧ Claims.ridgeProducerWatchdog

/-- How the safety configuration is changed. -/
def Obligations.SafetyConfigurationCommands : Prop :=
  Claims.passwordHoldExpiry ∧ Claims.lockoutExpiry ∧ Claims.transactionTimeout ∧ Claims.passwordWrite
  ∧ Claims.transactionOpen ∧ Claims.transactionCommit ∧ Claims.transactionAbort ∧ Claims.safeWrite ∧ Claims.safetyRestart
  ∧ Claims.sf2FaultReset ∧ Claims.sf1FaultReset

/-- How load channels are commanded, and run without commands. -/
def Obligations.LoadCommandCommands : Prop :=
  Claims.loadCommandTransfer ∧ Claims.loadCommandStale ∧ Claims.orphanTimeout ∧ Claims.limpNChange ∧ Claims.lhInChange
  ∧ Claims.loadSupplyLow ∧ Claims.loadSupplyReturn ∧ Claims.channelCommandWrite ∧ Claims.limpHomeMapWrite
  ∧ Claims.generalInputEnableWrite

/-- How load channels are protected and measured. -/
def Obligations.LoadProtectionCommands : Prop :=
  Claims.wireModelUpdate ∧ Claims.shortCircuitTrip ∧ Claims.retryDelayExpiry ∧ Claims.retryResetExpiry
  ∧ Claims.junctionLatch ∧ Claims.clampEvent ∧ Claims.openLoadDetection ∧ Claims.senseScanStep ∧ Claims.extselChange
  ∧ Claims.dissipationEstimate ∧ Claims.channelClear ∧ Claims.forcedSelectWrite ∧ Claims.externalSelectPermitWrite

/-- What a cycle of Eaveline carries. -/
def Obligations.EavelineCycleCommands : Prop :=
  Claims.eavelineCycle ∧ Claims.eavelineMasterTake ∧ Claims.cycleHeader ∧ Claims.nodePreambleLoss ∧ Claims.controlBlock
  ∧ Claims.dataBlock ∧ Claims.messageReassemblyTimeout ∧ Claims.eavelineStateSync

/-- How Eaveline nodes are admitted, tuned, measured and lost. -/
def Obligations.EavelineNodeCommands : Prop :=
  Claims.robustStepUp ∧ Claims.stepUpCountReset ∧ Claims.layoutSwitch ∧ Claims.admissionAnswer ∧ Claims.nodeRefusedRetry
  ∧ Claims.nodeLost ∧ Claims.mainsRefCrossing ∧ Claims.zeroCrossingReport ∧ Claims.removeNode ∧ Claims.expectedSerialWrite

/-- What the DMA channels, capture memory and trigger commands do. -/
def Obligations.DmaCommands : Prop :=
  Claims.dmaDescriptorEnd ∧ Claims.dmaChannelStart ∧ Claims.dmaStopRequest ∧ Claims.dmaChannelRegisterWrite
  ∧ Claims.descriptorWrite ∧ Claims.captureClaim ∧ Claims.captureRelease ∧ Claims.snapshotTriggerCommand ∧ Claims.dmaServe

/-- What the commands of the barrier, snapshots, Eaveline and DMA leave unchanged. -/
def Obligations.BarrierAndLineFrames : Prop :=
  Claims.timeAndBarrierFrames ∧ Claims.lineFrames

/-- What the commands of the ring, the rails, the engine and the allocator leave unchanged. -/
def Obligations.PowerFrames : Prop :=
  Claims.ringFrames ∧ Claims.powerFrames

/-- What the commands of outlets, metrology and load channels leave unchanged. -/
def Obligations.OutletFrames : Prop :=
  Claims.outletFrames ∧ Claims.metrologyFrames ∧ Claims.loadFrames

/-- What the commands of safety, pairing, keys, images and supplies leave unchanged. -/
def Obligations.SafetyAndPairFrames : Prop :=
  Claims.safetyFrames ∧ Claims.pairFrames ∧ Claims.moduleFrames

/-- What the commands of the site bus and the services but the writes leave unchanged. -/
def Obligations.SiteFrames : Prop :=
  Claims.siteFrames ∧ Claims.serverFrames

end
end

