-- ==== Sys2Proof/Laws/State.lean ====
section
/-! SUPPORT. What each update of the state leaves of each field, by definition. -/
namespace Sys2Proof.Machine
variable (d : Dev)

/-! `reach` changes `time` alone. -/
@[simp] theorem reach_regs (t : Nat) : (reach t d).regs = d.regs := rfl
@[simp] theorem reach_isl (t : Nat) : (reach t d).isl = d.isl := rfl
@[simp] theorem reach_chan (t : Nat) : (reach t d).chan = d.chan := rfl
@[simp] theorem reach_barrier (t : Nat) : (reach t d).barrier = d.barrier := rfl
@[simp] theorem reach_site (t : Nat) : (reach t d).site = d.site := rfl
@[simp] theorem reach_dma (t : Nat) : (reach t d).dma = d.dma := rfl
@[simp] theorem reach_snap (t : Nat) : (reach t d).snap = d.snap := rfl
@[simp] theorem reach_log (t : Nat) : (reach t d).log = d.log := rfl
@[simp] theorem reach_ring (t : Nat) : (reach t d).ring = d.ring := rfl
@[simp] theorem reach_brick (t : Nat) : (reach t d).brick = d.brick := rfl
@[simp] theorem reach_drive (t : Nat) : (reach t d).drive = d.drive := rfl
@[simp] theorem reach_leg (t : Nat) : (reach t d).leg = d.leg := rfl
@[simp] theorem reach_card (t : Nat) : (reach t d).card = d.card := rfl
@[simp] theorem reach_sent (t : Nat) : (reach t d).sent = d.sent := rfl
@[simp] theorem reach_sync (t : Nat) : (reach t d).sync = d.sync := rfl
@[simp] theorem reach_rail (t : Nat) : (reach t d).rail = d.rail := rfl
@[simp] theorem reach_ratio (t : Nat) : (reach t d).ratio = d.ratio := rfl
@[simp] theorem reach_eng (t : Nat) : (reach t d).eng = d.eng := rfl
@[simp] theorem reach_alloc (t : Nat) : (reach t d).alloc = d.alloc := rfl
@[simp] theorem reach_out (t : Nat) : (reach t d).out = d.out := rfl
@[simp] theorem reach_vehicle (t : Nat) : (reach t d).vehicle = d.vehicle := rfl
@[simp] theorem reach_safety (t : Nat) : (reach t d).safety = d.safety := rfl
@[simp] theorem reach_metro (t : Nat) : (reach t d).metro = d.metro := rfl
@[simp] theorem reach_load (t : Nat) : (reach t d).load = d.load := rfl
@[simp] theorem reach_pair (t : Nat) : (reach t d).pair = d.pair := rfl
@[simp] theorem reach_eave (t : Nat) : (reach t d).eave = d.eave := rfl
@[simp] theorem reach_sys (t : Nat) : (reach t d).sys = d.sys := rfl
@[simp] theorem reach_freeCount (t : Nat) : (reach t d).freeCount = d.freeCount := rfl

/-! `setVal` changes `regs` alone. -/
@[simp] theorem setVal_time (k : Nat) (v : DVal) : (setVal k v d).time = d.time := rfl
@[simp] theorem setVal_isl (k : Nat) (v : DVal) : (setVal k v d).isl = d.isl := rfl
@[simp] theorem setVal_chan (k : Nat) (v : DVal) : (setVal k v d).chan = d.chan := rfl
@[simp] theorem setVal_barrier (k : Nat) (v : DVal) : (setVal k v d).barrier = d.barrier := rfl
@[simp] theorem setVal_site (k : Nat) (v : DVal) : (setVal k v d).site = d.site := rfl
@[simp] theorem setVal_dma (k : Nat) (v : DVal) : (setVal k v d).dma = d.dma := rfl
@[simp] theorem setVal_snap (k : Nat) (v : DVal) : (setVal k v d).snap = d.snap := rfl
@[simp] theorem setVal_log (k : Nat) (v : DVal) : (setVal k v d).log = d.log := rfl
@[simp] theorem setVal_ring (k : Nat) (v : DVal) : (setVal k v d).ring = d.ring := rfl
@[simp] theorem setVal_brick (k : Nat) (v : DVal) : (setVal k v d).brick = d.brick := rfl
@[simp] theorem setVal_drive (k : Nat) (v : DVal) : (setVal k v d).drive = d.drive := rfl
@[simp] theorem setVal_leg (k : Nat) (v : DVal) : (setVal k v d).leg = d.leg := rfl
@[simp] theorem setVal_card (k : Nat) (v : DVal) : (setVal k v d).card = d.card := rfl
@[simp] theorem setVal_sent (k : Nat) (v : DVal) : (setVal k v d).sent = d.sent := rfl
@[simp] theorem setVal_sync (k : Nat) (v : DVal) : (setVal k v d).sync = d.sync := rfl
@[simp] theorem setVal_rail (k : Nat) (v : DVal) : (setVal k v d).rail = d.rail := rfl
@[simp] theorem setVal_ratio (k : Nat) (v : DVal) : (setVal k v d).ratio = d.ratio := rfl
@[simp] theorem setVal_eng (k : Nat) (v : DVal) : (setVal k v d).eng = d.eng := rfl
@[simp] theorem setVal_alloc (k : Nat) (v : DVal) : (setVal k v d).alloc = d.alloc := rfl
@[simp] theorem setVal_out (k : Nat) (v : DVal) : (setVal k v d).out = d.out := rfl
@[simp] theorem setVal_vehicle (k : Nat) (v : DVal) : (setVal k v d).vehicle = d.vehicle := rfl
@[simp] theorem setVal_safety (k : Nat) (v : DVal) : (setVal k v d).safety = d.safety := rfl
@[simp] theorem setVal_metro (k : Nat) (v : DVal) : (setVal k v d).metro = d.metro := rfl
@[simp] theorem setVal_load (k : Nat) (v : DVal) : (setVal k v d).load = d.load := rfl
@[simp] theorem setVal_pair (k : Nat) (v : DVal) : (setVal k v d).pair = d.pair := rfl
@[simp] theorem setVal_eave (k : Nat) (v : DVal) : (setVal k v d).eave = d.eave := rfl
@[simp] theorem setVal_sys (k : Nat) (v : DVal) : (setVal k v d).sys = d.sys := rfl
@[simp] theorem setVal_freeCount (k : Nat) (v : DVal) : (setVal k v d).freeCount = d.freeCount := rfl

/-! `setIsland` changes `isl` alone. -/
@[simp] theorem setIsland_time (i : Fin 8) (st : IslandState) : (setIsland i st d).time = d.time := rfl
@[simp] theorem setIsland_regs (i : Fin 8) (st : IslandState) : (setIsland i st d).regs = d.regs := rfl
@[simp] theorem setIsland_chan (i : Fin 8) (st : IslandState) : (setIsland i st d).chan = d.chan := rfl
@[simp] theorem setIsland_barrier (i : Fin 8) (st : IslandState) : (setIsland i st d).barrier = d.barrier := rfl
@[simp] theorem setIsland_site (i : Fin 8) (st : IslandState) : (setIsland i st d).site = d.site := rfl
@[simp] theorem setIsland_dma (i : Fin 8) (st : IslandState) : (setIsland i st d).dma = d.dma := rfl
@[simp] theorem setIsland_snap (i : Fin 8) (st : IslandState) : (setIsland i st d).snap = d.snap := rfl
@[simp] theorem setIsland_log (i : Fin 8) (st : IslandState) : (setIsland i st d).log = d.log := rfl
@[simp] theorem setIsland_ring (i : Fin 8) (st : IslandState) : (setIsland i st d).ring = d.ring := rfl
@[simp] theorem setIsland_brick (i : Fin 8) (st : IslandState) : (setIsland i st d).brick = d.brick := rfl
@[simp] theorem setIsland_drive (i : Fin 8) (st : IslandState) : (setIsland i st d).drive = d.drive := rfl
@[simp] theorem setIsland_leg (i : Fin 8) (st : IslandState) : (setIsland i st d).leg = d.leg := rfl
@[simp] theorem setIsland_card (i : Fin 8) (st : IslandState) : (setIsland i st d).card = d.card := rfl
@[simp] theorem setIsland_sent (i : Fin 8) (st : IslandState) : (setIsland i st d).sent = d.sent := rfl
@[simp] theorem setIsland_sync (i : Fin 8) (st : IslandState) : (setIsland i st d).sync = d.sync := rfl
@[simp] theorem setIsland_rail (i : Fin 8) (st : IslandState) : (setIsland i st d).rail = d.rail := rfl
@[simp] theorem setIsland_ratio (i : Fin 8) (st : IslandState) : (setIsland i st d).ratio = d.ratio := rfl
@[simp] theorem setIsland_eng (i : Fin 8) (st : IslandState) : (setIsland i st d).eng = d.eng := rfl
@[simp] theorem setIsland_alloc (i : Fin 8) (st : IslandState) : (setIsland i st d).alloc = d.alloc := rfl
@[simp] theorem setIsland_out (i : Fin 8) (st : IslandState) : (setIsland i st d).out = d.out := rfl
@[simp] theorem setIsland_vehicle (i : Fin 8) (st : IslandState) : (setIsland i st d).vehicle = d.vehicle := rfl
@[simp] theorem setIsland_safety (i : Fin 8) (st : IslandState) : (setIsland i st d).safety = d.safety := rfl
@[simp] theorem setIsland_metro (i : Fin 8) (st : IslandState) : (setIsland i st d).metro = d.metro := rfl
@[simp] theorem setIsland_load (i : Fin 8) (st : IslandState) : (setIsland i st d).load = d.load := rfl
@[simp] theorem setIsland_pair (i : Fin 8) (st : IslandState) : (setIsland i st d).pair = d.pair := rfl
@[simp] theorem setIsland_eave (i : Fin 8) (st : IslandState) : (setIsland i st d).eave = d.eave := rfl
@[simp] theorem setIsland_sys (i : Fin 8) (st : IslandState) : (setIsland i st d).sys = d.sys := rfl
@[simp] theorem setIsland_freeCount (i : Fin 8) (st : IslandState) : (setIsland i st d).freeCount = d.freeCount := rfl

/-! `onSite` changes `site` alone. -/
@[simp] theorem onSite_time (f : HostSite → HostSite) : (onSite f d).time = d.time := rfl
@[simp] theorem onSite_regs (f : HostSite → HostSite) : (onSite f d).regs = d.regs := rfl
@[simp] theorem onSite_isl (f : HostSite → HostSite) : (onSite f d).isl = d.isl := rfl
@[simp] theorem onSite_chan (f : HostSite → HostSite) : (onSite f d).chan = d.chan := rfl
@[simp] theorem onSite_barrier (f : HostSite → HostSite) : (onSite f d).barrier = d.barrier := rfl
@[simp] theorem onSite_dma (f : HostSite → HostSite) : (onSite f d).dma = d.dma := rfl
@[simp] theorem onSite_snap (f : HostSite → HostSite) : (onSite f d).snap = d.snap := rfl
@[simp] theorem onSite_log (f : HostSite → HostSite) : (onSite f d).log = d.log := rfl
@[simp] theorem onSite_ring (f : HostSite → HostSite) : (onSite f d).ring = d.ring := rfl
@[simp] theorem onSite_brick (f : HostSite → HostSite) : (onSite f d).brick = d.brick := rfl
@[simp] theorem onSite_drive (f : HostSite → HostSite) : (onSite f d).drive = d.drive := rfl
@[simp] theorem onSite_leg (f : HostSite → HostSite) : (onSite f d).leg = d.leg := rfl
@[simp] theorem onSite_card (f : HostSite → HostSite) : (onSite f d).card = d.card := rfl
@[simp] theorem onSite_sent (f : HostSite → HostSite) : (onSite f d).sent = d.sent := rfl
@[simp] theorem onSite_sync (f : HostSite → HostSite) : (onSite f d).sync = d.sync := rfl
@[simp] theorem onSite_rail (f : HostSite → HostSite) : (onSite f d).rail = d.rail := rfl
@[simp] theorem onSite_ratio (f : HostSite → HostSite) : (onSite f d).ratio = d.ratio := rfl
@[simp] theorem onSite_eng (f : HostSite → HostSite) : (onSite f d).eng = d.eng := rfl
@[simp] theorem onSite_alloc (f : HostSite → HostSite) : (onSite f d).alloc = d.alloc := rfl
@[simp] theorem onSite_out (f : HostSite → HostSite) : (onSite f d).out = d.out := rfl
@[simp] theorem onSite_vehicle (f : HostSite → HostSite) : (onSite f d).vehicle = d.vehicle := rfl
@[simp] theorem onSite_safety (f : HostSite → HostSite) : (onSite f d).safety = d.safety := rfl
@[simp] theorem onSite_metro (f : HostSite → HostSite) : (onSite f d).metro = d.metro := rfl
@[simp] theorem onSite_load (f : HostSite → HostSite) : (onSite f d).load = d.load := rfl
@[simp] theorem onSite_pair (f : HostSite → HostSite) : (onSite f d).pair = d.pair := rfl
@[simp] theorem onSite_eave (f : HostSite → HostSite) : (onSite f d).eave = d.eave := rfl
@[simp] theorem onSite_sys (f : HostSite → HostSite) : (onSite f d).sys = d.sys := rfl
@[simp] theorem onSite_freeCount (f : HostSite → HostSite) : (onSite f d).freeCount = d.freeCount := rfl

/-! `onCan` changes `site` alone. -/
@[simp] theorem onCan_time (c : Fin 2) (f : CanCtl → CanCtl) : (onCan c f d).time = d.time := rfl
@[simp] theorem onCan_regs (c : Fin 2) (f : CanCtl → CanCtl) : (onCan c f d).regs = d.regs := rfl
@[simp] theorem onCan_isl (c : Fin 2) (f : CanCtl → CanCtl) : (onCan c f d).isl = d.isl := rfl
@[simp] theorem onCan_chan (c : Fin 2) (f : CanCtl → CanCtl) : (onCan c f d).chan = d.chan := rfl
@[simp] theorem onCan_barrier (c : Fin 2) (f : CanCtl → CanCtl) : (onCan c f d).barrier = d.barrier := rfl
@[simp] theorem onCan_dma (c : Fin 2) (f : CanCtl → CanCtl) : (onCan c f d).dma = d.dma := rfl
@[simp] theorem onCan_snap (c : Fin 2) (f : CanCtl → CanCtl) : (onCan c f d).snap = d.snap := rfl
@[simp] theorem onCan_log (c : Fin 2) (f : CanCtl → CanCtl) : (onCan c f d).log = d.log := rfl
@[simp] theorem onCan_ring (c : Fin 2) (f : CanCtl → CanCtl) : (onCan c f d).ring = d.ring := rfl
@[simp] theorem onCan_brick (c : Fin 2) (f : CanCtl → CanCtl) : (onCan c f d).brick = d.brick := rfl
@[simp] theorem onCan_drive (c : Fin 2) (f : CanCtl → CanCtl) : (onCan c f d).drive = d.drive := rfl
@[simp] theorem onCan_leg (c : Fin 2) (f : CanCtl → CanCtl) : (onCan c f d).leg = d.leg := rfl
@[simp] theorem onCan_card (c : Fin 2) (f : CanCtl → CanCtl) : (onCan c f d).card = d.card := rfl
@[simp] theorem onCan_sent (c : Fin 2) (f : CanCtl → CanCtl) : (onCan c f d).sent = d.sent := rfl
@[simp] theorem onCan_sync (c : Fin 2) (f : CanCtl → CanCtl) : (onCan c f d).sync = d.sync := rfl
@[simp] theorem onCan_rail (c : Fin 2) (f : CanCtl → CanCtl) : (onCan c f d).rail = d.rail := rfl
@[simp] theorem onCan_ratio (c : Fin 2) (f : CanCtl → CanCtl) : (onCan c f d).ratio = d.ratio := rfl
@[simp] theorem onCan_eng (c : Fin 2) (f : CanCtl → CanCtl) : (onCan c f d).eng = d.eng := rfl
@[simp] theorem onCan_alloc (c : Fin 2) (f : CanCtl → CanCtl) : (onCan c f d).alloc = d.alloc := rfl
@[simp] theorem onCan_out (c : Fin 2) (f : CanCtl → CanCtl) : (onCan c f d).out = d.out := rfl
@[simp] theorem onCan_vehicle (c : Fin 2) (f : CanCtl → CanCtl) : (onCan c f d).vehicle = d.vehicle := rfl
@[simp] theorem onCan_safety (c : Fin 2) (f : CanCtl → CanCtl) : (onCan c f d).safety = d.safety := rfl
@[simp] theorem onCan_metro (c : Fin 2) (f : CanCtl → CanCtl) : (onCan c f d).metro = d.metro := rfl
@[simp] theorem onCan_load (c : Fin 2) (f : CanCtl → CanCtl) : (onCan c f d).load = d.load := rfl
@[simp] theorem onCan_pair (c : Fin 2) (f : CanCtl → CanCtl) : (onCan c f d).pair = d.pair := rfl
@[simp] theorem onCan_eave (c : Fin 2) (f : CanCtl → CanCtl) : (onCan c f d).eave = d.eave := rfl
@[simp] theorem onCan_sys (c : Fin 2) (f : CanCtl → CanCtl) : (onCan c f d).sys = d.sys := rfl
@[simp] theorem onCan_freeCount (c : Fin 2) (f : CanCtl → CanCtl) : (onCan c f d).freeCount = d.freeCount := rfl

/-! `onAddr` changes `site` alone. -/
@[simp] theorem onAddr_time (f : Addr → Addr) : (onAddr f d).time = d.time := rfl
@[simp] theorem onAddr_regs (f : Addr → Addr) : (onAddr f d).regs = d.regs := rfl
@[simp] theorem onAddr_isl (f : Addr → Addr) : (onAddr f d).isl = d.isl := rfl
@[simp] theorem onAddr_chan (f : Addr → Addr) : (onAddr f d).chan = d.chan := rfl
@[simp] theorem onAddr_barrier (f : Addr → Addr) : (onAddr f d).barrier = d.barrier := rfl
@[simp] theorem onAddr_dma (f : Addr → Addr) : (onAddr f d).dma = d.dma := rfl
@[simp] theorem onAddr_snap (f : Addr → Addr) : (onAddr f d).snap = d.snap := rfl
@[simp] theorem onAddr_log (f : Addr → Addr) : (onAddr f d).log = d.log := rfl
@[simp] theorem onAddr_ring (f : Addr → Addr) : (onAddr f d).ring = d.ring := rfl
@[simp] theorem onAddr_brick (f : Addr → Addr) : (onAddr f d).brick = d.brick := rfl
@[simp] theorem onAddr_drive (f : Addr → Addr) : (onAddr f d).drive = d.drive := rfl
@[simp] theorem onAddr_leg (f : Addr → Addr) : (onAddr f d).leg = d.leg := rfl
@[simp] theorem onAddr_card (f : Addr → Addr) : (onAddr f d).card = d.card := rfl
@[simp] theorem onAddr_sent (f : Addr → Addr) : (onAddr f d).sent = d.sent := rfl
@[simp] theorem onAddr_sync (f : Addr → Addr) : (onAddr f d).sync = d.sync := rfl
@[simp] theorem onAddr_rail (f : Addr → Addr) : (onAddr f d).rail = d.rail := rfl
@[simp] theorem onAddr_ratio (f : Addr → Addr) : (onAddr f d).ratio = d.ratio := rfl
@[simp] theorem onAddr_eng (f : Addr → Addr) : (onAddr f d).eng = d.eng := rfl
@[simp] theorem onAddr_alloc (f : Addr → Addr) : (onAddr f d).alloc = d.alloc := rfl
@[simp] theorem onAddr_out (f : Addr → Addr) : (onAddr f d).out = d.out := rfl
@[simp] theorem onAddr_vehicle (f : Addr → Addr) : (onAddr f d).vehicle = d.vehicle := rfl
@[simp] theorem onAddr_safety (f : Addr → Addr) : (onAddr f d).safety = d.safety := rfl
@[simp] theorem onAddr_metro (f : Addr → Addr) : (onAddr f d).metro = d.metro := rfl
@[simp] theorem onAddr_load (f : Addr → Addr) : (onAddr f d).load = d.load := rfl
@[simp] theorem onAddr_pair (f : Addr → Addr) : (onAddr f d).pair = d.pair := rfl
@[simp] theorem onAddr_eave (f : Addr → Addr) : (onAddr f d).eave = d.eave := rfl
@[simp] theorem onAddr_sys (f : Addr → Addr) : (onAddr f d).sys = d.sys := rfl
@[simp] theorem onAddr_freeCount (f : Addr → Addr) : (onAddr f d).freeCount = d.freeCount := rfl

/-! `onPtp` changes `site` alone. -/
@[simp] theorem onPtp_time (f : Ptp → Ptp) : (onPtp f d).time = d.time := rfl
@[simp] theorem onPtp_regs (f : Ptp → Ptp) : (onPtp f d).regs = d.regs := rfl
@[simp] theorem onPtp_isl (f : Ptp → Ptp) : (onPtp f d).isl = d.isl := rfl
@[simp] theorem onPtp_chan (f : Ptp → Ptp) : (onPtp f d).chan = d.chan := rfl
@[simp] theorem onPtp_barrier (f : Ptp → Ptp) : (onPtp f d).barrier = d.barrier := rfl
@[simp] theorem onPtp_dma (f : Ptp → Ptp) : (onPtp f d).dma = d.dma := rfl
@[simp] theorem onPtp_snap (f : Ptp → Ptp) : (onPtp f d).snap = d.snap := rfl
@[simp] theorem onPtp_log (f : Ptp → Ptp) : (onPtp f d).log = d.log := rfl
@[simp] theorem onPtp_ring (f : Ptp → Ptp) : (onPtp f d).ring = d.ring := rfl
@[simp] theorem onPtp_brick (f : Ptp → Ptp) : (onPtp f d).brick = d.brick := rfl
@[simp] theorem onPtp_drive (f : Ptp → Ptp) : (onPtp f d).drive = d.drive := rfl
@[simp] theorem onPtp_leg (f : Ptp → Ptp) : (onPtp f d).leg = d.leg := rfl
@[simp] theorem onPtp_card (f : Ptp → Ptp) : (onPtp f d).card = d.card := rfl
@[simp] theorem onPtp_sent (f : Ptp → Ptp) : (onPtp f d).sent = d.sent := rfl
@[simp] theorem onPtp_sync (f : Ptp → Ptp) : (onPtp f d).sync = d.sync := rfl
@[simp] theorem onPtp_rail (f : Ptp → Ptp) : (onPtp f d).rail = d.rail := rfl
@[simp] theorem onPtp_ratio (f : Ptp → Ptp) : (onPtp f d).ratio = d.ratio := rfl
@[simp] theorem onPtp_eng (f : Ptp → Ptp) : (onPtp f d).eng = d.eng := rfl
@[simp] theorem onPtp_alloc (f : Ptp → Ptp) : (onPtp f d).alloc = d.alloc := rfl
@[simp] theorem onPtp_out (f : Ptp → Ptp) : (onPtp f d).out = d.out := rfl
@[simp] theorem onPtp_vehicle (f : Ptp → Ptp) : (onPtp f d).vehicle = d.vehicle := rfl
@[simp] theorem onPtp_safety (f : Ptp → Ptp) : (onPtp f d).safety = d.safety := rfl
@[simp] theorem onPtp_metro (f : Ptp → Ptp) : (onPtp f d).metro = d.metro := rfl
@[simp] theorem onPtp_load (f : Ptp → Ptp) : (onPtp f d).load = d.load := rfl
@[simp] theorem onPtp_pair (f : Ptp → Ptp) : (onPtp f d).pair = d.pair := rfl
@[simp] theorem onPtp_eave (f : Ptp → Ptp) : (onPtp f d).eave = d.eave := rfl
@[simp] theorem onPtp_sys (f : Ptp → Ptp) : (onPtp f d).sys = d.sys := rfl
@[simp] theorem onPtp_freeCount (f : Ptp → Ptp) : (onPtp f d).freeCount = d.freeCount := rfl

/-! `onAlloc` changes `alloc` alone. -/
@[simp] theorem onAlloc_time (f : Alloc → Alloc) : (onAlloc f d).time = d.time := rfl
@[simp] theorem onAlloc_regs (f : Alloc → Alloc) : (onAlloc f d).regs = d.regs := rfl
@[simp] theorem onAlloc_isl (f : Alloc → Alloc) : (onAlloc f d).isl = d.isl := rfl
@[simp] theorem onAlloc_chan (f : Alloc → Alloc) : (onAlloc f d).chan = d.chan := rfl
@[simp] theorem onAlloc_barrier (f : Alloc → Alloc) : (onAlloc f d).barrier = d.barrier := rfl
@[simp] theorem onAlloc_site (f : Alloc → Alloc) : (onAlloc f d).site = d.site := rfl
@[simp] theorem onAlloc_dma (f : Alloc → Alloc) : (onAlloc f d).dma = d.dma := rfl
@[simp] theorem onAlloc_snap (f : Alloc → Alloc) : (onAlloc f d).snap = d.snap := rfl
@[simp] theorem onAlloc_log (f : Alloc → Alloc) : (onAlloc f d).log = d.log := rfl
@[simp] theorem onAlloc_ring (f : Alloc → Alloc) : (onAlloc f d).ring = d.ring := rfl
@[simp] theorem onAlloc_brick (f : Alloc → Alloc) : (onAlloc f d).brick = d.brick := rfl
@[simp] theorem onAlloc_drive (f : Alloc → Alloc) : (onAlloc f d).drive = d.drive := rfl
@[simp] theorem onAlloc_leg (f : Alloc → Alloc) : (onAlloc f d).leg = d.leg := rfl
@[simp] theorem onAlloc_card (f : Alloc → Alloc) : (onAlloc f d).card = d.card := rfl
@[simp] theorem onAlloc_sent (f : Alloc → Alloc) : (onAlloc f d).sent = d.sent := rfl
@[simp] theorem onAlloc_sync (f : Alloc → Alloc) : (onAlloc f d).sync = d.sync := rfl
@[simp] theorem onAlloc_rail (f : Alloc → Alloc) : (onAlloc f d).rail = d.rail := rfl
@[simp] theorem onAlloc_ratio (f : Alloc → Alloc) : (onAlloc f d).ratio = d.ratio := rfl
@[simp] theorem onAlloc_eng (f : Alloc → Alloc) : (onAlloc f d).eng = d.eng := rfl
@[simp] theorem onAlloc_out (f : Alloc → Alloc) : (onAlloc f d).out = d.out := rfl
@[simp] theorem onAlloc_vehicle (f : Alloc → Alloc) : (onAlloc f d).vehicle = d.vehicle := rfl
@[simp] theorem onAlloc_safety (f : Alloc → Alloc) : (onAlloc f d).safety = d.safety := rfl
@[simp] theorem onAlloc_metro (f : Alloc → Alloc) : (onAlloc f d).metro = d.metro := rfl
@[simp] theorem onAlloc_load (f : Alloc → Alloc) : (onAlloc f d).load = d.load := rfl
@[simp] theorem onAlloc_pair (f : Alloc → Alloc) : (onAlloc f d).pair = d.pair := rfl
@[simp] theorem onAlloc_eave (f : Alloc → Alloc) : (onAlloc f d).eave = d.eave := rfl
@[simp] theorem onAlloc_sys (f : Alloc → Alloc) : (onAlloc f d).sys = d.sys := rfl
@[simp] theorem onAlloc_freeCount (f : Alloc → Alloc) : (onAlloc f d).freeCount = d.freeCount := rfl

/-! `onOut` changes `out` alone. -/
@[simp] theorem onOut_time (k : Fin 12) (f : Outlet → Outlet) : (onOut k f d).time = d.time := rfl
@[simp] theorem onOut_regs (k : Fin 12) (f : Outlet → Outlet) : (onOut k f d).regs = d.regs := rfl
@[simp] theorem onOut_isl (k : Fin 12) (f : Outlet → Outlet) : (onOut k f d).isl = d.isl := rfl
@[simp] theorem onOut_chan (k : Fin 12) (f : Outlet → Outlet) : (onOut k f d).chan = d.chan := rfl
@[simp] theorem onOut_barrier (k : Fin 12) (f : Outlet → Outlet) : (onOut k f d).barrier = d.barrier := rfl
@[simp] theorem onOut_site (k : Fin 12) (f : Outlet → Outlet) : (onOut k f d).site = d.site := rfl
@[simp] theorem onOut_dma (k : Fin 12) (f : Outlet → Outlet) : (onOut k f d).dma = d.dma := rfl
@[simp] theorem onOut_snap (k : Fin 12) (f : Outlet → Outlet) : (onOut k f d).snap = d.snap := rfl
@[simp] theorem onOut_log (k : Fin 12) (f : Outlet → Outlet) : (onOut k f d).log = d.log := rfl
@[simp] theorem onOut_ring (k : Fin 12) (f : Outlet → Outlet) : (onOut k f d).ring = d.ring := rfl
@[simp] theorem onOut_brick (k : Fin 12) (f : Outlet → Outlet) : (onOut k f d).brick = d.brick := rfl
@[simp] theorem onOut_drive (k : Fin 12) (f : Outlet → Outlet) : (onOut k f d).drive = d.drive := rfl
@[simp] theorem onOut_leg (k : Fin 12) (f : Outlet → Outlet) : (onOut k f d).leg = d.leg := rfl
@[simp] theorem onOut_card (k : Fin 12) (f : Outlet → Outlet) : (onOut k f d).card = d.card := rfl
@[simp] theorem onOut_sent (k : Fin 12) (f : Outlet → Outlet) : (onOut k f d).sent = d.sent := rfl
@[simp] theorem onOut_sync (k : Fin 12) (f : Outlet → Outlet) : (onOut k f d).sync = d.sync := rfl
@[simp] theorem onOut_rail (k : Fin 12) (f : Outlet → Outlet) : (onOut k f d).rail = d.rail := rfl
@[simp] theorem onOut_ratio (k : Fin 12) (f : Outlet → Outlet) : (onOut k f d).ratio = d.ratio := rfl
@[simp] theorem onOut_eng (k : Fin 12) (f : Outlet → Outlet) : (onOut k f d).eng = d.eng := rfl
@[simp] theorem onOut_alloc (k : Fin 12) (f : Outlet → Outlet) : (onOut k f d).alloc = d.alloc := rfl
@[simp] theorem onOut_vehicle (k : Fin 12) (f : Outlet → Outlet) : (onOut k f d).vehicle = d.vehicle := rfl
@[simp] theorem onOut_safety (k : Fin 12) (f : Outlet → Outlet) : (onOut k f d).safety = d.safety := rfl
@[simp] theorem onOut_metro (k : Fin 12) (f : Outlet → Outlet) : (onOut k f d).metro = d.metro := rfl
@[simp] theorem onOut_load (k : Fin 12) (f : Outlet → Outlet) : (onOut k f d).load = d.load := rfl
@[simp] theorem onOut_pair (k : Fin 12) (f : Outlet → Outlet) : (onOut k f d).pair = d.pair := rfl
@[simp] theorem onOut_eave (k : Fin 12) (f : Outlet → Outlet) : (onOut k f d).eave = d.eave := rfl
@[simp] theorem onOut_sys (k : Fin 12) (f : Outlet → Outlet) : (onOut k f d).sys = d.sys := rfl
@[simp] theorem onOut_freeCount (k : Fin 12) (f : Outlet → Outlet) : (onOut k f d).freeCount = d.freeCount := rfl

/-! `onVehicle` changes `vehicle` alone. -/
@[simp] theorem onVehicle_time (k : Fin 12) (f : Vehicle → Vehicle) : (onVehicle k f d).time = d.time := rfl
@[simp] theorem onVehicle_regs (k : Fin 12) (f : Vehicle → Vehicle) : (onVehicle k f d).regs = d.regs := rfl
@[simp] theorem onVehicle_isl (k : Fin 12) (f : Vehicle → Vehicle) : (onVehicle k f d).isl = d.isl := rfl
@[simp] theorem onVehicle_chan (k : Fin 12) (f : Vehicle → Vehicle) : (onVehicle k f d).chan = d.chan := rfl
@[simp] theorem onVehicle_barrier (k : Fin 12) (f : Vehicle → Vehicle) : (onVehicle k f d).barrier = d.barrier := rfl
@[simp] theorem onVehicle_site (k : Fin 12) (f : Vehicle → Vehicle) : (onVehicle k f d).site = d.site := rfl
@[simp] theorem onVehicle_dma (k : Fin 12) (f : Vehicle → Vehicle) : (onVehicle k f d).dma = d.dma := rfl
@[simp] theorem onVehicle_snap (k : Fin 12) (f : Vehicle → Vehicle) : (onVehicle k f d).snap = d.snap := rfl
@[simp] theorem onVehicle_log (k : Fin 12) (f : Vehicle → Vehicle) : (onVehicle k f d).log = d.log := rfl
@[simp] theorem onVehicle_ring (k : Fin 12) (f : Vehicle → Vehicle) : (onVehicle k f d).ring = d.ring := rfl
@[simp] theorem onVehicle_brick (k : Fin 12) (f : Vehicle → Vehicle) : (onVehicle k f d).brick = d.brick := rfl
@[simp] theorem onVehicle_drive (k : Fin 12) (f : Vehicle → Vehicle) : (onVehicle k f d).drive = d.drive := rfl
@[simp] theorem onVehicle_leg (k : Fin 12) (f : Vehicle → Vehicle) : (onVehicle k f d).leg = d.leg := rfl
@[simp] theorem onVehicle_card (k : Fin 12) (f : Vehicle → Vehicle) : (onVehicle k f d).card = d.card := rfl
@[simp] theorem onVehicle_sent (k : Fin 12) (f : Vehicle → Vehicle) : (onVehicle k f d).sent = d.sent := rfl
@[simp] theorem onVehicle_sync (k : Fin 12) (f : Vehicle → Vehicle) : (onVehicle k f d).sync = d.sync := rfl
@[simp] theorem onVehicle_rail (k : Fin 12) (f : Vehicle → Vehicle) : (onVehicle k f d).rail = d.rail := rfl
@[simp] theorem onVehicle_ratio (k : Fin 12) (f : Vehicle → Vehicle) : (onVehicle k f d).ratio = d.ratio := rfl
@[simp] theorem onVehicle_eng (k : Fin 12) (f : Vehicle → Vehicle) : (onVehicle k f d).eng = d.eng := rfl
@[simp] theorem onVehicle_alloc (k : Fin 12) (f : Vehicle → Vehicle) : (onVehicle k f d).alloc = d.alloc := rfl
@[simp] theorem onVehicle_out (k : Fin 12) (f : Vehicle → Vehicle) : (onVehicle k f d).out = d.out := rfl
@[simp] theorem onVehicle_safety (k : Fin 12) (f : Vehicle → Vehicle) : (onVehicle k f d).safety = d.safety := rfl
@[simp] theorem onVehicle_metro (k : Fin 12) (f : Vehicle → Vehicle) : (onVehicle k f d).metro = d.metro := rfl
@[simp] theorem onVehicle_load (k : Fin 12) (f : Vehicle → Vehicle) : (onVehicle k f d).load = d.load := rfl
@[simp] theorem onVehicle_pair (k : Fin 12) (f : Vehicle → Vehicle) : (onVehicle k f d).pair = d.pair := rfl
@[simp] theorem onVehicle_eave (k : Fin 12) (f : Vehicle → Vehicle) : (onVehicle k f d).eave = d.eave := rfl
@[simp] theorem onVehicle_sys (k : Fin 12) (f : Vehicle → Vehicle) : (onVehicle k f d).sys = d.sys := rfl
@[simp] theorem onVehicle_freeCount (k : Fin 12) (f : Vehicle → Vehicle) : (onVehicle k f d).freeCount = d.freeCount := rfl

/-! `onEave` changes `eave` alone. -/
@[simp] theorem onEave_time (f : Eave → Eave) : (onEave f d).time = d.time := rfl
@[simp] theorem onEave_regs (f : Eave → Eave) : (onEave f d).regs = d.regs := rfl
@[simp] theorem onEave_isl (f : Eave → Eave) : (onEave f d).isl = d.isl := rfl
@[simp] theorem onEave_chan (f : Eave → Eave) : (onEave f d).chan = d.chan := rfl
@[simp] theorem onEave_barrier (f : Eave → Eave) : (onEave f d).barrier = d.barrier := rfl
@[simp] theorem onEave_site (f : Eave → Eave) : (onEave f d).site = d.site := rfl
@[simp] theorem onEave_dma (f : Eave → Eave) : (onEave f d).dma = d.dma := rfl
@[simp] theorem onEave_snap (f : Eave → Eave) : (onEave f d).snap = d.snap := rfl
@[simp] theorem onEave_log (f : Eave → Eave) : (onEave f d).log = d.log := rfl
@[simp] theorem onEave_ring (f : Eave → Eave) : (onEave f d).ring = d.ring := rfl
@[simp] theorem onEave_brick (f : Eave → Eave) : (onEave f d).brick = d.brick := rfl
@[simp] theorem onEave_drive (f : Eave → Eave) : (onEave f d).drive = d.drive := rfl
@[simp] theorem onEave_leg (f : Eave → Eave) : (onEave f d).leg = d.leg := rfl
@[simp] theorem onEave_card (f : Eave → Eave) : (onEave f d).card = d.card := rfl
@[simp] theorem onEave_sent (f : Eave → Eave) : (onEave f d).sent = d.sent := rfl
@[simp] theorem onEave_sync (f : Eave → Eave) : (onEave f d).sync = d.sync := rfl
@[simp] theorem onEave_rail (f : Eave → Eave) : (onEave f d).rail = d.rail := rfl
@[simp] theorem onEave_ratio (f : Eave → Eave) : (onEave f d).ratio = d.ratio := rfl
@[simp] theorem onEave_eng (f : Eave → Eave) : (onEave f d).eng = d.eng := rfl
@[simp] theorem onEave_alloc (f : Eave → Eave) : (onEave f d).alloc = d.alloc := rfl
@[simp] theorem onEave_out (f : Eave → Eave) : (onEave f d).out = d.out := rfl
@[simp] theorem onEave_vehicle (f : Eave → Eave) : (onEave f d).vehicle = d.vehicle := rfl
@[simp] theorem onEave_safety (f : Eave → Eave) : (onEave f d).safety = d.safety := rfl
@[simp] theorem onEave_metro (f : Eave → Eave) : (onEave f d).metro = d.metro := rfl
@[simp] theorem onEave_load (f : Eave → Eave) : (onEave f d).load = d.load := rfl
@[simp] theorem onEave_pair (f : Eave → Eave) : (onEave f d).pair = d.pair := rfl
@[simp] theorem onEave_sys (f : Eave → Eave) : (onEave f d).sys = d.sys := rfl
@[simp] theorem onEave_freeCount (f : Eave → Eave) : (onEave f d).freeCount = d.freeCount := rfl

/-! `onDma` changes `dma` alone. -/
@[simp] theorem onDma_time (c : Fin 16) (f : DmaChan → DmaChan) : (onDma c f d).time = d.time := rfl
@[simp] theorem onDma_regs (c : Fin 16) (f : DmaChan → DmaChan) : (onDma c f d).regs = d.regs := rfl
@[simp] theorem onDma_isl (c : Fin 16) (f : DmaChan → DmaChan) : (onDma c f d).isl = d.isl := rfl
@[simp] theorem onDma_chan (c : Fin 16) (f : DmaChan → DmaChan) : (onDma c f d).chan = d.chan := rfl
@[simp] theorem onDma_barrier (c : Fin 16) (f : DmaChan → DmaChan) : (onDma c f d).barrier = d.barrier := rfl
@[simp] theorem onDma_site (c : Fin 16) (f : DmaChan → DmaChan) : (onDma c f d).site = d.site := rfl
@[simp] theorem onDma_snap (c : Fin 16) (f : DmaChan → DmaChan) : (onDma c f d).snap = d.snap := rfl
@[simp] theorem onDma_log (c : Fin 16) (f : DmaChan → DmaChan) : (onDma c f d).log = d.log := rfl
@[simp] theorem onDma_ring (c : Fin 16) (f : DmaChan → DmaChan) : (onDma c f d).ring = d.ring := rfl
@[simp] theorem onDma_brick (c : Fin 16) (f : DmaChan → DmaChan) : (onDma c f d).brick = d.brick := rfl
@[simp] theorem onDma_drive (c : Fin 16) (f : DmaChan → DmaChan) : (onDma c f d).drive = d.drive := rfl
@[simp] theorem onDma_leg (c : Fin 16) (f : DmaChan → DmaChan) : (onDma c f d).leg = d.leg := rfl
@[simp] theorem onDma_card (c : Fin 16) (f : DmaChan → DmaChan) : (onDma c f d).card = d.card := rfl
@[simp] theorem onDma_sent (c : Fin 16) (f : DmaChan → DmaChan) : (onDma c f d).sent = d.sent := rfl
@[simp] theorem onDma_sync (c : Fin 16) (f : DmaChan → DmaChan) : (onDma c f d).sync = d.sync := rfl
@[simp] theorem onDma_rail (c : Fin 16) (f : DmaChan → DmaChan) : (onDma c f d).rail = d.rail := rfl
@[simp] theorem onDma_ratio (c : Fin 16) (f : DmaChan → DmaChan) : (onDma c f d).ratio = d.ratio := rfl
@[simp] theorem onDma_eng (c : Fin 16) (f : DmaChan → DmaChan) : (onDma c f d).eng = d.eng := rfl
@[simp] theorem onDma_alloc (c : Fin 16) (f : DmaChan → DmaChan) : (onDma c f d).alloc = d.alloc := rfl
@[simp] theorem onDma_out (c : Fin 16) (f : DmaChan → DmaChan) : (onDma c f d).out = d.out := rfl
@[simp] theorem onDma_vehicle (c : Fin 16) (f : DmaChan → DmaChan) : (onDma c f d).vehicle = d.vehicle := rfl
@[simp] theorem onDma_safety (c : Fin 16) (f : DmaChan → DmaChan) : (onDma c f d).safety = d.safety := rfl
@[simp] theorem onDma_metro (c : Fin 16) (f : DmaChan → DmaChan) : (onDma c f d).metro = d.metro := rfl
@[simp] theorem onDma_load (c : Fin 16) (f : DmaChan → DmaChan) : (onDma c f d).load = d.load := rfl
@[simp] theorem onDma_pair (c : Fin 16) (f : DmaChan → DmaChan) : (onDma c f d).pair = d.pair := rfl
@[simp] theorem onDma_eave (c : Fin 16) (f : DmaChan → DmaChan) : (onDma c f d).eave = d.eave := rfl
@[simp] theorem onDma_sys (c : Fin 16) (f : DmaChan → DmaChan) : (onDma c f d).sys = d.sys := rfl
@[simp] theorem onDma_freeCount (c : Fin 16) (f : DmaChan → DmaChan) : (onDma c f d).freeCount = d.freeCount := rfl

/-! `onSet` changes `snap` alone. -/
@[simp] theorem onSet_time (i : Fin 8) (f : SnapSet → SnapSet) : (onSet i f d).time = d.time := rfl
@[simp] theorem onSet_regs (i : Fin 8) (f : SnapSet → SnapSet) : (onSet i f d).regs = d.regs := rfl
@[simp] theorem onSet_isl (i : Fin 8) (f : SnapSet → SnapSet) : (onSet i f d).isl = d.isl := rfl
@[simp] theorem onSet_chan (i : Fin 8) (f : SnapSet → SnapSet) : (onSet i f d).chan = d.chan := rfl
@[simp] theorem onSet_barrier (i : Fin 8) (f : SnapSet → SnapSet) : (onSet i f d).barrier = d.barrier := rfl
@[simp] theorem onSet_site (i : Fin 8) (f : SnapSet → SnapSet) : (onSet i f d).site = d.site := rfl
@[simp] theorem onSet_dma (i : Fin 8) (f : SnapSet → SnapSet) : (onSet i f d).dma = d.dma := rfl
@[simp] theorem onSet_log (i : Fin 8) (f : SnapSet → SnapSet) : (onSet i f d).log = d.log := rfl
@[simp] theorem onSet_ring (i : Fin 8) (f : SnapSet → SnapSet) : (onSet i f d).ring = d.ring := rfl
@[simp] theorem onSet_brick (i : Fin 8) (f : SnapSet → SnapSet) : (onSet i f d).brick = d.brick := rfl
@[simp] theorem onSet_drive (i : Fin 8) (f : SnapSet → SnapSet) : (onSet i f d).drive = d.drive := rfl
@[simp] theorem onSet_leg (i : Fin 8) (f : SnapSet → SnapSet) : (onSet i f d).leg = d.leg := rfl
@[simp] theorem onSet_card (i : Fin 8) (f : SnapSet → SnapSet) : (onSet i f d).card = d.card := rfl
@[simp] theorem onSet_sent (i : Fin 8) (f : SnapSet → SnapSet) : (onSet i f d).sent = d.sent := rfl
@[simp] theorem onSet_sync (i : Fin 8) (f : SnapSet → SnapSet) : (onSet i f d).sync = d.sync := rfl
@[simp] theorem onSet_rail (i : Fin 8) (f : SnapSet → SnapSet) : (onSet i f d).rail = d.rail := rfl
@[simp] theorem onSet_ratio (i : Fin 8) (f : SnapSet → SnapSet) : (onSet i f d).ratio = d.ratio := rfl
@[simp] theorem onSet_eng (i : Fin 8) (f : SnapSet → SnapSet) : (onSet i f d).eng = d.eng := rfl
@[simp] theorem onSet_alloc (i : Fin 8) (f : SnapSet → SnapSet) : (onSet i f d).alloc = d.alloc := rfl
@[simp] theorem onSet_out (i : Fin 8) (f : SnapSet → SnapSet) : (onSet i f d).out = d.out := rfl
@[simp] theorem onSet_vehicle (i : Fin 8) (f : SnapSet → SnapSet) : (onSet i f d).vehicle = d.vehicle := rfl
@[simp] theorem onSet_safety (i : Fin 8) (f : SnapSet → SnapSet) : (onSet i f d).safety = d.safety := rfl
@[simp] theorem onSet_metro (i : Fin 8) (f : SnapSet → SnapSet) : (onSet i f d).metro = d.metro := rfl
@[simp] theorem onSet_load (i : Fin 8) (f : SnapSet → SnapSet) : (onSet i f d).load = d.load := rfl
@[simp] theorem onSet_pair (i : Fin 8) (f : SnapSet → SnapSet) : (onSet i f d).pair = d.pair := rfl
@[simp] theorem onSet_eave (i : Fin 8) (f : SnapSet → SnapSet) : (onSet i f d).eave = d.eave := rfl
@[simp] theorem onSet_sys (i : Fin 8) (f : SnapSet → SnapSet) : (onSet i f d).sys = d.sys := rfl
@[simp] theorem onSet_freeCount (i : Fin 8) (f : SnapSet → SnapSet) : (onSet i f d).freeCount = d.freeCount := rfl

/-! `onAxis` changes `eng` alone. -/
@[simp] theorem onAxis_time (x : Fin 12) (f : Axis → Axis) : (onAxis x f d).time = d.time := rfl
@[simp] theorem onAxis_regs (x : Fin 12) (f : Axis → Axis) : (onAxis x f d).regs = d.regs := rfl
@[simp] theorem onAxis_isl (x : Fin 12) (f : Axis → Axis) : (onAxis x f d).isl = d.isl := rfl
@[simp] theorem onAxis_chan (x : Fin 12) (f : Axis → Axis) : (onAxis x f d).chan = d.chan := rfl
@[simp] theorem onAxis_barrier (x : Fin 12) (f : Axis → Axis) : (onAxis x f d).barrier = d.barrier := rfl
@[simp] theorem onAxis_site (x : Fin 12) (f : Axis → Axis) : (onAxis x f d).site = d.site := rfl
@[simp] theorem onAxis_dma (x : Fin 12) (f : Axis → Axis) : (onAxis x f d).dma = d.dma := rfl
@[simp] theorem onAxis_snap (x : Fin 12) (f : Axis → Axis) : (onAxis x f d).snap = d.snap := rfl
@[simp] theorem onAxis_log (x : Fin 12) (f : Axis → Axis) : (onAxis x f d).log = d.log := rfl
@[simp] theorem onAxis_ring (x : Fin 12) (f : Axis → Axis) : (onAxis x f d).ring = d.ring := rfl
@[simp] theorem onAxis_brick (x : Fin 12) (f : Axis → Axis) : (onAxis x f d).brick = d.brick := rfl
@[simp] theorem onAxis_drive (x : Fin 12) (f : Axis → Axis) : (onAxis x f d).drive = d.drive := rfl
@[simp] theorem onAxis_leg (x : Fin 12) (f : Axis → Axis) : (onAxis x f d).leg = d.leg := rfl
@[simp] theorem onAxis_card (x : Fin 12) (f : Axis → Axis) : (onAxis x f d).card = d.card := rfl
@[simp] theorem onAxis_sent (x : Fin 12) (f : Axis → Axis) : (onAxis x f d).sent = d.sent := rfl
@[simp] theorem onAxis_sync (x : Fin 12) (f : Axis → Axis) : (onAxis x f d).sync = d.sync := rfl
@[simp] theorem onAxis_rail (x : Fin 12) (f : Axis → Axis) : (onAxis x f d).rail = d.rail := rfl
@[simp] theorem onAxis_ratio (x : Fin 12) (f : Axis → Axis) : (onAxis x f d).ratio = d.ratio := rfl
@[simp] theorem onAxis_alloc (x : Fin 12) (f : Axis → Axis) : (onAxis x f d).alloc = d.alloc := rfl
@[simp] theorem onAxis_out (x : Fin 12) (f : Axis → Axis) : (onAxis x f d).out = d.out := rfl
@[simp] theorem onAxis_vehicle (x : Fin 12) (f : Axis → Axis) : (onAxis x f d).vehicle = d.vehicle := rfl
@[simp] theorem onAxis_safety (x : Fin 12) (f : Axis → Axis) : (onAxis x f d).safety = d.safety := rfl
@[simp] theorem onAxis_metro (x : Fin 12) (f : Axis → Axis) : (onAxis x f d).metro = d.metro := rfl
@[simp] theorem onAxis_load (x : Fin 12) (f : Axis → Axis) : (onAxis x f d).load = d.load := rfl
@[simp] theorem onAxis_pair (x : Fin 12) (f : Axis → Axis) : (onAxis x f d).pair = d.pair := rfl
@[simp] theorem onAxis_eave (x : Fin 12) (f : Axis → Axis) : (onAxis x f d).eave = d.eave := rfl
@[simp] theorem onAxis_sys (x : Fin 12) (f : Axis → Axis) : (onAxis x f d).sys = d.sys := rfl
@[simp] theorem onAxis_freeCount (x : Fin 12) (f : Axis → Axis) : (onAxis x f d).freeCount = d.freeCount := rfl

/-! `onGen` changes `eng` alone. -/
@[simp] theorem onGen_time (g : Fin 28) (f : Gen → Gen) : (onGen g f d).time = d.time := rfl
@[simp] theorem onGen_regs (g : Fin 28) (f : Gen → Gen) : (onGen g f d).regs = d.regs := rfl
@[simp] theorem onGen_isl (g : Fin 28) (f : Gen → Gen) : (onGen g f d).isl = d.isl := rfl
@[simp] theorem onGen_chan (g : Fin 28) (f : Gen → Gen) : (onGen g f d).chan = d.chan := rfl
@[simp] theorem onGen_barrier (g : Fin 28) (f : Gen → Gen) : (onGen g f d).barrier = d.barrier := rfl
@[simp] theorem onGen_site (g : Fin 28) (f : Gen → Gen) : (onGen g f d).site = d.site := rfl
@[simp] theorem onGen_dma (g : Fin 28) (f : Gen → Gen) : (onGen g f d).dma = d.dma := rfl
@[simp] theorem onGen_snap (g : Fin 28) (f : Gen → Gen) : (onGen g f d).snap = d.snap := rfl
@[simp] theorem onGen_log (g : Fin 28) (f : Gen → Gen) : (onGen g f d).log = d.log := rfl
@[simp] theorem onGen_ring (g : Fin 28) (f : Gen → Gen) : (onGen g f d).ring = d.ring := rfl
@[simp] theorem onGen_brick (g : Fin 28) (f : Gen → Gen) : (onGen g f d).brick = d.brick := rfl
@[simp] theorem onGen_drive (g : Fin 28) (f : Gen → Gen) : (onGen g f d).drive = d.drive := rfl
@[simp] theorem onGen_leg (g : Fin 28) (f : Gen → Gen) : (onGen g f d).leg = d.leg := rfl
@[simp] theorem onGen_card (g : Fin 28) (f : Gen → Gen) : (onGen g f d).card = d.card := rfl
@[simp] theorem onGen_sent (g : Fin 28) (f : Gen → Gen) : (onGen g f d).sent = d.sent := rfl
@[simp] theorem onGen_sync (g : Fin 28) (f : Gen → Gen) : (onGen g f d).sync = d.sync := rfl
@[simp] theorem onGen_rail (g : Fin 28) (f : Gen → Gen) : (onGen g f d).rail = d.rail := rfl
@[simp] theorem onGen_ratio (g : Fin 28) (f : Gen → Gen) : (onGen g f d).ratio = d.ratio := rfl
@[simp] theorem onGen_alloc (g : Fin 28) (f : Gen → Gen) : (onGen g f d).alloc = d.alloc := rfl
@[simp] theorem onGen_out (g : Fin 28) (f : Gen → Gen) : (onGen g f d).out = d.out := rfl
@[simp] theorem onGen_vehicle (g : Fin 28) (f : Gen → Gen) : (onGen g f d).vehicle = d.vehicle := rfl
@[simp] theorem onGen_safety (g : Fin 28) (f : Gen → Gen) : (onGen g f d).safety = d.safety := rfl
@[simp] theorem onGen_metro (g : Fin 28) (f : Gen → Gen) : (onGen g f d).metro = d.metro := rfl
@[simp] theorem onGen_load (g : Fin 28) (f : Gen → Gen) : (onGen g f d).load = d.load := rfl
@[simp] theorem onGen_pair (g : Fin 28) (f : Gen → Gen) : (onGen g f d).pair = d.pair := rfl
@[simp] theorem onGen_eave (g : Fin 28) (f : Gen → Gen) : (onGen g f d).eave = d.eave := rfl
@[simp] theorem onGen_sys (g : Fin 28) (f : Gen → Gen) : (onGen g f d).sys = d.sys := rfl
@[simp] theorem onGen_freeCount (g : Fin 28) (f : Gen → Gen) : (onGen g f d).freeCount = d.freeCount := rfl

/-! `onInj` changes `eng` alone. -/
@[simp] theorem onInj_time (c : Fin 2) (f : Inj → Inj) : (onInj c f d).time = d.time := rfl
@[simp] theorem onInj_regs (c : Fin 2) (f : Inj → Inj) : (onInj c f d).regs = d.regs := rfl
@[simp] theorem onInj_isl (c : Fin 2) (f : Inj → Inj) : (onInj c f d).isl = d.isl := rfl
@[simp] theorem onInj_chan (c : Fin 2) (f : Inj → Inj) : (onInj c f d).chan = d.chan := rfl
@[simp] theorem onInj_barrier (c : Fin 2) (f : Inj → Inj) : (onInj c f d).barrier = d.barrier := rfl
@[simp] theorem onInj_site (c : Fin 2) (f : Inj → Inj) : (onInj c f d).site = d.site := rfl
@[simp] theorem onInj_dma (c : Fin 2) (f : Inj → Inj) : (onInj c f d).dma = d.dma := rfl
@[simp] theorem onInj_snap (c : Fin 2) (f : Inj → Inj) : (onInj c f d).snap = d.snap := rfl
@[simp] theorem onInj_log (c : Fin 2) (f : Inj → Inj) : (onInj c f d).log = d.log := rfl
@[simp] theorem onInj_ring (c : Fin 2) (f : Inj → Inj) : (onInj c f d).ring = d.ring := rfl
@[simp] theorem onInj_brick (c : Fin 2) (f : Inj → Inj) : (onInj c f d).brick = d.brick := rfl
@[simp] theorem onInj_drive (c : Fin 2) (f : Inj → Inj) : (onInj c f d).drive = d.drive := rfl
@[simp] theorem onInj_leg (c : Fin 2) (f : Inj → Inj) : (onInj c f d).leg = d.leg := rfl
@[simp] theorem onInj_card (c : Fin 2) (f : Inj → Inj) : (onInj c f d).card = d.card := rfl
@[simp] theorem onInj_sent (c : Fin 2) (f : Inj → Inj) : (onInj c f d).sent = d.sent := rfl
@[simp] theorem onInj_sync (c : Fin 2) (f : Inj → Inj) : (onInj c f d).sync = d.sync := rfl
@[simp] theorem onInj_rail (c : Fin 2) (f : Inj → Inj) : (onInj c f d).rail = d.rail := rfl
@[simp] theorem onInj_ratio (c : Fin 2) (f : Inj → Inj) : (onInj c f d).ratio = d.ratio := rfl
@[simp] theorem onInj_alloc (c : Fin 2) (f : Inj → Inj) : (onInj c f d).alloc = d.alloc := rfl
@[simp] theorem onInj_out (c : Fin 2) (f : Inj → Inj) : (onInj c f d).out = d.out := rfl
@[simp] theorem onInj_vehicle (c : Fin 2) (f : Inj → Inj) : (onInj c f d).vehicle = d.vehicle := rfl
@[simp] theorem onInj_safety (c : Fin 2) (f : Inj → Inj) : (onInj c f d).safety = d.safety := rfl
@[simp] theorem onInj_metro (c : Fin 2) (f : Inj → Inj) : (onInj c f d).metro = d.metro := rfl
@[simp] theorem onInj_load (c : Fin 2) (f : Inj → Inj) : (onInj c f d).load = d.load := rfl
@[simp] theorem onInj_pair (c : Fin 2) (f : Inj → Inj) : (onInj c f d).pair = d.pair := rfl
@[simp] theorem onInj_eave (c : Fin 2) (f : Inj → Inj) : (onInj c f d).eave = d.eave := rfl
@[simp] theorem onInj_sys (c : Fin 2) (f : Inj → Inj) : (onInj c f d).sys = d.sys := rfl
@[simp] theorem onInj_freeCount (c : Fin 2) (f : Inj → Inj) : (onInj c f d).freeCount = d.freeCount := rfl

/-! `onTimer` changes `eng` alone. -/
@[simp] theorem onTimer_time (t : Fin 4) (o : Option Nat) : (onTimer t o d).time = d.time := rfl
@[simp] theorem onTimer_regs (t : Fin 4) (o : Option Nat) : (onTimer t o d).regs = d.regs := rfl
@[simp] theorem onTimer_isl (t : Fin 4) (o : Option Nat) : (onTimer t o d).isl = d.isl := rfl
@[simp] theorem onTimer_chan (t : Fin 4) (o : Option Nat) : (onTimer t o d).chan = d.chan := rfl
@[simp] theorem onTimer_barrier (t : Fin 4) (o : Option Nat) : (onTimer t o d).barrier = d.barrier := rfl
@[simp] theorem onTimer_site (t : Fin 4) (o : Option Nat) : (onTimer t o d).site = d.site := rfl
@[simp] theorem onTimer_dma (t : Fin 4) (o : Option Nat) : (onTimer t o d).dma = d.dma := rfl
@[simp] theorem onTimer_snap (t : Fin 4) (o : Option Nat) : (onTimer t o d).snap = d.snap := rfl
@[simp] theorem onTimer_log (t : Fin 4) (o : Option Nat) : (onTimer t o d).log = d.log := rfl
@[simp] theorem onTimer_ring (t : Fin 4) (o : Option Nat) : (onTimer t o d).ring = d.ring := rfl
@[simp] theorem onTimer_brick (t : Fin 4) (o : Option Nat) : (onTimer t o d).brick = d.brick := rfl
@[simp] theorem onTimer_drive (t : Fin 4) (o : Option Nat) : (onTimer t o d).drive = d.drive := rfl
@[simp] theorem onTimer_leg (t : Fin 4) (o : Option Nat) : (onTimer t o d).leg = d.leg := rfl
@[simp] theorem onTimer_card (t : Fin 4) (o : Option Nat) : (onTimer t o d).card = d.card := rfl
@[simp] theorem onTimer_sent (t : Fin 4) (o : Option Nat) : (onTimer t o d).sent = d.sent := rfl
@[simp] theorem onTimer_sync (t : Fin 4) (o : Option Nat) : (onTimer t o d).sync = d.sync := rfl
@[simp] theorem onTimer_rail (t : Fin 4) (o : Option Nat) : (onTimer t o d).rail = d.rail := rfl
@[simp] theorem onTimer_ratio (t : Fin 4) (o : Option Nat) : (onTimer t o d).ratio = d.ratio := rfl
@[simp] theorem onTimer_alloc (t : Fin 4) (o : Option Nat) : (onTimer t o d).alloc = d.alloc := rfl
@[simp] theorem onTimer_out (t : Fin 4) (o : Option Nat) : (onTimer t o d).out = d.out := rfl
@[simp] theorem onTimer_vehicle (t : Fin 4) (o : Option Nat) : (onTimer t o d).vehicle = d.vehicle := rfl
@[simp] theorem onTimer_safety (t : Fin 4) (o : Option Nat) : (onTimer t o d).safety = d.safety := rfl
@[simp] theorem onTimer_metro (t : Fin 4) (o : Option Nat) : (onTimer t o d).metro = d.metro := rfl
@[simp] theorem onTimer_load (t : Fin 4) (o : Option Nat) : (onTimer t o d).load = d.load := rfl
@[simp] theorem onTimer_pair (t : Fin 4) (o : Option Nat) : (onTimer t o d).pair = d.pair := rfl
@[simp] theorem onTimer_eave (t : Fin 4) (o : Option Nat) : (onTimer t o d).eave = d.eave := rfl
@[simp] theorem onTimer_sys (t : Fin 4) (o : Option Nat) : (onTimer t o d).sys = d.sys := rfl
@[simp] theorem onTimer_freeCount (t : Fin 4) (o : Option Nat) : (onTimer t o d).freeCount = d.freeCount := rfl

/-! `onThermal` changes `eng` alone. -/
@[simp] theorem onThermal_time (w : Fin 16) (f : Thermal → Thermal) : (onThermal w f d).time = d.time := rfl
@[simp] theorem onThermal_regs (w : Fin 16) (f : Thermal → Thermal) : (onThermal w f d).regs = d.regs := rfl
@[simp] theorem onThermal_isl (w : Fin 16) (f : Thermal → Thermal) : (onThermal w f d).isl = d.isl := rfl
@[simp] theorem onThermal_chan (w : Fin 16) (f : Thermal → Thermal) : (onThermal w f d).chan = d.chan := rfl
@[simp] theorem onThermal_barrier (w : Fin 16) (f : Thermal → Thermal) : (onThermal w f d).barrier = d.barrier := rfl
@[simp] theorem onThermal_site (w : Fin 16) (f : Thermal → Thermal) : (onThermal w f d).site = d.site := rfl
@[simp] theorem onThermal_dma (w : Fin 16) (f : Thermal → Thermal) : (onThermal w f d).dma = d.dma := rfl
@[simp] theorem onThermal_snap (w : Fin 16) (f : Thermal → Thermal) : (onThermal w f d).snap = d.snap := rfl
@[simp] theorem onThermal_log (w : Fin 16) (f : Thermal → Thermal) : (onThermal w f d).log = d.log := rfl
@[simp] theorem onThermal_ring (w : Fin 16) (f : Thermal → Thermal) : (onThermal w f d).ring = d.ring := rfl
@[simp] theorem onThermal_brick (w : Fin 16) (f : Thermal → Thermal) : (onThermal w f d).brick = d.brick := rfl
@[simp] theorem onThermal_drive (w : Fin 16) (f : Thermal → Thermal) : (onThermal w f d).drive = d.drive := rfl
@[simp] theorem onThermal_leg (w : Fin 16) (f : Thermal → Thermal) : (onThermal w f d).leg = d.leg := rfl
@[simp] theorem onThermal_card (w : Fin 16) (f : Thermal → Thermal) : (onThermal w f d).card = d.card := rfl
@[simp] theorem onThermal_sent (w : Fin 16) (f : Thermal → Thermal) : (onThermal w f d).sent = d.sent := rfl
@[simp] theorem onThermal_sync (w : Fin 16) (f : Thermal → Thermal) : (onThermal w f d).sync = d.sync := rfl
@[simp] theorem onThermal_rail (w : Fin 16) (f : Thermal → Thermal) : (onThermal w f d).rail = d.rail := rfl
@[simp] theorem onThermal_ratio (w : Fin 16) (f : Thermal → Thermal) : (onThermal w f d).ratio = d.ratio := rfl
@[simp] theorem onThermal_alloc (w : Fin 16) (f : Thermal → Thermal) : (onThermal w f d).alloc = d.alloc := rfl
@[simp] theorem onThermal_out (w : Fin 16) (f : Thermal → Thermal) : (onThermal w f d).out = d.out := rfl
@[simp] theorem onThermal_vehicle (w : Fin 16) (f : Thermal → Thermal) : (onThermal w f d).vehicle = d.vehicle := rfl
@[simp] theorem onThermal_safety (w : Fin 16) (f : Thermal → Thermal) : (onThermal w f d).safety = d.safety := rfl
@[simp] theorem onThermal_metro (w : Fin 16) (f : Thermal → Thermal) : (onThermal w f d).metro = d.metro := rfl
@[simp] theorem onThermal_load (w : Fin 16) (f : Thermal → Thermal) : (onThermal w f d).load = d.load := rfl
@[simp] theorem onThermal_pair (w : Fin 16) (f : Thermal → Thermal) : (onThermal w f d).pair = d.pair := rfl
@[simp] theorem onThermal_eave (w : Fin 16) (f : Thermal → Thermal) : (onThermal w f d).eave = d.eave := rfl
@[simp] theorem onThermal_sys (w : Fin 16) (f : Thermal → Thermal) : (onThermal w f d).sys = d.sys := rfl
@[simp] theorem onThermal_freeCount (w : Fin 16) (f : Thermal → Thermal) : (onThermal w f d).freeCount = d.freeCount := rfl

/-! `onDrive` changes `drive` alone. -/
@[simp] theorem onDrive_time (u : Fin 4) (f : Drive → Drive) : (onDrive u f d).time = d.time := rfl
@[simp] theorem onDrive_regs (u : Fin 4) (f : Drive → Drive) : (onDrive u f d).regs = d.regs := rfl
@[simp] theorem onDrive_isl (u : Fin 4) (f : Drive → Drive) : (onDrive u f d).isl = d.isl := rfl
@[simp] theorem onDrive_chan (u : Fin 4) (f : Drive → Drive) : (onDrive u f d).chan = d.chan := rfl
@[simp] theorem onDrive_barrier (u : Fin 4) (f : Drive → Drive) : (onDrive u f d).barrier = d.barrier := rfl
@[simp] theorem onDrive_site (u : Fin 4) (f : Drive → Drive) : (onDrive u f d).site = d.site := rfl
@[simp] theorem onDrive_dma (u : Fin 4) (f : Drive → Drive) : (onDrive u f d).dma = d.dma := rfl
@[simp] theorem onDrive_snap (u : Fin 4) (f : Drive → Drive) : (onDrive u f d).snap = d.snap := rfl
@[simp] theorem onDrive_log (u : Fin 4) (f : Drive → Drive) : (onDrive u f d).log = d.log := rfl
@[simp] theorem onDrive_ring (u : Fin 4) (f : Drive → Drive) : (onDrive u f d).ring = d.ring := rfl
@[simp] theorem onDrive_brick (u : Fin 4) (f : Drive → Drive) : (onDrive u f d).brick = d.brick := rfl
@[simp] theorem onDrive_leg (u : Fin 4) (f : Drive → Drive) : (onDrive u f d).leg = d.leg := rfl
@[simp] theorem onDrive_card (u : Fin 4) (f : Drive → Drive) : (onDrive u f d).card = d.card := rfl
@[simp] theorem onDrive_sent (u : Fin 4) (f : Drive → Drive) : (onDrive u f d).sent = d.sent := rfl
@[simp] theorem onDrive_sync (u : Fin 4) (f : Drive → Drive) : (onDrive u f d).sync = d.sync := rfl
@[simp] theorem onDrive_rail (u : Fin 4) (f : Drive → Drive) : (onDrive u f d).rail = d.rail := rfl
@[simp] theorem onDrive_ratio (u : Fin 4) (f : Drive → Drive) : (onDrive u f d).ratio = d.ratio := rfl
@[simp] theorem onDrive_eng (u : Fin 4) (f : Drive → Drive) : (onDrive u f d).eng = d.eng := rfl
@[simp] theorem onDrive_alloc (u : Fin 4) (f : Drive → Drive) : (onDrive u f d).alloc = d.alloc := rfl
@[simp] theorem onDrive_out (u : Fin 4) (f : Drive → Drive) : (onDrive u f d).out = d.out := rfl
@[simp] theorem onDrive_vehicle (u : Fin 4) (f : Drive → Drive) : (onDrive u f d).vehicle = d.vehicle := rfl
@[simp] theorem onDrive_safety (u : Fin 4) (f : Drive → Drive) : (onDrive u f d).safety = d.safety := rfl
@[simp] theorem onDrive_metro (u : Fin 4) (f : Drive → Drive) : (onDrive u f d).metro = d.metro := rfl
@[simp] theorem onDrive_load (u : Fin 4) (f : Drive → Drive) : (onDrive u f d).load = d.load := rfl
@[simp] theorem onDrive_pair (u : Fin 4) (f : Drive → Drive) : (onDrive u f d).pair = d.pair := rfl
@[simp] theorem onDrive_eave (u : Fin 4) (f : Drive → Drive) : (onDrive u f d).eave = d.eave := rfl
@[simp] theorem onDrive_sys (u : Fin 4) (f : Drive → Drive) : (onDrive u f d).sys = d.sys := rfl
@[simp] theorem onDrive_freeCount (u : Fin 4) (f : Drive → Drive) : (onDrive u f d).freeCount = d.freeCount := rfl

/-! `onCard` changes `card` alone. -/
@[simp] theorem onCard_time (c : Fin 28) (f : Card → Card) : (onCard c f d).time = d.time := rfl
@[simp] theorem onCard_regs (c : Fin 28) (f : Card → Card) : (onCard c f d).regs = d.regs := rfl
@[simp] theorem onCard_isl (c : Fin 28) (f : Card → Card) : (onCard c f d).isl = d.isl := rfl
@[simp] theorem onCard_chan (c : Fin 28) (f : Card → Card) : (onCard c f d).chan = d.chan := rfl
@[simp] theorem onCard_barrier (c : Fin 28) (f : Card → Card) : (onCard c f d).barrier = d.barrier := rfl
@[simp] theorem onCard_site (c : Fin 28) (f : Card → Card) : (onCard c f d).site = d.site := rfl
@[simp] theorem onCard_dma (c : Fin 28) (f : Card → Card) : (onCard c f d).dma = d.dma := rfl
@[simp] theorem onCard_snap (c : Fin 28) (f : Card → Card) : (onCard c f d).snap = d.snap := rfl
@[simp] theorem onCard_log (c : Fin 28) (f : Card → Card) : (onCard c f d).log = d.log := rfl
@[simp] theorem onCard_ring (c : Fin 28) (f : Card → Card) : (onCard c f d).ring = d.ring := rfl
@[simp] theorem onCard_brick (c : Fin 28) (f : Card → Card) : (onCard c f d).brick = d.brick := rfl
@[simp] theorem onCard_drive (c : Fin 28) (f : Card → Card) : (onCard c f d).drive = d.drive := rfl
@[simp] theorem onCard_leg (c : Fin 28) (f : Card → Card) : (onCard c f d).leg = d.leg := rfl
@[simp] theorem onCard_sent (c : Fin 28) (f : Card → Card) : (onCard c f d).sent = d.sent := rfl
@[simp] theorem onCard_sync (c : Fin 28) (f : Card → Card) : (onCard c f d).sync = d.sync := rfl
@[simp] theorem onCard_rail (c : Fin 28) (f : Card → Card) : (onCard c f d).rail = d.rail := rfl
@[simp] theorem onCard_ratio (c : Fin 28) (f : Card → Card) : (onCard c f d).ratio = d.ratio := rfl
@[simp] theorem onCard_eng (c : Fin 28) (f : Card → Card) : (onCard c f d).eng = d.eng := rfl
@[simp] theorem onCard_alloc (c : Fin 28) (f : Card → Card) : (onCard c f d).alloc = d.alloc := rfl
@[simp] theorem onCard_out (c : Fin 28) (f : Card → Card) : (onCard c f d).out = d.out := rfl
@[simp] theorem onCard_vehicle (c : Fin 28) (f : Card → Card) : (onCard c f d).vehicle = d.vehicle := rfl
@[simp] theorem onCard_safety (c : Fin 28) (f : Card → Card) : (onCard c f d).safety = d.safety := rfl
@[simp] theorem onCard_metro (c : Fin 28) (f : Card → Card) : (onCard c f d).metro = d.metro := rfl
@[simp] theorem onCard_load (c : Fin 28) (f : Card → Card) : (onCard c f d).load = d.load := rfl
@[simp] theorem onCard_pair (c : Fin 28) (f : Card → Card) : (onCard c f d).pair = d.pair := rfl
@[simp] theorem onCard_eave (c : Fin 28) (f : Card → Card) : (onCard c f d).eave = d.eave := rfl
@[simp] theorem onCard_sys (c : Fin 28) (f : Card → Card) : (onCard c f d).sys = d.sys := rfl
@[simp] theorem onCard_freeCount (c : Fin 28) (f : Card → Card) : (onCard c f d).freeCount = d.freeCount := rfl

/-! `onBrick` changes `brick` alone. -/
@[simp] theorem onBrick_time (k : Fin 24) (f : Brick → Brick) : (onBrick k f d).time = d.time := rfl
@[simp] theorem onBrick_regs (k : Fin 24) (f : Brick → Brick) : (onBrick k f d).regs = d.regs := rfl
@[simp] theorem onBrick_isl (k : Fin 24) (f : Brick → Brick) : (onBrick k f d).isl = d.isl := rfl
@[simp] theorem onBrick_chan (k : Fin 24) (f : Brick → Brick) : (onBrick k f d).chan = d.chan := rfl
@[simp] theorem onBrick_barrier (k : Fin 24) (f : Brick → Brick) : (onBrick k f d).barrier = d.barrier := rfl
@[simp] theorem onBrick_site (k : Fin 24) (f : Brick → Brick) : (onBrick k f d).site = d.site := rfl
@[simp] theorem onBrick_dma (k : Fin 24) (f : Brick → Brick) : (onBrick k f d).dma = d.dma := rfl
@[simp] theorem onBrick_snap (k : Fin 24) (f : Brick → Brick) : (onBrick k f d).snap = d.snap := rfl
@[simp] theorem onBrick_log (k : Fin 24) (f : Brick → Brick) : (onBrick k f d).log = d.log := rfl
@[simp] theorem onBrick_ring (k : Fin 24) (f : Brick → Brick) : (onBrick k f d).ring = d.ring := rfl
@[simp] theorem onBrick_drive (k : Fin 24) (f : Brick → Brick) : (onBrick k f d).drive = d.drive := rfl
@[simp] theorem onBrick_leg (k : Fin 24) (f : Brick → Brick) : (onBrick k f d).leg = d.leg := rfl
@[simp] theorem onBrick_card (k : Fin 24) (f : Brick → Brick) : (onBrick k f d).card = d.card := rfl
@[simp] theorem onBrick_sent (k : Fin 24) (f : Brick → Brick) : (onBrick k f d).sent = d.sent := rfl
@[simp] theorem onBrick_sync (k : Fin 24) (f : Brick → Brick) : (onBrick k f d).sync = d.sync := rfl
@[simp] theorem onBrick_rail (k : Fin 24) (f : Brick → Brick) : (onBrick k f d).rail = d.rail := rfl
@[simp] theorem onBrick_ratio (k : Fin 24) (f : Brick → Brick) : (onBrick k f d).ratio = d.ratio := rfl
@[simp] theorem onBrick_eng (k : Fin 24) (f : Brick → Brick) : (onBrick k f d).eng = d.eng := rfl
@[simp] theorem onBrick_alloc (k : Fin 24) (f : Brick → Brick) : (onBrick k f d).alloc = d.alloc := rfl
@[simp] theorem onBrick_out (k : Fin 24) (f : Brick → Brick) : (onBrick k f d).out = d.out := rfl
@[simp] theorem onBrick_vehicle (k : Fin 24) (f : Brick → Brick) : (onBrick k f d).vehicle = d.vehicle := rfl
@[simp] theorem onBrick_safety (k : Fin 24) (f : Brick → Brick) : (onBrick k f d).safety = d.safety := rfl
@[simp] theorem onBrick_metro (k : Fin 24) (f : Brick → Brick) : (onBrick k f d).metro = d.metro := rfl
@[simp] theorem onBrick_load (k : Fin 24) (f : Brick → Brick) : (onBrick k f d).load = d.load := rfl
@[simp] theorem onBrick_pair (k : Fin 24) (f : Brick → Brick) : (onBrick k f d).pair = d.pair := rfl
@[simp] theorem onBrick_eave (k : Fin 24) (f : Brick → Brick) : (onBrick k f d).eave = d.eave := rfl
@[simp] theorem onBrick_sys (k : Fin 24) (f : Brick → Brick) : (onBrick k f d).sys = d.sys := rfl
@[simp] theorem onBrick_freeCount (k : Fin 24) (f : Brick → Brick) : (onBrick k f d).freeCount = d.freeCount := rfl

/-! `onLeg` changes `leg` alone. -/
@[simp] theorem onLeg_time (n : Fin 96) (f : Leg → Leg) : (onLeg n f d).time = d.time := rfl
@[simp] theorem onLeg_regs (n : Fin 96) (f : Leg → Leg) : (onLeg n f d).regs = d.regs := rfl
@[simp] theorem onLeg_isl (n : Fin 96) (f : Leg → Leg) : (onLeg n f d).isl = d.isl := rfl
@[simp] theorem onLeg_chan (n : Fin 96) (f : Leg → Leg) : (onLeg n f d).chan = d.chan := rfl
@[simp] theorem onLeg_barrier (n : Fin 96) (f : Leg → Leg) : (onLeg n f d).barrier = d.barrier := rfl
@[simp] theorem onLeg_site (n : Fin 96) (f : Leg → Leg) : (onLeg n f d).site = d.site := rfl
@[simp] theorem onLeg_dma (n : Fin 96) (f : Leg → Leg) : (onLeg n f d).dma = d.dma := rfl
@[simp] theorem onLeg_snap (n : Fin 96) (f : Leg → Leg) : (onLeg n f d).snap = d.snap := rfl
@[simp] theorem onLeg_log (n : Fin 96) (f : Leg → Leg) : (onLeg n f d).log = d.log := rfl
@[simp] theorem onLeg_ring (n : Fin 96) (f : Leg → Leg) : (onLeg n f d).ring = d.ring := rfl
@[simp] theorem onLeg_brick (n : Fin 96) (f : Leg → Leg) : (onLeg n f d).brick = d.brick := rfl
@[simp] theorem onLeg_drive (n : Fin 96) (f : Leg → Leg) : (onLeg n f d).drive = d.drive := rfl
@[simp] theorem onLeg_card (n : Fin 96) (f : Leg → Leg) : (onLeg n f d).card = d.card := rfl
@[simp] theorem onLeg_sent (n : Fin 96) (f : Leg → Leg) : (onLeg n f d).sent = d.sent := rfl
@[simp] theorem onLeg_sync (n : Fin 96) (f : Leg → Leg) : (onLeg n f d).sync = d.sync := rfl
@[simp] theorem onLeg_rail (n : Fin 96) (f : Leg → Leg) : (onLeg n f d).rail = d.rail := rfl
@[simp] theorem onLeg_ratio (n : Fin 96) (f : Leg → Leg) : (onLeg n f d).ratio = d.ratio := rfl
@[simp] theorem onLeg_eng (n : Fin 96) (f : Leg → Leg) : (onLeg n f d).eng = d.eng := rfl
@[simp] theorem onLeg_alloc (n : Fin 96) (f : Leg → Leg) : (onLeg n f d).alloc = d.alloc := rfl
@[simp] theorem onLeg_out (n : Fin 96) (f : Leg → Leg) : (onLeg n f d).out = d.out := rfl
@[simp] theorem onLeg_vehicle (n : Fin 96) (f : Leg → Leg) : (onLeg n f d).vehicle = d.vehicle := rfl
@[simp] theorem onLeg_safety (n : Fin 96) (f : Leg → Leg) : (onLeg n f d).safety = d.safety := rfl
@[simp] theorem onLeg_metro (n : Fin 96) (f : Leg → Leg) : (onLeg n f d).metro = d.metro := rfl
@[simp] theorem onLeg_load (n : Fin 96) (f : Leg → Leg) : (onLeg n f d).load = d.load := rfl
@[simp] theorem onLeg_pair (n : Fin 96) (f : Leg → Leg) : (onLeg n f d).pair = d.pair := rfl
@[simp] theorem onLeg_eave (n : Fin 96) (f : Leg → Leg) : (onLeg n f d).eave = d.eave := rfl
@[simp] theorem onLeg_sys (n : Fin 96) (f : Leg → Leg) : (onLeg n f d).sys = d.sys := rfl
@[simp] theorem onLeg_freeCount (n : Fin 96) (f : Leg → Leg) : (onLeg n f d).freeCount = d.freeCount := rfl

/-! `onSeg` changes `ring` alone. -/
@[simp] theorem onSeg_time (h : Fin 12) (f : SegCtl → SegCtl) : (onSeg h f d).time = d.time := rfl
@[simp] theorem onSeg_regs (h : Fin 12) (f : SegCtl → SegCtl) : (onSeg h f d).regs = d.regs := rfl
@[simp] theorem onSeg_isl (h : Fin 12) (f : SegCtl → SegCtl) : (onSeg h f d).isl = d.isl := rfl
@[simp] theorem onSeg_chan (h : Fin 12) (f : SegCtl → SegCtl) : (onSeg h f d).chan = d.chan := rfl
@[simp] theorem onSeg_barrier (h : Fin 12) (f : SegCtl → SegCtl) : (onSeg h f d).barrier = d.barrier := rfl
@[simp] theorem onSeg_site (h : Fin 12) (f : SegCtl → SegCtl) : (onSeg h f d).site = d.site := rfl
@[simp] theorem onSeg_dma (h : Fin 12) (f : SegCtl → SegCtl) : (onSeg h f d).dma = d.dma := rfl
@[simp] theorem onSeg_snap (h : Fin 12) (f : SegCtl → SegCtl) : (onSeg h f d).snap = d.snap := rfl
@[simp] theorem onSeg_log (h : Fin 12) (f : SegCtl → SegCtl) : (onSeg h f d).log = d.log := rfl
@[simp] theorem onSeg_brick (h : Fin 12) (f : SegCtl → SegCtl) : (onSeg h f d).brick = d.brick := rfl
@[simp] theorem onSeg_drive (h : Fin 12) (f : SegCtl → SegCtl) : (onSeg h f d).drive = d.drive := rfl
@[simp] theorem onSeg_leg (h : Fin 12) (f : SegCtl → SegCtl) : (onSeg h f d).leg = d.leg := rfl
@[simp] theorem onSeg_card (h : Fin 12) (f : SegCtl → SegCtl) : (onSeg h f d).card = d.card := rfl
@[simp] theorem onSeg_sent (h : Fin 12) (f : SegCtl → SegCtl) : (onSeg h f d).sent = d.sent := rfl
@[simp] theorem onSeg_sync (h : Fin 12) (f : SegCtl → SegCtl) : (onSeg h f d).sync = d.sync := rfl
@[simp] theorem onSeg_rail (h : Fin 12) (f : SegCtl → SegCtl) : (onSeg h f d).rail = d.rail := rfl
@[simp] theorem onSeg_ratio (h : Fin 12) (f : SegCtl → SegCtl) : (onSeg h f d).ratio = d.ratio := rfl
@[simp] theorem onSeg_eng (h : Fin 12) (f : SegCtl → SegCtl) : (onSeg h f d).eng = d.eng := rfl
@[simp] theorem onSeg_alloc (h : Fin 12) (f : SegCtl → SegCtl) : (onSeg h f d).alloc = d.alloc := rfl
@[simp] theorem onSeg_out (h : Fin 12) (f : SegCtl → SegCtl) : (onSeg h f d).out = d.out := rfl
@[simp] theorem onSeg_vehicle (h : Fin 12) (f : SegCtl → SegCtl) : (onSeg h f d).vehicle = d.vehicle := rfl
@[simp] theorem onSeg_safety (h : Fin 12) (f : SegCtl → SegCtl) : (onSeg h f d).safety = d.safety := rfl
@[simp] theorem onSeg_metro (h : Fin 12) (f : SegCtl → SegCtl) : (onSeg h f d).metro = d.metro := rfl
@[simp] theorem onSeg_load (h : Fin 12) (f : SegCtl → SegCtl) : (onSeg h f d).load = d.load := rfl
@[simp] theorem onSeg_pair (h : Fin 12) (f : SegCtl → SegCtl) : (onSeg h f d).pair = d.pair := rfl
@[simp] theorem onSeg_eave (h : Fin 12) (f : SegCtl → SegCtl) : (onSeg h f d).eave = d.eave := rfl
@[simp] theorem onSeg_sys (h : Fin 12) (f : SegCtl → SegCtl) : (onSeg h f d).sys = d.sys := rfl
@[simp] theorem onSeg_freeCount (h : Fin 12) (f : SegCtl → SegCtl) : (onSeg h f d).freeCount = d.freeCount := rfl

/-! `onRail` changes `rail` alone. -/
@[simp] theorem onRail_time (j : Fin 12) (f : Rail → Rail) : (onRail j f d).time = d.time := rfl
@[simp] theorem onRail_regs (j : Fin 12) (f : Rail → Rail) : (onRail j f d).regs = d.regs := rfl
@[simp] theorem onRail_isl (j : Fin 12) (f : Rail → Rail) : (onRail j f d).isl = d.isl := rfl
@[simp] theorem onRail_chan (j : Fin 12) (f : Rail → Rail) : (onRail j f d).chan = d.chan := rfl
@[simp] theorem onRail_barrier (j : Fin 12) (f : Rail → Rail) : (onRail j f d).barrier = d.barrier := rfl
@[simp] theorem onRail_site (j : Fin 12) (f : Rail → Rail) : (onRail j f d).site = d.site := rfl
@[simp] theorem onRail_dma (j : Fin 12) (f : Rail → Rail) : (onRail j f d).dma = d.dma := rfl
@[simp] theorem onRail_snap (j : Fin 12) (f : Rail → Rail) : (onRail j f d).snap = d.snap := rfl
@[simp] theorem onRail_log (j : Fin 12) (f : Rail → Rail) : (onRail j f d).log = d.log := rfl
@[simp] theorem onRail_ring (j : Fin 12) (f : Rail → Rail) : (onRail j f d).ring = d.ring := rfl
@[simp] theorem onRail_brick (j : Fin 12) (f : Rail → Rail) : (onRail j f d).brick = d.brick := rfl
@[simp] theorem onRail_drive (j : Fin 12) (f : Rail → Rail) : (onRail j f d).drive = d.drive := rfl
@[simp] theorem onRail_leg (j : Fin 12) (f : Rail → Rail) : (onRail j f d).leg = d.leg := rfl
@[simp] theorem onRail_card (j : Fin 12) (f : Rail → Rail) : (onRail j f d).card = d.card := rfl
@[simp] theorem onRail_sent (j : Fin 12) (f : Rail → Rail) : (onRail j f d).sent = d.sent := rfl
@[simp] theorem onRail_sync (j : Fin 12) (f : Rail → Rail) : (onRail j f d).sync = d.sync := rfl
@[simp] theorem onRail_ratio (j : Fin 12) (f : Rail → Rail) : (onRail j f d).ratio = d.ratio := rfl
@[simp] theorem onRail_eng (j : Fin 12) (f : Rail → Rail) : (onRail j f d).eng = d.eng := rfl
@[simp] theorem onRail_alloc (j : Fin 12) (f : Rail → Rail) : (onRail j f d).alloc = d.alloc := rfl
@[simp] theorem onRail_out (j : Fin 12) (f : Rail → Rail) : (onRail j f d).out = d.out := rfl
@[simp] theorem onRail_vehicle (j : Fin 12) (f : Rail → Rail) : (onRail j f d).vehicle = d.vehicle := rfl
@[simp] theorem onRail_safety (j : Fin 12) (f : Rail → Rail) : (onRail j f d).safety = d.safety := rfl
@[simp] theorem onRail_metro (j : Fin 12) (f : Rail → Rail) : (onRail j f d).metro = d.metro := rfl
@[simp] theorem onRail_load (j : Fin 12) (f : Rail → Rail) : (onRail j f d).load = d.load := rfl
@[simp] theorem onRail_pair (j : Fin 12) (f : Rail → Rail) : (onRail j f d).pair = d.pair := rfl
@[simp] theorem onRail_eave (j : Fin 12) (f : Rail → Rail) : (onRail j f d).eave = d.eave := rfl
@[simp] theorem onRail_sys (j : Fin 12) (f : Rail → Rail) : (onRail j f d).sys = d.sys := rfl
@[simp] theorem onRail_freeCount (j : Fin 12) (f : Rail → Rail) : (onRail j f d).freeCount = d.freeCount := rfl

/-! `onSync` changes `sync` alone. -/
@[simp] theorem onSync_time (f : Sync → Sync) : (onSync f d).time = d.time := rfl
@[simp] theorem onSync_regs (f : Sync → Sync) : (onSync f d).regs = d.regs := rfl
@[simp] theorem onSync_isl (f : Sync → Sync) : (onSync f d).isl = d.isl := rfl
@[simp] theorem onSync_chan (f : Sync → Sync) : (onSync f d).chan = d.chan := rfl
@[simp] theorem onSync_barrier (f : Sync → Sync) : (onSync f d).barrier = d.barrier := rfl
@[simp] theorem onSync_site (f : Sync → Sync) : (onSync f d).site = d.site := rfl
@[simp] theorem onSync_dma (f : Sync → Sync) : (onSync f d).dma = d.dma := rfl
@[simp] theorem onSync_snap (f : Sync → Sync) : (onSync f d).snap = d.snap := rfl
@[simp] theorem onSync_log (f : Sync → Sync) : (onSync f d).log = d.log := rfl
@[simp] theorem onSync_ring (f : Sync → Sync) : (onSync f d).ring = d.ring := rfl
@[simp] theorem onSync_brick (f : Sync → Sync) : (onSync f d).brick = d.brick := rfl
@[simp] theorem onSync_drive (f : Sync → Sync) : (onSync f d).drive = d.drive := rfl
@[simp] theorem onSync_leg (f : Sync → Sync) : (onSync f d).leg = d.leg := rfl
@[simp] theorem onSync_card (f : Sync → Sync) : (onSync f d).card = d.card := rfl
@[simp] theorem onSync_sent (f : Sync → Sync) : (onSync f d).sent = d.sent := rfl
@[simp] theorem onSync_rail (f : Sync → Sync) : (onSync f d).rail = d.rail := rfl
@[simp] theorem onSync_ratio (f : Sync → Sync) : (onSync f d).ratio = d.ratio := rfl
@[simp] theorem onSync_eng (f : Sync → Sync) : (onSync f d).eng = d.eng := rfl
@[simp] theorem onSync_alloc (f : Sync → Sync) : (onSync f d).alloc = d.alloc := rfl
@[simp] theorem onSync_out (f : Sync → Sync) : (onSync f d).out = d.out := rfl
@[simp] theorem onSync_vehicle (f : Sync → Sync) : (onSync f d).vehicle = d.vehicle := rfl
@[simp] theorem onSync_safety (f : Sync → Sync) : (onSync f d).safety = d.safety := rfl
@[simp] theorem onSync_metro (f : Sync → Sync) : (onSync f d).metro = d.metro := rfl
@[simp] theorem onSync_load (f : Sync → Sync) : (onSync f d).load = d.load := rfl
@[simp] theorem onSync_pair (f : Sync → Sync) : (onSync f d).pair = d.pair := rfl
@[simp] theorem onSync_eave (f : Sync → Sync) : (onSync f d).eave = d.eave := rfl
@[simp] theorem onSync_sys (f : Sync → Sync) : (onSync f d).sys = d.sys := rfl
@[simp] theorem onSync_freeCount (f : Sync → Sync) : (onSync f d).freeCount = d.freeCount := rfl

/-! `onSafety` changes `safety` alone. -/
@[simp] theorem onSafety_time (f : Safety → Safety) : (onSafety f d).time = d.time := rfl
@[simp] theorem onSafety_regs (f : Safety → Safety) : (onSafety f d).regs = d.regs := rfl
@[simp] theorem onSafety_isl (f : Safety → Safety) : (onSafety f d).isl = d.isl := rfl
@[simp] theorem onSafety_chan (f : Safety → Safety) : (onSafety f d).chan = d.chan := rfl
@[simp] theorem onSafety_barrier (f : Safety → Safety) : (onSafety f d).barrier = d.barrier := rfl
@[simp] theorem onSafety_site (f : Safety → Safety) : (onSafety f d).site = d.site := rfl
@[simp] theorem onSafety_dma (f : Safety → Safety) : (onSafety f d).dma = d.dma := rfl
@[simp] theorem onSafety_snap (f : Safety → Safety) : (onSafety f d).snap = d.snap := rfl
@[simp] theorem onSafety_log (f : Safety → Safety) : (onSafety f d).log = d.log := rfl
@[simp] theorem onSafety_ring (f : Safety → Safety) : (onSafety f d).ring = d.ring := rfl
@[simp] theorem onSafety_brick (f : Safety → Safety) : (onSafety f d).brick = d.brick := rfl
@[simp] theorem onSafety_drive (f : Safety → Safety) : (onSafety f d).drive = d.drive := rfl
@[simp] theorem onSafety_leg (f : Safety → Safety) : (onSafety f d).leg = d.leg := rfl
@[simp] theorem onSafety_card (f : Safety → Safety) : (onSafety f d).card = d.card := rfl
@[simp] theorem onSafety_sent (f : Safety → Safety) : (onSafety f d).sent = d.sent := rfl
@[simp] theorem onSafety_sync (f : Safety → Safety) : (onSafety f d).sync = d.sync := rfl
@[simp] theorem onSafety_rail (f : Safety → Safety) : (onSafety f d).rail = d.rail := rfl
@[simp] theorem onSafety_ratio (f : Safety → Safety) : (onSafety f d).ratio = d.ratio := rfl
@[simp] theorem onSafety_eng (f : Safety → Safety) : (onSafety f d).eng = d.eng := rfl
@[simp] theorem onSafety_alloc (f : Safety → Safety) : (onSafety f d).alloc = d.alloc := rfl
@[simp] theorem onSafety_out (f : Safety → Safety) : (onSafety f d).out = d.out := rfl
@[simp] theorem onSafety_vehicle (f : Safety → Safety) : (onSafety f d).vehicle = d.vehicle := rfl
@[simp] theorem onSafety_metro (f : Safety → Safety) : (onSafety f d).metro = d.metro := rfl
@[simp] theorem onSafety_load (f : Safety → Safety) : (onSafety f d).load = d.load := rfl
@[simp] theorem onSafety_pair (f : Safety → Safety) : (onSafety f d).pair = d.pair := rfl
@[simp] theorem onSafety_eave (f : Safety → Safety) : (onSafety f d).eave = d.eave := rfl
@[simp] theorem onSafety_sys (f : Safety → Safety) : (onSafety f d).sys = d.sys := rfl
@[simp] theorem onSafety_freeCount (f : Safety → Safety) : (onSafety f d).freeCount = d.freeCount := rfl

/-! `onMetro` changes `metro` alone. -/
@[simp] theorem onMetro_time (f : Metro → Metro) : (onMetro f d).time = d.time := rfl
@[simp] theorem onMetro_regs (f : Metro → Metro) : (onMetro f d).regs = d.regs := rfl
@[simp] theorem onMetro_isl (f : Metro → Metro) : (onMetro f d).isl = d.isl := rfl
@[simp] theorem onMetro_chan (f : Metro → Metro) : (onMetro f d).chan = d.chan := rfl
@[simp] theorem onMetro_barrier (f : Metro → Metro) : (onMetro f d).barrier = d.barrier := rfl
@[simp] theorem onMetro_site (f : Metro → Metro) : (onMetro f d).site = d.site := rfl
@[simp] theorem onMetro_dma (f : Metro → Metro) : (onMetro f d).dma = d.dma := rfl
@[simp] theorem onMetro_snap (f : Metro → Metro) : (onMetro f d).snap = d.snap := rfl
@[simp] theorem onMetro_log (f : Metro → Metro) : (onMetro f d).log = d.log := rfl
@[simp] theorem onMetro_ring (f : Metro → Metro) : (onMetro f d).ring = d.ring := rfl
@[simp] theorem onMetro_brick (f : Metro → Metro) : (onMetro f d).brick = d.brick := rfl
@[simp] theorem onMetro_drive (f : Metro → Metro) : (onMetro f d).drive = d.drive := rfl
@[simp] theorem onMetro_leg (f : Metro → Metro) : (onMetro f d).leg = d.leg := rfl
@[simp] theorem onMetro_card (f : Metro → Metro) : (onMetro f d).card = d.card := rfl
@[simp] theorem onMetro_sent (f : Metro → Metro) : (onMetro f d).sent = d.sent := rfl
@[simp] theorem onMetro_sync (f : Metro → Metro) : (onMetro f d).sync = d.sync := rfl
@[simp] theorem onMetro_rail (f : Metro → Metro) : (onMetro f d).rail = d.rail := rfl
@[simp] theorem onMetro_ratio (f : Metro → Metro) : (onMetro f d).ratio = d.ratio := rfl
@[simp] theorem onMetro_eng (f : Metro → Metro) : (onMetro f d).eng = d.eng := rfl
@[simp] theorem onMetro_alloc (f : Metro → Metro) : (onMetro f d).alloc = d.alloc := rfl
@[simp] theorem onMetro_out (f : Metro → Metro) : (onMetro f d).out = d.out := rfl
@[simp] theorem onMetro_vehicle (f : Metro → Metro) : (onMetro f d).vehicle = d.vehicle := rfl
@[simp] theorem onMetro_safety (f : Metro → Metro) : (onMetro f d).safety = d.safety := rfl
@[simp] theorem onMetro_load (f : Metro → Metro) : (onMetro f d).load = d.load := rfl
@[simp] theorem onMetro_pair (f : Metro → Metro) : (onMetro f d).pair = d.pair := rfl
@[simp] theorem onMetro_eave (f : Metro → Metro) : (onMetro f d).eave = d.eave := rfl
@[simp] theorem onMetro_sys (f : Metro → Metro) : (onMetro f d).sys = d.sys := rfl
@[simp] theorem onMetro_freeCount (f : Metro → Metro) : (onMetro f d).freeCount = d.freeCount := rfl

/-! `onLoad` changes `load` alone. -/
@[simp] theorem onLoad_time (f : Load → Load) : (onLoad f d).time = d.time := rfl
@[simp] theorem onLoad_regs (f : Load → Load) : (onLoad f d).regs = d.regs := rfl
@[simp] theorem onLoad_isl (f : Load → Load) : (onLoad f d).isl = d.isl := rfl
@[simp] theorem onLoad_chan (f : Load → Load) : (onLoad f d).chan = d.chan := rfl
@[simp] theorem onLoad_barrier (f : Load → Load) : (onLoad f d).barrier = d.barrier := rfl
@[simp] theorem onLoad_site (f : Load → Load) : (onLoad f d).site = d.site := rfl
@[simp] theorem onLoad_dma (f : Load → Load) : (onLoad f d).dma = d.dma := rfl
@[simp] theorem onLoad_snap (f : Load → Load) : (onLoad f d).snap = d.snap := rfl
@[simp] theorem onLoad_log (f : Load → Load) : (onLoad f d).log = d.log := rfl
@[simp] theorem onLoad_ring (f : Load → Load) : (onLoad f d).ring = d.ring := rfl
@[simp] theorem onLoad_brick (f : Load → Load) : (onLoad f d).brick = d.brick := rfl
@[simp] theorem onLoad_drive (f : Load → Load) : (onLoad f d).drive = d.drive := rfl
@[simp] theorem onLoad_leg (f : Load → Load) : (onLoad f d).leg = d.leg := rfl
@[simp] theorem onLoad_card (f : Load → Load) : (onLoad f d).card = d.card := rfl
@[simp] theorem onLoad_sent (f : Load → Load) : (onLoad f d).sent = d.sent := rfl
@[simp] theorem onLoad_sync (f : Load → Load) : (onLoad f d).sync = d.sync := rfl
@[simp] theorem onLoad_rail (f : Load → Load) : (onLoad f d).rail = d.rail := rfl
@[simp] theorem onLoad_ratio (f : Load → Load) : (onLoad f d).ratio = d.ratio := rfl
@[simp] theorem onLoad_eng (f : Load → Load) : (onLoad f d).eng = d.eng := rfl
@[simp] theorem onLoad_alloc (f : Load → Load) : (onLoad f d).alloc = d.alloc := rfl
@[simp] theorem onLoad_out (f : Load → Load) : (onLoad f d).out = d.out := rfl
@[simp] theorem onLoad_vehicle (f : Load → Load) : (onLoad f d).vehicle = d.vehicle := rfl
@[simp] theorem onLoad_safety (f : Load → Load) : (onLoad f d).safety = d.safety := rfl
@[simp] theorem onLoad_metro (f : Load → Load) : (onLoad f d).metro = d.metro := rfl
@[simp] theorem onLoad_pair (f : Load → Load) : (onLoad f d).pair = d.pair := rfl
@[simp] theorem onLoad_eave (f : Load → Load) : (onLoad f d).eave = d.eave := rfl
@[simp] theorem onLoad_sys (f : Load → Load) : (onLoad f d).sys = d.sys := rfl
@[simp] theorem onLoad_freeCount (f : Load → Load) : (onLoad f d).freeCount = d.freeCount := rfl

/-! `onPair` changes `pair` alone. -/
@[simp] theorem onPair_time (f : Pair → Pair) : (onPair f d).time = d.time := rfl
@[simp] theorem onPair_regs (f : Pair → Pair) : (onPair f d).regs = d.regs := rfl
@[simp] theorem onPair_isl (f : Pair → Pair) : (onPair f d).isl = d.isl := rfl
@[simp] theorem onPair_chan (f : Pair → Pair) : (onPair f d).chan = d.chan := rfl
@[simp] theorem onPair_barrier (f : Pair → Pair) : (onPair f d).barrier = d.barrier := rfl
@[simp] theorem onPair_site (f : Pair → Pair) : (onPair f d).site = d.site := rfl
@[simp] theorem onPair_dma (f : Pair → Pair) : (onPair f d).dma = d.dma := rfl
@[simp] theorem onPair_snap (f : Pair → Pair) : (onPair f d).snap = d.snap := rfl
@[simp] theorem onPair_log (f : Pair → Pair) : (onPair f d).log = d.log := rfl
@[simp] theorem onPair_ring (f : Pair → Pair) : (onPair f d).ring = d.ring := rfl
@[simp] theorem onPair_brick (f : Pair → Pair) : (onPair f d).brick = d.brick := rfl
@[simp] theorem onPair_drive (f : Pair → Pair) : (onPair f d).drive = d.drive := rfl
@[simp] theorem onPair_leg (f : Pair → Pair) : (onPair f d).leg = d.leg := rfl
@[simp] theorem onPair_card (f : Pair → Pair) : (onPair f d).card = d.card := rfl
@[simp] theorem onPair_sent (f : Pair → Pair) : (onPair f d).sent = d.sent := rfl
@[simp] theorem onPair_sync (f : Pair → Pair) : (onPair f d).sync = d.sync := rfl
@[simp] theorem onPair_rail (f : Pair → Pair) : (onPair f d).rail = d.rail := rfl
@[simp] theorem onPair_ratio (f : Pair → Pair) : (onPair f d).ratio = d.ratio := rfl
@[simp] theorem onPair_eng (f : Pair → Pair) : (onPair f d).eng = d.eng := rfl
@[simp] theorem onPair_alloc (f : Pair → Pair) : (onPair f d).alloc = d.alloc := rfl
@[simp] theorem onPair_out (f : Pair → Pair) : (onPair f d).out = d.out := rfl
@[simp] theorem onPair_vehicle (f : Pair → Pair) : (onPair f d).vehicle = d.vehicle := rfl
@[simp] theorem onPair_safety (f : Pair → Pair) : (onPair f d).safety = d.safety := rfl
@[simp] theorem onPair_metro (f : Pair → Pair) : (onPair f d).metro = d.metro := rfl
@[simp] theorem onPair_load (f : Pair → Pair) : (onPair f d).load = d.load := rfl
@[simp] theorem onPair_eave (f : Pair → Pair) : (onPair f d).eave = d.eave := rfl
@[simp] theorem onPair_sys (f : Pair → Pair) : (onPair f d).sys = d.sys := rfl
@[simp] theorem onPair_freeCount (f : Pair → Pair) : (onPair f d).freeCount = d.freeCount := rfl

/-! `onSys` changes `sys` alone. -/
@[simp] theorem onSys_time (f : Module → Module) : (onSys f d).time = d.time := rfl
@[simp] theorem onSys_regs (f : Module → Module) : (onSys f d).regs = d.regs := rfl
@[simp] theorem onSys_isl (f : Module → Module) : (onSys f d).isl = d.isl := rfl
@[simp] theorem onSys_chan (f : Module → Module) : (onSys f d).chan = d.chan := rfl
@[simp] theorem onSys_barrier (f : Module → Module) : (onSys f d).barrier = d.barrier := rfl
@[simp] theorem onSys_site (f : Module → Module) : (onSys f d).site = d.site := rfl
@[simp] theorem onSys_dma (f : Module → Module) : (onSys f d).dma = d.dma := rfl
@[simp] theorem onSys_snap (f : Module → Module) : (onSys f d).snap = d.snap := rfl
@[simp] theorem onSys_log (f : Module → Module) : (onSys f d).log = d.log := rfl
@[simp] theorem onSys_ring (f : Module → Module) : (onSys f d).ring = d.ring := rfl
@[simp] theorem onSys_brick (f : Module → Module) : (onSys f d).brick = d.brick := rfl
@[simp] theorem onSys_drive (f : Module → Module) : (onSys f d).drive = d.drive := rfl
@[simp] theorem onSys_leg (f : Module → Module) : (onSys f d).leg = d.leg := rfl
@[simp] theorem onSys_card (f : Module → Module) : (onSys f d).card = d.card := rfl
@[simp] theorem onSys_sent (f : Module → Module) : (onSys f d).sent = d.sent := rfl
@[simp] theorem onSys_sync (f : Module → Module) : (onSys f d).sync = d.sync := rfl
@[simp] theorem onSys_rail (f : Module → Module) : (onSys f d).rail = d.rail := rfl
@[simp] theorem onSys_ratio (f : Module → Module) : (onSys f d).ratio = d.ratio := rfl
@[simp] theorem onSys_eng (f : Module → Module) : (onSys f d).eng = d.eng := rfl
@[simp] theorem onSys_alloc (f : Module → Module) : (onSys f d).alloc = d.alloc := rfl
@[simp] theorem onSys_out (f : Module → Module) : (onSys f d).out = d.out := rfl
@[simp] theorem onSys_vehicle (f : Module → Module) : (onSys f d).vehicle = d.vehicle := rfl
@[simp] theorem onSys_safety (f : Module → Module) : (onSys f d).safety = d.safety := rfl
@[simp] theorem onSys_metro (f : Module → Module) : (onSys f d).metro = d.metro := rfl
@[simp] theorem onSys_load (f : Module → Module) : (onSys f d).load = d.load := rfl
@[simp] theorem onSys_pair (f : Module → Module) : (onSys f d).pair = d.pair := rfl
@[simp] theorem onSys_eave (f : Module → Module) : (onSys f d).eave = d.eave := rfl
@[simp] theorem onSys_freeCount (f : Module → Module) : (onSys f d).freeCount = d.freeCount := rfl

/-! `onLane` changes `barrier` alone. -/
@[simp] theorem onLane_time (l : Lane) (f : LaneState → LaneState) : (onLane l f d).time = d.time := by cases l <;> rfl
@[simp] theorem onLane_regs (l : Lane) (f : LaneState → LaneState) : (onLane l f d).regs = d.regs := by cases l <;> rfl
@[simp] theorem onLane_isl (l : Lane) (f : LaneState → LaneState) : (onLane l f d).isl = d.isl := by cases l <;> rfl
@[simp] theorem onLane_chan (l : Lane) (f : LaneState → LaneState) : (onLane l f d).chan = d.chan := by cases l <;> rfl
@[simp] theorem onLane_site (l : Lane) (f : LaneState → LaneState) : (onLane l f d).site = d.site := by cases l <;> rfl
@[simp] theorem onLane_dma (l : Lane) (f : LaneState → LaneState) : (onLane l f d).dma = d.dma := by cases l <;> rfl
@[simp] theorem onLane_snap (l : Lane) (f : LaneState → LaneState) : (onLane l f d).snap = d.snap := by cases l <;> rfl
@[simp] theorem onLane_log (l : Lane) (f : LaneState → LaneState) : (onLane l f d).log = d.log := by cases l <;> rfl
@[simp] theorem onLane_ring (l : Lane) (f : LaneState → LaneState) : (onLane l f d).ring = d.ring := by cases l <;> rfl
@[simp] theorem onLane_brick (l : Lane) (f : LaneState → LaneState) : (onLane l f d).brick = d.brick := by cases l <;> rfl
@[simp] theorem onLane_drive (l : Lane) (f : LaneState → LaneState) : (onLane l f d).drive = d.drive := by cases l <;> rfl
@[simp] theorem onLane_leg (l : Lane) (f : LaneState → LaneState) : (onLane l f d).leg = d.leg := by cases l <;> rfl
@[simp] theorem onLane_card (l : Lane) (f : LaneState → LaneState) : (onLane l f d).card = d.card := by cases l <;> rfl
@[simp] theorem onLane_sent (l : Lane) (f : LaneState → LaneState) : (onLane l f d).sent = d.sent := by cases l <;> rfl
@[simp] theorem onLane_sync (l : Lane) (f : LaneState → LaneState) : (onLane l f d).sync = d.sync := by cases l <;> rfl
@[simp] theorem onLane_rail (l : Lane) (f : LaneState → LaneState) : (onLane l f d).rail = d.rail := by cases l <;> rfl
@[simp] theorem onLane_ratio (l : Lane) (f : LaneState → LaneState) : (onLane l f d).ratio = d.ratio := by cases l <;> rfl
@[simp] theorem onLane_eng (l : Lane) (f : LaneState → LaneState) : (onLane l f d).eng = d.eng := by cases l <;> rfl
@[simp] theorem onLane_alloc (l : Lane) (f : LaneState → LaneState) : (onLane l f d).alloc = d.alloc := by cases l <;> rfl
@[simp] theorem onLane_out (l : Lane) (f : LaneState → LaneState) : (onLane l f d).out = d.out := by cases l <;> rfl
@[simp] theorem onLane_vehicle (l : Lane) (f : LaneState → LaneState) : (onLane l f d).vehicle = d.vehicle := by cases l <;> rfl
@[simp] theorem onLane_safety (l : Lane) (f : LaneState → LaneState) : (onLane l f d).safety = d.safety := by cases l <;> rfl
@[simp] theorem onLane_metro (l : Lane) (f : LaneState → LaneState) : (onLane l f d).metro = d.metro := by cases l <;> rfl
@[simp] theorem onLane_load (l : Lane) (f : LaneState → LaneState) : (onLane l f d).load = d.load := by cases l <;> rfl
@[simp] theorem onLane_pair (l : Lane) (f : LaneState → LaneState) : (onLane l f d).pair = d.pair := by cases l <;> rfl
@[simp] theorem onLane_eave (l : Lane) (f : LaneState → LaneState) : (onLane l f d).eave = d.eave := by cases l <;> rfl
@[simp] theorem onLane_sys (l : Lane) (f : LaneState → LaneState) : (onLane l f d).sys = d.sys := by cases l <;> rfl
@[simp] theorem onLane_freeCount (l : Lane) (f : LaneState → LaneState) : (onLane l f d).freeCount = d.freeCount := by cases l <;> rfl

/-! `onContactor` changes `ring` or `brick` alone. -/
@[simp] theorem onContactor_time (x : ContactorId) (f : Contactor → Contactor) : (onContactor x f d).time = d.time := by cases x <;> rfl
@[simp] theorem onContactor_regs (x : ContactorId) (f : Contactor → Contactor) : (onContactor x f d).regs = d.regs := by cases x <;> rfl
@[simp] theorem onContactor_isl (x : ContactorId) (f : Contactor → Contactor) : (onContactor x f d).isl = d.isl := by cases x <;> rfl
@[simp] theorem onContactor_chan (x : ContactorId) (f : Contactor → Contactor) : (onContactor x f d).chan = d.chan := by cases x <;> rfl
@[simp] theorem onContactor_barrier (x : ContactorId) (f : Contactor → Contactor) : (onContactor x f d).barrier = d.barrier := by cases x <;> rfl
@[simp] theorem onContactor_site (x : ContactorId) (f : Contactor → Contactor) : (onContactor x f d).site = d.site := by cases x <;> rfl
@[simp] theorem onContactor_dma (x : ContactorId) (f : Contactor → Contactor) : (onContactor x f d).dma = d.dma := by cases x <;> rfl
@[simp] theorem onContactor_snap (x : ContactorId) (f : Contactor → Contactor) : (onContactor x f d).snap = d.snap := by cases x <;> rfl
@[simp] theorem onContactor_log (x : ContactorId) (f : Contactor → Contactor) : (onContactor x f d).log = d.log := by cases x <;> rfl
@[simp] theorem onContactor_drive (x : ContactorId) (f : Contactor → Contactor) : (onContactor x f d).drive = d.drive := by cases x <;> rfl
@[simp] theorem onContactor_leg (x : ContactorId) (f : Contactor → Contactor) : (onContactor x f d).leg = d.leg := by cases x <;> rfl
@[simp] theorem onContactor_card (x : ContactorId) (f : Contactor → Contactor) : (onContactor x f d).card = d.card := by cases x <;> rfl
@[simp] theorem onContactor_sent (x : ContactorId) (f : Contactor → Contactor) : (onContactor x f d).sent = d.sent := by cases x <;> rfl
@[simp] theorem onContactor_sync (x : ContactorId) (f : Contactor → Contactor) : (onContactor x f d).sync = d.sync := by cases x <;> rfl
@[simp] theorem onContactor_rail (x : ContactorId) (f : Contactor → Contactor) : (onContactor x f d).rail = d.rail := by cases x <;> rfl
@[simp] theorem onContactor_ratio (x : ContactorId) (f : Contactor → Contactor) : (onContactor x f d).ratio = d.ratio := by cases x <;> rfl
@[simp] theorem onContactor_eng (x : ContactorId) (f : Contactor → Contactor) : (onContactor x f d).eng = d.eng := by cases x <;> rfl
@[simp] theorem onContactor_alloc (x : ContactorId) (f : Contactor → Contactor) : (onContactor x f d).alloc = d.alloc := by cases x <;> rfl
@[simp] theorem onContactor_out (x : ContactorId) (f : Contactor → Contactor) : (onContactor x f d).out = d.out := by cases x <;> rfl
@[simp] theorem onContactor_vehicle (x : ContactorId) (f : Contactor → Contactor) : (onContactor x f d).vehicle = d.vehicle := by cases x <;> rfl
@[simp] theorem onContactor_safety (x : ContactorId) (f : Contactor → Contactor) : (onContactor x f d).safety = d.safety := by cases x <;> rfl
@[simp] theorem onContactor_metro (x : ContactorId) (f : Contactor → Contactor) : (onContactor x f d).metro = d.metro := by cases x <;> rfl
@[simp] theorem onContactor_load (x : ContactorId) (f : Contactor → Contactor) : (onContactor x f d).load = d.load := by cases x <;> rfl
@[simp] theorem onContactor_pair (x : ContactorId) (f : Contactor → Contactor) : (onContactor x f d).pair = d.pair := by cases x <;> rfl
@[simp] theorem onContactor_eave (x : ContactorId) (f : Contactor → Contactor) : (onContactor x f d).eave = d.eave := by cases x <;> rfl
@[simp] theorem onContactor_sys (x : ContactorId) (f : Contactor → Contactor) : (onContactor x f d).sys = d.sys := by cases x <;> rfl
@[simp] theorem onContactor_freeCount (x : ContactorId) (f : Contactor → Contactor) : (onContactor x f d).freeCount = d.freeCount := by cases x <;> rfl

/-! The changed field. -/
@[simp] theorem reach_time (t : Nat) : (reach t d).time = { d.time with now := max d.time.now t } := rfl
@[simp] theorem setVal_regs (k : Nat) (v : DVal) : (setVal k v d).regs = putKey (v == defaultOf k) k v d.regs := rfl
@[simp] theorem setIsland_isl (i : Fin 8) (st : IslandState) : (setIsland i st d).isl = upd d.isl i (fun _ => st) := rfl
@[simp] theorem onSite_site (f : HostSite → HostSite) : (onSite f d).site = f d.site := rfl
@[simp] theorem onAlloc_alloc (f : Alloc → Alloc) : (onAlloc f d).alloc = f d.alloc := rfl
@[simp] theorem onOut_out (k : Fin 12) (f : Outlet → Outlet) : (onOut k f d).out = upd d.out k f := rfl
@[simp] theorem onVehicle_vehicle (k : Fin 12) (f : Vehicle → Vehicle) : (onVehicle k f d).vehicle = upd d.vehicle k f := rfl
@[simp] theorem onEave_eave (f : Eave → Eave) : (onEave f d).eave = f d.eave := rfl
@[simp] theorem onDrive_drive (u : Fin 4) (f : Drive → Drive) : (onDrive u f d).drive = upd d.drive u f := rfl
@[simp] theorem onCard_card (c : Fin 28) (f : Card → Card) : (onCard c f d).card = upd d.card c f := rfl
@[simp] theorem onBrick_brick (k : Fin 24) (f : Brick → Brick) : (onBrick k f d).brick = upd d.brick k f := rfl
@[simp] theorem onLeg_leg (n : Fin 96) (f : Leg → Leg) : (onLeg n f d).leg = upd d.leg n f := rfl
@[simp] theorem onRail_rail (j : Fin 12) (f : Rail → Rail) : (onRail j f d).rail = upd d.rail j f := rfl
@[simp] theorem onSync_sync (f : Sync → Sync) : (onSync f d).sync = f d.sync := rfl
@[simp] theorem onSafety_safety (f : Safety → Safety) : (onSafety f d).safety = f d.safety := rfl
@[simp] theorem onMetro_metro (f : Metro → Metro) : (onMetro f d).metro = f d.metro := rfl
@[simp] theorem onLoad_load (f : Load → Load) : (onLoad f d).load = f d.load := rfl
@[simp] theorem onPair_pair (f : Pair → Pair) : (onPair f d).pair = f d.pair := rfl
@[simp] theorem onSys_sys (f : Module → Module) : (onSys f d).sys = f d.sys := rfl

end Sys2Proof.Machine
end

