-- ==== Sys2Proof/Laws/Ops.lean ====
section
/-! SUPPORT. What the shared operations do: tables, canonical listings, the register file, the DMA memory, queues and events. -/
namespace Sys2Proof
variable {α : Type} {n : Nat}

/-! Tables. -/
@[simp] theorem tab_get (f : Fin n → α) (i : Fin n) : (tab f)[i] = f i := by
  simp [tab]
@[simp] theorem upd_get_same (v : Vector α n) (i : Fin n) (f : α → α) : (upd v i f)[i] = f v[i] := by
  simp [upd]
theorem upd_get_other (v : Vector α n) (i j : Fin n) (f : α → α) (h : j ≠ i) : (upd v i f)[j] = v[j] := by
  have : i.val ≠ j.val := fun e => h (Fin.ext e.symm)
  simp [upd, this]
theorem mem_all (i : Fin n) : i ∈ all n := List.mem_ofFn.2 ⟨i, rfl⟩

namespace Machine

/-! Listings with ascending keys. -/

theorem risingKeys_iff (l : List (Nat × α)) : risingKeys l = true ↔ l.Pairwise (fun a b => a.1 < b.1) := by
  induction l with
  | nil => simp [risingKeys]
  | cons a r ih =>
    cases r with
    | nil => simp [risingKeys]
    | cons b r =>
      rw [risingKeys, Bool.and_eq_true, decide_eq_true_iff, ih, List.pairwise_cons (l := b :: r)]
      refine ⟨fun ⟨h, p⟩ => ⟨fun c hc => ?_, p⟩, fun ⟨h, p⟩ => ⟨h b List.mem_cons_self, p⟩⟩
      rcases List.mem_cons.1 hc with rfl | hc
      · exact h
      · exact h.trans ((List.pairwise_cons.1 p).1 c hc)

theorem mem_insertKey (k : Nat) (v : α) (l : List (Nat × α)) (e : Nat × α) :
    e ∈ insertKey k v l ↔ e = (k, v) ∨ e ∈ l := by
  induction l with
  | nil => simp [insertKey]
  | cons a r ih =>
    unfold insertKey
    split
    · simp only [List.mem_cons, ih]
      tauto
    · simp

/-- Inserting at an absent key keeps the keys rising. -/
theorem insertKey_rising (k : Nat) (v : α) (l : List (Nat × α)) (h : l.Pairwise (fun a b => a.1 < b.1))
    (hk : ∀ e ∈ l, e.1 ≠ k) : (insertKey k v l).Pairwise (fun a b => a.1 < b.1) := by
  induction l with
  | nil => simp [insertKey]
  | cons a r ih =>
    obtain ⟨h1, h2⟩ := List.pairwise_cons.1 h
    have ha := hk a List.mem_cons_self
    have hr : ∀ e ∈ r, e.1 ≠ k := fun e he => hk e (List.mem_cons_of_mem _ he)
    unfold insertKey
    split
    · rename_i hlt
      refine List.pairwise_cons.2 ⟨fun e he => ?_, ih h2 hr⟩
      rcases (mem_insertKey k v r e).1 he with rfl | he
      · exact hlt
      · exact h1 e he
    · rename_i hlt
      refine List.pairwise_cons.2 ⟨fun e he => ?_, h⟩
      rcases List.mem_cons.1 he with rfl | he
      · show k < e.1
        omega
      · have := h1 e he
        show k < e.1
        omega

theorem risingKeys_filter (p : Nat × α → Bool) (l : List (Nat × α)) (h : risingKeys l = true) :
    risingKeys (l.filter p) = true :=
  (risingKeys_iff _).2 (((risingKeys_iff l).1 h).filter p)

theorem putKey_rising (u : Bool) (k : Nat) (v : α) (l : List (Nat × α)) (h : risingKeys l = true) :
    risingKeys (putKey u k v l) = true := by
  have hf := risingKeys_filter (fun e => e.1 != k) l h
  unfold putKey
  split
  · exact hf
  · exact (risingKeys_iff _).2 (insertKey_rising k v _ ((risingKeys_iff _).1 hf) (by simp))

theorem mem_putKey (u : Bool) (k : Nat) (v : α) (l : List (Nat × α)) (e : Nat × α) (h : e ∈ putKey u k v l) :
    (u = false ∧ e = (k, v)) ∨ e ∈ l := by
  unfold putKey at h
  split at h
  · exact .inr (List.mem_filter.1 h).1
  · rename_i hu
    rcases (mem_insertKey k v _ e).1 h with rfl | h
    · exact .inl ⟨by simpa using hu, rfl⟩
    · exact .inr (List.mem_filter.1 h).1

theorem lookup_filter_ne (k j : Nat) (l : List (Nat × α)) (h : j ≠ k) :
    (l.filter (fun e => e.1 != k)).lookup j = l.lookup j := by
  induction l with
  | nil => rfl
  | cons a r ih =>
    obtain ⟨x, y⟩ := a
    by_cases ha : x = k
    · subst ha
      have : (j == x) = false := by simpa using h
      simpa [List.lookup_cons, this] using ih
    · rw [List.filter_cons_of_pos (by simpa using ha), List.lookup_cons, List.lookup_cons, ih]

theorem lookup_filter_same (k : Nat) (l : List (Nat × α)) : (l.filter (fun e => e.1 != k)).lookup k = none := by
  simp [List.lookup_eq_none_iff]
  intro a b _ h e
  exact h e.symm

theorem lookup_insertKey_same (k : Nat) (v : α) (l : List (Nat × α)) : (insertKey k v l).lookup k = some v := by
  induction l with
  | nil => simp [insertKey]
  | cons a r ih =>
    obtain ⟨x, y⟩ := a
    unfold insertKey
    split
    · rename_i hlt
      have : (k == x) = false := by
        have : x < k := hlt
        simp
        omega
      simp [List.lookup_cons, this, ih]
    · simp

theorem lookup_insertKey_other (k j : Nat) (v : α) (l : List (Nat × α)) (h : j ≠ k) :
    (insertKey k v l).lookup j = l.lookup j := by
  have hk : (j == k) = false := by simpa using h
  induction l with
  | nil => simp [insertKey, List.lookup_cons, hk]
  | cons a r ih =>
    obtain ⟨x, y⟩ := a
    unfold insertKey
    split
    · simp [List.lookup_cons, ih]
    · rw [List.lookup_cons, hk]

/-- A changed key reads as what was put, or as unlisted. -/
theorem lookup_putKey_same (u : Bool) (k : Nat) (v : α) (l : List (Nat × α)) :
    (putKey u k v l).lookup k = if u then none else some v := by
  unfold putKey
  split <;> simp [lookup_insertKey_same, lookup_filter_same]

/-- Every other key reads as it did. -/
theorem lookup_putKey_other (u : Bool) (k j : Nat) (v : α) (l : List (Nat × α)) (h : j ≠ k) :
    (putKey u k v l).lookup j = l.lookup j := by
  unfold putKey
  split <;> simp [lookup_insertKey_other, lookup_filter_ne, h]

/-! The register file. -/

/-- A set entry holds its value. -/
@[simp] theorem getVal_setVal_same (d : Dev) (k : Nat) (v : DVal) : getVal (setVal k v d) k = v := by
  unfold getVal
  rw [setVal, lookup_putKey_same]
  split
  · exact (eq_of_beq ‹_›).symm
  · rfl

/-- Every other entry holds its own. -/
theorem getVal_setVal_other (d : Dev) (k j : Nat) (v : DVal) (h : j ≠ k) : getVal (setVal k v d) j = getVal d j := by
  simp only [getVal, setVal, lookup_putKey_other _ _ _ _ _ h]

@[simp] theorem num_setNum_same (d : Dev) (x y : Nat) (v : Int) : num (setNum x y v d) x y = v := by
  simp [num, setNum, intOf]

theorem num_setNum_other (d : Dev) (x y a b : Nat) (v : Int) (h : key a b ≠ key x y) :
    num (setNum x y v d) a b = num d a b := by
  simp only [num, setNum, getVal_setVal_other _ _ _ _ h]

/-- Setting an entry keeps the register file's canonical form. -/
theorem setVal_regsWf (d : Dev) (k : Nat) (v : DVal) (h : regsWf d.regs = true) : regsWf (setVal k v d).regs = true := by
  simp only [regsWf, Bool.and_eq_true, List.all_eq_true] at h ⊢
  refine ⟨putKey_rising _ _ _ _ h.1, fun e he => ?_⟩
  rcases mem_putKey _ _ _ _ e he with ⟨hu, rfl⟩ | he
  · simpa [bne] using hu
  · exact h.2 e he

/-- So does forgetting entries. -/
theorem regsWf_filter (l : List (Nat × DVal)) (p : Nat × DVal → Bool) (h : regsWf l = true) :
    regsWf (l.filter p) = true := by
  simp only [regsWf, Bool.and_eq_true, List.all_eq_true] at h ⊢
  exact ⟨risingKeys_filter p l h.1, fun e he => h.2 e (List.mem_filter.1 he).1⟩

theorem setNum_regsWf (d : Dev) (x y : Nat) (v : Int) (h : regsWf d.regs = true) :
    regsWf (setNum x y v d).regs = true := setVal_regsWf d _ _ h
theorem bump_regsWf (d : Dev) (x y : Nat) (h : regsWf d.regs = true) : regsWf (bump x y d).regs = true :=
  setVal_regsWf d _ _ h

/-! The DMA memory. -/

/-- A written byte reads back. -/
theorem memByte_putByte_same (d : Dev) (a : Nat) (b : Byte) :
    memByte { d with dma := { d.dma with mem := putByte a b d.dma.mem } } a = b := by
  simp only [memByte, putByte, lookup_putKey_same]
  split
  · rename_i h
    simp only [neverListed, Bool.and_eq_true, beq_iff_eq, Bool.not_eq_true'] at h
    simp [unlistedByte, h.1, h.2]
  · rfl

/-- Every other byte reads as it did. -/
theorem memByte_putByte_other (d : Dev) (a c : Nat) (b : Byte) (h : c ≠ a) :
    memByte { d with dma := { d.dma with mem := putByte a b d.dma.mem } } c = memByte d c := by
  simp only [memByte, putByte, lookup_putKey_other _ _ _ _ _ h]
  rfl

/-- A byte written keeps the memory's canonical form. -/
theorem putByte_wf (m : List Host.Cell) (a : Nat) (b : Byte) (h : Memory.wf m = true) : Memory.wf (putByte a b m) = true := by
  simp only [Memory.wf, Bool.and_eq_true, List.all_eq_true] at h ⊢
  refine ⟨putKey_rising _ _ _ _ h.1, fun e he => ?_⟩
  rcases mem_putKey _ _ _ _ e he with ⟨hu, rfl⟩ | he
  · simpa using hu
  · exact h.2 e he

/-- So does a unit written. -/
theorem putUnit_wf (m : List Host.Cell) (a : Nat) (w : W32) (h : Memory.wf m = true) : Memory.wf (putUnit a w m) = true :=
  putByte_wf _ _ _ (putByte_wf _ _ _ (putByte_wf _ _ _ (putByte_wf _ _ _ h)))

/-- So does forgetting bytes. -/
theorem memory_wf_filter (m : List Host.Cell) (p : Host.Cell → Bool) (h : Memory.wf m = true) :
    Memory.wf (m.filter p) = true := by
  simp only [Memory.wf, Bool.and_eq_true, List.all_eq_true] at h ⊢
  exact ⟨risingKeys_filter p m h.1, fun e he => h.2 e (List.mem_filter.1 he).1⟩

/-- The memory after reset is in its canonical form. -/
theorem reset_memory_wf : Memory.wf State.reset.dev.dma.mem = true := by decide +kernel

/-! Queues and events. -/

/-- Queueing a message changes the barrier alone. -/
theorem enqueue_frame (l : Lane) (m : TenonOut) (d : Dev) : enqueue l m d = { d with barrier := (enqueue l m d).barrier } := by
  cases l <;> rfl

theorem logAppend_frame (b : List Byte) (d : Dev) : ∃ r l, logAppend b d = { d with regs := r, log := l } := by
  unfold logAppend
  by_cases h : 4096 ≤ d.log.ring.length
  · simp only [h, if_true]
    exact ⟨_, _, rfl⟩
  · simp only [h, if_false]
    exact ⟨_, _, rfl⟩

/-- A trigger changes the register file, the snapshots and the barrier's queues alone. -/
theorem fireTrigger_frame (a b c e : Nat) (d : Dev) :
    ∃ r s q, (fireTrigger a b c e d).1 = { d with regs := r, snap := s, barrier := q } := by
  unfold fireTrigger
  extract_lets recent bumped
  split
  · split <;> exact ⟨_, _, _, rfl⟩
  · split <;> exact ⟨_, _, _, rfl⟩

/-- An event changes the register file, the log, the snapshots and the barrier's queues alone. -/
theorem raise_frame (i : Fin 8) (x : EventName) (b : List Byte) (d : Dev) :
    ∃ r l s q, raise i x b d = { d with regs := r, log := l, snap := s, barrier := q } := by
  unfold raise
  extract_lets e log f
  have first : ∃ r l, f = { d with regs := r, log := l } := by
    unfold f
    split
    · exact logAppend_frame _ d
    · split <;> exact ⟨_, _, rfl⟩
  obtain ⟨r, l, h⟩ := first
  rw [h]
  split
  · split
    · obtain ⟨r', s', q', h'⟩ := fireTrigger_frame 3 0 (Config.eventCode x).toNat (eventGroup x) { d with regs := r, log := l }
      exact ⟨r', l, s', q', h'⟩
    · exact ⟨r, l, _, _, rfl⟩
  · exact ⟨r, l, _, _, rfl⟩

end Machine
end Sys2Proof
end

