-- ==== Sys2Proof/Tests/Slice0.lean ====
section
/-! SUPPORT. Tests: every check of well-formedness refuses a term; small states that meet the hypotheses of the claims; and single steps. -/
namespace Sys2Proof.Tests
set_option Elab.async false
open Sys2Proof Sys2Proof.Machine Sys2Proof.Claims

/-- A module whose islands all run, with the barrier up. -/
def live : Dev := { Dev.reset with
  isl := tab (fun _ => .running)
  barrier := { Dev.reset.barrier with host := Fresh.side 0, field := Fresh.side 0 } }
/-- A module whose host side has lost the barrier. -/
def lost (d : Dev) : Dev := { d with barrier := { d.barrier with host := { d.barrier.host with view := .lost } } }
/-- Sessions 2 and 5 are open, and one of them owns every group. -/
def opened (owner : Nat) (d : Dev) : Dev := { d with site := { d.site with
  fieldSession := tab (fun i => if i.val = 1 then some (3, []) else if i.val = 4 then some (2, []) else none)
  owners := tab (fun _ => owner), ownersSeen := tab (fun _ => owner), tls := tab (fun _ => some ⟨0, true⟩)
  sessions := tab (fun i => if i.val = 1 then { Fresh.session with conn := some (.tls 1) }
    else if i.val = 4 then { Fresh.session with conn := some .usb } else Fresh.session) } }
/-- A request of session 2, over TLS. -/
def ask (data : List Byte) : Ask := ⟨.tls 1, 2, 7, 0, data⟩
/-- A request of session 5, at the maintenance port. -/
def askUsb (data : List Byte) : Ask := ⟨.usb, 5, 7, 0, data⟩
/-- A tenon message that is framed well. -/
def tenon (type session tag island : Nat) (payload : List Byte) : TenonMsg :=
  let h : Nat := type * 2 ^ 56 + session * 2 ^ 48 + tag * 2 ^ 40 + 3 * 2 ^ 38 + island * 2 ^ 32 + payload.length
  ⟨true, BitVec.ofNat 64 h, payload, crc32 (leBytes 8 h ++ payload)⟩
/-- Whether a command is a write that passes every check of R367 and R498. -/
def okWrite (c : Instr) (d : Dev) : Bool := match served c d with
  | some h => h.taken
  | none => false
/-- Such a command meets the hypotheses of the claims about writes. -/
theorem writes_of_okWrite {c : Instr} {d : Dev} (h : okWrite c d = true) : ∃ q, served c d = some q ∧ q.taken = true := by
  unfold okWrite at h
  split at h
  · exact ⟨_, ‹_›, h⟩
  · cases h
/-- Whether a message is heard. -/
def hears (l : Lane) (type : Nat) (m : TenonMsg) (d : Dev) : Bool := (receive l m d).2 && hdrType m.header == type
/-- Such a message meets the hypothesis of the claims about messages. -/
theorem heard_of_hears {l : Lane} {t : Nat} {m : TenonMsg} {d : Dev} (h : hears l t m d = true) : heard l t m d := by
  simpa [hears, heard] using h


/-! Time, the lanes, snapshots and events (chapters 1 and 14). -/

theorem meets_timeMark : (0 : Fin 8) ≠ 7 ∧ (7 : Fin 8) = 7 := by decide +kernel

/-- A module whose island 2 is in holdover. -/
def held : Dev := { live with time := { live.time with holdover := tab (fun i => i == 2) } }

/-- A module whose host island had its last time mark 20 ms ago. -/
def unmarked : Dev := { live with time := { live.time with now := ms 20 } }

theorem meets_holdoverLimit : (hostHoldover held).time.holdover[(2 : Fin 8)] = true ∧ (hostHoldover live).time.holdover[(2 : Fin 8)] = false
    ∧ unmarked.time.holdover[(0 : Fin 8)] = false ∧ up 0 unmarked = true
        ∧ unmarked.time.marked[(0 : Fin 8)] + ms 10 ≤ unmarked.time.now := by decide +kernel

theorem meets_referenceSwitch : up 7 live = true ∧ up 7 Dev.reset = false := by decide +kernel

/-- A module whose channels have transferred. -/
def stale : Dev := { live with chan := tab (fun _ => ⟨5, false⟩) }

theorem meets_channelStale :
    (∀ ch ∈ ([.timeMark 0, .safetyStop, .safetyFeed, .peerTime, .loadCommand, .lineLink] : List Channel), isStale ch stale = false
        ∧ up (chanReceiver ch) stale = true)
    ∧ isStale .safetyStop live = true := by decide +kernel

/-- A module in pair mode that is ACTIVE. -/
def twin : Dev := setNum 0x1C00 0x03 2 (setNum 0x1C00 0x01 1 live)

theorem meets_peerTimeTransfer : up 6 twin = true ∧ up 7 twin = true ∧ pairMode twin = true ∧ holds twin = true
    ∧ roleOf (setNum 0x1C00 0x03 0 twin) = 0 ∧ (setNum 0x1C00 0x03 0 twin).metro.aligned = false ∧ holds (setNum 0x1C00 0x03 1 twin) = false
    ∧ roleOf (setNum 0x1C00 0x03 1 twin) ≠ 0 ∧ pairMode live = false := by decide +kernel

theorem meets_safetyFeed : up 1 live = true ∧ up 3 live = true ∧ up 1 Dev.reset = false := by decide +kernel

theorem meets_wallClockOffsetSend : up 0 live = true ∧ barrierLost live = false ∧ up 0 Dev.reset = false := by decide +kernel

/-- A message of a type that waits at a sending port. -/
def waiting (type : Nat) : TenonOut := ⟨type, 0, 0, 7, true, true, 0, [], [], 8, 3⟩

/-- A module with a heartbeat waiting. -/
def queued : Dev := { live with barrier := { live.barrier with hf := { live.barrier.hf with queue := tab (fun c => if c = 0 then [waiting 1] else []) } } }

theorem meets_laneNextMessage : (laneOf .hf queued).recent = [] ∧ (laneOf .hf queued).queue[(0 : Fin 4)] = waiting 1 :: []
    ∧ (typeSpec (waiting 1).type).isSome = true ∧ (∀ c : Fin 4, (laneOf .fh queued).queue[c] = [])
        ∧ (∀ i : Fin 8, queued.log.queue[i] = []) := by decide +kernel

/-- The wall-clock offset on its way to the metrology island. -/
def offsetMsg : TenonOut := tenonItems 0x02 2 2 16 [77, 1] live
/-- A module with that message on lane HF. -/
def sending : Dev := { live with barrier := { live.barrier with hf := { live.barrier.hf with onLane := some offsetMsg } } }

theorem meets_wallClockLands : (laneOf .hf sending).onLane = some offsetMsg ∧ offsetMsg.type = 0x02 ∧ offsetMsg.island = 2
    ∧ offsetMsg.items = [77, 1] ∧ up 2 sending = true := by decide +kernel

theorem meets_headersReadBack : (waiting 1).type < 256 ∧ (waiting 1).session < 256 ∧ (waiting 1).tag < 256 ∧ (waiting 1).island < 16
    ∧ (waiting 1).length < 2048 := by decide +kernel

/-- A message whose CRC is wrong, and one that a later check rejects. -/
def badCrc : TenonMsg := { tenon 1 0 0 7 [] with crc := 0 }
def badType : TenonMsg := tenon 0xFF 0 0 7 []
/-- A module with two CRC failures on lane HF. -/
def failing2 : Dev := { live with barrier := { live.barrier with hf := { live.barrier.hf with crcFails := [0, 0], rxSeq := some 0 } } }

theorem meets_crcRealigns : up (receiverOf .hf) failing2 = true ∧ tenonCheck .hf badCrc failing2 = some 2
    ∧ (laneOf .hf failing2).crcFails = [0, 0] ∧ failing2.time.now < 0 + ms 1 := by decide +kernel

theorem meets_gapsCounted : up (receiverOf .hf) failing2 = true ∧ (tenonCheck .hf badType failing2).isSome = true
    ∧ (tenonCheck .hf badType failing2).all (fun n => decide (3 ≤ n)) = true
    ∧ (tenonCheck .hf (tenon 1 0 0 7 (leBytes 8 1)) failing2) = none ∧ (laneOf .hf failing2).rxSeq = some 0 := by decide +kernel

theorem meets_heartbeat : up 0 live = true ∧ hears .fh 0x01 (tenon 1 0 0 7 (leBytes 8 0x1FF)) live = true ∧ up 7 live = true
    ∧ hears .hf 0x01 (tenon 1 0 0 7 (leBytes 8 0x1FF)) live = true ∧ hears .hf 0x01 (tenon 1 0 0 7 []) live = false := by decide +kernel

/-- A module whose sides see the barrier so. -/
def seen (v : BarrierView) (b : Option Nat) : Dev :=
  { live with barrier := { live.barrier with host := { Fresh.side 0 with view := v, bound := b }, field := { Fresh.side 0 with view := v, bound := b } } }

theorem meets_barrierLoss : up 0 live = true ∧ (sideOf .host (seen .up (some 5))).view = .up
    ∧ (sideOf .host (seen .up (some 5))).bound.isSome = true ∧ (sideOf .field (seen .restartAwaited (some 5))).view = .restartAwaited
    ∧ (sideOf .field (seen .restartAwaited (some 5))).bound = some 5 ∧ (sideOf .host live).view ≠ .lost
        ∧ (sideOf .host live).bound = none := by decide +kernel

theorem meets_sessionNotice : hears .hf 0x07 (tenon 7 0 0 7 (leBytes 4 2)) live = true ∧ (⟨1, false, 0, []⟩ : SessionChange).opening = false
    ∧ (⟨1, true, 0, []⟩ : SessionChange).opening = true ∧ openForOther 1 [7] (opened 2 live) = true
        ∧ openForOther 1 [] live = false := by decide +kernel

/-- A request that arrives over the barrier: a read of the leg references of rail 1. -/
def acrossMsg : TenonMsg := tenon 5 2 9 7 (dictBytes ⟨0x10, 9, 2, 0, 0x1043, 1, []⟩)
/-- Its answer. -/
def acrossAnswer : TenonMsg := tenon 6 2 9 7 (dictBytes ⟨0x90, 9, 2, 0, 0x1043, 1, [3]⟩)
/-- Session 2 awaits the answer to request 9. -/
def awaiting : Dev := { opened 0 live with site := { (opened 0 live).site with
  sessions := upd (opened 0 live).site.sessions 1 (fun x => { x with outstanding := [9] }) } }

theorem meets_dictionaryRequest : hears .hf 0x05 acrossMsg (opened 0 live) = true
    ∧ parseDict acrossMsg.payload = some ⟨0x10, 9, 2, 0, 0x1043, 1, []⟩ ∧ slotOf (hdrSession acrossMsg.header) = some 1
    ∧ ((opened 0 live).site.fieldSession[(1 : Fin 6)]).isSome = true ∧ parseDict (tenon 5 2 9 7 []).payload = none
    ∧ hears .hf 0x05 acrossMsg Dev.reset = false := by decide +kernel

theorem meets_dictionaryResponse : hears .fh 0x06 acrossAnswer awaiting = true
    ∧ parseDict acrossAnswer.payload = some ⟨0x90, 9, 2, 0, 0x1043, 1, [3]⟩ ∧ slotOf (hdrSession acrossAnswer.header) = some 1
    ∧ (awaiting.site.sessions[(1 : Fin 6)]).conn.isSome = true
    ∧ ((awaiting.site.sessions[(1 : Fin 6)]).outstanding).contains (hdrTag acrossAnswer.header) = true ∧ (0x90 : Nat) ≠ 0xA1 := by decide +kernel

/-- A Ridge frame from the safety island for a node of the Eaveline network. -/
def ridgeOut : TenonMsg := tenon 4 0 0 3 (leBytes 8 0x0304 ++ [1, 2, 3])
/-- One for a node of CAN FD 1. -/
def ridgeCan : TenonMsg := tenon 4 0 0 3 (leBytes 8 0x0301 ++ [1, 2, 3])
/-- Both CAN FD controllers enabled, the address held. -/
def bussed : Dev := let d := setNum 0x1201 0x01 1 (setNum 0x1202 0x01 1 live)
  { d with site := { d.site with addr := { d.site.addr with state := .held, id := 4 } } }

theorem meets_ridgeFrameFromSafety : up 0 live = true ∧ hears .fh 0x04 ridgeOut live = true ∧ 8 ≤ ridgeOut.payload.length
    ∧ fieldAt ridgeOut.payload 0 1 = 4 ∧ fieldAt ridgeOut.payload 1 1 = (3 : Fin 24).val ∧ hears .fh 0x04 ridgeCan bussed = true
    ∧ fieldAt ridgeCan.payload 0 1 = (0 : Fin 2).val + 1 ∧ bussed.site.addr.state ≠ .conflict ∧ on bussed (canIdx 0) 0x01 = true
    ∧ (bussed.site.can[(0 : Fin 2)]).urgent.length < 16 := by decide +kernel

/-- A module whose trigger inputs are on. -/
def edgy : Dev := setNum 0x1900 0x06 1 (setNum 0x1900 0x03 1 (setNum 0x1900 0x04 0 live))

theorem meets_snapInEdge : (up 7 edgy && on edgy 0x1900 0x03 && (num edgy 0x1900 0x04 == if true then 0 else 1)) = true
    ∧ oldestSet edgy = some 0 ∧ edgy.snap.lastTrigger = none
    ∧ (up 7 edgy && on edgy 0x1900 0x03 && (num edgy 0x1900 0x04 == if false then 0 else 1)) = false := by decide +kernel

theorem meets_partnerScribeTrigger : (up 7 edgy && on edgy 0x1900 0x06) = true
    ∧ (up 7 Dev.reset && on Dev.reset 0x1900 0x06) = false := by decide +kernel

/-- A module whose newest set is the fourth. -/
def snapped : Dev := { live with snap := { live.snap with newest := some 3, fieldDue := some 3, sets := tab (fun i => { Fresh.snapSet with written := i == 3, latched := tab (fun p => p != 5), stored := tab (fun p => p != 5) }) } }

theorem meets_scribeNotice : hears .fh 0x13 (tenon 0x13 0 0 7 (leBytes 8 3)) snapped = true
    ∧ (receive .fh (tenon 0x13 0 0 7 (leBytes 8 3)) snapped).1.snap.newest = some 3 ∧ up 0 snapped = true ∧ up 5 snapped = true := by decide +kernel

theorem meets_snapshotFragment : hears .fh 0x0E (tenon 0x0E 0 0 7 [1, 2]) snapped = true ∧ hdrLast (tenon 0x0E 0 0 7 [1, 2]).header = true
    ∧ ((receive .fh (tenon 0x0E 0 0 7 [1, 2]) snapped).1.snap.sets[(3 : Fin 8)]).latched[(1 : Fin 8)] = true := by decide +kernel

theorem meets_snapshotFieldStore : snapped.snap.fieldDue = some 3 ∧ live.snap.fieldDue = none := by decide +kernel

theorem meets_snapshotSetValid : setComplete 3 snapped = true ∧ setComplete 2 snapped = false := by decide +kernel

/-- A module whose event queues are full. -/
def busyLog : Dev := { live with log := { live.log with queue := tab (fun _ => List.replicate 32 ⟨.linkFault, 5, [], false⟩), lost := tab (fun _ => 2) } }

theorem meets_eventRaised : up 1 live = true ∧ (live.log.queue[(1 : Fin 8)]).length < 32 ∧ up 1 busyLog = true
    ∧ 32 ≤ (busyLog.log.queue[(1 : Fin 8)]).length ∧ up 5 live = true ∧ up 1 Dev.reset = false := by decide +kernel

theorem meets_eventQueueRoom : 0 < ({ live with log := { live.log with lost := tab (fun _ => 2) } } : Dev).log.lost[(1 : Fin 8)]
    ∧ (live.log.queue[(1 : Fin 8)]).length < 32 ∧ 32 ≤ (busyLog.log.queue[(1 : Fin 8)]).length := by decide +kernel

theorem meets_event : hears .fh 0x0D (tenon 0x0D 0 0 1 [1]) live = true := by decide +kernel

theorem meets_eventLogFlush : live.log.unflushed < 64 := by decide +kernel

/-! Contactors, the spline links, the cards, the legs and synchronisation (chapters 2 and 3). -/

/-- A module whose tie 2, outlet 3 and brick 4 contactors are in travel, commanded closed, with contacts that read so, or open. -/
def travelling (closed : Bool) : Dev :=
  let c : Contactor := { Fresh.contactor with cmd := true, want := true, travel := some 5 }
  onContactor (.tie 2) (fun _ => c) (onContactor (.outlet 3) (fun _ => c) (onContactor (.brick 4) (fun _ => c)
    { live with brick := tab (fun _ => { Fresh.brick with link := .up, fresh := true, aux := tab (fun _ => ⟨closed, 7, closed⟩) }) }))

theorem meets_contactorTravelConfirmed :
    (∀ x ∈ ([.tie 2, .outlet 3, .brick 4] : List ContactorId), ((contactor x (travelling true)).travel.isSome
        && reporting x (travelling true) != [] && (reporting x (travelling true)).all (fun a => a.raw == (contactor x
        (travelling true)).cmd)) = true) := by decide +kernel

theorem meets_contactorTravelFault :
    (∀ x ∈ ([.tie 2, .outlet 3, .brick 4] : List ContactorId), (contactor x (travelling false)).travel = some 5
        ∧ contactsReport x (contactor x (travelling false)).cmd (travelling false) = false) := by decide +kernel

/-- A module whose bricks' contacts differ. -/
def disagreeing : Dev := { live with brick := tab (fun k => { Fresh.brick with aux := tab (fun _ => ⟨k.val % 2 == 0, 7, false⟩) }) }

theorem meets_contactDisagreement : contacts (.outlet 3) disagreeing = [⟨true, 7, false⟩, ⟨false, 7, false⟩]
    ∧ contacts (.tie 2) disagreeing = [⟨false, 7, false⟩, ⟨true, 7, false⟩]
        ∧ (contactor (.outlet 3) disagreeing).disagree = false := by decide +kernel

/-- A brick uplink frame with the next count. -/
def upFrame : BrickUp :=
  let f : BrickUp := ⟨true, 0x8001, 0, tab (fun _ => 9), 500, 600, 700, 80, tab (fun _ => 0), 0, 0, 0, 0, 0⟩
  { f with crc := crc16 (brickUpBytes f) }
/-- An axis uplink frame with the next count. -/
def axisFrame : AxisUp :=
  let f : AxisUp := ⟨true, 0x9001, 0, tab (fun _ => 9), tab (fun _ => 0), 0, 0⟩
  { f with crc := crc16 (axisUpBytes f) }

theorem meets_uplinkDeadline : up 1 live = true ∧ brickUpGood upFrame live = true ∧ brickUpGood { upFrame with crc := 0 } live = false
    ∧ axisUpGood axisFrame live = true ∧ axisUpGood { axisFrame with crc := 0 } live = false ∧ (5 : Fin 28).val = (5 : Fin 24).val
    ∧ (26 : Fin 28).val = 24 + (2 : Fin 4).val := by decide +kernel

/-- A module without uplinks. -/
def missing : Dev := { live with brick := tab (fun _ => { Fresh.brick with link := .up, missing := 1000 }) }

theorem meets_linkHoldExpiry : nat missing 0x2301 0x06 ≤ (missing.brick[(5 : Fin 24)]).missing
    ∧ (missing.brick[(5 : Fin 24)]).link ≠ .lost := by decide +kernel

/-- A module whose links have had 100 good frames. -/
def starting : Dev := { live with brick := tab (fun _ => { Fresh.brick with link := .starting, goodRun := 100 }), drive := tab (fun _ => { Fresh.drive with link := .starting, goodRun := 100 }) }

theorem meets_brickLinkUp : (starting.brick[(5 : Fin 24)]).link = .starting ∧ 100 ≤ (starting.brick[(5 : Fin 24)]).goodRun
    ∧ (starting.brick[(5 : Fin 24)]).fibreRefused = false ∧ (starting.drive[(2 : Fin 4)]).link = .starting
    ∧ 100 ≤ (starting.drive[(2 : Fin 4)]).goodRun ∧ (starting.drive[(2 : Fin 4)]).fibreRefused = false := by decide +kernel

/-- A module with a leg in LOST. -/
def lostLeg : Dev := onLeg 7 (fun l => { l with state := .lost, goodSince := some 5 }) live

theorem meets_legLostRecovery : (lostLeg.leg[(7 : Fin 96)]).goodSince = some 5 ∧ (lostLeg.leg[(7 : Fin 96)]).state = .lost
    ∧ (lostLeg.brick[brickOf 7]).missing = 0 := by decide +kernel

theorem meets_portDelayMeasurement : (5 : Fin 28).val = (5 : Fin 24).val
    ∧ 200 < divRound (((641 + 240 : Nat) : Int) - 240 + (live.brick[(5 : Fin 24)]).delay[myPort live]) 2
    ∧ divRound (((440 : Nat) : Int) - 240 + (live.brick[(5 : Fin 24)]).delay[myPort live]) 2 ≤ 200 := by decide +kernel

/-- A downlink frame for a brick card, as a command or as a shadow frame. -/
def downFrame (type epoch : Nat) : Downlink :=
  let f : BrickDown := ⟨true, false, BitVec.ofNat 16 (type * 4096 + 1), BitVec.ofNat 32 epoch, tab (fun _ => 3), 0, 0, 0⟩
  .brick { f with crc := crc16 (brickDownBytes f) }
/-- A module whose card 5 has taken commands of epoch 4 from port 1. -/
def held5 : Dev := onCard 5 (fun c => { c with authority := some 0, highest := 4 }) live

theorem meets_downlinkFrameAccept : (downView 5 (downFrame 1 4)).good = true
    ∧ ((held5.card[(5 : Fin 28)]).authority = none ∨ frameCount (downView 5 (downFrame 1 4)).header = (held5.card[(5 : Fin 28)]).count + 1)
    ∧ (downView 5 (downFrame 1 4)).command = true ∧ (held5.card[(5 : Fin 28)]).highest < (downView 5 (downFrame 1 5)).epoch
    ∧ (held5.card[(5 : Fin 28)]).highest = (downView 5 (downFrame 1 4)).epoch ∧ (held5.card[(5 : Fin 28)]).authority = some 0
    ∧ (held5.card[(5 : Fin 28)]).authority = some (1 - 1) ∧ (downView 5 (downFrame 2 4)).command = false := by decide +kernel

/-- The same with a frame taken. -/
def fed : Dev := onCard 5 (fun c => { c with next := some (tab (fun _ => 3)) }) held5

theorem meets_cardDownlinkDeadline : (fed.card[(5 : Fin 28)]).next.isSome = true ∧ (held5.card[(5 : Fin 28)]).next = none := by decide +kernel

/-- A module whose card 5 misses commands. -/
def holding : Dev := onCard 5 (fun c => { c with miss := 1, low := 3 }) live

theorem meets_cardContactorHold : 1 ≤ (holding.card[(5 : Fin 28)]).miss ∧ 3 ≤ (holding.card[(5 : Fin 28)]).low := by decide +kernel

theorem meets_serviceRequest : ((0x000005 : BitVec 24).extractLsb' 16 7).toNat = 0 ∧ (0x100000 : BitVec 24).getLsbD 23 = false
    ∧ serviceValue 5 (held5.card[(5 : Fin 28)]) 0x10 = some 1100 ∧ (0x9000C8 : BitVec 24).getLsbD 23 = true
    ∧ serviceRange ((0x9000C8 : BitVec 24).extractLsb' 16 7).toNat = some (100, 1200) ∧ (held5.card[(5 : Fin 28)]).authority = some 0
    ∧ 100 ≤ ((0x9000C8 : BitVec 24).extractLsb' 0 16).toNat ∧ serviceRange ((0x8100C8 : BitVec 24).extractLsb' 16 7).toNat = none := by decide +kernel

/-- A module that follows SYNC_IN. -/
def slaved : Dev := { setNum 0x2300 0x01 1 live with sync := { Fresh.sync with inside := 15, state := .locked, lastEdge := some 5 } }

theorem meets_syncInEdge : up 1 slaved = true ∧ num slaved 0x2300 0x01 = 1
    ∧ edgeOffRate (5 + nat slaved 0x2300 0x02 * 1000) slaved = false := by decide +kernel

theorem meets_syncLoss : slaved.sync.state = .locked ∧ live.sync.state ≠ .locked := by decide +kernel

/-- A module with light load. -/
def shedding : Dev := onSeg 3 (fun s => { s with shedSince := some 5 }) (onLeg 13 (fun l => { l with state := .active, belowBd := 10 })
    (setNum 0x2310 0x07 1 live))

theorem meets_diodeEmulationEntry : (shedding.leg[(13 : Fin 96)]).state = .active ∧ 10 ≤ (shedding.leg[(13 : Fin 96)]).belowBd
    ∧ on shedding 0x2310 0x07 = true := by decide +kernel

theorem meets_shedDwellExpiry : shedding.ring.group[(3 : Fin 12)] = 3 ∧ shedding.ring.head[(3 : Fin 12)] = 3
    ∧ (shedding.ring.seg[(3 : Fin 12)]).shedSince = some 5 := by decide +kernel

/-- A module with two legs braking. -/
def braking : Dev := onLeg 13 (fun l => { l with state := .braking, current := 51 }) (onLeg 12
    (fun l => { l with state := .braking, current := 50 }) live)

theorem meets_brakingWindowEnd :
    (∀ n ∈ ([12, 13] : List (Fin 96)), (braking.leg[n]).state = .braking ∧ (braking.leg[n]).awaiting = false
        ∧ (braking.brick[brickOf n]).missing = 0) := by decide +kernel

/-- A module with an implausible leg. -/
def implausible : Dev := onLeg 13 (fun l => { l with implausible := 100 }) live

theorem meets_senseImplausible : 100 ≤ (implausible.leg[(13 : Fin 96)]).implausible
    ∧ (implausible.leg[(13 : Fin 96)]).state ≠ .lost := by decide +kernel


/-! Rails, the control period, the allocator and its moves (chapters 4 to 6). -/

/-- A module whose rail 3 is in this state and episode. -/
def railIn (st : RailState) (ep : Episode) : Dev := onRail 3 (fun r => { r with state := st, episode := ep, missing := 10 }) live

theorem meets_startSettleExpiry : ((railIn .precharging .start).rail[(3 : Fin 12)]).episode ≠ .none := by decide +kernel

theorem meets_trackingTimeout : ((railIn .precharging .coincidentTie).rail[(3 : Fin 12)]).episode = .coincidentTie := by decide +kernel

/-- A module whose ratiometric episode stands. -/
def frozenEp : Dev := { live with ratio := upd live.ratio 3 (fun _ => some ⟨tab (fun i => i == 3), 500, 10, 0, tab (fun _ => 0), 0, 1000000000, false⟩) }

/-- A module without a measured voltage on a rail. -/
def lostSense : Dev := onRail 3 (fun r => { r with missing := 1000 }) live

theorem meets_ratiometricPauseLimit :
    frozenEp.ratio[(3 : Fin 12)] = some ⟨tab (fun i => i == 3), 500, 10, 0, tab (fun _ => 0), 0, 1000000000, false⟩
    ∧ ms (nat frozenEp (railIdx 3 4) 0x06) ≤ 1000000000 * period := by decide +kernel

theorem meets_drainTimeout : ((railIn .draining .stop).rail[(3 : Fin 12)]).state = .draining
    ∧ ((railIn .draining .stop).rail[(3 : Fin 12)]).stopHeld = false := by decide +kernel

theorem meets_episodePause : 10 ≤ ((railIn .precharging .start).rail[(3 : Fin 12)]).missing
    ∧ ((railIn .precharging .start).rail[(3 : Fin 12)]).episode ≠ .none := by decide +kernel

theorem meets_railSenseLost : ms 10 ≤ (lostSense.rail[(3 : Fin 12)]).missing * period ∧ (lostSense.rail[(3 : Fin 12)]).state ≠ .joined
    ∧ ms 10 ≤ ((onRail 3 (fun r => { r with state := .joined }) lostSense).rail[(3 : Fin 12)]).missing * period := by decide +kernel

/-- A module whose slot 7 was in error in the last period. -/
def eccOnce : Dev := { live with eng := { live.eng with faulted := [7] } }

theorem meets_controlPeriod : up 1 live = true
    ∧ (([(7, true), (8, false)] : List (Fin 136 × Bool)).filter (fun x => x.2)).map Prod.fst = [7]
    ∧ ([7] : List (Fin 136)).any (fun x => live.eng.faulted.contains x) = false
    ∧ ([7] : List (Fin 136)).any (fun x => eccOnce.eng.faulted.contains x) = true := by decide +kernel

/-- A module with a generator that starts late. -/
def delayed : Dev := onGen 24 (fun g => { g with due := some 9 }) live

theorem meets_generatorStartDelayExpiry : (delayed.eng.gen[(24 : Fin 28)]).due = some 9 := by decide +kernel

/-- A module whose axis 3 is behind. -/
def following : Dev := onAxis 3 (fun a => { a with follow := 100000 }) live

theorem meets_followingErrorTimer : nat following (axisIdx 3) 0x08 ≤ (following.eng.axis[(3 : Fin 12)]).follow
    ∧ (following.eng.axis[(3 : Fin 12)]).flag = false := by decide +kernel

/-- A module whose injection is at its last sample. -/
def injecting : Dev := onInj 0 (fun x => { x with state := .measuring, n := 2 ^ 40 }) live

theorem meets_injectionEnd : injRunning 0 injecting = true ∧ injTotal 0 injecting ≤ (injecting.eng.inj[(0 : Fin 2)]).n := by decide +kernel

/-- A module that has planned. -/
def planned : Dev := onAlloc (fun a => { a with next := some Fresh.plan, cycle := some 7, writtenAt := some 7, surplusSince := tab (fun _ => some 7), front := tab (fun i => ⟨9, 9, 5, some 7, i == 1, false⟩) }) { live with ring := { live.ring with restart := false } }

theorem meets_planningCycle : up 1 planned = true ∧ planned.ring.restart = false ∧ live.ring.restart = true := by decide +kernel

theorem meets_planningOverrun : planned.alloc.next = some Fresh.plan ∧ planned.alloc.cycle = some 7 := by decide +kernel

theorem meets_gridLimitExpiry : planned.alloc.writtenAt = some 7 := by decide +kernel

theorem meets_frontEndStale : (planned.alloc.front[(0 : Fin 8)]).at_ = some 7 ∧ (planned.alloc.front[(0 : Fin 8)]).stale = false := by decide +kernel

theorem meets_frontEndStaleHoldExpiry : (planned.alloc.front[(1 : Fin 8)]).at_ = some 7
    ∧ (planned.alloc.front[(1 : Fin 8)]).stale = true := by decide +kernel

theorem meets_sitePowerData : hears .hf 0x0B (tenon 0x0B 0 0 1 []) live = true ∧ up 1 live = true := by decide +kernel

theorem meets_releaseHoldExpiry : planned.alloc.surplusSince[(3 : Fin 12)] = some 7 := by decide +kernel

/-- A move of this kind, state and phase, of tie 3 or brick 3. -/
def aMove (kind : MoveKind) (st : MoveState) (ph : MovePhase) : PlanMove := ⟨kind, st, ph, .none, 3, 3, 4, [], 5, 6, 7, some 24, false, false,
    .none, 0, 10⟩
/-- A module whose plan is that move, its generator at rest at its target. -/
def moving (m : PlanMove) : Dev := onGen 24 (fun g => { g with user := .allocator })
  (onAlloc (fun a => { a with plan := { a.plan with moves := [m] } }) { live with ring := { live.ring with restart := false }, brick := tab (fun _ => { Fresh.brick with link := .up }) })

theorem meets_moveStart : up 1 (moving (aMove .restore .queued .none)) = true
    ∧ moveAt (0 : Fin 16).val (moving (aMove .restore .queued .none)) = some (aMove .restore .queued .none)
    ∧ mayBegin (0 : Fin 16).val (aMove .restore .queued .none) (moving (aMove .restore .queued .none)) = true := by decide +kernel

theorem meets_handoverEnd :
    (∀ kind ∈ ([.split, .isolate, .shedLegs, .join, .addLegs] : List MoveKind),
        moveAt (0 : Fin 16).val (moving (aMove kind .running .handover)) = some (aMove kind .running .handover))
    ∧ genAtTarget 24 (moving (aMove .split .running .handover)) = true
    ∧ (activeLegs (segOf 3 (moving (aMove .split .running .handover))) (moving (aMove .split .running .handover))).countP (fun x =>
        (aMove .split .running .handover).group.contains x) = 0 := by decide +kernel

theorem meets_handoverTimeout :
    (∀ st ∈ ([.running, .reversing] : List MoveState),
        moveAt (0 : Fin 16).val (moving (aMove .split st .handover)) = some (aMove .split st .handover)) := by decide +kernel

theorem meets_openWaitLimit :
    (∀ st ∈ ([.running, .reversing] : List MoveState),
        moveAt (0 : Fin 16).val (moving (aMove .split st .openWait)) = some (aMove .split st .openWait)) := by decide +kernel

theorem meets_restoreWaitLimit :
    moveAt (0 : Fin 16).val (moving (aMove .restore .running .permitWait)) = some (aMove .restore .running .permitWait)
    ∧ underWay (aMove .restore .running .permitWait) = true := by decide +kernel

/-! Outlets, vehicle sessions, heads and cooling (chapter 7). -/

/-- A module whose outlet 3 is in this state, with this step of its cable check. -/
def outIn (st : OutState) (step : CheckStep) : Dev := onOut 3 (fun o => { o with state := st, step := step, conn := 1 }) live

theorem meets_connectionDetected : noNewSession (outIn .idle .wait) = false ∧ ((outIn .idle .wait).out[(3 : Fin 12)]).state = .idle
    ∧ ((outIn .idle .wait).out[(3 : Fin 12)]).conn = 1 ∧ fxWaits (outIn .idle .wait) = false := by decide +kernel

/-- A module whose outlet 3 has ended and is not connected. -/
def unplugged : Dev := onOut 3 (fun o => { o with state := .ended }) live

theorem meets_unplugDetected : (unplugged.out[(3 : Fin 12)]).state = .ended ∧ (unplugged.out[(3 : Fin 12)]).conn = 0 := by decide +kernel

theorem meets_plugTimeout : ((outIn .plugged .wait).out[(3 : Fin 12)]).state = .plugged := by decide +kernel

theorem meets_targetTimeout :
    (inCharge ((outIn .delivering .passed).out[(3 : Fin 12)]).state && ((outIn .delivering .passed).out[(3 : Fin 12)]).swHold.isNone
        && (outIn .delivering .passed).barrier.field.view != .restartAwaited) = true := by decide +kernel

/-- A module in a switch-over hold. -/
def overHold : Dev := onOut 3 (fun o => { o with swHold := some 7 }) (outIn .delivering .passed)

theorem meets_switchOverTargetHoldExpiry : (overHold.out[(3 : Fin 12)]).swHold = some 7
    ∧ inCharge (overHold.out[(3 : Fin 12)]).state = true := by decide +kernel

/-- A vehicle target update for outlet 3. -/
def targetMsg (count : Nat) : TenonMsg :=
  tenon 8 0 0 1 (leBytes 4 3 ++ leBytes 4 4000000 ++ leBytes 2 500 ++ leBytes 4 1200 ++ leBytes 4 9000000 ++ leBytes 4 1500000
    ++ leBytes 4 3990000 ++ leBytes 8 0 ++ leBytes 4 count ++ leBytes 10 1)
/-- Outlet 3 in the handshake, the last update being number 4. -/
def updated : Dev := onOut 3 (fun o => { o with state := .handshake, updCount := some 4 }) live

theorem meets_vehicleTargetUpdate : hears .hf 0x08 (targetMsg 5) updated = true ∧ up 1 updated = true
    ∧ fieldAt (targetMsg 5).payload 0 1 = (3 : Fin 12).val ∧ updateBad 3 (targetMsg 5).payload updated = false
    ∧ hears .hf 0x08 (targetMsg 4) updated = true ∧ updateBad 3 (targetMsg 4).payload updated = true := by decide +kernel

theorem meets_outletStatus : hears .fh 0x09 (tenon 9 0 0 1 (leBytes 32 3)) live = true ∧ up 0 live = true
    ∧ fieldAt (tenon 9 0 0 1 (leBytes 32 3)).payload 0 1 = (3 : Fin 12).val := by decide +kernel

/-- A module with a vehicle session. -/
def paired3 : Dev := onVehicle 3 (fun v => { v with protocol := 3, pendingSince := some 7 }) (setNum 0x3100 0x03 1 (setNum 0x3100 0x01 255
    (setNum 0x3100 0x02 0 live)))

theorem meets_vehicleMessage : up 0 live = true ∧ (selectProtocol 3 [1, 2, 3] false live).isSome = true
    ∧ selectProtocol 3 [] false live = none ∧ (paired3.vehicle[(3 : Fin 12)]).protocol ≠ 0 ∧ on paired3 0x3100 0x03 = true
    ∧ ¬ (1 = 1 ∧ 48 ≤ paired3.metro.ring.length) := by decide +kernel

theorem meets_authorizationTimeout : (paired3.vehicle[(3 : Fin 12)]).pendingSince = some 7 := by decide +kernel

/-- A module that may start a cable check. -/
def railFree : Dev := onLeg 24 (fun l => { l with state := .standby }) (outIn .cableCheck .wait)

theorem meets_cableCheckRailReady : (railFree.out[(3 : Fin 12)]).state = .cableCheck ∧ (railFree.out[(3 : Fin 12)]).step = .wait
    ∧ (railFree.rail[(3 : Fin 12)]).state = .free ∧ (members (segOf 3 railFree) railFree).length = 1 ∧ hasLegs 3 railFree = true
    ∧ startRefusal 3 railFree = none := by decide +kernel

/-- A module whose outlet 3 holds its cable for a reading, and has this one. -/
def reads (kohm st : Nat) : Dev := onOut 3 (fun o => { o with imd := some ⟨kohm, st, 900000000⟩ }) (outIn .cableCheck .hold)

theorem meets_imdSettleExpiry : ((reads 65535 1).out[(3 : Fin 12)]).state = .cableCheck ∧ ((reads 65535 1).out[(3 : Fin 12)]).step = .hold
    ∧ ((reads 65535 1).out[(3 : Fin 12)]).imd = some ⟨65535, 1, 900000000⟩ ∧ insulClass 3 ⟨65535, 1, 900000000⟩ (reads 65535 1) ≠ 3
    ∧ insulClass 3 ⟨0, 3, 900000000⟩ (reads 0 3) = 3
    ∧ (¬ ((900000000 : Int) - (reads 65535 1).time.base ≤ ((reads 65535 1).out[(3 : Fin 12)]).stepAt ∨ (900000000 : Int) + sec (nat
        (reads 65535 1) (outIdx 3 2) 0x11) < siteTime (reach (max (reads 65535 1).time.now (((reads 65535 1).out[(3 : Fin 12)]).stepAt + ms (nat
        (reads 65535 1) (outIdx 3 2) 0x03))) (reads 65535 1))))
    ∧ ((outIn .cableCheck .hold).out[(3 : Fin 12)]).imd = none := by decide +kernel

theorem meets_cableCheckTimeout : ((reads 0 3).out[(3 : Fin 12)]).step ≠ .passed := by decide +kernel

/-- A module whose cable is short. -/
def shorted : Dev := onOut 3 (fun o => { o with shortTicks := 1000000000 }) (outIn .cableCheck .closing)

theorem meets_cableShort : (shorted.out[(3 : Fin 12)]).state = .cableCheck
    ∧ ms (nat shorted (outIdx 3 2) 0x06) < (shorted.out[(3 : Fin 12)]).shortTicks * period := by decide +kernel

theorem meets_imdReading : ((outIn .delivering .passed).out[(3 : Fin 12)]).step = .passed
    ∧ inCharge ((outIn .delivering .passed).out[(3 : Fin 12)]).state = true
        ∧ insulClass 3 ⟨0, 3, 5⟩ (outIn .delivering .passed) = 3 := by decide +kernel

theorem meets_imdAgeExpiry : ((outIn .delivering .passed).out[(3 : Fin 12)]).step = .passed
    ∧ inCharge ((outIn .delivering .passed).out[(3 : Fin 12)]).state = true := by decide +kernel

/-- A module whose outlet 3 turns. -/
def turning : Dev := onOut 3 (fun o => { o with turning := true, fast := some (5, 7) }) (outIn .delivering .passed)

theorem meets_directionChangeComplete : (turning.out[(3 : Fin 12)]).turning = true ∧ (turning.eng.gen[outletGen 3]).p = 0
    ∧ (turning.eng.gen[outletGen 3]).state = .rest := by decide +kernel

theorem meets_fastStopEnd : (turning.out[(3 : Fin 12)]).fast = some (5, 7) := by decide +kernel

/-- A module whose outlet 3 carries nothing. -/
def atRest : Dev := onSafety (fun s => { s with fb := tab (fun _ => ⟨true, 7, true⟩) }) <| onOut 3
    (fun o => { o with lows := 3, dead := 3, stopDue := true }) (outIn .weldCheck .passed)

theorem meets_outletContactorOpen : ((outIn .faulted .wait).out[(3 : Fin 12)]).state = .faulted
    ∧ ((outIn .faulted .wait).out[(3 : Fin 12)]).lows < 3
    ∧ 3 ≤ ((onOut 3 (fun o => { o with state := .winddown }) atRest).out[(3 : Fin 12)]).lows := by decide +kernel

theorem meets_faultedRailStop : ((atRest.out[(3 : Fin 12)]).stopDue && !outletClosed 3 atRest) = true := by decide +kernel

theorem meets_winddownTimeout : ((outIn .winddown .passed).out[(3 : Fin 12)]).state = .winddown := by decide +kernel

theorem meets_weldCheckPass : (atRest.out[(3 : Fin 12)]).state = .weldCheck ∧ 3 ≤ (atRest.out[(3 : Fin 12)]).dead := by decide +kernel

theorem meets_cableDischargeExpiry : (atRest.out[(3 : Fin 12)]).state = .weldCheck := by decide +kernel

/-- A module whose outlet 3 has a head node. -/
def headed : Dev := setNum (outIdx 3 1) 0x05 15 (onOut 3
    (fun o => { o with headAt := some 7, headStale := false, flowLow := some 7, flowOk := some 7, flowFault := true, runOn := some 7 }) live)

theorem meets_headData : hears .hf 0x17 (tenon 0x17 0 0 1 []) headed = true ∧ up 1 headed = true
    ∧ (all 12).find? (fun k => num headed (outIdx k 1) 0x05 == 15) = some 3 := by decide +kernel

theorem meets_headStale : (headed.out[(3 : Fin 12)]).headAt = some 7 ∧ (headed.out[(3 : Fin 12)]).headStale = false
    ∧ headed.barrier.field.view ≠ .restartAwaited := by decide +kernel

theorem meets_deratingUpdate : up 1 live = true := by decide +kernel

theorem meets_flowFault : pumpTripped 3 headed = false ∧ (headed.out[(3 : Fin 12)]).flowLow = some 7 := by decide +kernel

theorem meets_flowFaultClear : (headed.out[(3 : Fin 12)]).flowOk = some 7 ∧ (headed.out[(3 : Fin 12)]).flowFault = true := by decide +kernel

theorem meets_runOnExpiry : (headed.out[(3 : Fin 12)]).runOn = some 7 := by decide +kernel


/-! The metering link, registers, pulses, sessions, records and saves (chapter 8). -/

/-- A module whose metrology meters. -/
def metered : Dev := setNum 0x3800 0x01 1 live

/-- A good uplink frame of a head. -/
def meterFrame : MeterUp :=
  let f : MeterUp := ⟨true, 0xC000, 8, tab (fun _ => 9), tab (fun _ => 9), 250, 0, 0, 0⟩
  { f with crc := crc32 (meterUpBytes f) }

theorem meets_meteringUplinkFrame : metering metered = true ∧ meterUpGood meterFrame = true
    ∧ meterUpGood { meterFrame with crc := 0 } = false ∧ (metered.metro.meter[(3 : Fin 12)]).expect = none
    ∧ rateFault (measureInterval meterFrame.count 25000 (metered.metro.meter[(3 : Fin 12)])) = false := by decide +kernel

theorem meets_meteringDownlinkFrame : metering metered = true := by decide +kernel

/-- A module with a link that is lost and one that comes. -/
def linkLost : Dev := onMeter 3 (fun x => { x with link := true, missRun := 40 }) (onMeter 4
    (fun x => { x with goodRun := 400, head := tab (fun _ => some 5) }) metered)

theorem meets_meteringLinkDown : (linkLost.metro.meter[(3 : Fin 12)]).link = true
    ∧ 40 ≤ (linkLost.metro.meter[(3 : Fin 12)]).missRun := by decide +kernel

theorem meets_meteringLinkUp : ((linkLost.metro.meter[(4 : Fin 12)]).head[(4 : Fin 8)]).isSome = true
    ∧ (linkLost.metro.meter[(4 : Fin 12)]).link = false ∧ 400 ≤ (linkLost.metro.meter[(4 : Fin 12)]).goodRun := by decide +kernel

theorem meets_meteringIntervalEnd : metering metered = true := by decide +kernel

/-- A module with pulses due. -/
def pulsing : Dev := onPulse 5 (fun p => { p with backlog := 2, edges := [7, 9] }) metered

theorem meets_pulseBacklogIssue : (pulsing.metro.pulse[(5 : Fin 8)]).backlog ≠ 0 := by decide +kernel

theorem meets_testPulseEdge : (5 : Fin 8).val = 4 + (1 : Fin 4).val ∧ (pulsing.metro.pulse[(5 : Fin 8)]).edges = [7, 9] := by decide +kernel

theorem meets_outletStatusCopy : metering metered = true ∧ (metered.metro.meter[(3 : Fin 12)]).copy = none
    ∧ (metered.metro.meter[(3 : Fin 12)]).session = none := by decide +kernel

/-- A metering session of outlet 3. -/
def aSession : MSession := ⟨4, .meter, false, 5, 0, 0, 0, none, 0, 0, false, false, false⟩
/-- A module in a metering session, with a copy that opens one on outlet 4 and one that closes it, and records to sign and acknowledge. -/
def sessions3 : Dev :=
  onMetro (fun x => { x with keyNo := some 1, toSign := [⟨3, 1, 0, aSession, 9, 0, 0, 0, 1, [], []⟩], ring := [⟨7, leBytes 32 7, some 5⟩], aligned := true })
    (onMeter 3 (fun x => { x with session := some aSession, closing := some 7, copy := some (5, 7, true) })
      (onMeter 4 (fun x => { x with opening := some (7, true), copy := some (5, 7, false) })
        (onMeter 5 (fun x => { x with copy := some (5, 7, false), goodRun := 1 }) metered)))

theorem meets_meteringSessionOpen : metering sessions3 = true ∧ mayMeter sessions3 = true
    ∧ (sessions3.metro.meter[(4 : Fin 12)]).opening = some (7, true) := by decide +kernel

theorem meets_meteringSessionClose : (sessions3.metro.meter[(3 : Fin 12)]).closing = some 7
    ∧ (sessions3.metro.meter[(3 : Fin 12)]).session = some aSession := by decide +kernel

theorem meets_lateStartWitness : (sessions3.metro.meter[(5 : Fin 12)]).copy = some (5, 7, false) ∧ sessionState 5 = true
    ∧ sessions3.metro.aligned = true ∧ (sessions3.metro.meter[(5 : Fin 12)]).session = none
    ∧ (sessions3.metro.meter[(5 : Fin 12)]).opening = none ∧ 0 < (sessions3.metro.meter[(5 : Fin 12)]).goodRun := by decide +kernel

theorem meets_recordSigned : sessions3.metro.keyNo = some 1 ∧ sessions3.metro.toSign = ⟨3, 1, 0, aSession, 9, 0, 0, 0, 1, [], []⟩ :: []
    ∧ up 2 sessions3 = true ∧ 2 ≤ lifeOf sessions3 ∧ sessions3.metro.ring.length < 64 := by decide +kernel

theorem meets_meteringRecord : hears .fh 0x10 (tenon 0x10 0 0 2 (leBytes 40 7)) live = true ∧ up 0 live = true := by decide +kernel

theorem meets_meteringRecordAcknowledge : hears .hf 0x11 (tenon 0x11 0 0 2 (leBytes 8 7)) live = true ∧ up 2 live = true := by decide +kernel

theorem meets_meteringRecordRetransmit : up 2 sessions3 = true
    ∧ sessions3.metro.ring.find? (fun x => x.seq == 7) = some ⟨7, leBytes 32 7, some 5⟩
        ∧ live.metro.ring.find? (fun x => x.seq == 7) = none := by decide +kernel

/-- A module warned of a power fail. -/
def failing : Dev := onMetro (fun x => { x with warned := some 7, window := some 7 }) metered

theorem meets_periodicSave : metering metered = true ∧ metered.metro.warned = none := by decide +kernel

theorem meets_finalWriteStart : failing.metro.warned.isSome = true ∧ metering failing = true ∧ failing.metro.finalDone = false := by decide +kernel

/-- A module whose metrology starts. -/
def meterStart : Dev := setNum 0x3800 0x01 0 live

theorem meets_metrologyStartClose : meterStarting meterStart = true := by decide +kernel

theorem meets_metrologyRestartContinuation : meterStarting meterStart = true := by decide +kernel

theorem meets_metrologyWindowExpiry : failing.metro.window = some 7 := by decide +kernel

theorem meets_powerFailNotice : metering metered = true := by decide +kernel


/-! Safety (chapter 9). -/

/-- A module whose safety island is in RUN. -/
def guarded : Dev := setNum 0x4000 0x01 1 live

theorem meets_safetyCycle : safetyRuns guarded = true ∧ up 3 live = true ∧ safetyRuns live = false := by decide +kernel

theorem meets_safetyInputSample : up 3 live = true ∧ up 3 Dev.reset = false := by decide +kernel

/-- A module whose safety input 4 differs. -/
def differing : Dev := onInput 3 (fun x => { x with differs := some 7 }) live

theorem meets_discrepancyTimeout : (differing.safety.input[(3 : Fin 8)]).differs = some 7
    ∧ (differing.safety.input[(3 : Fin 8)]).fault = false ∧ up 3 differing = true := by decide +kernel

/-- A module whose core 0 has its switches on, and output 4 dark. -/
def dark : Dev := onCore 0 (fun x => { x with on := tab (fun _ => true), dark := tab (fun o => if o = 4 then some 7 else none) }) guarded

theorem meets_darkPulseTest : (1 : Fin 2) ≠ 0 ∧ safetyRuns dark = true ∧ (dark.safety.core[(0 : Fin 2)]).on[(3 : Fin 16)] = true
    ∧ (dark.safety.core[(0 : Fin 2)]).dark[(3 : Fin 16)] = none ∧ (dark.safety.core[(1 : Fin 2)]).lastDark[(3 : Fin 16)] = none ∧ 300 ≤ 300
    ∧ 300 < 301 := by decide +kernel

theorem meets_darkPulseTimeout : (dark.safety.core[(0 : Fin 2)]).dark[(4 : Fin 16)] = some 7 := by decide +kernel

theorem meets_coreDisagreement : (1 : Fin 4) = 1 ∧ safetyRuns guarded = true := by decide +kernel

theorem meets_safetySelfTestComplete : (up 3 (setNum 0x4000 0x01 0 live) && num (setNum 0x4000 0x01 0 live) 0x4000 0x01 == 0) = true
    ∧ live.safety.leafValid = true ∧ (onSafety (fun x => { x with leafValid := false }) live).safety.leafValid = false := by decide +kernel

/-- A module whose instances wait for the current. -/
def waits : Dev := onSafety (fun x => { x with fbTimer := tab (fun _ => some (7, true)) }) (onCore 0
    (fun x => { x with inst := tab (fun _ => .currentWait) }) guarded)

theorem meets_currentWaitTimeout : (5 : Fin 16).val = (5 : Fin 12).val
    ∧ (waits.safety.core[(0 : Fin 2)]).inst[(5 : Fin 16)] = .currentWait := by decide +kernel

theorem meets_feedbackTimerEnd : waits.safety.fbTimer[(5 : Fin 12)] = some (7, true) := by decide +kernel
/-- A module whose Ridge connections are used, with consumer 2 in this state after this frame. -/
def ridged (st : RidgeState) (last : List Byte) : Dev :=
  onConsumer 2 (fun x => { x with state := st, lastFrame := last, lastSeq := 4 })
    (onProducer 2 (fun x => { x with seq := 4, frame := some [1] })
      ([conIdx 2, prodIdx 2].foldl (fun d i => setNum i 0x01 1 (setNum i 0x04 77 (setNum i 0x05 20 d))) guarded))
/-- A Ridge frame for consumer 2. -/
def ridgeIn (flags seq : Nat) : TenonMsg := tenon 3 0 0 3 (leBytes 8 0x0200 ++ ridgeFrame 1 flags seq 20 77 [1, 2, 3, 4])
/-- A Ridge acknowledge for producer 2. -/
def ridgeAck (seq : Nat) : TenonMsg := tenon 3 0 0 3 (leBytes 8 0x1200 ++ ridgeFrame 2 0 seq 20 77 [])

theorem meets_ridgeFrameToSafety : hears .hf 0x03 (ridgeIn 0x80 1) (ridged .waiting []) = true ∧ up 3 (ridged .waiting []) = true
    ∧ ridgeByte (ridgeIn 0x80 1).payload 1 = (2 : Fin 16).val ∧ on (ridged .waiting []) (conIdx 2) 0x01 = true
    ∧ ridgeChecks 1 4 (conIdx 2) ((ridgeIn 0x80 1).payload.drop 8) (ridged .waiting []) = none
    ∧ ((ridged .waiting []).safety.consumer[(2 : Fin 16)]).state = .waiting ∧ ridgeRestart ((ridgeIn 0x80 1).payload.drop 8) = true
    ∧ ridgeSeq ((ridgeIn 0x80 1).payload.drop 8) = 1 ∧ hears .hf 0x03 (ridgeIn 0 5) (ridged .running []) = true
    ∧ ridgeChecks 1 4 (conIdx 2) ((ridgeIn 0 5).payload.drop 8) (ridged .running []) = none
    ∧ ridgeRestart ((ridgeIn 0 5).payload.drop 8) = false
    ∧ ridgeSeq ((ridgeIn 0 5).payload.drop 8) = ((ridged .running []).safety.consumer[(2 : Fin 16)]).lastSeq + 1
    ∧ ridgeSeq ((ridgeIn 0 9).payload.drop 8) ≠ ((ridged .running []).safety.consumer[(2 : Fin 16)]).lastSeq + 1
    ∧ ridgeChecks 1 4 (conIdx 2) ((ridgeIn 0 5).payload.drop 8) (setNum (conIdx 2) 0x04 78 (ridged .running [])) = some 4 := by decide +kernel

theorem meets_ridgeWatchdog : ((ridged .running []).safety.consumer[(2 : Fin 16)]).state = .running := by decide +kernel

theorem meets_ridgeFaultRecovery : ((ridged .fault []).safety.consumer[(2 : Fin 16)]).state = .fault := by decide +kernel

theorem meets_ridgeAcknowledge : hears .hf 0x03 (ridgeAck 4) (ridged .running []) = true
    ∧ ridgeByte (ridgeAck 4).payload 1 = 16 + (2 : Fin 8).val ∧ on (ridged .running []) (prodIdx 2) 0x01 = true
    ∧ (ridgeAck 4).payload.drop 8 ≠ ((ridged .running []).safety.producer[(2 : Fin 8)]).lastAck
    ∧ ridgeChecks 2 0 (prodIdx 2) ((ridgeAck 4).payload.drop 8) (ridged .running []) = none
    ∧ ((ridged .running []).safety.producer[(2 : Fin 8)]).frame.isSome = true
    ∧ ridgeSeq ((ridgeAck 4).payload.drop 8) = ((ridged .running []).safety.producer[(2 : Fin 8)]).seq
    ∧ ridgeSeq ((ridgeAck 5).payload.drop 8) ≠ ((ridged .running []).safety.producer[(2 : Fin 8)]).seq := by decide +kernel

theorem meets_ridgeProducerWatchdog : ((ridged .running []).safety.producer[(2 : Fin 8)]).frame.isSome = true
    ∧ ((ridged .running []).safety.producer[(2 : Fin 8)]).state ≠ .fault := by decide +kernel

/-- A module with a password held, passwords locked out, and a transaction of session 2. -/
def editing : Dev := onSafety (fun x => { x with held := some (2, 7), lockedOut := some 7, trans := some ⟨2, 7, [], none, false⟩ }) (opened 2 live)

theorem meets_passwordHoldExpiry : editing.safety.held = some (2, 7) := by decide +kernel

theorem meets_lockoutExpiry : editing.safety.lockedOut = some 7 := by decide +kernel

theorem meets_transactionTimeout : editing.safety.trans = some ⟨2, 7, [], none, false⟩ := by decide +kernel


/-! Load channels (chapter 10). -/

/-- A module whose channel 5 is in this state. -/
def chanIn (st : ChanState) : Dev := onChan 5 (fun c => { c with state := st, onFrom := some 7, openSince := some 7, clamps := 2 }) live

theorem meets_loadCommandTransfer : up 1 live = true ∧ up 4 live = true := by decide +kernel

theorem meets_loadCommandStale : isStale .loadCommand stale = false ∧ up 4 stale = true := by decide +kernel

theorem meets_orphanTimeout : (onLoad (fun l => { l with orphanAt := some 7 }) live).load.orphanAt = some 7
    ∧ (isStale .loadCommand (onLoad (fun l => { l with orphanAt := some 7 }) live)
        && !(onLoad (fun l => { l with orphanAt := some 7 }) live).load.orphan && up 4 (onLoad (fun l => { l with orphanAt := some 7 }) live)
        && !fxStopped (onLoad (fun l => { l with orphanAt := some 7 }) live)) = true := by decide +kernel

theorem meets_loadSupplyLow : live.load.supplyLow = false := by decide +kernel

theorem meets_wireModelUpdate : up 4 live = true := by decide +kernel

theorem meets_shortCircuitTrip : up 4 (chanIn .on) = true ∧ ((chanIn .on).load.chan[(5 : Fin 64)]).state = .on := by decide +kernel

theorem meets_retryDelayExpiry : ((chanIn .tripped).load.chan[(5 : Fin 64)]).state = .tripped := by decide +kernel

theorem meets_retryResetExpiry : ((chanIn .on).load.chan[(5 : Fin 64)]).onFrom = some 7 := by decide +kernel

theorem meets_junctionLatch : ((chanIn .on).load.chan[(5 : Fin 64)]).state ≠ .latched ∧ (1450 : Int) ≤ 1450 ∧ (1449 : Int) < 1450 := by decide +kernel

theorem meets_clampEvent : 2 ≤ ((chanIn .on).load.chan[(5 : Fin 64)]).clamps ∧ ((chanIn .on).load.chan[(5 : Fin 64)]).state = .on
    ∧ (live.load.chan[(5 : Fin 64)]).clamps < 2 := by decide +kernel

theorem meets_openLoadDetection : ((chanIn .on).load.chan[(5 : Fin 64)]).openSince = some 7 := by decide +kernel

theorem meets_senseScanStep : up 4 live = true ∧ extselHonoured live = false ∧ live.load.select < 16
    ∧ (nat live 0x4400 0x05 = 0xFF ∨ nat live 0x4400 0x05 < 16) := by decide +kernel

theorem meets_extselChange : on (setNum 0x4400 0x04 1 live) 0x4400 0x04 = true
    ∧ on (setNum 0x4400 0x04 0 live) 0x4400 0x04 = false := by decide +kernel

theorem meets_dissipationEstimate : up 4 live = true ∧ dissipation live ≤ 30000000000000 := by decide +kernel


/-! The Eaveline link and the DMA engine (chapters 13 and 14). -/

/-- A module that is the Eaveline master, with every node admitted in robust mode. -/
def lineMaster : Dev :=
  onEave (fun e => { e with
    master := true, admitted := 0xFFFF, robust := 0xFFFF, offer := some 3
    node := tab (fun _ => { Fresh.node with
      ctrlDue := true, goodRun := 2 ^ 40, missRun := 50, steppedDown := some 7, refusedAt := some 7,
      inbox := [⟨0, 0, none, [], false, 7, false⟩], maps := tab (fun _ => ⟨true, [1]⟩) })
    side := tab (fun _ => { Fresh.nodeSide with admitted := true }) }) (setNum 0x1300 0x01 1 live)

theorem meets_eavelineCycle : mayMaster lineMaster = true ∧ mayMaster Dev.reset = false := by decide +kernel

theorem meets_eavelineMasterTake : mayMaster (setNum 0x1300 0x01 1 live) = true ∧ (setNum 0x1300 0x01 1 live).eave.master = false := by decide +kernel

theorem meets_cycleHeader : ((leBytes 20 7).length == 20 && crc32 (leBytes 20 7) == crc32 (leBytes 20 7)) = true
    ∧ ((leBytes 20 7).length == 20 && (0 : W32) == crc32 (leBytes 20 7)) = false := by decide +kernel

theorem meets_nodePreambleLoss : (lineMaster.eave.side[(3 : Fin 16)]).admitted = true := by decide +kernel

/-- A block with a right CRC word. -/
def block (up_ : Bool) (content : List Byte) : EaveBlock := ⟨up_, content, crc32 content⟩

theorem meets_controlBlock :
    ((leBytes 26 0x31).length == 26 && crc32 (leBytes 26 0x31) == crc32 (leBytes 26 0x31)
        && fieldAt (leBytes 26 0x31) 0 1 / 16 == (3 : Fin 16).val) = true
    ∧ isMaster lineMaster = true ∧ admitted 3 lineMaster = true ∧ (lineMaster.eave.node[(3 : Fin 16)]).ctrlDue = true
    ∧ (lineMaster.eave.node[(3 : Fin 16)]).ctrlGood = false ∧ fieldAt (leBytes 26 0x31) 0 1 % 16 = 1
    ∧ fieldAt (leBytes 26 0x32) 0 1 % 16 = 2 ∧ (lineMaster.eave.side[(3 : Fin 16)]).admitted = true := by decide +kernel

/-- The same with a Ridge connection of node 3. -/
def lineRidge : Dev := setNum (conIdx 2) 0x01 1 (setNum (conIdx 2) 0x02 4 (setNum (conIdx 2) 0x03 3 lineMaster))

theorem meets_dataBlock : ((block true (leBytes 26 (3 * 2 ^ 28 + 5))).up && isMaster lineRidge && admitted 3 lineRidge) = true
    ∧ ((leBytes 26 (3 * 2 ^ 28 + 5)).length == 26
        && decide (field (fieldAt (leBytes 26 (3 * 2 ^ 28 + 5)) 0 4) 0 6 + 4 ≤ (leBytes 26 (3 * 2 ^ 28 + 5)).length)
        && field (fieldAt (leBytes 26 (3 * 2 ^ 28 + 5)) 0 4) 28 4 == (3 : Fin 16).val) = true
    ∧ field (fieldAt (leBytes 26 (3 * 2 ^ 28 + 5)) 0 4) 26 2 = 0 ∧ (ridgeSlots lineRidge)[(0 : Fin 2).val]? = some 2
    ∧ ridgeNode 2 lineRidge = (3 : Fin 16).val ∧ field (fieldAt (leBytes 26 (3 * 2 ^ 28 + 2 ^ 26 + 5)) 0 4) 26 2 ≠ 0 := by decide +kernel

theorem meets_messageReassemblyTimeout :
    (lineMaster.eave.node[(3 : Fin 16)]).inbox.find? (fun m => !m.dead && (wholeMsg m).isNone) = some ⟨0, 0, none, [], false, 7, false⟩
        := by decide +kernel

theorem meets_robustStepUp :
    (isMaster lineMaster && admitted 3 lineMaster && isRobust 3 lineMaster && !(lineMaster.eave.node[(3 : Fin 16)]).stepWaits
        && decide (nat lineMaster (nodeIdx 3) 0x0D ≤ (lineMaster.eave.node[(3 : Fin 16)]).goodRun)) = true
    ∧ num lineMaster 0x1300 0x09 = 3 ∧ mapOf true 3 lineMaster = ⟨true, [1]⟩
    ∧ mapCapacity ⟨true, [1]⟩ ≤ mapCapacity (estimateMap (List.replicate 816 300) 3) ∧ 0 < mapCapacity ⟨true, [1]⟩
    ∧ mapCapacity (estimateMap [] 3) < mapCapacity ⟨true, [1]⟩ := by decide +kernel

theorem meets_stepUpCountReset : (lineMaster.eave.node[(3 : Fin 16)]).steppedDown = some 7 := by decide +kernel

/-- A master with a layout to switch to. -/
def layoutDue : Dev := onEave (fun e => { e with pending := some ⟨2, 0, tab (fun _ => 0), tab (fun _ => 0)⟩ }) lineMaster

theorem meets_layoutSwitch : layoutDue.eave.pending = some ⟨2, 0, tab (fun _ => 0), tab (fun _ => 0)⟩ ∧ isMaster layoutDue = true
    ∧ (layoutDue.eave.cycle + 2 ^ 32 - 0) % 2 ^ 32 < 2 ^ 31 := by decide +kernel

/-- A master that offers a place to node 3. -/
def offering : Dev := onEave (fun e => { e with admitted := 0 }) lineMaster

theorem meets_admissionAnswer :
    ((block true (leBytes 26 (5 * 256 + 0x33))).up && (leBytes 26 (5 * 256 + 0x33)).length == 26
        && fieldAt (leBytes 26 (5 * 256 + 0x33)) 0 1 == (3 : Fin 16).val * 16 + 3) = true
    ∧ isMaster offering = true ∧ offering.eave.offer = some 3 ∧ offering.eave.admitting ≠ some 3 ∧ admitted 3 offering = false
    ∧ nat offering (nodeIdx 3) 0x01 = 0 ∧ admitted 3 lineMaster = true
    ∧ (onEave (fun e => { e with admitting := some 3 }) offering).eave.admitting = some 3 := by decide +kernel

theorem meets_nodeRefusedRetry : (lineMaster.eave.node[(3 : Fin 16)]).refusedAt = some 7 := by decide +kernel

theorem meets_nodeLost : (isMaster lineMaster && admitted 3 lineMaster && decide (50 ≤ (lineMaster.eave.node[(3 : Fin 16)]).missRun)) = true
    := by decide +kernel

theorem meets_eavelineStateSync : isMaster lineMaster = true ∧ isMaster live = false := by decide +kernel

theorem meets_mainsRefCrossing : up 5 live = true ∧ up 5 Dev.reset = false := by decide +kernel

/-- A master that knows the mains. -/
def crossing : Dev := onEave (fun e => { e with cycleAt := 200000000, crossings := (List.range 51).map (fun i => 200000000 - 2000000 * i) }) { lineMaster with time := { lineMaster.time with now := 200000000 } }

theorem meets_zeroCrossingReport : (isMaster crossing && admitted 3 crossing) = true ∧ ([1, 0] ++ leBytes 4 0 ++ leBytes 2 0).length = 8
    ∧ fieldAt ([1, 0] ++ leBytes 4 0 ++ leBytes 2 0) 0 1 = 1
    ∧ (phaseAngle (crossingAt (fieldAt ([1, 0] ++ leBytes 4 0 ++ leBytes 2 0) 2 4) (fieldAt ([1,
        0] ++ leBytes 4 0 ++ leBytes 2 0) 6 2) crossing) crossing).isSome = true := by decide +kernel

/-- A module whose DMA channel 3 runs. -/
def copying : Dev := { live with dma := { live.dma with chan := upd live.dma.chan 3 (fun c => { c with state := .running }) } }

theorem meets_dmaDescriptorEnd : (copying.dma.chan[(3 : Fin 16)]).state = .running := by decide +kernel


/-! The peer link and the lease (chapter 11). -/

/-- A good peer frame. -/
def peer (type : Byte) (payload : List Byte) : PeerFrame :=
  let f : PeerFrame := ⟨0, true, type, 0, 9, payload, 0⟩
  { f with crc := crc32 (peerBytes f) }
/-- A module in pair mode with this role that knows epoch 4; the lease is valid. -/
def pairAs (r : Int) : Dev := setNum 0x1C00 0x01 1 (setNum 0x1C00 0x03 r (setNum 0x1C00 0x04 4 (setNum 0x1C00 0x05 1 (setNum 0x1C00 0x06 1 stale))))
/-- One that does not know the lease held. -/
def bidder (r : Int) : Dev := setNum 0x1C00 0x05 0 (pairAs r)

/-- A module with one peer port up. -/
def ports : Dev := onPair (fun p => { p with port := tab (fun i => if i = 0 then ⟨100, 7, true⟩ else ⟨0, 0, false⟩) }) (pairAs 2)

theorem meets_peerPortUp : 100 ≤ (ports.pair.port[(0 : Fin 2)]).good := by decide +kernel

theorem meets_peerPortDown : (ports.pair.port[(0 : Fin 2)]).up = true ∧ (∀ q : Fin 2, q ≠ 0 → (ports.pair.port[q]).up = false) := by decide +kernel

theorem meets_dowelRenewalSend : up 6 (pairAs 2) = true ∧ pairMode (pairAs 2) = true ∧ holds (pairAs 2) = true
    ∧ (pairAs 2).pair.supportLost = false ∧ leaseSupport (reach (nextMultiple (ms 1) (pairAs 2)) (pairAs 2)) = true
    ∧ holds (pairAs 1) = false := by decide +kernel

theorem meets_dowelRenewal : (peerReceive 0x01 (peer 0x01 (leBytes 24 4)) (pairAs 1)).2 = true
    ∧ (peer 0x01 (leBytes 24 4)).payload.length = 24 ∧ epochKnown (pairAs 1) ≤ leNat ((leBytes 24 4).take 4)
    ∧ epochKnown (pairAs 2) < leNat ((leBytes 24 5).take 4) ∧ (peerReceive 0x01 (peer 0x01 (leBytes 24 5)) (pairAs 2)).2 = true
    ∧ leNat ((leBytes 24 3).take 4) < epochKnown (pairAs 1) := by decide +kernel

theorem meets_leaseExpiry : (pairMode (pairAs 1) && !holds (pairAs 1) && leaseValid (pairAs 1)) = true := by decide +kernel

theorem meets_bidGuardExpiry : holds (bidder 1) = false ∧ leaseValid (bidder 1) = false ∧ (bidder 1).pair.bid = none
    ∧ grantHolds (reach (max ((bidder 1).pair.expiry + ms 1) 0) (bidder 1)) = false
    ∧ partnerSeen (reach (max ((bidder 1).pair.expiry + ms 1) 0) (bidder 1)) = false
    ∧ bidEpoch (reach (max ((bidder 1).pair.expiry + ms 1) 0) (bidder 1)) < 0xFFFFFFFF := by decide +kernel

theorem meets_partnerWaitExpiry : roleOf (bidder 0) = 0 ∧ leaseValid (bidder 0) = false ∧ (bidder 0).pair.bid = none
    ∧ (bidder 0).pair.lastValid = 0
    ∧ grantHolds (reach ((bidder 0).pair.startedAt + ms (nat (bidder 0) 0x1C01 0x01 * (if nat (bidder 0) 0x1C00 0x02 = 2 then 2 else 1)))
        (bidder 0)) = false
    ∧ partnerSeen (reach ((bidder 0).pair.startedAt + ms (nat (bidder 0) 0x1C01 0x01 * (if nat (bidder 0) 0x1C00 0x02 = 2 then 2 else 1)))
        (bidder 0)) = false
    ∧ bidEpoch (reach ((bidder 0).pair.startedAt + ms (nat (bidder 0) 0x1C01 0x01 * (if nat (bidder 0) 0x1C00 0x02 = 2 then 2 else 1)))
        (bidder 0)) < 0xFFFFFFFF := by decide +kernel

/-- A module that bids for epoch 5. -/
def bidding : Dev := onPair (fun p => { p with bid := some (5, 7) }) (setNum 0x1C00 0x02 2 (bidder 1))

theorem meets_bidWaitExpiry : bidding.pair.bid = some (5, 7) := by decide +kernel

theorem meets_bid : (peerReceive 0x02 (peer 0x02 (leBytes 12 5 ++ [1])) (pairAs 2)).2 = true ∧ ((leBytes 12 5 ++ [1])).length = 13
    ∧ holds (pairAs 2) = true ∧ (peerReceive 0x02 (peer 0x02 (leBytes 12 5 ++ [1])) (bidder 1)).2 = true ∧ holds (bidder 1) = false
    ∧ (bidder 1).pair.bid = none ∧ (peerReceive 0x02 (peer 0x02 (leBytes 12 5 ++ [3])) bidding).2 = true ∧ holds bidding = false
    ∧ nat bidding 0x1C00 0x02 = 2 := by decide +kernel

theorem meets_bidAnswer : (peerReceive 0x03 (peer 0x03 (leBytes 4 5 ++ [1] ++ leBytes 4 4)) bidding).2 = true
    ∧ (leBytes 4 5 ++ [1] ++ leBytes 4 4 : List Byte).length = 9
    ∧ (peerReceive 0x03 (peer 0x03 (leBytes 4 5 ++ [2] ++ leBytes 4 9)) bidding).2 = true
    ∧ leNat ((leBytes 4 5 ++ [2] ++ leBytes 4 9 : List Byte).take 4) = 5 := by decide +kernel

/-- A holder whose shadow state is stale. -/
def unsupported : Dev := setNum 0x1C00 0x03 2 (setNum 0x1C00 0x01 1 live)

theorem meets_leaseSupportLost : (pairMode unsupported && holds unsupported && !leaseSupport unsupported) = true := by decide +kernel

theorem meets_holderLeaseEnd :
    (pairMode (onPair (fun p => { p with supportLost := true }) unsupported)
        && holds (onPair (fun p => { p with supportLost := true }) unsupported)
        && (onPair (fun p => { p with supportLost := true }) unsupported).pair.supportLost) = true := by decide +kernel

theorem meets_yield_ : (peerReceive 0x04 (peer 0x04 (leBytes 4 5 ++ leBytes 4 9)) (pairAs 1)).2 = true
    ∧ (leBytes 4 5 ++ leBytes 4 9 : List Byte).length = 8 ∧ role (pairAs 1) = 1 ∧ on (pairAs 1) 0x1C00 0x06 = true
    ∧ epochKnown (pairAs 1) < leNat ((leBytes 4 5 ++ leBytes 4 9 : List Byte).take 4) := by decide +kernel

/-- A holder that offers the lease of epoch 5 at boundary 0, acknowledged or not; and the module that it is offered to. -/
def offers (ack : Bool) : Dev := onPair (fun p => { p with swap := some (5, 0, 7, ack) }) (pairAs 2)
def offered : Dev := onPair (fun p => { p with yielded := some (5, 0) }) (pairAs 1)

theorem meets_yieldAcknowledge : (peerReceive 0x05 (peer 0x05 (leBytes 4 5 ++ leBytes 4 0)) (offers false)).2 = true
    ∧ (offers false).pair.swap = some (5, 0, 7, false) := by decide +kernel

theorem meets_yieldAckTimeout : (offers false).pair.swap = some (5, 0, 7, false) := by decide +kernel

theorem meets_swapBoundary : (offers true).sync.periods = 0 ∧ pairMode (offers true) = true ∧ (offers true).pair.swap = some (5, 0, 7, true)
    ∧ role (offers true) = 2 ∧ offered.sync.periods = 0 ∧ pairMode offered = true ∧ offered.pair.swap = none
    ∧ offered.pair.yielded = some (5, 0) ∧ role offered = 1 := by decide +kernel

theorem meets_mirrorBlock : shadows (pairAs 1) = true ∧ (peerReceive 0x06 (peer 0x06 []) (pairAs 1)).2 = true ∧ holds (pairAs 1) = false
    ∧ (pairAs 1).pair.takeEpoch = none
    ∧ (peerReceive 0x06 (peer 0x06 []) (onPair (fun p => { p with takeEpoch := some 4 }) (pairAs 1))).2 = true := by decide +kernel

theorem meets_peerStatus : (peerReceive 0x07 (peer 0x07 []) (pairAs 2)).2 = true := by decide +kernel

/-- A module that is SYNCING and meets every condition of STANDBY but for a metering that `g` says. -/
def almost (r : Int) (g : Bool) : Dev := onPair (fun p => { p with
    partner := some ⟨2, true, 1, 0, g, nat live 0x1C00 0x11, nat live 0x1B41 0x07, 1⟩, equalRun := 1000, phaseAdopted := true, configPulled := true,
    rotations := 0xFFFF, differRun := 3, crcDiffers := some 7, lastMirror := some 7, resyncAt := some 7 }) (pairAs r)
/-- What no rule gives is what it is: the data store's format and the fused metering mode are free. -/
theorem almost_format (g : Bool) : nat (almost 0 g) 0x1C00 0x11 = nat live 0x1C00 0x11 := by cases g <;> rfl
theorem meets_inStepGained : inStepCondition (almost 0 Config.indicative) = true := by
  have a : ∀ g, (pairMode (almost 0 g) && roleOf (almost 0 g) == 0 && leaseValid (almost 0 g)) = true
    ∧ nat (almost 0 g) 0x1B41 0x07 = nat live 0x1B41 0x07 ∧ (almost 0 g).pair.equalRun = 1000 ∧ (almost 0 g).pair.phaseAdopted = true
        ∧ (almost 0 g).pair.configPulled = true
    ∧ (almost 0 g).pair.rotations = 0xFFFF ∧ (almost 0 g).pair.timeOffset = 0 := by decide +kernel
  have h : (almost 0 Config.indicative).pair.partner = some ⟨2, true, 1, 0, Config.indicative, nat live 0x1C00 0x11, nat live 0x1B41 0x07, 1⟩ := rfl
  obtain ⟨a1, a2, a3, a4, a5, a6, a7⟩ := a Config.indicative
  simp [inStepCondition, h, almost_format, a1, a2, a3, a4, a5, a6, a7]

theorem meets_inStepLost :
    (pairMode (almost 1 true) && roleOf (almost 1 true) == 1 && on (almost 1 true) 0x1C00 0x06 && leaseValid (almost 1 true)) = true
    ∧ 3 ≤ (almost 1 true).pair.differRun ∧ (almost 1 true).pair.crcDiffers = some 7 ∧ (almost 1 true).pair.lastMirror = some 7 := by decide +kernel

/-- Whatever the ordering code fuses, a partner of the same type agrees. -/
theorem almost_agrees : peersAgree (almost 0 Config.indicative) = true := by
  have h : (almost 0 Config.indicative).pair.partner = some ⟨2, true, 1, 0, Config.indicative, nat live 0x1C00 0x11, nat live 0x1B41 0x07, 1⟩ := rfl
  simp [peersAgree, h, almost_format]
theorem meets_resynchronisation : (pairMode (almost 0 Config.indicative) && roleOf (almost 0 Config.indicative) == 0
    && leaseValid (almost 0 Config.indicative) && peersAgree (almost 0 Config.indicative)
        && (almost 0 Config.indicative).pair.configPulled) = true := by
  have a : ∀ g, (pairMode (almost 0 g) && roleOf (almost 0 g) == 0 && leaseValid (almost 0 g)) = true
      ∧ (almost 0 g).pair.configPulled = true := by decide +kernel
  rw [(a _).1, almost_agrees, (a _).2]
  rfl

theorem meets_resyncTimeout : (almost 0 true).pair.resyncAt = some 7 ∧ roleOf (almost 0 true) = 0 := by decide +kernel

theorem meets_bulkRequest : (peerReceive 0x08 (peer 0x08 []) (pairAs 2)).2 = true ∧ holds (pairAs 2) = true := by decide +kernel

theorem meets_bulkData : (∀ g, (peerReceive 0x09 (peer 0x09 []) (almost 0 g)).2 = true ∧ holds (almost 0 g) = false)
    ∧ peersAgree (almost 0 Config.indicative) = true ∧ (([(key 0x2810 0x04, .num 3)] : List (Nat × DVal)).map Prod.fst).Nodup :=
  ⟨by decide +kernel, almost_agrees, by decide +kernel⟩

/-! Restarts, supplies, keys, images and stores (chapters 15 and 16). -/

theorem meets_islandWatchdogReset : up 3 live = true ∧ up 3 Dev.reset = false := by decide +kernel

theorem meets_fieldIslandRestart : up 1 live = true ∧ up 1 Dev.reset = false := by decide +kernel

/-- A module whose power-fail sequence, whose hot and cold times and whose shutdown stand so. -/
def powered (seq hot cool : Option Nat) (ot : Bool) : Dev :=
  onPower (fun x => { x with fieldSeq := seq, hotSince := hot, coolSince := cool, overTemp := ot }) live
/-- A module with some islands off. -/
def without (off : List (Fin 8)) (d : Dev) : Dev := { d with isl := tab (fun i => if off.contains i then .off else d.isl[i]) }

theorem meets_fieldPowerFailWarning : up 7 live = true ∧ live.sys.power.fieldSeq = none
    ∧ (powered (some 5) none none false).sys.power.fieldSeq.isSome = true := by decide +kernel

theorem meets_fieldSequenceEnd :
    ((without [2] (powered (some 5) none none false)).sys.power.fieldSeq.isSome
        && (!metering (without [2] (powered (some 5) none none false)) || (without [2] (powered (some 5) none none false)).metro.finalDone)) = true
    ∧ (live.sys.power.fieldSeq.isSome && (!metering live || live.metro.finalDone)) = false := by decide +kernel

theorem meets_hostPowerFailWarning : up 0 live = true := by decide +kernel

theorem meets_fieldPowerUp : live.sys.power.fieldSeq = none ∧ live.sys.power.overTemp = false ∧ up 7 (without [7] live) = false
    ∧ up 7 (without [3] live) = true ∧ up 3 (without [3] live) = false := by decide +kernel

theorem meets_holdupCharged : up 7 live = true ∧ live.sys.power.fieldSeq = none := by decide +kernel

theorem meets_hostPowerUp : up 0 (without [0] live) = false ∧ (without [0] live).sys.power.overTemp = false := by decide +kernel

theorem meets_domainStartFailed : up 4 (without [4] live) = false ∧ up 4 live = true := by decide +kernel

theorem meets_supplyRedundancyLost : ((bit (nat live 0x1D00 0x05) 1 = false ∨ bit (nat (setNum 0x1D00 0x05 15 live) 0x1D00 0x05) 1 = true))
    ∧ (1799 : Nat) < 1800 := by decide +kernel

theorem meets_supplyRedundancyRestored : bit (nat (setNum 0x1D00 0x06 2 live) 0x1D00 0x06) (1 : Fin 4).val = true
    ∧ (1800 : Nat) ≤ 1800 := by decide +kernel

theorem meets_holdupTest : up 7 live = true ∧ live.sys.power.fieldSeq = none ∧ up 7 Dev.reset = false := by decide +kernel

theorem meets_coldPlateRead : up 7 live = true ∧ up 7 Dev.reset = false := by decide +kernel

theorem meets_overTemperatureShutdown : (powered none (some 5) none false).sys.power.hotSince = some 5
    ∧ (powered none (some 5) none false).sys.power.overTemp = false ∧ live.sys.power.hotSince = none := by decide +kernel

theorem meets_overTemperatureRestart : (powered none none (some 5) true).sys.power.coolSince = some 5
    ∧ (powered none none (some 5) true).sys.power.overTemp = true ∧ (powered none none (some 5) true).sys.power.fieldSeq = none
    ∧ live.sys.power.coolSince = none := by decide +kernel

/-- A module in a state of the life cycle, with a blob for key 3 of a state, and with these slots. -/
def keyed (life state : Nat) (slot : Fin 16 → Option KeySlot) : Dev := onKeys (fun x => { x with
  fieldBank := life, hostBank := life
  blob := upd x.blob 3 (fun _ => some ⟨0, 0, state, 0, 0, [], [], []⟩), slot := tab slot }) live
/-- The slot 2 holds key 3; every slot is pinned for another key; none is used. -/
def inSlot2 (i : Fin 16) : Option KeySlot := if i = 2 then some ⟨3, 1, 5⟩ else none
def allPinned (_ : Fin 16) : Option KeySlot := some ⟨9, 1, 5⟩
def noneUsed (_ : Fin 16) : Option KeySlot := none

theorem meets_keySlotLoad : up 0 (keyed 3 3 inSlot2) = true
    ∧ (keyed 3 3 inSlot2).sys.keys.blob[(3 : Fin 64)] = some ⟨0, 0, 3, 0, 0, [], [], []⟩
    ∧ keyUsable ⟨0, 0, 3, 0, 0, [], [], []⟩ (keyed 3 3 inSlot2) = true ∧ slotHolding 3 (keyed 3 3 inSlot2) = some 2
    ∧ (keyed 3 3 inSlot2).sys.keys.waiting = [] ∧ slotHolding 3 (keyed 3 3 noneUsed) = none ∧ slotFor (keyed 3 3 noneUsed) = some 0
    ∧ slotHolding 3 (keyed 3 3 allPinned) = none ∧ slotFor (keyed 3 3 allPinned) = none
    ∧ keyUsable ⟨0, 0, 2, 0, 0, [], [], []⟩ (keyed 3 2 noneUsed) = false := by decide +kernel

theorem meets_keySlotWaitTimeout : (onKeys (fun x => { x with waiting := [(3, 5)] }) live).sys.keys.waiting = [(3, 5)]
    ∧ live.sys.keys.waiting = [] := by decide +kernel

theorem meets_lifeCycleNotice : hears .hf 0x18 (tenon 0x18 0 0 7 (leBytes 8 3)) (keyed 2 2 noneUsed) = true
    ∧ (oneTransition (lifeOf (keyed 2 2 noneUsed)) (3 : Fin 6).val && decide (3 ≤ (3 : Fin 6).val)) = true
    ∧ auditUsed (keyed 2 2 noneUsed) < 1024
    ∧ (oneTransition (lifeOf (keyed 2 2 noneUsed)) (4 : Fin 6).val && decide (3 ≤ (4 : Fin 6).val)) = false := by decide +kernel

theorem meets_factoryTransition : lifeOf (keyed 0 0 noneUsed) = 0 ∧ lifeOf (keyed 1 1 noneUsed) = 1 ∧ lifeOf (keyed 4 4 noneUsed) = 4
    ∧ nat (keyed 4 4 noneUsed) 0x1A00 0x02 < 3 ∧ lifeOf (keyed 3 3 noneUsed) = 3 := by decide +kernel

/-- An image block for a field-side island. -/
def imgMsg (island : Nat) : TenonMsg := tenon 0x14 0 0 island (leBytes 8 0 ++ [1, 2])
/-- A module whose image slot of every type stands so, and its activation so; type 0 runs in trial where `n` is 1. -/
def imaged (staged : Option (List Byte)) (healthy : Option Nat) (act : Option Activation) (n : Int) : Dev :=
  setNum (imgIdx 0) 0x03 n (onSys (fun x => { x with
    act := act
    img := tab (fun t => { x.img[t] with staged := staged, flash := [1, 2, 3], healthy := healthy, bootAt := 7 }) }) live)

theorem meets_imageBlock : imageIsland 1 = some 1 ∧ hears .hf 0x14 (imgMsg 1) (imaged none none none 0) = true
    ∧ hdrIsland (imgMsg 1).header = 1 ∧ 3 ≤ ((imaged none none none 0).sys.img[(1 : Fin 5)]).flash.length ∧ imageIsland 0 = none := by decide +kernel

theorem meets_imageStatus : hears .fh 0x15 (tenon 0x15 0 0 1 (leBytes 8 3)) live = true := by decide +kernel

theorem meets_fxWinddownEnd : (imaged none none (some ⟨1, false, 7, none, false, false⟩) 0).sys.act = some ⟨1, false, 7, none, false, false⟩
    ∧ fxWaits (imaged none none (some ⟨1, false, 7, none, false, false⟩) 0) = true
    ∧ outletWithin 1 8 (imaged none none (some ⟨1, false, 7, none, false, false⟩) 0) = false ∧ fxWaits live = false := by decide +kernel

theorem meets_bootCheck :
    (imaged (some [1, 2]) none (some ⟨0, false, 7, some 9, false, false⟩) 0).sys.act = some ⟨0, false, 7, some 9, false, false⟩
    ∧ ((imaged (some [1, 2]) none (some ⟨0, false, 7, some 9, false, false⟩) 0).sys.img[(0 : Fin 5)]).staged = some [1, 2]
    ∧ (imageIsland 0).isSome = false
    ∧ rejectCause 0 [1, 2] (imaged (some [1, 2]) none (some ⟨0, false, 7, some 9, false, false⟩) 0) = some 1 := by decide +kernel

theorem meets_trialConfirm : ((imaged none (some 9) none 1).sys.img[(0 : Fin 5)]).healthy = some 9
    ∧ num (imaged none (some 9) none 1) (imgIdx 0) 0x03 = 1
    ∧ 9 + sec 60 ≤ ((imaged none (some 9) none 1).sys.img[(0 : Fin 5)]).bootAt + sec 600 ∧ num live (imgIdx 0) 0x03 ≠ 1 := by decide +kernel

theorem meets_confirmTimeout : num (imaged none (some 9) none 1) (imgIdx 0) 0x03 = 1
    ∧ ((imaged none (some 9) none 1).sys.img[(0 : Fin 5)]).timedOut = false ∧ num live (imgIdx 0) 0x03 ≠ 1 := by decide +kernel

/-- A module whose stores stand so. -/
def stored (unsaved : Option Nat) (writing : Option (List (Nat × DVal))) (last : Option Nat) (waits : Bool) : Dev :=
  setNum 0x1B40 0x03 60 (onSys (fun x => { x with store := tab (fun i => { x.store[i] with
    unsaved := unsaved, writing := writing, lastCommit := last, waits := waits }) }) live)

theorem meets_autoCommit : ((stored (some 5) none none false).sys.store[(0 : Fin 2)]).unsaved = some 5
    ∧ nat (stored (some 5) none none false) 0x1B40 0x03 ≠ 0 ∧ up 0 (stored (some 5) none none false) = true
    ∧ up 7 (stored (some 5) none none false) = true ∧ powerWarned 0 (stored (some 5) none none false) = false
    ∧ ((stored (some 5) none none false).sys.store[(0 : Fin 2)]).writing = none
    ∧ ((stored (some 5) none none false).sys.store[(0 : Fin 2)]).lastCommit = none
    ∧ ((stored (some 5) (some []) none false).sys.store[(1 : Fin 2)]).writing.isSome = true
    ∧ ((stored none none none false).sys.store[(1 : Fin 2)]).unsaved = none := by decide +kernel

theorem meets_commitSpacingExpiry : ((stored none none (some 5) true).sys.store[(1 : Fin 2)]).lastCommit = some 5
    ∧ ((stored none none (some 5) true).sys.store[(1 : Fin 2)]).waits = true
    ∧ ((stored none none (some 5) true).sys.store[(1 : Fin 2)]).writing = none ∧ powerWarned 1 (stored none none (some 5) true) = false
    ∧ ((stored (some 5) none none false).sys.store[(1 : Fin 2)]).waits = false := by decide +kernel

theorem meets_leafWriteComplete : ((stored none (some []) none false).sys.store[(1 : Fin 2)]).writing = some []
    ∧ ((stored (some 5) none none false).sys.store[(1 : Fin 2)]).writing = none := by decide +kernel


/-! The site bus, address claiming, TLS and sessions (chapter 12). -/

/-- A frame of a function code and a node, with these data. -/
def frame (code node : Nat) (data : List Byte) : CanFrame := ⟨canId code node, true, data, 0⟩
/-- A module on the bus whose controllers hold these frames, with address claiming in this state; filter 3 passes every frame into
receive queue 0, or into the other one where `q1` says so. -/
def onBus (st : AddrState) (q1 : Bool) (urgent normal fifo rx : List CanFrame) : Dev :=
  let w : Int := 2 ^ 31 + (if q1 then 2 ^ 30 else 0)
  let d := setNum 0x1203 3 w (setNum 0x1204 3 w (setNum 0x1201 0x01 1 (setNum 0x1202 0x01 1 live)))
  { d with site := { d.site with
      addr := { d.site.addr with state := st, id := 4, since := 7 }, imdCount := tab (fun _ => 3)
      can := tab (fun _ => ⟨.active, fifo, urgent, normal, rx, rx, none⟩) } }

theorem meets_stagingAdmission : ((onBus .held false [(frame 2 9 [1])] [] [] []).site.can[(0 : Fin 2)]).urgent = (frame 2 9 [1]) :: []
    ∧ ((onBus .held false [(frame 2 9 [1])] [] [] []).site.can[(0 : Fin 2)]).fifo.length < 32
    ∧ ((onBus .held false [] [(frame 2 9 [1])] [] []).site.can[(0 : Fin 2)]).urgent = []
    ∧ firstNormal ((onBus .held false [] [(frame 2 9 [1])] [] []).site.can[(0 : Fin 2)]).normal = some (frame 2 9 [1])
    ∧ (((onBus .held false [] [(frame 2 9 [1])] [] []).site.can[(0 : Fin 2)]).fifo).length < nat (onBus .held false [] [(frame 2 9 [1])] [] [])
        (canIdx 0) 0x0B
    ∧ 32 ≤ (((onBus .held false [] [] (List.replicate 32 (frame 2 9 [1])) []).site.can[(0 : Fin 2)]).fifo).length := by decide +kernel

theorem meets_canFrameTransmitted : busOn 0 (onBus .held false [] [] [(frame 2 9 [1])] []) = true
    ∧ (onBus .held false [] [] [(frame 2 9 [1])] []).site.addr.state ≠ .conflict
    ∧ ((onBus .held false [] [] [(frame 2 9 [1])] []).site.can[(0 : Fin 2)]).fifo = (frame 2 9 [1]) :: []
    ∧ ((onBus .held false [] [] [] []).site.can[(0 : Fin 2)]).fifo = [] := by decide +kernel

theorem meets_busOff : busOn 0 (onBus .held false [] [] [] []) = true
    ∧ busOn 0 ({ live with site := { live.site with can := tab (fun _ => ⟨.off, [], [], [], [], [], none⟩) } } : Dev) = false := by decide +kernel

theorem meets_busOffRecovery :
    (({ live with site := { live.site with can := tab (fun _ => ⟨.off, [], [], [], [], [], none⟩) } } : Dev).site.can[(0 : Fin 2)]).bus = .off
    ∧ (live.site.can[(0 : Fin 2)]).bus ≠ .off
    ∧ busOn 0 ({ live with site := { live.site with can := tab (fun _ => ⟨.off, [], [], [], [], [], none⟩) } } : Dev) = false := by decide +kernel

/-- A module whose filter 7, a host's, passes every frame, with the site bus monitor group owned by session 2. -/
def monitored : Dev := setNum 0x1203 7 (2 ^ 31) (opened 2 (setNum 0x1203 3 0 (onBus .held false [] [] [] [])))

theorem meets_canFrameReceived : busOn 0 (onBus .held false [] [] [] []) = true
    ∧ filterOf 0 (frame 7 9 [1]).id (onBus .held false [] [] [] []) = some 3 ∧ filterOf 0 (frame 7 9 [1]).id live = none
    ∧ bit (nat (onBus .held false [] [] [] []) (0x1203 + (0 : Fin 2).val) 3) 30 = false
    ∧ (((onBus .held false [] [] [] []).site.can[(0 : Fin 2)]).rxq0).length < 64
    ∧ bit (nat (onBus .held true [] [] [] []) (0x1203 + (0 : Fin 2).val) 3) 30 = true
    ∧ 64 ≤ (((onBus .held false [] [] [] (List.replicate 64 (frame 2 9 [1]))).site.can[(0 : Fin 2)]).rxq0).length
    ∧ 64 ≤ (((onBus .held true [] [] [] (List.replicate 64 (frame 2 9 [1]))).site.can[(0 : Fin 2)]).rxq1).length
    ∧ filterOf 0 (frame 7 9 [1]).id monitored = some 7 ∧ monitored.site.owners[(6 : Fin 60)] = (1 : Fin 6).val + 1
    ∧ (monitored.site.sessions[(1 : Fin 6)]).conn.isSome = true
    ∧ (match contentLength (frame 0xB 9 [1]) with | some n => decide ((frame 0xB 9 [1]).data.length < n) | none => false) = true
    ∧ contentLength (frame 7 9 [1]) = none := by decide +kernel

theorem meets_canHeartbeat : up 0 (onBus .held false [] [] [] []) = true ∧ (onBus .held false [] [] [] []).site.addr.state = .held
    ∧ on (onBus .held false [] [] [] []) (canIdx 1) 0x01 = true
    ∧ (((onBus .held false [] [] [] []).site.can[(0 : Fin 2)]).normal).length < 128 ∧ live.site.addr.state ≠ .held := by decide +kernel

theorem meets_addrInHigh : live.site.addr.state = .waiting ∧ up 0 live = true ∧ nat live 0x1200 0x01 = 0
    ∧ nat (setNum 0x1200 0x01 4 live) 0x1200 0x01 ≠ 0 ∧ (onBus .held false [] [] [] []).site.addr.state ≠ .waiting := by decide +kernel

/-- A module that listens and has heard every ID. -/
def crowded : Dev := onAddr (fun a => { a with heard := -1 }) (onBus .listening false [] [] [] [])

theorem meets_addressListenExpiry : (onBus .listening false [] [] [] []).site.addr.state = .listening
    ∧ freeId (onBus .listening false [] [] [] []) = some 1 ∧ (onBus .listening false [] [] [] []).site.addr.tries < 32
    ∧ crowded.site.addr.state = .listening ∧ freeId crowded = none ∧ live.site.addr.state ≠ .listening := by decide +kernel

theorem meets_claimListenExpiry : (onBus .claiming false [] [] [] []).site.addr.state = .claiming
    ∧ live.site.addr.state ≠ .claiming := by decide +kernel

theorem meets_claimRetryDelay : (onBus .claiming false [] [] [] []).site.addr.state = .claiming
    ∧ live.site.addr.state ≠ .claiming := by decide +kernel

/-- A claim or a defence of ID 4 by a module with a serial number. -/
def claimBy (kind serial : Nat) : CanFrame := frame 0xE 4 (leBytes 8 kind ++ leBytes 8 serial)
/-- No rule gives the module's serial number, so one of two numbers is another module's. -/
theorem meets_addressClaim_foreign (kind : Nat) : ∃ n, n < 2 ∧ payload (claimBy kind n) 8 8 ≠ Config.serial.toNat := by
  have h (n : Nat) (hn : n < 2) : payload (claimBy kind n) 8 8 = n := by
    have : ∀ n < 2, leNat (leBytes 8 n) = n := by decide +kernel
    have l : ∀ k, (leBytes 8 k).length = 8 := fun k => by simp [leBytes]
    simp [payload, claimBy, frame, List.take_of_length_le, l, this n hn]
  rcases Nat.decEq (Config.serial.toNat) 0 with e | e
  · exact ⟨0, by omega, by rw [h 0 (by omega)]; omega⟩
  · exact ⟨1, by omega, by rw [h 1 (by omega)]; omega⟩

theorem meets_addressClaim :
    (∀ n : Fin 2, ∀ k ∈ [1, 2], funcCode (claimBy k n.val).id = 0xE ∧ payload (claimBy k n.val) 0 1 = k ∧ nodeOf (claimBy k n.val).id = 4)
    ∧ (∀ n : Fin 2, (takeFrame 0 (claimBy 1 n.val) (setNum 0x1200 0x01 0 (onBus .held false [] [] [] [claimBy 1 n.val]))).isSome = true
        ∧ (takeFrame 0 (claimBy 2 n.val) (setNum 0x1200 0x01 0 (onBus .claiming false [] [] [] [claimBy 2 n.val]))).isSome = true)
    ∧ (setNum 0x1200 0x01 0 (onBus .claiming false [] [] [] [claimBy 2 1])).site.addr.state = .claiming
        ∧ (setNum 0x1200 0x01 0 (onBus .claiming false [] [] [] [claimBy 2 1])).site.addr.id = 4
    ∧ num (setNum 0x1200 0x01 4 (onBus .claiming false [] [] [] [claimBy 2 1])) 0x1200 0x01 ≠ 0
    ∧ num (setNum 0x1200 0x01 0 (onBus .claiming false [] [] [] [claimBy 2 1])) 0x1200 0x01 = 0
    ∧ freeId (hear 4 (setNum 0x1200 0x01 0 (onBus .claiming false [] [] [] [claimBy 2 1]))) = some 1
    ∧ (setNum 0x1200 0x01 0 (onBus .claiming false [] [] [] [claimBy 2 1])).site.addr.tries < 32 := by decide +kernel

theorem meets_frontEndStatus : funcCode ((frame 1 9 (leBytes 4 500 ++ leBytes 4 600 ++ [0, 0, 1]))).id = 1
    ∧ (takeFrame 0 (frame 1 9 (leBytes 4 500 ++ leBytes 4 600 ++ [0, 0,
        1])) (setNum 0x1211 3 9 (onBus .held false [] [] [] [(frame 1 9 (leBytes 4 500 ++ leBytes 4 600 ++ [0, 0, 1]))]))).isSome = true
    ∧ (List.range 8).find? (fun i => nat (setNum 0x1211 3 9 (onBus .held false [] [] [] [(frame 1 9 (leBytes 4 500 ++ leBytes 4 600 ++ [0, 0,
        1]))])) 0x1211 (i + 1) == nodeOf ((frame 1 9 (leBytes 4 500 ++ leBytes 4 600 ++ [0, 0, 1]))).id
        && nodeOf ((frame 1 9 (leBytes 4 500 ++ leBytes 4 600 ++ [0, 0, 1]))).id != 0) = some 2
    ∧ payload (frame 1 9 (leBytes 4 500 ++ leBytes 4 600 ++ [0, 0, 1])) 10 1 = 1
    ∧ (List.range 8).find? (fun i => nat live 0x1211 (i + 1) == nodeOf ((frame 1 9 (leBytes 4 500 ++ leBytes 4 600 ++ [0, 0, 1]))).id
        && nodeOf ((frame 1 9 (leBytes 4 500 ++ leBytes 4 600 ++ [0, 0, 1]))).id != 0) = none := by decide +kernel

theorem meets_imdReadingFrame : funcCode ((frame 2 9 (List.replicate 8 1))).id = 2
    ∧ (takeFrame 0 (frame 2 9 (List.replicate 8 1)) (onBus .held false [] [] [] [(frame 2 9 (List.replicate 8 1))])).isSome = true
    ∧ imdOutlets (nodeOf ((frame 2 9 (List.replicate 8 1))).id) (setNum (outIdx 3 1) 0x08 0x109 live) = [3] := by decide +kernel

theorem meets_imdCommand : up 0 (setNum 0x1C00 0x03 3 (setNum (outIdx 3 1) 0x08 0x109 (onBus .held false [] [] [] []))) = true
    ∧ holds (setNum 0x1C00 0x03 3 (setNum (outIdx 3 1) 0x08 0x109 (onBus .held false [] [] [] []))) = true
    ∧ nat (setNum 0x1C00 0x03 3 (setNum (outIdx 3 1) 0x08 0x109 (onBus .held false [] [] [] []))) (outIdx 3 1) 0x08 / 256 = 1
    ∧ (setNum 0x1C00 0x03 3 (setNum (outIdx 3 1) 0x08 0x109 (onBus .held false [] [] [] []))).site.addr.state = .held
    ∧ nat live (outIdx 3 1) 0x08 / 256 ≠ 1 := by decide +kernel

/-- A module with its Ethernet links up and TCP connections at places 1 and 3. -/
def wired : Dev := setVal (key 0x1A22 4) (.oct [1]) (onSite
    (fun s => { s with ethLink := tab (fun _ => 2), tls := tab (fun i => if i = 1 then some ⟨5, false⟩ else if i = 3 then some ⟨5, true⟩ else none) }) live)

theorem meets_ethernetLinkChange : (0 : Fin 2) ≠ 1 := by decide +kernel

theorem meets_tlsConnection : wired.site.ethLink[(1 : Fin 2)] ≠ 0 ∧ (all 4).find? (fun n => (wired.site.tls[n]).isNone) = some 0
    ∧ live.site.ethLink[(1 : Fin 2)] = 0 := by decide +kernel

theorem meets_tlsHandshakeTimeout : wired.site.tls[(1 : Fin 4)] = some ⟨5, false⟩
    ∧ (∀ x, wired.site.tls[(3 : Fin 4)] = some x → x.established = true) := by 
  exact ⟨by decide +kernel, fun x h => by
    cases h.symm.trans (by decide +kernel : wired.site.tls[(3 : Fin 4)] = some ⟨5, true⟩)
    rfl⟩

theorem meets_tlsIdleTimeout : wired.site.tls[(3 : Fin 4)] = some ⟨5, true⟩
    ∧ wired.site.sessions.toList.all (fun x => x.conn ≠ some (.tls 3)) = true
    ∧ (opened 2 live).site.sessions.toList.all (fun x => x.conn ≠ some (.tls 1)) = false := by decide +kernel

theorem meets_ptpSync : on (setNum 0x1420 0x01 1 live) 0x1420 0x01 = true ∧ up 0 live = true
    ∧ ((350 - 100 - ((350 - 100) + (640 - 400)) / 2 : Int)).natAbs ≤ nat live 0x1420 0x0A
        ∧ ¬ ((2 ^ 40 : Int)).natAbs ≤ nat live 0x1420 0x0A := by decide +kernel

theorem meets_ptpSyncLoss : (onSite (fun s => { s with ptp := { s.ptp with state := 3 } }) live).site.ptp.state = 3
    ∧ live.site.ptp.state ≠ 3 := by decide +kernel

/-- A client whose certificate chain is good. -/
def client : ClientAuth := ⟨2, some 3, [9, 9], none, false⟩
/-- A request of no open session over TLS connection 1; over the USB port without data; over the peer link. -/
def hello : Ask := ⟨.tls 1, 0, 7, 0, []⟩
def helloUsb : Ask := ⟨.usb, 0, 7, 0, []⟩
def helloPeer : Ask := ⟨.peer, 0, 7, 0, []⟩

theorem meets_openSession : reaches hello.conn wired = true ∧ (∀ n, slotOf hello.session.toNat = some n → n ∈ slotsFor hello.conn)
    ∧ hello.conn ≠ .peer ∧ clientIdentity hello client wired = some [9, 9] ∧ (∀ n : Fin 6, (wired.site.sessions[n]).conn.isNone = true)
    ∧ (slotsFor hello.conn).find? (fun n => (wired.site.sessions[n]).conn.isNone) = some 0
    ∧ clientIdentity hello ⟨2, none, [9, 9], none, false⟩ wired = none
    ∧ (slotsFor hello.conn).find? (fun n => ((onSite
        (fun s => { s with sessions := tab (fun _ => { Fresh.session with conn := some (.tls 0) }) }) wired).site.sessions[n]).conn.isNone) = none
    ∧ helloUsb.conn = .usb ∧ helloUsb.data = [] ∧ peerSessionMay live = false ∧ reaches helloPeer.conn live = true
    ∧ reaches helloPeer.conn Dev.reset = false := by decide +kernel

theorem meets_sessionTimeout : ((opened 2 live).site.sessions[(1 : Fin 6)]).conn.isSome = true ∧ (1 : Fin 6) ≠ 5
    ∧ ((onSite (fun s => { s with sessions := tab (fun _ => { Fresh.session with conn := some .peer }) }) (onPair
        (fun p => { p with silentSince := some 5 }) live)).site.sessions[(5 : Fin 6)]).conn.isSome = true
    ∧ (onPair (fun p => { p with silentSince := some 5 }) live).pair.silentSince.isSome = true
    ∧ (live.site.sessions[(1 : Fin 6)]).conn = none := by decide +kernel

theorem meets_usbChallengeExpiry : (onSite (fun s => { s with challenge := some ([1], 5) }) live).site.challenge = some ([1], 5)
    ∧ live.site.challenge = none := by decide +kernel

/-- Session 2 with this transfer. -/
def midway (t : Transfer) : Dev := onSlot 1 (fun x => { x with transfer := some t }) (opened 2 live)
/-- A transfer of an entry. -/
def piece (write : Bool) (k total : Nat) (data : List Byte) : Transfer := ⟨write, k, total, data, 5⟩
/-- Session 2 subscribes to entries. -/
def subscribed (keys : List Nat) : Dev := onSite
    (fun s => { s with subs := tab (fun i => if i = 3 then some ⟨2, 20, keys, 9, 0, 5⟩ else none) }) (opened 2 live)

theorem meets_transferTimeout : ((midway (piece true 5 9 [])).site.sessions[(1 : Fin 6)]).transfer = some (piece true 5 9 [])
    ∧ ((midway (piece true 5 9 [])).site.sessions[(1 : Fin 6)]).conn.isSome = true
        ∧ (live.site.sessions[(1 : Fin 6)]).transfer = none := by decide +kernel

theorem meets_publication : (subscribed [key 0x1041 1]).site.subs[(3 : Fin 16)] = some ⟨2, 20, [key 0x1041 1], 9, 0, 5⟩ ∧ slotOf 2 = some 1
    ∧ ((subscribed []).site.sessions[(1 : Fin 6)]).conn = some (.tls 1) ∧ stagingRoom (.tls 1) (subscribed []) = true
    ∧ subIslands [key 0x1001 1] = [] ∧ subIslands [key 0x2000 3] ≠ [] ∧ barrierLost live = false ∧ barrierLost (lost live) = true
    ∧ live.site.subs[(3 : Fin 16)] = none := by decide +kernel


/-! The services of the dictionary server (chapter 12). -/

/-- Session 2 asks over TLS, with no group owned, or with every group session 4's. -/
def open0 : Dev := opened 0 live
def open4 : Dev := opened 4 live
/-- Whether a command has a request of a service done, on which `p` holds. -/
def does (c : Instr) (d : Dev) (service : Nat) (p : Served → Bool) : Bool := match served c d with
  | some h => h.msg.service == service && decide (h.port = false → h.msg.data.length ≤ largestOn h.can) && p h
  | none => false
/-- Such a command meets the hypotheses of the claims about services. -/
theorem does_of {c : Instr} {d : Dev} {n : Nat} {p : Served → Bool} (t : does c d n p = true) : ∃ h, Does c d n h ∧ p h = true := by
  unfold does at t
  split at t
  · simp only [Bool.and_eq_true, beq_iff_eq, decide_eq_true_eq] at t
    exact ⟨_, ⟨‹_›, t.1.1, t.1.2⟩, t.2⟩
  · cases t
/-- Whether a command is a new request of session 2 at the server. -/
def asks (c : Instr) (d : Dev) : Bool := match askedBy c with
  | some q => !q.port && newRequest q d == some 1 && decide (q.ask.data.length ≤ largestData q.ask.conn)
  | none => false
/-- Such a command meets the hypothesis of the claims about requests at the server. -/
theorem asks_of {c : Instr} {d : Dev} (h : asks c d = true) : ∃ q, Asks c d q 1 := by
  unfold asks at h
  split at h
  · rename_i q e
    simp only [Bool.and_eq_true, beq_iff_eq, decide_eq_true_eq, Bool.not_eq_true'] at h
    exact ⟨q, e, h.1.1, h.1.2, h.2⟩
  · cases h
/-- A request of session 2 as it comes to the field-side port. -/
def atPort (service idx sub island : Nat) (data : List Byte) : Instr :=
  .dictionaryRequest (tenon 0x05 2 7 island (dictBytes ⟨service, 7, 2, 0, idx, sub, data⟩))
/-- Whether a client's access to an entry passes the checks of a read, those of a write, and those of the value written. -/
def okRead (h : Served) : Bool := match readGuard (h.slot.val + 1) h.msg.index h.msg.sub h.dev with | .ok _ => true | .error _ => false
def okAccess (h : Served) : Bool := match findEntry h.msg.index h.msg.sub with
  | .ok r => (writeAccess (h.slot.val + 1) h.msg.index h.msg.sub r h.dev).isNone
  | .error _ => false
def okValue (h : Served) (b : List Byte) : Bool := match findEntry h.msg.index h.msg.sub with
  | .ok r => (valueCheck h.msg.index r b).isNone
  | .error _ => false
/-- Whether a request's entry is there, and on this side. -/
def known (h : Served) : Bool := match findEntry h.msg.index h.msg.sub with | .ok _ => true | .error _ => false
def here (h : Served) : Bool := h.port || !fieldHeld h.msg.index h.msg.sub
/-- The transfer of a request's session. -/
def moving? (h : Served) : Option Transfer := (h.dev.site.sessions[h.slot]).transfer
/-- Session 4 has a transfer of the module's name. -/
def busy4 : Dev := onSlot 3 (fun x => { x with transfer := some (piece true (key 0x1000 0x0A) 9 []) }) open0
/-- Session 2 with the barrier lost. -/
def alone : Dev := lost open0
/-- Session 2 with the first n subscriptions its own, each with so large a share committed; with one that alone fills the lane. -/
def subbed (share : Nat) (n : Nat) : Dev := onSite
    (fun s => { s with subs := tab (fun i => if i.val < n then some ⟨2, 20, [], 0, share, 5⟩ else none) }) (opened 2 live)
def crowdedLane (n : Nat) : Dev := subbed (15000 * n) 1
/-- The answer to a claim or a release of group 0x11, and session 2 while it waits for it. -/
def answered (service : Nat) : TenonMsg := tenon 0x06 2 7 7 (dictBytes ⟨service, 7, 2, 0, 0x11, 0, []⟩)
def inWait : Dev := onSlot 1 (fun x => { x with outstanding := [7] }) open0
/-- A setting that session 2 may write once it owns group 0x11. -/
def claimed : Dev := opened 2 live

theorem meets_requestsCross : asks (.read (ask []) 0x2000 3) open0 = true ∧ crosses ⟨0x10, 7, 2, 0, 0x2000, 3, []⟩ open0 = true
    ∧ asks (.claimGroup (ask []) 0x11) open0 = true ∧ crosses ⟨0x20, 7, 2, 0, 0x11, 0, []⟩ open0 = true := by decide +kernel

theorem meets_closeSession : asks (.closeSession (ask [])) open0 = true ∧ barrierLost open0 = false
    ∧ asks (.closeSession (ask [])) alone = true ∧ barrierLost alone = true := by decide +kernel

theorem meets_keepAlive : does (.keepAlive (ask [])) open0 0x03 (fun _ => true) = true := by decide +kernel

theorem meets_read : does (.read (ask []) 0x1041 0xEE) open0 0x10 (fun h => !known h) = true
    ∧ does (.read (ask []) 0x1100 1) open0 0x10 (fun h => okRead h && !h.port && !fieldHeld 0x1100 1) = true
    ∧ does (atPort 0x10 0x4060 1 3 []) open0 0x10 (fun _ => match findEntry 0x4060 1 with | .ok r => r.acc == .wo | .error _ => false) = true
    ∧ does (.read (ask []) 0x1000 0x0A) busy4 0x10 (fun h => busyElsewhere 2 0x1000 0x0A h.dev) = true
    ∧ does (.read (ask []) 0x2000 3) alone 0x10 (fun h => barrierLost alone && !h.port && known h && !busyElsewhere 2 0x2000 3 h.dev) = true
    ∧ does (atPort 0x10 0x2000 3 1 []) open0 0x10 (fun h => okRead h && h.port) = true := by decide +kernel

theorem meets_write : does (.write (ask (leBytes 2 999)) 0x1041 0xEE) open0 0x11 (fun h => !known h) = true
    ∧ does (.write (ask (leBytes 2 5000)) 0x1100 2) open0 0x11 (fun h => known h && !okAccess h) = true
    ∧ does (.write (ask (leBytes 3 999)) 0x1100 1) open0 0x11 (fun h => okAccess h && !okValue h h.msg.data) = true
    ∧ does (.write (ask (leBytes 2 999)) 0x1100 1) open0 0x11 (fun h => okAccess h && okValue h h.msg.data && h.refusedBy.isSome) = true
    ∧ does (.write (ask (leBytes 2 5000)) 0x1100 1) open0 0x11 (fun h => h.taken && here h) = true
    ∧ does (atPort 0x11 0x2000 1 1 [1]) claimed 0x11 (fun h => h.taken && here h) = true := by decide +kernel

theorem meets_readSegmentedStart : does (.readSegmentedStart (ask []) 0x1100 1) open0 0x12 (fun h => okRead h && here h) = true
    ∧ segmented .u16 = false
    ∧ does (.readSegmentedStart (ask []) 0x1000 0x0A) (midway (piece false (key 0x1000 0x0A) 9 (leBytes 9 1))) 0x12 (fun h => okRead h
        && here h && (moving? h).isSome) = true
    ∧ does (.readSegmentedStart (ask []) 0x1000 0x0A) open0 0x12 (fun h => okRead h && here h && (moving? h).isNone
        && !bulkRead (key 0x1000 0x0A)) = true
    ∧ does (.readSegmentedStart (ask []) 0x1000 0x0A) busy4 0x12 (fun h => !okRead h && here h) = true
    ∧ does (.readSegmentedStart (ask []) 0x1910 6) (crowdedLane 8) 0x12 (fun h => okRead h && here h && (moving? h).isNone
        && bulkRead (key 0x1910 6) && decide (120000 < laneCommitted h.dev + transferShare)) = true := by decide +kernel

theorem meets_readSegment :
    does (.readSegment (ask (leBytes 4 2)) 0x1000 0x0A) (midway (piece false (key 0x1000 0x0A) 9 (leBytes 9 1))) 0x13
        (fun h => moving? h == some (piece false (key 0x1000 0x0A) 9 (leBytes 9 1)) && here h) = true
    ∧ leNat (leBytes 4 2) < 9 ∧ (9 : Nat) ≤ leNat (leBytes 4 9)
    ∧ does (.readSegment (ask (leBytes 4 9)) 0x1000 0x0A) (midway (piece false (key 0x1000 0x0A) 9 (leBytes 9 1))) 0x13 (fun h =>
        (moving? h).isSome && here h) = true
    ∧ does (.readSegment (ask (leBytes 4 9)) 0x1000 0x0A) open0 0x13 (fun h => (moving? h).isNone && here h) = true := by decide +kernel

theorem meets_writeSegmentedStart :
    does (.writeSegmentedStart (ask (leBytes 4 0)) 0x1000 0x0A) open0 0x14 (fun h => okAccess h && here h && (moving? h).isNone
        && (available 0x1000 0x0A h.dev).isEmpty && (holds h.dev || !leaseOnly 0x1000)) = true
    ∧ does (.writeSegmentedStart (ask (leBytes 4 32)) 0x1000 0x0A) open0 0x14 (fun h => okAccess h && here h && (moving? h).isNone
        && (available 0x1000 0x0A h.dev).isEmpty && (holds h.dev || !leaseOnly 0x1000)) = true
    ∧ (32 : Nat) ≤ (match findEntry 0x1000 0x0A with | .ok r => largestOf 0x1000 0x0A r | .error _ => 0)
    ∧ (match findEntry 0x1000 0x0A with | .ok r => segmented r.ty | .error _ => false) = true
    ∧ does (.writeSegmentedStart (ask (leBytes 4 32)) 0x1000 0x0A) (midway (piece false (key 0x1000 0x0A) 9 (leBytes 9 1))) 0x14
        (fun h => okAccess h && here h && (moving? h).isSome) = true
    ∧ does (.writeSegmentedStart (ask (leBytes 2 32)) 0x1000 0x0A) open0 0x14 (fun h => okAccess h && here h) = true := by decide +kernel

/-- The last segment of two bytes at offset 1, and a segment that is not the last. -/
def lastPart (b : Byte) : Ask := ⟨.tls 1, 2, 7, 2, leBytes 4 1 ++ [b, b]⟩
def somePart : Ask := ⟨.tls 1, 2, 7, 0, leBytes 4 1 ++ [0x41]⟩

theorem meets_writeSegment :
    does (.writeSegment somePart 0x1000 0x0A) (midway (piece true (key 0x1000 0x0A) 3 [0x41])) 0x15 (fun h => moving? h == some (piece true
        (key 0x1000 0x0A) 3 [0x41]) && here h && !bit h.msg.flags 1) = true
    ∧ leNat (somePart.data.take 4) = 1
    ∧ does (.writeSegment (lastPart 0x41) 0x1000 0x0A) (midway (piece true (key 0x1000 0x0A) 3 [0x41])) 0x15 (fun h => moving? h == some
        (piece true (key 0x1000 0x0A) 3 [0x41]) && here h && bit h.msg.flags 1 && okAccess h && okValue h ([0x41] ++ h.msg.data.drop 4)) = true
    ∧ does (.writeSegment (lastPart 0xFF) 0x1000 0x0A) (midway (piece true (key 0x1000 0x0A) 3 [0x41])) 0x15 (fun h => moving? h == some
        (piece true (key 0x1000 0x0A) 3 [0x41]) && here h && bit h.msg.flags 1 && okAccess h && !okValue h ([0x41] ++ h.msg.data.drop 4)) = true
    ∧ (match findEntry 0x1000 0x0A with | .ok r => (firstFailing (subjectChecks ⟨2, 0x1000, 0x0A, .oct [0x41, 0x41,
        0x41]⟩ r (setTransfer 1 none (midway (piece true (key 0x1000 0x0A) 3 [0x41]))))).isNone | .error _ => false) = true
    ∧ does (.writeSegment (ask (leBytes 3 0)) 0x1000 0x0A) (midway (piece true (key 0x1000 0x0A) 3 [0x41])) 0x15 (fun h => moving? h == some
        (piece true (key 0x1000 0x0A) 3 [0x41]) && here h) = true
    ∧ does (.writeSegment somePart 0x1000 0x0A) open0 0x15 (fun h => here h && (moving? h).isNone) = true := by decide +kernel

theorem meets_transferAbandon :
    does (.transferAbandon (ask [])) (midway (piece true (key 0x1000 0x0A) 3 [0x41])) 0x16 (fun _ => true) = true := by decide +kernel

theorem meets_claimGroup : does (atPort 0x20 0x11 0 7 []) open0 0x20 (fun h => groupThere h && fieldOwner 0x11 h.dev == 0) = true
    ∧ does (atPort 0x20 0x11 0 7 []) open4 0x20 (fun h => groupThere h && fieldOwner 0x11 h.dev == 4) = true
    ∧ does (.claimGroup (ask []) 6) open0 0x20 groupThere = true
    ∧ does (.claimGroup (ask []) 0x07) open0 0x20 (fun _ => !isGroup 0x07) = true
    ∧ does (.claimGroup (ask []) 0x11) alone 0x20 (fun h => isGroup 0x11 && !h.port && barrierLost alone) = true := by decide +kernel

theorem meets_releaseGroup : does (atPort 0x21 0x11 0 7 []) claimed 0x21 (fun h => groupThere h && fieldOwner 0x11 h.dev == 2) = true
    ∧ does (.releaseGroup ⟨.tls 1, 2, 7, 4, []⟩ 6) open4 0x21 (fun h => groupThere h && bit h.msg.flags 2) = true
    ∧ does (.releaseGroup ⟨.usb, 5, 7, 4, []⟩ 6) open4 0x21 (fun h => groupThere h && bit h.msg.flags 2 && h.slot == 4
        && fieldOwner 6 h.dev == 4) = true
    ∧ does (.releaseGroup (ask []) 6) open4 0x21 (fun h => groupThere h && !bit h.msg.flags 2 && fieldOwner 6 h.dev != 2) = true := by decide +kernel

theorem meets_queryOwner : does (atPort 0x22 0x11 0 7 []) open4 0x22 groupThere = true
    ∧ does (.queryOwner (ask []) 0x1F) open0 0x22 (fun _ => !isGroup 0x1F) = true := by decide +kernel

theorem meets_groupAnswers : hears .fh 0x06 (answered 0xA0) inWait = true ∧ hears .fh 0x06 (answered 0xA1) inWait = true
    ∧ (parseDict (answered 0xA0).payload).isSome = true
    ∧ (inWait.site.sessions[(1 : Fin 6)]).outstanding.contains (hdrTag (answered 0xA1).header) = true
    ∧ (inWait.site.sessions[(1 : Fin 6)]).conn.isSome = true ∧ slotOf (hdrSession (answered 0xA0).header) = some 1 := by decide +kernel

theorem meets_subscribe : does (.subscribe (ask (leBytes 2 20 ++ [1] ++ leBytes 2 0x1041 ++ [1]))) open0 0x30 (fun _ => true) = true
    ∧ (subRequest (.tls 1) 2 (leBytes 2 20 ++ [1] ++ leBytes 2 0x1041 ++ [1])).isSome = true ∧ subRequest (.tls 1) 2 [] = none
    ∧ 8 ≤ subsOf 2 (subbed 0 16) ∧ (∀ i : Fin 16, ((subbed 0 16).site.subs[i]).isSome = true) ∧ subsOf 2 open0 < 8
    ∧ open0.site.subs[(0 : Fin 16)] = none ∧ subsOf 2 (subbed 30000 4) < 8
    ∧ 120000 < laneCommitted (subbed 30000 4) + (match subRequest (.tls 1) 2
        (leBytes 2 1 ++ [3] ++ leBytes 2 0x2000 ++ [3] ++ leBytes 2 0x2001 ++ [3] ++ leBytes 2 0x2002 ++ [3]) with | some x => x.share | none => 0)
    ∧ laneCommitted open0 = 0 ∧ canFull (.can 0 9) ⟨2, 10, [key 0x1043 1], 0, 0, 5⟩ open0 = false
    ∧ canFull (.can 0 9) ⟨2, 1, List.replicate 32 (key 0x1043 1), 0, 0, 5⟩ open0 = true := by decide +kernel

theorem meets_unsubscribe : does (.unsubscribe (ask (leBytes 1 4))) (subscribed []) 0x31 (fun _ => true) = true
    ∧ (subscribed []).site.subs[(3 : Fin 16)] = some ⟨2, 20, [], 9, 0, 5⟩
    ∧ does (.unsubscribe (ask (leBytes 1 4))) open0 0x31 (fun _ => true) = true ∧ open0.site.subs[(3 : Fin 16)] = none := by decide +kernel
/-- A module in a state of the life cycle. -/
def keyed2 (n : Nat) (d : Dev) : Dev := onKeys (fun x => { x with fieldBank := n, hostBank := n }) d
/-- A module with its metrology window open and its metering heads linked. -/
def windowed (d : Dev) : Dev := { d with metro := { d.metro with
  window := some 0, meter := tab (fun k => { d.metro.meter[k] with link := true, dt := 3125, session := none, head := tab (fun i => some (i.val + 5)) }) } }
/-- An ACTIVE module of a pair in step. -/
def partnered (d : Dev) : Dev := onPair (fun p => { p with partner := some ⟨1, true, 1, 0, false, 3, 5, 1⟩ }) (setNum 0x1C00 3 2
    (setNum 0x1C00 1 1 d))

/-! Writes of chapters 2 to 6: session 2 asks over TLS, session 5 at the maintenance port, each with every group its own. -/

/-- Rails, ties and legs of a module whose rails stand so, under host control, at low voltage, with no contact closed. -/
def rails (st : RailState) (d : Dev) : Dev :=
  let k (j : Nat) (x : Dev) : Dev := let b := 0x2400 + 16 * j
    setNum (b + 1) 1 1 (setNum (b + 1) 8 1000000 (setNum (0x3001 + 16 * j) 3 1000000 (setNum (b + 2) 1 400000 (setNum (b + 3) 1 10 (setNum
        (b + 4) 8 1000 x)))))
  let d := k 3 (setNum 0x2805 1 4095 (setNum 0x2805 2 4095 d))
  { d with
    rail := tab (fun j => { Fresh.rail j with state := st, validSince := some 0, feedOk := 3 })
    time := { d.time with now := 20000000 }
    ring := { d.ring with head := tab id, tie := tab (fun _ => { Fresh.contactor with permits := 3, lows := 3 }) }
    leg := tab (fun _ => { Fresh.leg with state := .standby })
    brick := tab (fun _ => { Fresh.brick with link := .up, fresh := true, railGood := true, vRail := 12 })
    safety := { d.safety with fb := tab (fun _ => ⟨true, 5, true⟩) } }
/-- The same for session 2, and for session 5. -/
def railed (st : RailState) : Dev := rails st (opened 2 live)
/-- A leg, an outlet, a generator, a channel and a tie changed. -/
def legAs (st : LegState) (d : Dev) : Dev := { d with leg := tab (fun _ => { Fresh.leg with state := st }) }
def outAs (st : OutState) (d : Dev) : Dev := { d with out := tab (fun _ => { Fresh.outlet with state := st }) }
def genAs (u : GenUser) (d : Dev) : Dev := { d with eng := { d.eng with gen := tab (fun g => { Fresh.gen g with user := u }) } }

theorem meets_contactorTest : okWrite (.contactorTest (ask (leBytes 2 259))) (railed .free) = true := by decide +kernel

theorem meets_clearFrozenTie : okWrite (.clearFrozenTie (ask (leBytes 1 3))) (railed .free) = true := by decide +kernel

theorem meets_clearContactorTravelFault : okWrite (.clearContactorTravelFault (ask (leBytes 2 515))) (railed .free) = true := by decide +kernel

theorem meets_ringConfigurationWrite : okWrite (.ringConfigurationWrite (ask (leBytes 2 7)) 0x2805 2) (railed .free) = true
    ∧ ringConfigurationEntry 0x2805 2 = true := by decide +kernel

theorem meets_isolationRequest : okWrite (.isolationRequest (ask (leBytes 1 1)) 3) (setNum 0x2203 1 1 (railed .free)) = true := by decide +kernel

theorem meets_legFaultReset : okWrite (.legFaultReset (ask []) 3) (legAs .fault (railed .free)) = true := by decide +kernel

theorem meets_legEnableWrite : okWrite (.legEnableWrite (ask (leBytes 1 1)) 3) (railed .free) = true := by decide +kernel

theorem meets_peakCapture : okWrite (.peakCapture (ask []) true 3) (railed .free) = true
    ∧ okWrite (.peakCapture (ask []) false 3) (railed .free) = true := by decide +kernel

theorem meets_controlSourceWrite : okWrite (.controlSourceWrite (ask (leBytes 1 1)) 3) (setNum 0x2431 1 0 (railed .free)) = true := by decide +kernel

theorem meets_setpointIndexWrite : okWrite (.setpointIndexWrite (ask (leBytes 1 0)) 3) (railed .live) = true := by decide +kernel

theorem meets_directSetpointWrite : okWrite (.directSetpointWrite (ask (leBytes 4 200000)) 3) (railed .live) = true := by decide +kernel

theorem meets_modeRequestWrite : okWrite (.modeRequestWrite (ask (leBytes 1 0)) 3) (railed .live) = true := by decide +kernel

theorem meets_railStart : okWrite (.railStart (ask []) 3) (railed .free) = true := by decide +kernel

theorem meets_railStop : okWrite (.railStop (ask []) 3) (railed .live) = true := by decide +kernel

theorem meets_railIsolate : okWrite (.railIsolate (ask []) 3) (railed .free) = true := by decide +kernel

theorem meets_railRestore : okWrite (.railRestore (ask []) 3) (railed .isolated) = true := by decide +kernel

theorem meets_ratiometricStart :
    okWrite (.ratiometricStart (ask []) 3) (setNum 0x2435 1 8 (setNum 0x2435 2 300000 (setNum 0x2435 3 10 (railed .live)))) = true
        := by decide +kernel

theorem meets_classFormatWrite :
    okWrite (.classFormatWrite (ask (leBytes 1 1)) 0) (setVal (key 0x2610 1) (.bfp 0 0) (setVal (key 0x2610 2) (.bfp 0 0) (setVal (key 0x2610 3)
        (.bfp 0 0) (opened 2 live)))) = true := by decide +kernel

theorem meets_coefficientWrite : okWrite (.coefficientWrite (ask (leBytes 3 0)) 0x2610 1) (opened 2 live) = true
    ∧ coefficientEntry 0x2610 1 = true := by decide +kernel

theorem meets_generatorTargetWrite : okWrite (.generatorTargetWrite (ask (leBytes 4 100)) 25 6) (genAs .hostFree (opened 2 live)) = true
    := by decide +kernel

theorem meets_generatorStart : okWrite (.generatorStart (ask []) 25) (genAs .hostFree (opened 2 live)) = true := by decide +kernel

theorem meets_injectionStart :
    okWrite (.injectionStart (ask []) 0) (setNum 0x2700 1 0x402 (setNum 0x2702 1 20000 (setNum 0x2700 4 10 (setNum 0x2700 5 200
        (setNum 0x2700 6 300 (setNum 0x2700 7 5 (setNum 0x2700 8 5 (opened 2 live)))))))) = true := by decide +kernel

theorem meets_injectionStop : okWrite (.injectionStop (ask []) 0) (opened 2 live) = true := by decide +kernel

theorem meets_followingErrorReset : okWrite (.followingErrorReset (ask []) 3) (opened 2 live) = true := by decide +kernel

theorem meets_gridLimitWrite : okWrite (.gridLimitWrite (ask (leBytes 4 100)) 1) (opened 2 live) = true := by decide +kernel

theorem meets_replan : okWrite (.replan (ask [])) { (opened 2 live) with ring := Fresh.ring false } = true := by decide +kernel

theorem meets_layoutHoldWrite : okWrite (.layoutHoldWrite (ask (leBytes 1 1))) { (opened 2 live) with ring := Fresh.ring false } = true
    := by decide +kernel


/-! Writes of chapters 7 to 10. -/

theorem meets_outletStop : okWrite (.outletStop (ask []) 3) (outAs .delivering (railed .live)) = true := by decide +kernel

theorem meets_outletOutOfService : okWrite (.outletOutOfService (ask []) 3) (outAs .idle (railed .free)) = true := by decide +kernel

theorem meets_outletReturnToService : okWrite (.outletReturnToService (ask []) 3) (setNum 0x3031 5 1 (keyed2 2 (railed .free))) = true
    := by decide +kernel

theorem meets_outletFaultReset : okWrite (.outletFaultReset (ask []) 3) (outAs .faulted (railed .free)) = true := by decide +kernel

theorem meets_authorizationResultWrite :
    okWrite (.authorizationResultWrite (ask (leBytes 1 1)) 3)
        ({ (opened 2 live) with vehicle := tab (fun _ => { Fresh.vehicle with pendingSince := some 5 }) } : Dev) = true := by decide +kernel

theorem meets_pairHead : okWrite (.pairHead (ask []) 3) (windowed (opened 2 live)) = true := by decide +kernel

theorem meets_metrologyWindowOpen : okWrite (.metrologyWindowOpen (askUsb [])) (keyed2 2 (opened 5 live)) = true := by decide +kernel

theorem meets_metrologyWindowClose : okWrite (.metrologyWindowClose (askUsb [])) (windowed (opened 5 live)) = true := by decide +kernel

theorem meets_sealRelevantWrite : okWrite (.sealRelevantWrite (ask (leBytes 1 1)) 0x3833 1) (windowed (opened 2 live)) = true
    ∧ sealEntry 0x3833 1 = true := by decide +kernel

theorem meets_sf2FaultReset : okWrite (.sf2FaultReset (ask (leBytes 1 3))) (setNum 0x4000 1 1 (opened 2 live)) = true := by decide +kernel

theorem meets_sf1FaultReset : okWrite (.sf1FaultReset (ask (leBytes 1 3))) (setNum 0x4000 1 1 (opened 2 live)) = true := by decide +kernel

theorem meets_safetyRestart : okWrite (.safetyRestart (ask [])) (onSafety (fun x => { x with held := some (2, 0) }) (opened 2 live)) = true
    := by decide +kernel

theorem meets_transactionOpen : okWrite (.transactionOpen (askUsb [])) (opened 5 live) = true := by decide +kernel

set_option maxRecDepth 1000000 in

theorem meets_transactionCommit :
    okWrite (.transactionCommit (ask [])) (setNum 0x4060 3 (pendingCrc (onSafety
        (fun x => { x with password := some ([1], [2]), trans := some ⟨2, 0, [], none, false⟩ }) (opened 2 live))) (onSafety
        (fun x => { x with password := some ([1], [2]), trans := some ⟨2, 0, [], none, false⟩ }) (opened 2 live))) = true := by decide +kernel

theorem meets_transactionAbort :
    okWrite (.transactionAbort (ask [])) (onSafety (fun x => { x with password := some ([1], [2]), trans := some ⟨2, 0, [], none, false⟩ })
        (opened 2 live)) = true := by decide +kernel

theorem meets_safeWrite :
    okWrite (.safeWrite (ask (leBytes 1 4)) 0x4020 2) (onSafety
        (fun x => { x with password := some ([1], [2]), trans := some ⟨2, 0, [], none, false⟩ }) (opened 2 live)) = true
    ∧ safeEntry 0x4020 2 = true := by decide +kernel

theorem meets_channelCommandWrite : okWrite (.channelCommandWrite (ask (leBytes 1 1)) false 3) (opened 2 live) = true
    ∧ okWrite (.channelCommandWrite (ask (leBytes 2 32767)) true 3) (opened 2 live) = true := by decide +kernel

theorem meets_channelClear : okWrite (.channelClear (ask []) 3) (opened 2 live) = true := by decide +kernel

theorem meets_forcedSelectWrite : okWrite (.forcedSelectWrite (ask (leBytes 1 3))) (opened 2 live) = true := by decide +kernel

theorem meets_externalSelectPermitWrite : okWrite (.externalSelectPermitWrite (ask (leBytes 1 1))) (opened 2 live) = true := by decide +kernel

theorem meets_limpHomeMapWrite : okWrite (.limpHomeMapWrite (ask (leBytes 1 9)) 3) (opened 2 live) = true := by decide +kernel

theorem meets_generalInputEnableWrite : okWrite (.generalInputEnableWrite (ask (leBytes 1 3))) (opened 2 live) = true := by decide +kernel


/-! Writes of chapters 11 to 15. -/

theorem meets_swap : okWrite (.swap (ask [])) (partnered (opened 2 live)) = true := by decide +kernel

theorem meets_pairingConfigurationWrite : okWrite (.pairingConfigurationWrite (ask (leBytes 1 1)) 2) (opened 2 live) = true
    ∧ okWrite (.pairingConfigurationWrite (ask (leBytes 1 1)) 1) (setNum 0x2301 4 8 (opened 2 live)) = true := by decide +kernel

theorem meets_reClaim : okWrite (.reClaim (ask [])) (opened 2 live) = true := by decide +kernel

theorem meets_wallClockWrite : okWrite (.wallClockWrite (ask (leBytes 8 5))) (opened 2 live) = true := by decide +kernel

theorem meets_removeNode :
    okWrite (.removeNode (ask (leBytes 1 3))) (onEave (fun e => { e with master := true }) (setNum 0x1300 0x01 1 (opened 2 live))) = true
        := by decide +kernel

theorem meets_expectedSerialWrite : okWrite (.expectedSerialWrite (ask (leBytes 8 3)) 3) (opened 2 live) = true := by decide +kernel

theorem meets_dmaChannelStart : okWrite (.dmaChannelStart (ask (leBytes 4 (2 ^ 31))) 3) (setNum 0x1813 3 4 (opened 2 live)) = true
    := by decide +kernel

theorem meets_dmaStopRequest :
    okWrite (.dmaStopRequest (ask []) 3) ({ (opened 2 live) with dma := { Fresh.dma with chan := tab (fun _ => { Fresh.dma.chan[(3 : Fin 16)] with state := .running, starter := 2 }) } } : Dev) = true := by decide +kernel

theorem meets_dmaChannelRegisterWrite : okWrite (.dmaChannelRegisterWrite (ask (leBytes 2 4)) 3 2) (opened 2 live) = true
    ∧ okWrite (.dmaChannelRegisterWrite (ask (leBytes 4 32)) 3 3) (opened 2 live) = true := by decide +kernel

theorem meets_descriptorWrite : okWrite (.descriptorWrite (ask (leBytes 16 5)) 70) (opened 2 live) = true := by decide +kernel

theorem meets_captureClaim : okWrite (.captureClaim (ask [])) (opened 2 live) = true := by decide +kernel

theorem meets_captureRelease :
    okWrite (.captureRelease (ask [])) ({ (opened 2 live) with dma := { Fresh.dma with capState := .held, capOwner := 2 } } : Dev) = true
        := by decide +kernel

theorem meets_snapshotTriggerCommand : okWrite (.snapshotTriggerCommand (ask [])) (opened 2 live) = true := by decide +kernel

theorem meets_transitionArm : okWrite (.transitionArm (askUsb (leBytes 4 5))) (opened 5 live) = true := by decide +kernel

theorem meets_transitionToField :
    okWrite (.transitionToField (askUsb [])) (onKeys (fun x => { x with armed := some (5, 0), fieldBank := 2, hostBank := 2 })
        (opened 5 live)) = true := by decide +kernel

theorem meets_transitionToReturn :
    okWrite (.transitionToReturn (askUsb [])) (onKeys (fun x => { x with armed := some (5, 0), fieldBank := 3, hostBank := 3 })
        (opened 5 live)) = true := by decide +kernel

theorem meets_transitionToDecommissioned :
    okWrite (.transitionToDecommissioned (askUsb [])) (onKeys (fun x => { x with armed := some (5, 0), fieldBank := 3, hostBank := 3 })
        (opened 5 live)) = true := by decide +kernel

theorem meets_keyValueWrite : okWrite (.keyValueWrite (askUsb (List.replicate 32 7)) 3) (setNum 0x1A43 1 3 (opened 5 live)) = true
    := by decide +kernel

theorem meets_keyGenerate : okWrite (.keyGenerate (askUsb []) 3) (setNum 0x1A43 1 1 (opened 5 live)) = true := by decide +kernel

theorem meets_keyDelete : okWrite (.keyDelete (askUsb []) 3) (opened 5 live) = true := by decide +kernel

theorem meets_publicItemWrite : okWrite (.publicItemWrite (askUsb []) 0x1A20 1) (opened 5 live) = true ∧ publicItemEntry 0x1A20 1 = true
    ∧ okWrite (.publicItemWrite (askUsb (List.replicate 32 1)) 0x1A11 1) (opened 5 live) = true := by decide +kernel

/-- An image of type 0 without a body. -/
def image0 : List Byte := leBytes 4 0x36394854 ++ [1, 1] ++ leBytes 2 65000 ++ [200, 0] ++ leBytes 2 3 ++ leBytes 4 0 ++ List.replicate 304 0

theorem meets_imageStage : okWrite (.imageStage (askUsb image0) 0) (opened 5 live) = true := by decide +kernel

theorem meets_discardStaged : okWrite (.discardStaged (askUsb []) 0) (opened 5 live) = true := by decide +kernel

theorem meets_fallBack : okWrite (.fallBack (askUsb []) 0) (setNum (imgIdx 0) 3 1 (opened 5 live)) = true := by decide +kernel

theorem meets_activateModule : okWrite (.activateModule (askUsb []) 0) (setNum (imgIdx 0) 6 1 (opened 5 live)) = true
    ∧ okWrite (.activateModule (askUsb []) 1) (setNum (imgIdx 1) 6 1 (opened 5 live)) = true := by decide +kernel

theorem meets_commit : okWrite (.commit (ask [])) (opened 2 live) = true := by decide +kernel

theorem meets_restoreDefaults : okWrite (.restoreDefaults (ask [])) (opened 2 live) = true := by decide +kernel
/-- A module with a password whose digest no rule gives, and the password's write. -/
def secret : Dev := onSafety (fun x => { x with password := some ([1], Config.sha256 ([1] ++ leBytes 8 77)) }) (opened 2 live)
theorem meets_passwordWrite : okWrite (.passwordWrite (ask (leBytes 8 77))) secret = true := by
  let q : DictMsg := requestMsg 0x11 0x4060 0x01 (ask (leBytes 8 77))
  have n : served (.passwordWrite (ask (leBytes 8 77))) secret = some ⟨1, q, false, true, secret⟩ := by
    have a : up 7 secret = true := by decide +kernel
    have b : secret.site.fieldSession[(1 : Fin 6)] = some (3, []) := by decide +kernel
    have c : (decide (0x20 ≤ q.service) || islandUp (targetIsland q) secret) = true := by decide +kernel
    have f : fieldHeld 0x4060 0x01 = true := by decide +kernel
    have g : slotOf (ask (leBytes 8 77)).session.toNat = some 1 := by decide +kernel
    simp only [served, askedBy, Asked.named, f, g, a, if_true]
    show portServed 1 q secret = _
    unfold portServed
    rw [b]
    show (if (decide (0x20 ≤ q.service) || islandUp (targetIsland q) secret) = true then _ else _) = _
    rw [c]
    rfl
  have e : findEntry 0x4060 0x01 = .ok (row 0x4060 1 1 0x01 0x01 .str .wo .v (.bytes []) (.any)) := by decide +kernel
  let r := row 0x4060 1 1 0x01 0x01 .str .wo .v (.bytes []) (.any)
  have a : (writeAccess 2 0x4060 0x01 r secret).isNone = true := by decide +kernel
  have v : (valueCheck 0x4060 r (leBytes 8 77)).isNone = true := by decide +kernel
  have w : (⟨1, q, false, true, secret⟩ : Served).write = ⟨2, 0x4060, 0x01, .oct (leBytes 8 77)⟩ := by
    have t : rowOf 0x4060 0x01 = some r := by decide +kernel
    have b : bytesVal r.ty (leBytes 8 77) = .oct (leBytes 8 77) := by decide +kernel
    unfold Served.write
    rw [show rowOf q.index q.sub = some r from t]
    show (⟨2, 0x4060, 0x01, bytesVal r.ty (leBytes 8 77)⟩ : WriteCall) = _
    rw [b]
  have p : passwordRight (leBytes 8 77) secret = true := decide_eq_true rfl
  have s : subjectChecks ⟨2, 0x4060, 0x01, .oct (leBytes 8 77)⟩ r secret = [] := by
    have h : handlerOf 0x4060 0x01 = passwordHandler := rfl
    have x : available 0x4060 0x01 secret = [] := by decide +kernel
    have y : (leaseOnly 0x4060 && !holds secret) = false := by decide +kernel
    have z : (!inDom r.dom (.oct (leBytes 8 77))) = false := by decide +kernel
    have c1 : secret.safety.password.isNone = false := rfl
    have c2 : secret.safety.lockedOut.isSome = false := rfl
    have bytes : (⟨2, 0x4060, 0x01, .oct (leBytes 8 77)⟩ : WriteCall).bytes = leBytes 8 77 := rfl
    simp only [subjectChecks, x, y, h, passwordHandler, c1, c2, Machine.failing]
    rw [z, bytes, p]
    simp
  unfold okWrite
  rw [n]
  show Served.taken ⟨1, q, false, true, secret⟩ = true
  unfold Served.taken
  rw [w, show findEntry q.index q.sub = _ from e]
  show (q.service == 0x11 && (writeAccess 2 0x4060 0x01 r secret).isNone && (valueCheck 0x4060 r (leBytes 8 77)).isNone
    && (firstFailing (subjectChecks ⟨2, 0x4060, 0x01, .oct (leBytes 8 77)⟩ r secret)).isNone) = true
  rw [a, v, s]
  rfl


/-- The ACTIVE module of a pair in step with an image of type 0 staged, as the server finds it on session 5's activation. -/
def pairReady : Dev := setNum (imgIdx 0) 6 1 (partnered (opened 5 live))
def activation : Asked := .named 0x1B20 0x01 { askUsb [] with data := leBytes 1 16 }
/-- The activation is taken wherever the partner holds the image too, which no rule says. -/
theorem meets_activatePair : ∃ h, served (.activatePair (askUsb []) 0) pairReady = some h ∧ (partnerHolds h.dev = true → h.taken = true) := by
  refine ⟨⟨4, activation.msg, false, false, arrive 4 activation pairReady⟩, ?_, fun p => ?_⟩
  · have a : newRequest activation pairReady = some 4 := by decide +kernel
    have b : crosses activation.msg pairReady = false := by decide +kernel
    have c : activation.port = false := by decide +kernel
    simp only [served, show askedBy (.activatePair (askUsb []) 0) = some activation from rfl, c, a, b]
    rfl
  · let w : WriteCall := ⟨5, 0x1B20, 0x01, .num 16⟩
    let d := arrive 4 activation pairReady
    have e : ∃ r, findEntry 0x1B20 0x01 = .ok r ∧ rowOf 0x1B20 0x01 = some r ∧ (writeAccess 5 0x1B20 0x01 r d).isNone = true
        ∧ (valueCheck 0x1B20 r (leBytes 1 16)).isNone = true ∧ bytesVal r.ty (leBytes 1 16) = .num 16 ∧ (!inDom r.dom w.val) = false :=
      ⟨_, rfl, rfl, by decide +kernel, by decide +kernel, by decide +kernel, by decide +kernel⟩
    obtain ⟨r, e1, e2, e3, e4, e5, e6⟩ := e
    have u : (⟨4, activation.msg, false, false, d⟩ : Served).write = w := by
      unfold Served.write
      rw [show rowOf activation.msg.index activation.msg.sub = some r from e2]
      show (⟨5, 0x1B20, 0x01, bytesVal r.ty (leBytes 1 16)⟩ : WriteCall) = w
      rw [e5]
    have k : subjectChecks w r d = [] := by
      let t : Fin 5 := ⟨w.nat % 16 % 5, by omega⟩
      have x : available 0x1B20 0x01 d = [] := by decide +kernel
      have y : (leaseOnly 0x1B20 && !holds d) = false := by decide +kernel
      have z : needsPrivilege w d = [] := by decide +kernel
      have c1 : (d.sys.act.isSome || d.sys.store.toList.any (fun x => x.writing.isSome)) = false := by decide +kernel
      have c2 : (num d (imgIdx t) 0x06 != 1) = false := by decide +kernel
      have m : (w.nat / 16 == 1) = true := by decide +kernel
      have c3 : activationMay t true d = true := by decide +kernel
      have c4 : (w.nat / 16 == 1 && formatChanges t d) = false := by decide +kernel
      have c5 : (w.nat / 16 == 1 && roleOf d != 2) = false := by decide +kernel
      have c6 : (match d.pair.partner with | some q => q.inStep | none => false) = true := by decide +kernel
      have ck (b : Bool) (i j : Nat) (h : b = false) : Machine.failing b i j = [] := by rw [h]; rfl
      have p : partnerHolds d = true := p
      have q : activateHandler.checks w d = [] := by
        simp only [activateHandler, List.append_eq_nil_iff]
        have c0 : (decide (2 ≤ w.nat / 16) || decide (5 ≤ w.nat % 16)) = false := by decide +kernel
        have c7 : (!activationMay t (w.nat / 16 == 1) d || (!(w.nat / 16 == 1) && formatChanges t d && !allOutOfService d)) = false
            := by rw [m, c3]; rfl
        have c8 : (w.nat / 16 == 1 && !((match d.pair.partner with | some q => q.inStep | none => false) && partnerHolds d)) = false
            := by rw [m, c6, p]; rfl
        exact ⟨⟨⟨⟨⟨⟨⟨z, ck _ _ _ c0⟩, ck _ _ _ c1⟩, ck _ _ _ c2⟩, ck _ _ _ c7⟩, ck _ _ _ c5⟩, ck _ _ _ c8⟩, ck _ _ _ c4⟩
      unfold subjectChecks
      rw [show available w.idx w.sub d = [] from x, show (leaseOnly w.idx && !holds d) = false from y, e6]
      show [] ++ [] ++ activateHandler.checks w d ++ [] = []
      rw [q]
      rfl
    unfold Served.taken
    rw [show (⟨4, activation.msg, false, false, arrive 4 activation pairReady⟩ : Served).write = w from u,
      show findEntry activation.msg.index activation.msg.sub = _ from e1]
    show ((0x11 : Nat) == 0x11 && (writeAccess 5 0x1B20 0x01 r d).isNone && (valueCheck 0x1B20 r (leBytes 1 16)).isNone
      && (firstFailing (subjectChecks w r d)).isNone) = true
    rw [e3, e4, k]
    rfl



/-! Requests that are refused, repeated or not open, the interlock and frames. -/

/-- Whether a command has a write done that check 7 refuses with this code. -/
def refusedAs (c : Instr) (d : Dev) (code : Nat) : Bool :=
  does c d 0x11 (fun h => here h && h.refusedBy == some code && !leavesTrace h.msg.index h.msg.sub && (rowOf h.msg.index h.msg.sub).isSome)
/-- Whether a command has a write done that passes checks 1 to 6 and the first steps of check 7. -/
def judgedOk (c : Instr) (d : Dev) : Bool := does c d 0x11 (fun h => here h && (available h.msg.index h.msg.sub h.dev).isEmpty
  && (!leaseOnly h.msg.index || holds h.dev) && okAccess h && okValue h h.msg.data)
/-- Such a command meets the hypothesis of the refusals. -/
theorem judged_of {c : Instr} {d : Dev} (t : judgedOk c d = true) : ∃ h, Does c d 0x11 h ∧ Judged h := by
  obtain ⟨h, g, p⟩ := does_of t
  simp only [Bool.and_eq_true, List.isEmpty_iff] at p
  obtain ⟨⟨⟨⟨p1, p2⟩, p3⟩, p4⟩, p5⟩ := p
  refine ⟨h, g, by simpa [here, There] using p1, p2, fun l => by simpa [l] using p3, ?_⟩
  unfold okAccess at p4
  split at p4
  · rename_i r e
    refine ⟨r, e, Option.isNone_iff_eq_none.mp p4, ?_⟩
    simpa [okValue, e] using p5
  · cases p4

theorem meets_refusedWrites : refusedAs (.write (ask (leBytes 2 999)) 0x1100 1) open0 0x11000020 = true
    ∧ refusedAs (.railStart (ask []) 3) (railed .live) 0x24000015 = true := by decide +kernel

theorem meets_contactorTest_refused : judgedOk (.contactorTest (ask (leBytes 2 0x103))) (outAs .delivering (railed .free)) = true
    ∧ allOutOfService (outAs .delivering (railed .free)) = false ∧ judgedOk (.contactorTest (ask (leBytes 2 0x103))) (railed .free) = true
    ∧ allOutOfService (opened 2 live) = true ∧ contactorNamed (leNat (leBytes 2 0x103)) = some (.tie 3)
    ∧ refusal outletPermit (.tie 3) (askContactor (.tie 3) true (opened 2 live)) = some 3
    ∧ judgedOk (.contactorTest (ask (leBytes 2 0x103))) (opened 2 live) = true := by decide +kernel

theorem meets_restoreDefaults_refused : judgedOk (.restoreDefaults (ask [])) (outAs .delivering (opened 2 live)) = true
    ∧ allOutOfService (outAs .delivering (opened 2 live)) = false := by decide +kernel

theorem meets_wallClock_refused :
    judgedOk (.wallClockWrite (ask (leBytes 8 5))) (onSite (fun s => { s with ptp := { s.ptp with state := 3 } }) (opened 2 live)) = true
        := by decide +kernel

/-- Session 2's previous request was this read, and its answer is kept. -/
def repeated : Dev := onSlot 1 (fun x => { x with prev := some (⟨0x10, 7, 2, 0, 0x1041, 1, []⟩, 5), reply := some ⟨0x90, 7, 2, 0, 0x1041, 1, [3]⟩ }) open0

theorem meets_repeatedRequests : slotOf (ask []).session.toNat = some 1 ∧ reaches (ask []).conn repeated = true ∧ hostService 0x10 = true
    ∧ (repeated.site.sessions[(1 : Fin 6)]).conn = some (ask []).conn
    ∧ (repeated.site.sessions[(1 : Fin 6)]).prev = some ((⟨0x10, 0x1041, 1, ask [], false⟩ : Asked).msg, 5)
        ∧ repeated.time.now ≤ 5 + sec 2 := by decide +kernel

theorem meets_unopenedSessions : (∀ n, slotOf (askUsb []).session.toNat = some n → (live.site.sessions[n]).conn ≠ some (askUsb []).conn)
    := by decide +kernel

theorem meets_ownersOnly :
    does (.write (ask (leBytes 1 1)) 0x3123 1) open4 0x11 (fun h => here h
        && (match findEntry h.msg.index h.msg.sub with | .ok r => r.keep != .f && (r.acc == .own || r.acc == .cmd) | .error _ => false)
        && !h.port && groupOf 0x3123 1 == some 0x33 && ownerOf 0x33 h.dev != 2) = true
    ∧ does (atPort 0x11 0x2431 2 1 (leBytes 1 0)) open4 0x11 (fun h => here h
        && (match findEntry h.msg.index h.msg.sub with | .ok r => r.keep != .f && (r.acc == .own || r.acc == .cmd) | .error _ => false)
        && groupOf 0x2431 2 == some 0x13 && fieldOwner 0x13 h.dev != 2) = true := by decide +kernel

theorem meets_interlock :
    (contactor (.tie 3) (askContactor (.tie 3) true (railed .free))).want ≠ (contactor (.tie 3) (askContactor (.tie 3) true (railed .free))).cmd
    ∧ refusal outletPermit (.tie 3) (askContactor (.tie 3) true (railed .free)) = none
    ∧ (contactor (.tie 3) (judge outletPermit (.tie 3) (askContactor (.tie 3) true (railed .free)))).cmd = true
    ∧ refusal outletPermit (.tie 3) (askContactor (.tie 3) true live) = some 3 := by decide +kernel

/-- The module with nothing waiting. -/
def at_ (d : Dev) : State := ⟨d, []⟩
/-- Commands of every family of the frames answer a next state. -/
theorem meets_frames : ∀ c ∈ ([.safetyFeed, .fieldIslandRestart, .planningCycle, .deratingUpdate, .periodicSave, .coreDisagreement 0,
    .loadSupplyLow, .leaseExpiry, .canHeartbeat, .keepAlive (ask []), .eavelineCycle, .hostPowerUp] : List Instr), ∃ t,
        exec c (at_ live) = .next t := by
  simp only [List.mem_cons, List.not_mem_nil, or_false, forall_eq_or_imp, forall_eq]
  exact ⟨⟨_, rfl⟩, ⟨_, rfl⟩, ⟨_, rfl⟩, ⟨_, rfl⟩, ⟨_, rfl⟩, ⟨_, rfl⟩, ⟨_, rfl⟩, ⟨_, rfl⟩, ⟨_, rfl⟩, ⟨_, rfl⟩, ⟨_, rfl⟩, ⟨_, rfl⟩⟩


/-! Single steps, and the functions that the host asks. -/

theorem test_step_front (c : Instr) (d : Dev) (rest : List Instr) : step ⟨d, c :: rest⟩ = exec c ⟨d, rest⟩ := rfl
theorem test_step_idle (d : Dev) : step ⟨d, []⟩ = .next ⟨d, []⟩ := rfl
theorem test_no_word_spells_a_command : decodeTableWord 16 0x1234 = none ∧ decodeTableWord 0 0 = none := by decide
theorem test_word_changes_nothing : State.withFetchWord State.reset 16 5 = State.reset := rfl
theorem test_reset_canonical : regsWf State.reset.dev.regs = true ∧ Memory.wf State.reset.dev.dma.mem = true := by decide
/-- R15: REF_IN within 20 ppm for 1 s drives the master where it is allowed. -/
theorem test_reference_switch : (match exec (.referenceSwitch (some 20000))
    (at_ { setNum 0x1040 0x03 1 live with time := { live.time with goodSince := some 0 } }) with
    | .next t => t.dev.time.onRefIn
    | _ => false) = true := by decide +kernel
/-- R390: the wall clock is UTC less the site time. -/
theorem test_crc32_check_value : crc32 [0x31, 0x32, 0x33, 0x34, 0x35, 0x36, 0x37, 0x38, 0x39] = 0xCBF43926 := by decide +kernel
/-- R23: the CRC of a tenon message is that of Table 1.5, and a message with another is not heard. -/
theorem test_bad_crc_not_heard : hears .hf 1 { tenon 1 0 0 7 [] with crc := 0 } live = false := by decide +kernel


/-! Well-formedness: each check refuses a term, and lets a good one pass. -/

/-- A tenon message, a CAN FD frame, a peer frame, a block, and requests that are too long or have no tag. -/
def longMsg : TenonMsg := ⟨true, 0, List.replicate 2048 0, 0⟩
def shortMsg : TenonMsg := ⟨true, 0, [], 0⟩
def longFrame : CanFrame := ⟨0, false, List.replicate 9 0, 0⟩
def fullFrame : CanFrame := ⟨0, true, List.replicate 64 0, 0⟩
def longPeer : PeerFrame := ⟨0, true, 1, 0, 9, List.replicate 1025 0, 0⟩
def shortPeer : PeerFrame := ⟨0, true, 1, 0, 9, [], 0⟩
def longBlock : EaveBlock := ⟨true, List.replicate 1025 0, 0⟩
def shortBlock : EaveBlock := ⟨true, [], 0⟩
def untagged : Ask := ⟨.tls 1, 2, 0, 0, []⟩
def plain : Ask := ask []
def withData : Ask := ask [1]
theorem smoke_tenon : (Instr.heartbeat .host longMsg).wellFormed = false ∧ (Instr.heartbeat .host shortMsg).wellFormed = true
    ∧ (Instr.event longMsg).wellFormed = false ∧ (Instr.dictionaryRequest longMsg).wellFormed = false := by decide +kernel
theorem smoke_notice : (Instr.sessionNotice shortMsg ⟨1, true, 6, []⟩).wellFormed = false
    ∧ (Instr.sessionNotice shortMsg ⟨1, true, 5, []⟩).wellFormed = true := by decide +kernel
theorem smoke_site_data : (Instr.sitePowerData shortMsg (.frontEnd 0 (2 ^ 32) 0 0 0)).wellFormed = false
    ∧ (Instr.sitePowerData shortMsg (.frontEnd 0 0 (2 ^ 32) 0 0)).wellFormed = false
    ∧ (Instr.sitePowerData shortMsg (.frontEnd 0 0 0 256 0)).wellFormed = false
    ∧ (Instr.sitePowerData shortMsg (.imd 0 65536 0 0)).wellFormed = false
    ∧ (Instr.sitePowerData shortMsg (.imd 0 65535 255 0)).wellFormed = true := by decide +kernel
theorem smoke_retransmit : (Instr.meteringRecordRetransmit 0).wellFormed = false ∧ (Instr.meteringRecordRetransmit 1).wellFormed = true := by decide
theorem smoke_image_block : (Instr.imageBlock shortMsg 1 0 (List.replicate 1017 0)).wellFormed = false
    ∧ (Instr.imageBlock shortMsg 1 0 (List.replicate 1016 0)).wellFormed = true := by decide +kernel
theorem smoke_asks : (Instr.contactorTest untagged).wellFormed = false ∧ (Instr.contactorTest withData).wellFormed = true
    ∧ (Instr.railStart withData 3).wellFormed = false ∧ (Instr.railStart untagged 3).wellFormed = false
    ∧ (Instr.railStart plain 3).wellFormed = true ∧ (Instr.imageStage untagged 0).wellFormed = false
    ∧ (Instr.contactorTest (ask (List.replicate 65536 0))).wellFormed = false := by decide +kernel
theorem smoke_families : (Instr.ringConfigurationWrite withData 0x2805 3).wellFormed = false
    ∧ (Instr.ringConfigurationWrite withData 0x2805 2).wellFormed = true
    ∧ (Instr.coefficientWrite withData 0x2620 3).wellFormed = false ∧ (Instr.coefficientWrite withData 0x2620 4).wellFormed = true
    ∧ (Instr.sealRelevantWrite withData 0x3830 6).wellFormed = false ∧ (Instr.sealRelevantWrite withData 0x3830 8).wellFormed = true
    ∧ (Instr.safeWrite withData 0x4100 1).wellFormed = false ∧ (Instr.safeWrite withData 0x4020 1).wellFormed = true
    ∧ (Instr.publicItemWrite withData 0x1A27 1).wellFormed = false ∧ (Instr.publicItemWrite withData 0x1A20 1).wellFormed = true
    ∧ (Instr.generatorTargetWrite withData 3 7).wellFormed = false ∧ (Instr.generatorTargetWrite withData 3 6).wellFormed = true
    ∧ (Instr.gridLimitWrite withData 4).wellFormed = false ∧ (Instr.gridLimitWrite withData 3).wellFormed = true
    ∧ (Instr.pairingConfigurationWrite withData 3).wellFormed = false ∧ (Instr.pairingConfigurationWrite withData 2).wellFormed = true
    ∧ (Instr.read plain 65536 1).wellFormed = false ∧ (Instr.read plain 65535 256).wellFormed = false ∧ (Instr.read plain 65535 255).wellFormed = true
    ∧ (Instr.claimGroup plain 65536).wellFormed = false ∧ (Instr.claimGroup plain 0x11).wellFormed = true := by decide +kernel
theorem smoke_peaks : (Instr.peakCapture plain true 24).wellFormed = false ∧ (Instr.peakCapture plain true 23).wellFormed = true
    ∧ (Instr.peakCapture plain false 96).wellFormed = false ∧ (Instr.peakCapture plain false 95).wellFormed = true := by decide +kernel
theorem smoke_frames : (Instr.canFrameReceived 0 longFrame false false).wellFormed = false
    ∧ (Instr.canFrameReceived 0 fullFrame false false).wellFormed = true
    ∧ (Instr.bid longPeer).wellFormed = false ∧ (Instr.bid shortPeer).wellFormed = true
    ∧ (Instr.controlBlock 3 longBlock).wellFormed = false ∧ (Instr.controlBlock 3 shortBlock).wellFormed = true
    ∧ (Instr.bulkData shortPeer [(16777216, .num 0)]).wellFormed = false
        ∧ (Instr.bulkData shortPeer [(5, .num 0)]).wellFormed = true := by decide +kernel
theorem smoke_lengths : (Instr.cycleHeader 3 (List.replicate 1025 0) 0).wellFormed = false ∧ (Instr.cycleHeader 3 [] 0).wellFormed = true
    ∧ (Instr.robustStepUp 3 (List.replicate 4097 0)).wellFormed = false ∧ (Instr.robustStepUp 3 []).wellFormed = true
    ∧ (Instr.zeroCrossingReport 3 (List.replicate 65 0)).wellFormed = false ∧ (Instr.zeroCrossingReport 3 []).wellFormed = true
    ∧ (Instr.eventRaised 1 .linkFault (List.replicate 13 0)).wellFormed = false ∧ (Instr.eventRaised 1 .linkFault []).wellFormed = true
    ∧ (Instr.openSession plain ⟨1, none, List.replicate 65 0, none, false⟩).wellFormed = false
        ∧ (Instr.openSession plain ⟨1, none, [], none, false⟩).wellFormed = true := by decide +kernel
theorem smoke_readings : (Instr.imdReading 3 65536 0 0).wellFormed = false ∧ (Instr.imdReading 3 0 256 0).wellFormed = false
    ∧ (Instr.imdReading 3 65535 255 0).wellFormed = true ∧ (Instr.senseScanStep (tab (fun _ => 65536))).wellFormed = false
    ∧ (Instr.senseScanStep (tab (fun _ => 65535))).wellFormed = true := by decide +kernel
theorem smoke_dma : (Instr.dmaChannelStart (ask (leBytes 4 1)) 3).wellFormed = false
    ∧ (Instr.dmaChannelStart (ask (leBytes 4 (2 ^ 31))) 3).wellFormed = true := by decide +kernel

/-- The invariant of every step holds after reset, and a step from there answers. -/
theorem meets_stepsKeepCanonical : State.reset.dev.canonical ∧ ∃ t, step State.reset = .next t := ⟨⟨by decide, by decide⟩, _, rfl⟩

/-! Claims that hold beside the commands. -/

/-- A module whose DMA channel 3 fills a word of working memory, or of no memory, with a value. -/
def filling (dst : Int) : Dev :=
  let d := setNum 0x1813 0x01 7 (setNum 0x1813 0x02 dst (setNum 0x1813 0x03 4 (setNum 0x1813 0x04 0x5000 live)))
  { d with dma := { d.dma with chan := upd d.dma.chan 3 (fun c => { c with state := .running }) } }
/-- A module whose outlet 3 is in this state, with these causes raised and events noted. -/
def outletWith (st : OutState) (causes : Nat) (l : List OutEvent) : Dev :=
  onOut 3 (fun o => { o with state := st, raised := causes, events := l }) live

theorem meets_dmaServe : ((filling 0x20000000).dma.chan[(3 : Fin 16)]).state = .running
    ∧ ((filling 0).dma.chan[(3 : Fin 16)]).state = .running
    ∧ ((filling 0x20000000).dma.chan[(3 : Fin 16)]).cause = 0 ∧ moveCause (currentMove 3 (filling 0x20000000)) = 0
    ∧ ((filling 0).dma.chan[(3 : Fin 16)]).cause = 0 ∧ moveCause (currentMove 3 (filling 0)) = 0
    ∧ ((filling 0x20000000).dma.chan[(3 : Fin 16)]).moved < (currentMove 3 (filling 0x20000000)).count
    ∧ (unitOf (currentMove 3 (filling 0x20000000)) 3 (filling 0x20000000) 0).toOption.isSome = true
    ∧ (unitOf (currentMove 3 (filling 0)) 3 (filling 0) 0).toOption.isSome = false := by decide +kernel

theorem meets_outletBoundary :
    causesMove 3 (causesNow 3 (outletWith .outOfService 0 [.toService])) (outletWith .outOfService 0 [.toService]) = false
    ∧ causesMove 3 (causesNow 3 (outletWith .delivering 64 [])) (outletWith .delivering 64 []) = true
    ∧ (∀ st ∈ ([.outOfService, .idle, .plugged, .handshake, .precharge, .delivering, .returning, .winddown, .weldCheck, .ended,
        .faulted] : List OutState), ((outletWith st 64 []).out[(3 : Fin 12)]).state = st ∧ st ≠ .cableCheck)
    ∧ ((outletWith .plugged 0 [.unplug]).out[(3 : Fin 12)]).events.find? (eventHolds 3 (outletWith .plugged 0 [.unplug])) = some .unplug
    ∧ causesMove 3 (causesNow 3 (outletWith .plugged 0 [.unplug])) (outletWith .plugged 0 [.unplug]) = false := by decide +kernel

theorem meets_bootWithout :
    (imaged none none (some ⟨0, false, 7, some 9, false, false⟩) 0).sys.act = some ⟨0, false, 7, some 9, false, false⟩
    ∧ ((imaged none none (some ⟨0, false, 7, some 9, false, false⟩) 0).sys.img[(0 : Fin 5)]).staged = none := by decide +kernel

theorem meets_limpNChange : up 4 live = true ∧ up 4 Dev.reset = false := by decide +kernel

theorem meets_loadSupplyReturn : live.isl[(4 : Fin 8)] ≠ .off ∧ Dev.reset.isl[(4 : Fin 8)] = .off := by decide +kernel

end Sys2Proof.Tests
end

section
/-! The canonical form of the register file and of the DMA memory is kept by every step.

`Dev.canonical` speaks of `regs` and `dma.mem` alone, and the model writes these two in four ways only: an entry set (`setVal`), entries
forgotten, a unit of DMA memory written (`putUnit`), and bytes of it forgotten. Each operation of the model is built from these and from
updates of other fields, so each has one lemma, named after it, that says it keeps the form; the proof follows the operation's definition
and cites the lemmas of what it calls. `exec_canonical` gathers them over the commands. -/
namespace Sys2Proof.Machine

/-- Every next state that an outcome gives is canonical. -/
def EndsCanonical (o : Host.Outcome State Fault Refusal) : Prop := ∀ t, o = .next t → t.dev.canonical

/-- What a handler does to a canonical device, for a write that is taken and for one that is refused, leaves it canonical. -/
structure Handler.Canonical (x : Handler) : Prop where
  act : ∀ {c d}, d.canonical → (x.act c d).canonical
  refused : ∀ {c code d}, d.canonical → (x.refused c code d).canonical

variable {d : Dev} {s : State}

/-! How devices, outcomes and handlers are put together. -/

/-- The canonical form is a matter of two fields. -/
theorem Dev.canonical.of_eq {e : Dev} (h : d.canonical) (hr : e.regs = d.regs) (hm : e.dma.mem = d.dma.mem) : e.canonical := by
  rwa [Dev.canonical, hr, hm]

theorem ite_canonical {c : Prop} [Decidable c] {a b : Dev} (ha : a.canonical) (hb : b.canonical) :
    (if c then a else b).canonical := by
  split <;> assumption

theorem dite_canonical {c : Prop} [Decidable c] {a : c → Dev} {b : ¬ c → Dev} (ha : ∀ h, (a h).canonical) (hb : ∀ h, (b h).canonical) :
    (if h : c then a h else b h).canonical := by
  split
  · exact ha _
  · exact hb _

theorem cond_canonical {c : Bool} {a b : Dev} (ha : a.canonical) (hb : b.canonical) : (bif c then a else b).canonical := by
  cases c <;> assumption

theorem ite_fst_canonical {c : Prop} [Decidable c] {α : Type} {a b : Dev × α} (ha : a.1.canonical) (hb : b.1.canonical) :
    (if c then a else b).1.canonical := by
  split <;> assumption

theorem ite_snd_canonical {c : Prop} [Decidable c] {α : Type} {a b : α × Dev} (ha : a.2.canonical) (hb : b.2.canonical) :
    (if c then a else b).2.canonical := by
  split <;> assumption

theorem fst_canonical {α : Type} {p : Dev × α} {a : α} (e : p = (d, a)) (h : p.1.canonical) : d.canonical := by
  subst e
  exact h

theorem snd_canonical {α : Type} {p : α × Dev} {a : α} (e : p = (a, d)) (h : p.2.canonical) : d.canonical := by
  subst e
  exact h

theorem foldl_canonical {α : Type} {f : Dev → α → Dev} {l : List α} (h : d.canonical)
    (hf : ∀ d a, d.canonical → (f d a).canonical) : (l.foldl f d).canonical :=
  List.foldlRecOn l f h fun d hd a _ => hf d a hd

theorem done_canonical (h : d.canonical) : EndsCanonical (done s d) := by
  rintro t ⟨⟩
  exact h

theorem next_canonical (h : s.dev.canonical) : EndsCanonical (.next s) := by
  rintro t ⟨⟩
  exact h

theorem EndsCanonical.ite {c : Prop} [Decidable c] {a b : Host.Outcome State Fault Refusal} (ha : EndsCanonical a)
    (hb : EndsCanonical b) : EndsCanonical (if c then a else b) := by
  split <;> assumption

/-- A handler judged by its parts, with the effect in its written form. -/
theorem Handler.Canonical.of_mk {checks act refused} (hr : ∀ {c code d}, d.canonical → (refused c code d).canonical)
    (ha : ∀ {c d}, d.canonical → (act c d).canonical) : (Handler.mk checks act refused).Canonical := ⟨ha, hr⟩

theorem Handler.Canonical.ite {c : Prop} [Decidable c] {x y : Handler} (hx : x.Canonical) (hy : y.Canonical) :
    (if c then x else y).Canonical := by
  split <;> assumption

/-! Entries set. -/

theorem setVal_canonical {k v} (h : d.canonical) : (setVal k v d).canonical := ⟨setVal_regsWf _ _ _ h.1, h.2⟩
theorem setNum_canonical {x y v} (h : d.canonical) : (setNum x y v d).canonical := setVal_canonical h
theorem setOct_canonical {x y b} (h : d.canonical) : (setOct x y b d).canonical := setVal_canonical h
theorem bumpBy_canonical {x y n} (h : d.canonical) : (bumpBy x y n d).canonical := setNum_canonical h
theorem bump_canonical {x y} (h : d.canonical) : (bump x y d).canonical := bumpBy_canonical h

/-! The named operations that every family uses: time, bits, the dictionary register file, free values. -/

theorem reach_canonical {t} (h : d.canonical) : (reach t d).canonical := h
theorem reachSite_canonical {t} (h : d.canonical) : (reachSite t d).canonical := reach_canonical h
theorem tick_canonical {i p} (h : d.canonical) : (tick i p d).canonical := h
theorem freeNat_canonical (h : d.canonical) : (freeNat d).2.canonical := h
theorem freeInt_canonical (h : d.canonical) : (freeInt d).2.canonical := h

/-! The profile generators (R134 to R139). -/

theorem onGen_canonical {g f} (h : d.canonical) : (onGen g f d).canonical := h
theorem genUpdate_canonical {g} (h : d.canonical) : (genUpdate g d).canonical := onGen_canonical h
theorem genTarget_canonical {g t} (h : d.canonical) : (genTarget g t d).canonical := onGen_canonical h
theorem genShare_canonical {g share} (h : d.canonical) : (genShare g share d).canonical := onGen_canonical h
theorem genRestAt_canonical {g p} (h : d.canonical) : (genRestAt g p d).canonical := onGen_canonical h

/-! The catalogue of tenon messages and the sending ports' queues (R19, R20, R25 to R27). -/

theorem onLane_canonical {l : Lane} {f : LaneState → LaneState} (h : d.canonical) : (onLane l f d).canonical := by
  unfold onLane
  extract_lets
  split <;> exact h

theorem enqueue_canonical {l m} (h : d.canonical) : (enqueue l m d).canonical := onLane_canonical h

/-! Scribe triggers, the event send queues and the event log ring (R430 to R440). -/

theorem fireTrigger_canonical {source session code group} (h : d.canonical) :
    (fireTrigger source session code group d).1.canonical := by
  unfold fireTrigger
  refine ite_fst_canonical ?_ ?_
  · extract_lets d1 _
    have h1 : d1.canonical := bump_canonical h
    split
    · exact h1.of_eq rfl rfl
    · exact h1
  · extract_lets
    split
    · exact bump_canonical h
    · exact enqueue_canonical h

theorem logAppend_canonical {b} (h : d.canonical) : (logAppend b d).canonical := by
  unfold logAppend
  extract_lets _ _ _ d1 _
  have h1 : d1.canonical := ite_canonical (bump_canonical h) h
  exact h1.of_eq rfl rfl

theorem raise_canonical {isl name data} (h : d.canonical) : (raise isl name data d).canonical := by
  unfold raise
  extract_lets _ _ d1
  have h1 : d1.canonical := ite_canonical (logAppend_canonical h) (ite_canonical h (bump_canonical h))
  split
  · exact ite_canonical (fireTrigger_canonical h1) h1
  · exact h1

theorem raise1_canonical {isl name x} (h : d.canonical) : (raise1 isl name x d).canonical := raise_canonical h

/-! The time-base copies, the barrier ports' checks and the lanes (R14 to R26). -/

theorem noteSequence_canonical {l m} (h : d.canonical) : (noteSequence l m d).canonical := by
  unfold noteSequence
  extract_lets _ _ d1
  have h1 : d1.canonical := onLane_canonical h
  exact ite_canonical h1 (raise_canonical (bumpBy_canonical h1))

theorem realign_canonical {l} (h : d.canonical) : (realign l d).canonical := onLane_canonical h

theorem noteCrcFailure_canonical {l} (h : d.canonical) : (noteCrcFailure l d).canonical :=
  ite_canonical (realign_canonical h) (onLane_canonical h)

theorem receive_canonical {l : Lane} {m : TenonMsg} (h : d.canonical) : (receive l m d).1.canonical := by
  unfold receive
  refine ite_fst_canonical h ?_
  extract_lets d1 d2
  have h1 : d1.canonical := bump_canonical h
  have h2 : d2.canonical := noteSequence_canonical h
  split
  · extract_lets d3 _
    have h3 : d3.canonical := ite_canonical (noteCrcFailure_canonical h1) h1
    exact raise1_canonical (ite_canonical (noteSequence_canonical h3) h3)
  · exact ite_fst_canonical (bump_canonical h2) h2

theorem landed_canonical {m} (h : d.canonical) : (landed m d).canonical := by
  unfold landed
  split
  · exact ite_canonical (setNum_canonical (setNum_canonical h)) h
  · exact h

theorem recordOnLane_canonical {m} (h : d.canonical) : (recordOnLane m d).canonical := ite_canonical h h

theorem nextOf_canonical {l c} (h : d.canonical) : ∀ x ∈ nextOf l c d, x.2.canonical := by
  unfold nextOf
  extract_lets s here take
  have queued : ∀ x ∈ here.map take, x.2.canonical := by
    intro x hx
    obtain ⟨m, -, rfl⟩ := Option.map_eq_some_iff.1 hx
    exact onLane_canonical h
  clear_value here
  split
  · exact queued
  · extract_lets em
    refine iteInduction (motive := fun o : Option (TenonOut × Dev) => ∀ x ∈ o, x.2.canonical) (fun _ x hx => ?_) fun _ => queued
    cases hx
    exact h

theorem chooseNext_canonical {l} (h : d.canonical) : ∀ x ∈ chooseNext l d, x.2.canonical := by
  refine List.foldlRecOn (motive := fun r : Option (TenonOut × Dev) => ∀ x ∈ r, x.2.canonical) _ _ (by simp) fun r hr c _ => ?_
  split
  · exact hr
  · exact nextOf_canonical h

theorem laneNext_canonical {l} (h : d.canonical) : (laneNext l d).canonical := by
  unfold laneNext
  extract_lets ended d1 d2 d3
  have h2 : d2.canonical := onLane_canonical (reach_canonical h)
  clear_value ended d2
  have h3 : d3.canonical := by
    unfold d3
    split
    · exact landed_canonical h2
    · exact h2
  split
  · exact h3
  · rename_i e
    exact recordOnLane_canonical (bump_canonical (onLane_canonical (chooseNext_canonical h3 _ e)))

theorem transfer_canonical {ch} (h : d.canonical) : (transfer ch d).canonical := h

theorem staleChannel_canonical {ch} (h : d.canonical) : (staleChannel ch d).canonical := by
  unfold staleChannel
  refine ite_canonical h ?_
  extract_lets d1
  have h1 : d1.canonical := reach_canonical h
  exact raise1_canonical (h1.of_eq rfl rfl)

theorem timeMark_canonical {i offset} (h : d.canonical) : (timeMark i offset d).canonical := by
  unfold timeMark
  refine ite_canonical h ?_
  extract_lets
  split
  · rename_i d1 e1
    have h1 := snd_canonical e1 (freeNat_canonical h)
    extract_lets d2 _ _ _
    have h2 : d2.canonical := by
      unfold d2
      split
      · exact transfer_canonical h1
      · exact h1
    exact h2.of_eq rfl rfl

theorem measureRoundTrip_canonical {i} (h : d.canonical) : (measureRoundTrip i d).canonical := by
  unfold measureRoundTrip
  refine ite_canonical ?_ h
  split
  · rename_i d1 e1
    have h1 := snd_canonical e1 (freeNat_canonical h)
    exact setNum_canonical h1

theorem enterHoldover_canonical {i t} (h : d.canonical) : (enterHoldover i t d).canonical := ite_canonical h h

theorem hostHoldover_canonical (h : d.canonical) : (hostHoldover d).canonical := by
  unfold hostHoldover
  extract_lets _ d1
  have h1 : d1.canonical := ite_canonical (enterHoldover_canonical h) h
  exact ite_canonical (enterHoldover_canonical h1) h1

theorem execHoldoverLimit_canonical {isl} (h : s.dev.canonical) : EndsCanonical (execHoldoverLimit isl s) := by
  unfold execHoldoverLimit
  extract_lets d1 d2 _
  have h1 : d1.canonical := hostHoldover_canonical h
  have h2 : d2.canonical := reach_canonical h1
  exact done_canonical (ite_canonical (h2.of_eq rfl rfl) h1)

theorem execReferenceSwitch_canonical {refIn} (h : s.dev.canonical) : EndsCanonical (execReferenceSwitch refIn s) := by
  unfold execReferenceSwitch
  refine .ite (done_canonical h) ?_
  extract_lets _ since d1 _ d2 _ d3
  clear_value since
  have h1 : d1.canonical := by
    unfold d1
    split
    · exact reach_canonical h
    · exact h
  have h3 : d3.canonical := @setNum_canonical _ 0x1040 0x04 _ h1
  exact done_canonical (ite_canonical h3 (raise1_canonical (bump_canonical h3)))

/-! The DMA engine and capture memory (R419 to R429). -/

theorem descReport_canonical {n c cause units} (h : d.canonical) : (descReport n c cause units d).canonical := setVal_canonical h
theorem onDma_canonical {c f} (h : d.canonical) : (onDma c f d).canonical := h

theorem writeUnit_canonical {a w} (h : d.canonical) : (writeUnit a w d).canonical :=
  ⟨h.1, putUnit_wf _ _ _ h.2⟩

theorem serveUnit_canonical {c} (h : d.canonical) : (serveUnit c d).canonical := by
  unfold serveUnit
  extract_lets
  refine ite_canonical h ?_
  split
  · exact onDma_canonical h
  · exact onDma_canonical (writeUnit_canonical h)

theorem rotation_canonical (h : d.canonical) : (rotation d).canonical := foldl_canonical h fun _ _ h1 => serveUnit_canonical h1

theorem rotations_canonical {n} (h : d.canonical) : (rotations n d).canonical := by
  induction n generalizing d with
  | zero => exact h
  | succ n ih => exact ih (rotation_canonical h)

theorem descSetup_canonical {n c} (h : d.canonical) : (descSetup n c d).canonical := setVal_canonical h
theorem clearRun_canonical {c} (h : d.canonical) : (clearRun c d).canonical := setNum_canonical h

theorem wakeWaiting_canonical {n} (h : d.canonical) : (wakeWaiting n d).canonical := by
  unfold wakeWaiting
  refine ite_canonical h ?_
  split
  · exact descSetup_canonical (onDma_canonical h)
  · exact h

theorem runTransfer_canonical {c} (h : d.canonical) : (runTransfer c d).canonical := ite_canonical h (rotations_canonical h)

theorem descriptorEnd_canonical {c} (h : d.canonical) : (descriptorEnd c d).canonical := by
  unfold descriptorEnd
  extract_lets _ _ d1 _ _ d2 d3 d4 d5 d6 _ _ d7 d8
  have h1 : d1.canonical := runTransfer_canonical h
  have h2 : d2.canonical := onDma_canonical h1
  have h3 : d3.canonical := bumpBy_canonical h2
  have h4 : d4.canonical := ite_canonical (bump_canonical h3) h3
  have h5 : d5.canonical := by
    unfold d5
    split
    · exact setNum_canonical h4
    · extract_lets d9
      have h9 : d9.canonical := bump_canonical (descReport_canonical h4)
      exact ite_canonical (bump_canonical h9) h9
  have h6 : d6.canonical := ite_canonical (raise1_canonical h5) h5
  have h7 : d7.canonical := onDma_canonical h6
  have h8 : d8.canonical := ite_canonical (clearRun_canonical (onDma_canonical h6)) <|
      ite_canonical (ite_canonical (descSetup_canonical h7) h7) (clearRun_canonical (onDma_canonical h6))
  refine ite_canonical h ?_
  split
  · exact wakeWaiting_canonical h8
  · exact h8

theorem startChannel_canonical {c starter} (h : d.canonical) : (startChannel c starter d).canonical :=
  setNum_canonical (onDma_canonical h)

theorem internalChannel_canonical {c runs} (h : d.canonical) : (internalChannel c runs d).canonical := onDma_canonical h
theorem stopChannel_canonical {c} (h : d.canonical) : (stopChannel c d).canonical := clearRun_canonical (onDma_canonical h)

theorem askStop_canonical {c} (h : d.canonical) : (askStop c d).canonical :=
  ite_canonical (stopChannel_canonical h) (onDma_canonical (setNum_canonical h))

theorem releaseCapture_canonical (h : d.canonical) : (releaseCapture d).canonical :=
  ⟨h.1, memory_wf_filter _ _ h.2⟩

/-! Snapshots and the event log's own commands (R430 to R440). -/

theorem onSet_canonical {i f} (h : d.canonical) : (onSet i f d).canonical := h

theorem execSnapInEdge_canonical {rising} (h : s.dev.canonical) : EndsCanonical (execSnapInEdge rising s) :=
  done_canonical (ite_canonical (fireTrigger_canonical h) h)

theorem execPartnerScribeTrigger_canonical (h : s.dev.canonical) : EndsCanonical (execPartnerScribeTrigger s) :=
  done_canonical (ite_canonical (fireTrigger_canonical h) h)

theorem hostLatch_canonical {i} (h : d.canonical) : (hostLatch i d).canonical := by
  unfold hostLatch
  split
  · exact h
  · exact ite_canonical h (onSet_canonical h)

theorem execScribeNotice_canonical {m} (h : s.dev.canonical) : EndsCanonical (execScribeNotice m s) := by
  unfold execScribeNotice
  split
  · rename_i d1 _ e1
    have h1 := fst_canonical e1 (receive_canonical h)
    exact done_canonical (ite_canonical (hostLatch_canonical (hostLatch_canonical h1)) h1)

theorem execSnapshotFragment_canonical {m set part} (h : s.dev.canonical) :
    EndsCanonical (execSnapshotFragment m set part s) := by
  unfold execSnapshotFragment
  split
  · rename_i d1 _ e1
    have h1 := fst_canonical e1 (receive_canonical h)
    exact done_canonical (ite_canonical (onSet_canonical h1) h1)

theorem fieldStore_canonical (h : d.canonical) : (fieldStore d).canonical := by
  unfold fieldStore
  extract_lets
  split
  · exact h
  · extract_lets d1 _
    have h1 : d1.canonical := internalChannel_canonical (onSet_canonical (reach_canonical h))
    exact h1.of_eq rfl rfl

theorem execSnapshotSetValid_canonical {set} (h : s.dev.canonical) : EndsCanonical (execSnapshotSetValid set s) :=
  done_canonical (ite_canonical (onSet_canonical h) h)

theorem execEventQueueRoom_canonical {isl} (h : s.dev.canonical) : EndsCanonical (execEventQueueRoom isl s) :=
  done_canonical (ite_canonical (raise_canonical (h.of_eq rfl rfl)) h)

theorem execEvent_canonical {m} (h : s.dev.canonical) : EndsCanonical (execEvent m s) := by
  unfold execEvent
  split
  · rename_i d1 _ e1
    have h1 := fst_canonical e1 (receive_canonical h)
    exact done_canonical (ite_canonical (logAppend_canonical h1) h1)

theorem flushLog_canonical (h : d.canonical) : (flushLog d).canonical := h

theorem execEventLogFlush_canonical (h : s.dev.canonical) : EndsCanonical (execEventLogFlush s) :=
  done_canonical <| ite_canonical h (flushLog_canonical (ite_canonical h (reach_canonical h)))

theorem rebuildLog_canonical (h : d.canonical) : (rebuildLog d).canonical := by
  unfold rebuildLog
  extract_lets _ d1 _ _
  have h1 : d1.canonical := setNum_canonical h
  exact h1.of_eq rfl rfl

/-! The rafter ring: contactors, segments and the topology interlock (R34 to R58). -/

theorem onBrick_canonical {k f} (h : d.canonical) : (onBrick k f d).canonical := h
theorem onLeg_canonical {n f} (h : d.canonical) : (onLeg n f d).canonical := h
theorem onSeg_canonical {x f} (h : d.canonical) : (onSeg x f d).canonical := h

theorem onContactor_canonical {x f} (h : d.canonical) : (onContactor x f d).canonical := by
  unfold onContactor
  extract_lets
  split
  · exact h
  · exact onBrick_canonical h
  · exact h

theorem deriveSegments_canonical (h : d.canonical) : (deriveSegments d).canonical := h

theorem countPermits_canonical (h : d.canonical) : (countPermits d).canonical := h.of_eq rfl rfl

theorem countOperation_canonical {x} (h : d.canonical) : (countOperation x d).canonical := by
  unfold countOperation
  split <;> exact bump_canonical h

theorem judge_canonical {permit x} (h : d.canonical) : (judge permit x d).canonical := by
  unfold judge
  refine ite_canonical h ?_
  split
  · exact onContactor_canonical h
  · exact ite_canonical h (raise_canonical (bump_canonical (onContactor_canonical h)))

theorem interlock_canonical {permit} (h : d.canonical) : (interlock permit d).canonical :=
  have first := foldl_canonical h fun _ _ h => ite_canonical (judge_canonical h) h
  foldl_canonical first fun _ _ h => ite_canonical (judge_canonical h) h

theorem checkTravel_canonical (h : d.canonical) : (checkTravel d).canonical :=
  foldl_canonical h fun _ _ h1 => ite_canonical (raise_canonical (countOperation_canonical (onContactor_canonical h1))) h1

theorem debounceContacts_canonical (h : d.canonical) : (debounceContacts d).canonical := h
theorem clearAgreed_canonical (h : d.canonical) : (clearAgreed d).canonical := h

theorem checkDropped_canonical (h : d.canonical) : (checkDropped d).canonical := by
  unfold checkDropped
  extract_lets d1
  have h1 : d1.canonical := foldl_canonical h fun _ _ h2 => ite_canonical (raise_canonical (onContactor_canonical h2)) h2
  exact foldl_canonical h1 fun _ _ h3 => ite_canonical (raise_canonical (onContactor_canonical h3)) h3

theorem clearDropped_canonical (h : d.canonical) : (clearDropped d).canonical := h
theorem zeroDropped_canonical (h : d.canonical) : (zeroDropped d).canonical := h

theorem checkSense_canonical (h : d.canonical) : (checkSense d).canonical :=
  foldl_canonical h fun _ _ h1 => ite_canonical (raise1_canonical h1) h1

theorem travelFault_canonical {x} (h : d.canonical) : (travelFault x d).canonical := by
  unfold travelFault
  split <;> exact raise1_canonical (onContactor_canonical h)

theorem execContactDisagreement_canonical {x} (h : s.dev.canonical) : EndsCanonical (execContactDisagreement x s) := by
  unfold execContactDisagreement
  extract_lets
  refine done_canonical ?_
  split
  · exact ite_canonical h <| raise_canonical (onContactor_canonical (debounceContacts_canonical (reach_canonical h)))
  · exact h

/-! Rail set-points, slew and tracking episodes (R91 to R116). Voltages are in 10 µV. -/

theorem onRail_canonical {j f} (h : d.canonical) : (onRail j f d).canonical := h
theorem latchPar_canonical {j} (h : d.canonical) : (latchPar j d).canonical := onRail_canonical h

theorem legToService_canonical {n} (h : d.canonical) : (legToService n d).canonical := by
  unfold legToService
  extract_lets d1 _
  have h1 : d1.canonical := onLeg_canonical h
  exact h1.of_eq rfl rfl

theorem startLegs_canonical {x} (h : d.canonical) : (startLegs x d).canonical :=
  foldl_canonical h fun _ _ h1 => ite_canonical (legToService_canonical h1) h1

theorem restLegs_canonical {x} (h : d.canonical) : (restLegs x d).canonical :=
  foldl_canonical h fun _ _ h1 => ite_canonical (onLeg_canonical h1) h1

theorem beginTrack_canonical {j ep} (h : d.canonical) : (beginTrack j ep d).canonical :=
  onRail_canonical (latchPar_canonical (startLegs_canonical h))

theorem beginStart_canonical {j} (h : d.canonical) : (beginStart j d).canonical := by
  unfold beginStart
  split
  · exact beginTrack_canonical h
  · exact h

theorem beginTie_canonical {j tie} (h : d.canonical) : (beginTie j tie d).canonical := by
  unfold beginTie
  split
  · exact onRail_canonical (beginTrack_canonical h)
  · exact h

theorem beginOutlet_canonical {j} (h : d.canonical) : (beginOutlet j d).canonical := by
  unfold beginOutlet
  refine ite_canonical h ?_
  split
  · exact beginTrack_canonical h
  · exact h

theorem takeGoverning_canonical {mask j} (h : d.canonical) : (takeGoverning mask j d).canonical :=
  ite_canonical h (foldl_canonical h fun _ _ h1 => onRail_canonical h1)

theorem beginRatio_canonical {leader mask vEnd rate stop} (h : d.canonical) :
    (beginRatio leader mask vEnd rate stop d).canonical := by
  unfold beginRatio
  extract_lets _ _ _ _ d1 _ _ _ _ d2 d3
  have h1 : d1.canonical := foldl_canonical h fun _ _ h4 => latchPar_canonical (ite_canonical (takeGoverning_canonical h4) h4)
  have h2 : d2.canonical := foldl_canonical h1 fun _ _ h5 => startLegs_canonical h5
  have h3 : d3.canonical := foldl_canonical h2 fun _ _ h6 => onRail_canonical h6
  exact h3.of_eq rfl rfl

theorem soloStop_canonical {j} (h : d.canonical) : (soloStop j d).canonical := beginRatio_canonical (latchPar_canonical h)

theorem leaveRatio_canonical {j res} (h : d.canonical) : (leaveRatio j res d).canonical := by
  unfold leaveRatio
  extract_lets d1
  have h1 : d1.canonical := onRail_canonical h
  split
  · exact h
  · split
    · exact onRail_canonical h
    · extract_lets _ d2 d3
      have h2 : d2.canonical := foldl_canonical h fun _ _ h4 => onRail_canonical h4
      have h3 : d3.canonical := h2.of_eq rfl rfl
      exact ite_canonical (foldl_canonical h3 fun _ _ h5 => ite_canonical (soloStop_canonical h5) h5) (h1.of_eq rfl rfl)

theorem endEpisode_canonical {j res} (h : d.canonical) : (endEpisode j res d).canonical :=
  onRail_canonical (leaveRatio_canonical h)

theorem abortEpisode_canonical {j res} (h : d.canonical) : (abortEpisode j res d).canonical := by
  unfold abortEpisode
  extract_lets d1
  have h1 : d1.canonical := endEpisode_canonical h
  exact ite_canonical (soloStop_canonical h1) h1

theorem toVoltageMode_canonical {j} (h : d.canonical) : (toVoltageMode j d).canonical := onRail_canonical h
theorem keepSamples_canonical (h : d.canonical) : (keepSamples d).canonical := h
theorem toCurrentMode_canonical {j} (h : d.canonical) : (toCurrentMode j d).canonical := onGen_canonical (onRail_canonical h)

theorem beginStops_canonical {rails} (h : d.canonical) : (beginStops rails d).canonical := by
  unfold beginStops
  extract_lets _ now d1 d2
  have h1 : d1.canonical := foldl_canonical h fun _ _ h => onRail_canonical (genTarget_canonical (latchPar_canonical h))
  have h2 : d2.canonical := foldl_canonical h1 fun _ _ h => latchPar_canonical (ite_canonical h (endEpisode_canonical h))
  clear_value now
  split
  · exact h2
  · exact beginRatio_canonical h2

theorem beginStop_canonical {j} (h : d.canonical) : (beginStop j d).canonical := beginStops_canonical h

theorem isolate_canonical {j cause res} (h : d.canonical) : (isolate j cause res d).canonical := by
  unfold isolate
  extract_lets d1
  have h1 : d1.canonical := by
    unfold d1
    split
    · exact ite_canonical h (endEpisode_canonical h)
    · exact h
  exact onRail_canonical h1

theorem stopDone_canonical {j} (h : d.canonical) : (stopDone j d).canonical :=
  foldl_canonical (restLegs_canonical (endEpisode_canonical h)) fun _ _ h1 => onRail_canonical h1

theorem ratioDone_canonical {l q} (h : d.canonical) : (ratioDone l q d).canonical := by
  unfold ratioDone
  extract_lets d1
  have h1 : d1.canonical := foldl_canonical h fun _ _ h2 => ite_canonical (onRail_canonical h2) (onRail_canonical h2)
  exact h1.of_eq rfl rfl

theorem ratioPeriod_canonical {l held} (h : d.canonical) : (ratioPeriod l held d).canonical := by
  unfold ratioPeriod
  extract_lets
  split
  · exact h
  · extract_lets _ _ _ _ _ d1
    have h1 : d1.canonical := foldl_canonical h fun _ _ h2 => onRail_canonical h2
    exact ite_canonical (foldl_canonical h fun _ _ h3 => stopDone_canonical h3) <|
        ite_canonical h (ite_canonical h (ite_canonical (ratioDone_canonical h1) h1))

theorem boundPeriod_canonical {j} (h : d.canonical) : (boundPeriod j d).canonical := onRail_canonical h

theorem setPointPeriod_canonical {j} (h : d.canonical) : (setPointPeriod j d).canonical := by
  unfold setPointPeriod
  extract_lets _ d1 _ _ _ d2
  have h1 : d1.canonical := onRail_canonical h
  have h2 : d2.canonical := onRail_canonical h
  split
  · exact ite_canonical h (onRail_canonical h)
  · refine ite_canonical h ?_
    split
    · exact ite_canonical (onRail_canonical h1) h1
    · exact h1
  · refine ite_canonical h2 ?_
    split
    · exact onRail_canonical h2
    · exact h2
  · refine ite_canonical h2 ?_
    split
    · exact onRail_canonical h2
    · exact h2
  · exact h

theorem passivePeriod_canonical {j} (h : d.canonical) : (passivePeriod j d).canonical := by
  unfold passivePeriod
  extract_lets
  refine ite_canonical ?_ h
  split
  · exact ite_canonical (stopDone_canonical h) h
  · exact h

theorem stopWaitPeriod_canonical {j} (h : d.canonical) : (stopWaitPeriod j d).canonical :=
  ite_canonical (onRail_canonical (beginStop_canonical (toVoltageMode_canonical (onRail_canonical h)))) h

theorem legLossPeriod_canonical {j} (h : d.canonical) : (legLossPeriod j d).canonical :=
  ite_canonical (ite_canonical (onRail_canonical (leaveRatio_canonical h)) (abortEpisode_canonical h)) h

theorem stopBitPeriod_canonical {j held} (h : d.canonical) : (stopBitPeriod j held d).canonical := by
  unfold stopBitPeriod
  extract_lets _ d1 _ d2
  have h1 : d1.canonical := ite_canonical (onRail_canonical h) h
  have h2 : d2.canonical := onRail_canonical h1
  refine ite_canonical ?_ ?_
  · split <;> exact onRail_canonical (ite_canonical (abortEpisode_canonical h1) h1)
  · refine ite_canonical ?_ h1
    split
    · exact ite_canonical (h2.of_eq rfl rfl) h2
    · exact h2

theorem commandPeriod_canonical {j held} (h : d.canonical) : (commandPeriod j held d).canonical := by
  unfold commandPeriod
  extract_lets _ d1 d2
  have h1 : d1.canonical := by
    unfold d1
    split
    · exact ite_canonical (onRail_canonical h) (onRail_canonical h)
    · exact h
  have h2 : d2.canonical := onRail_canonical h1
  split
  · exact ite_canonical h2 <| ite_canonical (toCurrentMode_canonical h2) (toVoltageMode_canonical h2)
  · exact h1

theorem sensePeriod_canonical {j} (h : d.canonical) : (sensePeriod j d).canonical := by
  unfold sensePeriod
  split <;> exact onRail_canonical h

theorem setJoined_canonical {j x} (h : d.canonical) : (setJoined j x d).canonical := h

theorem joinRails_canonical {j} (h : d.canonical) : (joinRails j d).canonical := by
  unfold joinRails
  extract_lets _ _ _ d1 _ _
  have h1 : d1.canonical := setJoined_canonical h
  exact ite_canonical h1 <| foldl_canonical h1 fun _ _ h2 =>
      ite_canonical (onRail_canonical h2) (onRail_canonical (ite_canonical h2 (endEpisode_canonical h2)))

theorem formPart_canonical {x} (h : d.canonical) : (formPart x d).canonical := by
  unfold formPart
  extract_lets _ _ _ _ _ d1 d2
  have h1 : d1.canonical := foldl_canonical h fun _ _ h3 =>
      ite_canonical (onRail_canonical h3) (onRail_canonical (ite_canonical (endEpisode_canonical h3) h3))
  have h2 : d2.canonical := onRail_canonical h1
  exact ite_canonical h1 (ite_canonical h2 (beginStop_canonical h2))

theorem splitRails_canonical {j} (h : d.canonical) : (splitRails j d).canonical := by
  unfold splitRails
  extract_lets d1 _ _
  have h1 : d1.canonical := setJoined_canonical h
  exact ite_canonical (formPart_canonical h1) (formPart_canonical (formPart_canonical h1))

theorem regroup_canonical (h : d.canonical) : (regroup d).canonical := by
  unfold regroup
  extract_lets d1
  have h1 : d1.canonical := foldl_canonical h fun _ _ h2 => ite_canonical (splitRails_canonical h2) h2
  exact foldl_canonical h1 fun _ _ h3 => ite_canonical (joinRails_canonical h3) h3

theorem outletClosedRail_canonical {j} (h : d.canonical) : (outletClosedRail j d).canonical :=
  ite_canonical (onRail_canonical (endEpisode_canonical h)) h

theorem execStartSettleExpiry_canonical {j} (h : s.dev.canonical) : EndsCanonical (execStartSettleExpiry j s) :=
  done_canonical (ite_canonical h (onRail_canonical (reach_canonical h)))

theorem trackingTimeout_canonical {j} (h : d.canonical) : (trackingTimeout j d).canonical :=
  ite_canonical (soloStop_canonical (endEpisode_canonical (reach_canonical h))) h

theorem ratioAbort_canonical {l} (h : d.canonical) : (ratioAbort l d).canonical := by
  unfold ratioAbort
  split
  · refine ite_canonical h ?_
    extract_lets d1
    have h1 : d1.canonical := foldl_canonical h fun _ _ h2 => onRail_canonical h2
    exact h1.of_eq rfl rfl
  · exact h

theorem execDrainTimeout_canonical {j} (h : s.dev.canonical) : EndsCanonical (execDrainTimeout j s) :=
  done_canonical (ite_canonical (restLegs_canonical (isolate_canonical (reach_canonical h))) h)

theorem execRailSenseLost_canonical {j} (h : s.dev.canonical) : EndsCanonical (execRailSenseLost j s) :=
  done_canonical <| ite_canonical h (ite_canonical (onRail_canonical h) (isolate_canonical h))

theorem isolateUnfitted_canonical (h : d.canonical) : (isolateUnfitted d).canonical :=
  foldl_canonical h fun _ _ h1 => ite_canonical h1 (isolate_canonical h1)

/-! The spline links and the cards (R59 to R72, R88). -/

theorem legFault_canonical {n cause} (h : d.canonical) : (legFault n cause d).canonical := by
  unfold legFault
  extract_lets _ d1
  have h1 : d1.canonical := onLeg_canonical h
  exact ite_canonical h (ite_canonical h1 (raise_canonical h1))

theorem brakeLeg_canonical {n} (h : d.canonical) : (brakeLeg n d).canonical :=
  ite_canonical (bump_canonical (onLeg_canonical h)) h

theorem resetAnswer_canonical {n} (h : d.canonical) : (resetAnswer n d).canonical := onLeg_canonical h

theorem legUplink_canonical {n i fl} (h : d.canonical) : (legUplink n i fl d).canonical := by
  unfold legUplink
  extract_lets d1 d2 _ d3 _
  have h1 : d1.canonical := onLeg_canonical h
  have h2 : d2.canonical := ite_canonical (bump_canonical h1) h1
  have h3 : d3.canonical := resetAnswer_canonical (ite_canonical (legFault_canonical h2) h2)
  exact ite_canonical (ite_canonical (onLeg_canonical h3) (ite_canonical (legFault_canonical h3) h3)) h3

theorem onThermal_canonical {w f} (h : d.canonical) : (onThermal w f d).canonical := h
theorem thermalValue_canonical {w t} (h : d.canonical) : (thermalValue w t d).canonical := onThermal_canonical h

theorem thermalFrom_canonical {source t} (h : d.canonical) : (thermalFrom source t d).canonical :=
  foldl_canonical h fun _ _ h1 => ite_canonical (thermalValue_canonical h1) h1

theorem auxUplink_canonical {k index v} (h : d.canonical) : (auxUplink k index v d).canonical := by
  unfold auxUplink
  extract_lets
  split
  · exact thermalFrom_canonical (onBrick_canonical h)
  · exact onBrick_canonical h
  · exact onBrick_canonical h
  · exact onBrick_canonical h
  · split
    · exact thermalFrom_canonical (onLeg_canonical h)
    · exact h

theorem brickUplink_canonical {k f} (h : d.canonical) : (brickUplink k f d).canonical := by
  unfold brickUplink
  extract_lets _ _ _ d1 d2 d3 _ _ _
  have h1 : d1.canonical := bump_canonical h
  have h2 : d2.canonical := ite_canonical (bump_canonical h1) h1
  have h3 : d3.canonical := ite_canonical (bump_canonical h2) h2
  exact foldl_canonical (auxUplink_canonical (onBrick_canonical h3)) fun _ _ h4 => legUplink_canonical h4

theorem brickMiss_canonical {k} (h : d.canonical) : (brickMiss k d).canonical := by
  unfold brickMiss
  extract_lets _ d1
  have h1 : d1.canonical := foldl_canonical (onBrick_canonical h) fun _ _ h2 => onLeg_canonical h2
  exact ite_canonical (foldl_canonical h1 fun _ _ h3 => brakeLeg_canonical h3) h1

theorem onDrive_canonical {u f} (h : d.canonical) : (onDrive u f d).canonical := h
theorem axisUplink_canonical {u f} (h : d.canonical) : (axisUplink u f d).canonical := onDrive_canonical h
theorem axisMiss_canonical {u} (h : d.canonical) : (axisMiss u d).canonical := onDrive_canonical h

theorem uplinkDeadline_canonical {port u} (h : d.canonical) : (uplinkDeadline port u d).canonical := by
  refine dite_canonical (fun _ => ?_) (fun _ => ?_) <;> extract_lets
  · split
    · exact brickMiss_canonical h
    · exact brickMiss_canonical (bump_canonical h)
    · exact brickMiss_canonical (bump_canonical h)
    · exact ite_canonical (brickUplink_canonical h) (brickMiss_canonical (bump_canonical h))
  · split
    · exact ite_canonical (axisUplink_canonical h) (axisMiss_canonical h)
    · exact axisMiss_canonical h

theorem cardLost_canonical {k} (h : d.canonical) : (cardLost k d).canonical := by
  unfold cardLost
  extract_lets _ d1 f2 _
  have h1 : d1.canonical := foldl_canonical (onBrick_canonical h) fun _ _ h3 => onLeg_canonical h3
  have h2 {x} {d : Dev} (hd : d.canonical) : (f2 x d).canonical := onContactor_canonical hd
  exact h2 (foldl_canonical h1 fun _ _ h4 => ite_canonical (h2 h4) h4)

theorem thawOutlets_canonical (h : d.canonical) : (thawOutlets d).canonical := h.of_eq rfl rfl

theorem execLinkHoldExpiry_canonical {k} (h : s.dev.canonical) : EndsCanonical (execLinkHoldExpiry k s) :=
  done_canonical (ite_canonical (cardLost_canonical h) h)

theorem paramWrites_canonical {before : Dev} {after : Dev} (hafter : after.canonical) : (paramWrites before after).canonical :=
  hafter.of_eq rfl rfl

theorem execBrickLinkUp_canonical {port} (h : s.dev.canonical) : EndsCanonical (execBrickLinkUp port s) :=
  done_canonical <| dite_canonical (fun _ => ite_canonical (onBrick_canonical h) h) (fun _ =>
      ite_canonical (onDrive_canonical h) h)

theorem execLegLostRecovery_canonical {n} (h : s.dev.canonical) : EndsCanonical (execLegLostRecovery n s) := by
  unfold execLegLostRecovery
  extract_lets
  refine done_canonical ?_
  split
  · exact ite_canonical (onLeg_canonical (reach_canonical h)) h
  · exact h

theorem execPortDelayMeasurement_canonical {k arrival} (h : s.dev.canonical) :
    EndsCanonical (execPortDelayMeasurement k arrival s) := by
  unfold execPortDelayMeasurement
  extract_lets _ _ _ _ _ _ d1
  have h1 : d1.canonical := ite_canonical (raise1_canonical h) h
  exact done_canonical <| dite_canonical (fun _ => onBrick_canonical h1) (fun _ => onDrive_canonical h1)

theorem onCard_canonical {c f} (h : d.canonical) : (onCard c f d).canonical := h

theorem serviceAt_canonical {c port mayWrite q} (h : d.canonical) : (serviceAt c port mayWrite q d).canonical :=
  onCard_canonical h

theorem downlinkAccept_canonical {card port f} (h : d.canonical) : (downlinkAccept card port f d).canonical := by
  unfold downlinkAccept
  extract_lets _ _ _ d1
  have h1 : d1.canonical := onCard_canonical h
  exact ite_canonical h <| ite_canonical (serviceAt_canonical h1) <|
      ite_canonical (serviceAt_canonical (onCard_canonical h1)) (serviceAt_canonical (onCard_canonical h1))

theorem execCardContactorHold_canonical {k} (h : s.dev.canonical) : EndsCanonical (execCardContactorHold k s) :=
  done_canonical (ite_canonical (onCard_canonical (reach_canonical h)) h)

theorem cardMeasures_canonical {k iOut legs} (h : d.canonical) : (cardMeasures k iOut legs d).canonical := onCard_canonical h

theorem cardSamples_canonical {k u} (h : d.canonical) : (cardSamples k u d).canonical := by
  unfold cardSamples
  extract_lets seen
  clear_value seen
  split
  · exact cardMeasures_canonical h
  · exact cardMeasures_canonical h

theorem execUplinkDeadline_canonical {port u} (h : s.dev.canonical) : EndsCanonical (execUplinkDeadline port u s) := by
  unfold execUplinkDeadline
  extract_lets _ d1
  have h1 : d1.canonical := dite_canonical (fun _ => cardSamples_canonical h) (fun _ => h)
  exact done_canonical (ite_canonical (uplinkDeadline_canonical h1) h1)

theorem averagePeriod_canonical (h : d.canonical) : (averagePeriod d).canonical := h.of_eq rfl rfl

theorem storeAvg_canonical {idx sub a} (h : d.canonical) : (storeAvg idx sub a d).canonical := by
  unfold storeAvg
  split
  · exact setNum_canonical h
  · exact h

theorem telemetryEnd_canonical {w} (h : d.canonical) : (telemetryEnd w d).canonical := by
  unfold telemetryEnd
  extract_lets _ d1
  have h1 : d1.canonical := by
    unfold d1
    refine foldl_canonical (tick_canonical h) fun _ _ h2 => ?_
    extract_lets
    split
    · split
      · split
        · exact storeAvg_canonical (storeAvg_canonical (storeAvg_canonical (onLeg_canonical h2)))
  refine foldl_canonical h1 fun _ _ h3 => ?_
  extract_lets
  split
  · split
    · exact storeAvg_canonical (storeAvg_canonical (onBrick_canonical h3))

theorem captureLeg_canonical {n} (h : d.canonical) : (captureLeg n d).canonical := by
  unfold captureLeg
  extract_lets _ d1 d2
  have h1 : d1.canonical := by
    unfold d1
    split
    · exact setNum_canonical (setNum_canonical h)
    · exact h
  have h2 : d2.canonical := by
    unfold d2
    split
    · exact setNum_canonical h1
    · exact h1
  exact onLeg_canonical h2

theorem captureBrick_canonical {k} (h : d.canonical) : (captureBrick k d).canonical := by
  unfold captureBrick
  extract_lets _ d1 d2
  have h1 : d1.canonical := by
    unfold d1
    split
    · exact setNum_canonical (setNum_canonical h)
    · exact h
  have h2 : d2.canonical := by
    unfold d2
    split
    · exact setNum_canonical h1
    · exact h1
  exact onBrick_canonical h2

/-! The modulator sequencer and period synchronisation (R50 to R53, R73 to R86). -/

theorem shedLeg_canonical {n cause} (h : d.canonical) : (shedLeg n cause d).canonical := onLeg_canonical h

theorem limitRule_canonical {x n} (h : d.canonical) : (limitRule x n d).canonical := by
  induction n generalizing d with
  | zero => exact h
  | succ n ih =>
    unfold limitRule
    extract_lets
    split
    · exact h
    · exact ite_canonical (ih (shedLeg_canonical h)) h

theorem limitRestore_canonical {x} (h : d.canonical) : (limitRestore x d).canonical :=
  foldl_canonical h fun _ _ h1 => ite_canonical h1 (legToService_canonical h1)

theorem lightLoad_canonical {busy x} (h : d.canonical) : (lightLoad busy x d).canonical :=
  ite_canonical (onSeg_canonical h) <| ite_canonical (onSeg_canonical (foldl_canonical h fun _ _ h1 =>
      legToService_canonical h1)) (ite_canonical (onSeg_canonical h) (onSeg_canonical h))

theorem shedExpiry_canonical {x} (h : d.canonical) : (shedExpiry x d).canonical := by
  unfold shedExpiry
  split
  · exact h
  · exact onSeg_canonical (foldl_canonical (reach_canonical h) fun _ _ h1 => shedLeg_canonical h1)

theorem execDiodeEmulationEntry_canonical {n} (h : s.dev.canonical) : EndsCanonical (execDiodeEmulationEntry n s) :=
  done_canonical (ite_canonical (onLeg_canonical h) h)

theorem execBrakingWindowEnd_canonical {n} (h : s.dev.canonical) : EndsCanonical (execBrakingWindowEnd n s) := by
  unfold execBrakingWindowEnd
  extract_lets _ _ d1
  have h1 : d1.canonical := reach_canonical h
  exact done_canonical <| ite_canonical h <|
      ite_canonical (ite_canonical (onLeg_canonical h1) (legFault_canonical h1)) (onLeg_canonical h1)

theorem execSenseImplausible_canonical {n} (h : s.dev.canonical) : EndsCanonical (execSenseImplausible n s) :=
  done_canonical (ite_canonical (legFault_canonical h) h)

theorem detectorMemory_canonical {x} (h : d.canonical) : (detectorMemory x d).canonical :=
  ite_canonical (onSeg_canonical h) (onSeg_canonical h)

theorem releaseSegment_canonical {x} (h : d.canonical) : (releaseSegment x d).canonical := by
  unfold releaseSegment
  extract_lets d1 d2 _ _
  have h1 : d1.canonical := bump_canonical (raise1_canonical h)
  have h2 : d2.canonical := ite_canonical (foldl_canonical h1 fun _ _ h3 => brakeLeg_canonical h3) h1
  exact onRail_canonical (foldl_canonical h2 fun _ _ h4 => ite_canonical (abortEpisode_canonical h4) h4)

theorem brakeEndPeriod_canonical {x} (h : d.canonical) : (brakeEndPeriod x d).canonical := by
  unfold brakeEndPeriod
  extract_lets _ _ d1 _
  have h1 : d1.canonical := onSeg_canonical h
  exact ite_canonical (onRail_canonical h1) h1

theorem offPeriod_canonical {n} (h : d.canonical) : (offPeriod n d).canonical := by
  unfold offPeriod
  extract_lets
  split
  · exact h
  · exact ite_canonical (onLeg_canonical h) h
  · exact h
  · exact ite_canonical (onLeg_canonical h) h
  · exact ite_canonical (onLeg_canonical h) h
  · exact ite_canonical (onLeg_canonical h) h

theorem sharePeriod_canonical {x} (h : d.canonical) : (sharePeriod x d).canonical := by
  unfold sharePeriod
  extract_lets
  refine foldl_canonical (onSeg_canonical h) fun _ _ h1 => ?_
  extract_lets _ _ _ _ d2 _
  have h2 : d2.canonical := onLeg_canonical h1
  exact ite_canonical (onLeg_canonical h2) (onLeg_canonical h2)

theorem sequenceSegment_canonical {busy returning x} (h : d.canonical) : (sequenceSegment busy returning x d).1.canonical := by
  unfold sequenceSegment
  extract_lets _ d1 d2 d3 d4 d5
  have h1 : d1.canonical := detectorMemory_canonical h
  clear_value d1
  have h2 : d2.canonical := ite_canonical (releaseSegment_canonical h1) h1
  clear_value d2
  have h3 : d3.canonical := brakeEndPeriod_canonical h2
  clear_value d3
  have h4 : d4.canonical := limitRestore_canonical (limitRule_canonical h3)
  clear_value d4
  have h5 : d5.canonical := lightLoad_canonical h4
  clear_value d5
  exact sharePeriod_canonical h5

theorem onSync_canonical {f} (h : d.canonical) : (onSync f d).canonical := h

theorem syncEdge_canonical {holder at_} (h : d.canonical) : (syncEdge holder at_ d).canonical :=
  ite_canonical h (onSync_canonical (reach_canonical h))

theorem syncInEdge_canonical {holder at_} (h : d.canonical) : (syncInEdge holder at_ d).canonical :=
  ite_canonical (syncEdge_canonical h) h

theorem execSyncLoss_canonical {offRate} (h : s.dev.canonical) : EndsCanonical (execSyncLoss offRate s) := by
  unfold execSyncLoss
  extract_lets _ d1
  have h1 : d1.canonical := by
    unfold d1
    split
    · exact reach_canonical h
    · exact h
  exact done_canonical <| ite_canonical h <| ite_canonical h (raise_canonical (bump_canonical (onSync_canonical h1)))

theorem syncFree_canonical (h : d.canonical) : (syncFree d).canonical := ite_canonical h (onSync_canonical h)
theorem syncPulse_canonical (h : d.canonical) : (syncPulse d).canonical := onSync_canonical h

theorem boundaryTick_canonical (h : d.canonical) : (boundaryTick d).canonical :=
  syncPulse_canonical (onSync_canonical (syncFree_canonical (reach_canonical h)))

/-! The loop engine's slots (R117 to R133) and the following error (R140). -/

theorem writeCell_canonical {s out next} (h : d.canonical) : (writeCell s out next d).canonical := h

theorem countSat_canonical {c n} (h : d.canonical) : (countSat c n d).canonical := by
  unfold countSat
  refine ite_canonical h ?_
  extract_lets _ _ d1
  have h1 : d1.canonical := bumpBy_canonical h
  exact cond_canonical (raise1_canonical h1) h1

theorem legSlot_canonical {n} (h : d.canonical) : (legSlot n d).canonical := by
  unfold legSlot
  extract_lets
  split
  · split
    · split
      · split
        · split
          · split
            · split
              · split
                · split
                  · split
                    · split
                      · split
                        · split
                          · split
                            · exact countSat_canonical (writeCell_canonical h)

theorem railSlot_canonical {j} (h : d.canonical) : (railSlot j d).canonical := by
  unfold railSlot
  refine ite_canonical (writeCell_canonical h) ?_
  extract_lets
  split
  · split
    · split
      · extract_lets
        split
        · refine ite_canonical ?_ ?_
          · split
            · split
              · extract_lets
                split
                · split
                  · split
                    · split
                      · split
                        · split
                          · split
                            · split
                              · split
                                · extract_lets
                                  split
                                  · split
                                    · exact countSat_canonical (writeCell_canonical (onRail_canonical h))
          · split
            · split
              · split
                · split
                  · split
                    · split
                      · split
                        · extract_lets
                          split
                          · extract_lets
                            split
                            · split
                              · split
                                · exact countSat_canonical (writeCell_canonical (onRail_canonical h))

theorem onAxis_canonical {x f} (h : d.canonical) : (onAxis x f d).canonical := h

theorem axisSlot_canonical {torqueOff x} (h : d.canonical) : (axisSlot torqueOff x d).canonical := by
  unfold axisSlot
  extract_lets
  refine ite_canonical (writeCell_canonical (onAxis_canonical (genRestAt_canonical h))) ?_
  split
  · split
    · split
      · split
        · split
          · split
            · split
              · split
                · split
                  · split
                    · split
                      · exact countSat_canonical (writeCell_canonical (onAxis_canonical h))

theorem execFollowingErrorTimer_canonical {x} (h : s.dev.canonical) : EndsCanonical (execFollowingErrorTimer x s) :=
  done_canonical (ite_canonical (raise1_canonical (onAxis_canonical h)) h)

theorem thermalSlot_canonical {w} (h : d.canonical) : (thermalSlot w d).canonical := by
  unfold thermalSlot
  extract_lets
  refine ite_canonical (writeCell_canonical (onThermal_canonical h)) ?_
  split
  · split
    · split
      · split
        · split
          · split
            · split
              · split
                · split
                  · split
                    · exact countSat_canonical (writeCell_canonical (onThermal_canonical h))

theorem slotFault_canonical {s} (h : d.canonical) : (slotFault s d).canonical :=
  raise_canonical (setNum_canonical (bump_canonical h))

theorem repeatOutput_canonical {s} {before : Dev} (hd : d.canonical) : (repeatOutput before s d).canonical := by
  unfold repeatOutput
  extract_lets d1 d2
  have h1 : d1.canonical := foldl_canonical hd fun _ _ h3 => ite_canonical (onRail_canonical h3) h3
  have h2 : d2.canonical := foldl_canonical h1 fun _ _ h4 => ite_canonical (onAxis_canonical h4) h4
  exact ite_canonical (dite_canonical (fun _ => onThermal_canonical h2) (fun _ => h2)) h2

theorem rebuildSlot_canonical {s} (h : d.canonical) : (rebuildSlot s d).canonical := by
  unfold rebuildSlot
  extract_lets d1 d2 d3 d4
  have h1 : d1.canonical := foldl_canonical h fun _ _ h5 => ite_canonical (h5.of_eq rfl rfl) h5
  have h2 : d2.canonical := foldl_canonical h1 fun _ _ h6 => ite_canonical (onRail_canonical h6) h6
  have h3 : d3.canonical := foldl_canonical h2 fun _ _ h7 => ite_canonical (raise1_canonical (onAxis_canonical h7)) h7
  have h4 : d4.canonical := foldl_canonical h3 fun _ _ h8 => foldl_canonical h8 fun _ _ h9 => ite_canonical (h9.of_eq rfl rfl) h9
  exact ite_canonical (dite_canonical (fun _ => onThermal_canonical h4) (fun _ => h4)) h4

theorem legOutput_canonical {n phase} (h : d.canonical) : (legOutput n phase d).canonical := by
  unfold legOutput
  extract_lets _ _ _ d1 _ _ _ _ _ d2
  have h1 : d1.canonical := onLeg_canonical h
  have h2 : d2.canonical := onLeg_canonical h
  exact ite_canonical h (ite_canonical (h1.of_eq rfl rfl) (h2.of_eq rfl rfl))

/-! Injection, response analysis, capture and sequence timers (R141 to R146). -/

theorem onInj_canonical {c f} (h : d.canonical) : (onInj c f d).canonical := h

theorem signalPeriod_canonical (h : d.canonical) : (signalPeriod d).canonical :=
  foldl_canonical h fun _ _ h1 => onInj_canonical h1

theorem analyse_canonical {c} (h : d.canonical) : (analyse c d).canonical := onInj_canonical h

theorem writeResults_canonical {c complete} (h : d.canonical) : (writeResults c complete d).canonical := by
  unfold writeResults
  extract_lets
  refine foldl_canonical h fun _ _ h1 => ?_
  extract_lets
  split
  · exact setNum_canonical (setNum_canonical h1)

theorem putCapture_canonical {u ws} (h : d.canonical) : (putCapture u ws d).canonical := by
  induction ws generalizing u d with
  | nil => exact h
  | cons w r ih =>
    unfold putCapture
    exact ite_canonical h (ih ⟨h.1, putUnit_wf _ _ _ h.2⟩)

theorem captureFrame_canonical {c} (h : d.canonical) : (captureFrame c d).canonical :=
  ite_canonical h <| onInj_canonical (putCapture_canonical (foldl_canonical h fun _ _ h1 => writeCell_canonical h1))

theorem analysisCells_canonical {c} (h : d.canonical) : (analysisCells c d).canonical :=
  foldl_canonical h fun _ _ h1 => writeCell_canonical h1

theorem advanceSignal_canonical {c} (h : d.canonical) : (advanceSignal c d).canonical := by
  unfold advanceSignal
  extract_lets
  split
  · exact onInj_canonical h
  · exact onInj_canonical h
  · split
    · exact ite_canonical (writeResults_canonical (onInj_canonical h)) (onInj_canonical h)

theorem analysisPeriod_canonical (h : d.canonical) : (analysisPeriod d).canonical :=
  foldl_canonical h fun _ _ h1 => ite_canonical (advanceSignal_canonical <|
      captureFrame_canonical (analysisCells_canonical (analyse_canonical h1))) <|
      foldl_canonical (analysisCells_canonical h1) fun _ _ h2 => writeCell_canonical h2

theorem onTimer_canonical {t o} (h : d.canonical) : (onTimer t o d).canonical := h
theorem releaseTimers_canonical {owner} (h : d.canonical) : (releaseTimers owner d).canonical := h

theorem injClose_canonical {c st cause status} (h : d.canonical) : (injClose c st cause status d).canonical := by
  unfold injClose
  extract_lets d1 d2 d3 _
  have h1 : d1.canonical := onInj_canonical h
  clear_value d1
  have h2 : d2.canonical := releaseTimers_canonical h1
  clear_value d2
  have h3 : d3.canonical := putCapture_canonical (internalChannel_canonical h2)
  clear_value d3
  exact ite_canonical (ite_canonical (releaseCapture_canonical h3) (h3.of_eq rfl rfl)) h2

theorem injectionEnd_canonical {c} (h : d.canonical) : (injectionEnd c d).canonical :=
  ite_canonical (injClose_canonical (writeResults_canonical (onInj_canonical h))) h

theorem injAbort_canonical {c cause} (h : d.canonical) : (injAbort c cause d).canonical :=
  ite_canonical (injClose_canonical (writeResults_canonical h)) h

theorem abortPeriod_canonical {released} (h : d.canonical) : (abortPeriod released d).canonical := by
  unfold abortPeriod
  refine foldl_canonical h fun _ _ h1 => ?_
  refine ite_canonical ?_ h1
  split
  · exact injAbort_canonical h1
  · exact h1

theorem injBegin_canonical {c session} (h : d.canonical) : (injBegin c session d).canonical := by
  unfold injBegin
  extract_lets _ _ _ d1 d2 _ _
  have h1 : d1.canonical := onInj_canonical (onTimer_canonical h)
  have h2 : d2.canonical := foldl_canonical h1 fun _ _ h3 => setNum_canonical (setNum_canonical h3)
  exact ite_canonical (putCapture_canonical (internalChannel_canonical (h2.of_eq rfl rfl))) h2

theorem generatorStart_canonical {g} (h : d.canonical) : (generatorStart g d).canonical := by
  unfold generatorStart
  extract_lets _ f1
  have h1 {d : Dev} (hd : d.canonical) : (f1 d).canonical := onGen_canonical hd
  exact dite_canonical (fun _ => onTimer_canonical (onGen_canonical h)) (fun _ => h1 h)

theorem execGeneratorStartDelayExpiry_canonical {g} (h : s.dev.canonical) :
    EndsCanonical (execGeneratorStartDelayExpiry g s) := by
  unfold execGeneratorStartDelayExpiry
  extract_lets
  refine done_canonical ?_
  split
  · exact releaseTimers_canonical (onGen_canonical (reach_canonical h))
  · exact h

/-! The allocator's planning: limits, demands, grants, layout and the move list (R149 to R161). -/

theorem onAlloc_canonical {f} (h : d.canonical) : (onAlloc f d).canonical := h
theorem onOut_canonical {k f} (h : d.canonical) : (onOut k f d).canonical := h
theorem gridWrite_canonical (h : d.canonical) : (gridWrite d).canonical := onAlloc_canonical h

theorem execGridLimitExpiry_canonical (h : s.dev.canonical) : EndsCanonical (execGridLimitExpiry s) := by
  unfold execGridLimitExpiry
  extract_lets
  refine done_canonical ?_
  split
  · exact raise_canonical (onAlloc_canonical (reach_canonical h))
  · exact h

theorem onFront_canonical {i f} (h : d.canonical) : (onFront i f d).canonical := onAlloc_canonical h

theorem frontData_canonical {i imp exp stamp} (h : d.canonical) : (frontData i imp exp stamp d).canonical :=
  ite_canonical h (onFront_canonical h)

theorem execFrontEndStale_canonical {i} (h : s.dev.canonical) : EndsCanonical (execFrontEndStale i s) := by
  unfold execFrontEndStale
  extract_lets
  refine done_canonical ?_
  split
  · exact ite_canonical h (raise1_canonical (onFront_canonical (reach_canonical h)))
  · exact h

theorem execFrontEndStaleHoldExpiry_canonical {i} (h : s.dev.canonical) : EndsCanonical (execFrontEndStaleHoldExpiry i s) := by
  unfold execFrontEndStaleHoldExpiry
  extract_lets
  refine done_canonical ?_
  split
  · exact ite_canonical (onFront_canonical (reach_canonical h)) h
  · exact h

theorem noteSurplus_canonical {tentative} (h : d.canonical) : (noteSurplus tentative d).canonical := onAlloc_canonical h

theorem planningCycle_canonical (h : d.canonical) : (planningCycle d).canonical :=
  onAlloc_canonical (noteSurplus_canonical (onAlloc_canonical (reach_canonical h)))

theorem execPlanningOverrun_canonical (h : s.dev.canonical) : EndsCanonical (execPlanningOverrun s) := by
  unfold execPlanningOverrun
  extract_lets
  refine done_canonical ?_
  split
  · exact raise_canonical (bump_canonical (onAlloc_canonical (reach_canonical h)))
  · exact h

theorem execReleaseHoldExpiry_canonical {head} (h : s.dev.canonical) : EndsCanonical (execReleaseHoldExpiry head s) := by
  unfold execReleaseHoldExpiry
  extract_lets
  refine done_canonical ?_
  split
  · exact onAlloc_canonical (reach_canonical h)
  · exact h

theorem replan_canonical (h : d.canonical) : (replan d).canonical := onAlloc_canonical h

/-! Moves carried out: handover, their states and what meets them (R162 to R173), and the plan decided. -/

theorem onMove_canonical {i f} (h : d.canonical) : (onMove i f d).canonical := onAlloc_canonical h
theorem takeGenerator_canonical {g p target} (h : d.canonical) : (takeGenerator g p target d).canonical := onGen_canonical h
theorem giveGenerator_canonical {g} (h : d.canonical) : (giveGenerator g d).canonical := onGen_canonical h
theorem sendAllocation_canonical (h : d.canonical) : (sendAllocation d).canonical := enqueue_canonical h

theorem endMove_canonical {i st cause} (h : d.canonical) : (endMove i st cause d).canonical := by
  unfold endMove
  split
  · exact h
  · rename_i m _
    extract_lets d1 _ d2 d3 d4 _ d5 d6
    have h1 : d1.canonical := by
      unfold d1
      split
      · exact giveGenerator_canonical h
      · exact h
    have h4 : d4.canonical := onAlloc_canonical (foldl_canonical (onMove_canonical h1) fun _ _ h => onAlloc_canonical h)
    have h5 : d5.canonical := ite_canonical h4 (raise_canonical h4)
    have h6 : d6.canonical := by
      unfold d6
      split
      · exact raise1_canonical (bump_canonical h5)
      · exact raise1_canonical (bump_canonical h5)
      · exact h5
    exact ite_canonical h6 (sendAllocation_canonical h6)

theorem enterPhase_canonical {i p} (h : d.canonical) : (enterPhase i p d).canonical := onMove_canonical h
theorem askContactor_canonical {x closed} (h : d.canonical) : (askContactor x closed d).canonical := onContactor_canonical h

theorem beginRelease_canonical {i g} (h : d.canonical) : (beginRelease i g d).canonical := by
  unfold beginRelease
  split
  · exact h
  · extract_lets _ _ _ f1
    have h1 {d : Dev} (hd : d.canonical) : (f1 d).canonical :=
        ite_canonical (endMove_canonical (foldl_canonical hd fun _ _ h2 => shedLeg_canonical h2)) (enterPhase_canonical hd)
    refine ite_canonical (h1 h) ?_
    split
    · exact enterPhase_canonical (onMove_canonical (takeGenerator_canonical h))
    · exact h

theorem beginTake_canonical {i g p} (h : d.canonical) : (beginTake i g p d).canonical := by
  unfold beginTake
  split
  · exact ite_canonical (endMove_canonical h) (enterPhase_canonical (onMove_canonical (takeGenerator_canonical h)))
  · exact h

theorem grantsPeriod_canonical (h : d.canonical) : (grantsPeriod d).canonical := onAlloc_canonical h

theorem moveStart_canonical {i} (h : d.canonical) : (moveStart i d).canonical := by
  unfold moveStart
  split
  · exact h
  · refine ite_canonical h ?_
    extract_lets _ d1 g d2 d3 d4
    have h1 : d1.canonical := onMove_canonical h
    clear_value g
    have h3 : d3.canonical := by
      unfold d3
      split
      · exact takeGenerator_canonical (onMove_canonical h1)
      · exact onMove_canonical h1
    have h4 : d4.canonical := foldl_canonical h1 fun _ _ h => legToService_canonical h
    refine grantsPeriod_canonical ?_
    split
    · exact enterPhase_canonical (beginTie_canonical h3)
    · exact beginRelease_canonical h1
    · exact beginRelease_canonical h1
    · exact beginRelease_canonical h1
    · exact beginTake_canonical h4
    · exact enterPhase_canonical h1

theorem withdraw_canonical {m} (h : d.canonical) : (withdraw m d).canonical := by
  unfold withdraw
  split
  · exact onContactor_canonical h
  · exact h

theorem reverseMove_canonical {i cause} (h : d.canonical) : (reverseMove i cause d).canonical := by
  unfold reverseMove
  extract_lets d1
  have h1 : d1.canonical := onMove_canonical h
  split
  · exact h
  · extract_lets d2 _ _
    have h2 : d2.canonical := withdraw_canonical h1
    split
    · exact ite_canonical (genShare_canonical h2) (ite_canonical (enterPhase_canonical h2) (endMove_canonical h2))
    · exact ite_canonical (enterPhase_canonical h2) (endMove_canonical h2)

theorem failMove_canonical {i cause} (h : d.canonical) : (failMove i cause d).canonical := by
  unfold failMove
  split
  · exact h
  · extract_lets d1 _ _
    have h1 : d1.canonical := withdraw_canonical h
    exact endMove_canonical (ite_canonical (ite_canonical (beginStop_canonical (endEpisode_canonical h1)) h1) h1)

theorem handoverEnd_canonical {i} (h : d.canonical) : (handoverEnd i d).canonical := by
  unfold handoverEnd
  extract_lets
  split
  · exact h
  · refine ite_canonical h ?_
    extract_lets
    refine ite_canonical h ?_
    refine ite_canonical ?_ ?_
    · refine ite_canonical h ?_
      split
      · exact endMove_canonical <| foldl_canonical h fun _ _ h1 => ite_canonical (shedLeg_canonical h1) h1
      · exact endMove_canonical <| foldl_canonical h fun _ _ h2 => ite_canonical (shedLeg_canonical h2) h2
      · exact enterPhase_canonical h
    · refine ite_canonical (endMove_canonical h) ?_
      split
      · exact genShare_canonical h
      · exact h

theorem execHandoverTimeout_canonical {n} (h : s.dev.canonical) : EndsCanonical (execHandoverTimeout n s) := by
  unfold execHandoverTimeout
  extract_lets
  refine done_canonical ?_
  split
  · refine ite_canonical h ?_
    extract_lets d1
    have h1 : d1.canonical := reach_canonical h
    exact ite_canonical (reverseMove_canonical h1) (endMove_canonical h1)
  · exact h

theorem execOpenWaitLimit_canonical {n} (h : s.dev.canonical) : EndsCanonical (execOpenWaitLimit n s) := by
  unfold execOpenWaitLimit
  extract_lets
  refine done_canonical ?_
  split
  · refine ite_canonical h ?_
    extract_lets _ d1
    have h1 : d1.canonical := withdraw_canonical (reach_canonical h)
    exact ite_canonical (reverseMove_canonical h1) (endMove_canonical h1)
  · exact h

theorem execRestoreWaitLimit_canonical {n} (h : s.dev.canonical) : EndsCanonical (execRestoreWaitLimit n s) := by
  unfold execRestoreWaitLimit
  extract_lets
  refine done_canonical ?_
  split
  · exact ite_canonical h (failMove_canonical (onAlloc_canonical (reach_canonical h)))
  · exact h

theorem noteGrant_canonical {i} (h : d.canonical) : (noteGrant d i).canonical := by
  unfold noteGrant
  split
  · exact h
  · split
    · exact h
    · exact ite_canonical h <| ite_canonical (onMove_canonical h) (ite_canonical (enterPhase_canonical (onMove_canonical h)) h)

theorem applyCause_canonical {i cause} (h : d.canonical) : (applyCause i cause d).canonical := by
  unfold applyCause
  split
  · exact h
  · exact ite_canonical h <| ite_canonical (ite_canonical h (failMove_canonical h)) <|
        ite_canonical (onMove_canonical h) <| ite_canonical (failMove_canonical h) (ite_canonical (reverseMove_canonical h) h)

theorem moveEvents_canonical {released i} (h : d.canonical) : (moveEvents released d i).canonical := by
  unfold moveEvents
  split
  · exact h
  · refine ite_canonical h ?_
    exact ite_canonical (applyCause_canonical h) <| ite_canonical (failMove_canonical h) <|
        ite_canonical (ite_canonical (reverseMove_canonical h) (endMove_canonical h)) (ite_canonical (failMove_canonical h) h)

theorem groupEvents_canonical {i} (h : d.canonical) : (groupEvents d i).canonical := by
  unfold groupEvents
  split
  · exact h
  · refine ite_canonical h ?_
    extract_lets _ _ _ _ d1 d2 _ d3
    have h1 : d1.canonical := onMove_canonical h
    have h2 : d2.canonical := by
      unfold d2
      split
      · exact ite_canonical (genShare_canonical h1) h1
      · exact h1
    have h3 : d3.canonical := onMove_canonical h2
    exact ite_canonical (handoverEnd_canonical h3) h3

theorem contactorPhase_canonical {i} (h : d.canonical) : (contactorPhase d i).canonical := by
  unfold contactorPhase
  split
  · exact h
  · extract_lets _ d1
    have h1 : d1.canonical := beginTake_canonical h
    split
    · exact h
    · refine ite_canonical h ?_
      split
      · exact ite_canonical (enterPhase_canonical (askContactor_canonical h)) h
      · exact ite_canonical (askContactor_canonical h) <|
            ite_canonical (ite_canonical (endMove_canonical h) (ite_canonical h1 (applyCause_canonical h1)))
            (ite_canonical (failMove_canonical h) h)
      · exact askContactor_canonical h
      · exact ite_canonical (endMove_canonical h) <|
            ite_canonical (ite_canonical (reverseMove_canonical h) (endMove_canonical h)) h
      · exact ite_canonical (enterPhase_canonical (askContactor_canonical h)) h
      · exact h

theorem followerTies_canonical (h : d.canonical) : (followerTies d).canonical :=
  foldl_canonical h fun _ _ h1 => ite_canonical (askContactor_canonical h1) h1

theorem omitMove_canonical {i} (h : d.canonical) : (omitMove i d).canonical := applyCause_canonical h

theorem omitAll_canonical (h : d.canonical) : (omitAll d).canonical := by
  unfold omitAll
  refine foldl_canonical h fun _ _ h1 => ?_
  split
  · exact ite_canonical (omitMove_canonical h1) h1
  · exact h1

theorem takePlan_canonical {p t} (h : d.canonical) : (takePlan p t d).canonical := by
  unfold takePlan
  extract_lets _ d1 _ _ _ _ _
  have h1 : d1.canonical := by
    unfold d1
    refine foldl_canonical h fun _ _ h2 => ?_
    split
    · exact ite_canonical (raise_canonical (onMove_canonical h2)) (ite_canonical (omitMove_canonical h2) h2)
    · exact h2
  exact onAlloc_canonical h1

theorem decidePlan_canonical (h : d.canonical) : (decidePlan d).canonical := by
  unfold decidePlan
  split
  · exact h
  · refine ite_canonical h ?_
    extract_lets d1
    have h1 : d1.canonical := by
      unfold d1
      split
      · exact takePlan_canonical h
      · exact h
    exact sendAllocation_canonical (grantsPeriod_canonical (onAlloc_canonical h1))

theorem allocatorPeriod_canonical {released} (h : d.canonical) : (allocatorPeriod released d).canonical := by
  unfold allocatorPeriod
  extract_lets each d1
  have heach {f : Dev → Nat → Dev} {d : Dev} (hf : ∀ d i, d.canonical → (f d i).canonical) (h : d.canonical) :
      (each f d).canonical := foldl_canonical h hf
  have h1 : d1.canonical :=
    heach (fun _ _ => groupEvents_canonical) (heach (fun _ _ => moveEvents_canonical) (heach (fun _ _ => noteGrant_canonical) h))
  exact grantsPeriod_canonical (followerTies_canonical (heach (fun _ _ => contactorPhase_canonical) (decidePlan_canonical h1)))

/-! The outlet state machine (R179 to R203, R502, R503). -/

theorem sendStatus_canonical {k} (h : d.canonical) : (sendStatus k d).canonical := onOut_canonical (enqueue_canonical h)
theorem outEnter_canonical {k s} (h : d.canonical) : (outEnter k s d).canonical := sendStatus_canonical (onOut_canonical h)

theorem beginFast_canonical {k} (h : d.canonical) : (beginFast k d).canonical :=
  ite_canonical (onGen_canonical (onOut_canonical h)) h

theorem recordCause_canonical {k c} (h : d.canonical) : (recordCause k c d).canonical := onOut_canonical h
theorem dropTarget_canonical {k} (h : d.canonical) : (dropTarget k d).canonical := onOut_canonical h
theorem keepLimit_canonical {k} (h : d.canonical) : (keepLimit k d).canonical := ite_canonical h (onOut_canonical h)
theorem holdSetPoint_canonical {k} (h : d.canonical) : (holdSetPoint k d).canonical := onRail_canonical h

theorem endCheck_canonical {k} (h : d.canonical) : (endCheck k d).canonical := by
  unfold endCheck
  extract_lets _ _ d1
  have h1 : d1.canonical := foldl_canonical h fun _ _ h2 => endEpisode_canonical h2
  refine ite_canonical (beginStops_canonical (holdSetPoint_canonical (ite_canonical h1 (endEpisode_canonical h1)))) ?_
  exact ite_canonical (beginStops_canonical (endEpisode_canonical (onContactor_canonical h1))) (beginStops_canonical h1)

theorem weldStop_canonical {k} (h : d.canonical) : (weldStop k d).canonical := ite_canonical (beginStop_canonical h) h

theorem enterFaulted_canonical {k c} (h : d.canonical) : (enterFaulted k c d).canonical := by
  unfold enterFaulted
  extract_lets _ _ d1 d2 d3 d4 _ d5
  have h1 : d1.canonical := ite_canonical (keepLimit_canonical h) h
  have h2 : d2.canonical := ite_canonical (endCheck_canonical h1) h1
  have h3 : d3.canonical := ite_canonical (beginFast_canonical (holdSetPoint_canonical h2)) h2
  have h4 : d4.canonical := recordCause_canonical (dropTarget_canonical h3)
  have h5 : d5.canonical := outEnter_canonical (bump_canonical (onOut_canonical h4))
  exact ite_canonical (weldStop_canonical h5) h5

theorem enterWinddown_canonical {k c} (h : d.canonical) : (enterWinddown k c d).canonical := by
  unfold enterWinddown
  extract_lets d1 d2 d3
  have h1 : d1.canonical := keepLimit_canonical h
  have h2 : d2.canonical := ite_canonical (endCheck_canonical h1) h1
  have h3 : d3.canonical := ite_canonical (beginFast_canonical h2) h2
  exact outEnter_canonical (recordCause_canonical (dropTarget_canonical h3))

theorem raiseCause_canonical {k c} (h : d.canonical) : (raiseCause k c d).canonical := onOut_canonical h
theorem raiseEvent_canonical {k e} (h : d.canonical) : (raiseEvent k e d).canonical := onOut_canonical h
theorem laterCause_canonical {k c} (h : d.canonical) : (laterCause k c d).canonical := raise_canonical h

theorem takeCauses_canonical {k l} (h : d.canonical) : (takeCauses k l d).canonical := by
  unfold takeCauses
  extract_lets first d1
  have hfirst {p : Nat → Bool} {f : Nat → Dev} (hf : ∀ c, (f c).canonical) : (first p f).canonical := by
    unfold first
    split
    · exact hf _
    · exact h
  have h1 : d1.canonical := foldl_canonical h fun _ _ h => laterCause_canonical h
  clear_value first d1
  split
  · exact h
  · exact onOut_canonical h
  · exact hfirst fun _ => enterFaulted_canonical h
  · exact hfirst fun _ => enterFaulted_canonical h
  · exact hfirst fun _ =>
        ite_canonical (enterFaulted_canonical h) (outEnter_canonical (recordCause_canonical (dropTarget_canonical h)))
  · exact hfirst fun _ =>
        ite_canonical (enterFaulted_canonical h) (outEnter_canonical (recordCause_canonical (dropTarget_canonical h)))
  · split
    · exact enterFaulted_canonical h1
    · exact h1
  · split
    · exact enterFaulted_canonical h1
    · exact h1
  · exact hfirst fun _ => ite_canonical (enterFaulted_canonical h) (enterWinddown_canonical h)

theorem acceptUpdate_canonical {k b} (h : d.canonical) : (acceptUpdate k b d).canonical :=
  onOut_canonical (ite_canonical (bump_canonical h) h)

theorem sessionVoltage_canonical {k v} (h : d.canonical) : (sessionVoltage k v d).canonical :=
  ite_canonical h (onRail_canonical (ite_canonical (bump_canonical h) h))

theorem targetUpdate_canonical {b} (h : d.canonical) : (targetUpdate b d).canonical := by
  refine dite_canonical (fun _ => ?_) (fun _ => h)
  extract_lets _ d1
  have h1 : d1.canonical := acceptUpdate_canonical h
  exact ite_canonical (bump_canonical h) (ite_canonical (sessionVoltage_canonical h1) h1)

theorem execVehicleTargetUpdate_canonical {m} (h : s.dev.canonical) : EndsCanonical (execVehicleTargetUpdate m s) := by
  unfold execVehicleTargetUpdate
  split
  · rename_i d1 _ e1
    have h1 := fst_canonical e1 (receive_canonical h)
    exact done_canonical (ite_canonical (targetUpdate_canonical h1) h1)

theorem imdReading_canonical {k x} (h : d.canonical) : (imdReading k x d).canonical := by
  unfold imdReading
  refine ite_canonical h ?_
  extract_lets d1 _ _ d2
  have h1 : d1.canonical := onOut_canonical h
  have h2 : d2.canonical := onOut_canonical h1
  exact ite_canonical (ite_canonical (raiseCause_canonical h2) h2) h1

theorem newerReading_canonical {k x} (h : d.canonical) : (newerReading k x d).canonical := by
  unfold newerReading
  split
  · exact ite_canonical h (imdReading_canonical h)
  · exact imdReading_canonical h

theorem execCableCheckRailReady_canonical {k} (h : s.dev.canonical) : EndsCanonical (execCableCheckRailReady k s) :=
  done_canonical (ite_canonical (onOut_canonical (beginOutlet_canonical h)) h)

theorem beginRaise_canonical {k} (h : d.canonical) : (beginRaise k d).canonical := by
  unfold beginRaise
  refine ite_canonical (raiseCause_canonical h) ?_
  extract_lets _ _ _ _ _ d1 _
  have h1 : d1.canonical := onOut_canonical h
  exact beginRatio_canonical (foldl_canonical h1 fun _ _ h2 => ite_canonical (onRail_canonical h2) h2)

theorem checkPeriod_canonical {k} (h : d.canonical) : (checkPeriod k d).canonical := by
  unfold checkPeriod
  extract_lets _ _ d1
  have h1 : d1.canonical := ite_canonical (onOut_canonical h) h
  split
  · exact ite_canonical (beginRaise_canonical h) (ite_canonical (askContactor_canonical h) h)
  · exact ite_canonical h1 <|
        ite_canonical (onOut_canonical h1) (ite_canonical (raiseCause_canonical h1) (raiseCause_canonical h1))
  · exact ite_canonical (onOut_canonical h) h
  · exact h

theorem execImdSettleExpiry_canonical {k} (h : s.dev.canonical) : EndsCanonical (execImdSettleExpiry k s) := by
  unfold execImdSettleExpiry
  extract_lets _ _ d1
  have h1 : d1.canonical := reach_canonical h
  refine done_canonical ?_
  refine ite_canonical h ?_
  split
  · refine ite_canonical (raiseCause_canonical h1) ?_
    extract_lets _ d2
    have h2 : d2.canonical := onOut_canonical h1
    exact ite_canonical (raiseCause_canonical h2) (sendStatus_canonical (onOut_canonical h2))
  · exact raiseCause_canonical h1

theorem execCableCheckTimeout_canonical {k} (h : s.dev.canonical) : EndsCanonical (execCableCheckTimeout k s) :=
  done_canonical (ite_canonical (raiseCause_canonical (reach_canonical h)) h)

theorem execCableShort_canonical {k} (h : s.dev.canonical) : EndsCanonical (execCableShort k s) :=
  done_canonical (ite_canonical (raiseCause_canonical h) h)

theorem execImdAgeExpiry_canonical {k} (h : s.dev.canonical) : EndsCanonical (execImdAgeExpiry k s) := by
  unfold execImdAgeExpiry
  extract_lets
  refine done_canonical ?_
  refine ite_canonical ?_ h
  split
  · exact raiseCause_canonical (reach_canonical h)
  · exact raiseCause_canonical h

theorem applyPhase_canonical {k} (h : d.canonical) : (applyPhase k d).canonical := by
  unfold applyPhase
  extract_lets _ f1 f2 _
  have h1 {d : Dev} (hd : d.canonical) : (f1 d).canonical := onOut_canonical hd
  have h2 {x} : (f2 x).canonical := h1 (onOut_canonical h)
  refine ite_canonical h ?_
  refine ite_canonical (ite_canonical h (h1 h)) ?_
  split
  · exact ite_canonical (outEnter_canonical (h1 (setNum_canonical h))) h
  · exact ite_canonical (outEnter_canonical (h1 (onOut_canonical h))) h
  · exact ite_canonical (sessionVoltage_canonical (outEnter_canonical (h1 h))) h
  · exact ite_canonical (outEnter_canonical (h1 (onRail_canonical h)))
        (ite_canonical (outEnter_canonical (h1 (onRail_canonical h))) h)
  · exact ite_canonical h2 (ite_canonical h2 (h1 h))
  · exact ite_canonical h2 (ite_canonical h2 (h1 h))
  · exact h

theorem execDirectionChangeComplete_canonical {k} (h : s.dev.canonical) : EndsCanonical (execDirectionChangeComplete k s) :=
  done_canonical (ite_canonical (raiseEvent_canonical h) h)

theorem returnToService_canonical {k} (h : d.canonical) : (returnToService k d).canonical :=
  outEnter_canonical (setNum_canonical (onOut_canonical h))

theorem enterWeld_canonical {k} (h : d.canonical) : (enterWeld k d).canonical := by
  unfold enterWeld
  extract_lets _ _ _ d1
  have h1 : d1.canonical := ite_canonical (toVoltageMode_canonical h) h
  exact sessionVoltage_canonical (outEnter_canonical (onOut_canonical h1))

theorem enterPlugged_canonical {k} (h : d.canonical) : (enterPlugged k d).canonical := outEnter_canonical (onOut_canonical h)

theorem takeEvent_canonical {k e} (h : d.canonical) : (takeEvent k e d).canonical := by
  unfold takeEvent
  extract_lets _ d1
  have h1 : d1.canonical := onOut_canonical h
  split
  · exact enterPlugged_canonical (bump_canonical h)
  · exact outEnter_canonical (recordCause_canonical (dropTarget_canonical h))
  · exact weldStop_canonical (outEnter_canonical h)
  · exact outEnter_canonical (onOut_canonical h)
  · exact outEnter_canonical h
  · exact returnToService_canonical h
  · exact ite_canonical (enterPlugged_canonical h1) (outEnter_canonical h1)

theorem quietPeriod_canonical {k events} (h : d.canonical) : (quietPeriod k events d).canonical := by
  unfold quietPeriod
  split
  · exact takeEvent_canonical h
  · split
    · exact ite_canonical (returnToService_canonical h) h
    · exact ite_canonical (enterWeld_canonical h) h
    · exact applyPhase_canonical h

theorem statusPeriod_canonical {k} (h : d.canonical) : (statusPeriod k d).canonical := ite_canonical (sendStatus_canonical h) h

theorem outletPeriod_canonical {k} (h : d.canonical) : (outletPeriod k d).canonical := by
  unfold outletPeriod
  extract_lets _ d1 d2 _ _ d3 d4
  have h1 : d1.canonical := onOut_canonical h
  have h2 : d2.canonical := ite_canonical (checkPeriod_canonical h1) h1
  have h3 : d3.canonical := onOut_canonical h2
  have h4 : d4.canonical := ite_canonical (takeCauses_canonical h3) (quietPeriod_canonical (takeCauses_canonical h3))
  exact statusPeriod_canonical h4

theorem outletGenerators_canonical (h : d.canonical) : (outletGenerators d).canonical := by
  unfold outletGenerators
  refine foldl_canonical h fun _ _ h1 => ?_
  extract_lets _ _ _ d2 _ _
  have h2 : d2.canonical := ite_canonical (onGen_canonical h1) h1
  refine ite_canonical h1 ?_
  refine ite_canonical (onGen_canonical (onOut_canonical h1)) ?_
  split
  · exact onGen_canonical h2
  · exact ite_canonical (ite_canonical h2 (genTarget_canonical h2)) h2

theorem execFastStopEnd_canonical {k} (h : s.dev.canonical) : EndsCanonical (execFastStopEnd k s) := by
  unfold execFastStopEnd
  extract_lets
  refine done_canonical ?_
  split
  · exact genRestAt_canonical (onOut_canonical (reach_canonical h))
  · exact h

theorem releaseOutlets_canonical {x} (h : d.canonical) : (releaseOutlets x d).canonical :=
  foldl_canonical h fun _ _ h1 => raiseCause_canonical (genRestAt_canonical (onOut_canonical h1))

theorem execOutletContactorOpen_canonical {k} (h : s.dev.canonical) : EndsCanonical (execOutletContactorOpen k s) :=
  done_canonical <|
      ite_canonical (askContactor_canonical h) (ite_canonical (askContactor_canonical (reach_canonical h)) h)

theorem execFaultedRailStop_canonical {k} (h : s.dev.canonical) : EndsCanonical (execFaultedRailStop k s) := by
  unfold execFaultedRailStop
  extract_lets _ d1
  have h1 : d1.canonical := onOut_canonical h
  exact done_canonical (ite_canonical (ite_canonical (beginStop_canonical h1) h1) h)

theorem execWinddownTimeout_canonical {k} (h : s.dev.canonical) : EndsCanonical (execWinddownTimeout k s) :=
  done_canonical (ite_canonical (raiseCause_canonical (reach_canonical h)) h)

theorem execWeldCheckPass_canonical {k} (h : s.dev.canonical) : EndsCanonical (execWeldCheckPass k s) :=
  done_canonical (ite_canonical (raiseEvent_canonical h) h)

theorem execCableDischargeExpiry_canonical {k} (h : s.dev.canonical) : EndsCanonical (execCableDischargeExpiry k s) :=
  done_canonical (ite_canonical (raiseCause_canonical (reach_canonical h)) h)

theorem execConnectionDetected_canonical {k} (h : s.dev.canonical) : EndsCanonical (execConnectionDetected k s) :=
  done_canonical (ite_canonical (raiseEvent_canonical (reach_canonical h)) h)

theorem execUnplugDetected_canonical {k} (h : s.dev.canonical) : EndsCanonical (execUnplugDetected k s) :=
  done_canonical (ite_canonical (raiseEvent_canonical (reach_canonical h)) h)

theorem execPlugTimeout_canonical {k} (h : s.dev.canonical) : EndsCanonical (execPlugTimeout k s) :=
  done_canonical (ite_canonical (raiseCause_canonical (reach_canonical h)) h)

theorem execTargetTimeout_canonical {k} (h : s.dev.canonical) : EndsCanonical (execTargetTimeout k s) :=
  done_canonical (ite_canonical (raiseCause_canonical (reach_canonical h)) h)

theorem onVehicle_canonical {k f} (h : d.canonical) : (onVehicle k f d).canonical := h

theorem repeatUpdate_canonical {k} (h : d.canonical) : (repeatUpdate k d).canonical :=
  ite_canonical (onVehicle_canonical (enqueue_canonical h)) h

theorem repeatUpdates_canonical (h : d.canonical) : (repeatUpdates d).canonical :=
  ite_canonical (foldl_canonical h fun _ _ h1 => repeatUpdate_canonical h1) h

theorem metrologyFeed_canonical {k v i} (h : d.canonical) : (metrologyFeed k v i d).canonical :=
  onRail_canonical (onOut_canonical h)

/-! The metering link, the registers, the sessions, the signed records, the pulses and the saves (R210 to R247, R31). -/

theorem onMetro_canonical {f} (h : d.canonical) : (onMetro f d).canonical := h
theorem onMeter_canonical {k f} (h : d.canonical) : (onMeter k f d).canonical := onMetro_canonical h
theorem onSession_canonical {k f} (h : d.canonical) : (onSession k f d).canonical := onMeter_canonical h

theorem audit_canonical {kind session idx sub old new} (h : d.canonical) : (audit kind session idx sub old new d).1.canonical :=
  ite_fst_canonical h (onMetro_canonical h)

theorem auditAlways_canonical {kind} (h : d.canonical) : (auditAlways kind d).canonical := by
  unfold auditAlways
  split
  · rename_i d1 _ e1
    have h1 := fst_canonical e1 (audit_canonical h)
    exact ite_canonical h1 (raise_canonical (bump_canonical h1))

theorem recallTransition_canonical (h : d.canonical) : (recallTransition d).canonical := by
  unfold recallTransition
  split
  · exact setNum_canonical h
  · exact h

theorem missFrames_canonical {k n} (h : d.canonical) : (missFrames k n d).canonical :=
  ite_canonical h (onSession_canonical (onMeter_canonical (bumpBy_canonical h)))

theorem onPulse_canonical {p f} (h : d.canonical) : (onPulse p f d).canonical := onMetro_canonical h

theorem testPulses_canonical {k date power dt} (h : d.canonical) : (testPulses k date power dt d).canonical :=
  foldl_canonical h fun _ _ h1 => ite_canonical h1 (onPulse_canonical h1)

theorem takeSample_canonical {k counts r date v i} (h : d.canonical) : (takeSample k counts r date v i d).canonical := by
  unfold takeSample
  extract_lets _ _ _ d1
  have h1 : d1.canonical := onMeter_canonical h
  exact ite_canonical (testPulses_canonical h1) h1

theorem takeFrameSamples_canonical {k arrival f} (h : d.canonical) : (takeFrameSamples k arrival f d).canonical :=
  foldl_canonical (onSession_canonical (onMeter_canonical h)) fun _ _ h1 => takeSample_canonical h1

theorem meterFrame_canonical {k arrival f} (h : d.canonical) : (meterFrame k arrival f d).canonical := by
  unfold meterFrame
  extract_lets _ d1 d2 d3 d4
  have h1 : d1.canonical := onMeter_canonical h
  have h2 : d2.canonical := onMeter_canonical (missFrames_canonical h1)
  have h3 : d3.canonical := bump_canonical (onMeter_canonical h2)
  have h4 : d4.canonical := ite_canonical h3 (onSession_canonical h3)
  exact ite_canonical (missFrames_canonical h1) <| ite_canonical (missFrames_canonical h2) (takeFrameSamples_canonical h4)

theorem execMeteringUplinkFrame_canonical {k arrival f} (h : s.dev.canonical) :
    EndsCanonical (execMeteringUplinkFrame k arrival f s) := by
  unfold execMeteringUplinkFrame
  extract_lets d1
  have h1 : d1.canonical := reachSite_canonical h
  refine done_canonical ?_
  refine ite_canonical h1 ?_
  split
  · exact ite_canonical (meterFrame_canonical h1) (missFrames_canonical h1)
  · exact missFrames_canonical h1

theorem execMeteringDownlinkFrame_canonical {k} (h : s.dev.canonical) : EndsCanonical (execMeteringDownlinkFrame k s) :=
  done_canonical (ite_canonical (onMeter_canonical (reach_canonical h)) h)

theorem execMeteringLinkDown_canonical {k} (h : s.dev.canonical) : EndsCanonical (execMeteringLinkDown k s) :=
  done_canonical (ite_canonical (onMeter_canonical h) h)

theorem execMeteringLinkUp_canonical {k} (h : s.dev.canonical) : EndsCanonical (execMeteringLinkUp k s) :=
  done_canonical (ite_canonical (onMeter_canonical h) h)

theorem pulseEdge_canonical {p t} (h : d.canonical) : (pulseEdge p t d).canonical := bump_canonical (onPulse_canonical h)

theorem pulseInterval_canonical {k t del ret p} (h : d.canonical) : (pulseInterval k t del ret d p).canonical := by
  unfold pulseInterval
  refine ite_canonical h ?_
  extract_lets _ d1
  have h1 : d1.canonical := onPulse_canonical h
  exact ite_canonical (onPulse_canonical h) (ite_canonical (pulseEdge_canonical h1) (onPulse_canonical h1))

theorem endInterval_canonical {k a} (h : d.canonical) : (endInterval k d a).canonical :=
  foldl_canonical (onMeter_canonical h) fun _ _ h1 => pulseInterval_canonical h1

theorem endIntervals_canonical {last k} (h : d.canonical) : (endIntervals last k d).canonical := by
  unfold endIntervals
  extract_lets
  split
  · exact onMeter_canonical (foldl_canonical h fun _ _ h1 => endInterval_canonical h1)

theorem sendFeed_canonical (h : d.canonical) : (sendFeed d).canonical :=
  foldl_canonical (transfer_canonical h) fun _ _ h1 => metrologyFeed_canonical h1

theorem closeTo_canonical {t} (h : d.canonical) : (closeTo t d).canonical :=
  ite_canonical h <| onMetro_canonical (foldl_canonical h fun _ _ h1 => endIntervals_canonical h1)

theorem execMeteringIntervalEnd_canonical (h : s.dev.canonical) : EndsCanonical (execMeteringIntervalEnd s) :=
  done_canonical <| ite_canonical (sendFeed_canonical (closeTo_canonical (reachSite_canonical h))) h

theorem execPulseBacklogIssue_canonical {p} (h : s.dev.canonical) : EndsCanonical (execPulseBacklogIssue p s) :=
  done_canonical <| ite_canonical h (pulseEdge_canonical (onPulse_canonical (reachSite_canonical h)))

theorem execTestPulseEdge_canonical {p} (h : s.dev.canonical) : EndsCanonical (execTestPulseEdge p s) := by
  unfold execTestPulseEdge
  extract_lets
  refine done_canonical ?_
  split
  · exact h
  · exact pulseEdge_canonical (onPulse_canonical (reachSite_canonical h))

theorem execOutletStatusCopy_canonical {k state time holder} (h : s.dev.canonical) :
    EndsCanonical (execOutletStatusCopy k state time holder s) :=
  done_canonical (ite_canonical h (onMeter_canonical h))

theorem openSession_canonical {k role late at_ number} (h : d.canonical) : (openSession k role late at_ number d).canonical :=
  onMeter_canonical h

theorem execMeteringSessionOpen_canonical {k} (h : s.dev.canonical) : EndsCanonical (execMeteringSessionOpen k s) := by
  unfold execMeteringSessionOpen
  extract_lets
  refine done_canonical ?_
  split
  · exact ite_canonical (openSession_canonical (closeTo_canonical (reachSite_canonical h))) h
  · exact h

theorem execMeteringSessionClose_canonical {k} (h : s.dev.canonical) : EndsCanonical (execMeteringSessionClose k s) := by
  unfold execMeteringSessionClose
  extract_lets
  refine done_canonical ?_
  split
  · exact ite_canonical h <| onMetro_canonical (onMeter_canonical (closeTo_canonical (reachSite_canonical h)))
  · exact h

theorem meterTakeOver_canonical (h : d.canonical) : (meterTakeOver d).canonical :=
  foldl_canonical h fun _ _ h1 => onSession_canonical h1

theorem execLateStartWitness_canonical {k} (h : s.dev.canonical) : EndsCanonical (execLateStartWitness k s) := by
  unfold execLateStartWitness
  extract_lets
  refine done_canonical ?_
  split
  · exact ite_canonical (openSession_canonical h) h
  · exact h

theorem sendRecord_canonical {seq p} (h : d.canonical) : (sendRecord seq p d).canonical := enqueue_canonical h

theorem execRecordSigned_canonical (h : s.dev.canonical) : EndsCanonical (execRecordSigned s) := by
  unfold execRecordSigned
  extract_lets
  refine done_canonical ?_
  split
  · exact ite_canonical h <| sendRecord_canonical (bump_canonical (bump_canonical (onMetro_canonical h)))
  · exact h

theorem execMeteringRecord_canonical {m} (h : s.dev.canonical) : EndsCanonical (execMeteringRecord m s) := by
  unfold execMeteringRecord
  split
  · rename_i d1 _ e1
    have h1 := fst_canonical e1 (receive_canonical h)
    exact done_canonical (ite_canonical (enqueue_canonical (ite_canonical h1 (onMetro_canonical h1))) h1)

theorem execMeteringRecordAcknowledge_canonical {m} (h : s.dev.canonical) :
    EndsCanonical (execMeteringRecordAcknowledge m s) := by
  unfold execMeteringRecordAcknowledge
  split
  · rename_i d1 _ e1
    have h1 := fst_canonical e1 (receive_canonical h)
    exact done_canonical (ite_canonical (onMetro_canonical h1) h1)

theorem execMeteringRecordRetransmit_canonical {seq} (h : s.dev.canonical) :
    EndsCanonical (execMeteringRecordRetransmit seq s) := by
  unfold execMeteringRecordRetransmit
  extract_lets
  refine done_canonical ?_
  split
  · split
    · exact ite_canonical h (sendRecord_canonical (onMetro_canonical (reach_canonical h)))
    · exact h
  · exact h

theorem writeSave_canonical {final} (h : d.canonical) : (writeSave final d).canonical := setNum_canonical (onMetro_canonical h)

theorem execPeriodicSave_canonical (h : s.dev.canonical) : EndsCanonical (execPeriodicSave s) :=
  done_canonical (ite_canonical (writeSave_canonical (reach_canonical h)) h)

theorem execFinalWriteStart_canonical (h : s.dev.canonical) : EndsCanonical (execFinalWriteStart s) := by
  unfold execFinalWriteStart
  extract_lets
  refine done_canonical ?_
  split
  · refine ite_canonical h ?_
    extract_lets d1 d2 d3
    have h1 : d1.canonical := ite_canonical h (reach_canonical h)
    have h2 : d2.canonical := foldl_canonical h1 fun _ _ h4 => ite_canonical (onSession_canonical h4) h4
    have h3 : d3.canonical := foldl_canonical h2 fun _ _ h5 => onMeter_canonical (foldl_canonical h5 fun _ _ h6 =>
        endInterval_canonical h6)
    split
    · rename_i d7 e7
      have h7 := snd_canonical e7 (freeNat_canonical h3)
      extract_lets d8 _ _
      have h8 : d8.canonical := onMetro_canonical (writeSave_canonical h7)
      exact h8.of_eq rfl rfl
  · exact h

theorem startMetering_canonical {unbroken} (h : d.canonical) : (startMetering unbroken d).canonical := by
  unfold startMetering
  extract_lets d1
  have h1 : d1.canonical := setNum_canonical (onMetro_canonical h)
  split
  · exact h1
  · extract_lets d2 _
    have h2 : d2.canonical := onMetro_canonical h1
    refine foldl_canonical (ite_canonical h2 (auditAlways_canonical (bump_canonical h2))) fun _ _ h3 => ?_
    extract_lets
    split
    · exact h3
    · exact onMetro_canonical h3

theorem execMetrologyStartClose_canonical (h : s.dev.canonical) : EndsCanonical (execMetrologyStartClose s) :=
  done_canonical (ite_canonical (bump_canonical (startMetering_canonical h)) h)

theorem execMetrologyRestartContinuation_canonical (h : s.dev.canonical) :
    EndsCanonical (execMetrologyRestartContinuation s) := by
  unfold execMetrologyRestartContinuation
  extract_lets
  refine done_canonical ?_
  refine ite_canonical ?_ h
  refine foldl_canonical (startMetering_canonical h) fun _ _ h1 => ?_
  extract_lets
  split
  · exact ite_canonical (openSession_canonical h1) h1
  · exact h1

theorem sealed_canonical {kind session idx sub new} (h : d.canonical) : (sealed kind session idx sub new d).canonical :=
  onMetro_canonical (audit_canonical h)

theorem openWindow_canonical {session} (h : d.canonical) : (openWindow session d).canonical :=
  onMetro_canonical (ite_canonical h (bump_canonical (audit_canonical h)))

theorem shutWindow_canonical {session} (h : d.canonical) : (shutWindow session d).canonical :=
  ite_canonical (onMetro_canonical (audit_canonical h)) h

theorem execMetrologyWindowExpiry_canonical (h : s.dev.canonical) : EndsCanonical (execMetrologyWindowExpiry s) := by
  unfold execMetrologyWindowExpiry
  extract_lets
  refine done_canonical ?_
  split
  · exact shutWindow_canonical (reach_canonical h)
  · exact h

theorem pairHead_canonical {k session} (h : d.canonical) : (pairHead k session d).canonical :=
  setNum_canonical (sealed_canonical h)

/-! The safety island: inputs, instances, outputs, Ridge connections and the configuration transaction (R250 to R293). -/

theorem onSafety_canonical {f} (h : d.canonical) : (onSafety f d).canonical := h
theorem onInput_canonical {n f} (h : d.canonical) : (onInput n f d).canonical := onSafety_canonical h
theorem onCore_canonical {c f} (h : d.canonical) : (onCore c f d).canonical := onSafety_canonical h
theorem onConsumer_canonical {c f} (h : d.canonical) : (onConsumer c f d).canonical := onSafety_canonical h
theorem onProducer_canonical {p f} (h : d.canonical) : (onProducer p f d).canonical := onSafety_canonical h

theorem resetEvent_canonical {scope} (h : d.canonical) : (resetEvent scope d).canonical :=
  foldl_canonical h fun _ _ h1 => onCore_canonical h1

theorem sampleInput_canonical {n a b} (h : d.canonical) : (sampleInput n a b d).canonical := by
  unfold sampleInput
  extract_lets _ _ _ d1 _ _ _ _ _ _ _ _ d2 _
  have h1 : d1.canonical := onInput_canonical h
  have h2 : d2.canonical := by
    unfold d2
    split
    · exact ite_canonical (resetEvent_canonical h1) h1
    · exact h1
  exact onInput_canonical (ite_canonical (onSafety_canonical h2) h2)

theorem execSafetyInputSample_canonical {a b fb} (h : s.dev.canonical) : EndsCanonical (execSafetyInputSample a b fb s) := by
  unfold execSafetyInputSample
  extract_lets _ _ d1
  have h1 : d1.canonical := foldl_canonical (reach_canonical h) fun _ _ h2 => sampleInput_canonical h2
  exact done_canonical (ite_canonical (onSafety_canonical h1) h)

theorem execDiscrepancyTimeout_canonical {n} (h : s.dev.canonical) : EndsCanonical (execDiscrepancyTimeout n s) := by
  unfold execDiscrepancyTimeout
  extract_lets
  refine done_canonical ?_
  split
  · exact ite_canonical h (raise1_canonical (onInput_canonical (reach_canonical h)))
  · exact h

theorem outputFault_canonical {core i} (h : d.canonical) : (outputFault core i d).canonical :=
  raise_canonical (onSafety_canonical h)

theorem readback_canonical {core read} (h : d.canonical) : (readback core read d).canonical := by
  unfold readback
  refine foldl_canonical h fun _ _ h1 => ?_
  extract_lets _ _ _ d2
  have h2 : d2.canonical := onCore_canonical h1
  exact ite_canonical (outputFault_canonical h2) h2

theorem execDarkPulseTest_canonical {core o took} (h : s.dev.canonical) : EndsCanonical (execDarkPulseTest core o took s) := by
  unfold execDarkPulseTest
  extract_lets _ _ _ d1 d2
  have h1 : d1.canonical := by
    unfold d1
    split
    · exact reach_canonical h
    · exact h
  have h2 : d2.canonical := onCore_canonical h1
  refine done_canonical ?_
  refine ite_canonical h ?_
  split
  · exact ite_canonical (setNum_canonical (bump_canonical (reach_canonical h2))) (onCore_canonical h2)
  · exact onCore_canonical h2

theorem execDarkPulseTimeout_canonical {core o} (h : s.dev.canonical) : EndsCanonical (execDarkPulseTimeout core o s) := by
  unfold execDarkPulseTimeout
  extract_lets
  refine done_canonical ?_
  split
  · exact outputFault_canonical (bump_canonical (bump_canonical (onCore_canonical (reach_canonical h))))
  · exact h

theorem ridgeSend_canonical {slot network address f} (h : d.canonical) : (ridgeSend slot network address f d).canonical :=
  enqueue_canonical h

theorem consumerFault_canonical {c cause} (h : d.canonical) : (consumerFault c cause d).canonical :=
  bump_canonical (setNum_canonical (onConsumer_canonical h))

theorem consumerAccept_canonical {c b} (h : d.canonical) : (consumerAccept c b d).canonical := by
  unfold consumerAccept
  extract_lets _ _ _ d1
  have h1 : d1.canonical := by
    unfold d1
    split
    · exact ite_canonical (resetEvent_canonical h) h
    · exact h
  exact onConsumer_canonical h1

theorem consumerFrame_canonical {c b} (h : d.canonical) : (consumerFrame c b d).canonical := by
  unfold consumerFrame
  refine ite_canonical h ?_
  extract_lets
  split
  · exact h
  · split
    · exact h
    · exact consumerFault_canonical h
    · exact ite_canonical (ite_canonical (consumerAccept_canonical h) (consumerFault_canonical h)) <|
          ite_canonical (onConsumer_canonical h) (ite_canonical (consumerAccept_canonical h) (consumerFault_canonical h))

theorem execRidgeFrameToSafety_canonical {m} (h : s.dev.canonical) : EndsCanonical (execRidgeFrameToSafety m s) := by
  unfold execRidgeFrameToSafety
  extract_lets
  split
  · rename_i d1 _ e1
    have h1 := fst_canonical e1 (receive_canonical h)
    exact done_canonical <| ite_canonical (dite_canonical (fun _ => consumerFrame_canonical h1) (fun _ => h1)) h1

theorem execRidgeWatchdog_canonical {c} (h : s.dev.canonical) : EndsCanonical (execRidgeWatchdog c s) :=
  done_canonical (ite_canonical (consumerFault_canonical (reach_canonical h)) h)

theorem execRidgeFaultRecovery_canonical {c} (h : s.dev.canonical) : EndsCanonical (execRidgeFaultRecovery c s) :=
  done_canonical (ite_canonical (onConsumer_canonical (reach_canonical h)) h)

theorem producerSend_canonical {p restart seq} (h : d.canonical) : (producerSend p restart seq d).canonical :=
  ridgeSend_canonical (onProducer_canonical h)

theorem producerCycle_canonical {p} (h : d.canonical) : (producerCycle d p).canonical := by
  unfold producerCycle
  refine ite_canonical h ?_
  extract_lets
  split
  · exact producerSend_canonical h
  · exact producerSend_canonical h
  · exact ite_canonical (producerSend_canonical h) h
  · exact ridgeSend_canonical (onProducer_canonical h)

theorem producerFault_canonical {p} (h : d.canonical) : (producerFault p d).canonical :=
  producerSend_canonical (bump_canonical (onProducer_canonical h))

theorem producerAck_canonical {p b} (h : d.canonical) : (producerAck p b d).canonical := by
  unfold producerAck
  refine ite_canonical h ?_
  extract_lets
  refine ite_canonical h ?_
  split
  · exact h
  · exact ite_canonical h (producerFault_canonical h)
  · exact ite_canonical (onProducer_canonical h) (ite_canonical h (producerFault_canonical h))

theorem execRidgeAcknowledge_canonical {m} (h : s.dev.canonical) : EndsCanonical (execRidgeAcknowledge m s) := by
  unfold execRidgeAcknowledge
  extract_lets
  split
  · rename_i d1 _ e1
    have h1 := fst_canonical e1 (receive_canonical h)
    exact done_canonical <| ite_canonical (dite_canonical (fun _ => producerAck_canonical h1) (fun _ => h1)) h1

theorem execRidgeProducerWatchdog_canonical {p} (h : s.dev.canonical) : EndsCanonical (execRidgeProducerWatchdog p s) :=
  done_canonical (ite_canonical (producerFault_canonical (reach_canonical h)) h)

theorem sendAcks_canonical (h : d.canonical) : (sendAcks d).canonical := by
  unfold sendAcks
  refine foldl_canonical h fun _ _ h1 => ?_
  split
  · exact ridgeSend_canonical (onConsumer_canonical h1)
  · exact h1

theorem safetyLog_canonical {kind session before after} (h : d.canonical) : (safetyLog kind session before after d).canonical :=
  onSafety_canonical (ite_canonical (bump_canonical h) h)

theorem safetyLogSame_canonical {kind session} (h : d.canonical) : (safetyLogSame kind session d).canonical :=
  safetyLog_canonical h

theorem enterStart_canonical (h : d.canonical) : (enterStart d).canonical := setNum_canonical (onSafety_canonical h)

theorem applyCommit_canonical {t} (h : d.canonical) : (applyCommit t d).canonical := by
  unfold applyCommit
  extract_lets d1
  have h1 : d1.canonical := foldl_canonical h fun _ _ h2 => setVal_canonical h2
  split
  · rename_i d3 e3
    have h3 := snd_canonical e3 (ite_snd_canonical (freeNat_canonical h1) h1)
    extract_lets _ d4 _
    have h4 : d4.canonical := ite_canonical (setNum_canonical h3) h3
    exact enterStart_canonical (bump_canonical (setNum_canonical (onSafety_canonical h4)))

theorem lockSafety_canonical {cause} (h : d.canonical) : (lockSafety cause d).canonical :=
  setNum_canonical (setNum_canonical (onSafety_canonical h))

theorem execCoreDisagreement_canonical {cause} (h : s.dev.canonical) : EndsCanonical (execCoreDisagreement cause s) := by
  unfold execCoreDisagreement
  extract_lets _ f1
  have h1 {n} {d : Dev} (hd : d.canonical) : (f1 n d).canonical := lockSafety_canonical (setNum_canonical hd)
  refine done_canonical ?_
  refine ite_canonical h ?_
  split
  · exact h1 (reach_canonical h)
  · exact h1 h
  · exact ite_canonical (h1 h) h

theorem execSafetySelfTestComplete_canonical {pass} (h : s.dev.canonical) :
    EndsCanonical (execSafetySelfTestComplete pass s) := by
  unfold execSafetySelfTestComplete
  extract_lets _ d1
  have h1 : d1.canonical := setNum_canonical (setNum_canonical h)
  exact done_canonical <| ite_canonical h <| ite_canonical (lockSafety_canonical (setNum_canonical h)) <|
      ite_canonical (lockSafety_canonical (setNum_canonical h)) (foldl_canonical h1 fun _ _ h2 => onInput_canonical h2)

theorem startFeedback_canonical {j src} (h : d.canonical) : (startFeedback j src d).canonical := onSafety_canonical h

theorem setInst_canonical {c i x} (h : d.canonical) : (setInst c i x d).canonical := by
  unfold setInst
  extract_lets _ d1
  have h1 : d1.canonical := onCore_canonical h
  exact ite_canonical (raise1_canonical h1) h1

theorem instCycle_canonical {c i} (h : d.canonical) : (instCycle c d i).canonical := by
  unfold instCycle
  refine ite_canonical (onCore_canonical h) ?_
  extract_lets
  split
  · exact ite_canonical (setInst_canonical h) h
  · exact ite_canonical (setInst_canonical h) (ite_canonical (setInst_canonical h) h)
  · exact ite_canonical h <| dite_canonical (fun _ => ite_canonical (startFeedback_canonical (setInst_canonical h))
        (setInst_canonical h)) (fun _ => setInst_canonical h)
  · exact dite_canonical (fun _ => ite_canonical (startFeedback_canonical (setInst_canonical h)) h) (fun _ => setInst_canonical h)

theorem switchCycle_canonical {c} (h : d.canonical) : (switchCycle c d).canonical := by
  unfold switchCycle
  extract_lets
  refine foldl_canonical (onCore_canonical h) fun _ _ h1 => ?_
  extract_lets d2
  have h2 : d2.canonical := onSafety_canonical h1
  split
  · exact ite_canonical h1 (ite_canonical (setNum_canonical h2) (setNum_canonical h2))
  · exact h1

theorem markDemands_canonical (h : d.canonical) : (markDemands d).canonical := onSafety_canonical h

theorem execSafetyCycle_canonical {core agree read} (h : s.dev.canonical) :
    EndsCanonical (execSafetyCycle core agree read s) := by
  unfold execSafetyCycle
  extract_lets _ d1 d2 d3 d4 d5 d6 _ _ _ d7 d8 _
  have h1 : d1.canonical := reach_canonical h
  have h2 : d2.canonical := onCore_canonical h1
  have h3 : d3.canonical := readback_canonical h2
  have h4 : d4.canonical := markDemands_canonical h3
  have h5 : d5.canonical := foldl_canonical h4 fun _ _ h9 => instCycle_canonical h9
  have h6 : d6.canonical := switchCycle_canonical h5
  have h7 : d7.canonical := onCore_canonical h6
  have h8 : d8.canonical := ite_canonical (foldl_canonical (sendAcks_canonical h7) fun _ _ h10 => producerCycle_canonical h10) h7
  refine done_canonical ?_
  refine ite_canonical h ?_
  refine ite_canonical (onCore_canonical h2) ?_
  split
  · exact ite_canonical (applyCommit_canonical h8) h8
  · exact h8

theorem execCurrentWaitTimeout_canonical {j} (h : s.dev.canonical) : EndsCanonical (execCurrentWaitTimeout j s) :=
  done_canonical <| foldl_canonical h fun _ _ h1 =>
      ite_canonical (startFeedback_canonical (onCore_canonical (setInst_canonical (reach_canonical h1)))) h1

theorem execFeedbackTimerEnd_canonical {j} (h : s.dev.canonical) : EndsCanonical (execFeedbackTimerEnd j s) := by
  unfold execFeedbackTimerEnd
  extract_lets
  refine done_canonical ?_
  split
  · extract_lets _ d1
    have h1 : d1.canonical := onSafety_canonical (reach_canonical h)
    exact ite_canonical (raise1_canonical (onSafety_canonical h1)) h1
  · exact h

theorem resetFaults_canonical {i} (h : d.canonical) : (resetFaults i d).canonical := onSafety_canonical h
theorem usePassword_canonical (h : d.canonical) : (usePassword d).canonical := onSafety_canonical h

theorem writePassword_canonical {session p} (h : d.canonical) : (writePassword session p d).canonical := by
  unfold writePassword
  refine ite_canonical (onSafety_canonical h) ?_
  extract_lets _ d1
  have h1 : d1.canonical := safetyLogSame_canonical h
  exact ite_canonical (onSafety_canonical (safetyLogSame_canonical h1)) (onSafety_canonical h1)

theorem execPasswordHoldExpiry_canonical (h : s.dev.canonical) : EndsCanonical (execPasswordHoldExpiry s) := by
  unfold execPasswordHoldExpiry
  extract_lets
  refine done_canonical ?_
  split
  · exact usePassword_canonical (reach_canonical h)
  · exact h

theorem execLockoutExpiry_canonical (h : s.dev.canonical) : EndsCanonical (execLockoutExpiry s) := by
  unfold execLockoutExpiry
  extract_lets
  refine done_canonical ?_
  split
  · exact onSafety_canonical (reach_canonical h)
  · exact h

theorem openTrans_canonical {session} (h : d.canonical) : (openTrans session d).canonical :=
  onSafety_canonical (safetyLogSame_canonical (usePassword_canonical h))

theorem endTrans_canonical {kind session} (h : d.canonical) : (endTrans kind session d).canonical :=
  onSafety_canonical (safetyLogSame_canonical h)

theorem execTransactionTimeout_canonical (h : s.dev.canonical) : EndsCanonical (execTransactionTimeout s) := by
  unfold execTransactionTimeout
  extract_lets
  refine done_canonical ?_
  split
  · exact ite_canonical h (endTrans_canonical (reach_canonical h))
  · exact h

theorem commitTrans_canonical {session} (h : d.canonical) : (commitTrans session d).canonical := by
  unfold commitTrans
  split
  · exact h
  · extract_lets _ d1
    have h1 : d1.canonical := safetyLog_canonical (ite_canonical (safetyLogSame_canonical h) h)
    exact ite_canonical (onSafety_canonical h1) (applyCommit_canonical h1)

theorem safeWrite_canonical {k v} (h : d.canonical) : (safeWrite k v d).canonical := onSafety_canonical h

theorem restartSafety_canonical {session} (h : d.canonical) : (restartSafety session d).canonical :=
  enterStart_canonical (usePassword_canonical (safetyLogSame_canonical h))

/-! The protected load channels, current sense and limp-home (R295 to R320, R480). -/

theorem onLoad_canonical {f} (h : d.canonical) : (onLoad f d).canonical := h
theorem onChan_canonical {n f} (h : d.canonical) : (onChan n f d).canonical := onLoad_canonical h
theorem energise_canonical {n} (h : d.canonical) : (energise n d).canonical := onChan_canonical h
theorem goOff_canonical {s n} (h : d.canonical) : (goOff s n d).canonical := onChan_canonical h

theorem retryChannel_canonical {n} (h : d.canonical) : (retryChannel n d).canonical :=
  ite_canonical (energise_canonical (onChan_canonical h)) h

theorem followCommand_canonical {n} (h : d.canonical) : (followCommand n d).canonical := by
  unfold followCommand
  extract_lets
  refine ite_canonical h ?_
  split
  · exact ite_canonical (energise_canonical h) h
  · exact ite_canonical h (goOff_canonical h)
  · exact ite_canonical (retryChannel_canonical h) (goOff_canonical h)
  · exact h

theorem drivePins_canonical (h : d.canonical) : (drivePins d).canonical := onLoad_canonical h

theorem followAll_canonical (h : d.canonical) : (followAll d).canonical :=
  drivePins_canonical (foldl_canonical h fun _ _ h1 => followCommand_canonical h1)

theorem tripChannel_canonical {n cause} (h : d.canonical) : (tripChannel n cause d).canonical := by
  unfold tripChannel
  extract_lets d1 d2
  have h1 : d1.canonical := goOff_canonical h
  clear_value d1
  have h2 : d2.canonical := onChan_canonical h1
  clear_value d2
  exact raise_canonical (bump_canonical (drivePins_canonical h2))

theorem execLoadCommandStale_canonical (h : s.dev.canonical) : EndsCanonical (execLoadCommandStale s) :=
  done_canonical (ite_canonical h (onLoad_canonical (staleChannel_canonical h)))

theorem execOrphanTimeout_canonical (h : s.dev.canonical) : EndsCanonical (execOrphanTimeout s) := by
  unfold execOrphanTimeout
  extract_lets
  refine done_canonical ?_
  split
  · exact ite_canonical (followAll_canonical (bump_canonical (onLoad_canonical (reach_canonical h)))) h
  · exact h

theorem heatAll_canonical (h : d.canonical) : (heatAll d).canonical := onLoad_canonical h

theorem execWireModelUpdate_canonical {current junction} (h : s.dev.canonical) :
    EndsCanonical (execWireModelUpdate current junction s) := by
  unfold execWireModelUpdate
  extract_lets _ d1 d2 d3
  have h1 : d1.canonical := reach_canonical h
  have h2 : d2.canonical := heatAll_canonical (onLoad_canonical h1)
  have h3 : d3.canonical := onLoad_canonical h2
  exact done_canonical <| ite_canonical h <| ite_canonical (heatAll_canonical h1) <| transfer_canonical <|
      drivePins_canonical <| foldl_canonical h3 fun _ _ h4 =>
      ite_canonical (tripChannel_canonical h4) (followCommand_canonical h4)

theorem execRetryDelayExpiry_canonical {n} (h : s.dev.canonical) : EndsCanonical (execRetryDelayExpiry n s) :=
  done_canonical <| ite_canonical (drivePins_canonical (followCommand_canonical (reach_canonical h))) h

theorem execRetryResetExpiry_canonical {n} (h : s.dev.canonical) : EndsCanonical (execRetryResetExpiry n s) := by
  unfold execRetryResetExpiry
  extract_lets
  refine done_canonical ?_
  split
  · exact onChan_canonical (reach_canonical h)
  · exact h

theorem execJunctionLatch_canonical {n temp} (h : s.dev.canonical) : EndsCanonical (execJunctionLatch n temp s) := by
  unfold execJunctionLatch
  extract_lets d1
  have h1 : d1.canonical := onChan_canonical h
  exact done_canonical <| ite_canonical h1 (drivePins_canonical (onChan_canonical (goOff_canonical h1)))

theorem clearChannel_canonical {n} (h : d.canonical) : (clearChannel n d).canonical := by
  unfold clearChannel
  extract_lets off
  have hoff {f} : (off f).canonical := drivePins_canonical (onChan_canonical h)
  clear_value off
  split
  · exact hoff
  · exact ite_canonical hoff h
  · exact hoff
  · exact h

theorem execClampEvent_canonical {n} (h : s.dev.canonical) : EndsCanonical (execClampEvent n s) := by
  unfold execClampEvent
  extract_lets d1 _
  have h1 : d1.canonical := onChan_canonical h
  exact done_canonical (ite_canonical (drivePins_canonical (onChan_canonical h1)) h1)

theorem execOpenLoadDetection_canonical {n} (h : s.dev.canonical) : EndsCanonical (execOpenLoadDetection n s) := by
  unfold execOpenLoadDetection
  extract_lets
  refine done_canonical ?_
  split
  · exact onChan_canonical (reach_canonical h)
  · exact h

theorem staleReadings_canonical (h : d.canonical) : (staleReadings d).canonical := drivePins_canonical (onLoad_canonical h)

theorem execSenseScanStep_canonical {pin} (h : s.dev.canonical) : EndsCanonical (execSenseScanStep pin s) := by
  unfold execSenseScanStep
  extract_lets _ d1 _ _ d2
  have h1 : d1.canonical := reach_canonical h
  have h2 : d2.canonical := by
    refine foldl_canonical h1 fun _ _ h3 => dite_canonical (fun _ => ?_) (fun _ => h3)
    extract_lets _ _ _ _ _ _ d4
    have h4 : d4.canonical := onChan_canonical h3
    exact ite_canonical (raise1_canonical h4) h4
  exact done_canonical (ite_canonical h (staleReadings_canonical (onLoad_canonical h2)))

theorem execExtselChange_canonical {high} (h : s.dev.canonical) : EndsCanonical (execExtselChange high s) := by
  unfold execExtselChange
  extract_lets d1
  have h1 : d1.canonical := onLoad_canonical h
  exact done_canonical (ite_canonical (raise_canonical h1) (staleReadings_canonical h1))

theorem execLimpNChange_canonical {asserted} (h : s.dev.canonical) : EndsCanonical (execLimpNChange asserted s) := by
  unfold execLimpNChange
  extract_lets d1
  have h1 : d1.canonical := onLoad_canonical (ite_canonical (reach_canonical h) h)
  exact done_canonical (ite_canonical (followAll_canonical h1) h1)

theorem execLhInChange_canonical {n high} (h : s.dev.canonical) : EndsCanonical (execLhInChange n high s) := by
  unfold execLhInChange
  extract_lets d1
  have h1 : d1.canonical := onLoad_canonical h
  exact done_canonical (ite_canonical (followAll_canonical h1) h1)

theorem execDissipationEstimate_canonical (h : s.dev.canonical) : EndsCanonical (execDissipationEstimate s) := by
  unfold execDissipationEstimate
  extract_lets _ d1 _ _ d2 _ d3
  have h1 : d1.canonical := reach_canonical h
  have h2 : d2.canonical := setNum_canonical h1
  have h3 : d3.canonical := onLoad_canonical h2
  exact done_canonical <| ite_canonical h <|
      ite_canonical (onLoad_canonical h2) (ite_canonical (raise_canonical (onLoad_canonical h3)) h3)

theorem releaseChannel_canonical {n} (h : d.canonical) : (releaseChannel n d).canonical := ite_canonical (setNum_canonical h) h

/-! The peer link, the dowel lease, take-over, the hot shadow, resynchronisation and the swap (R322 to R345). -/

theorem onPair_canonical {f} (h : d.canonical) : (onPair f d).canonical := h
theorem learnEpoch_canonical {e} (h : d.canonical) : (learnEpoch e d).canonical := setNum_canonical h
theorem setRole_canonical {r} (h : d.canonical) : (setRole r d).canonical := ite_canonical h (bump_canonical (setNum_canonical h))

theorem peerReceive_canonical {type f} (h : d.canonical) : (peerReceive type f d).1.canonical :=
  ite_fst_canonical h (ite_fst_canonical (onPair_canonical h) ((onPair_canonical h)))

theorem peerSend_canonical {type payload} (h : d.canonical) : (peerSend type payload d).canonical := onPair_canonical h

theorem execPeerPortDown_canonical {p} (h : s.dev.canonical) : EndsCanonical (execPeerPortDown p s) := by
  unfold execPeerPortDown
  extract_lets _ _ _ d1
  have h1 : d1.canonical := onPair_canonical (reach_canonical h)
  exact done_canonical (ite_canonical h (ite_canonical h1 (onPair_canonical h1)))

theorem enterSyncing_canonical (h : d.canonical) : (enterSyncing d).canonical :=
  onPair_canonical (setNum_canonical (setNum_canonical (setRole_canonical h)))

theorem holdOutlet_canonical {k} (h : d.canonical) : (holdOutlet d k).canonical := by
  unfold holdOutlet
  refine ite_canonical ?_ h
  extract_lets d1
  have h1 : d1.canonical := onOut_canonical h
  exact h1.of_eq rfl rfl

theorem takeLease_canonical {role epoch} (h : d.canonical) : (takeLease role epoch d).canonical := by
  unfold takeLease
  extract_lets _ d1 d2 d3 _ d4 d5 d6 _
  have h1 : d1.canonical := setNum_canonical h
  clear_value d1
  have h2 : d2.canonical := setNum_canonical (learnEpoch_canonical (setRole_canonical h1))
  clear_value d2
  have h3 : d3.canonical := onPair_canonical h2
  clear_value d3
  have h4 : d4.canonical := ite_canonical (h3.of_eq rfl rfl) h3
  clear_value d4
  have h5 : d5.canonical := by
    unfold d5
    refine foldl_canonical h4 fun _ _ h7 => ?_
    extract_lets
    split
    · exact h7
    · exact setNum_canonical (setNum_canonical h7)
  clear_value d5
  have h6 : d6.canonical := foldl_canonical (meterTakeOver_canonical h5) fun _ _ h8 => holdOutlet_canonical h8
  clear_value d6
  exact h6.of_eq rfl rfl

theorem execDowelRenewalSend_canonical (h : s.dev.canonical) : EndsCanonical (execDowelRenewalSend s) := by
  unfold execDowelRenewalSend
  extract_lets _ d1 d2
  have h1 : d1.canonical := reach_canonical h
  have h2 : d2.canonical := peerSend_canonical h1
  exact done_canonical <| ite_canonical h (ite_canonical (onPair_canonical h1) (onPair_canonical h2))

theorem execDowelRenewal_canonical {f} (h : s.dev.canonical) : EndsCanonical (execDowelRenewal f s) := by
  unfold execDowelRenewal
  extract_lets
  split
  · rename_i d1 _ e1
    have h1 := fst_canonical e1 (peerReceive_canonical h)
    extract_lets d2 d3
    have h2 : d2.canonical := setNum_canonical (learnEpoch_canonical h1)
    have h3 : d3.canonical := onPair_canonical h2
    exact done_canonical <| ite_canonical h1 <| ite_canonical h1 <| ite_canonical h1 <|
        ite_canonical (enterSyncing_canonical h3) (ite_canonical (onPair_canonical h3) h3)

theorem execLeaseExpiry_canonical (h : s.dev.canonical) : EndsCanonical (execLeaseExpiry s) :=
  done_canonical (ite_canonical (setNum_canonical (reach_canonical h)) h)

theorem sendBid_canonical (h : d.canonical) : (sendBid d).canonical :=
  ite_canonical (raise_canonical h) (peerSend_canonical (onPair_canonical h))

theorem execBidGuardExpiry_canonical (h : s.dev.canonical) : EndsCanonical (execBidGuardExpiry s) := by
  unfold execBidGuardExpiry
  extract_lets _ _ d1
  have h1 : d1.canonical := reach_canonical h
  exact done_canonical <| ite_canonical h <| ite_canonical h1 <|
      ite_canonical (ite_canonical (raise_canonical (enterSyncing_canonical h1)) h1) (sendBid_canonical h1)

theorem execBidWaitExpiry_canonical (h : s.dev.canonical) : EndsCanonical (execBidWaitExpiry s) := by
  unfold execBidWaitExpiry
  extract_lets
  refine done_canonical ?_
  split
  · exact takeLease_canonical (reach_canonical h)
  · exact h

theorem answerBid_canonical {epoch result} (h : d.canonical) : (answerBid epoch result d).canonical := peerSend_canonical h

theorem execBid_canonical {f} (h : s.dev.canonical) : EndsCanonical (execBid f s) := by
  unfold execBid
  extract_lets
  split
  · rename_i d1 _ e1
    have h1 := fst_canonical e1 (peerReceive_canonical h)
    extract_lets _ _ _ d2 d3
    have h2 : d2.canonical := answerBid_canonical h1
    have h3 : d3.canonical := onPair_canonical (learnEpoch_canonical h1)
    exact done_canonical <| ite_canonical h1 <|
        ite_canonical (ite_canonical (enterSyncing_canonical (setNum_canonical (learnEpoch_canonical h2))) h2)
        (ite_canonical (answerBid_canonical h1) (answerBid_canonical h3))

theorem execBidAnswer_canonical {f} (h : s.dev.canonical) : EndsCanonical (execBidAnswer f s) := by
  unfold execBidAnswer
  extract_lets
  split
  · rename_i d1 _ e1
    have h1 := fst_canonical e1 (peerReceive_canonical h)
    refine done_canonical ?_
    refine ite_canonical h1 ?_
    split
    · refine ite_canonical h1 ?_
      split
      · exact takeLease_canonical h1
      · exact onPair_canonical (learnEpoch_canonical h1)
      · exact h1
    · exact h1

theorem execLeaseSupportLost_canonical (h : s.dev.canonical) : EndsCanonical (execLeaseSupportLost s) :=
  done_canonical (ite_canonical (onPair_canonical h) h)

theorem execHolderLeaseEnd_canonical (h : s.dev.canonical) : EndsCanonical (execHolderLeaseEnd s) :=
  done_canonical <| ite_canonical (enterSyncing_canonical (setNum_canonical (onPair_canonical (reach_canonical h)))) h

theorem takeOver_canonical (h : d.canonical) : (takeOver d).canonical :=
  raise_canonical (setNum_canonical (setNum_canonical (bump_canonical (onPair_canonical h))))

theorem restoreSlots_canonical {x} (h : d.canonical) : (restoreSlots x d).canonical := h.of_eq rfl rfl

theorem adoptMirror_canonical {x} (h : d.canonical) : (adoptMirror x d).canonical := by
  unfold adoptMirror
  extract_lets _ _ _ d1 _ _
  have h1 : d1.canonical := h.of_eq rfl rfl
  exact foldl_canonical (onPair_canonical (onLoad_canonical h1)) fun _ _ h2 => setVal_canonical h2

theorem followBoundary_canonical {x} (h : d.canonical) : (followBoundary x d).canonical := ite_canonical h h

theorem execMirrorBlock_canonical {f x} (h : s.dev.canonical) : EndsCanonical (execMirrorBlock f x s) := by
  unfold execMirrorBlock
  split
  · rename_i d1 _ e1
    have h1 := fst_canonical e1 (peerReceive_canonical h)
    extract_lets _ d2 d3
    have h2 : d2.canonical := onPair_canonical h1
    have h3 : d3.canonical := followBoundary_canonical (adoptMirror_canonical h2)
    exact done_canonical <| ite_canonical h1 <| ite_canonical h2 (ite_canonical (restoreSlots_canonical (onPair_canonical h3)) h3)

theorem execInStepGained_canonical (h : s.dev.canonical) : EndsCanonical (execInStepGained s) :=
  done_canonical <| ite_canonical (onPair_canonical (setNum_canonical (setRole_canonical h))) h

theorem execInStepLost_canonical {cause} (h : s.dev.canonical) : EndsCanonical (execInStepLost cause s) := by
  unfold execInStepLost
  extract_lets d lost
  have hlost : ∀ e ∈ lost, e.canonical := by
    have reached {o : Option Nat} {f : Nat → Nat} : ∀ e ∈ o.map (fun t => reach (f t) d), e.canonical := by
      intro e he
      obtain ⟨t, -, rfl⟩ := Option.map_eq_some_iff.1 he
      exact reach_canonical h
    unfold lost
    split
    · refine iteInduction (motive := fun o : Option Dev => ∀ e ∈ o, e.canonical) (fun _ e he => ?_) (fun _ _ he => nomatch he)
      cases he
      exact h
    · exact reached
    · exact reached
  clear_value lost
  refine done_canonical (ite_canonical h ?_)
  split
  · have he := hlost _ rfl
    exact ite_canonical (enterSyncing_canonical (bump_canonical he)) (ite_canonical he (setNum_canonical (bump_canonical he)))
  · exact h

theorem execPeerStatus_canonical {f x} (h : s.dev.canonical) : EndsCanonical (execPeerStatus f x s) := by
  unfold execPeerStatus
  extract_lets
  split
  · rename_i d1 _ e1
    have h1 := fst_canonical e1 (peerReceive_canonical h)
    extract_lets _ d2 d3 d4
    have h2 : d2.canonical := onPair_canonical (ite_canonical (raise_canonical h1) h1)
    have h3 : d3.canonical := onPair_canonical h2
    have h4 : d4.canonical := setNum_canonical (setNum_canonical h3)
    exact done_canonical <| ite_canonical h1 <| ite_canonical (setRole_canonical h4) (ite_canonical (setRole_canonical h4) h4)

theorem execResynchronisation_canonical {holderTime boundary count} (h : s.dev.canonical) :
    EndsCanonical (execResynchronisation holderTime boundary count s) := by
  unfold execResynchronisation
  extract_lets _ _ _ _ d1 _ _ d2 d3
  have h1 : d1.canonical := onPair_canonical (h.of_eq rfl rfl)
  have h2 : d2.canonical := h1.of_eq rfl rfl
  have h3 : d3.canonical := onPair_canonical h2
  exact .ite (done_canonical h) <| .ite (done_canonical h1) (next_canonical (auditAlways_canonical (raise_canonical h3)))

theorem execResyncTimeout_canonical (h : s.dev.canonical) : EndsCanonical (execResyncTimeout s) := by
  unfold execResyncTimeout
  extract_lets
  refine done_canonical ?_
  split
  · exact ite_canonical h (raise_canonical (onPair_canonical (reach_canonical h)))
  · exact h

theorem beginSwap_canonical (h : d.canonical) : (beginSwap d).canonical := peerSend_canonical (onPair_canonical h)

theorem execYield_canonical {f} (h : s.dev.canonical) : EndsCanonical (execYield f s) := by
  unfold execYield
  extract_lets
  split
  · rename_i d1 _ e1
    have h1 := fst_canonical e1 (peerReceive_canonical h)
    exact done_canonical (ite_canonical h1 (peerSend_canonical (onPair_canonical h1)))

theorem execYieldAcknowledge_canonical {f} (h : s.dev.canonical) : EndsCanonical (execYieldAcknowledge f s) := by
  unfold execYieldAcknowledge
  split
  · rename_i d1 _ e1
    have h1 := fst_canonical e1 (peerReceive_canonical h)
    refine done_canonical ?_
    split
    · exact ite_canonical (onPair_canonical h1) h1
    · exact h1

theorem execYieldAckTimeout_canonical (h : s.dev.canonical) : EndsCanonical (execYieldAckTimeout s) := by
  unfold execYieldAckTimeout
  extract_lets
  refine done_canonical ?_
  split
  · exact raise_canonical (onPair_canonical (reach_canonical h))
  · exact h

theorem execSwapBoundary_canonical (h : s.dev.canonical) : EndsCanonical (execSwapBoundary s) := by
  unfold execSwapBoundary
  extract_lets
  refine done_canonical ?_
  split
  · exact ite_canonical (setNum_canonical (setRole_canonical (learnEpoch_canonical (onPair_canonical h)))) h
  · exact ite_canonical (takeLease_canonical h) h
  · exact h

theorem execSwitchOverTargetHoldExpiry_canonical {k} (h : s.dev.canonical) :
    EndsCanonical (execSwitchOverTargetHoldExpiry k s) := by
  unfold execSwitchOverTargetHoldExpiry
  extract_lets
  refine done_canonical ?_
  split
  · extract_lets d1
    have h1 : d1.canonical := onOut_canonical (reach_canonical h)
    exact ite_canonical (raiseCause_canonical h1) h1
  · exact h

/-! The CAN FD controllers, address claiming, Ethernet, TLS connections and time following (R346 to R364, R386 to R390). -/

theorem onCan_canonical {c f} (h : d.canonical) : (onCan c f d).canonical := h
theorem enableCan_canonical {c enabled} (h : d.canonical) : (enableCan c enabled d).canonical := onCan_canonical h

theorem stage_canonical {c urgent f} (h : d.canonical) : (stage c urgent f d).canonical :=
  ite_canonical h <| ite_canonical (ite_canonical (onCan_canonical h) (bump_canonical h))
      (ite_canonical (onCan_canonical h) (bump_canonical h))

theorem stageAll_canonical {f} (h : d.canonical) : (stageAll f d).canonical := stage_canonical (stage_canonical h)

theorem stagingAdmission_canonical {c} (h : d.canonical) : (stagingAdmission c d).canonical := by
  unfold stagingAdmission
  extract_lets _ d1
  have h1 : d1.canonical := by
    unfold d1
    split
    · exact ite_canonical (onCan_canonical h) h
    · split
      · exact ite_canonical (onCan_canonical h) h
      · exact h
  exact setNum_canonical h1

theorem execCanFrameTransmitted_canonical {c} (h : s.dev.canonical) : EndsCanonical (execCanFrameTransmitted c s) := by
  unfold execCanFrameTransmitted
  extract_lets
  refine done_canonical ?_
  split
  · exact ite_canonical (onCan_canonical h) h
  · exact h

theorem execBusOffRecovery_canonical {c} (h : s.dev.canonical) : EndsCanonical (execBusOffRecovery c s) :=
  done_canonical <| ite_canonical (setNum_canonical (setNum_canonical (onCan_canonical h))) h

theorem deliver_canonical {conn code m} (h : d.canonical) : (deliver conn code m d).canonical := by
  unfold deliver
  split
  · exact ite_canonical h (stage_canonical h)
  · exact h

theorem notify_canonical {n service data} (h : d.canonical) : (notify n service data d).canonical := by
  unfold notify
  extract_lets
  split
  · exact deliver_canonical h
  · exact h

theorem notice_canonical {n code group} (h : d.canonical) : (notice n code group d).canonical := notify_canonical h

theorem noticeAll_canonical {code group} (h : d.canonical) : (noticeAll code group d).canonical :=
  foldl_canonical h fun _ _ h1 => notice_canonical h1

theorem hear_canonical {id} (h : d.canonical) : (hear id d).canonical := ite_canonical h h

theorem canReceive_canonical {c f extended remote} (h : d.canonical) : (canReceive c f extended remote d).canonical := by
  unfold canReceive
  refine ite_canonical h ?_
  refine ite_canonical (bump_canonical h) ?_
  refine ite_canonical (bump_canonical h) ?_
  extract_lets _ d1 _
  have h1 : d1.canonical := ite_canonical (hear_canonical h) h
  split
  · exact bump_canonical h1
  · refine ite_canonical ?_ (ite_canonical (ite_canonical (onCan_canonical h1) (bump_canonical h1))
        (ite_canonical (onCan_canonical h1) (bump_canonical h1)))
    split
    · exact bump_canonical h1
    · exact dite_canonical (fun _ => notify_canonical h1) (fun _ => h1)

theorem onAddr_canonical {f} (h : d.canonical) : (onAddr f d).canonical := h
theorem claimId_canonical {id} (h : d.canonical) : (claimId id d).canonical := stageAll_canonical (onAddr_canonical h)

theorem startClaim_canonical (h : d.canonical) : (startClaim d).canonical := by
  unfold startClaim
  split
  · exact onAddr_canonical h
  · exact claimId_canonical h

theorem claimNext_canonical (h : d.canonical) : (claimNext d).canonical := by
  unfold claimNext
  split
  · exact ite_canonical (claimId_canonical (onAddr_canonical h)) (raise_canonical (onAddr_canonical h))
  · exact raise_canonical (onAddr_canonical h)

theorem execAddrInHigh_canonical (h : s.dev.canonical) : EndsCanonical (execAddrInHigh s) := by
  unfold execAddrInHigh
  extract_lets d1
  have h1 : d1.canonical := onAddr_canonical h
  exact done_canonical (ite_canonical (startClaim_canonical h1) h1)

theorem execAddressListenExpiry_canonical (h : s.dev.canonical) : EndsCanonical (execAddressListenExpiry s) :=
  done_canonical (ite_canonical (claimNext_canonical (reach_canonical h)) h)

theorem markStore_canonical {st} (h : d.canonical) : (markStore st d).canonical := h

theorem execClaimListenExpiry_canonical (h : s.dev.canonical) : EndsCanonical (execClaimListenExpiry s) := by
  unfold execClaimListenExpiry
  extract_lets _ d1 d2
  have h1 : d1.canonical := reach_canonical h
  have h2 : d2.canonical := ite_canonical (markStore_canonical (setNum_canonical h1)) h1
  exact done_canonical (ite_canonical (onAddr_canonical h2) h)

theorem dropClaims_canonical (h : d.canonical) : (dropClaims d).canonical := h

theorem execClaimRetryDelay_canonical (h : s.dev.canonical) : EndsCanonical (execClaimRetryDelay s) := by
  unfold execClaimRetryDelay
  extract_lets
  refine done_canonical ?_
  refine ite_canonical ?_ h
  split
  · rename_i d1 e1
    have h1 := snd_canonical e1 (freeNat_canonical (dropClaims_canonical h))
    exact claimId_canonical (reach_canonical h1)

theorem addressClaim_canonical {f} (h : d.canonical) : (addressClaim f d).canonical := by
  unfold addressClaim
  extract_lets _ _ d1 _
  have h1 : d1.canonical := hear_canonical h
  exact ite_canonical h1 <| ite_canonical (stageAll_canonical h1) <|
      ite_canonical (ite_canonical (claimNext_canonical h1) (raise1_canonical (onAddr_canonical h1))) h1

theorem takeFrame_canonical {c f} (h : d.canonical) : ∀ e ∈ takeFrame c f d, e.canonical := by
  have taken {p : Prop} [Decidable p] {g : CanCtl → CanCtl} : ∀ e ∈ if p then some (onCan c g d) else none, e.canonical := by
    refine iteInduction (motive := fun o : Option Dev => ∀ e ∈ o, e.canonical) (fun _ e he => ?_) (fun _ _ he => nomatch he)
    cases he
    exact onCan_canonical h
  unfold takeFrame
  extract_lets q
  split
  · exact taken
  · exact taken
  · exact fun e he => nomatch he

/-- A frame that a command takes out of a FIFO first, where the frame is of the command's kind. -/
theorem takeFrame_ite_canonical {p : Prop} [Decidable p] {c f} (h : d.canonical) : ∀ e ∈ if p then takeFrame c f d
    else none, e.canonical :=
  iteInduction (motive := fun o : Option Dev => ∀ e ∈ o, e.canonical) (fun _ => takeFrame_canonical h) (fun _ _ he => nomatch he)

theorem execAddressClaim_canonical {c f} (h : s.dev.canonical) : EndsCanonical (execAddressClaim c f s) := by
  refine done_canonical ?_
  split
  · rename_i e
    exact addressClaim_canonical (takeFrame_ite_canonical h _ e)
  · exact h

theorem reClaim_canonical (h : d.canonical) : (reClaim d).canonical := by
  unfold reClaim
  extract_lets d1
  have h1 : d1.canonical := onAddr_canonical h
  exact ite_canonical (startClaim_canonical h1) h1

theorem relayFrontEnd_canonical {i m stamp} (h : d.canonical) : (relayFrontEnd i m stamp d).canonical := by
  unfold relayFrontEnd
  extract_lets
  split
  · exact ite_canonical (onLane_canonical h) h
  · exact enqueue_canonical h

theorem frontEndStatus_canonical {f} (h : d.canonical) : (frontEndStatus f d).canonical := by
  unfold frontEndStatus
  extract_lets
  split
  · exact h
  · exact relayFrontEnd_canonical (setNum_canonical (setNum_canonical h))

theorem execFrontEndStatus_canonical {c f} (h : s.dev.canonical) : EndsCanonical (execFrontEndStatus c f s) := by
  refine done_canonical ?_
  split
  · rename_i e
    exact frontEndStatus_canonical (takeFrame_ite_canonical h _ e)
  · exact h

theorem imdReadingFrame_canonical {f} (h : d.canonical) : (imdReadingFrame f d).canonical :=
  foldl_canonical h fun _ _ h1 => enqueue_canonical h1

theorem execImdReadingFrame_canonical {c f} (h : s.dev.canonical) : EndsCanonical (execImdReadingFrame c f s) := by
  refine done_canonical ?_
  split
  · rename_i e
    exact imdReadingFrame_canonical (takeFrame_ite_canonical h _ e)
  · exact h

theorem execEthernetLinkChange_canonical {port link} (h : s.dev.canonical) :
    EndsCanonical (execEthernetLinkChange port link s) :=
  done_canonical (h.of_eq rfl rfl)

theorem execTlsConnection_canonical {port} (h : s.dev.canonical) : EndsCanonical (execTlsConnection port s) := by
  unfold execTlsConnection
  extract_lets
  refine done_canonical ?_
  refine ite_canonical h ?_
  split
  · exact h.of_eq rfl rfl
  · exact h

theorem closeTcp_canonical {n} (h : d.canonical) : (closeTcp n d).canonical := h

theorem execTlsHandshakeTimeout_canonical {n} (h : s.dev.canonical) : EndsCanonical (execTlsHandshakeTimeout n s) := by
  unfold execTlsHandshakeTimeout
  extract_lets
  refine done_canonical ?_
  split
  · exact ite_canonical h (bump_canonical (closeTcp_canonical (reach_canonical h)))
  · exact h

theorem execTlsIdleTimeout_canonical {n} (h : s.dev.canonical) : EndsCanonical (execTlsIdleTimeout n s) := by
  unfold execTlsIdleTimeout
  extract_lets
  refine done_canonical ?_
  split
  · exact ite_canonical (closeTcp_canonical (reach_canonical h)) h
  · exact h

theorem onPtp_canonical {f} (h : d.canonical) : (onPtp f d).canonical := h

theorem ptpSync_canonical {x} (h : d.canonical) : (ptpSync x d).canonical := by
  unfold ptpSync
  extract_lets
  split
  · rename_i d1 e1
    have h1 := snd_canonical e1 (freeInt_canonical h)
    exact onPtp_canonical h1

theorem execPtpSyncLoss_canonical (h : s.dev.canonical) : EndsCanonical (execPtpSyncLoss s) :=
  done_canonical (ite_canonical (onPtp_canonical (reach_canonical h)) h)

/-! What the Eaveline master holds of its nodes, and the messages that wait for a node (R402, R407, R413, R416). -/

theorem onEave_canonical {f} (h : d.canonical) : (onEave f d).canonical := h
theorem onNode_canonical {n f} (h : d.canonical) : (onNode n f d).canonical := onEave_canonical h
theorem onSide_canonical {n f} (h : d.canonical) : (onSide n f d).canonical := onEave_canonical h

theorem queueMsg_canonical {n cls type content} (h : d.canonical) : (queueMsg n cls type content d).canonical :=
  ite_canonical h (onNode_canonical h)

theorem sendFrame_canonical {k} (h : d.canonical) : (sendFrame k d).canonical := by
  refine dite_canonical (fun _ => ?_) (fun _ => h)
  extract_lets
  refine ite_canonical (onEave_canonical h) ?_
  split
  · rename_i d1 e1
    have h1 := snd_canonical e1 (freeNat_canonical h)
    split
    · rename_i d2 e2
      have h2 := snd_canonical e2 (freeNat_canonical h1)
      exact queueMsg_canonical h2

/-! Vehicle sessions in the host island, head and site data, cable cooling, and the contactor and rail events that close one
family over another (R186 to R192, R204 to R207, R361). -/

theorem sendUpdate_canonical {k r rejected} (h : d.canonical) : (sendUpdate k r rejected d).canonical :=
  ite_canonical h (onVehicle_canonical (enqueue_canonical h))

theorem answerVehicle_canonical {k} (h : d.canonical) : (answerVehicle k d).canonical := by
  unfold answerVehicle
  split
  · rename_i d1 e1
    have h1 := snd_canonical e1 (freeNat_canonical h)
    exact sendFrame_canonical (setNum_canonical h1)

theorem endVehicle_canonical {k rejected} (h : d.canonical) : (endVehicle k rejected d).canonical :=
  onVehicle_canonical (ite_canonical h (sendUpdate_canonical h))

theorem askAuthorization_canonical {k mode} (h : d.canonical) : (askAuthorization k mode d).canonical :=
  onVehicle_canonical (setNum_canonical (setNum_canonical h))

theorem vehicleMessage_canonical {k m} (h : d.canonical) : (vehicleMessage k m d).canonical := by
  unfold vehicleMessage
  extract_lets _ d1
  have h1 : d1.canonical := answerVehicle_canonical h
  split
  · split
    · exact sendUpdate_canonical (onVehicle_canonical h1)
    · exact h1
  · refine ite_canonical h1 ?_
    refine ite_canonical ?_ ?_
    · exact ite_canonical (endVehicle_canonical h1) <| ite_canonical (endVehicle_canonical h1) <|
          askAuthorization_canonical (setOct_canonical (setOct_canonical (setOct_canonical h1)))
    · exact ite_canonical (endVehicle_canonical h1) (askAuthorization_canonical h1)
  · exact setNum_canonical (setNum_canonical (setOct_canonical h1))
  · exact ite_canonical h1 (ite_canonical h1 (sendUpdate_canonical (setNum_canonical h1)))
  · exact ite_canonical h1 (endVehicle_canonical h1)
  · exact endVehicle_canonical h1
  · exact endVehicle_canonical h1

theorem authorize_canonical {k result} (h : d.canonical) : (authorize k result d).canonical := by
  unfold authorize
  extract_lets d1
  have h1 : d1.canonical := setNum_canonical h
  exact ite_canonical (onVehicle_canonical h1) (ite_canonical (endVehicle_canonical h1) h1)

theorem execAuthorizationTimeout_canonical {k} (h : s.dev.canonical) : EndsCanonical (execAuthorizationTimeout k s) := by
  unfold execAuthorizationTimeout
  extract_lets
  refine done_canonical ?_
  split
  · exact authorize_canonical (reach_canonical h)
  · exact h

theorem execOutletStatus_canonical {m} (h : s.dev.canonical) : EndsCanonical (execOutletStatus m s) := by
  unfold execOutletStatus
  split
  · rename_i d1 _ e1
    have h1 := fst_canonical e1 (receive_canonical h)
    exact done_canonical <| ite_canonical (dite_canonical (fun _ => onVehicle_canonical h1) (fun _ => h1)) h1

theorem execSitePowerData_canonical {m x} (h : s.dev.canonical) : EndsCanonical (execSitePowerData m x s) := by
  unfold execSitePowerData
  split
  · rename_i d1 _ e1
    have h1 := fst_canonical e1 (receive_canonical h)
    refine done_canonical ?_
    refine ite_canonical ?_ h1
    split
    · exact ite_canonical (frontData_canonical h1) (frontData_canonical h1)
    · exact ite_canonical (newerReading_canonical h1) h1

theorem flowTimers_canonical {k} (h : d.canonical) : (flowTimers k d).canonical := onOut_canonical h

theorem headFor_canonical {k x} (h : d.canonical) : (headFor k x d).canonical := by
  unfold headFor
  extract_lets _ pin d1 d2 d3
  have h1 : d1.canonical := onOut_canonical h
  clear_value pin
  have h2 : d2.canonical := by
    unfold d2
    split
    · exact thermalFrom_canonical (thermalValue_canonical h1)
    · exact onThermal_canonical h1
  have h3 : d3.canonical := flowTimers_canonical h2
  split
  · exact ite_canonical (imdReading_canonical h3) h3
  · exact h3

theorem headData_canonical {x} (h : d.canonical) : (headData x d).canonical := by
  unfold headData
  split
  · exact headFor_canonical h
  · exact h

theorem execHeadData_canonical {m x} (h : s.dev.canonical) : EndsCanonical (execHeadData m x s) := by
  unfold execHeadData
  split
  · rename_i d1 _ e1
    have h1 := fst_canonical e1 (receive_canonical h)
    exact done_canonical (ite_canonical (headData_canonical h1) h1)

theorem execHeadStale_canonical {k} (h : s.dev.canonical) : EndsCanonical (execHeadStale k s) := by
  unfold execHeadStale
  extract_lets
  refine done_canonical ?_
  split
  · exact ite_canonical h (raiseCause_canonical (onOut_canonical (reach_canonical h)))
  · exact h

theorem execDeratingUpdate_canonical (h : s.dev.canonical) : EndsCanonical (execDeratingUpdate s) := by
  unfold execDeratingUpdate
  extract_lets _ d1
  have h1 : d1.canonical := tick_canonical h
  exact done_canonical <| ite_canonical h <| foldl_canonical h1 fun _ _ h2 => onOut_canonical (flowTimers_canonical h2)

theorem execFlowFault_canonical {k} (h : s.dev.canonical) : EndsCanonical (execFlowFault k s) := by
  unfold execFlowFault
  extract_lets _ f1
  have h1 {d : Dev} (hd : d.canonical) : (f1 d).canonical := onOut_canonical hd
  refine done_canonical ?_
  refine ite_canonical (h1 h) ?_
  split
  · exact h1 (reach_canonical h)
  · exact h

theorem execFlowFaultClear_canonical {k} (h : s.dev.canonical) : EndsCanonical (execFlowFaultClear k s) := by
  unfold execFlowFaultClear
  extract_lets
  refine done_canonical ?_
  split
  · exact ite_canonical (onOut_canonical (reach_canonical h)) h
  · exact h

theorem execRunOnExpiry_canonical {k} (h : s.dev.canonical) : EndsCanonical (execRunOnExpiry k s) := by
  unfold execRunOnExpiry
  extract_lets
  refine done_canonical ?_
  split
  · exact onOut_canonical (reach_canonical h)
  · exact h

theorem execImdCommand_canonical {k} (h : s.dev.canonical) : EndsCanonical (execImdCommand k s) :=
  done_canonical (ite_canonical h (stageAll_canonical (h.of_eq rfl rfl)))

theorem confirmTravel_canonical {x} (h : d.canonical) : ∀ e ∈ confirmTravel x d, e.canonical := by
  unfold confirmTravel
  extract_lets c since d1
  have h1 : d1.canonical := debounceContacts_canonical (reach_canonical h)
  refine iteInduction (motive := fun o : Option Dev => ∀ e ∈ o, e.canonical) (fun _ e he => ?_) (fun _ _ he => nomatch he)
  cases he
  exact countOperation_canonical (onContactor_canonical h1)

theorem execContactorTravelConfirmed_canonical {x} (h : s.dev.canonical) : EndsCanonical (execContactorTravelConfirmed x s) := by
  refine done_canonical ?_
  split
  · exact h
  · rename_i d e
    have hd : d.canonical := confirmTravel_canonical h _ e
    split
    · exact regroup_canonical (deriveSegments_canonical hd)
    · exact ite_canonical (outletClosedRail_canonical hd) hd
    · exact hd

theorem execContactorTravelFault_canonical {x} (h : s.dev.canonical) : EndsCanonical (execContactorTravelFault x s) := by
  unfold execContactorTravelFault
  extract_lets
  refine done_canonical ?_
  split
  · exact ite_canonical h (travelFault_canonical (reach_canonical h))
  · exact h

/-! The Eaveline power-line link: cycle, layout, blocks, acknowledgement, robust mode, admission, mains phase (R393 to R418). -/

theorem sizeRanges_canonical {upDir nodes} (h : d.canonical) : (sizeRanges upDir nodes d).2.canonical :=
  List.foldlRecOn (motive := fun x : Vector Nat 16 × Nat × Dev => x.2.2.canonical) _ _ h fun _ h _ _ => freeNat_canonical h

theorem announceLayout_canonical (h : d.canonical) : (announceLayout d).canonical := by
  unfold announceLayout
  extract_lets d1 _ _
  have h1 : d1.canonical := by
    unfold d1
    split
    · exact ite_canonical h (setNum_canonical (onEave_canonical h))
    · exact h
  split
  · rename_i d2 e2
    have h2 := snd_canonical e2 (sizeRanges_canonical h1)
    split
    · rename_i d3 e3
      have h3 := snd_canonical e3 (sizeRanges_canonical h2)
      split
      · rename_i d4 e4
        have h4 := snd_canonical e4 (freeNat_canonical h3)
        exact foldl_canonical (onEave_canonical h4) fun _ _ h5 => queueMsg_canonical h5

theorem scheduleNode_canonical {cycle n} (h : d.canonical) : (scheduleNode cycle d n).canonical := by
  unfold scheduleNode
  extract_lets
  split
  · extract_lets
    split
    · exact onNode_canonical h

theorem stepDown_canonical {n} (h : d.canonical) : (stepDown n d).canonical :=
  bump_canonical (setNum_canonical (onNode_canonical (onEave_canonical h)))

theorem closeNode_canonical {n} (h : d.canonical) : (closeNode d n).canonical := by
  unfold closeNode
  refine ite_canonical h ?_
  extract_lets _ _ _ _ _ _ _ _ _ _ _ _ _ d1
  have h1 : d1.canonical := bumpBy_canonical (bumpBy_canonical (onNode_canonical h))
  exact ite_canonical (stepDown_canonical h1) h1

theorem masterTake_canonical (h : d.canonical) : (masterTake d).canonical := by
  unfold masterTake
  extract_lets d1 _
  have h1 : d1.canonical := by
    unfold d1
    split
    · exact foldl_canonical (onEave_canonical h) fun _ _ h2 => setNum_canonical h2
    · exact h
  exact foldl_canonical (onEave_canonical h1) fun _ _ h3 => ite_canonical (setNum_canonical h3) h3

theorem eaveCycle_canonical (h : d.canonical) : (eaveCycle d).canonical := by
  unfold eaveCycle
  extract_lets d1 d2 _ d3 _ d4 _ d5 d6 d7 _ d8
  have h1 : d1.canonical := ite_canonical (foldl_canonical h fun _ _ h9 => closeNode_canonical h9) (masterTake_canonical h)
  have h2 : d2.canonical := tick_canonical h1
  have h3 : d3.canonical := onEave_canonical h2
  have h4 : d4.canonical := ite_canonical (announceLayout_canonical h3) h3
  have h5 : d5.canonical := onEave_canonical h4
  have h6 : d6.canonical := onEave_canonical h5
  have h7 : d7.canonical := foldl_canonical h6 fun _ _ h10 => scheduleNode_canonical h10
  have h8 : d8.canonical := setNum_canonical <| setNum_canonical (setNum_canonical (setNum_canonical (setNum_canonical h7)))
  exact onEave_canonical h8

theorem execEavelineCycle_canonical (h : s.dev.canonical) : EndsCanonical (execEavelineCycle s) := by
  unfold execEavelineCycle
  extract_lets d1
  have h1 : d1.canonical := ite_canonical (transfer_canonical h) h
  exact done_canonical (ite_canonical (eaveCycle_canonical h1) (onEave_canonical h1))

theorem execEavelineMasterTake_canonical (h : s.dev.canonical) : EndsCanonical (execEavelineMasterTake s) :=
  done_canonical (ite_canonical (eaveCycle_canonical h) h)

theorem execCycleHeader_canonical {n content crc} (h : s.dev.canonical) : EndsCanonical (execCycleHeader n content crc s) :=
  done_canonical (ite_canonical (onSide_canonical h) (onSide_canonical h))

theorem execNodePreambleLoss_canonical {n} (h : s.dev.canonical) : EndsCanonical (execNodePreambleLoss n s) :=
  done_canonical (ite_canonical h (onSide_canonical (reach_canonical h)))

theorem relayHead_canonical {n c} (h : d.canonical) : (relayHead n c d).canonical := enqueue_canonical h

theorem upControl_canonical {n c} (h : d.canonical) : (upControl n c d).canonical :=
  relayHead_canonical (bumpBy_canonical (bumpBy_canonical (onNode_canonical h)))

theorem execControlBlock_canonical {n b} (h : s.dev.canonical) : EndsCanonical (execControlBlock n b s) :=
  done_canonical <| ite_canonical h <|
      ite_canonical (ite_canonical (upControl_canonical h) h) (ite_canonical (onSide_canonical h) h)

theorem nodeCrossing_canonical {n cycle offset} (h : d.canonical) : (nodeCrossing n cycle offset d).canonical := by
  unfold nodeCrossing
  extract_lets
  split
  · exact h
  · extract_lets _ _ d1 d2
    have h1 : d1.canonical := setNum_canonical (onNode_canonical h)
    have h2 : d2.canonical := setNum_canonical h1
    exact ite_canonical (ite_canonical (raise1_canonical h2) h2) h1

theorem zeroReport_canonical {n b} (h : d.canonical) : (zeroReport n b d).canonical :=
  ite_canonical h (foldl_canonical h fun _ _ h1 => nodeCrossing_canonical h1)

theorem execMainsRefCrossing_canonical {at_} (h : s.dev.canonical) : EndsCanonical (execMainsRefCrossing at_ s) := by
  unfold execMainsRefCrossing
  extract_lets d1 d2
  have h1 : d1.canonical := reachSite_canonical h
  have h2 : d2.canonical := onEave_canonical h1
  refine done_canonical ?_
  refine ite_canonical h1 ?_
  split
  · exact setNum_canonical h2
  · exact h2

theorem nodeIdentity_canonical {n b} (h : d.canonical) : (nodeIdentity n b d).canonical := setNum_canonical (setNum_canonical h)

theorem deliverMsg_canonical {n type b} (h : d.canonical) : (deliverMsg n type b d).canonical := by
  unfold deliverMsg
  split
  · exact onEave_canonical h
  · exact onNode_canonical h
  · exact zeroReport_canonical h
  · exact nodeIdentity_canonical h
  · exact h

theorem deliverReady_canonical {n cls fuel} (h : d.canonical) : (deliverReady n cls fuel d).canonical := by
  induction fuel generalizing d with
  | zero => exact h
  | succ fuel ih =>
    unfold deliverReady
    extract_lets
    split
    · exact h
    · split
      · exact h
      · extract_lets next
        have hnext : next.canonical := onNode_canonical h
        refine ite_canonical (ih hnext) ?_
        split
        · exact h
        · exact ih (deliverMsg_canonical hnext)

theorem killMsg_canonical {n m} (h : d.canonical) : (killMsg n m d).canonical := deliverReady_canonical (onNode_canonical h)

theorem takeFragment_canonical {n p} (h : d.canonical) : (takeFragment n p d).canonical := by
  unfold takeFragment
  extract_lets d1 _ _ _ _ _ _ _ _ d2
  have h1 : d1.canonical := onNode_canonical h
  have h2 : d2.canonical := onNode_canonical h1
  exact ite_canonical h1 <| ite_canonical h1 <| ite_canonical (bump_canonical h1) <|
      ite_canonical (killMsg_canonical (bump_canonical h2)) (deliverReady_canonical h2)

theorem relayRidge_canonical {n which f} (h : d.canonical) : (relayRidge n which f d).canonical := by
  unfold relayRidge
  split
  · exact ite_canonical h (enqueue_canonical h)
  · exact h

theorem ridgeBlock_canonical {n w b} (h : d.canonical) : (ridgeBlock n w b d).canonical := by
  unfold ridgeBlock
  extract_lets _ _ _ d1
  have h1 : d1.canonical := onNode_canonical h
  exact ite_canonical (relayRidge_canonical h1) h1

theorem dataBlock_canonical {n b} (h : d.canonical) : (dataBlock n b d).canonical := by
  unfold dataBlock
  extract_lets _ _ _ _ d1
  have h1 : d1.canonical := onNode_canonical h
  exact ite_canonical (takeFragment_canonical h1) h1

theorem execDataBlock_canonical {n ridge b} (h : s.dev.canonical) : EndsCanonical (execDataBlock n ridge b s) := by
  unfold execDataBlock
  extract_lets
  refine done_canonical ?_
  refine ite_canonical h ?_
  split
  · exact ridgeBlock_canonical h
  · exact dataBlock_canonical h

theorem execMessageReassemblyTimeout_canonical {n} (h : s.dev.canonical) : EndsCanonical (execMessageReassemblyTimeout n s) := by
  unfold execMessageReassemblyTimeout
  extract_lets
  refine done_canonical ?_
  split
  · exact h
  · exact killMsg_canonical (bump_canonical (reach_canonical h))

theorem execRobustStepUp_canonical {n snr} (h : s.dev.canonical) : EndsCanonical (execRobustStepUp n snr s) := by
  unfold execRobustStepUp
  extract_lets _ _ _ _ d1 d2
  have h1 : d1.canonical := setNum_canonical h
  have h2 : d2.canonical := onNode_canonical h1
  exact done_canonical <| ite_canonical h <|
      ite_canonical (setNum_canonical (onNode_canonical (onEave_canonical h1))) (onEave_canonical (queueMsg_canonical h2))

theorem execStepUpCountReset_canonical {n} (h : s.dev.canonical) : EndsCanonical (execStepUpCountReset n s) := by
  unfold execStepUpCountReset
  extract_lets
  refine done_canonical ?_
  split
  · exact onNode_canonical (reach_canonical h)
  · exact h

theorem execLayoutSwitch_canonical (h : s.dev.canonical) : EndsCanonical (execLayoutSwitch s) := by
  unfold execLayoutSwitch
  extract_lets
  refine done_canonical ?_
  split
  · exact h
  · refine ite_canonical h ?_
    extract_lets _ _ _ _ _ d1
    have h1 : d1.canonical := foldl_canonical h fun _ _ h2 => ite_canonical (setNum_canonical h2) <|
        ite_canonical (setNum_canonical h2) <|
        ite_canonical (setNum_canonical h2) (ite_canonical (setNum_canonical (onNode_canonical h2)) h2)
    exact setNum_canonical (onEave_canonical h1)

theorem execAdmissionAnswer_canonical {n b} (h : s.dev.canonical) : EndsCanonical (execAdmissionAnswer n b s) := by
  unfold execAdmissionAnswer
  extract_lets _ _ _ _ d1 d2
  have h1 : d1.canonical := onEave_canonical h
  have h2 : d2.canonical := setNum_canonical (nodeIdentity_canonical h)
  exact done_canonical <| ite_canonical h <|
      ite_canonical (ite_canonical h (ite_canonical (onNode_canonical h1) h1)) <|
      ite_canonical (raise1_canonical (onNode_canonical h)) (onEave_canonical (onNode_canonical h2))

theorem execNodeRefusedRetry_canonical {n} (h : s.dev.canonical) : EndsCanonical (execNodeRefusedRetry n s) := by
  unfold execNodeRefusedRetry
  extract_lets
  refine done_canonical ?_
  split
  · exact onNode_canonical (reach_canonical h)
  · exact h

theorem execNodeLost_canonical {n} (h : s.dev.canonical) : EndsCanonical (execNodeLost n s) :=
  done_canonical <| ite_canonical (raise1_canonical (setNum_canonical (onEave_canonical h))) h

theorem execEavelineStateSync_canonical {x} (h : s.dev.canonical) : EndsCanonical (execEavelineStateSync x s) := by
  unfold execEavelineStateSync
  extract_lets
  refine done_canonical ?_
  split
  · exact ite_canonical (onEave_canonical h) h
  · exact ite_canonical h (onEave_canonical h)

theorem removeNode_canonical {n} (h : d.canonical) : (removeNode n d).canonical := onEave_canonical h

/-! Where entries are held, what a restart of an island does, and the supplies, start-up and power-fail sequences (R5, R10,
R30, R443, R457, R466, R479 to R488, R494, R504). -/

theorem onSys_canonical {f} (h : d.canonical) : (onSys f d).canonical := h
theorem onKeys_canonical {f} (h : d.canonical) : (onKeys f d).canonical := onSys_canonical h
theorem onImg_canonical {t f} (h : d.canonical) : (onImg t f d).canonical := onSys_canonical h
theorem onStore_canonical {st f} (h : d.canonical) : (onStore st f d).canonical := onSys_canonical h
theorem onPower_canonical {f} (h : d.canonical) : (onPower f d).canonical := onSys_canonical h

theorem reportLeaves_canonical {st} (h : d.canonical) : (reportLeaves st d).canonical := by
  unfold reportLeaves
  extract_lets _ d1
  have h1 : d1.canonical := setNum_canonical (setNum_canonical h)
  split
  · exact setNum_canonical h1
  · extract_lets _ d2 _
    have h2 : d2.canonical := setNum_canonical (setNum_canonical (setNum_canonical h1))
    exact ite_canonical (setNum_canonical h2) h2

theorem takeLeaf_canonical {st} (h : d.canonical) : (takeLeaf st d).canonical := by
  unfold takeLeaf
  extract_lets _ _ _ _ _ _ d1
  have h1 : d1.canonical := reportLeaves_canonical (onStore_canonical h)
  exact ite_canonical (raise1_canonical h1) h1

theorem tellUnusable_canonical {k} (h : d.canonical) : (tellUnusable k d).canonical :=
  ite_canonical h (raise1_canonical (onKeys_canonical h))

theorem draw_canonical (h : d.canonical) : (draw d).2.canonical := onKeys_canonical h

theorem wrapItem_canonical {k item} (h : d.canonical) : (wrapItem k item d).canonical := by
  unfold wrapItem
  extract_lets
  refine ite_canonical (onKeys_canonical h) ?_
  split
  · rename_i d1 e1
    have h1 := snd_canonical e1 (draw_canonical h)
    exact onKeys_canonical h1

theorem eraseKey_canonical {k} (h : d.canonical) : (eraseKey k d).canonical :=
  setOct_canonical (setNum_canonical (setNum_canonical (onKeys_canonical h)))

theorem storeTransition_canonical {to_} (h : d.canonical) : (storeTransition to_ d).canonical := by
  unfold storeTransition
  extract_lets d1
  have h1 : d1.canonical := foldl_canonical h fun _ _ h2 => ite_canonical (eraseKey_canonical h2) h2
  exact ite_canonical (foldl_canonical h1 fun _ _ h3 => wrapItem_canonical h3) <|
      foldl_canonical (onKeys_canonical h1) fun _ _ h4 => setVal_canonical h4

theorem startKeys_canonical (h : d.canonical) : (startKeys d).canonical := by
  unfold startKeys
  extract_lets d1 _ _ d2
  have h1 : d1.canonical := onKeys_canonical h
  have h2 : d2.canonical := by
    unfold d2
    refine foldl_canonical (ite_canonical (storeTransition_canonical (onKeys_canonical h1)) h1) fun _ _ h3 => ?_
    split
    · exact ite_canonical h3 (tellUnusable_canonical h3)
    · exact h3
  exact foldl_canonical h2 fun _ _ h4 => ite_canonical h4 (setVal_canonical h4)

theorem restoreEntries_canonical {i} (h : d.canonical) : (restoreEntries i d).canonical :=
  have kept : Dev.canonical { d with regs := d.regs.filter (fun e => survives i e.1) } := ⟨regsWf_filter _ _ h.1, h.2⟩
  foldl_canonical kept fun _ _ h => ite_canonical (setVal_canonical h) h

theorem fallBack_canonical {t} (h : d.canonical) : (fallBack t d).canonical := by
  unfold fallBack
  extract_lets
  split
  · refine ite_canonical h ?_
    extract_lets d1 d2
    have h1 : d1.canonical := onImg_canonical h
    have h2 : d2.canonical := ite_canonical (setNum_canonical h1) h1
    exact setNum_canonical <| setNum_canonical (setNum_canonical (setNum_canonical (setNum_canonical h2)))
  · exact h

theorem setIsland_canonical {i st} (h : d.canonical) : (setIsland i st d).canonical := h

theorem freshSite_canonical (h : d.canonical) : (freshSite d).canonical := ite_canonical (startClaim_canonical h) h

theorem announceClosings_canonical (h : d.canonical) : (announceClosings d).canonical :=
  foldl_canonical h fun _ _ h1 => enqueue_canonical h1

theorem loadMap_canonical (h : d.canonical) : (loadMap d).canonical := foldl_canonical h fun _ _ h1 => setNum_canonical h1

theorem restartWork_canonical {i} (h : d.canonical) : (restartWork i d).canonical := by
  unfold restartWork
  split
  · exact startKeys_canonical (rebuildLog_canonical (announceClosings_canonical (onLane_canonical (freshSite_canonical
        (bump_canonical h)))))
  · exact ⟨h.1, rfl⟩
  · exact setNum_canonical h
  · exact enterStart_canonical (onSafety_canonical h)
  · exact loadMap_canonical (onLoad_canonical h)
  · exact h
  · exact h
  · exact onLane_canonical h

theorem failActivation_canonical (h : d.canonical) : (failActivation d).canonical := by
  unfold failActivation
  split
  · exact onSys_canonical (setNum_canonical (setNum_canonical h))
  · exact h

theorem interruptActivation_canonical {i} (h : d.canonical) : (interruptActivation i d).canonical := by
  unfold interruptActivation
  split
  · exact ite_canonical (failActivation_canonical h) h
  · exact h

theorem startIsland_canonical {i cause} (h : d.canonical) : (startIsland i cause d).canonical := by
  unfold startIsland
  extract_lets d1 d2 _ d3 d4 d5 d6
  have h1 : d1.canonical := fallBack_canonical h
  have h2 : d2.canonical := by
    unfold d2
    split
    · exact takeLeaf_canonical h1
    · exact takeLeaf_canonical h1
    · exact h1
  have h3 : d3.canonical := restartWork_canonical (restoreEntries_canonical h2)
  have h4 : d4.canonical := ite_canonical (setNum_canonical h3) h3
  have h5 : d5.canonical := ite_canonical h4 (interruptActivation_canonical h4)
  exact setNum_canonical (setIsland_canonical (onImg_canonical h5))

theorem stopIsland_canonical {i st} (h : d.canonical) : (stopIsland i st d).canonical := ite_canonical h (setIsland_canonical h)

theorem execIslandWatchdogReset_canonical {isl} (h : s.dev.canonical) : EndsCanonical (execIslandWatchdogReset isl s) :=
  done_canonical (ite_canonical (raise1_canonical (startIsland_canonical h)) h)

theorem execFieldIslandRestart_canonical (h : s.dev.canonical) : EndsCanonical (execFieldIslandRestart s) :=
  done_canonical (ite_canonical (startIsland_canonical h) h)

theorem powerLoad_canonical (h : d.canonical) : (powerLoad d).canonical :=
  ite_canonical h (onLoad_canonical (startIsland_canonical h))

theorem execLoadSupplyLow_canonical (h : s.dev.canonical) : EndsCanonical (execLoadSupplyLow s) := by
  unfold execLoadSupplyLow
  extract_lets _ d1
  have h1 : d1.canonical := drivePins_canonical (onLoad_canonical h)
  exact done_canonical <| ite_canonical h <| ite_canonical (ite_canonical (raise_canonical h1) h1) (stopIsland_canonical h1)

theorem execLoadSupplyReturn_canonical (h : s.dev.canonical) : EndsCanonical (execLoadSupplyReturn s) := by
  unfold execLoadSupplyReturn
  extract_lets d1
  have h1 : d1.canonical := onLoad_canonical h
  exact done_canonical (ite_canonical (powerLoad_canonical h1) (followAll_canonical h1))

theorem fieldWarning_canonical (h : d.canonical) : (fieldWarning d).canonical := by
  unfold fieldWarning
  refine ite_canonical h ?_
  extract_lets _ d1 d2 _ _
  have h1 : d1.canonical := bump_canonical (setNum_canonical (enqueue_canonical h))
  have h2 : d2.canonical := stopIsland_canonical (stopIsland_canonical (stopIsland_canonical h1))
  exact onPower_canonical (onMetro_canonical (ite_canonical (stopIsland_canonical h2) h2))

theorem execFieldSequenceEnd_canonical (h : s.dev.canonical) : EndsCanonical (execFieldSequenceEnd s) :=
  done_canonical <| ite_canonical h (onPower_canonical (stopIsland_canonical (reach_canonical h)))

theorem hostWarning_canonical (h : d.canonical) : (hostWarning d).canonical :=
  ite_canonical h <| setIsland_canonical (reach_canonical (flushLog_canonical (setIsland_canonical (bump_canonical h))))

theorem fieldOrder_canonical {cause} (h : d.canonical) : (fieldOrder cause d).canonical := by
  unfold fieldOrder
  extract_lets _ d1 _
  have h1 : d1.canonical := powerLoad_canonical (startIsland_canonical (onPower_canonical h))
  exact setNum_canonical (startIsland_canonical (reach_canonical (startIsland_canonical (reach_canonical h1))))

theorem execFieldPowerUp_canonical {cold} (h : s.dev.canonical) : EndsCanonical (execFieldPowerUp cold s) := by
  unfold execFieldPowerUp
  extract_lets _ d1 _ d2 d3 d4
  have h1 : d1.canonical := bumpBy_canonical h
  have h2 : d2.canonical := h1.of_eq rfl rfl
  have h3 : d3.canonical := ite_canonical (stopIsland_canonical h2) h2
  have h4 : d4.canonical := setNum_canonical (startIsland_canonical h3)
  exact .ite (done_canonical h) <| .ite (next_canonical (fieldOrder_canonical (reach_canonical h4)))
      (.ite (done_canonical h) (done_canonical (fieldOrder_canonical h)))

theorem execHoldupCharged_canonical {energy} (h : s.dev.canonical) : EndsCanonical (execHoldupCharged energy s) := by
  unfold execHoldupCharged
  extract_lets _ d1
  have h1 : d1.canonical := setNum_canonical (setNum_canonical h)
  exact done_canonical (ite_canonical h (ite_canonical (startIsland_canonical h1) h1))

theorem execHostPowerUp_canonical (h : s.dev.canonical) : EndsCanonical (execHostPowerUp s) :=
  done_canonical (ite_canonical h (startIsland_canonical (startIsland_canonical h)))

theorem execDomainStartFailed_canonical {isl} (h : s.dev.canonical) : EndsCanonical (execDomainStartFailed isl s) :=
  done_canonical (ite_canonical h (raise1_canonical (setIsland_canonical h)))

theorem supplies_canonical {v} (h : d.canonical) : (supplies v d).canonical := foldl_canonical h fun _ _ h1 => setNum_canonical h1

theorem execSupplyRedundancyLost_canonical {i volts} (h : s.dev.canonical) :
    EndsCanonical (execSupplyRedundancyLost i volts s) := by
  unfold execSupplyRedundancyLost
  extract_lets d1
  have h1 : d1.canonical := ite_canonical (supplies_canonical h) h
  exact done_canonical (ite_canonical (raise1_canonical (setNum_canonical h1)) h1)

theorem execSupplyRedundancyRestored_canonical {i volts} (h : s.dev.canonical) :
    EndsCanonical (execSupplyRedundancyRestored i volts s) := by
  unfold execSupplyRedundancyRestored
  extract_lets d1
  have h1 : d1.canonical := ite_canonical (supplies_canonical h) h
  exact done_canonical (ite_canonical (setNum_canonical h1) h1)

theorem execHoldupTest_canonical {host energy} (h : s.dev.canonical) : EndsCanonical (execHoldupTest host energy s) := by
  unfold execHoldupTest
  extract_lets _ _ _ d1
  have h1 : d1.canonical := setNum_canonical (setNum_canonical h)
  exact done_canonical (ite_canonical h (ite_canonical (raise1_canonical h1) h1))

theorem execColdPlateRead_canonical {temp} (h : s.dev.canonical) : EndsCanonical (execColdPlateRead temp s) := by
  unfold execColdPlateRead
  extract_lets _ _ _ d1 _
  have h1 : d1.canonical := onPower_canonical (setNum_canonical (tick_canonical h))
  exact done_canonical <| ite_canonical h (ite_canonical (raise_canonical (onPower_canonical h1)) h1)

theorem execOverTemperatureShutdown_canonical (h : s.dev.canonical) : EndsCanonical (execOverTemperatureShutdown s) := by
  unfold execOverTemperatureShutdown
  extract_lets
  refine done_canonical ?_
  split
  · exact ite_canonical h <|
        hostWarning_canonical (fieldWarning_canonical (onPower_canonical (bump_canonical (reach_canonical h))))
  · exact h

theorem execOverTemperatureRestart_canonical (h : s.dev.canonical) : EndsCanonical (execOverTemperatureRestart s) := by
  unfold execOverTemperatureRestart
  extract_lets
  refine done_canonical ?_
  split
  · refine ite_canonical h ?_
    extract_lets d1 d2
    have h1 : d1.canonical := onPower_canonical (reach_canonical h)
    have h2 : d2.canonical := ite_canonical h1 (fieldOrder_canonical h1)
    exact ite_canonical h2 (startIsland_canonical (startIsland_canonical h2))
  · exact h

/-! Sessions and group ownership (R374 to R381), the answers that a session receives (R365, R366), and what the entries'
chapters give to the server: handlers. -/

theorem onSite_canonical {f} (h : d.canonical) : (onSite f d).canonical := h
theorem onSlot_canonical {n f} (h : d.canonical) : (onSlot n f d).canonical := onSite_canonical h

theorem fieldClose_canonical {n} (h : d.canonical) : (fieldClose n d).canonical := by
  unfold fieldClose
  extract_lets d1 d2 _ d3
  have h1 : d1.canonical := onSite_canonical h
  have h2 : d2.canonical := by
    unfold d2
    split
    · exact ite_canonical (endTrans_canonical h1) h1
    · exact h1
  have h3 : d3.canonical := ite_canonical h2 (ite_canonical (h2.of_eq rfl rfl) (releaseCapture_canonical h2))
  exact ite_canonical (shutWindow_canonical h3) h3

theorem fieldForgets_canonical {n} (h : d.canonical) : (fieldForgets n d).canonical := fieldClose_canonical (onSite_canonical h)

theorem sessionNotice_canonical {n opening} (h : d.canonical) : (sessionNotice n opening d).canonical :=
  ite_canonical (onSite_canonical h) (enqueue_canonical (ite_canonical h (onSite_canonical h)))

theorem closeSession_canonical {n} (h : d.canonical) : (closeSession n d).canonical := by
  unfold closeSession
  refine ite_canonical h ?_
  extract_lets _ d1 d2 _
  have h1 : d1.canonical := onSite_canonical (sessionNotice_canonical h)
  have h2 : d2.canonical := by
    unfold d2
    split
    · exact onSite_canonical h1
    · exact h1
  exact onSlot_canonical h2

theorem strayReply_canonical {a m} (h : d.canonical) : (strayReply a m d).canonical := deliver_canonical (onSite_canonical h)

theorem openSlot_canonical {n a identity} (h : d.canonical) : (openSlot n a identity d).canonical := by
  unfold openSlot
  extract_lets _ d1 d2 _ _
  have h1 : d1.canonical := onSlot_canonical h
  have h2 : d2.canonical := by
    unfold d2
    split
    · exact onSite_canonical h1
    · exact h1
  exact deliver_canonical (onSlot_canonical (sessionNotice_canonical h2))

theorem sessionOpen_canonical {a client} (h : d.canonical) : (sessionOpen a client d).canonical := by
  unfold sessionOpen
  extract_lets _ _ _ d1
  have h1 : d1.canonical := ite_canonical (onSite_canonical h) h
  refine ite_canonical (strayReply_canonical h) ?_
  refine ite_canonical ?_ ?_
  · split
    · rename_i d2 e2
      have h2 := snd_canonical e2 (freeNat_canonical h)
      exact strayReply_canonical (onSite_canonical h2)
  · split
    · exact bump_canonical (closeTcp_canonical h1)
    · exact strayReply_canonical h1
    · extract_lets d3
      have h3 : d3.canonical := foldl_canonical h1 fun _ _ h4 => ite_canonical (closeSession_canonical (notice_canonical h4)) h4
      split
      · exact strayReply_canonical h3
      · exact openSlot_canonical h3

theorem takeRequest_canonical {a m} (h : d.canonical) : (takeRequest a m d).canonical := by
  unfold takeRequest
  extract_lets
  split
  · exact ite_canonical (onCan_canonical h) (ite_canonical (onCan_canonical h) h)
  · exact h

theorem execSessionTimeout_canonical {n} (h : s.dev.canonical) : EndsCanonical (execSessionTimeout n s) :=
  done_canonical <| ite_canonical h <| ite_canonical (ite_canonical (closeSession_canonical h) h)
      (closeSession_canonical (reach_canonical h))

theorem execUsbChallengeExpiry_canonical (h : s.dev.canonical) : EndsCanonical (execUsbChallengeExpiry s) := by
  unfold execUsbChallengeExpiry
  extract_lets
  refine done_canonical ?_
  split
  · exact onSite_canonical (reach_canonical h)
  · exact h

theorem fieldNotice_canonical {n} (h : d.canonical) : (fieldNotice n d).canonical :=
  ite_canonical (onSite_canonical (ite_canonical (fieldForgets_canonical h) h)) (fieldForgets_canonical h)

theorem execSessionNotice_canonical {m n} (h : s.dev.canonical) : EndsCanonical (execSessionNotice m n s) := by
  unfold execSessionNotice
  split
  · rename_i d1 _ e1
    have h1 := fst_canonical e1 (receive_canonical h)
    exact done_canonical (ite_canonical h1 (fieldNotice_canonical h1))

theorem setOwner_canonical {g n} (h : d.canonical) : (setOwner g n d).canonical :=
  dite_canonical (fun _ => onSite_canonical h) (fun _ => h)

theorem forced_canonical {g o} (h : d.canonical) : (forced g o d).canonical := by
  unfold forced
  extract_lets d1 d2
  have h1 : d1.canonical := bump_canonical h
  have h2 : d2.canonical := by
    unfold d2
    split
    · exact notice_canonical h1
    · exact h1
  exact raise_canonical h2

theorem groupService_canonical {service g n force} (h : d.canonical) : (groupService service g n force d).1.canonical := by
  unfold groupService
  extract_lets
  split
  · exact ite_fst_canonical (setOwner_canonical h) h
  · exact ite_fst_canonical h (ite_fst_canonical (setOwner_canonical h) h)
  · exact h

theorem hostGroup_canonical {service g n force} (h : d.canonical) : (hostGroup service g n force d).1.canonical := by
  unfold hostGroup
  refine ite_fst_canonical h ?_
  refine ite_fst_canonical h ?_
  extract_lets _ p1
  have h1 : p1.1.canonical := groupService_canonical h
  exact ite_canonical (forced_canonical h1) h1

theorem groupHeard_canonical {service g n} (h : d.canonical) : (groupHeard service g n d).canonical := by
  refine dite_canonical (fun _ => ?_) (fun _ => h)
  extract_lets _ d1
  have h1 : d1.canonical := onSite_canonical h
  exact ite_canonical (forced_canonical h1) h1

/-! The life cycle, the key store, the images with their activations, and the configuration leaves (R443 to R474). -/

theorem wrapKey_canonical {k alg usage plain} (h : d.canonical) : (wrapKey k alg usage plain d).canonical := by
  unfold wrapKey
  split
  · rename_i d1 e1
    have h1 := snd_canonical e1 (draw_canonical h)
    extract_lets
    split
    · exact onKeys_canonical h1

theorem keyValueHandler_canonical : keyValueHandler.Canonical := ⟨wrapKey_canonical, id⟩

theorem keyGenerateHandler_canonical : keyGenerateHandler.Canonical :=
  ⟨fun h => setOct_canonical (wrapKey_canonical (draw_canonical h)), id⟩

theorem keyDeleteHandler_canonical : keyDeleteHandler.Canonical := ⟨eraseKey_canonical, id⟩
theorem keyTypeHandler_canonical : keyTypeHandler.Canonical := ⟨setNum_canonical, id⟩
theorem publicItemHandler_canonical : publicItemHandler.Canonical := ⟨fun h => wrapItem_canonical (setOct_canonical h), id⟩
theorem administratorHandler_canonical : administratorHandler.Canonical := ⟨setOct_canonical, id⟩
theorem onKeySlot_canonical {i f} (h : d.canonical) : (onKeySlot i f d).canonical := onKeys_canonical h

theorem beginKeyUse_canonical {k since} (h : d.canonical) : (beginKeyUse k since d).canonical := by
  unfold beginKeyUse
  split
  · exact h
  · refine ite_canonical (tellUnusable_canonical h) ?_
    split
    · exact onKeySlot_canonical h
    · split
      · exact bump_canonical (onKeySlot_canonical h)
      · exact onKeys_canonical h

theorem endKeyUse_canonical {k} (h : d.canonical) : (endKeyUse k d).canonical := by
  unfold endKeyUse
  split
  · exact h
  · extract_lets d1
    have h1 : d1.canonical := onKeySlot_canonical h
    split
    · exact ite_canonical (beginKeyUse_canonical (onKeys_canonical h1)) h1
    · exact h1

theorem execKeySlotLoad_canonical {k ends} (h : s.dev.canonical) : EndsCanonical (execKeySlotLoad k ends s) :=
  done_canonical <| ite_canonical h (ite_canonical (endKeyUse_canonical h) (beginKeyUse_canonical h))

theorem execKeySlotWaitTimeout_canonical (h : s.dev.canonical) : EndsCanonical (execKeySlotWaitTimeout s) := by
  unfold execKeySlotWaitTimeout
  extract_lets
  refine done_canonical ?_
  split
  · exact raise1_canonical (bump_canonical (onKeys_canonical (reach_canonical h)))
  · exact h

theorem armHandler_canonical : armHandler.Canonical := ⟨fun h => ite_canonical (onKeys_canonical h) (onKeys_canonical h), id⟩

theorem transitionHandler_canonical : transitionHandler.Canonical := ⟨fun h =>
    onKeys_canonical (enqueue_canonical h), onKeys_canonical⟩

theorem enterLife_canonical {to_} (h : d.canonical) : (enterLife to_ d).canonical := by
  unfold enterLife
  extract_lets d1 d2 d3
  have h1 : d1.canonical := onKeys_canonical h
  have h2 : d2.canonical := ite_canonical (storeTransition_canonical h1) h1
  have h3 : d3.canonical := onMetro_canonical h2
  exact foldl_canonical (ite_canonical (recallTransition_canonical h3) h3) fun _ _ h4 =>
      ite_canonical (startIsland_canonical h4) h4

theorem execLifeCycleNotice_canonical {m to_} (h : s.dev.canonical) : EndsCanonical (execLifeCycleNotice m to_ s) := by
  unfold execLifeCycleNotice
  split
  · rename_i d1 _ e1
    have h1 := fst_canonical e1 (receive_canonical h)
    refine done_canonical ?_
    refine ite_canonical h1 ?_
    split
    · rename_i d2 _ e2
      have h2 := fst_canonical e2 (audit_canonical h1)
      exact ite_canonical (enterLife_canonical h2) h2

theorem execFactoryTransition_canonical {to_} (h : s.dev.canonical) : EndsCanonical (execFactoryTransition to_ s) := by
  unfold execFactoryTransition
  extract_lets
  refine done_canonical ?_
  refine ite_canonical ?_ h
  split
  · rename_i d1 _ e1
    have h1 := fst_canonical e1 (audit_canonical h)
    exact ite_canonical (enterLife_canonical (ite_canonical (bump_canonical h1) h1)) h1

theorem imageStageHandler_canonical : imageStageHandler.Canonical :=
  .of_mk id fun h => by
    extract_lets _ _ d1 d2
    have h1 : d1.canonical := onImg_canonical h
    have h2 : d2.canonical := setNum_canonical (setNum_canonical (setNum_canonical (setNum_canonical h1)))
    split
    · exact h2
    · exact foldl_canonical h2 fun _ _ h3 => enqueue_canonical h3

theorem execImageBlock_canonical {m t offset block} (h : s.dev.canonical) :
    EndsCanonical (execImageBlock m t offset block s) := by
  unfold execImageBlock
  split
  · rename_i d1 _ e1
    have h1 := fst_canonical e1 (receive_canonical h)
    extract_lets
    refine done_canonical ?_
    split
    · exact ite_canonical (enqueue_canonical (onImg_canonical h1)) h1
    · exact h1

theorem execImageStatus_canonical {m t acked} (h : s.dev.canonical) : EndsCanonical (execImageStatus m t acked s) := by
  unfold execImageStatus
  split
  · rename_i d1 _ e1
    have h1 := fst_canonical e1 (receive_canonical h)
    exact done_canonical (ite_canonical (onImg_canonical h1) h1)

theorem discardHandler_canonical : discardHandler.Canonical := ⟨fun h =>
    onImg_canonical (setNum_canonical (setNum_canonical (setNum_canonical h))), id⟩

theorem fallBackHandler_canonical : fallBackHandler.Canonical := ⟨startIsland_canonical, id⟩

theorem stopForActivation_canonical {t} (h : d.canonical) : (stopForActivation t d).canonical :=
  setNum_canonical (stopIsland_canonical (onImg_canonical (onSys_canonical h)))

theorem beginActivation_canonical {t session} (h : d.canonical) : (beginActivation t session d).canonical := by
  unfold beginActivation
  extract_lets
  split
  · exact stopForActivation_canonical (foldl_canonical h fun _ _ h1 => closeSession_canonical h1)
  · exact setNum_canonical <| foldl_canonical h fun _ _ h2 => ite_canonical (raiseCause_canonical h2) h2
  · exact stopForActivation_canonical (audit_canonical h)
  · exact stopForActivation_canonical h

theorem activateHandler_canonical : activateHandler.Canonical :=
  .of_mk (fun h => h) fun h => by
    extract_lets _ _ _ d1
    have h1 : d1.canonical := onSys_canonical (setNum_canonical h)
    exact ite_canonical (setNum_canonical h1) (beginActivation_canonical h1)

theorem execFxWinddownEnd_canonical (h : s.dev.canonical) : EndsCanonical (execFxWinddownEnd s) := by
  unfold execFxWinddownEnd
  extract_lets
  refine done_canonical ?_
  split
  · exact ite_canonical h (stopForActivation_canonical (ite_canonical (reach_canonical h) h))
  · exact h

theorem execBootCheck_canonical {t} (h : s.dev.canonical) : EndsCanonical (execBootCheck t s) := by
  unfold execBootCheck
  refine done_canonical ?_
  split
  · split
    · exact h
    · refine ite_canonical h ?_
      extract_lets x b cause old oldVersion ended d1 d2 d3
      refine ite_canonical (onSys_canonical (setNum_canonical (startIsland_canonical h))) ?_
      have hended {ok} {d : Dev} (h : d.canonical) : (ended ok d).canonical :=
        ite_canonical (setNum_canonical (onSys_canonical (setNum_canonical h)))
            (setNum_canonical (onSys_canonical (setNum_canonical h)))
      clear_value cause ended
      split
      · exact hended (setNum_canonical (setNum_canonical (startIsland_canonical h)))
      · have h3 : d3.canonical :=
          setNum_canonical (setNum_canonical
              (setNum_canonical (setNum_canonical (onImg_canonical (startIsland_canonical (setNum_canonical h))))))
        exact hended (ite_canonical (setNum_canonical h3) h3)
  · exact h

theorem pairActivation_canonical (h : d.canonical) : (pairActivation d).canonical := by
  unfold pairActivation
  extract_lets _ f1
  have h1 {f} {d : Dev} (hd : d.canonical) : (f1 f d).canonical := onSys_canonical hd
  split
  · refine ite_canonical h ?_
    extract_lets _ p2 d3
    have h2 : p2.2.canonical := ite_snd_canonical (freeNat_canonical h) h
    have h3 : d3.canonical := h2
    split
    · exact ite_canonical h (failActivation_canonical h)
    · refine ite_canonical ?_ (ite_canonical (ite_canonical (stopForActivation_canonical h)
          (ite_canonical (failActivation_canonical h) h)) (ite_canonical (onSys_canonical (setNum_canonical h)) h))
      refine ite_canonical (failActivation_canonical h) ?_
      exact ite_canonical (h1 h) <| ite_canonical h <| ite_canonical (failActivation_canonical h3) <|
          ite_canonical h3 <| ite_canonical (beginActivation_canonical h3) (setNum_canonical (beginSwap_canonical h3))
  · exact h

theorem watchHealth_canonical (h : d.canonical) : (watchHealth d).canonical :=
  foldl_canonical h fun _ _ h1 => ite_canonical h1 (onImg_canonical h1)

theorem execTrialConfirm_canonical {t} (h : s.dev.canonical) : EndsCanonical (execTrialConfirm t s) := by
  unfold execTrialConfirm
  extract_lets d1 _ _
  have h1 : d1.canonical := watchHealth_canonical h
  refine done_canonical ?_
  split
  · exact ite_canonical h1 <| onImg_canonical (setNum_canonical (setNum_canonical (reach_canonical h1)))
  · exact h1

theorem execConfirmTimeout_canonical {t} (h : s.dev.canonical) : EndsCanonical (execConfirmTimeout t s) :=
  done_canonical <| ite_canonical h (raise1_canonical (onImg_canonical (reach_canonical h)))

theorem startCommit_canonical {st} (h : d.canonical) : (startCommit st d).canonical := onStore_canonical h

theorem requestCommit_canonical {st} (h : d.canonical) : (requestCommit st d).canonical :=
  ite_canonical h (ite_canonical (onStore_canonical h) (startCommit_canonical h))

theorem commitHandler_canonical : commitHandler.Canonical := ⟨fun h => requestCommit_canonical (requestCommit_canonical h), id⟩

theorem execAutoCommit_canonical {st} (h : s.dev.canonical) : EndsCanonical (execAutoCommit st s) := by
  unfold execAutoCommit
  extract_lets
  refine done_canonical ?_
  split
  · exact ite_canonical h (requestCommit_canonical (reach_canonical h))
  · exact h

theorem execCommitSpacingExpiry_canonical {st} (h : s.dev.canonical) : EndsCanonical (execCommitSpacingExpiry st s) := by
  unfold execCommitSpacingExpiry
  extract_lets
  refine done_canonical ?_
  split
  · refine ite_canonical h ?_
    extract_lets d1
    have h1 : d1.canonical := reach_canonical h
    exact ite_canonical (onStore_canonical h1) (startCommit_canonical h1)
  · exact h

theorem keepMap_canonical {body} (h : d.canonical) : (keepMap body d).canonical := onLoad_canonical h

theorem execLeafWriteComplete_canonical {st readBack} (h : s.dev.canonical) :
    EndsCanonical (execLeafWriteComplete st readBack s) := by
  unfold execLeafWriteComplete
  extract_lets
  refine done_canonical ?_
  refine ite_canonical h ?_
  split
  · exact h
  · refine ite_canonical (raise1_canonical (bump_canonical (reportLeaves_canonical (onStore_canonical h)))) ?_
    extract_lets d1 d2
    have h1 : d1.canonical := onStore_canonical h
    have h2 : d2.canonical := bump_canonical (reportLeaves_canonical (ite_canonical (keepMap_canonical h1) h1))
    exact ite_canonical (onPair_canonical h2) h2

theorem restoreHandler_canonical : restoreHandler.Canonical where
  act {_ d} h :=
    have kept {p} : Dev.canonical { d with regs := d.regs.filter p } := ⟨regsWf_filter _ _ h.1, h.2⟩
    paramWrites_canonical (requestCommit_canonical (requestCommit_canonical (foldl_canonical kept fun _ _ h =>
        enableCan_canonical h)))
  refused := id

theorem execBulkRequest_canonical {f object} (h : s.dev.canonical) : EndsCanonical (execBulkRequest f object s) := by
  unfold execBulkRequest
  split
  · rename_i d1 _ e1
    have h1 := fst_canonical e1 (peerReceive_canonical h)
    exact done_canonical (ite_canonical (onPair_canonical h1) h1)

theorem execBulkData_canonical {f entries} (h : s.dev.canonical) : EndsCanonical (execBulkData f entries s) := by
  unfold execBulkData
  extract_lets
  split
  · rename_i d1 _ e1
    have h1 := fst_canonical e1 (peerReceive_canonical h)
    extract_lets d2
    have h2 : d2.canonical := foldl_canonical h1 fun _ _ h3 => setVal_canonical h3
    exact done_canonical <| ite_canonical (paramWrites_canonical (requestCommit_canonical (onPair_canonical h2))) h1

/-! The links between the islands: the safety feed, stale channels, the barrier's heartbeats and its loss, Ridge frames towards
the networks, and what is sent at fixed times (R11, R17, R30, R242, R274, R277, R327, R349, R389). -/

theorem safetyFeed_canonical (h : d.canonical) : (safetyFeed d).canonical := transfer_canonical (onSafety_canonical h)

theorem execLoadCommandTransfer_canonical (h : s.dev.canonical) : EndsCanonical (execLoadCommandTransfer s) := by
  unfold execLoadCommandTransfer
  extract_lets _ d1 _
  have h1 : d1.canonical := tick_canonical h
  exact done_canonical <| ite_canonical (followAll_canonical (onLoad_canonical (transfer_canonical h1))) h

theorem silence_canonical {ch} (h : d.canonical) : (silence ch d).canonical := by
  unfold silence
  extract_lets
  split
  · exact enterHoldover_canonical h
  · exact h
  · exact onSafety_canonical h
  · exact h
  · exact onLoad_canonical h
  · exact hostHoldover_canonical h
  · exact h
  · exact h
  · exact h
  · exact h

theorem execChannelStale_canonical {ch} (h : s.dev.canonical) : EndsCanonical (execChannelStale ch s) :=
  done_canonical (ite_canonical h (silence_canonical (staleChannel_canonical h)))

theorem steer_canonical {offset} (h : d.canonical) : (steer offset d).canonical := onPair_canonical h

theorem execPeerTimeTransfer_canonical {holderTime arrival} (h : s.dev.canonical) :
    EndsCanonical (execPeerTimeTransfer holderTime arrival s) := by
  unfold execPeerTimeTransfer
  extract_lets _ _ d1 _
  have h1 : d1.canonical := transfer_canonical (h.of_eq rfl rfl)
  exact done_canonical <| ite_canonical h <| ite_canonical h1 (ite_canonical (onPair_canonical h1) (steer_canonical h1))

theorem onSide30_canonical {at_ f} (h : d.canonical) : (onSide30 at_ f d).canonical := by
  unfold onSide30
  extract_lets
  split <;> exact h

theorem barrierBack_canonical (h : d.canonical) : (barrierBack d).canonical := by
  unfold barrierBack
  extract_lets d1 _ d2
  have h1 : d1.canonical := noticeAll_canonical h
  have h2 : d2.canonical := foldl_canonical (onSite_canonical h1) fun _ _ h3 => sessionNotice_canonical h3
  exact foldl_canonical (recallTransition_canonical h2) fun _ _ h4 => ite_canonical (sessionNotice_canonical h4) h4

theorem islandsHeard_canonical {mask} (h : d.canonical) : (islandsHeard mask d).canonical := onSite_canonical h

theorem execHeartbeat_canonical {at_ m} (h : s.dev.canonical) : EndsCanonical (execHeartbeat at_ m s) := by
  unfold execHeartbeat
  extract_lets
  refine .ite (done_canonical h) ?_
  split
  · rename_i d1 _ e1
    have h1 := fst_canonical e1 (receive_canonical h)
    extract_lets _ d2 d3 _
    have h2 : d2.canonical := onSide30_canonical h1
    have h3 : d3.canonical := ite_canonical (islandsHeard_canonical h2) h2
    exact done_canonical (ite_canonical h1 (watchHealth_canonical (ite_canonical (barrierBack_canonical h3) h3)))

theorem holdGrants_canonical (h : d.canonical) : (holdGrants d).canonical :=
  foldl_canonical h fun _ _ h1 => ite_canonical (onOut_canonical h1) h1

theorem loseBarrier_canonical {at_} (h : d.canonical) : (loseBarrier at_ d).canonical := by
  unfold loseBarrier
  extract_lets d1
  have h1 : d1.canonical := onSide30_canonical h
  clear_value d1
  split
  · exact raise_canonical (noticeAll_canonical (bump_canonical (onSite_canonical h1)))
  · have h2 := @raise_canonical _ 7 .barrierLost [] h1
    exact ite_canonical (foldl_canonical h2 fun _ _ h => ite_canonical (raiseCause_canonical h) h)
      (ite_canonical (onPair_canonical h2) h2)

theorem execBarrierLoss_canonical {at_} (h : s.dev.canonical) : EndsCanonical (execBarrierLoss at_ s) := by
  unfold execBarrierLoss
  extract_lets d x me d1
  have h1 : d1.canonical := onSide30_canonical (reach_canonical h)
  refine done_canonical (ite_canonical h ?_)
  split
  · exact h
  · split
    · exact h1
    · exact holdGrants_canonical h1
  · exact loseBarrier_canonical (reach_canonical h)
  · exact loseBarrier_canonical (reach_canonical h)

theorem execPowerFailNotice_canonical (h : s.dev.canonical) : EndsCanonical (execPowerFailNotice s) :=
  done_canonical (ite_canonical (onMetro_canonical h) h)

theorem routeRidge_canonical {b} (h : d.canonical) : (routeRidge b d).canonical := by
  unfold routeRidge
  extract_lets network slot f can
  have hcan {c} : (can c).canonical := stage_canonical h
  clear_value network can
  split
  · exact hcan
  · exact hcan
  · exact dite_canonical (fun _ => onEave_canonical h) (fun _ => h)
  · exact h

theorem execRidgeFrameFromSafety_canonical {m} (h : s.dev.canonical) : EndsCanonical (execRidgeFrameFromSafety m s) := by
  unfold execRidgeFrameFromSafety
  refine .ite (done_canonical h) ?_
  split
  · rename_i d1 _ e1
    have h1 := fst_canonical e1 (receive_canonical h)
    exact done_canonical (ite_canonical (routeRidge_canonical h1) h1)

theorem execCanHeartbeat_canonical (h : s.dev.canonical) : EndsCanonical (execCanHeartbeat s) :=
  done_canonical (ite_canonical h (stageAll_canonical (tick_canonical h)))

theorem execWallClockOffsetSend_canonical (h : s.dev.canonical) : EndsCanonical (execWallClockOffsetSend s) :=
  done_canonical (ite_canonical h (enqueue_canonical (tick_canonical h)))

theorem execPartnerWaitExpiry_canonical (h : s.dev.canonical) : EndsCanonical (execPartnerWaitExpiry s) := by
  unfold execPartnerWaitExpiry
  extract_lets _ d1
  have h1 : d1.canonical := reach_canonical h
  exact done_canonical (ite_canonical h (ite_canonical h1 (sendBid_canonical h1)))

/-! One control period of the field control island (R12, R13, R46, R60 to R72, R117 to R124, R326 to R344, Tables 1.3, 3.2 and
5.1). -/

theorem beginPeriod_canonical (h : d.canonical) : (beginPeriod d).canonical := by
  unfold beginPeriod
  extract_lets d1 _ _
  have h1 : d1.canonical := boundaryTick_canonical h
  exact setNum_canonical (h1.of_eq rfl rfl)

theorem topologyPeriod_canonical (h : d.canonical) : (topologyPeriod d).canonical := ite_canonical (raise_canonical (bump_canonical h)) h

theorem contactPeriod_canonical (h : d.canonical) : (contactPeriod d).canonical := by
  unfold contactPeriod
  extract_lets d1
  have h1 : d1.canonical := checkTravel_canonical <| countPermits_canonical <|
      checkSense_canonical (clearAgreed_canonical (debounceContacts_canonical h))
  exact regroup_canonical <| topologyPeriod_canonical <| zeroDropped_canonical <|
      deriveSegments_canonical (clearDropped_canonical (checkDropped_canonical h1))

theorem setPoints_canonical (h : d.canonical) : (setPoints d).canonical := by
  unfold setPoints
  extract_lets _ d1 d2 d3
  have h1 : d1.canonical := foldl_canonical (isolateUnfitted_canonical h) fun _ _ h4 => stopBitPeriod_canonical <|
      commandPeriod_canonical (boundPeriod_canonical (sensePeriod_canonical h4))
  have h2 : d2.canonical := foldl_canonical h1 fun _ _ h5 =>
      stopWaitPeriod_canonical (passivePeriod_canonical (setPointPeriod_canonical h5))
  have h3 : d3.canonical := foldl_canonical h2 fun _ _ h6 => legLossPeriod_canonical h6
  exact foldl_canonical h3 fun _ _ h7 => ratioPeriod_canonical h7

theorem profileWindow_canonical (h : d.canonical) : (profileWindow d).canonical := by
  unfold profileWindow
  extract_lets d1 _
  have h1 : d1.canonical := outletGenerators_canonical h
  exact signalPeriod_canonical (foldl_canonical h1 fun _ _ h2 => ite_canonical (genUpdate_canonical h2) h2)

theorem takeStop_canonical (h : d.canonical) : (takeStop d).canonical := ite_canonical (transfer_canonical h) h

theorem freezeImage_canonical (h : d.canonical) : (freezeImage d).canonical := by
  unfold freezeImage
  extract_lets d1 _ _ _ _
  have h1 : d1.canonical := takeStop_canonical h
  exact onPair_canonical (h1.of_eq rfl rfl)

theorem thawThermal_canonical (h : d.canonical) : (thawThermal d).canonical := h

theorem sequencer_canonical (h : d.canonical) : (sequencer d).1.canonical := by
  unfold sequencer
  extract_lets d1 _ _
  have h1 : d1.canonical := foldl_canonical h fun _ _ h => offPeriod_canonical h
  clear_value d1
  refine List.foldlRecOn (motive := fun x : Dev × List (Fin 12) => x.1.canonical) _ _ h1 fun _ h _ _ => ?_
  extract_lets y
  have hy : y.1.canonical := sequenceSegment_canonical h
  clear_value y
  exact hy

theorem runSlots_canonical {bad} (h : d.canonical) : (runSlots bad d).1.canonical := by
  unfold runSlots
  extract_lets _ _ d1 p2 d3 _ _ d4 d5 d6
  have h1 : d1.canonical := foldl_canonical (foldl_canonical h fun _ _ h7 => railSlot_canonical h7) fun _ _ h8 =>
      repeatOutput_canonical h8
  clear_value d1
  have h2 : p2.1.canonical := sequencer_canonical h1
  have h3 : d3.canonical := foldl_canonical h2 fun _ _ h9 => legSlot_canonical h9
  clear_value d3
  have h4 : d4.canonical := foldl_canonical h3 fun _ _ h10 => axisSlot_canonical h10
  clear_value d4
  have h5 : d5.canonical := dite_canonical (fun _ => ite_canonical (thermalSlot_canonical h4) h4) (fun _ => h4)
  clear_value d5
  have h6 : d6.canonical := foldl_canonical h5 fun _ _ h11 => repeatOutput_canonical h11
  clear_value d6
  exact analysisPeriod_canonical h6

theorem closeBank_canonical {bad} (h : d.canonical) : (closeBank bad d).canonical := by
  unfold closeBank
  extract_lets d1 _ _ _ d2
  have h1 : d1.canonical := takeStop_canonical h
  have h2 : d2.canonical := foldl_canonical (h1.of_eq rfl rfl) fun _ _ h3 => legOutput_canonical h3
  exact foldl_canonical h2 fun _ _ h4 => rebuildSlot_canonical h4

theorem sendFrames_canonical (h : d.canonical) : (sendFrames d).canonical := h.of_eq rfl rfl

theorem restartPeriod_canonical (h : d.canonical) : (restartPeriod d).canonical := by
  unfold restartPeriod
  refine ite_canonical h ?_
  extract_lets d1 _ _
  have h1 : d1.canonical := foldl_canonical h fun _ _ h2 => onContactor_canonical h2
  exact regroup_canonical (deriveSegments_canonical (h1.of_eq rfl rfl))

theorem learnSeen_canonical (h : d.canonical) : (learnSeen d).canonical := onPair_canonical h

theorem takeOverPeriod_canonical (h : d.canonical) : (takeOverPeriod d).canonical := by
  unfold takeOverPeriod
  extract_lets d1
  have h1 : d1.canonical := learnSeen_canonical (ite_canonical (transfer_canonical h) h)
  exact ite_canonical (takeOver_canonical (ite_canonical (omitAll_canonical h1) h1)) h1

theorem pairPeriod_canonical (h : d.canonical) : (pairPeriod d).canonical := by
  unfold pairPeriod
  extract_lets d1 _ _
  have h1 : d1.canonical := ite_canonical (enterSyncing_canonical h) h
  exact pairActivation_canonical (ite_canonical (setRole_canonical h1) h1)

theorem decisions_canonical {released} (h : d.canonical) : (decisions released d).canonical := by
  unfold decisions
  refine ite_canonical (foldl_canonical h fun _ _ h1 => statusPeriod_canonical h1) ?_
  extract_lets d2 d3 d4
  have h2 : d2.canonical := foldl_canonical h fun _ _ h5 => releaseOutlets_canonical h5
  have h3 : d3.canonical := allocatorPeriod_canonical h2
  have h4 : d4.canonical := foldl_canonical h3 fun _ _ h6 => outletPeriod_canonical h6
  exact ite_canonical h4 (interlock_canonical (thawOutlets_canonical h4))

theorem endPeriod_canonical {bad released} (h : d.canonical) : (endPeriod bad released d).canonical := by
  unfold endPeriod
  extract_lets d1 d2 d3 d4 d5 d6
  have h1 : d1.canonical := closeBank_canonical (reach_canonical h)
  have h2 : d2.canonical := thawThermal_canonical (abortPeriod_canonical h1)
  have h3 : d3.canonical := restartPeriod_canonical (decisions_canonical h2)
  have h4 : d4.canonical := takeOverPeriod_canonical (reach_canonical h3)
  have h5 : d5.canonical := repeatUpdates_canonical (sendFrames_canonical (reach_canonical h4))
  have h6 : d6.canonical := transfer_canonical (averagePeriod_canonical h5)
  exact watchHealth_canonical (pairPeriod_canonical (keepSamples_canonical h6))

theorem controlPeriod_canonical {ecc} (h : d.canonical) : (controlPeriod ecc d).canonical := by
  unfold controlPeriod
  extract_lets _ _ d1 d2 d3 _ _ d4 p5
  have h1 : d1.canonical := contactPeriod_canonical (beginPeriod_canonical (fieldStore_canonical h))
  have h2 : d2.canonical := profileWindow_canonical (setPoints_canonical h1)
  have h3 : d3.canonical := freezeImage_canonical (reach_canonical h2)
  have h4 : d4.canonical := foldl_canonical (bumpBy_canonical h3) fun _ _ h6 => slotFault_canonical h6
  have h5 : p5.1.canonical := runSlots_canonical h4
  exact ite_canonical (setNum_canonical (startIsland_canonical h4)) (endPeriod_canonical h5)

/-! What the chapters on sessions, the site bus, Eaveline, time following, sample movement, snapshots and pairing say of a
write to their entries. -/

theorem plainAct_canonical {c} (h : d.canonical) : (plainAct c d).canonical := setVal_canonical h
theorem plainHandler_canonical : plainHandler.Canonical := ⟨plainAct_canonical, id⟩
theorem nodeIdHandler_canonical : nodeIdHandler.Canonical := ⟨plainAct_canonical, id⟩
theorem reClaimHandler_canonical : reClaimHandler.Canonical := ⟨reClaim_canonical, id⟩
theorem canEnableHandler_canonical : canEnableHandler.Canonical := ⟨fun h => enableCan_canonical (plainAct_canonical h), id⟩
theorem canTimingHandler_canonical : canTimingHandler.Canonical := ⟨plainAct_canonical, id⟩
theorem filterHandler_canonical : filterHandler.Canonical := ⟨plainAct_canonical, id⟩
theorem ptpEnableHandler_canonical : ptpEnableHandler.Canonical := ⟨fun h => onPtp_canonical (plainAct_canonical h), id⟩
theorem wallClockHandler_canonical : wallClockHandler.Canonical := ⟨onPtp_canonical, id⟩
theorem removeNodeHandler_canonical : removeNodeHandler.Canonical := ⟨removeNode_canonical, id⟩
theorem expectedSerialHandler_canonical : expectedSerialHandler.Canonical := ⟨plainAct_canonical, id⟩

theorem expectedPhaseHandler_canonical : expectedPhaseHandler.Canonical :=
  .of_mk id fun h => by
    extract_lets _ d1
    have h1 : d1.canonical := plainAct_canonical h
    exact ite_canonical (raise1_canonical h1) h1

theorem dmaRegisterHandler_canonical : dmaRegisterHandler.Canonical := ⟨plainAct_canonical, id⟩

theorem dmaControlHandler_canonical : dmaControlHandler.Canonical :=
  .of_mk id fun h => by
    extract_lets _ d1
    have h1 : d1.canonical := setNum_canonical h
    exact ite_canonical (askStop_canonical h) (ite_canonical (startChannel_canonical h1) h1)

theorem descriptorHandler_canonical : descriptorHandler.Canonical := ⟨plainAct_canonical, id⟩
theorem captureClaimHandler_canonical : captureClaimHandler.Canonical := ⟨fun h => h, id⟩
theorem captureReleaseHandler_canonical : captureReleaseHandler.Canonical := ⟨releaseCapture_canonical, id⟩

theorem triggerHandler_canonical : triggerHandler.Canonical := ⟨fireTrigger_canonical, fun h =>
    ite_canonical (fireTrigger_canonical h) h⟩

theorem pairModeHandler_canonical : pairModeHandler.Canonical :=
  .of_mk id fun h => by
    extract_lets _ d1
    have h1 : d1.canonical := plainAct_canonical h
    exact ite_canonical (enterSyncing_canonical h1) h1

theorem rankHandler_canonical : rankHandler.Canonical := ⟨plainAct_canonical, id⟩
theorem swapHandler_canonical : swapHandler.Canonical := ⟨beginSwap_canonical, id⟩

/-! What the chapters on legs, the ring, rails, the loop engine and the allocator say of a write to their entries. -/

theorem legEnableHandler_canonical : legEnableHandler.Canonical := ⟨plainAct_canonical, id⟩
theorem inductanceHandler_canonical : inductanceHandler.Canonical := ⟨plainAct_canonical, id⟩
theorem legTempHandler_canonical : legTempHandler.Canonical := ⟨plainAct_canonical, id⟩
theorem legResetHandler_canonical : legResetHandler.Canonical := ⟨onLeg_canonical, id⟩
theorem legCaptureHandler_canonical : legCaptureHandler.Canonical := ⟨captureLeg_canonical, id⟩
theorem brickCaptureHandler_canonical : brickCaptureHandler.Canonical := ⟨captureBrick_canonical, id⟩

theorem ringConfigHandler_canonical : ringConfigHandler.Canonical := ⟨fun h =>
    isolateUnfitted_canonical (plainAct_canonical h), id⟩

theorem isolationHandler_canonical : isolationHandler.Canonical := ⟨plainAct_canonical, id⟩
theorem cardParamHandler_canonical : cardParamHandler.Canonical := ⟨fun h => paramWrites_canonical (plainAct_canonical h), id⟩
theorem shedHandler_canonical : shedHandler.Canonical := ⟨plainAct_canonical, id⟩
theorem sourceHandler_canonical : sourceHandler.Canonical := ⟨plainAct_canonical, id⟩

theorem commandHandler_canonical : commandHandler.Canonical :=
  ⟨fun h => ite_canonical (onRail_canonical (plainAct_canonical h))
    (onRail_canonical (ite_canonical (bump_canonical (plainAct_canonical h)) (plainAct_canonical h))), id⟩

theorem currentTargetHandler_canonical : currentTargetHandler.Canonical := ⟨plainAct_canonical, id⟩
theorem railOwnHandler_canonical : railOwnHandler.Canonical := ⟨plainAct_canonical, id⟩
theorem modeHandler_canonical : modeHandler.Canonical := ⟨fun h => onRail_canonical (plainAct_canonical h), id⟩
theorem railStartHandler_canonical : railStartHandler.Canonical := ⟨beginStart_canonical, id⟩
theorem railStopHandler_canonical : railStopHandler.Canonical := ⟨beginStop_canonical, id⟩

theorem railIsolationHandler_canonical : railIsolationHandler.Canonical := ⟨fun h =>
    ite_canonical (onRail_canonical h) (isolate_canonical h), id⟩

theorem maskHandler_canonical : maskHandler.Canonical := ⟨plainAct_canonical, id⟩
theorem ratioHandler_canonical : ratioHandler.Canonical := ⟨beginRatio_canonical, id⟩
theorem reformat_canonical {cls bfp} (h : d.canonical) : (reformat cls bfp d).canonical := ite_canonical h h
theorem formatHandler_canonical : formatHandler.Canonical := ⟨fun h => plainAct_canonical (reformat_canonical h), id⟩
theorem coefHandler_canonical : coefHandler.Canonical := ⟨plainAct_canonical, id⟩
theorem followResetHandler_canonical : followResetHandler.Canonical := ⟨onAxis_canonical, id⟩
theorem thermalSourceHandler_canonical : thermalSourceHandler.Canonical := ⟨plainAct_canonical, id⟩

theorem thermalOutputHandler_canonical : thermalOutputHandler.Canonical :=
  .of_mk id fun h => by
    extract_lets _ d1
    have h1 : d1.canonical := plainAct_canonical h
    exact ite_canonical (releaseChannel_canonical h1) h1

theorem thermalDutyHandler_canonical : thermalDutyHandler.Canonical := ⟨plainAct_canonical, id⟩
theorem genLimitHandler_canonical : genLimitHandler.Canonical := ⟨fun h => onGen_canonical (plainAct_canonical h), id⟩

theorem genTargetHandler_canonical : genTargetHandler.Canonical :=
  .of_mk id fun h => by
    extract_lets _ d1 d2
    have h1 : d1.canonical := plainAct_canonical h
    have h2 : d2.canonical := onGen_canonical h1
    exact ite_canonical (genTarget_canonical h1) (ite_canonical (genTarget_canonical h2) h2)

theorem genHostHandler_canonical : genHostHandler.Canonical :=
  .of_mk id fun h => by
    extract_lets _ d1
    have h1 : d1.canonical := plainAct_canonical h
    exact ite_canonical (onGen_canonical h1) h1

theorem genStartHandler_canonical : genStartHandler.Canonical := ⟨generatorStart_canonical, id⟩
theorem injSetHandler_canonical : injSetHandler.Canonical := ⟨plainAct_canonical, id⟩
theorem injStartHandler_canonical : injStartHandler.Canonical := ⟨injBegin_canonical, id⟩
theorem injStopHandler_canonical : injStopHandler.Canonical := ⟨injAbort_canonical, id⟩
theorem testToggle_canonical {x} (h : d.canonical) : (testToggle x d).canonical := askContactor_canonical h

theorem contactorTestHandler_canonical : contactorTestHandler.Canonical :=
  .of_mk id fun h => by
    split
    · exact judge_canonical (testToggle_canonical h)
    · exact h

theorem clearTieHandler_canonical : clearTieHandler.Canonical := ⟨onContactor_canonical, id⟩

theorem clearFaultHandler_canonical : clearFaultHandler.Canonical :=
  .of_mk id fun h => by
    split
    · exact onContactor_canonical h
    · exact h

theorem ringMaskHandler_canonical : ringMaskHandler.Canonical := ⟨fun h => isolateUnfitted_canonical (plainAct_canonical h), id⟩

theorem gridLimitHandler_canonical : gridLimitHandler.Canonical := ⟨fun h =>
    ite_canonical (plainAct_canonical h) (gridWrite_canonical (plainAct_canonical h)), id⟩

theorem layoutHoldHandler_canonical : layoutHoldHandler.Canonical := ⟨plainAct_canonical, id⟩
theorem replanHandler_canonical : replanHandler.Canonical := ⟨replan_canonical, id⟩

/-! What the chapters on outlets, metrology, safety and load channels say of a write to their entries; and the handler and the
range code of every entry. -/

theorem outletConfigHandler_canonical : outletConfigHandler.Canonical := ⟨plainAct_canonical, id⟩
theorem insulationHandler_canonical : insulationHandler.Canonical := ⟨plainAct_canonical, id⟩
theorem outletStopHandler_canonical : outletStopHandler.Canonical := ⟨raiseCause_canonical, id⟩
theorem outletServiceHandler_canonical : outletServiceHandler.Canonical := ⟨raiseEvent_canonical, id⟩
theorem outletResetHandler_canonical : outletResetHandler.Canonical := ⟨raiseEvent_canonical, id⟩
theorem priorityHandler_canonical : priorityHandler.Canonical := ⟨plainAct_canonical, id⟩
theorem authorizationHandler_canonical : authorizationHandler.Canonical := ⟨authorize_canonical, id⟩

theorem pumpHandler_canonical : pumpHandler.Canonical :=
  .of_mk id fun h => by
    extract_lets _ d1
    have h1 : d1.canonical := plainAct_canonical h
    exact ite_canonical (releaseChannel_canonical h1) h1

theorem pinTempHandler_canonical : pinTempHandler.Canonical := ⟨plainAct_canonical, id⟩
theorem sealHandler_canonical : sealHandler.Canonical := ⟨fun h => plainAct_canonical (sealed_canonical h), id⟩

theorem pulseHandler_canonical : pulseHandler.Canonical := ⟨fun h =>
    plainAct_canonical (ite_canonical (sealed_canonical h) h), id⟩

theorem pairHandler_canonical : pairHandler.Canonical := ⟨pairHead_canonical, id⟩

theorem windowHandler_canonical : windowHandler.Canonical := ⟨fun h =>
    ite_canonical (openWindow_canonical h) (shutWindow_canonical h), id⟩

theorem lockedHandler_canonical : lockedHandler.Canonical := ⟨plainAct_canonical, id⟩
theorem expectedCrcHandler_canonical : expectedCrcHandler.Canonical := ⟨plainAct_canonical, id⟩

theorem passwordHandler_canonical : passwordHandler.Canonical := ⟨writePassword_canonical, fun h =>
    ite_canonical (writePassword_canonical h) (ite_canonical (safetyLogSame_canonical h) h)⟩

theorem transactionHandler_canonical : transactionHandler.Canonical :=
  .of_mk id fun h => by
    split
    · exact ite_canonical h (openTrans_canonical h)
    · exact commitTrans_canonical h
    · exact endTrans_canonical h

theorem restartHandler_canonical : restartHandler.Canonical := ⟨restartSafety_canonical, id⟩
theorem safetyResetHandler_canonical : safetyResetHandler.Canonical := ⟨resetFaults_canonical, id⟩
theorem safeHandler_canonical : safeHandler.Canonical := ⟨safeWrite_canonical, id⟩
theorem loadCommandHandler_canonical : loadCommandHandler.Canonical := ⟨plainAct_canonical, id⟩
theorem pwmHandler_canonical : pwmHandler.Canonical := ⟨plainAct_canonical, id⟩
theorem clearHandler_canonical : clearHandler.Canonical := ⟨clearChannel_canonical, id⟩
theorem permitHandler_canonical : permitHandler.Canonical := ⟨fun h => staleReadings_canonical (plainAct_canonical h), id⟩
theorem forcedHandler_canonical : forcedHandler.Canonical := ⟨fun h => staleReadings_canonical (plainAct_canonical h), id⟩
theorem limpMapHandler_canonical : limpMapHandler.Canonical := ⟨plainAct_canonical, id⟩
theorem generalInputHandler_canonical : generalInputHandler.Canonical := ⟨plainAct_canonical, id⟩

theorem handlerSite_canonical {idx sub} : (handlerSite idx sub).Canonical :=
    .ite nodeIdHandler_canonical <| .ite reClaimHandler_canonical <|
        .ite (.ite canEnableHandler_canonical canTimingHandler_canonical) <| .ite filterHandler_canonical <|
        .ite ptpEnableHandler_canonical <| .ite wallClockHandler_canonical <| .ite removeNodeHandler_canonical <|
        .ite expectedSerialHandler_canonical <| .ite expectedPhaseHandler_canonical <|
        .ite (.ite dmaControlHandler_canonical dmaRegisterHandler_canonical) <| .ite descriptorHandler_canonical <|
        .ite captureClaimHandler_canonical <| .ite captureReleaseHandler_canonical <| .ite triggerHandler_canonical <|
        .ite (.ite pairModeHandler_canonical <|
        .ite rankHandler_canonical (.ite swapHandler_canonical plainHandler_canonical)) <|
        .ite (.ite armHandler_canonical (.ite transitionHandler_canonical plainHandler_canonical)) <|
        .ite administratorHandler_canonical <| .ite publicItemHandler_canonical <|
        .ite (.ite keyValueHandler_canonical <|
        .ite keyGenerateHandler_canonical (.ite keyDeleteHandler_canonical keyTypeHandler_canonical)) <|
        .ite (.ite imageStageHandler_canonical (.ite discardHandler_canonical fallBackHandler_canonical)) <|
        .ite activateHandler_canonical <|
        .ite (.ite commitHandler_canonical (.ite restoreHandler_canonical plainHandler_canonical)) plainHandler_canonical

theorem handlerPower_canonical {idx sub} : (handlerPower idx sub).Canonical := by
  unfold handlerPower
  refine .ite ?_ ?_
  · split
    · exact legEnableHandler_canonical
    · exact inductanceHandler_canonical
    · exact legTempHandler_canonical
    · exact legTempHandler_canonical
    · exact legTempHandler_canonical
    · exact legResetHandler_canonical
    · exact plainHandler_canonical
  · refine .ite (.ite legCaptureHandler_canonical plainHandler_canonical) ?_
    refine .ite ?_ ?_
    · split
      · exact ringConfigHandler_canonical
      · exact isolationHandler_canonical
      · exact brickCaptureHandler_canonical
      · exact plainHandler_canonical
    · refine .ite (.ite cardParamHandler_canonical (.ite shedHandler_canonical plainHandler_canonical)) ?_
      refine .ite ?_ ?_
      · extract_lets
        refine .ite ?_ ?_
        · split
          · exact sourceHandler_canonical
          · exact commandHandler_canonical
          · exact commandHandler_canonical
          · exact railOwnHandler_canonical
          · exact railOwnHandler_canonical
          · exact currentTargetHandler_canonical
          · exact modeHandler_canonical
          · exact railStartHandler_canonical
          · exact railStopHandler_canonical
          · exact railIsolationHandler_canonical
          · exact plainHandler_canonical
        · refine .ite ?_ plainHandler_canonical
          split
          · exact maskHandler_canonical
          · exact railOwnHandler_canonical
          · exact railOwnHandler_canonical
          · exact ratioHandler_canonical
          · exact plainHandler_canonical
      · refine .ite ?_ (.ite (.ite injSetHandler_canonical <| .ite (.ite injSetHandler_canonical <|
            .ite injStartHandler_canonical (.ite injStopHandler_canonical plainHandler_canonical))
            plainHandler_canonical) <| .ite ringConfigHandler_canonical <| .ite ringMaskHandler_canonical <|
            .ite (.ite contactorTestHandler_canonical (.ite clearTieHandler_canonical clearFaultHandler_canonical)) <|
            .ite layoutHoldHandler_canonical <|
            .ite gridLimitHandler_canonical (.ite replanHandler_canonical plainHandler_canonical))
        refine .ite formatHandler_canonical ?_
        refine .ite coefHandler_canonical ?_
        refine .ite (.ite coefHandler_canonical (.ite followResetHandler_canonical plainHandler_canonical)) ?_
        refine .ite ?_ (.ite (.ite genLimitHandler_canonical <| .ite genTargetHandler_canonical <|
            .ite genStartHandler_canonical (.ite genHostHandler_canonical plainHandler_canonical)) plainHandler_canonical)
        split
        · exact thermalSourceHandler_canonical
        · exact coefHandler_canonical
        · exact coefHandler_canonical
        · exact thermalOutputHandler_canonical
        · exact thermalDutyHandler_canonical
        · exact thermalDutyHandler_canonical
        · exact plainHandler_canonical

theorem handlerField_canonical {idx sub} : (handlerField idx sub).Canonical := by
  unfold handlerField
  refine .ite (.ite outletConfigHandler_canonical <| .ite (.ite insulationHandler_canonical plainHandler_canonical) <|
      .ite (.ite outletStopHandler_canonical (.ite outletServiceHandler_canonical outletResetHandler_canonical))
      plainHandler_canonical) ?_
  refine .ite priorityHandler_canonical ?_
  refine .ite authorizationHandler_canonical ?_
  refine .ite (.ite pumpHandler_canonical (.ite pinTempHandler_canonical plainHandler_canonical)) ?_
  refine .ite windowHandler_canonical ?_
  refine .ite (.ite pairHandler_canonical (.ite plainHandler_canonical sealHandler_canonical)) ?_
  refine .ite pulseHandler_canonical ?_
  refine .ite (.ite restartHandler_canonical lockedHandler_canonical) ?_
  refine .ite safetyResetHandler_canonical ?_
  refine .ite passwordHandler_canonical ?_
  refine .ite transactionHandler_canonical ?_
  refine .ite expectedCrcHandler_canonical ?_
  refine .ite ?_ (.ite loadCommandHandler_canonical <| .ite pwmHandler_canonical <| .ite clearHandler_canonical <|
      .ite permitHandler_canonical <| .ite forcedHandler_canonical <|
      .ite limpMapHandler_canonical (.ite generalInputHandler_canonical plainHandler_canonical))
  split
  · exact .ite safeHandler_canonical lockedHandler_canonical
  · exact lockedHandler_canonical

theorem handlerOf_canonical {idx sub} : (handlerOf idx sub).Canonical :=
    .ite handlerSite_canonical (.ite handlerPower_canonical handlerField_canonical)

/-! What a read of an entry returns (R367, R370): the register file's value, or, for an entry that reports state held elsewhere
in the model, that state. -/

theorem readValue_canonical {idx sub} (h : d.canonical) : (readValue idx sub d).2.canonical := by
  unfold readValue
  split
  · split
    · rename_i d1 e1
      have h1 := snd_canonical e1 (freeNat_canonical h)
      exact h1
  · exact h

/-! The dictionary server: the checks of a request in their order (R367, R498), reads and writes, segmented transfers (R371 to
R373), subscriptions and publications (R382 to R385), and the journey of a request (R29, R365 to R370). -/

theorem markUnsaved_canonical {idx sub r} (h : d.canonical) : (markUnsaved idx sub r d).canonical := by
  unfold markUnsaved
  refine ite_canonical ?_ h
  split
  · exact markStore_canonical h
  · exact h

theorem accept_canonical {c r} (h : d.canonical) : (accept c r d).canonical :=
  markUnsaved_canonical (handlerOf_canonical.act (ite_canonical (setNum_canonical h) h))

theorem refuse_canonical {c r code} (h : d.canonical) : (refuse c r code d).canonical :=
  handlerOf_canonical.refused (ite_canonical (setNum_canonical h) h)

theorem writeValue_canonical {session idx sub r b} (h : d.canonical) : (writeValue session idx sub r b d).1.canonical := by
  unfold writeValue
  extract_lets
  split
  · exact h
  · split
    · exact refuse_canonical h
    · exact accept_canonical h

theorem writeAnswer_canonical {x : Dev × Option ℕ} (h : x.1.canonical) : (writeAnswer x).1.canonical := by
  unfold writeAnswer
  split <;> exact h

theorem writeService_canonical {session idx sub b} (h : d.canonical) : (writeService session idx sub b d).1.canonical := by
  unfold writeService
  split
  · exact h
  · split
    · exact h
    · exact writeAnswer_canonical (writeValue_canonical h)

theorem readService_canonical {can session idx sub} (h : d.canonical) : (readService can session idx sub d).1.canonical := by
  unfold readService
  extract_lets p1
  have h1 : p1.2.canonical := readValue_canonical h
  split
  · exact h
  · exact ite_fst_canonical h1 h1

theorem setTransfer_canonical {n t} (h : d.canonical) : (setTransfer n t d).canonical := onSlot_canonical h

theorem readStart_canonical {n idx sub} (h : d.canonical) : (readStart n idx sub d).1.canonical := by
  unfold readStart
  extract_lets p1
  have h1 : p1.2.canonical := readValue_canonical h
  split
  · exact h
  · exact ite_fst_canonical h (ite_fst_canonical h (ite_fst_canonical h (setTransfer_canonical h1)))

theorem writeStart_canonical {n idx sub b} (h : d.canonical) : (writeStart n idx sub b d).1.canonical := by
  unfold writeStart
  extract_lets
  split
  · exact h
  · split
    · exact h
    · refine ite_fst_canonical h ?_
      split
      · exact h
      · split
        · rename_i d1 e1
          have h1 := snd_canonical e1 (freeNat_canonical h)
          exact ite_fst_canonical h1 (ite_fst_canonical h1 (setTransfer_canonical h1))

theorem badSegment_canonical {n} (h : d.canonical) : (badSegment n d).1.canonical := setTransfer_canonical h
theorem noTransfer_canonical {n} (h : d.canonical) : (noTransfer n d).1.canonical := ite_fst_canonical (setTransfer_canonical h) h

theorem readSegmentService_canonical {can n idx sub b} (h : d.canonical) :
    (readSegmentService can n idx sub b d).1.canonical := by
  unfold readSegmentService
  extract_lets
  split
  · exact noTransfer_canonical h
  · refine ite_fst_canonical (badSegment_canonical h) ?_
    extract_lets _ _ d1 _
    have h1 : d1.canonical := setTransfer_canonical h
    exact (ite_canonical (enqueue_canonical h1) h1)

theorem writeSegmentService_canonical {n idx sub flags b} (h : d.canonical) :
    (writeSegmentService n idx sub flags b d).1.canonical := by
  unfold writeSegmentService
  extract_lets
  split
  · exact noTransfer_canonical h
  · extract_lets
    refine ite_fst_canonical (badSegment_canonical h) ?_
    refine ite_fst_canonical ?_ (setTransfer_canonical h)
    split
    · exact setTransfer_canonical h
    · split
      · exact setTransfer_canonical h
      · exact writeAnswer_canonical (writeValue_canonical (setTransfer_canonical h))

theorem subscribeService_canonical {conn session b} (h : d.canonical) : (subscribeService conn session b d).1.canonical := by
  unfold subscribeService
  extract_lets
  split
  · exact h
  · split
    · exact h
    · exact ite_fst_canonical h (ite_fst_canonical h (onSite_canonical h))

theorem unsubscribeService_canonical {session b} (h : d.canonical) : (unsubscribeService session b d).1.canonical := by
  unfold unsubscribeService
  split
  · exact onSite_canonical h
  · exact h

theorem sample_canonical {keys} (h : d.canonical) : (sample keys d).2.canonical := by
  unfold sample
  refine List.foldlRecOn (motive := fun x : _ × Dev => x.2.canonical) _ _ h fun _ h1 _ _ => ?_
  extract_lets
  split
  · exact (readValue_canonical h1)
  · exact h1

theorem publish_canonical {n} (h : d.canonical) : (publish n d).canonical := by
  unfold publish
  split
  · exact h
  · extract_lets _ _ _ _ d1 _ _ _ d2
    have h1 : d1.canonical := onSite_canonical (reach_canonical h)
    have h2 : d2.canonical := foldl_canonical (sample_canonical h1) fun _ _ h3 => enqueue_canonical h3
    split
    · exact h1
    · split
      · exact h1
      · exact ite_canonical (bump_canonical h1) (deliver_canonical (onSlot_canonical h2))

theorem entryService_canonical {can n m} (h : d.canonical) : (entryService can n m d).1.canonical := by
  unfold entryService
  extract_lets
  split
  · exact readService_canonical h
  · exact writeService_canonical h
  · exact readStart_canonical h
  · exact readSegmentService_canonical h
  · exact writeStart_canonical h
  · exact writeSegmentService_canonical h
  · exact h

theorem groupAnswer_canonical {x : Dev × Except ℕ (List Byte)} (h : x.1.canonical) : (groupAnswer x).1.canonical := h

theorem perform_canonical {conn n m} (h : d.canonical) : (perform conn n m d).1.canonical := by
  unfold perform
  extract_lets
  refine ite_fst_canonical (ite_fst_canonical h (entryService_canonical h)) ?_
  split
  · exact h
  · exact h
  · exact setTransfer_canonical h
  · exact groupAnswer_canonical (hostGroup_canonical h)
  · exact groupAnswer_canonical (hostGroup_canonical h)
  · exact groupAnswer_canonical (hostGroup_canonical h)
  · exact subscribeService_canonical h
  · exact unsubscribeService_canonical h
  · exact h

theorem enqueueDict_canonical {l type q m} (h : d.canonical) : (enqueueDict l type q m d).canonical := enqueue_canonical h

theorem respond_canonical {n conn m} (h : d.canonical) : (respond n conn m d).canonical :=
  ite_canonical (deliver_canonical (onSlot_canonical h)) h

theorem note_canonical {n m} (h : d.canonical) : (note n m d).canonical := onSlot_canonical h
theorem passAcross_canonical {n m} (h : d.canonical) : (passAcross n m d).canonical := enqueueDict_canonical (onSlot_canonical h)

theorem answered_canonical {n conn m} {x : Dev × Answer} (h : x.1.canonical) : (answered n conn m x).canonical :=
  respond_canonical h

theorem serveNew_canonical {n conn m} (h : d.canonical) : (serveNew n conn m d).canonical := by
  unfold serveNew
  refine ite_canonical (respond_canonical (bump_canonical (note_canonical h))) ?_
  exact ite_canonical (closeSession_canonical (respond_canonical (note_canonical h))) <|
      ite_canonical (passAcross_canonical (note_canonical h)) (answered_canonical (perform_canonical (note_canonical h)))

theorem serveMsg_canonical {conn m} (h : d.canonical) : (serveMsg conn m d).canonical := by
  unfold serveMsg
  refine ite_canonical ?_ ?_
  · split
    · exact bump_canonical h
    · exact h
  · refine ite_canonical (deliver_canonical (onSite_canonical h)) ?_
    extract_lets d1
    have h1 : d1.canonical := deliver_canonical (onSite_canonical h)
    split
    · exact h1
    · refine ite_canonical h1 ?_
      extract_lets d2
      have h2 : d2.canonical := onSlot_canonical h
      refine ite_canonical ?_ (serveNew_canonical h2)
      split
      · exact deliver_canonical (bump_canonical h2)
      · exact h2

theorem serve_canonical {service idx sub a} (h : d.canonical) : (serve service idx sub a d).canonical := by
  unfold serve
  refine ite_canonical h ?_
  extract_lets
  refine ite_canonical ?_ (serveMsg_canonical (takeRequest_canonical h))
  split
  · exact bump_canonical h
  · exact h

theorem portService_canonical {can n q} (h : d.canonical) : (portService can n q d).1.canonical :=
  ite_fst_canonical (ite_fst_canonical (groupAnswer_canonical (groupService_canonical h)) h) (ite_fst_canonical h
      (entryService_canonical h))

theorem atPort_canonical {n q} (h : d.canonical) : (atPort n q d).canonical := by
  unfold atPort
  split
  · exact h
  · exact enqueueDict_canonical (portService_canonical h)

theorem portWrite_canonical {idx sub a} (h : d.canonical) : (portWrite idx sub a d).canonical := by
  unfold portWrite
  refine ite_canonical h ?_
  split
  · exact h
  · exact atPort_canonical h

theorem serveWrite_canonical {idx sub a} (h : d.canonical) : (serveWrite idx sub a d).canonical :=
  ite_canonical (portWrite_canonical h) (ite_canonical h (serveMsg_canonical (takeRequest_canonical h)))

theorem serveValue_canonical {idx sub n v a} (h : d.canonical) : (serveValue idx sub n v a d).canonical := serveWrite_canonical h

theorem execDictionaryRequest_canonical {m} (h : s.dev.canonical) : EndsCanonical (execDictionaryRequest m s) := by
  unfold execDictionaryRequest
  extract_lets p1
  have h1 : p1.1.canonical := receive_canonical h
  refine done_canonical ?_
  refine ite_canonical h1 ?_
  split
  · exact atPort_canonical h1
  · exact h1

theorem heardAnswer_canonical {n conn q tag} (h : d.canonical) : (heardAnswer n conn q tag d).canonical := by
  unfold heardAnswer
  refine ite_canonical h ?_
  extract_lets d1 _
  have h1 : d1.canonical := onSlot_canonical h
  exact respond_canonical (ite_canonical (groupHeard_canonical h1) h1)

theorem execDictionaryResponse_canonical {m} (h : s.dev.canonical) : EndsCanonical (execDictionaryResponse m s) := by
  unfold execDictionaryResponse
  extract_lets p1
  have h1 : p1.1.canonical := receive_canonical h
  refine done_canonical ?_
  refine ite_canonical h1 ?_
  split
  · split
    · exact heardAnswer_canonical h1
    · exact h1
  · exact h1

theorem execTransferTimeout_canonical {n} (h : s.dev.canonical) : EndsCanonical (execTransferTimeout n s) := by
  unfold execTransferTimeout
  extract_lets
  refine done_canonical ?_
  split
  · exact onSlot_canonical (notice_canonical (reach_canonical h))
  · exact h

/-! The commands. -/

/-- Every command keeps the canonical form. -/
theorem exec_canonical {i} (h : s.dev.canonical) : EndsCanonical (exec i s) := by
  cases i with
  | controlPeriod => exact done_canonical (ite_canonical (controlPeriod_canonical h) h)
  | heartbeat => exact execHeartbeat_canonical h
  | barrierLoss => exact execBarrierLoss_canonical h
  | timeMark => exact done_canonical (ite_canonical (measureRoundTrip_canonical (timeMark_canonical h)) h)
  | channelStale => exact execChannelStale_canonical h
  | referenceSwitch => exact execReferenceSwitch_canonical h
  | peerTimeTransfer => exact execPeerTimeTransfer_canonical h
  | laneNextMessage => exact done_canonical (laneNext_canonical h)
  | laneRealign => exact done_canonical (realign_canonical h)
  | dictionaryRequest => exact execDictionaryRequest_canonical h
  | dictionaryResponse => exact execDictionaryResponse_canonical h
  | sessionNotice => exact execSessionNotice_canonical h
  | ridgeFrameToSafety => exact execRidgeFrameToSafety_canonical h
  | ridgeFrameFromSafety => exact execRidgeFrameFromSafety_canonical h
  | vehicleTargetUpdate => exact execVehicleTargetUpdate_canonical h
  | outletStatus => exact execOutletStatus_canonical h
  | sitePowerData => exact execSitePowerData_canonical h
  | headData => exact execHeadData_canonical h
  | meteringRecord => exact execMeteringRecord_canonical h
  | meteringRecordAcknowledge => exact execMeteringRecordAcknowledge_canonical h
  | meteringRecordRetransmit => exact execMeteringRecordRetransmit_canonical h
  | scribeNotice => exact execScribeNotice_canonical h
  | snapshotFragment => exact execSnapshotFragment_canonical h
  | imageBlock => exact execImageBlock_canonical h
  | powerFailNotice => exact execPowerFailNotice_canonical h
  | lifeCycleNotice => exact execLifeCycleNotice_canonical h
  | event => exact execEvent_canonical h
  | contactorTravelConfirmed => exact execContactorTravelConfirmed_canonical h
  | contactorTravelFault => exact execContactorTravelFault_canonical h
  | contactDisagreement => exact execContactDisagreement_canonical h
  | contactorTest | clearFrozenTie | clearContactorTravelFault | ringConfigurationWrite | isolationRequest
      | legEnableWrite | controlSourceWrite | setpointIndexWrite | directSetpointWrite | modeRequestWrite
      | classFormatWrite | coefficientWrite | generatorTargetWrite | gridLimitWrite | layoutHoldWrite
      | authorizationResultWrite | sealRelevantWrite | sf2FaultReset | sf1FaultReset | passwordWrite | safeWrite
      | channelCommandWrite | forcedSelectWrite | externalSelectPermitWrite | limpHomeMapWrite
      | generalInputEnableWrite | pairingConfigurationWrite | wallClockWrite | removeNode | expectedSerialWrite
      | dmaChannelStart | dmaChannelRegisterWrite | descriptorWrite | transitionArm | keyValueWrite | publicItemWrite
      | imageStage =>
    exact done_canonical (serveWrite_canonical h)
  | uplinkDeadline => exact execUplinkDeadline_canonical h
  | linkHoldExpiry => exact execLinkHoldExpiry_canonical h
  | brickLinkUp => exact execBrickLinkUp_canonical h
  | legLostRecovery => exact execLegLostRecovery_canonical h
  | portDelayMeasurement => exact execPortDelayMeasurement_canonical h
  | downlinkFrameAccept => exact done_canonical (downlinkAccept_canonical h)
  | cardDownlinkDeadline => exact done_canonical (onCard_canonical h)
  | cardContactorHold => exact execCardContactorHold_canonical h
  | serviceRequest => exact done_canonical (serviceAt_canonical h)
  | fieldIslandRestart => exact execFieldIslandRestart_canonical h
  | syncInEdge => exact done_canonical (syncInEdge_canonical h)
  | syncLoss => exact execSyncLoss_canonical h
  | diodeEmulationEntry => exact execDiodeEmulationEntry_canonical h
  | shedDwellExpiry => exact done_canonical (ite_canonical (shedExpiry_canonical h) h)
  | brakingWindowEnd => exact execBrakingWindowEnd_canonical h
  | senseImplausible => exact execSenseImplausible_canonical h
  | legFaultReset | peakCapture | railStart | railStop | railIsolate | railRestore | ratiometricStart | generatorStart
      | injectionStart | injectionStop | followingErrorReset | replan | outletStop | outletOutOfService
      | outletReturnToService | outletFaultReset | pairHead | metrologyWindowOpen | metrologyWindowClose
      | safetyRestart | transactionOpen | transactionCommit | transactionAbort | channelClear | swap | reClaim
      | dmaStopRequest | captureClaim | captureRelease | snapshotTriggerCommand | transitionToField
      | transitionToReturn | transitionToDecommissioned | keyGenerate | keyDelete | discardStaged | fallBack
      | activateModule | activatePair | commit | restoreDefaults =>
    exact done_canonical (serveValue_canonical h)
  | telemetryWindowEnd => exact done_canonical (telemetryEnd_canonical h)
  | startSettleExpiry => exact execStartSettleExpiry_canonical h
  | trackingTimeout => exact done_canonical (trackingTimeout_canonical h)
  | ratiometricPauseLimit => exact done_canonical (ratioAbort_canonical h)
  | drainTimeout => exact execDrainTimeout_canonical h
  | episodePause => exact done_canonical (ite_canonical (onRail_canonical h) h)
  | railSenseLost => exact execRailSenseLost_canonical h
  | generatorStartDelayExpiry => exact execGeneratorStartDelayExpiry_canonical h
  | thermalInputStale => exact done_canonical (onThermal_canonical (reach_canonical h))
  | injectionEnd => exact done_canonical (injectionEnd_canonical h)
  | followingErrorTimer => exact execFollowingErrorTimer_canonical h
  | planningCycle => exact done_canonical (ite_canonical (planningCycle_canonical h) h)
  | planningOverrun => exact execPlanningOverrun_canonical h
  | gridLimitExpiry => exact execGridLimitExpiry_canonical h
  | frontEndStale => exact execFrontEndStale_canonical h
  | frontEndStaleHoldExpiry => exact execFrontEndStaleHoldExpiry_canonical h
  | moveStart => exact done_canonical (ite_canonical (moveStart_canonical h) h)
  | handoverEnd => exact done_canonical (handoverEnd_canonical h)
  | handoverTimeout => exact execHandoverTimeout_canonical h
  | openWaitLimit => exact execOpenWaitLimit_canonical h
  | restoreWaitLimit => exact execRestoreWaitLimit_canonical h
  | releaseHoldExpiry => exact execReleaseHoldExpiry_canonical h
  | connectionDetected => exact execConnectionDetected_canonical h
  | unplugDetected => exact execUnplugDetected_canonical h
  | plugTimeout => exact execPlugTimeout_canonical h
  | targetTimeout => exact execTargetTimeout_canonical h
  | authorizationTimeout => exact execAuthorizationTimeout_canonical h
  | vehicleMessage => exact done_canonical (ite_canonical (vehicleMessage_canonical h) h)
  | cableCheckRailReady => exact execCableCheckRailReady_canonical h
  | imdSettleExpiry => exact execImdSettleExpiry_canonical h
  | cableCheckTimeout => exact execCableCheckTimeout_canonical h
  | cableShort => exact execCableShort_canonical h
  | imdReading => exact done_canonical (imdReading_canonical h)
  | imdAgeExpiry => exact execImdAgeExpiry_canonical h
  | directionChangeComplete => exact execDirectionChangeComplete_canonical h
  | fastStopEnd => exact execFastStopEnd_canonical h
  | outletContactorOpen => exact execOutletContactorOpen_canonical h
  | faultedRailStop => exact execFaultedRailStop_canonical h
  | winddownTimeout => exact execWinddownTimeout_canonical h
  | weldCheckPass => exact execWeldCheckPass_canonical h
  | cableDischargeExpiry => exact execCableDischargeExpiry_canonical h
  | headStale => exact execHeadStale_canonical h
  | deratingUpdate => exact execDeratingUpdate_canonical h
  | flowFault => exact execFlowFault_canonical h
  | flowFaultClear => exact execFlowFaultClear_canonical h
  | runOnExpiry => exact execRunOnExpiry_canonical h
  | meteringUplinkFrame => exact execMeteringUplinkFrame_canonical h
  | meteringDownlinkFrame => exact execMeteringDownlinkFrame_canonical h
  | meteringIntervalEnd => exact execMeteringIntervalEnd_canonical h
  | pulseBacklogIssue => exact execPulseBacklogIssue_canonical h
  | testPulseEdge => exact execTestPulseEdge_canonical h
  | meteringLinkDown => exact execMeteringLinkDown_canonical h
  | meteringLinkUp => exact execMeteringLinkUp_canonical h
  | outletStatusCopy => exact execOutletStatusCopy_canonical h
  | meteringSessionOpen => exact execMeteringSessionOpen_canonical h
  | meteringSessionClose => exact execMeteringSessionClose_canonical h
  | recordSigned => exact execRecordSigned_canonical h
  | lateStartWitness => exact execLateStartWitness_canonical h
  | metrologyRestartContinuation => exact execMetrologyRestartContinuation_canonical h
  | periodicSave => exact execPeriodicSave_canonical h
  | finalWriteStart => exact execFinalWriteStart_canonical h
  | metrologyStartClose => exact execMetrologyStartClose_canonical h
  | metrologyWindowExpiry => exact execMetrologyWindowExpiry_canonical h
  | safetyCycle => exact execSafetyCycle_canonical h
  | safetyInputSample => exact execSafetyInputSample_canonical h
  | discrepancyTimeout => exact execDiscrepancyTimeout_canonical h
  | darkPulseTest => exact execDarkPulseTest_canonical h
  | darkPulseTimeout => exact execDarkPulseTimeout_canonical h
  | chargePumpTimeout => exact done_canonical (onCore_canonical (reach_canonical h))
  | coreDisagreement => exact execCoreDisagreement_canonical h
  | safetySelfTestComplete => exact execSafetySelfTestComplete_canonical h
  | currentWaitTimeout => exact execCurrentWaitTimeout_canonical h
  | feedbackTimerEnd => exact execFeedbackTimerEnd_canonical h
  | safetyFeed => exact done_canonical (ite_canonical (safetyFeed_canonical h) h)
  | ridgeWatchdog => exact execRidgeWatchdog_canonical h
  | ridgeFaultRecovery => exact execRidgeFaultRecovery_canonical h
  | ridgeAcknowledge => exact execRidgeAcknowledge_canonical h
  | ridgeProducerWatchdog => exact execRidgeProducerWatchdog_canonical h
  | passwordHoldExpiry => exact execPasswordHoldExpiry_canonical h
  | transactionTimeout => exact execTransactionTimeout_canonical h
  | lockoutExpiry => exact execLockoutExpiry_canonical h
  | loadCommandTransfer => exact execLoadCommandTransfer_canonical h
  | wireModelUpdate => exact execWireModelUpdate_canonical h
  | shortCircuitTrip => exact done_canonical (ite_canonical (tripChannel_canonical h) h)
  | retryDelayExpiry => exact execRetryDelayExpiry_canonical h
  | retryResetExpiry => exact execRetryResetExpiry_canonical h
  | junctionLatch => exact execJunctionLatch_canonical h
  | clampEvent => exact execClampEvent_canonical h
  | senseScanStep => exact execSenseScanStep_canonical h
  | extselChange => exact execExtselChange_canonical h
  | limpNChange => exact execLimpNChange_canonical h
  | lhInChange => exact execLhInChange_canonical h
  | loadCommandStale => exact execLoadCommandStale_canonical h
  | orphanTimeout => exact execOrphanTimeout_canonical h
  | dissipationEstimate => exact execDissipationEstimate_canonical h
  | openLoadDetection => exact execOpenLoadDetection_canonical h
  | loadSupplyLow => exact execLoadSupplyLow_canonical h
  | loadSupplyReturn => exact execLoadSupplyReturn_canonical h
  | dowelRenewalSend => exact execDowelRenewalSend_canonical h
  | dowelRenewal => exact execDowelRenewal_canonical h
  | leaseExpiry => exact execLeaseExpiry_canonical h
  | bidGuardExpiry => exact execBidGuardExpiry_canonical h
  | bid => exact execBid_canonical h
  | bidAnswer => exact execBidAnswer_canonical h
  | bidWaitExpiry => exact execBidWaitExpiry_canonical h
  | leaseSupportLost => exact execLeaseSupportLost_canonical h
  | holderLeaseEnd => exact execHolderLeaseEnd_canonical h
  | yield => exact execYield_canonical h
  | yieldAcknowledge => exact execYieldAcknowledge_canonical h
  | yieldAckTimeout => exact execYieldAckTimeout_canonical h
  | swapBoundary => exact execSwapBoundary_canonical h
  | mirrorBlock => exact execMirrorBlock_canonical h
  | peerStatus => exact execPeerStatus_canonical h
  | peerPortUp => exact done_canonical (ite_canonical (onPair_canonical h) h)
  | peerPortDown => exact execPeerPortDown_canonical h
  | bulkRequest => exact execBulkRequest_canonical h
  | bulkData => exact execBulkData_canonical h
  | resynchronisation => exact execResynchronisation_canonical h
  | resyncTimeout => exact execResyncTimeout_canonical h
  | inStepGained => exact execInStepGained_canonical h
  | inStepLost => exact execInStepLost_canonical h
  | switchOverTargetHoldExpiry => exact execSwitchOverTargetHoldExpiry_canonical h
  | canFrameReceived => exact done_canonical (canReceive_canonical h)
  | canFrameTransmitted => exact execCanFrameTransmitted_canonical h
  | stagingAdmission => exact done_canonical (stagingAdmission_canonical h)
  | busOff => exact done_canonical <| ite_canonical (raise1_canonical (bump_canonical (onCan_canonical h))) h
  | busOffRecovery => exact execBusOffRecovery_canonical h
  | canHeartbeat => exact execCanHeartbeat_canonical h
  | addrInHigh => exact execAddrInHigh_canonical h
  | addressListenExpiry => exact execAddressListenExpiry_canonical h
  | claimListenExpiry => exact execClaimListenExpiry_canonical h
  | addressClaim => exact execAddressClaim_canonical h
  | claimRetryDelay => exact execClaimRetryDelay_canonical h
  | frontEndStatus => exact execFrontEndStatus_canonical h
  | imdReadingFrame => exact execImdReadingFrame_canonical h
  | imdCommand => exact execImdCommand_canonical h
  | openSession => exact done_canonical (ite_canonical (sessionOpen_canonical (takeRequest_canonical h)) h)
  | closeSession | keepAlive | read | write | readSegmentedStart | readSegment | writeSegmentedStart | writeSegment
      | transferAbandon | claimGroup | releaseGroup | queryOwner | subscribe | unsubscribe =>
    exact done_canonical (serve_canonical h)
  | transferTimeout => exact execTransferTimeout_canonical h
  | publication => exact done_canonical (publish_canonical h)
  | sessionTimeout => exact execSessionTimeout_canonical h
  | usbChallengeExpiry => exact execUsbChallengeExpiry_canonical h
  | tlsConnection => exact execTlsConnection_canonical h
  | tlsHandshakeTimeout => exact execTlsHandshakeTimeout_canonical h
  | tlsIdleTimeout => exact execTlsIdleTimeout_canonical h
  | ptpSync => exact done_canonical (ite_canonical (ptpSync_canonical h) h)
  | ptpSyncLoss => exact execPtpSyncLoss_canonical h
  | wallClockOffsetSend => exact execWallClockOffsetSend_canonical h
  | eavelineCycle => exact execEavelineCycle_canonical h
  | cycleHeader => exact execCycleHeader_canonical h
  | controlBlock => exact execControlBlock_canonical h
  | dataBlock => exact execDataBlock_canonical h
  | messageReassemblyTimeout => exact execMessageReassemblyTimeout_canonical h
  | robustStepUp => exact execRobustStepUp_canonical h
  | stepUpCountReset => exact execStepUpCountReset_canonical h
  | layoutSwitch => exact execLayoutSwitch_canonical h
  | admissionAnswer => exact execAdmissionAnswer_canonical h
  | nodeRefusedRetry => exact execNodeRefusedRetry_canonical h
  | nodeLost => exact execNodeLost_canonical h
  | nodePreambleLoss => exact execNodePreambleLoss_canonical h
  | zeroCrossingReport => exact done_canonical (ite_canonical (zeroReport_canonical h) h)
  | mainsRefCrossing => exact execMainsRefCrossing_canonical h
  | eavelineStateSync => exact execEavelineStateSync_canonical h
  | eavelineMasterTake => exact execEavelineMasterTake_canonical h
  | dmaDescriptorEnd => exact done_canonical (descriptorEnd_canonical h)
  | snapInEdge => exact execSnapInEdge_canonical h
  | partnerScribeTrigger => exact execPartnerScribeTrigger_canonical h
  | snapshotFieldStore => exact done_canonical (fieldStore_canonical h)
  | snapshotSetValid => exact execSnapshotSetValid_canonical h
  | eventRaised => exact done_canonical (ite_canonical (raise_canonical h) h)
  | eventQueueRoom => exact execEventQueueRoom_canonical h
  | eventLogFlush => exact execEventLogFlush_canonical h
  | factoryTransition => exact execFactoryTransition_canonical h
  | keySlotLoad => exact execKeySlotLoad_canonical h
  | keySlotWaitTimeout => exact execKeySlotWaitTimeout_canonical h
  | fxWinddownEnd => exact execFxWinddownEnd_canonical h
  | bootCheck => exact execBootCheck_canonical h
  | trialConfirm => exact execTrialConfirm_canonical h
  | confirmTimeout => exact execConfirmTimeout_canonical h
  | autoCommit => exact execAutoCommit_canonical h
  | leafWriteComplete => exact execLeafWriteComplete_canonical h
  | fieldPowerFailWarning => exact done_canonical (fieldWarning_canonical h)
  | fieldSequenceEnd => exact execFieldSequenceEnd_canonical h
  | hostPowerFailWarning => exact done_canonical (hostWarning_canonical h)
  | fieldPowerUp => exact execFieldPowerUp_canonical h
  | hostPowerUp => exact execHostPowerUp_canonical h
  | holdupCharged => exact execHoldupCharged_canonical h
  | domainStartFailed => exact execDomainStartFailed_canonical h
  | supplyRedundancyLost => exact execSupplyRedundancyLost_canonical h
  | supplyRedundancyRestored => exact execSupplyRedundancyRestored_canonical h
  | holdupTest => exact execHoldupTest_canonical h
  | coldPlateRead => exact execColdPlateRead_canonical h
  | overTemperatureShutdown => exact execOverTemperatureShutdown_canonical h
  | overTemperatureRestart => exact execOverTemperatureRestart_canonical h
  | partnerWaitExpiry => exact execPartnerWaitExpiry_canonical h
  | islandWatchdogReset => exact execIslandWatchdogReset_canonical h
  | holdoverLimit => exact execHoldoverLimit_canonical h
  | imageStatus => exact execImageStatus_canonical h
  | ethernetLinkChange => exact execEthernetLinkChange_canonical h
  | commitSpacingExpiry => exact execCommitSpacingExpiry_canonical h
theorem step_canonical {t} (h : s.dev.canonical) (e : step s = .next t) : t.dev.canonical := by
  unfold step at e
  split at e
  · cases e
    exact h
  · rename_i c rest _
    exact @exec_canonical { s with pending := rest } c h t e

/-- Settles O4: every command keeps the canonical form, since every operation that it is made of does. -/
theorem everyStepKeepsCanonicalForm : Obligations.EveryStepKeepsCanonicalForm :=
  fun _ _ => step_canonical

/-- Settles O3: an empty register file lists nothing, so that every entry reads as its default. -/
theorem resetState : Obligations.ResetState :=
  ⟨fun i => tab_get _ i, fun _ => rfl, rfl, by decide, by decide, rfl, by decide, by decide⟩

end Sys2Proof.Machine
end

section
/-! What an event leaves of the module, and how what a command gives is read off the device that it is done with. -/
namespace Sys2Proof.Machine
variable {d : Dev}

/-! Entries counted, and what an event leaves of the module. -/

theorem getVal_bump_other {x y k : Nat} (h : k ≠ key x y) : getVal (bump x y d) k = getVal d k := getVal_setVal_other d _ _ _ h
@[simp] theorem num_bump_same (x y : Nat) : num (bump x y d) x y = num d x y + 1 := num_setNum_same d x y _

/-- The groups of entries that events write to are those of chapter 14. -/
theorem getVal_bump_of_group {x y k : Nat} (hk : k / 65536 ≠ 0x19) (hx : key x y / 65536 = 0x19) : getVal (bump x y d) k = getVal d k :=
  getVal_bump_other fun e => hk (e ▸ hx)

theorem getVal_of_regs {e : Dev} (h : e.regs = d.regs) (k : Nat) : getVal e k = getVal d k := by simp [getVal, h]

@[simp] theorem enqueue_regs (l : Lane) (m : TenonOut) : (enqueue l m d).regs = d.regs := onLane_regs ..

theorem getVal_logAppend {b : List Byte} {k : Nat} (hk : k / 65536 ≠ 0x19) : getVal (logAppend b d) k = getVal d k := by
  unfold logAppend
  extract_lets _ _ full counted
  have kept : getVal counted k = getVal d k := by
    unfold counted
    split
    · exact getVal_bump_of_group hk rfl
    · rfl
  exact kept

theorem getVal_fireTrigger {a b c e k : Nat} (hk : k / 65536 ≠ 0x19) : getVal (fireTrigger a b c e d).1 k = getVal d k := by
  unfold fireTrigger
  split
  · extract_lets counted
    have kept : getVal counted k = getVal d k := getVal_bump_of_group hk rfl
    split <;> exact kept
  · split
    · exact getVal_bump_of_group hk rfl
    · exact getVal_of_regs (enqueue_regs ..) k

theorem getVal_raise {i : Fin 8} {x : EventName} {b : List Byte} {k : Nat} (hk : k / 65536 ≠ 0x19) :
    getVal (raise i x b d) k = getVal d k := by
  unfold raise
  extract_lets _ _ written
  have kept : getVal written k = getVal d k := by
    unfold written
    split
    · exact getVal_logAppend hk
    · split
      · rfl
      · exact getVal_bump_of_group hk rfl
  split
  · split
    · exact (getVal_fireTrigger hk).trans kept
    · exact kept
  · exact kept

theorem num_raise {i : Fin 8} {x : EventName} {b : List Byte} {idx sub : Nat} (h : key idx sub / 65536 ≠ 0x19) :
    num (raise i x b d) idx sub = num d idx sub := congrArg intOf (getVal_raise h)

section
variable (i : Fin 8) (x : EventName) (b : List Byte) (n : Nat)

@[simp] theorem raise_time : (raise i x b d).time = d.time := by obtain ⟨_, _, _, _, h⟩ := raise_frame i x b d; rw [h]
@[simp] theorem raise_isl : (raise i x b d).isl = d.isl := by obtain ⟨_, _, _, _, h⟩ := raise_frame i x b d; rw [h]
@[simp] theorem raise_chan : (raise i x b d).chan = d.chan := by obtain ⟨_, _, _, _, h⟩ := raise_frame i x b d; rw [h]
@[simp] theorem raise_eng : (raise i x b d).eng = d.eng := by obtain ⟨_, _, _, _, h⟩ := raise_frame i x b d; rw [h]
@[simp] theorem raise_safety : (raise i x b d).safety = d.safety := by obtain ⟨_, _, _, _, h⟩ := raise_frame i x b d; rw [h]
@[simp] theorem raise_load : (raise i x b d).load = d.load := by obtain ⟨_, _, _, _, h⟩ := raise_frame i x b d; rw [h]
end

/-! What a command gives. -/

/-- What a command gives is told of the device that it is done with, at the instant of the state or later. -/
theorem gives_iff_of_done {c : Instr} {s : State} {P : Dev → Prop} (h : exec c s = done s d) :
    Gives c s P ↔ P (reach s.dev.time.now d) := by
  constructor
  · rintro ⟨t, ran, -, holds⟩
    obtain rfl : _ = t := Host.Outcome.next.inj (h.symm.trans ran)
    exact holds
  · exact fun holds => ⟨_, h, rfl, holds⟩

@[simp] theorem reach_now (t : Nat) : (reach t d).time.now = max d.time.now t := rfl

/-- An instant that has passed is reached already. -/
theorem reach_of_le {t : Nat} (h : t ≤ d.time.now) : reach t d = d := by simp [reach, h]

/-- Where the work of a command takes no instant back, what it gives is told of its work. -/
theorem gives_of_done {c : Instr} {s : State} {P : Dev → Prop} (h : exec c s = done s d) (later : s.dev.time.now ≤ d.time.now)
    (holds : P d) : Gives c s P := (gives_iff_of_done h).2 (by rwa [reach_of_le later])

/-- A command that is done with the device as it was rests. -/
theorem rests_of_done {c : Instr} {s : State} (h : exec c s = done s s.dev) : Claims.Rests c s := by
  rw [Claims.Rests, h, done, reach_of_le le_rfl]

end Sys2Proof.Machine
end

section
/-! The time base, its marks and its channels (chapter 1, R11 to R17; R274, R389). -/
namespace Sys2Proof.Machine
variable {d : Dev}

/-! Time marks (R14, R16). -/

theorem clamp_one_of_abs_le {x : Int} (h : |x| ≤ 1) : clamp (-1) 1 x = x := by
  rw [abs_le] at h
  unfold clamp
  omega

theorem abs_clamp_one_le (x : Int) : |clamp (-1) 1 x| ≤ 1 := by
  rw [abs_le]
  unfold clamp
  omega

/-- What a copy stands off the master after a mark. -/
def markedError (i : Fin 8) (x : Int) (d : Dev) : Int :=
  if d.time.marked[i] < d.time.now then
    copyError i d + clamp (-1) 1 ((if -10 ≤ x ∧ x ≤ 10 then 0 else x.tdiv 10) - copyError i d)
  else copyError i d

theorem markedError_step (i : Fin 8) (x : Int) : |markedError i x d - copyError i d| ≤ 1 := by
  unfold markedError
  split
  · rw [add_sub_cancel_left]
    exact abs_clamp_one_le _
  · simp

theorem markedError_of_small {i : Fin 8} {x : Int} (new : d.time.marked[i] < d.time.now) (lo : -10 ≤ x) (hi : x ≤ 10)
    (small : |copyError i d| ≤ 1) : markedError i x d = 0 := by
  rw [markedError, if_pos new, if_pos ⟨lo, hi⟩, clamp_one_of_abs_le (by simpa using small)]
  ring

/-- A mark changes the time base as R14 and R16 say, the mark's channel, and draws a free value. -/
theorem timeMark_eq {i : Fin 8} (x : Int) (h : i ≠ 7) : ∃ (w : W32) (v : Vector Chan 14), timeMark i x d = { d with
      time := { d.time with
        offset := upd d.time.offset i (fun _ => x), error := upd d.time.error i (fun _ => markedError i x d),
        marked := upd d.time.marked i (fun _ => d.time.now), increment := upd d.time.increment i (fun _ => w),
        holdover := upd d.time.holdover i (fun _ => false), flagged := upd d.time.flagged i (fun _ => false) }
      chan := v, freeCount := d.freeCount + 1 }
    ∧ ∀ ch, markChannel i = some ch → (v[chanIdx ch]).stale = false := by
  unfold timeMark
  rw [if_neg h]
  cases markChannel i with
  | none => exact ⟨_, d.chan, rfl, by simp⟩
  | some ch =>
    refine ⟨_, upd d.chan (chanIdx ch) fun _ => ⟨d.time.now, false⟩, rfl, ?_⟩
    rintro _ ⟨⟩
    rw [upd_get_same]

/-- A mark does not move the instant, and of the register file the round trip alone. -/
theorem measureRoundTrip_eq (i : Fin 8) : ∃ r n, measureRoundTrip i d = { d with regs := r, freeCount := n } := by
  unfold measureRoundTrip
  split <;> exact ⟨_, _, rfl⟩

theorem timeMark_holds : Claims.timeMark := by
  intro i x s
  refine ⟨fun h7 running => ?_, fun h0 running => ?_, fun rests => rests_of_done ?_⟩
  · obtain ⟨w, v, marked, fresh⟩ := timeMark_eq (d := s.dev) x h7
    obtain ⟨r, n, measured⟩ := measureRoundTrip_eq (d := timeMark i x s.dev) i
    have work : exec (.timeMark i x) s = done s (measureRoundTrip i (timeMark i x s.dev)) := by simp [exec, execTimeMark, running]
    refine gives_of_done work ?_ ?_ <;> rw [measured, marked]
    refine ⟨upd_get_same .., ?_, fun new lo hi small => ?_, upd_get_same .., upd_get_same .., fresh, rfl⟩
    · rw [upd_get_same]
      exact markedError_step i x
    · rw [upd_get_same]
      exact markedError_of_small new lo hi small
  · subst h0
    have work : exec (.timeMark 0 x) s = done s (measureRoundTrip 0 (timeMark 0 x s.dev)) := by simp [exec, execTimeMark, running]
    refine (gives_iff_of_done work).2 ?_
    change 0 ≤ num (setNum 0x1042 0x09 _ _) 0x1042 0x09 ∧ num (setNum 0x1042 0x09 _ _) 0x1042 0x09 ≤ 2000
    rw [num_setNum_same]
    omega
  · obtain rfl | down := rests
    · simp [exec, execTimeMark, measureRoundTrip, timeMark]
    · simp [exec, execTimeMark, down]

/-! Holdover (R16, Table 1.4). -/

theorem enterHoldover_eq (i : Fin 8) (t : Nat) : ∃ h f, enterHoldover i t d = { d with time := { d.time with holdover := h, holdoverFrom := f } } := by
  unfold enterHoldover
  split <;> exact ⟨_, _, rfl⟩

@[simp] theorem enterHoldover_now (i : Fin 8) (t : Nat) : (enterHoldover i t d).time.now = d.time.now := by
  obtain ⟨_, _, h⟩ := enterHoldover_eq (d := d) i t
  rw [h]
@[simp] theorem enterHoldover_isl (i : Fin 8) (t : Nat) : (enterHoldover i t d).isl = d.isl := by
  obtain ⟨_, _, h⟩ := enterHoldover_eq (d := d) i t
  rw [h]
@[simp] theorem enterHoldover_chan (i : Fin 8) (t : Nat) : (enterHoldover i t d).chan = d.chan := by
  obtain ⟨_, _, h⟩ := enterHoldover_eq (d := d) i t
  rw [h]

/-- A copy that enters holdover is in it. -/
@[simp] theorem enterHoldover_same (i : Fin 8) (t : Nat) : (enterHoldover i t d).time.holdover[i] = true := by
  unfold enterHoldover
  split
  · assumption
  · exact upd_get_same ..

theorem enterHoldover_from {i : Fin 8} {t : Nat} (h : d.time.holdover[i] = false) : (enterHoldover i t d).time.holdoverFrom[i] = t := by
  rw [enterHoldover, if_neg (by simp [h])]
  exact upd_get_same ..

theorem enterHoldover_other {i j : Fin 8} {t : Nat} (h : j ≠ i) : (enterHoldover i t d).time.holdover[j] = d.time.holdover[j]
    ∧ (enterHoldover i t d).time.holdoverFrom[j] = d.time.holdoverFrom[j] := by
  unfold enterHoldover
  split
  · exact ⟨rfl, rfl⟩
  · exact ⟨upd_get_other _ _ _ _ h, upd_get_other _ _ _ _ h⟩

@[simp] theorem hostHoldover_now : (hostHoldover d).time.now = d.time.now := by
  unfold hostHoldover
  extract_lets _ first
  have kept : first.time.now = d.time.now := by
    unfold first
    split <;> simp
  split <;> simp [kept]

/-- PD0 enters holdover 10 ms after its last mark. -/
theorem hostHoldover_host (h : d.time.holdover[(0 : Fin 8)] = false) (running : up 0 d = true)
    (late : d.time.marked[(0 : Fin 8)] + ms 10 ≤ d.time.now) :
    (hostHoldover d).time.holdover[(0 : Fin 8)] = true
      ∧ (hostHoldover d).time.holdoverFrom[(0 : Fin 8)] = d.time.marked[(0 : Fin 8)] + ms 10 := by
  unfold hostHoldover
  extract_lets from_ first
  have entered : first = enterHoldover 0 from_ d := if_pos ((Bool.and_eq_true _ _).symm ▸ ⟨running, decide_eq_true late⟩)
  have first0 : first.time.holdover[(0 : Fin 8)] = true ∧ first.time.holdoverFrom[(0 : Fin 8)] = from_ := by
    rw [entered]
    exact ⟨enterHoldover_same .., enterHoldover_from h⟩
  split
  · obtain ⟨same, sameFrom⟩ := enterHoldover_other (d := first) (i := 5) (j := 0) (t := first.time.now) (by decide)
    rwa [same, sameFrom]
  · exact first0

/-- The work of HOLDOVER_LIMIT: where the copy is in holdover, its time stamps are flagged once 100 ms of it have passed. -/
theorem execHoldoverLimit_eq (i : Fin 8) (s : State) : ∃ f, exec (.holdoverLimit i) s = done s
    (if (hostHoldover s.dev).time.holdover[i] then
      { reach ((hostHoldover s.dev).time.holdoverFrom[i] + ms 100) (hostHoldover s.dev) with
        time := { (reach ((hostHoldover s.dev).time.holdoverFrom[i] + ms 100) (hostHoldover s.dev)).time with flagged := f } }
    else hostHoldover s.dev) ∧ f[i] = true :=
  ⟨_, rfl, upd_get_same ..⟩

theorem holdoverLimit_holds : Claims.holdoverLimit := by
  intro i s h
  obtain ⟨f, work, flagged⟩ := execHoldoverLimit_eq i s
  refine ⟨fun held => ?_, fun free running late => ?_, fun free => ?_⟩
  · rw [if_pos held] at work
    exact (gives_iff_of_done work).2 ⟨flagged, by simp [h]⟩
  · obtain ⟨held, since⟩ := hostHoldover_host free running late
    refine (gives_iff_of_done work).2 ?_
    split <;> exact ⟨held, since⟩
  · rw [if_neg (by simpa [h] using free)] at work
    refine gives_of_done work (by simp) rfl

/-! The reference (R15). -/

/-- A change of the reference is counted and reported; it touches neither the time base nor the measured error. -/
theorem referenceSwitch_counted (use old : Bool) (n : Nat) :
    let e := if use = old then d else raise1 7 .referenceSwitch n (bump 0x1040 0x05 d)
    e.time = d.time ∧ num e 0x1040 0x04 = num d 0x1040 0x04 ∧ num e 0x1040 0x05 = num d 0x1040 0x05 + flag (use != old) := by
  intro e
  by_cases same : use = old
  · simp [e, same, flag]
  · have changed : e = raise1 7 .referenceSwitch n (bump 0x1040 0x05 d) := if_neg same
    rw [changed]
    refine ⟨raise_time .., (num_raise (by decide)).trans (num_setNum_other _ _ _ _ _ _ (by decide)), ?_⟩
    rw [raise1, num_raise (by decide), num_bump_same, flag, if_pos (by simpa using same)]

theorem referenceSwitch_holds : Claims.referenceSwitch := by
  intro x s good use
  refine ⟨fun running => ?_, fun down => rests_of_done (by simp [exec, execReferenceSwitch, down])⟩
  unfold Gives
  simp only [exec]
  unfold execReferenceSwitch
  rw [if_neg (by simp [running])]
  extract_lets good' since d use' d' t1 d1
  have source : d.regs = s.dev.regs ∧ d.time.onRefIn = s.dev.time.onRefIn ∧ s.dev.time.now ≤ d.time.now
      ∧ (since = none → d.time.now = s.dev.time.now) ∧ ∀ t, since = some t → t + sec 1 ≤ d.time.now := by
    unfold d
    clear_value since
    split <;> simp
  obtain ⟨regs, wasOnRefIn, later, unmoved, stood⟩ := source
  have used : use' = use := by
    have sinceGood : since.isSome = (good && s.dev.time.goodSince.isSome) := by
      change (if good = true then s.dev.time.goodSince else none).isSome = _
      cases good <;> rfl
    unfold use' use
    rw [sinceGood, Bool.and_assoc, on, num, getVal_of_regs regs]
    rfl
  obtain ⟨time, error, count⟩ := referenceSwitch_counted (d := d1) use' d'.time.onRefIn (if use' = true then 1 else 0)
  refine ⟨_, rfl, rfl, ?_⟩
  rw [reach_of_le (by rw [time]; exact later)]
  simp only [time, error, count]
  refine ⟨used, rfl, num_setNum_same .., ?_, fun t isGood from_ => stood t ?_, fun isGood new => ?_, ?_⟩
  · change (if good = true then some _ else none).isSome = good
    cases good <;> rfl
  · exact (if_pos isGood).trans from_
  · have none_ : since = none := (if_pos isGood).trans new
    change (if good = true then some (since.getD d.time.now) else none) = _
    rw [if_pos isGood, none_, unmoved none_]
    rfl
  · rw [used]
    change num (setNum _ _ _ d) _ _ + flag (use != d.time.onRefIn) = _
    rw [num_setNum_other _ _ _ _ _ _ (by decide), num, getVal_of_regs regs, wasOnRefIn]
    rfl

/-- Within a longer time a value may move further, by the added time at most. -/
theorem clamp_step (a b x : Int) (ha : 0 ≤ a) (hb : 0 ≤ b) : |clamp (-(a + b)) (a + b) x - clamp (-a) a x| ≤ b := by
  rw [abs_le]
  unfold clamp
  omega

/-- A second is 100 times the 10 ms in which the frequency may move by 1 ppb. -/
theorem rate_steps (t n : Nat) : ((t + n * sec 1 : Nat) : Int) / 1000000 = (t : Int) / 1000000 + 100 * n := by
  unfold sec
  omega

/-- The source that drives the master, in ppb against the TCXO. -/
def rateAim (d : Dev) : Int := if d.time.onRefIn then d.time.refError.getD 0 else 0

/-- The rate at an instant: from the noted one, as far as the time since lets it move towards the source. -/
theorem masterRate_at (d : Dev) (t : Nat) : masterRate { d with time := { d.time with now := t } }
    = d.time.rate + clamp (-(((t - d.time.rateAt : Nat) : Int) / 1000000)) (((t - d.time.rateAt : Nat) : Int) / 1000000)
      (rateAim d - d.time.rate) := rfl

theorem masterRateSlews_holds : Claims.masterRateSlews := by
  intro d n
  rw [masterRate_at, masterRate_at, add_sub_add_left_eq_sub, Nat.sub_add_comm (le_max_right _ _), rate_steps]
  exact (clamp_step _ _ _ (by positivity) (by positivity)).trans (by omega)

/-! Silent channels (R11, R17, R269, R316). -/

@[simp] theorem hostHoldover_chan : (hostHoldover d).chan = d.chan := by
  unfold hostHoldover
  extract_lets _ first
  have kept : first.chan = d.chan := by
    unfold first
    split <;> simp
  split <;> simp [kept]

@[simp] theorem silence_now (ch : Channel) : (silence ch d).time.now = d.time.now := by
  cases ch with
  | timeMark r => exact enterHoldover_now ..
  | lineLink => exact hostHoldover_now
  | safetyStop | safetyFeed | leaseState | peerTime | shadowState | loadCommand | loadStatus | metrologyFeed => rfl

@[simp] theorem silence_chan (ch : Channel) : (silence ch d).chan = d.chan := by
  cases ch with
  | timeMark r => exact enterHoldover_chan ..
  | lineLink => exact hostHoldover_chan
  | safetyStop | safetyFeed | leaseState | peerTime | shadowState | loadCommand | loadStatus | metrologyFeed => rfl

/-- PD5 is in holdover while its line link is silent. -/
theorem hostHoldover_line (running : up 5 d = true) (silent : isStale .lineLink d = true) :
    (hostHoldover d).time.holdover[(5 : Fin 8)] = true := by
  unfold hostHoldover
  extract_lets from_ first
  have running1 : up 5 first = true ∧ isStale .lineLink first = true := by
    unfold first
    split <;> simp_all [up, isStale]
  rw [if_pos (by simp [running1])]
  exact enterHoldover_same ..

/-- A channel that falls silent is marked so at the end of its stale timeout; of the rest of the module only the event is seen. -/
theorem staleChannel_of_fresh {ch : Channel} (fresh : isStale ch d = false) : staleChannel ch d
    = raise1 (chanReceiver ch) .channelStale (chanIdx ch).val { reach ((d.chan[chanIdx ch]).last + staleAfter ch) d with
        chan := upd d.chan (chanIdx ch) (fun c => { c with stale := true }) } :=
  if_neg (by simp [fresh])

theorem silentAt_staleChannel {ch : Channel} (fresh : isStale ch d = false) : Claims.silentAt ch d (silence ch (staleChannel ch d)) := by
  rw [staleChannel_of_fresh fresh]
  cases ch with
  | timeMark r => exact ⟨enterHoldover_same .., fun free => (enterHoldover_from (by simpa [raise1] using free)).trans (enterHoldover_now ..).symm⟩
  | safetyStop => exact ⟨fun j => ⟨tab_get .., tab_get .., tab_get ..⟩, fun u => tab_get ..⟩
  | safetyFeed => refine ⟨fun j => ⟨tab_get .., tab_get ..⟩, by simp [silence, raise1]⟩
  | peerTime => rfl
  | loadCommand => rfl
  | lineLink =>
    intro running
    refine hostHoldover_line ?_ ?_
    · simpa [up, raise1] using running
    · rw [isStale, raise1, raise_chan]
      exact congrArg Chan.stale (upd_get_same ..)
  | leaseState | shadowState | loadStatus | metrologyFeed => trivial

theorem channelStale_holds : Claims.channelStale := by
  intro ch s
  refine ⟨fun fresh running => ?_, fun rests => rests_of_done ?_⟩
  · have work : exec (.channelStale ch) s = done s (silence ch (staleChannel ch s.dev)) := by simp [exec, execChannelStale, fresh, running]
    have silent := silentAt_staleChannel fresh
    have chan : (silence ch (staleChannel ch s.dev)).chan = upd s.dev.chan (chanIdx ch) (fun c => { c with stale := true }) := by
      rw [silence_chan, staleChannel_of_fresh fresh]
      exact raise_chan ..
    have now : (silence ch (staleChannel ch s.dev)).time.now = max s.dev.time.now ((s.dev.chan[chanIdx ch]).last + staleAfter ch) := by
      rw [silence_now, staleChannel_of_fresh fresh, raise1, raise_time]
      rfl
    refine gives_of_done work (by rw [now]; exact le_max_left ..) ⟨?_, by rw [now]; exact le_max_right .., ?_, silent⟩
    · rw [isStale, chan, upd_get_same]
    · rw [chan, upd_get_same]
  · obtain stale | down := rests
    · simp [exec, execChannelStale, stale]
    · simp [exec, execChannelStale, down]

/-! What is transferred (R17, R274, R389). -/

/-- The step that a steered master gains, and its trim. -/
theorem steer_steps (t a : Nat) : max 0 (clamp (-1) 1 ((t : Int) - a)) = (if a < t then 1 else 0)
    ∧ clamp (-1) 1 ((t : Int) - a) = (if a < t then 1 else if t < a then -1 else 0) := by
  unfold clamp
  split_ifs <;> omega

theorem peerTimeTransfer_holds : Claims.peerTimeTransfer := by
  intro t a s
  refine ⟨fun peer always pair => ?_, fun rests => rests_of_done ?_⟩
  · let d := transfer .peerTime { s.dev with time := { s.dev.time with steeringHeld := false } }
    have heard : isStale .peerTime d = false := congrArg Chan.stale (upd_get_same ..)
    have work : exec (.peerTimeTransfer t a) s = done s (if holds s.dev then d
        else if roleOf s.dev = 0 ∧ !s.dev.metro.aligned then onPair (fun p => { p with timeOffset := (t : Int) - a }) d
        else steer ((t : Int) - a) d) := by
      simp only [exec, execPeerTimeTransfer, peer, always, pair]
      rfl
    by_cases holder : holds s.dev = true
    · rw [if_pos holder] at work
      exact gives_of_done work le_rfl
        ⟨rfl, heard, fun _ => ⟨rfl, rfl⟩, fun syncing => absurd holder (by simp [holds, syncing]), fun other => absurd holder (by simp [other])⟩
    rw [if_neg holder] at work
    by_cases unaligned : roleOf s.dev = 0 ∧ s.dev.metro.aligned = false
    · rw [if_pos (by simpa using unaligned)] at work
      refine gives_of_done work le_rfl ⟨rfl, heard, fun yes => absurd yes holder, fun _ _ => ⟨rfl, rfl⟩, fun _ other => ?_⟩
      simp [unaligned] at other
    · rw [if_neg (by simpa using unaligned)] at work
      obtain ⟨gain, trim⟩ := steer_steps t a
      refine gives_of_done work (Nat.le_add_right ..) ⟨rfl, heard, fun yes => absurd yes holder,
        fun syncing free => absurd ⟨syncing, free⟩ unaligned, fun _ _ => ⟨?_, ?_, trim⟩⟩
      · change s.dev.time.now + (max 0 (clamp (-1) 1 ((t : Int) - a))).toNat = _
        rw [gain]
        split <;> rfl
      · change (t : Int) - a - max 0 (clamp (-1) 1 ((t : Int) - a)) = _
        rw [gain]
  · obtain h | h | h := rests <;> simp [exec, execPeerTimeTransfer, h]

theorem safetyFeed_holds : Claims.safetyFeed := by
  intro s
  refine ⟨fun control safety => ?_, fun rests => rests_of_done ?_⟩
  · have work : exec .safetyFeed s = done s (safetyFeed s.dev) := by simp [exec, execSafetyFeed, control, safety]
    refine gives_of_done work le_rfl ⟨?_, rfl, rfl, fun x => tab_get .., fun j => tab_get ..⟩
    exact congrArg Chan.stale (upd_get_same ..)
  · obtain h | h := rests <;> simp [exec, execSafetyFeed, h]

theorem le_dueAt {last p : Nat} : d.time.now ≤ dueAt last p d := by
  unfold dueAt nextMultiple
  split <;> omega

/-- At an instant that is due the site time base is a multiple of the span. -/
theorem siteTime_at_dueAt {e : Dev} {last p : Nat} (counted : 0 ≤ (d.time.now : Int) + d.time.base) (pos : 0 < p)
    (now : e.time.now = dueAt last p d) (base : e.time.base = d.time.base := by rfl) : siteTime e % p = 0 := by
  unfold dueAt at now
  split at now
  · rename_i here
    rw [siteTime, now, base]
    exact here.1
  · have part := Nat.mod_lt (siteTime d) pos
    have site : siteTime e = siteTime d + (p - siteTime d % p) := by
      have before : (siteTime d : Int) = d.time.now + d.time.base := Int.toNat_of_nonneg counted
      rw [siteTime, now, base, nextMultiple]
      omega
    have whole := Nat.div_add_mod (siteTime d) p
    rw [site, show siteTime d + (p - siteTime d % p) = p * (siteTime d / p + 1) by rw [mul_add]; omega, Nat.mul_mod_right]

/-- A message that is queued is the last of its class. -/
theorem lastOf_enqueue (l : Lane) (m : TenonOut) : lastOf l (typeClass m.type) (enqueue l m d) = some m := by
  have queue : (laneOf l (enqueue l m d)).queue[typeClass m.type] = (laneOf l d).queue[typeClass m.type] ++ [m] := by
    cases l <;> exact upd_get_same ..
  rw [lastOf, queue, List.getLast?_concat]

theorem wallClockOffsetSend_holds : Claims.wallClockOffsetSend := by
  intro s
  refine ⟨fun host there => ?_, fun rests => rests_of_done ?_⟩
  · have due : s.dev.time.now ≤ dueAt s.dev.time.ticked[(7 : Fin 9)] (sec 1) s.dev := le_dueAt
    have work : exec .wallClockOffsetSend s = done s (enqueue .hf (tenonItems 0x02 2 2 16
        [wallOffset (tick 7 (sec 1) s.dev), flag s.dev.site.ptp.synchronised] (tick 7 (sec 1) s.dev)) (tick 7 (sec 1) s.dev)) := by
      simp [exec, execWallClockOffsetSend, host, there]
      rfl
    refine gives_of_done work (le_max_left ..) ⟨max_eq_right due, fun counted => ?_, ?_⟩
    · exact siteTime_at_dueAt counted (by simp [sec]) (max_eq_right due)
    · exact lastOf_enqueue ..
  · obtain h | h := rests <;> simp [exec, execWallClockOffsetSend, h]

/-- Settles O13: the commands one by one, and the bound on the master's rate. -/
theorem timeBaseCommands : Obligations.TimeBaseCommands :=
  ⟨timeMark_holds, holdoverLimit_holds, referenceSwitch_holds, peerTimeTransfer_holds, channelStale_holds, wallClockOffsetSend_holds,
    safetyFeed_holds, masterRateSlews_holds⟩

end Sys2Proof.Machine
end

section
/-! A Ridge frame from the safety island that finds the module without a node ID (R277, R363).

The claim on `RIDGE_FRAME_FROM_SAFETY` lets any address state but `conflict` queue the frame. By R363 a module sends no frame before it
holds an ID, and `stage` refuses one accordingly, so the claim fails in every other state but `held`. -/
namespace Sys2Proof.Machine

/-- A module whose islands run and whose CAN FD controller 1 is enabled; it waits for its address still (R362). -/
def withoutAddress : Dev := { setNum 0x1201 0x01 1 Dev.reset with isl := tab (fun _ => .running) }

/-- A tenon message of type 0x04 from PD3, well framed, with a Ridge frame of one byte for CAN FD 1 (Table 9.9). -/
def ridgeForCan : TenonMsg :=
  let header : Nat := 4 * 2 ^ 56 + 3 * 2 ^ 38 + 3 * 2 ^ 32 + 9
  let payload : List Byte := leBytes 8 1 ++ [7]
  ⟨true, BitVec.ofNat 64 header, payload, crc32 (leBytes 8 header ++ payload)⟩

theorem ridgeForCan_heard : (receive .fh ridgeForCan withoutAddress).2 = true ∧ hdrType ridgeForCan.header = 0x04 := by decide +kernel

theorem ridgeForCan_not_queued :
    ((routeRidge ridgeForCan.payload (receive .fh ridgeForCan withoutAddress).1).site.can[(0 : Fin 2)]).urgent = [] := by
  decide +kernel

/-- The frame is heard, its controller is enabled and its queue has room, yet it enters no queue. -/
theorem not_ridgeFrameFromSafety : ¬ Claims.ridgeFrameFromSafety := by
  intro claim
  have heard : Claims.heard .fh 0x04 ridgeForCan withoutAddress := ridgeForCan_heard
  have routed : exec (.ridgeFrameFromSafety ridgeForCan) ⟨withoutAddress, []⟩
      = done ⟨withoutAddress, []⟩ (routeRidge ridgeForCan.payload (receive .fh ridgeForCan withoutAddress).1) := by
    have running : up 0 withoutAddress = true := by decide +kernel
    have long : 8 ≤ ridgeForCan.payload.length := by decide
    simp [exec, execRidgeFrameFromSafety, running, ridgeForCan_heard.1, ridgeForCan_heard.2, long]
  obtain ⟨f, queued, -⟩ := (gives_iff_of_done routed).1 <| (claim ridgeForCan ⟨withoutAddress, []⟩ 0).2.1 0 (by decide +kernel) heard
    (by decide +kernel) (by decide +kernel) (by decide +kernel) (by decide +kernel) (by decide +kernel)
  rw [reach_site, ridgeForCan_not_queued] at queued
  simp at queued

/-- Refutes O14: the lane's frame for a CAN FD network is not staged while the module holds no node ID. -/
theorem not_laneCommands : ¬ Obligations.LaneCommands := fun ⟨_, _, _, _, _, _, _, ridge, _⟩ => not_ridgeFrameFromSafety ridge

end Sys2Proof.Machine
end

section
/-! The site time base through a command. A command is `done` with a device that operations made; only the start of the
field side and a resynchronisation set the base (R14, R17), so that each other operation either leaves the whole time base
alone (`op_time`), or moves the instant or the steering and leaves the base (`op_base`). The lemmas are `simp` rules, one
for each operation, in the order of the model, and each is proved by the rules of the operations that it calls; they say
`by rfl`, not `rfl`, so that `simp` may use them for the steps of a run over a list. `exec_answers` gathers the commands. -/
namespace Sys2Proof.Machine

variable {d : Dev} {s : State}

/-! How devices are put together. -/

@[simp] theorem Dev.time_ite {c : Prop} [Decidable c] {a b : Dev} :
    (if c then a else b).time = if c then a.time else b.time := apply_ite ..

@[simp] theorem Dev.time_dite {c : Prop} [Decidable c] {a : c → Dev} {b : ¬ c → Dev} :
    (if h : c then a h else b h).time = if h : c then (a h).time else (b h).time := apply_dite ..

@[simp] theorem Timebase.base_ite {c : Prop} [Decidable c] {a b : Timebase} :
    (if c then a else b).base = if c then a.base else b.base := apply_ite ..

@[simp] theorem fst_ite {α : Type} {c : Prop} [Decidable c] {a b : Dev × α} :
    (if c then a else b).1 = if c then a.1 else b.1 := apply_ite ..

@[simp] theorem snd_ite {α : Type} {c : Prop} [Decidable c] {a b : α × Dev} :
    (if c then a else b).2 = if c then a.2 else b.2 := apply_ite ..

@[simp] theorem foldl_time {α : Type} {f : Dev → α → Dev} {l : List α} (hf : ∀ d a, (f d a).time = d.time) :
    (l.foldl f d).time = d.time :=
  List.foldlRecOn (motive := fun e => e.time = d.time) l f rfl fun e h a _ => (hf e a).trans h

@[simp] theorem foldl_base {α : Type} {f : Dev → α → Dev} {l : List α}
    (hf : ∀ d a, (f d a).time.base = d.time.base) : (l.foldl f d).time.base = d.time.base :=
  List.foldlRecOn (motive := fun e => e.time.base = d.time.base) l f rfl fun e h a _ => (hf e a).trans h

/-- A run over a list that starts from a device of the same time. -/
theorem foldl_of_time {α : Type} {t : Timebase} {f : Dev → α → Dev} {l : List α} (h : d.time = t)
    (hf : ∀ d a, (f d a).time = d.time) : (l.foldl f d).time = t := (foldl_time hf).trans h

@[simp] theorem reach_base {t} : (reach t d).time.base = d.time.base := by rfl

/-! How a command ends. -/

/-- A command that is done with a device on the site time base that it started on. -/
def Answers (s : State) (o : Host.Outcome State Fault Refusal) : Prop :=
  ∃ d, o = done s d ∧ d.time.base = s.dev.time.base

theorem done_answers (h : d.time.base = s.dev.time.base) : Answers s (done s d) := ⟨d, rfl, h⟩

/-! Entries set. -/

@[simp] theorem setNum_time {x y v} : (setNum x y v d).time = d.time := by rfl
@[simp] theorem setOct_time {x y b} : (setOct x y b d).time = d.time := by rfl
@[simp] theorem bumpBy_time {x y n} : (bumpBy x y n d).time = d.time := by rfl
@[simp] theorem bump_time {x y} : (bump x y d).time = d.time := by rfl

/-! The named operations that every family uses: time, bits, the dictionary register file, free values. -/

@[simp] theorem reachSite_base {t} : (reachSite t d).time.base = d.time.base := by rfl
@[simp] theorem tick_base {i p} : (tick i p d).time.base = d.time.base := by rfl
@[simp] theorem freeNat_time : (freeNat d).2.time = d.time := by rfl
@[simp] theorem freeInt_time : (freeInt d).2.time = d.time := by rfl

/-! The profile generators (R134 to R139). -/

@[simp] theorem genUpdate_time {g} : (genUpdate g d).time = d.time := by simp [genUpdate]
@[simp] theorem genTarget_time {g t} : (genTarget g t d).time = d.time := by rfl
@[simp] theorem genShare_time {g share} : (genShare g share d).time = d.time := by rfl
@[simp] theorem genRestAt_time {g p} : (genRestAt g p d).time = d.time := by rfl

/-! The catalogue of tenon messages and the sending ports' queues (R19, R20, R25 to R27). -/

@[simp] theorem enqueue_time {l m} : (enqueue l m d).time = d.time := by simp [enqueue]

/-! Scribe triggers, the event send queues and the event log ring (R430 to R440). -/

@[simp] theorem fireTrigger_time {source session code group} :
    (fireTrigger source session code group d).1.time = d.time := by
  simp only [fireTrigger]
  (repeat' split) <;> simp

@[simp] theorem logAppend_time {b} : (logAppend b d).time = d.time := by simp [logAppend]
@[simp] theorem raise1_time {isl name x} : (raise1 isl name x d).time = d.time := by simp [raise1]

/-! The time-base copies, the barrier ports' checks and the lanes (R14 to R26). -/

@[simp] theorem noteSequence_time {l m} : (noteSequence l m d).time = d.time := by simp [noteSequence]
@[simp] theorem realign_time {l} : (realign l d).time = d.time := by simp [realign]
@[simp] theorem noteCrcFailure_time {l} : (noteCrcFailure l d).time = d.time := by simp [noteCrcFailure]

@[simp] theorem receive_time {l : Lane} {m : TenonMsg} : (receive l m d).1.time = d.time := by
  unfold receive
  (repeat' split) <;> simp

@[simp] theorem landed_time {m} : (landed m d).time = d.time := by
  unfold landed
  split <;> simp

@[simp] theorem recordOnLane_time {m} : (recordOnLane m d).time = d.time := by simp [recordOnLane]

theorem nextOf_time {l c} : ∀ x ∈ nextOf l c d, x.2.time = d.time := by
  unfold nextOf
  extract_lets s here take
  have queued : ∀ x ∈ here.map take, x.2.time = d.time := by
    intro x hx
    obtain ⟨m, -, rfl⟩ := Option.map_eq_some_iff.1 hx
    exact onLane_time ..
  clear_value here
  split
  · exact queued
  · extract_lets em
    refine iteInduction (motive := fun o : Option (TenonOut × Dev) => ∀ x ∈ o, x.2.time = d.time)
      (fun _ x hx => ?_) fun _ => queued
    cases hx
    rfl

theorem chooseNext_time {l} : ∀ x ∈ chooseNext l d, x.2.time = d.time := by
  refine List.foldlRecOn (motive := fun r : Option (TenonOut × Dev) => ∀ x ∈ r, x.2.time = d.time) _ _ (by simp)
    fun r hr c _ => ?_
  split
  · exact hr
  · exact nextOf_time

@[simp] theorem laneNext_base {l} : (laneNext l d).time.base = d.time.base := by
  unfold laneNext
  extract_lets ended d1 d2 d3
  have h2 : d2.time.base = d.time.base := by simp [d2, d1]
  clear_value ended d2
  have h3 : d3.time.base = d.time.base := by
    unfold d3
    split <;> simp [h2]
  split
  · exact h3
  · rename_i m d4 e
    have h4 : d4.time = d3.time := chooseNext_time _ e
    simp [h4, h3]

@[simp] theorem transfer_time {ch} : (transfer ch d).time = d.time := by rfl
@[simp] theorem staleChannel_base {ch} : (staleChannel ch d).time.base = d.time.base := by simp [staleChannel]

@[simp] theorem timeMark_base {i offset} : (timeMark i offset d).time.base = d.time.base := by
  simp only [timeMark]
  (repeat' split) <;> simp

@[simp] theorem measureRoundTrip_time {i} : (measureRoundTrip i d).time = d.time := by simp [measureRoundTrip]
@[simp] theorem enterHoldover_base {i t} : (enterHoldover i t d).time.base = d.time.base := by simp [enterHoldover]
@[simp] theorem hostHoldover_base : (hostHoldover d).time.base = d.time.base := by simp [hostHoldover]
theorem execHoldoverLimit_answers {isl} : Answers s (execHoldoverLimit isl s) := done_answers (by simp)

theorem execReferenceSwitch_answers {refIn} : Answers s (execReferenceSwitch refIn s) := by
  simp only [execReferenceSwitch]
  (repeat' split) <;> exact done_answers (by simp)

/-! The DMA engine and capture memory (R419 to R429). -/

@[simp] theorem descReport_time {n c cause units} : (descReport n c cause units d).time = d.time := by simp [descReport]
@[simp] theorem writeUnit_time {a w} : (writeUnit a w d).time = d.time := by simp [writeUnit]

@[simp] theorem serveUnit_time {c} : (serveUnit c d).time = d.time := by
  simp only [serveUnit]
  (repeat' split) <;> simp

@[simp] theorem rotation_time : (rotation d).time = d.time := by simp [rotation]

@[simp] theorem rotations_time {n} : (rotations n d).time = d.time := by
  induction n generalizing d with
  | zero => rfl
  | succ n ih => exact ih.trans rotation_time

@[simp] theorem descSetup_time {n c} : (descSetup n c d).time = d.time := by rfl
@[simp] theorem clearRun_time {c} : (clearRun c d).time = d.time := by rfl

@[simp] theorem wakeWaiting_time {n} : (wakeWaiting n d).time = d.time := by
  unfold wakeWaiting
  (repeat' split) <;> simp

@[simp] theorem runTransfer_time {c} : (runTransfer c d).time = d.time := by simp [runTransfer]

@[simp] theorem descriptorEnd_time {c} : (descriptorEnd c d).time = d.time := by
  unfold descriptorEnd
  extract_lets _ _ d1 _ _ d2 d3 d4 d5 d6 _ _ d7 d8
  have h4 : d4.time = d.time := by simp [d4, d3, d2, d1]
  have h5 : d5.time = d.time := by
    unfold d5
    split <;> simp [h4]
  have h8 : d8.time = d.time := by simp [d8, d7, d6, h5]
  split
  · rfl
  · split <;> simp [h8]

@[simp] theorem startChannel_time {c starter} : (startChannel c starter d).time = d.time := by rfl
@[simp] theorem internalChannel_time {c runs} : (internalChannel c runs d).time = d.time := by simp [internalChannel]
@[simp] theorem stopChannel_time {c} : (stopChannel c d).time = d.time := by rfl
@[simp] theorem askStop_time {c} : (askStop c d).time = d.time := by simp [askStop]
@[simp] theorem releaseCapture_time : (releaseCapture d).time = d.time := by rfl

/-! Snapshots and the event log's own commands (R430 to R440). -/

theorem execSnapInEdge_answers {rising} : Answers s (execSnapInEdge rising s) := done_answers (by simp)
theorem execPartnerScribeTrigger_answers : Answers s (execPartnerScribeTrigger s) := done_answers (by simp)

@[simp] theorem hostLatch_time {i} : (hostLatch i d).time = d.time := by
  unfold hostLatch
  split <;> simp

theorem execScribeNotice_answers {m} : Answers s (execScribeNotice m s) := by
  simp only [execScribeNotice]
  (repeat' split) <;> exact done_answers (by simp)

theorem execSnapshotFragment_answers {m set part} : Answers s (execSnapshotFragment m set part s) := by
  simp only [execSnapshotFragment]
  (repeat' split) <;> exact done_answers (by simp)

@[simp] theorem fieldStore_base : (fieldStore d).time.base = d.time.base := by
  unfold fieldStore
  split <;> simp

theorem execSnapshotSetValid_answers {set} : Answers s (execSnapshotSetValid set s) := done_answers (by simp)
theorem execEventQueueRoom_answers {isl} : Answers s (execEventQueueRoom isl s) := done_answers (by simp)

theorem execEvent_answers {m} : Answers s (execEvent m s) := by
  simp only [execEvent]
  (repeat' split) <;> exact done_answers (by simp)

@[simp] theorem flushLog_time : (flushLog d).time = d.time := by rfl
theorem execEventLogFlush_answers : Answers s (execEventLogFlush s) := done_answers (by simp)
@[simp] theorem rebuildLog_time : (rebuildLog d).time = d.time := by simp [rebuildLog]

/-! The rafter ring: contactors, segments and the topology interlock (R34 to R58). -/

@[simp] theorem deriveSegments_time : (deriveSegments d).time = d.time := by rfl
@[simp] theorem countPermits_time : (countPermits d).time = d.time := by rfl

@[simp] theorem countOperation_time {x} : (countOperation x d).time = d.time := by
  unfold countOperation
  split <;> simp

@[simp] theorem judge_time {permit x} : (judge permit x d).time = d.time := by
  unfold judge
  split <;> simp

@[simp] theorem interlock_time {permit} : (interlock permit d).time = d.time := by simp [interlock]
@[simp] theorem checkTravel_time : (checkTravel d).time = d.time := by simp [checkTravel]
@[simp] theorem debounceContacts_time : (debounceContacts d).time = d.time := by simp [debounceContacts]
@[simp] theorem clearAgreed_time : (clearAgreed d).time = d.time := by simp [clearAgreed]
@[simp] theorem checkDropped_time : (checkDropped d).time = d.time := by simp [checkDropped]
@[simp] theorem clearDropped_time : (clearDropped d).time = d.time := by rfl
@[simp] theorem zeroDropped_time : (zeroDropped d).time = d.time := by rfl
@[simp] theorem checkSense_time : (checkSense d).time = d.time := by simp [checkSense]

@[simp] theorem travelFault_time {x} : (travelFault x d).time = d.time := by
  unfold travelFault
  split <;> simp

theorem execContactDisagreement_answers {x} :
    Answers s (execContactDisagreement x s) := done_answers (by split <;> simp)

/-! Rail set-points, slew and tracking episodes (R91 to R116). Voltages are in 10 µV. -/

@[simp] theorem latchPar_time {j} : (latchPar j d).time = d.time := by rfl
@[simp] theorem legToService_time {n} : (legToService n d).time = d.time := by rfl
@[simp] theorem startLegs_time {x} : (startLegs x d).time = d.time := by simp [startLegs]
@[simp] theorem restLegs_time {x} : (restLegs x d).time = d.time := by simp [restLegs]
@[simp] theorem beginTrack_time {j ep} : (beginTrack j ep d).time = d.time := by simp [beginTrack]

@[simp] theorem beginStart_time {j} : (beginStart j d).time = d.time := by
  unfold beginStart
  split <;> simp

@[simp] theorem beginTie_time {j tie} : (beginTie j tie d).time = d.time := by
  unfold beginTie
  split <;> simp

@[simp] theorem beginOutlet_time {j} : (beginOutlet j d).time = d.time := by
  unfold beginOutlet
  (repeat' split) <;> simp

@[simp] theorem takeGoverning_time {mask j} : (takeGoverning mask j d).time = d.time := by
  unfold takeGoverning
  split
  · rfl
  · exact foldl_time fun _ _ => rfl

@[simp] theorem beginRatio_time {leader mask vEnd rate stop} :
    (beginRatio leader mask vEnd rate stop d).time = d.time := by
  unfold beginRatio
  extract_lets _ _ _ _ d1 _ _ _ _ d2 d3
  have h1 : d1.time = d.time := by simp [d1]
  have h2 : d2.time = d1.time := by simp [d2]
  have h3 : d3.time = d2.time := foldl_time fun _ _ => rfl
  exact h3.trans (h2.trans h1)

@[simp] theorem soloStop_time {j} : (soloStop j d).time = d.time := by simp [soloStop]

@[simp] theorem leaveRatio_time {j res} : (leaveRatio j res d).time = d.time := by
  unfold leaveRatio
  split
  · rfl
  · split
    · rfl
    · extract_lets _ d1 d2 d3
      have h1 : d1.time = d.time := foldl_time fun _ _ => rfl
      split
      · refine foldl_of_time h1 fun _ _ => ?_
        simp
      · rfl

@[simp] theorem endEpisode_time {j res} : (endEpisode j res d).time = d.time := by simp [endEpisode]
@[simp] theorem abortEpisode_time {j res} : (abortEpisode j res d).time = d.time := by simp [abortEpisode]
@[simp] theorem toVoltageMode_time {j} : (toVoltageMode j d).time = d.time := by rfl
@[simp] theorem keepSamples_time : (keepSamples d).time = d.time := by rfl
@[simp] theorem toCurrentMode_time {j} : (toCurrentMode j d).time = d.time := by rfl

@[simp] theorem beginStops_time {rails} : (beginStops rails d).time = d.time := by
  simp only [beginStops]
  (repeat' split) <;> simp

@[simp] theorem beginStop_time {j} : (beginStop j d).time = d.time := by simp [beginStop]

@[simp] theorem isolate_time {j cause res} : (isolate j cause res d).time = d.time := by
  unfold isolate
  split <;> simp

@[simp] theorem stopDone_time {j} : (stopDone j d).time = d.time := by
  unfold stopDone
  exact foldl_of_time (by simp) fun _ _ => rfl

@[simp] theorem ratioDone_time {l q} : (ratioDone l q d).time = d.time := by simp [ratioDone]

@[simp] theorem ratioPeriod_time {l held} : (ratioPeriod l held d).time = d.time := by
  unfold ratioPeriod
  split
  · rfl
  · extract_lets rails d1 _ _ _ _ d2
    have stopped : (rails.foldl (fun d j => stopDone j d) d1).time = d.time := foldl_time fun _ _ => stopDone_time
    have h2 : d2.time = d.time := foldl_time fun _ _ => rfl
    split_ifs
    · exact stopped
    · rfl
    · rfl
    · exact ratioDone_time.trans h2
    · exact h2

@[simp] theorem boundPeriod_time {j} : (boundPeriod j d).time = d.time := by simp [boundPeriod]

@[simp] theorem setPointPeriod_time {j} : (setPointPeriod j d).time = d.time := by
  unfold setPointPeriod
  extract_lets
  split
  · split <;> rfl
  · split
    · rfl
    · split
      · split <;> rfl
      · rfl
  · split
    · rfl
    · split <;> rfl
  · split
    · rfl
    · split <;> rfl
  · rfl

@[simp] theorem passivePeriod_time {j} : (passivePeriod j d).time = d.time := by
  unfold passivePeriod
  split <;> simp

@[simp] theorem stopWaitPeriod_time {j} : (stopWaitPeriod j d).time = d.time := by simp [stopWaitPeriod]
@[simp] theorem legLossPeriod_time {j} : (legLossPeriod j d).time = d.time := by simp [legLossPeriod]

@[simp] theorem stopBitPeriod_time {j held} : (stopBitPeriod j held d).time = d.time := by
  simp only [stopBitPeriod]
  (repeat' split) <;> simp

@[simp] theorem commandPeriod_time {j held} : (commandPeriod j held d).time = d.time := by
  simp only [commandPeriod]
  (repeat' split) <;> simp

@[simp] theorem sensePeriod_time {j} : (sensePeriod j d).time = d.time := by
  unfold sensePeriod
  split <;> simp

@[simp] theorem setJoined_time {j x} : (setJoined j x d).time = d.time := by rfl
@[simp] theorem joinRails_time {j} : (joinRails j d).time = d.time := by simp [joinRails]
@[simp] theorem formPart_time {x} : (formPart x d).time = d.time := by simp [formPart]
@[simp] theorem splitRails_time {j} : (splitRails j d).time = d.time := by simp [splitRails]
@[simp] theorem regroup_time : (regroup d).time = d.time := by simp [regroup]
@[simp] theorem outletClosedRail_time {j} : (outletClosedRail j d).time = d.time := by simp [outletClosedRail]
theorem execStartSettleExpiry_answers {j} : Answers s (execStartSettleExpiry j s) := done_answers (by simp)
@[simp] theorem trackingTimeout_base {j} : (trackingTimeout j d).time.base = d.time.base := by simp [trackingTimeout]

@[simp] theorem ratioAbort_time {l} : (ratioAbort l d).time = d.time := by
  unfold ratioAbort
  split
  · split
    · rfl
    · exact foldl_time fun _ _ => rfl
  · rfl

theorem execDrainTimeout_answers {j} : Answers s (execDrainTimeout j s) := done_answers (by simp)
theorem execRailSenseLost_answers {j} : Answers s (execRailSenseLost j s) := done_answers (by simp)
@[simp] theorem isolateUnfitted_time : (isolateUnfitted d).time = d.time := by simp [isolateUnfitted]

/-! The spline links and the cards (R59 to R72, R88). -/

@[simp] theorem legFault_time {n cause} : (legFault n cause d).time = d.time := by simp [legFault]
@[simp] theorem brakeLeg_time {n} : (brakeLeg n d).time = d.time := by simp [brakeLeg]
@[simp] theorem resetAnswer_time {n} : (resetAnswer n d).time = d.time := by simp [resetAnswer]
@[simp] theorem legUplink_time {n i fl} : (legUplink n i fl d).time = d.time := by simp [legUplink]
@[simp] theorem thermalValue_time {w t} : (thermalValue w t d).time = d.time := by rfl
@[simp] theorem thermalFrom_time {source t} : (thermalFrom source t d).time = d.time := by simp [thermalFrom]

@[simp] theorem auxUplink_time {k index v} : (auxUplink k index v d).time = d.time := by
  unfold auxUplink
  (repeat' split) <;> simp

@[simp] theorem brickUplink_time {k f} : (brickUplink k f d).time = d.time := by simp [brickUplink]

@[simp] theorem brickMiss_time {k} : (brickMiss k d).time = d.time := by
  unfold brickMiss
  extract_lets d1 d2
  have h2 : d2.time = d.time := foldl_time fun _ _ => rfl
  simp [h2]

@[simp] theorem axisUplink_time {u f} : (axisUplink u f d).time = d.time := by rfl
@[simp] theorem axisMiss_time {u} : (axisMiss u d).time = d.time := by simp [axisMiss]

@[simp] theorem uplinkDeadline_base {port u} : (uplinkDeadline port u d).time.base = d.time.base := by
  unfold uplinkDeadline
  (repeat' split) <;> simp

@[simp] theorem cardLost_time {k} : (cardLost k d).time = d.time := by
  unfold cardLost
  extract_lets d1 d2 hold d3
  have h2 : d2.time = d.time := foldl_time fun _ _ => rfl
  have hh {x} {e : Dev} : (hold x e).time = e.time := onContactor_time ..
  have h3 : d3.time = d.time := by simp [d3, hh, h2]
  exact hh.trans h3

@[simp] theorem thawOutlets_time : (thawOutlets d).time = d.time := by rfl
theorem execLinkHoldExpiry_answers {k} : Answers s (execLinkHoldExpiry k s) := done_answers (by simp)
@[simp] theorem paramWrites_time {before} : (paramWrites before d).time = d.time := by rfl
theorem execBrickLinkUp_answers {port} : Answers s (execBrickLinkUp port s) := done_answers (by simp)
theorem execLegLostRecovery_answers {n} : Answers s (execLegLostRecovery n s) := done_answers (by split <;> simp)

theorem execPortDelayMeasurement_answers {k arrival} :
    Answers s (execPortDelayMeasurement k arrival s) := done_answers (by simp)

@[simp] theorem serviceAt_time {c port mayWrite q} :
    (serviceAt c port mayWrite q d).time = d.time := by simp [serviceAt]

@[simp] theorem downlinkAccept_time {card port f} :
    (downlinkAccept card port f d).time = d.time := by simp [downlinkAccept]

theorem execCardContactorHold_answers {k} : Answers s (execCardContactorHold k s) := done_answers (by simp)
@[simp] theorem cardMeasures_time {k iOut legs} : (cardMeasures k iOut legs d).time = d.time := by simp [cardMeasures]

@[simp] theorem cardSamples_time {k u} : (cardSamples k u d).time = d.time := by
  unfold cardSamples
  (repeat' split) <;> simp

theorem execUplinkDeadline_answers {port u} : Answers s (execUplinkDeadline port u s) := done_answers (by simp)
@[simp] theorem averagePeriod_time : (averagePeriod d).time = d.time := by rfl

@[simp] theorem storeAvg_time {idx sub a} : (storeAvg idx sub a d).time = d.time := by
  unfold storeAvg
  split <;> simp

@[simp] theorem telemetryEnd_base {w} : (telemetryEnd w d).time.base = d.time.base := by simp [telemetryEnd]

@[simp] theorem captureLeg_time {n} : (captureLeg n d).time = d.time := by
  simp only [captureLeg]
  (repeat' split) <;> simp

@[simp] theorem captureBrick_time {k} : (captureBrick k d).time = d.time := by
  simp only [captureBrick]
  (repeat' split) <;> simp

/-! The modulator sequencer and period synchronisation (R50 to R53, R73 to R86). -/

@[simp] theorem shedLeg_time {n cause} : (shedLeg n cause d).time = d.time := by rfl

@[simp] theorem limitRule_time {x n} : (limitRule x n d).time = d.time := by
  induction n generalizing d with
  | zero => rfl
  | succ n ih =>
    unfold limitRule
    extract_lets
    split
    · rfl
    · simp [ih]

@[simp] theorem limitRestore_time {x} : (limitRestore x d).time = d.time := by simp [limitRestore]
@[simp] theorem lightLoad_time {busy x} : (lightLoad busy x d).time = d.time := by simp [lightLoad]

@[simp] theorem shedExpiry_base {x} : (shedExpiry x d).time.base = d.time.base := by
  unfold shedExpiry
  split <;> simp

theorem execDiodeEmulationEntry_answers {n} : Answers s (execDiodeEmulationEntry n s) := done_answers (by simp)
theorem execBrakingWindowEnd_answers {n} : Answers s (execBrakingWindowEnd n s) := done_answers (by simp)
theorem execSenseImplausible_answers {n} : Answers s (execSenseImplausible n s) := done_answers (by simp)
@[simp] theorem detectorMemory_time {x} : (detectorMemory x d).time = d.time := by simp [detectorMemory]
@[simp] theorem releaseSegment_time {x} : (releaseSegment x d).time = d.time := by simp [releaseSegment]
@[simp] theorem brakeEndPeriod_time {x} : (brakeEndPeriod x d).time = d.time := by simp [brakeEndPeriod]

@[simp] theorem offPeriod_time {n} : (offPeriod n d).time = d.time := by
  simp only [offPeriod]
  (repeat' split) <;> simp

@[simp] theorem sharePeriod_time {x} : (sharePeriod x d).time = d.time := by simp [sharePeriod]

@[simp] theorem sequenceSegment_time {busy returning x} :
    (sequenceSegment busy returning x d).1.time = d.time := by simp [sequenceSegment]

@[simp] theorem syncEdge_base {holder at_} : (syncEdge holder at_ d).time.base = d.time.base := by simp [syncEdge]
@[simp] theorem syncInEdge_base {holder at_} : (syncInEdge holder at_ d).time.base = d.time.base := by simp [syncInEdge]

theorem execSyncLoss_answers {offRate} :
    Answers s (execSyncLoss offRate s) := done_answers (by (repeat' split) <;> simp)

@[simp] theorem syncFree_time : (syncFree d).time = d.time := by simp [syncFree]
@[simp] theorem syncPulse_time : (syncPulse d).time = d.time := by simp [syncPulse]
@[simp] theorem boundaryTick_base : (boundaryTick d).time.base = d.time.base := by simp [boundaryTick]

/-! The loop engine's slots (R117 to R133) and the following error (R140). -/

@[simp] theorem writeCell_time {s out next} : (writeCell s out next d).time = d.time := by rfl

@[simp] theorem countSat_time {c n} : (countSat c n d).time = d.time := by
  unfold countSat
  extract_lets quiet _ counted
  have h : counted.time = d.time := rfl
  cases quiet <;> simp [h]

@[simp] theorem legSlot_time {n} : (legSlot n d).time = d.time := by simp [legSlot]
@[simp] theorem railSlot_time {j} : (railSlot j d).time = d.time := by simp [railSlot]
@[simp] theorem axisSlot_time {torqueOff x} : (axisSlot torqueOff x d).time = d.time := by simp [axisSlot]
theorem execFollowingErrorTimer_answers {x} : Answers s (execFollowingErrorTimer x s) := done_answers (by simp)
@[simp] theorem thermalSlot_time {w} : (thermalSlot w d).time = d.time := by simp [thermalSlot]
@[simp] theorem slotFault_time {s} : (slotFault s d).time = d.time := by simp [slotFault]

@[simp] theorem repeatOutput_time {before s} : (repeatOutput before s d).time = d.time := by
  simp [repeatOutput]

@[simp] theorem rebuildSlot_time {s} : (rebuildSlot s d).time = d.time := by simp [rebuildSlot]
@[simp] theorem legOutput_time {n phase} : (legOutput n phase d).time = d.time := by simp [legOutput]

/-! Injection, response analysis, capture and sequence timers (R141 to R146). -/

@[simp] theorem signalPeriod_time : (signalPeriod d).time = d.time := foldl_time fun _ _ => rfl
@[simp] theorem analyse_time {c} : (analyse c d).time = d.time := by simp [analyse]
@[simp] theorem writeResults_time {c complete} : (writeResults c complete d).time = d.time := by simp [writeResults]

@[simp] theorem putCapture_time {u ws} : (putCapture u ws d).time = d.time := by
  induction ws generalizing u d with
  | nil => rfl
  | cons w r ih =>
    unfold putCapture
    simp [ih]

@[simp] theorem captureFrame_time {c} : (captureFrame c d).time = d.time := by simp [captureFrame]
@[simp] theorem analysisCells_time {c} : (analysisCells c d).time = d.time := by simp [analysisCells]

@[simp] theorem advanceSignal_time {c} : (advanceSignal c d).time = d.time := by
  unfold advanceSignal
  split <;> simp

@[simp] theorem analysisPeriod_time : (analysisPeriod d).time = d.time := by simp [analysisPeriod]
@[simp] theorem releaseTimers_time {owner} : (releaseTimers owner d).time = d.time := by simp [releaseTimers]
@[simp] theorem injClose_time {c st cause status} : (injClose c st cause status d).time = d.time := by simp [injClose]
@[simp] theorem injectionEnd_time {c} : (injectionEnd c d).time = d.time := by simp [injectionEnd]
@[simp] theorem injAbort_time {c cause} : (injAbort c cause d).time = d.time := by simp [injAbort]

@[simp] theorem abortPeriod_time {released} : (abortPeriod released d).time = d.time := by
  refine foldl_time fun _ _ => ?_
  split
  · split <;> simp
  · rfl

@[simp] theorem injBegin_time {c session} : (injBegin c session d).time = d.time := by simp [injBegin]
@[simp] theorem generatorStart_time {g} : (generatorStart g d).time = d.time := by simp [generatorStart]

theorem execGeneratorStartDelayExpiry_answers {g} :
    Answers s (execGeneratorStartDelayExpiry g s) := done_answers (by split <;> simp)

/-! The allocator's planning: limits, demands, grants, layout and the move list (R149 to R161). -/

@[simp] theorem gridWrite_time : (gridWrite d).time = d.time := by rfl
theorem execGridLimitExpiry_answers : Answers s (execGridLimitExpiry s) := done_answers (by split <;> simp)
@[simp] theorem onFront_time {i f} : (onFront i f d).time = d.time := by rfl
@[simp] theorem frontData_time {i imp exp stamp} : (frontData i imp exp stamp d).time = d.time := by simp [frontData]
theorem execFrontEndStale_answers {i} : Answers s (execFrontEndStale i s) := done_answers (by split <;> simp)

theorem execFrontEndStaleHoldExpiry_answers {i} :
    Answers s (execFrontEndStaleHoldExpiry i s) := done_answers (by split <;> simp)

@[simp] theorem planningCycle_base : (planningCycle d).time.base = d.time.base := by rfl
theorem execPlanningOverrun_answers : Answers s (execPlanningOverrun s) := done_answers (by split <;> simp)

theorem execReleaseHoldExpiry_answers {head} :
    Answers s (execReleaseHoldExpiry head s) := done_answers (by split <;> simp)

@[simp] theorem replan_time : (replan d).time = d.time := by rfl

/-! Moves carried out: handover, their states and what meets them (R162 to R173), and the plan decided. -/

@[simp] theorem onMove_time {i f} : (onMove i f d).time = d.time := by rfl
@[simp] theorem takeGenerator_time {g p target} : (takeGenerator g p target d).time = d.time := by rfl
@[simp] theorem sendAllocation_time : (sendAllocation d).time = d.time := by rfl

@[simp] theorem endMove_time {i st cause} : (endMove i st cause d).time = d.time := by
  unfold endMove
  split
  · rfl
  · extract_lets d1 _ d2 d3 d4 _ d5 d6
    have h1 : d1.time = d.time := by
      unfold d1
      split <;> rfl
    have h3 : d3.time = d.time := foldl_of_time h1 fun _ _ => rfl
    have h5 : d5.time = d.time := by simp [d5, d4, h3]
    have h6 : d6.time = d.time := by
      unfold d6
      split <;> simp [h5]
    simp [h6]

@[simp] theorem enterPhase_time {i p} : (enterPhase i p d).time = d.time := by rfl
@[simp] theorem askContactor_time {x closed} : (askContactor x closed d).time = d.time := by simp [askContactor]

@[simp] theorem beginRelease_time {i g} : (beginRelease i g d).time = d.time := by
  unfold beginRelease
  (repeat' split) <;> simp

@[simp] theorem beginTake_time {i g p} : (beginTake i g p d).time = d.time := by
  unfold beginTake
  split <;> simp

@[simp] theorem grantsPeriod_time : (grantsPeriod d).time = d.time := by simp [grantsPeriod]

@[simp] theorem moveStart_time {i} : (moveStart i d).time = d.time := by
  simp only [moveStart]
  (repeat' split) <;> simp

@[simp] theorem withdraw_time {m} : (withdraw m d).time = d.time := by
  unfold withdraw
  split <;> simp

@[simp] theorem reverseMove_time {i cause} : (reverseMove i cause d).time = d.time := by
  unfold reverseMove
  (repeat' split) <;> simp

@[simp] theorem failMove_time {i cause} : (failMove i cause d).time = d.time := by
  unfold failMove
  split <;> simp

@[simp] theorem handoverEnd_time {i} : (handoverEnd i d).time = d.time := by
  unfold handoverEnd
  (repeat' split) <;> simp

theorem execHandoverTimeout_answers {n} : Answers s (execHandoverTimeout n s) := done_answers (by split <;> simp)
theorem execOpenWaitLimit_answers {n} : Answers s (execOpenWaitLimit n s) := done_answers (by split <;> simp)
theorem execRestoreWaitLimit_answers {n} : Answers s (execRestoreWaitLimit n s) := done_answers (by split <;> simp)

@[simp] theorem noteGrant_time {i} : (noteGrant d i).time = d.time := by
  unfold noteGrant
  (repeat' split) <;> simp

@[simp] theorem applyCause_time {i cause} : (applyCause i cause d).time = d.time := by
  unfold applyCause
  split <;> simp

@[simp] theorem moveEvents_time {released i} : (moveEvents released d i).time = d.time := by
  unfold moveEvents
  split <;> simp

@[simp] theorem groupEvents_time {i} : (groupEvents d i).time = d.time := by
  unfold groupEvents
  (repeat' split) <;> simp

@[simp] theorem contactorPhase_time {i} : (contactorPhase d i).time = d.time := by
  unfold contactorPhase
  split
  · rfl
  · split
    · rfl
    · extract_lets _ taken
      have h : taken.time = d.time := beginTake_time
      split
      · rfl
      · split <;> simp [h]

@[simp] theorem followerTies_time : (followerTies d).time = d.time := by simp [followerTies]
@[simp] theorem omitMove_time {i} : (omitMove i d).time = d.time := by simp [omitMove]

@[simp] theorem omitAll_time : (omitAll d).time = d.time := by
  refine foldl_time fun _ _ => ?_
  split <;> simp

@[simp] theorem takePlan_time {p t} : (takePlan p t d).time = d.time := by
  refine Eq.trans (onAlloc_time ..) (foldl_time fun _ _ => ?_)
  split <;> simp

@[simp] theorem decidePlan_time : (decidePlan d).time = d.time := by
  unfold decidePlan
  (repeat' split) <;> simp

@[simp] theorem allocatorPeriod_time {released} :
    (allocatorPeriod released d).time = d.time := by simp [allocatorPeriod]

/-! The outlet state machine (R179 to R203, R502, R503). -/

@[simp] theorem sendStatus_time {k} : (sendStatus k d).time = d.time := by rfl
@[simp] theorem outEnter_time {k s} : (outEnter k s d).time = d.time := by simp [outEnter]
@[simp] theorem beginFast_time {k} : (beginFast k d).time = d.time := by simp [beginFast]
@[simp] theorem recordCause_time {k c} : (recordCause k c d).time = d.time := by simp [recordCause]
@[simp] theorem dropTarget_time {k} : (dropTarget k d).time = d.time := by rfl
@[simp] theorem keepLimit_time {k} : (keepLimit k d).time = d.time := by simp [keepLimit]
@[simp] theorem holdSetPoint_time {k} : (holdSetPoint k d).time = d.time := by simp [holdSetPoint]
@[simp] theorem endCheck_time {k} : (endCheck k d).time = d.time := by simp [endCheck]
@[simp] theorem weldStop_time {k} : (weldStop k d).time = d.time := by simp [weldStop]
@[simp] theorem enterFaulted_time {k c} : (enterFaulted k c d).time = d.time := by simp [enterFaulted]
@[simp] theorem enterWinddown_time {k c} : (enterWinddown k c d).time = d.time := by simp [enterWinddown]
@[simp] theorem raiseCause_time {k c} : (raiseCause k c d).time = d.time := by rfl
@[simp] theorem raiseEvent_time {k e} : (raiseEvent k e d).time = d.time := by rfl
@[simp] theorem laterCause_time {k c} : (laterCause k c d).time = d.time := by simp [laterCause]

@[simp] theorem takeCauses_time {k l} : (takeCauses k l d).time = d.time := by
  simp only [takeCauses]
  (repeat' split) <;> simp

@[simp] theorem acceptUpdate_time {k b} : (acceptUpdate k b d).time = d.time := by simp [acceptUpdate]
@[simp] theorem sessionVoltage_time {k v} : (sessionVoltage k v d).time = d.time := by simp [sessionVoltage]
@[simp] theorem targetUpdate_time {b} : (targetUpdate b d).time = d.time := by simp [targetUpdate]

theorem execVehicleTargetUpdate_answers {m} : Answers s (execVehicleTargetUpdate m s) := by
  simp only [execVehicleTargetUpdate]
  (repeat' split) <;> exact done_answers (by simp)

@[simp] theorem imdReading_time {k x} : (imdReading k x d).time = d.time := by
  simp only [imdReading]
  (repeat' split) <;> simp

@[simp] theorem newerReading_time {k x} : (newerReading k x d).time = d.time := by
  unfold newerReading
  split <;> simp

theorem execCableCheckRailReady_answers {k} : Answers s (execCableCheckRailReady k s) := done_answers (by simp)
@[simp] theorem beginRaise_time {k} : (beginRaise k d).time = d.time := by simp [beginRaise]

@[simp] theorem checkPeriod_time {k} : (checkPeriod k d).time = d.time := by
  simp only [checkPeriod]
  (repeat' split) <;> simp

theorem execImdSettleExpiry_answers {k} :
    Answers s (execImdSettleExpiry k s) := done_answers (by (repeat' split) <;> simp)

theorem execCableCheckTimeout_answers {k} : Answers s (execCableCheckTimeout k s) := done_answers (by simp)
theorem execCableShort_answers {k} : Answers s (execCableShort k s) := done_answers (by simp)
theorem execImdAgeExpiry_answers {k} : Answers s (execImdAgeExpiry k s) := done_answers (by (repeat' split) <;> simp)

@[simp] theorem applyPhase_time {k} : (applyPhase k d).time = d.time := by
  simp only [applyPhase]
  (repeat' split) <;> simp

theorem execDirectionChangeComplete_answers {k} : Answers s (execDirectionChangeComplete k s) := done_answers (by simp)
@[simp] theorem returnToService_time {k} : (returnToService k d).time = d.time := by rfl
@[simp] theorem enterWeld_time {k} : (enterWeld k d).time = d.time := by simp [enterWeld]
@[simp] theorem enterPlugged_time {k} : (enterPlugged k d).time = d.time := by rfl

@[simp] theorem takeEvent_time {k e} : (takeEvent k e d).time = d.time := by
  simp only [takeEvent]
  (repeat' split) <;> simp

@[simp] theorem quietPeriod_time {k events} : (quietPeriod k events d).time = d.time := by
  unfold quietPeriod
  (repeat' split) <;> simp

@[simp] theorem statusPeriod_time {k} : (statusPeriod k d).time = d.time := by simp [statusPeriod]

@[simp] theorem outletPeriod_time {k} : (outletPeriod k d).time = d.time := by
  simp only [outletPeriod]
  (repeat' split) <;> simp

@[simp] theorem outletGenerators_time : (outletGenerators d).time = d.time := by
  refine foldl_time fun d k => ?_
  extract_lets _ _ _ woken _ _
  have h : woken.time = d.time := by simp [woken]
  split
  · rfl
  · split
    · rfl
    · split <;> simp [h]

theorem execFastStopEnd_answers {k} : Answers s (execFastStopEnd k s) := done_answers (by split <;> simp)
@[simp] theorem releaseOutlets_time {x} : (releaseOutlets x d).time = d.time := by simp [releaseOutlets]
theorem execOutletContactorOpen_answers {k} : Answers s (execOutletContactorOpen k s) := done_answers (by simp)

theorem execFaultedRailStop_answers {k} : Answers s (execFaultedRailStop k s) := by
  simp only [execFaultedRailStop]
  (repeat' split) <;> exact done_answers (by simp)

theorem execWinddownTimeout_answers {k} : Answers s (execWinddownTimeout k s) := done_answers (by simp)
theorem execWeldCheckPass_answers {k} : Answers s (execWeldCheckPass k s) := done_answers (by simp)
theorem execCableDischargeExpiry_answers {k} : Answers s (execCableDischargeExpiry k s) := done_answers (by simp)
theorem execConnectionDetected_answers {k} : Answers s (execConnectionDetected k s) := done_answers (by simp)
theorem execUnplugDetected_answers {k} : Answers s (execUnplugDetected k s) := done_answers (by simp)
theorem execPlugTimeout_answers {k} : Answers s (execPlugTimeout k s) := done_answers (by simp)
theorem execTargetTimeout_answers {k} : Answers s (execTargetTimeout k s) := done_answers (by simp)
@[simp] theorem repeatUpdate_time {k} : (repeatUpdate k d).time = d.time := by simp [repeatUpdate]
@[simp] theorem repeatUpdates_time : (repeatUpdates d).time = d.time := by simp [repeatUpdates]
@[simp] theorem metrologyFeed_time {k v i} : (metrologyFeed k v i d).time = d.time := by simp [metrologyFeed]

/-! The metering link, the registers, the sessions, the signed records, the pulses and the saves (R210 to R247, R31). -/

@[simp] theorem onMeter_time {k f} : (onMeter k f d).time = d.time := by rfl
@[simp] theorem onSession_time {k f} : (onSession k f d).time = d.time := by rfl

@[simp] theorem audit_time {kind session idx sub old new} :
    (audit kind session idx sub old new d).1.time = d.time := by simp [audit]

@[simp] theorem auditAlways_time {kind} : (auditAlways kind d).time = d.time := by simp [auditAlways]

@[simp] theorem recallTransition_time : (recallTransition d).time = d.time := by
  unfold recallTransition
  split <;> simp

@[simp] theorem missFrames_time {k n} : (missFrames k n d).time = d.time := by simp [missFrames]
@[simp] theorem onPulse_time {p f} : (onPulse p f d).time = d.time := by rfl
@[simp] theorem testPulses_time {k date power dt} : (testPulses k date power dt d).time = d.time := by simp [testPulses]

@[simp] theorem takeSample_time {k counts r date v i} :
    (takeSample k counts r date v i d).time = d.time := by simp [takeSample]

@[simp] theorem takeFrameSamples_time {k arrival f} :
    (takeFrameSamples k arrival f d).time = d.time := by simp [takeFrameSamples]

@[simp] theorem meterFrame_time {k arrival f} : (meterFrame k arrival f d).time = d.time := by simp [meterFrame]

theorem execMeteringUplinkFrame_answers {k arrival f} :
    Answers s (execMeteringUplinkFrame k arrival f s) := done_answers (by (repeat' split) <;> simp)

theorem execMeteringDownlinkFrame_answers {k} : Answers s (execMeteringDownlinkFrame k s) := done_answers (by simp)
theorem execMeteringLinkDown_answers {k} : Answers s (execMeteringLinkDown k s) := done_answers (by simp)
theorem execMeteringLinkUp_answers {k} : Answers s (execMeteringLinkUp k s) := done_answers (by simp)
@[simp] theorem pulseEdge_time {p t} : (pulseEdge p t d).time = d.time := by rfl

@[simp] theorem pulseInterval_time {k t del ret p} :
    (pulseInterval k t del ret d p).time = d.time := by simp [pulseInterval]

@[simp] theorem endInterval_time {k a} : (endInterval k d a).time = d.time := by simp [endInterval]
@[simp] theorem endIntervals_time {last k} : (endIntervals last k d).time = d.time := by simp [endIntervals]
@[simp] theorem sendFeed_time : (sendFeed d).time = d.time := by simp [sendFeed]
@[simp] theorem closeTo_time {t} : (closeTo t d).time = d.time := by simp [closeTo]
theorem execMeteringIntervalEnd_answers : Answers s (execMeteringIntervalEnd s) := done_answers (by simp)
theorem execPulseBacklogIssue_answers {p} : Answers s (execPulseBacklogIssue p s) := done_answers (by simp)
theorem execTestPulseEdge_answers {p} : Answers s (execTestPulseEdge p s) := done_answers (by split <;> simp)

theorem execOutletStatusCopy_answers {k state time holder} :
    Answers s (execOutletStatusCopy k state time holder s) := done_answers (by simp)

@[simp] theorem openSession_time {k role late at_ number} :
    (openSession k role late at_ number d).time = d.time := by rfl

theorem execMeteringSessionOpen_answers {k} :
    Answers s (execMeteringSessionOpen k s) := done_answers (by split <;> simp)

theorem execMeteringSessionClose_answers {k} :
    Answers s (execMeteringSessionClose k s) := done_answers (by split <;> simp)

@[simp] theorem meterTakeOver_time : (meterTakeOver d).time = d.time := by simp [meterTakeOver]
theorem execLateStartWitness_answers {k} : Answers s (execLateStartWitness k s) := done_answers (by split <;> simp)
@[simp] theorem sendRecord_time {seq p} : (sendRecord seq p d).time = d.time := by rfl
theorem execRecordSigned_answers : Answers s (execRecordSigned s) := done_answers (by split <;> simp)

theorem execMeteringRecord_answers {m} : Answers s (execMeteringRecord m s) := by
  simp only [execMeteringRecord]
  (repeat' split) <;> exact done_answers (by simp)

theorem execMeteringRecordAcknowledge_answers {m} : Answers s (execMeteringRecordAcknowledge m s) := by
  simp only [execMeteringRecordAcknowledge]
  (repeat' split) <;> exact done_answers (by simp)

theorem execMeteringRecordRetransmit_answers {seq} :
    Answers s (execMeteringRecordRetransmit seq s) := done_answers (by (repeat' split) <;> simp)

@[simp] theorem writeSave_time {final} : (writeSave final d).time = d.time := by simp [writeSave]
theorem execPeriodicSave_answers : Answers s (execPeriodicSave s) := done_answers (by simp)
theorem execFinalWriteStart_answers : Answers s (execFinalWriteStart s) := done_answers (by split <;> simp)

@[simp] theorem startMetering_time {unbroken} : (startMetering unbroken d).time = d.time := by
  unfold startMetering
  extract_lets d1
  have h1 : d1.time = d.time := rfl
  split
  · exact h1
  · extract_lets d2 d3
    have h3 : d3.time = d.time := by
      unfold d3
      split <;> simp [d2, h1]
    refine foldl_of_time h3 fun _ _ => ?_
    split <;> rfl

theorem execMetrologyStartClose_answers : Answers s (execMetrologyStartClose s) := done_answers (by simp)

theorem execMetrologyRestartContinuation_answers : Answers s (execMetrologyRestartContinuation s) := by
  refine done_answers ?_
  split
  · refine congrArg Timebase.base (foldl_of_time startMetering_time fun _ _ => ?_)
    split
    · split <;> simp
    · rfl
  · rfl

@[simp] theorem sealed_time {kind session idx sub new} :
    (sealed kind session idx sub new d).time = d.time := by simp [sealed]

@[simp] theorem openWindow_time {session} : (openWindow session d).time = d.time := by simp [openWindow]
@[simp] theorem shutWindow_time {session} : (shutWindow session d).time = d.time := by simp [shutWindow]
theorem execMetrologyWindowExpiry_answers : Answers s (execMetrologyWindowExpiry s) := done_answers (by split <;> simp)
@[simp] theorem pairHead_time {k session} : (pairHead k session d).time = d.time := by simp [pairHead]

/-! The safety island: inputs, instances, outputs, Ridge connections and the configuration transaction (R250 to R293). -/

@[simp] theorem onInput_time {n f} : (onInput n f d).time = d.time := by rfl
@[simp] theorem onCore_time {c f} : (onCore c f d).time = d.time := by rfl
@[simp] theorem onConsumer_time {c f} : (onConsumer c f d).time = d.time := by rfl
@[simp] theorem onProducer_time {p f} : (onProducer p f d).time = d.time := by rfl
@[simp] theorem resetEvent_time {scope} : (resetEvent scope d).time = d.time := by simp [resetEvent]

@[simp] theorem sampleInput_time {n a b} : (sampleInput n a b d).time = d.time := by
  unfold sampleInput
  extract_lets _ _ _ d1 _ _ _ _ _ _ _ _ d2 d3
  have h2 : d2.time = d.time := by
    unfold d2
    split
    · simp [d1]
    · rfl
  have h3 : d3.time = d.time := by simp [d3, h2]
  exact h3

theorem execSafetyInputSample_answers {a b fb} : Answers s (execSafetyInputSample a b fb s) := done_answers (by simp)
theorem execDiscrepancyTimeout_answers {n} : Answers s (execDiscrepancyTimeout n s) := done_answers (by split <;> simp)
@[simp] theorem outputFault_time {core i} : (outputFault core i d).time = d.time := by simp [outputFault]
@[simp] theorem readback_time {core read} : (readback core read d).time = d.time := by simp [readback]

theorem execDarkPulseTest_answers {core o took} :
    Answers s (execDarkPulseTest core o took s) := done_answers (by (repeat' split) <;> simp)

theorem execDarkPulseTimeout_answers {core o} :
    Answers s (execDarkPulseTimeout core o s) := done_answers (by split <;> simp)

@[simp] theorem ridgeSend_time {slot network address f} : (ridgeSend slot network address f d).time = d.time := by rfl
@[simp] theorem consumerFault_time {c cause} : (consumerFault c cause d).time = d.time := by rfl

@[simp] theorem consumerAccept_time {c b} : (consumerAccept c b d).time = d.time := by
  simp only [consumerAccept]
  (repeat' split) <;> simp

@[simp] theorem consumerFrame_time {c b} : (consumerFrame c b d).time = d.time := by
  simp only [consumerFrame]
  (repeat' split) <;> simp

theorem execRidgeFrameToSafety_answers {m} : Answers s (execRidgeFrameToSafety m s) := by
  simp only [execRidgeFrameToSafety]
  (repeat' split) <;> exact done_answers (by simp)

theorem execRidgeWatchdog_answers {c} : Answers s (execRidgeWatchdog c s) := done_answers (by simp)
theorem execRidgeFaultRecovery_answers {c} : Answers s (execRidgeFaultRecovery c s) := done_answers (by simp)

@[simp] theorem producerSend_time {p restart seq} :
    (producerSend p restart seq d).time = d.time := by simp [producerSend]

@[simp] theorem producerCycle_time {p} : (producerCycle d p).time = d.time := by
  simp only [producerCycle]
  (repeat' split) <;> simp

@[simp] theorem producerFault_time {p} : (producerFault p d).time = d.time := by rfl

@[simp] theorem producerAck_time {p b} : (producerAck p b d).time = d.time := by
  unfold producerAck
  (repeat' split) <;> simp

theorem execRidgeAcknowledge_answers {m} : Answers s (execRidgeAcknowledge m s) := by
  unfold execRidgeAcknowledge
  split
  rename_i d ok e
  have h : d.time = s.dev.time := (congrArg (·.1.time) e).symm.trans receive_time
  exact done_answers (by simp [h])

theorem execRidgeProducerWatchdog_answers {p} : Answers s (execRidgeProducerWatchdog p s) := done_answers (by simp)

@[simp] theorem sendAcks_time : (sendAcks d).time = d.time := by
  refine foldl_time fun _ _ => ?_
  split <;> simp

@[simp] theorem safetyLog_time {kind session before after} :
    (safetyLog kind session before after d).time = d.time := by simp [safetyLog]

@[simp] theorem safetyLogSame_time {kind session} :
    (safetyLogSame kind session d).time = d.time := by simp [safetyLogSame]

@[simp] theorem enterStart_time : (enterStart d).time = d.time := by rfl

@[simp] theorem applyCommit_time {t} : (applyCommit t d).time = d.time := by
  have sums : (t.pending.foldl (fun d p => setVal p.1 p.2 d) d).time = d.time := foldl_time fun _ _ => rfl
  unfold applyCommit
  simp [sums]

@[simp] theorem lockSafety_time {cause} : (lockSafety cause d).time = d.time := by rfl

theorem execCoreDisagreement_answers {cause} :
    Answers s (execCoreDisagreement cause s) := done_answers (by (repeat' split) <;> simp)

theorem execSafetySelfTestComplete_answers {pass} :
    Answers s (execSafetySelfTestComplete pass s) := done_answers (by simp)

@[simp] theorem startFeedback_time {j src} : (startFeedback j src d).time = d.time := by simp [startFeedback]
@[simp] theorem setInst_time {c i x} : (setInst c i x d).time = d.time := by simp [setInst]

@[simp] theorem instCycle_time {c i} : (instCycle c d i).time = d.time := by
  unfold instCycle
  (repeat' split) <;> simp

@[simp] theorem switchCycle_time {c} : (switchCycle c d).time = d.time := by
  refine foldl_of_time (onCore_time ..) fun _ _ => ?_
  split
  · simp
  · rfl

@[simp] theorem markDemands_time : (markDemands d).time = d.time := by simp [markDemands]

theorem execSafetyCycle_answers {core agree read} : Answers s (execSafetyCycle core agree read s) := by
  unfold execSafetyCycle
  extract_lets d0 d1 d2 d3 d4 d5 d6 a b same d7 d8 rest
  have h1 : d1.time.base = d0.time.base := reach_base
  have h2 : d2.time = d1.time := onCore_time
  have h7 : d7.time = d2.time := by simp [d7, d6, d5, d4, d3]
  have h8 : d8.time = d2.time := by
    unfold d8
    split <;> simp [h7]
  clear_value d1 d2 d8 same
  refine done_answers ?_
  split
  · rfl
  · split
    · simp [h2, h1, d0]
    · split
      · split <;> simp [h8, h2, h1, d0]
      · simp [h8, h2, h1, d0]

theorem execCurrentWaitTimeout_answers {j} : Answers s (execCurrentWaitTimeout j s) := done_answers (by simp)
theorem execFeedbackTimerEnd_answers {j} : Answers s (execFeedbackTimerEnd j s) := done_answers (by split <;> simp)
@[simp] theorem resetFaults_time {i} : (resetFaults i d).time = d.time := by rfl
@[simp] theorem usePassword_time : (usePassword d).time = d.time := by rfl
@[simp] theorem writePassword_time {session p} : (writePassword session p d).time = d.time := by simp [writePassword]
theorem execPasswordHoldExpiry_answers : Answers s (execPasswordHoldExpiry s) := done_answers (by split <;> simp)
theorem execLockoutExpiry_answers : Answers s (execLockoutExpiry s) := done_answers (by split <;> simp)
@[simp] theorem openTrans_time {session} : (openTrans session d).time = d.time := by simp [openTrans]
@[simp] theorem endTrans_time {kind session} : (endTrans kind session d).time = d.time := by simp [endTrans]
theorem execTransactionTimeout_answers : Answers s (execTransactionTimeout s) := done_answers (by split <;> simp)

@[simp] theorem commitTrans_time {session} : (commitTrans session d).time = d.time := by
  unfold commitTrans
  split <;> simp

@[simp] theorem safeWrite_time {k v} : (safeWrite k v d).time = d.time := by simp [safeWrite]
@[simp] theorem restartSafety_time {session} : (restartSafety session d).time = d.time := by simp [restartSafety]

/-! The protected load channels, current sense and limp-home (R295 to R320, R480). -/

@[simp] theorem onChan_time {n f} : (onChan n f d).time = d.time := by rfl
@[simp] theorem energise_time {n} : (energise n d).time = d.time := by rfl
@[simp] theorem goOff_time {s n} : (goOff s n d).time = d.time := by simp [goOff]
@[simp] theorem retryChannel_time {n} : (retryChannel n d).time = d.time := by simp [retryChannel]

@[simp] theorem followCommand_time {n} : (followCommand n d).time = d.time := by
  simp only [followCommand]
  (repeat' split) <;> simp

@[simp] theorem drivePins_time : (drivePins d).time = d.time := by rfl
@[simp] theorem followAll_time : (followAll d).time = d.time := by simp [followAll]
@[simp] theorem tripChannel_time {n cause} : (tripChannel n cause d).time = d.time := by simp [tripChannel]
theorem execLoadCommandStale_answers : Answers s (execLoadCommandStale s) := done_answers (by simp)
theorem execOrphanTimeout_answers : Answers s (execOrphanTimeout s) := done_answers (by split <;> simp)
@[simp] theorem heatAll_time : (heatAll d).time = d.time := by rfl

theorem execWireModelUpdate_answers {current junction} :
    Answers s (execWireModelUpdate current junction s) := done_answers (by simp)

theorem execRetryDelayExpiry_answers {n} : Answers s (execRetryDelayExpiry n s) := done_answers (by simp)
theorem execRetryResetExpiry_answers {n} : Answers s (execRetryResetExpiry n s) := done_answers (by split <;> simp)
theorem execJunctionLatch_answers {n temp} : Answers s (execJunctionLatch n temp s) := done_answers (by simp)

@[simp] theorem clearChannel_time {n} : (clearChannel n d).time = d.time := by
  unfold clearChannel
  split <;> simp

theorem execClampEvent_answers {n} : Answers s (execClampEvent n s) := done_answers (by simp)
theorem execOpenLoadDetection_answers {n} : Answers s (execOpenLoadDetection n s) := done_answers (by split <;> simp)
@[simp] theorem staleReadings_time : (staleReadings d).time = d.time := by simp [staleReadings]
theorem execSenseScanStep_answers {pin} : Answers s (execSenseScanStep pin s) := done_answers (by simp)
theorem execExtselChange_answers {high} : Answers s (execExtselChange high s) := done_answers (by simp)
theorem execLimpNChange_answers {asserted} : Answers s (execLimpNChange asserted s) := done_answers (by simp)
theorem execLhInChange_answers {n high} : Answers s (execLhInChange n high s) := done_answers (by simp)
theorem execDissipationEstimate_answers : Answers s (execDissipationEstimate s) := done_answers (by simp)
@[simp] theorem releaseChannel_time {n} : (releaseChannel n d).time = d.time := by simp [releaseChannel]

/-! The peer link, the dowel lease, take-over, the hot shadow, resynchronisation and the swap (R322 to R345). -/

@[simp] theorem learnEpoch_time {e} : (learnEpoch e d).time = d.time := by rfl
@[simp] theorem setRole_time {r} : (setRole r d).time = d.time := by simp [setRole]
@[simp] theorem peerReceive_time {type f} : (peerReceive type f d).1.time = d.time := by simp [peerReceive]
@[simp] theorem peerSend_time {type payload} : (peerSend type payload d).time = d.time := by rfl
theorem execPeerPortDown_answers {p} : Answers s (execPeerPortDown p s) := done_answers (by simp)
@[simp] theorem enterSyncing_time : (enterSyncing d).time = d.time := by simp [enterSyncing]
@[simp] theorem holdOutlet_time {k} : (holdOutlet d k).time = d.time := by simp [holdOutlet]

@[simp] theorem takeLease_time {role epoch} : (takeLease role epoch d).time = d.time := by
  unfold takeLease
  extract_lets _ d1 d2 d3 _ d4 d5 d6
  have h4 : d4.time = d.time := by simp [d4, d3, d2, d1]
  have h5 : d5.time = d.time := by
    refine foldl_of_time h4 fun d n => ?_
    split <;> rfl
  have h6 : d6.time = d.time := foldl_of_time (meterTakeOver_time.trans h5) fun _ _ => holdOutlet_time
  clear_value d6
  exact h6

theorem execDowelRenewalSend_answers : Answers s (execDowelRenewalSend s) := done_answers (by simp)

theorem execDowelRenewal_answers {f} : Answers s (execDowelRenewal f s) := by
  simp only [execDowelRenewal]
  (repeat' split) <;> exact done_answers (by simp)

theorem execLeaseExpiry_answers : Answers s (execLeaseExpiry s) := done_answers (by simp)
@[simp] theorem sendBid_time : (sendBid d).time = d.time := by simp [sendBid]
theorem execBidGuardExpiry_answers : Answers s (execBidGuardExpiry s) := done_answers (by simp)
theorem execBidWaitExpiry_answers : Answers s (execBidWaitExpiry s) := done_answers (by split <;> simp)
@[simp] theorem answerBid_time {epoch result} : (answerBid epoch result d).time = d.time := by rfl

theorem execBid_answers {f} : Answers s (execBid f s) := by
  simp only [execBid]
  (repeat' split) <;> exact done_answers (by simp)

theorem execBidAnswer_answers {f} : Answers s (execBidAnswer f s) := by
  simp only [execBidAnswer]
  (repeat' split) <;> exact done_answers (by simp)

theorem execLeaseSupportLost_answers : Answers s (execLeaseSupportLost s) := done_answers (by simp)
theorem execHolderLeaseEnd_answers : Answers s (execHolderLeaseEnd s) := done_answers (by simp)

@[simp] theorem takeOver_time : (takeOver d).time = d.time := by
  unfold takeOver
  extract_lets gap marked
  clear_value gap
  simp [marked]

@[simp] theorem restoreSlots_time {x} : (restoreSlots x d).time = d.time := by simp [restoreSlots]

@[simp] theorem adoptMirror_time {x} : (adoptMirror x d).time = d.time := by
  unfold adoptMirror
  exact foldl_time fun _ _ => rfl

@[simp] theorem followBoundary_time {x} : (followBoundary x d).time = d.time := by simp [followBoundary]

theorem execMirrorBlock_answers {f x} : Answers s (execMirrorBlock f x s) := by
  simp only [execMirrorBlock]
  (repeat' split) <;> exact done_answers (by simp)

theorem execInStepGained_answers : Answers s (execInStepGained s) := done_answers (by simp)

theorem execInStepLost_answers {cause} : Answers s (execInStepLost cause s) := by
  unfold execInStepLost
  extract_lets d lost
  have hlost : ∀ e ∈ lost, e.time.base = d.time.base := by
    have reached {o : Option Nat} {f : Nat → Nat} :
        ∀ e ∈ o.map (fun t => reach (f t) d), e.time.base = d.time.base := by
      intro e he
      obtain ⟨t, -, rfl⟩ := Option.map_eq_some_iff.1 he
      exact reach_base
    unfold lost
    split
    · intro e he
      split at he <;> cases he
      rfl
    · exact reached
    · exact reached
  clear_value lost
  refine done_answers ?_
  split
  · rfl
  · split
    · simp [hlost _ rfl, d]
    · rfl

theorem execPeerStatus_answers {f x} : Answers s (execPeerStatus f x s) := by
  simp only [execPeerStatus]
  (repeat' split) <;> exact done_answers (by simp)

theorem execResyncTimeout_answers : Answers s (execResyncTimeout s) := done_answers (by split <;> simp)
@[simp] theorem beginSwap_time : (beginSwap d).time = d.time := by rfl

theorem execYield_answers {f} : Answers s (execYield f s) := by
  simp only [execYield]
  (repeat' split) <;> exact done_answers (by simp)

theorem execYieldAcknowledge_answers {f} : Answers s (execYieldAcknowledge f s) := by
  simp only [execYieldAcknowledge]
  (repeat' split) <;> exact done_answers (by simp)

theorem execYieldAckTimeout_answers : Answers s (execYieldAckTimeout s) := done_answers (by split <;> simp)
theorem execSwapBoundary_answers : Answers s (execSwapBoundary s) := done_answers (by split <;> simp)

theorem execSwitchOverTargetHoldExpiry_answers {k} : Answers s (execSwitchOverTargetHoldExpiry k s) := by
  simp only [execSwitchOverTargetHoldExpiry]
  (repeat' split) <;> exact done_answers (by simp)

/-! The CAN FD controllers, address claiming, Ethernet, TLS connections and time following (R346 to R364, R386 to R390). -/

@[simp] theorem enableCan_time {c enabled} : (enableCan c enabled d).time = d.time := by simp [enableCan]
@[simp] theorem stage_time {c urgent f} : (stage c urgent f d).time = d.time := by simp [stage]
@[simp] theorem stageAll_time {f} : (stageAll f d).time = d.time := by simp [stageAll]

@[simp] theorem stagingAdmission_time {c} : (stagingAdmission c d).time = d.time := by
  simp only [stagingAdmission]
  (repeat' split) <;> simp

theorem execCanFrameTransmitted_answers {c} :
    Answers s (execCanFrameTransmitted c s) := done_answers (by split <;> simp)

theorem execBusOffRecovery_answers {c} : Answers s (execBusOffRecovery c s) := done_answers (by simp)

@[simp] theorem deliver_time {conn code m} : (deliver conn code m d).time = d.time := by
  unfold deliver
  split <;> simp

@[simp] theorem notify_time {n service data} : (notify n service data d).time = d.time := by
  unfold notify
  split <;> simp

@[simp] theorem notice_time {n code group} : (notice n code group d).time = d.time := by simp [notice]
@[simp] theorem noticeAll_time {code group} : (noticeAll code group d).time = d.time := by simp [noticeAll]
@[simp] theorem hear_time {id} : (hear id d).time = d.time := by simp [hear]

@[simp] theorem canReceive_time {c f extended remote} : (canReceive c f extended remote d).time = d.time := by
  simp only [canReceive]
  (repeat' split) <;> simp

@[simp] theorem claimId_time {id} : (claimId id d).time = d.time := by simp [claimId]

@[simp] theorem startClaim_time : (startClaim d).time = d.time := by
  unfold startClaim
  split <;> simp

@[simp] theorem claimNext_time : (claimNext d).time = d.time := by
  unfold claimNext
  split <;> simp

theorem execAddrInHigh_answers : Answers s (execAddrInHigh s) := done_answers (by simp)
theorem execAddressListenExpiry_answers : Answers s (execAddressListenExpiry s) := done_answers (by simp)
@[simp] theorem markStore_time {st} : (markStore st d).time = d.time := by rfl
theorem execClaimListenExpiry_answers : Answers s (execClaimListenExpiry s) := done_answers (by simp)
@[simp] theorem dropClaims_time : (dropClaims d).time = d.time := by rfl
theorem execClaimRetryDelay_answers : Answers s (execClaimRetryDelay s) := done_answers (by simp)
@[simp] theorem addressClaim_time {f} : (addressClaim f d).time = d.time := by simp [addressClaim]

theorem takeFrame_time {c f} : ∀ e ∈ takeFrame c f d, e.time = d.time := by
  have taken {p : Prop} [Decidable p] {g : CanCtl → CanCtl} :
      ∀ e ∈ if p then some (onCan c g d) else none, e.time = d.time := by
    intro e he
    split at he <;> cases he
    exact onCan_time ..
  unfold takeFrame
  extract_lets q
  split
  · exact taken
  · exact taken
  · exact fun e he => nomatch he

/-- A frame that a command takes out of a FIFO first, where the frame is of the command's kind. -/
theorem takeFrame_ite_time {p : Prop} [Decidable p] {c f} :
    ∀ e ∈ if p then takeFrame c f d else none, e.time = d.time := by
  intro e he
  split at he
  · exact takeFrame_time e he
  · cases he

theorem execAddressClaim_answers {c f} : Answers s (execAddressClaim c f s) := by
  refine done_answers ?_
  split
  · rename_i e
    simp [takeFrame_ite_time _ e]
  · rfl

@[simp] theorem reClaim_time : (reClaim d).time = d.time := by simp [reClaim]

@[simp] theorem relayFrontEnd_time {i m stamp} : (relayFrontEnd i m stamp d).time = d.time := by
  simp only [relayFrontEnd]
  (repeat' split) <;> simp

@[simp] theorem frontEndStatus_time {f} : (frontEndStatus f d).time = d.time := by
  unfold frontEndStatus
  split <;> simp

theorem execFrontEndStatus_answers {c f} : Answers s (execFrontEndStatus c f s) := by
  refine done_answers ?_
  split
  · rename_i e
    simp [takeFrame_ite_time _ e]
  · rfl

@[simp] theorem imdReadingFrame_time {f} : (imdReadingFrame f d).time = d.time := by simp [imdReadingFrame]

theorem execImdReadingFrame_answers {c f} : Answers s (execImdReadingFrame c f s) := by
  refine done_answers ?_
  split
  · rename_i e
    simp [takeFrame_ite_time _ e]
  · rfl

theorem execEthernetLinkChange_answers {port link} :
    Answers s (execEthernetLinkChange port link s) := done_answers (by simp)

theorem execTlsConnection_answers {port} :
    Answers s (execTlsConnection port s) := done_answers (by (repeat' split) <;> simp)

@[simp] theorem closeTcp_time {n} : (closeTcp n d).time = d.time := by rfl

theorem execTlsHandshakeTimeout_answers {n} :
    Answers s (execTlsHandshakeTimeout n s) := done_answers (by split <;> simp)

theorem execTlsIdleTimeout_answers {n} : Answers s (execTlsIdleTimeout n s) := done_answers (by split <;> simp)
@[simp] theorem ptpSync_time {x} : (ptpSync x d).time = d.time := by simp [ptpSync]
theorem execPtpSyncLoss_answers : Answers s (execPtpSyncLoss s) := done_answers (by simp)

/-! What the Eaveline master holds of its nodes, and the messages that wait for a node (R402, R407, R413, R416). -/

@[simp] theorem onNode_time {n f} : (onNode n f d).time = d.time := by rfl
@[simp] theorem onSide_time {n f} : (onSide n f d).time = d.time := by rfl
@[simp] theorem queueMsg_time {n cls type content} : (queueMsg n cls type content d).time = d.time := by simp [queueMsg]
@[simp] theorem sendFrame_time {k} : (sendFrame k d).time = d.time := by simp [sendFrame]

/-! Vehicle sessions in the host island, head and site data, cable cooling, and the contactor and rail events that close one
family over another (R186 to R192, R204 to R207, R361). -/

@[simp] theorem sendUpdate_time {k r rejected} : (sendUpdate k r rejected d).time = d.time := by simp [sendUpdate]
@[simp] theorem answerVehicle_time {k} : (answerVehicle k d).time = d.time := by simp [answerVehicle]
@[simp] theorem endVehicle_time {k rejected} : (endVehicle k rejected d).time = d.time := by simp [endVehicle]
@[simp] theorem askAuthorization_time {k mode} : (askAuthorization k mode d).time = d.time := by rfl

@[simp] theorem vehicleMessage_time {k m} : (vehicleMessage k m d).time = d.time := by
  simp only [vehicleMessage]
  (repeat' split) <;> simp

@[simp] theorem authorize_time {k result} : (authorize k result d).time = d.time := by simp [authorize]

theorem execAuthorizationTimeout_answers {k} :
    Answers s (execAuthorizationTimeout k s) := done_answers (by split <;> simp)

theorem execOutletStatus_answers {m} : Answers s (execOutletStatus m s) := by
  simp only [execOutletStatus]
  (repeat' split) <;> exact done_answers (by simp)

theorem execSitePowerData_answers {m x} : Answers s (execSitePowerData m x s) := by
  simp only [execSitePowerData]
  (repeat' split) <;> exact done_answers (by simp)

@[simp] theorem flowTimers_time {k} : (flowTimers k d).time = d.time := by simp [flowTimers]

@[simp] theorem headFor_time {k x} : (headFor k x d).time = d.time := by
  simp only [headFor]
  (repeat' split) <;> simp

@[simp] theorem headData_time {x} : (headData x d).time = d.time := by
  unfold headData
  split <;> simp

theorem execHeadData_answers {m x} : Answers s (execHeadData m x s) := by
  simp only [execHeadData]
  (repeat' split) <;> exact done_answers (by simp)

theorem execHeadStale_answers {k} : Answers s (execHeadStale k s) := done_answers (by split <;> simp)
theorem execDeratingUpdate_answers : Answers s (execDeratingUpdate s) := done_answers (by simp)
theorem execFlowFault_answers {k} : Answers s (execFlowFault k s) := done_answers (by (repeat' split) <;> simp)
theorem execFlowFaultClear_answers {k} : Answers s (execFlowFaultClear k s) := done_answers (by split <;> simp)
theorem execRunOnExpiry_answers {k} : Answers s (execRunOnExpiry k s) := done_answers (by split <;> simp)
theorem execImdCommand_answers {k} : Answers s (execImdCommand k s) := done_answers (by simp)

theorem confirmTravel_base {x} : ∀ e ∈ confirmTravel x d, e.time.base = d.time.base := by
  unfold confirmTravel
  extract_lets c since d1
  intro e he
  split at he <;> cases he
  simp [d1]

theorem execContactorTravelConfirmed_answers {x} : Answers s (execContactorTravelConfirmed x s) := by
  refine done_answers ?_
  split
  · rfl
  · rename_i d e
    have h : d.time.base = s.dev.time.base := confirmTravel_base _ e
    split
    · simp [h]
    · split <;> simp [h]
    · exact h

theorem execContactorTravelFault_answers {x} :
    Answers s (execContactorTravelFault x s) := done_answers (by split <;> simp)

/-! The Eaveline power-line link: cycle, layout, blocks, acknowledgement, robust mode, admission, mains phase (R393 to R418). -/

@[simp] theorem sizeRanges_time {upDir nodes} : (sizeRanges upDir nodes d).2.time = d.time := by
  unfold sizeRanges
  refine List.foldlRecOn (motive := fun x : Vector Nat 16 × Nat × Dev => x.2.2.time = d.time) _ _ rfl fun x h n _ => ?_
  exact h

@[simp] theorem announceLayout_time : (announceLayout d).time = d.time := by
  unfold announceLayout
  split <;> simp

@[simp] theorem scheduleNode_time {cycle n} : (scheduleNode cycle d n).time = d.time := by simp [scheduleNode]
@[simp] theorem stepDown_time {n} : (stepDown n d).time = d.time := by simp [stepDown]
@[simp] theorem closeNode_time {n} : (closeNode d n).time = d.time := by simp [closeNode]

@[simp] theorem masterTake_time : (masterTake d).time = d.time := by
  unfold masterTake
  split <;> simp

@[simp] theorem eaveCycle_base : (eaveCycle d).time.base = d.time.base := by simp [eaveCycle]
theorem execEavelineCycle_answers : Answers s (execEavelineCycle s) := done_answers (by simp)
theorem execEavelineMasterTake_answers : Answers s (execEavelineMasterTake s) := done_answers (by simp)
theorem execCycleHeader_answers {n content crc} : Answers s (execCycleHeader n content crc s) := done_answers (by simp)
theorem execNodePreambleLoss_answers {n} : Answers s (execNodePreambleLoss n s) := done_answers (by simp)
@[simp] theorem upControl_time {n c} : (upControl n c d).time = d.time := by rfl
theorem execControlBlock_answers {n b} : Answers s (execControlBlock n b s) := done_answers (by simp)

@[simp] theorem nodeCrossing_time {n cycle offset} : (nodeCrossing n cycle offset d).time = d.time := by
  simp only [nodeCrossing]
  (repeat' split) <;> simp

@[simp] theorem zeroReport_time {n b} : (zeroReport n b d).time = d.time := by simp [zeroReport]

theorem execMainsRefCrossing_answers {at_} : Answers s (execMainsRefCrossing at_ s) := by
  simp only [execMainsRefCrossing]
  (repeat' split) <;> exact done_answers (by simp)

@[simp] theorem nodeIdentity_time {n b} : (nodeIdentity n b d).time = d.time := by rfl

@[simp] theorem deliverMsg_time {n type b} : (deliverMsg n type b d).time = d.time := by
  unfold deliverMsg
  split <;> simp

@[simp] theorem deliverReady_time {n cls fuel} : (deliverReady n cls fuel d).time = d.time := by
  induction fuel generalizing d with
  | zero => rfl
  | succ fuel ih =>
    unfold deliverReady
    extract_lets
    split
    · rfl
    · split
      · rfl
      · extract_lets next
        have h : next.time = d.time := rfl
        split
        · exact ih.trans h
        · split
          · rfl
          · exact ih.trans (deliverMsg_time.trans h)

@[simp] theorem killMsg_time {n m} : (killMsg n m d).time = d.time := by simp [killMsg]
@[simp] theorem takeFragment_time {n p} : (takeFragment n p d).time = d.time := by simp [takeFragment]

@[simp] theorem relayRidge_time {n which f} : (relayRidge n which f d).time = d.time := by
  unfold relayRidge
  split <;> simp

@[simp] theorem ridgeBlock_time {n w b} : (ridgeBlock n w b d).time = d.time := by simp [ridgeBlock]
@[simp] theorem dataBlock_time {n b} : (dataBlock n b d).time = d.time := by simp [dataBlock]

theorem execDataBlock_answers {n ridge b} :
    Answers s (execDataBlock n ridge b s) := done_answers (by (repeat' split) <;> simp)

theorem execMessageReassemblyTimeout_answers {n} :
    Answers s (execMessageReassemblyTimeout n s) := done_answers (by split <;> simp)

theorem execRobustStepUp_answers {n snr} : Answers s (execRobustStepUp n snr s) := done_answers (by simp)
theorem execStepUpCountReset_answers {n} : Answers s (execStepUpCountReset n s) := done_answers (by split <;> simp)
theorem execLayoutSwitch_answers : Answers s (execLayoutSwitch s) := done_answers (by split <;> simp)
theorem execAdmissionAnswer_answers {n b} : Answers s (execAdmissionAnswer n b s) := done_answers (by simp)
theorem execNodeRefusedRetry_answers {n} : Answers s (execNodeRefusedRetry n s) := done_answers (by split <;> simp)
theorem execNodeLost_answers {n} : Answers s (execNodeLost n s) := done_answers (by simp)
theorem execEavelineStateSync_answers {x} : Answers s (execEavelineStateSync x s) := done_answers (by split <;> simp)
@[simp] theorem removeNode_time {n} : (removeNode n d).time = d.time := by rfl

/-! Where entries are held, what a restart of an island does, and the supplies, start-up and power-fail sequences (R5, R10,
R30, R443, R457, R466, R479 to R488, R494, R504). -/

@[simp] theorem onKeys_time {f} : (onKeys f d).time = d.time := by rfl
@[simp] theorem onImg_time {t f} : (onImg t f d).time = d.time := by rfl
@[simp] theorem onStore_time {st f} : (onStore st f d).time = d.time := by rfl
@[simp] theorem onPower_time {f} : (onPower f d).time = d.time := by rfl

@[simp] theorem reportLeaves_time {st} : (reportLeaves st d).time = d.time := by
  simp only [reportLeaves]
  (repeat' split) <;> simp

@[simp] theorem takeLeaf_time {st} : (takeLeaf st d).time = d.time := by simp [takeLeaf]
@[simp] theorem tellUnusable_time {k} : (tellUnusable k d).time = d.time := by simp [tellUnusable]
@[simp] theorem draw_time : (draw d).2.time = d.time := by rfl
@[simp] theorem wrapItem_time {k item} : (wrapItem k item d).time = d.time := by simp [wrapItem]
@[simp] theorem eraseKey_time {k} : (eraseKey k d).time = d.time := by simp [eraseKey]

@[simp] theorem storeTransition_time {to_} : (storeTransition to_ d).time = d.time := by
  unfold storeTransition
  extract_lets d1
  have h1 : d1.time = d.time := by simp [d1]
  clear_value d1
  split
  · exact foldl_of_time h1 fun _ _ => wrapItem_time
  · exact foldl_of_time h1 fun _ _ => rfl

@[simp] theorem startKeys_time : (startKeys d).time = d.time := by
  unfold startKeys
  extract_lets d1 _ d2 d3
  have h2 : d2.time = d.time := by simp [d2, d1]
  have h3 : d3.time = d.time := by
    refine foldl_of_time h2 fun _ _ => ?_
    split <;> simp
  exact foldl_of_time h3 fun _ _ => by simp

@[simp] theorem restoreEntries_time {i} : (restoreEntries i d).time = d.time := by simp [restoreEntries]

@[simp] theorem fallBack_time {t} : (fallBack t d).time = d.time := by
  simp only [fallBack]
  (repeat' split) <;> simp

@[simp] theorem freshSite_time : (freshSite d).time = d.time := by simp [freshSite]
@[simp] theorem announceClosings_time : (announceClosings d).time = d.time := by simp [announceClosings]
@[simp] theorem loadMap_time : (loadMap d).time = d.time := by simp [loadMap]

@[simp] theorem restartWork_time {i} : (restartWork i d).time = d.time := by
  unfold restartWork
  split <;> simp

@[simp] theorem failActivation_time : (failActivation d).time = d.time := by
  unfold failActivation
  split <;> simp

@[simp] theorem interruptActivation_time {i} : (interruptActivation i d).time = d.time := by
  unfold interruptActivation
  split <;> simp

@[simp] theorem startIsland_time {i cause} : (startIsland i cause d).time = d.time := by
  unfold startIsland
  extract_lets d1 d2 progress d3 d4 d5 d6
  have h2 : d2.time = d.time := by
    unfold d2
    split <;> simp [d1]
  have h3 : d3.time = d.time := (restartWork_time.trans restoreEntries_time).trans h2
  clear_value progress d3
  simp [d6, d5, d4, h3]

@[simp] theorem stopIsland_time {i st} : (stopIsland i st d).time = d.time := by simp [stopIsland]
theorem execIslandWatchdogReset_answers {isl} : Answers s (execIslandWatchdogReset isl s) := done_answers (by simp)
theorem execFieldIslandRestart_answers : Answers s (execFieldIslandRestart s) := done_answers (by simp)
@[simp] theorem powerLoad_time : (powerLoad d).time = d.time := by simp [powerLoad]
theorem execLoadSupplyLow_answers : Answers s (execLoadSupplyLow s) := done_answers (by simp)
theorem execLoadSupplyReturn_answers : Answers s (execLoadSupplyReturn s) := done_answers (by split <;> simp)
@[simp] theorem fieldWarning_time : (fieldWarning d).time = d.time := by simp [fieldWarning]
theorem execFieldSequenceEnd_answers : Answers s (execFieldSequenceEnd s) := done_answers (by simp)
@[simp] theorem hostWarning_base : (hostWarning d).time.base = d.time.base := by simp [hostWarning]
@[simp] theorem fieldOrder_base {cause} : (fieldOrder cause d).time.base = d.time.base := by simp [fieldOrder]
theorem execHoldupCharged_answers {energy} : Answers s (execHoldupCharged energy s) := done_answers (by simp)
theorem execHostPowerUp_answers : Answers s (execHostPowerUp s) := done_answers (by simp)
theorem execDomainStartFailed_answers {isl} : Answers s (execDomainStartFailed isl s) := done_answers (by simp)
@[simp] theorem supplies_time {v} : (supplies v d).time = d.time := by simp [supplies]

theorem execSupplyRedundancyLost_answers {i volts} :
    Answers s (execSupplyRedundancyLost i volts s) := done_answers (by simp)

theorem execSupplyRedundancyRestored_answers {i volts} :
    Answers s (execSupplyRedundancyRestored i volts s) := done_answers (by simp)

theorem execHoldupTest_answers {host energy} : Answers s (execHoldupTest host energy s) := done_answers (by simp)
theorem execColdPlateRead_answers {temp} : Answers s (execColdPlateRead temp s) := done_answers (by simp)

theorem execOverTemperatureShutdown_answers :
    Answers s (execOverTemperatureShutdown s) := done_answers (by split <;> simp)

theorem execOverTemperatureRestart_answers :
    Answers s (execOverTemperatureRestart s) := done_answers (by split <;> simp)

/-! Sessions and group ownership (R374 to R381), the answers that a session receives (R365, R366), and what the entries'
chapters give to the server: handlers. -/

@[simp] theorem onSlot_time {n f} : (onSlot n f d).time = d.time := by rfl

@[simp] theorem fieldClose_time {n} : (fieldClose n d).time = d.time := by
  simp only [fieldClose]
  (repeat' split) <;> simp

@[simp] theorem fieldForgets_time {n} : (fieldForgets n d).time = d.time := by simp [fieldForgets]
@[simp] theorem sessionNotice_time {n opening} : (sessionNotice n opening d).time = d.time := by simp [sessionNotice]

@[simp] theorem closeSession_time {n} : (closeSession n d).time = d.time := by
  simp only [closeSession]
  (repeat' split) <;> simp

@[simp] theorem strayReply_time {a m} : (strayReply a m d).time = d.time := by simp [strayReply]

@[simp] theorem openSlot_time {n a identity} : (openSlot n a identity d).time = d.time := by
  unfold openSlot
  split <;> simp

@[simp] theorem sessionOpen_time {a client} : (sessionOpen a client d).time = d.time := by
  simp only [sessionOpen]
  (repeat' split) <;> simp

@[simp] theorem takeRequest_time {a m} : (takeRequest a m d).time = d.time := by
  unfold takeRequest
  split <;> simp

theorem execSessionTimeout_answers {n} : Answers s (execSessionTimeout n s) := done_answers (by simp)
theorem execUsbChallengeExpiry_answers : Answers s (execUsbChallengeExpiry s) := done_answers (by split <;> simp)
@[simp] theorem fieldNotice_time {n} : (fieldNotice n d).time = d.time := by simp [fieldNotice]

theorem execSessionNotice_answers {m n} : Answers s (execSessionNotice m n s) := by
  simp only [execSessionNotice]
  (repeat' split) <;> exact done_answers (by simp)

@[simp] theorem setOwner_time {g n} : (setOwner g n d).time = d.time := by simp [setOwner]

@[simp] theorem forced_time {g o} : (forced g o d).time = d.time := by
  unfold forced
  split <;> simp

@[simp] theorem groupService_time {service g n force} : (groupService service g n force d).1.time = d.time := by
  unfold groupService
  split <;> simp

@[simp] theorem hostGroup_time {service g n force} :
    (hostGroup service g n force d).1.time = d.time := by simp [hostGroup]

@[simp] theorem groupHeard_time {service g n} : (groupHeard service g n d).time = d.time := by simp [groupHeard]

/-! The life cycle, the key store, the images with their activations, and the configuration leaves (R443 to R474). -/

@[simp] theorem wrapKey_time {k alg usage plain} : (wrapKey k alg usage plain d).time = d.time := by rfl

/-- A handler leaves the time base alone, for a write that is taken and for one that is refused. -/
structure Handler.KeepsTime (x : Handler) : Prop where
  act : ∀ {c d}, (x.act c d).time = d.time
  refused : ∀ {c code d}, (x.refused c code d).time = d.time

theorem Handler.KeepsTime.ite {c : Prop} [Decidable c] {x y : Handler} (hx : x.KeepsTime) (hy : y.KeepsTime) :
    (if c then x else y).KeepsTime := by
  split <;> assumption

/-- A handler that does nothing for a refused write is judged by what it does for one that is taken. -/
theorem Handler.KeepsTime.of_act {checks act} (h : ∀ {c d}, (act c d).time = d.time) :
    (Handler.mk checks act fun _ _ d => d).KeepsTime := ⟨h, rfl⟩

@[simp] theorem keyValueHandler_keepsTime : keyValueHandler.KeepsTime := ⟨wrapKey_time, rfl⟩
@[simp] theorem keyGenerateHandler_keepsTime : keyGenerateHandler.KeepsTime := ⟨by simp [keyGenerateHandler], rfl⟩
@[simp] theorem keyDeleteHandler_keepsTime : keyDeleteHandler.KeepsTime := ⟨eraseKey_time, rfl⟩
@[simp] theorem keyTypeHandler_keepsTime : keyTypeHandler.KeepsTime := ⟨setNum_time, rfl⟩
@[simp] theorem publicItemHandler_keepsTime : publicItemHandler.KeepsTime := ⟨by simp [publicItemHandler], rfl⟩
@[simp] theorem administratorHandler_keepsTime : administratorHandler.KeepsTime := ⟨setOct_time, rfl⟩
@[simp] theorem onKeySlot_time {i f} : (onKeySlot i f d).time = d.time := by rfl

@[simp] theorem beginKeyUse_time {k since} : (beginKeyUse k since d).time = d.time := by
  unfold beginKeyUse
  (repeat' split) <;> simp

@[simp] theorem endKeyUse_time {k} : (endKeyUse k d).time = d.time := by
  simp only [endKeyUse]
  (repeat' split) <;> simp

theorem execKeySlotLoad_answers {k ends} : Answers s (execKeySlotLoad k ends s) := done_answers (by simp)
theorem execKeySlotWaitTimeout_answers : Answers s (execKeySlotWaitTimeout s) := done_answers (by split <;> simp)
@[simp] theorem armHandler_keepsTime : armHandler.KeepsTime := ⟨by simp [armHandler], rfl⟩
@[simp] theorem transitionHandler_keepsTime : transitionHandler.KeepsTime := ⟨by simp [transitionHandler], rfl⟩
@[simp] theorem enterLife_time {to_} : (enterLife to_ d).time = d.time := by simp [enterLife]

theorem execLifeCycleNotice_answers {m to_} : Answers s (execLifeCycleNotice m to_ s) := by
  simp only [execLifeCycleNotice]
  (repeat' split) <;> exact done_answers (by simp)

theorem execFactoryTransition_answers {to_} : Answers s (execFactoryTransition to_ s) := done_answers (by simp)

/-- What a handler does with a write that is taken keeps a fact about the device. -/
structure Handler.ActKeeps (P : Dev → Prop) (x : Handler) : Prop where
  keeps : ∀ {c d}, P d → P (x.act c d)

theorem Handler.ActKeeps.of_act {P : Dev → Prop} {checks act refused} (h : ∀ {c d}, P d → P (act c d)) :
    (Handler.mk checks act refused).ActKeeps P := ⟨h⟩

/-- Staging an image is writes of its part and of entries, and messages to its island. (Said of any fact: about the time
alone, the kernel would unfold the type that the entry's index names.) -/
theorem imageStageHandler_actKeeps {P : Dev → Prop} (img : ∀ {t f d}, P d → P (onImg t f d))
    (entry : ∀ {x y v d}, P d → P (setNum x y v d)) (lane : ∀ {l m d}, P d → P (enqueue l m d)) :
    imageStageHandler.ActKeeps P := .of_act fun h => by
  extract_lets t b d1 d2
  have h2 : P d2 := entry (entry (entry (entry (img h))))
  clear_value t d2
  split
  · exact h2
  · exact List.foldlRecOn (motive := P) _ _ h2 fun _ h3 _ _ => lane h3

@[simp] theorem imageStageHandler_keepsTime : imageStageHandler.KeepsTime :=
  ⟨(imageStageHandler_actKeeps (P := fun e => e.time = _) id id enqueue_time.trans).keeps rfl, rfl⟩

theorem execImageBlock_answers {m t offset block} : Answers s (execImageBlock m t offset block s) := by
  simp only [execImageBlock]
  (repeat' split) <;> exact done_answers (by simp)

theorem execImageStatus_answers {m t acked} : Answers s (execImageStatus m t acked s) := by
  simp only [execImageStatus]
  (repeat' split) <;> exact done_answers (by simp)

@[simp] theorem discardHandler_keepsTime : discardHandler.KeepsTime := ⟨by simp [discardHandler], rfl⟩
@[simp] theorem fallBackHandler_keepsTime : fallBackHandler.KeepsTime := ⟨by simp [fallBackHandler], rfl⟩
@[simp] theorem stopForActivation_time {t} : (stopForActivation t d).time = d.time := by simp [stopForActivation]

@[simp] theorem beginActivation_time {t session} : (beginActivation t session d).time = d.time := by
  unfold beginActivation
  split <;> simp

@[simp] theorem activateHandler_keepsTime : activateHandler.KeepsTime := ⟨by simp [activateHandler], rfl⟩
theorem execFxWinddownEnd_answers : Answers s (execFxWinddownEnd s) := done_answers (by split <;> simp)

theorem execBootCheck_answers {t} : Answers s (execBootCheck t s) := by
  simp only [execBootCheck]
  (repeat' split) <;> exact done_answers (by simp)

@[simp] theorem pairActivation_time : (pairActivation d).time = d.time := by
  unfold pairActivation
  (repeat' split) <;> simp

@[simp] theorem watchHealth_time : (watchHealth d).time = d.time := by simp [watchHealth]

theorem execTrialConfirm_answers {t} : Answers s (execTrialConfirm t s) := by
  unfold execTrialConfirm
  extract_lets d x level
  have h : d.time = s.dev.time := watchHealth_time
  clear_value d
  refine done_answers ?_
  split
  · split <;> simp [h]
  · rw [h]

theorem execConfirmTimeout_answers {t} : Answers s (execConfirmTimeout t s) := done_answers (by simp)
@[simp] theorem startCommit_time {st} : (startCommit st d).time = d.time := by rfl
@[simp] theorem requestCommit_time {st} : (requestCommit st d).time = d.time := by simp [requestCommit]
@[simp] theorem commitHandler_keepsTime : commitHandler.KeepsTime := ⟨by simp [commitHandler], rfl⟩
theorem execAutoCommit_answers {st} : Answers s (execAutoCommit st s) := done_answers (by split <;> simp)

theorem execCommitSpacingExpiry_answers {st} :
    Answers s (execCommitSpacingExpiry st s) := done_answers (by split <;> simp)

@[simp] theorem keepMap_time {body} : (keepMap body d).time = d.time := by simp [keepMap]

theorem execLeafWriteComplete_answers {st readBack} :
    Answers s (execLeafWriteComplete st readBack s) := done_answers (by (repeat' split) <;> simp)

@[simp] theorem restoreHandler_keepsTime : restoreHandler.KeepsTime := ⟨by simp [restoreHandler, paramWrites_time], rfl⟩

theorem execBulkRequest_answers {f object} : Answers s (execBulkRequest f object s) := by
  simp only [execBulkRequest]
  (repeat' split) <;> exact done_answers (by simp)

theorem execBulkData_answers {f entries} : Answers s (execBulkData f entries s) := by
  unfold execBulkData
  split
  rename_i d ok e
  have h : d.time = s.dev.time := (congrArg (·.1.time) e).symm.trans peerReceive_time
  have adopted {l : List (Nat × DVal)} : (l.foldl (fun d p => setVal p.1 p.2 d) d).time = d.time :=
    foldl_time fun _ _ => rfl
  exact done_answers (by simp [adopted, h])

/-! The links between the islands: the safety feed, stale channels, the barrier's heartbeats and its loss, Ridge frames towards
the networks, and what is sent at fixed times (R11, R17, R30, R242, R274, R277, R327, R349, R389). -/

@[simp] theorem safetyFeed_time : (safetyFeed d).time = d.time := by simp [safetyFeed]
theorem execLoadCommandTransfer_answers : Answers s (execLoadCommandTransfer s) := done_answers (by simp)

@[simp] theorem silence_base {ch} : (silence ch d).time.base = d.time.base := by
  unfold silence
  split <;> simp

theorem execChannelStale_answers {ch} : Answers s (execChannelStale ch s) := done_answers (by simp)
@[simp] theorem steer_base {offset} : (steer offset d).time.base = d.time.base := by rfl

theorem execPeerTimeTransfer_answers {holderTime arrival} :
    Answers s (execPeerTimeTransfer holderTime arrival s) := done_answers (by simp)

@[simp] theorem onSide30_time {at_ f} : (onSide30 at_ f d).time = d.time := by
  unfold onSide30
  split <;> simp

@[simp] theorem barrierBack_time : (barrierBack d).time = d.time := by simp [barrierBack]
@[simp] theorem islandsHeard_time {mask} : (islandsHeard mask d).time = d.time := by simp [islandsHeard]

theorem execHeartbeat_answers {at_ m} : Answers s (execHeartbeat at_ m s) := by
  simp only [execHeartbeat]
  (repeat' split) <;> exact done_answers (by simp)

@[simp] theorem holdGrants_time : (holdGrants d).time = d.time := by simp [holdGrants]

@[simp] theorem loseBarrier_time {at_} : (loseBarrier at_ d).time = d.time := by
  unfold loseBarrier
  split <;> simp

theorem execBarrierLoss_answers {at_} : Answers s (execBarrierLoss at_ s) := done_answers (by (repeat' split) <;> simp)
theorem execPowerFailNotice_answers : Answers s (execPowerFailNotice s) := done_answers (by simp)

@[simp] theorem routeRidge_time {b} : (routeRidge b d).time = d.time := by
  simp only [routeRidge]
  (repeat' split) <;> simp

theorem execRidgeFrameFromSafety_answers {m} : Answers s (execRidgeFrameFromSafety m s) := by
  simp only [execRidgeFrameFromSafety]
  (repeat' split) <;> exact done_answers (by simp)

theorem execCanHeartbeat_answers : Answers s (execCanHeartbeat s) := done_answers (by simp)
theorem execWallClockOffsetSend_answers : Answers s (execWallClockOffsetSend s) := done_answers (by simp)
theorem execPartnerWaitExpiry_answers : Answers s (execPartnerWaitExpiry s) := done_answers (by simp)

/-! One control period of the field control island (R12, R13, R46, R60 to R72, R117 to R124, R326 to R344, Tables 1.3, 3.2 and
5.1). -/

@[simp] theorem beginPeriod_base : (beginPeriod d).time.base = d.time.base := by simp [beginPeriod]
@[simp] theorem topologyPeriod_time : (topologyPeriod d).time = d.time := by simp [topologyPeriod]

@[simp] theorem contactPeriod_base : (contactPeriod d).time.base = d.time.base := by
  unfold contactPeriod
  simp

@[simp] theorem setPoints_time : (setPoints d).time = d.time := by simp [setPoints]
@[simp] theorem profileWindow_time : (profileWindow d).time = d.time := by simp [profileWindow]
@[simp] theorem takeStop_time : (takeStop d).time = d.time := by simp [takeStop]
@[simp] theorem freezeImage_time : (freezeImage d).time = d.time := by simp [freezeImage]
@[simp] theorem thawThermal_time : (thawThermal d).time = d.time := by simp [thawThermal]

@[simp] theorem sequencer_time : (sequencer d).1.time = d.time := by
  unfold sequencer
  extract_lets d1 _ _
  have h1 : d1.time = d.time := by simp [d1]
  clear_value d1
  refine List.foldlRecOn (motive := fun x : Dev × List (Fin 12) => x.1.time = d.time) _ _ h1 fun x h a _ => ?_
  extract_lets y
  have hy : y.1.time = x.1.time := sequenceSegment_time
  clear_value y
  exact hy.trans h

@[simp] theorem runSlots_time {bad} : (runSlots bad d).1.time = d.time := by
  unfold runSlots
  extract_lets d0 rails d1 x d2 off d3 d4 d5 d6
  have h1 : d1.time = d.time := foldl_of_time (by simp) fun _ _ => repeatOutput_time
  clear_value d1
  have h2 : d2.time = d.time := by simp [d2, x, h1]
  clear_value d2
  have h4 : d4.time = d.time := foldl_of_time h2 fun _ _ => axisSlot_time
  clear_value d4
  have h5 : d5.time = d.time := by
    unfold d5
    split <;> simp [h4]
  exact analysisPeriod_time.trans (foldl_of_time h5 fun _ _ => repeatOutput_time)

@[simp] theorem closeBank_time {bad} : (closeBank bad d).time = d.time := by simp [closeBank]
@[simp] theorem sendFrames_time : (sendFrames d).time = d.time := by simp [sendFrames]
@[simp] theorem restartPeriod_time : (restartPeriod d).time = d.time := by simp [restartPeriod]
@[simp] theorem learnSeen_time : (learnSeen d).time = d.time := by simp [learnSeen]
@[simp] theorem takeOverPeriod_time : (takeOverPeriod d).time = d.time := by simp [takeOverPeriod]
@[simp] theorem pairPeriod_time : (pairPeriod d).time = d.time := by simp [pairPeriod]
@[simp] theorem decisions_time {released} : (decisions released d).time = d.time := by simp [decisions]

@[simp] theorem endPeriod_base {bad released} : (endPeriod bad released d).time.base = d.time.base := by
  unfold endPeriod
  extract_lets d1 d2 d3 d4 d5 d6
  have h1 : d1.time.base = d.time.base := by simp [d1]
  have h4 : d4.time.base = d.time.base := by simp [d4, d3, d2, h1]
  have h6 : d6.time.base = d.time.base := by simp [d6, d5, h4]
  simp [h6]

@[simp] theorem controlPeriod_base {ecc} : (controlPeriod ecc d).time.base = d.time.base := by simp [controlPeriod]

/-! What the chapters on sessions, the site bus, Eaveline, time following, sample movement, snapshots and pairing say of a
write to their entries. -/

@[simp] theorem plainAct_time {c} : (plainAct c d).time = d.time := by rfl
@[simp] theorem plainHandler_keepsTime : plainHandler.KeepsTime := ⟨plainAct_time, rfl⟩
@[simp] theorem nodeIdHandler_keepsTime : nodeIdHandler.KeepsTime := ⟨plainAct_time, rfl⟩
@[simp] theorem reClaimHandler_keepsTime : reClaimHandler.KeepsTime := ⟨reClaim_time, rfl⟩
@[simp] theorem canEnableHandler_keepsTime : canEnableHandler.KeepsTime := ⟨by simp [canEnableHandler], rfl⟩
@[simp] theorem canTimingHandler_keepsTime : canTimingHandler.KeepsTime := ⟨plainAct_time, rfl⟩
@[simp] theorem filterHandler_keepsTime : filterHandler.KeepsTime := ⟨plainAct_time, rfl⟩
@[simp] theorem ptpEnableHandler_keepsTime : ptpEnableHandler.KeepsTime := ⟨by simp [ptpEnableHandler], rfl⟩
@[simp] theorem wallClockHandler_keepsTime : wallClockHandler.KeepsTime := ⟨onPtp_time .., rfl⟩
@[simp] theorem removeNodeHandler_keepsTime : removeNodeHandler.KeepsTime := ⟨removeNode_time, rfl⟩
@[simp] theorem expectedSerialHandler_keepsTime : expectedSerialHandler.KeepsTime := ⟨plainAct_time, rfl⟩
@[simp] theorem expectedPhaseHandler_keepsTime : expectedPhaseHandler.KeepsTime := ⟨by simp [expectedPhaseHandler], rfl⟩
@[simp] theorem dmaRegisterHandler_keepsTime : dmaRegisterHandler.KeepsTime := ⟨plainAct_time, rfl⟩
@[simp] theorem dmaControlHandler_keepsTime : dmaControlHandler.KeepsTime := ⟨by simp [dmaControlHandler], rfl⟩
@[simp] theorem descriptorHandler_keepsTime : descriptorHandler.KeepsTime := ⟨plainAct_time, rfl⟩
@[simp] theorem captureClaimHandler_keepsTime : captureClaimHandler.KeepsTime := ⟨by simp [captureClaimHandler], rfl⟩
@[simp] theorem captureReleaseHandler_keepsTime : captureReleaseHandler.KeepsTime := ⟨releaseCapture_time, rfl⟩

@[simp] theorem triggerHandler_keepsTime :
    triggerHandler.KeepsTime := ⟨by simp [triggerHandler], by simp [triggerHandler]⟩

@[simp] theorem pairModeHandler_keepsTime : pairModeHandler.KeepsTime := ⟨by simp [pairModeHandler], rfl⟩
@[simp] theorem rankHandler_keepsTime : rankHandler.KeepsTime := ⟨plainAct_time, rfl⟩
@[simp] theorem swapHandler_keepsTime : swapHandler.KeepsTime := ⟨beginSwap_time, rfl⟩

/-! What the chapters on legs, the ring, rails, the loop engine and the allocator say of a write to their entries. -/

@[simp] theorem legEnableHandler_keepsTime : legEnableHandler.KeepsTime := ⟨plainAct_time, rfl⟩
@[simp] theorem inductanceHandler_keepsTime : inductanceHandler.KeepsTime := ⟨plainAct_time, rfl⟩
@[simp] theorem legTempHandler_keepsTime : legTempHandler.KeepsTime := ⟨plainAct_time, rfl⟩
@[simp] theorem legResetHandler_keepsTime : legResetHandler.KeepsTime := ⟨onLeg_time .., rfl⟩
@[simp] theorem legCaptureHandler_keepsTime : legCaptureHandler.KeepsTime := ⟨captureLeg_time, rfl⟩
@[simp] theorem brickCaptureHandler_keepsTime : brickCaptureHandler.KeepsTime := ⟨captureBrick_time, rfl⟩
@[simp] theorem ringConfigHandler_keepsTime : ringConfigHandler.KeepsTime := ⟨by simp [ringConfigHandler], rfl⟩
@[simp] theorem isolationHandler_keepsTime : isolationHandler.KeepsTime := ⟨plainAct_time, rfl⟩

@[simp] theorem cardParamHandler_keepsTime :
    cardParamHandler.KeepsTime := ⟨by simp [cardParamHandler, paramWrites_time], rfl⟩

@[simp] theorem shedHandler_keepsTime : shedHandler.KeepsTime := ⟨plainAct_time, rfl⟩
@[simp] theorem sourceHandler_keepsTime : sourceHandler.KeepsTime := ⟨plainAct_time, rfl⟩
@[simp] theorem commandHandler_keepsTime : commandHandler.KeepsTime := ⟨by simp [commandHandler], rfl⟩
@[simp] theorem currentTargetHandler_keepsTime : currentTargetHandler.KeepsTime := ⟨plainAct_time, rfl⟩
@[simp] theorem railOwnHandler_keepsTime : railOwnHandler.KeepsTime := ⟨plainAct_time, rfl⟩
@[simp] theorem modeHandler_keepsTime : modeHandler.KeepsTime := ⟨by simp [modeHandler], rfl⟩
@[simp] theorem railStartHandler_keepsTime : railStartHandler.KeepsTime := ⟨beginStart_time, rfl⟩
@[simp] theorem railStopHandler_keepsTime : railStopHandler.KeepsTime := ⟨beginStop_time, rfl⟩
@[simp] theorem railIsolationHandler_keepsTime : railIsolationHandler.KeepsTime := ⟨by simp [railIsolationHandler], rfl⟩
@[simp] theorem maskHandler_keepsTime : maskHandler.KeepsTime := ⟨plainAct_time, rfl⟩
@[simp] theorem ratioHandler_keepsTime : ratioHandler.KeepsTime := ⟨beginRatio_time, rfl⟩
@[simp] theorem reformat_time {cls bfp} : (reformat cls bfp d).time = d.time := by simp [reformat]
@[simp] theorem formatHandler_keepsTime : formatHandler.KeepsTime := ⟨by simp [formatHandler], rfl⟩
@[simp] theorem coefHandler_keepsTime : coefHandler.KeepsTime := ⟨plainAct_time, rfl⟩
@[simp] theorem followResetHandler_keepsTime : followResetHandler.KeepsTime := ⟨onAxis_time .., rfl⟩
@[simp] theorem thermalSourceHandler_keepsTime : thermalSourceHandler.KeepsTime := ⟨plainAct_time, rfl⟩
@[simp] theorem thermalOutputHandler_keepsTime : thermalOutputHandler.KeepsTime := ⟨by simp [thermalOutputHandler], rfl⟩
@[simp] theorem thermalDutyHandler_keepsTime : thermalDutyHandler.KeepsTime := ⟨plainAct_time, rfl⟩
@[simp] theorem genLimitHandler_keepsTime : genLimitHandler.KeepsTime := ⟨by simp [genLimitHandler], rfl⟩
@[simp] theorem genTargetHandler_keepsTime : genTargetHandler.KeepsTime := ⟨by simp [genTargetHandler], rfl⟩
@[simp] theorem genHostHandler_keepsTime : genHostHandler.KeepsTime := ⟨by simp [genHostHandler], rfl⟩
@[simp] theorem genStartHandler_keepsTime : genStartHandler.KeepsTime := ⟨generatorStart_time, rfl⟩
@[simp] theorem injSetHandler_keepsTime : injSetHandler.KeepsTime := ⟨plainAct_time, rfl⟩
@[simp] theorem injStartHandler_keepsTime : injStartHandler.KeepsTime := ⟨injBegin_time, rfl⟩
@[simp] theorem injStopHandler_keepsTime : injStopHandler.KeepsTime := ⟨injAbort_time, rfl⟩
@[simp] theorem testToggle_time {x} : (testToggle x d).time = d.time := by simp [testToggle]

@[simp] theorem contactorTestHandler_keepsTime : contactorTestHandler.KeepsTime := .of_act <| by
    intro c d
    split <;> simp

@[simp] theorem clearTieHandler_keepsTime : clearTieHandler.KeepsTime := ⟨onContactor_time .., rfl⟩

@[simp] theorem clearFaultHandler_keepsTime : clearFaultHandler.KeepsTime := .of_act <| by
    intro c d
    split <;> simp

@[simp] theorem ringMaskHandler_keepsTime : ringMaskHandler.KeepsTime := ⟨by simp [ringMaskHandler], rfl⟩
@[simp] theorem gridLimitHandler_keepsTime : gridLimitHandler.KeepsTime := ⟨by simp [gridLimitHandler], rfl⟩
@[simp] theorem layoutHoldHandler_keepsTime : layoutHoldHandler.KeepsTime := ⟨plainAct_time, rfl⟩
@[simp] theorem replanHandler_keepsTime : replanHandler.KeepsTime := ⟨replan_time, rfl⟩

/-! What the chapters on outlets, metrology, safety and load channels say of a write to their entries; and the handler and the
range code of every entry. -/

@[simp] theorem outletConfigHandler_keepsTime : outletConfigHandler.KeepsTime := ⟨plainAct_time, rfl⟩
@[simp] theorem insulationHandler_keepsTime : insulationHandler.KeepsTime := ⟨plainAct_time, rfl⟩
@[simp] theorem outletStopHandler_keepsTime : outletStopHandler.KeepsTime := ⟨raiseCause_time, rfl⟩
@[simp] theorem outletServiceHandler_keepsTime : outletServiceHandler.KeepsTime := ⟨raiseEvent_time, rfl⟩
@[simp] theorem outletResetHandler_keepsTime : outletResetHandler.KeepsTime := ⟨raiseEvent_time, rfl⟩
@[simp] theorem priorityHandler_keepsTime : priorityHandler.KeepsTime := ⟨plainAct_time, rfl⟩
@[simp] theorem authorizationHandler_keepsTime : authorizationHandler.KeepsTime := ⟨authorize_time, rfl⟩
@[simp] theorem pumpHandler_keepsTime : pumpHandler.KeepsTime := ⟨by simp [pumpHandler], rfl⟩
@[simp] theorem pinTempHandler_keepsTime : pinTempHandler.KeepsTime := ⟨plainAct_time, rfl⟩
@[simp] theorem sealHandler_keepsTime : sealHandler.KeepsTime := ⟨by simp [sealHandler], rfl⟩
@[simp] theorem pulseHandler_keepsTime : pulseHandler.KeepsTime := ⟨by simp [pulseHandler], rfl⟩
@[simp] theorem pairHandler_keepsTime : pairHandler.KeepsTime := ⟨pairHead_time, rfl⟩
@[simp] theorem windowHandler_keepsTime : windowHandler.KeepsTime := ⟨by simp [windowHandler], rfl⟩
@[simp] theorem lockedHandler_keepsTime : lockedHandler.KeepsTime := ⟨plainAct_time, rfl⟩
@[simp] theorem expectedCrcHandler_keepsTime : expectedCrcHandler.KeepsTime := ⟨plainAct_time, rfl⟩

@[simp] theorem passwordHandler_keepsTime :
    passwordHandler.KeepsTime := ⟨by simp [passwordHandler], by simp [passwordHandler]⟩

@[simp] theorem transactionHandler_keepsTime : transactionHandler.KeepsTime := .of_act <| by
    intro c d
    split
    · split <;> simp
    · simp
    · simp

@[simp] theorem restartHandler_keepsTime : restartHandler.KeepsTime := ⟨restartSafety_time, rfl⟩
@[simp] theorem safetyResetHandler_keepsTime : safetyResetHandler.KeepsTime := ⟨resetFaults_time, rfl⟩
@[simp] theorem safeHandler_keepsTime : safeHandler.KeepsTime := ⟨safeWrite_time, rfl⟩
@[simp] theorem loadCommandHandler_keepsTime : loadCommandHandler.KeepsTime := ⟨plainAct_time, rfl⟩
@[simp] theorem pwmHandler_keepsTime : pwmHandler.KeepsTime := ⟨plainAct_time, rfl⟩
@[simp] theorem clearHandler_keepsTime : clearHandler.KeepsTime := ⟨clearChannel_time, rfl⟩
@[simp] theorem permitHandler_keepsTime : permitHandler.KeepsTime := ⟨by simp [permitHandler], rfl⟩
@[simp] theorem forcedHandler_keepsTime : forcedHandler.KeepsTime := ⟨by simp [forcedHandler], rfl⟩
@[simp] theorem limpMapHandler_keepsTime : limpMapHandler.KeepsTime := ⟨plainAct_time, rfl⟩
@[simp] theorem generalInputHandler_keepsTime : generalInputHandler.KeepsTime := ⟨plainAct_time, rfl⟩

theorem handlerSite_keepsTime {idx sub} : (handlerSite idx sub).KeepsTime := by
  unfold handlerSite
  (repeat' refine .ite ?_ ?_) <;> simp

theorem handlerPower_keepsTime {idx sub} : (handlerPower idx sub).KeepsTime := by
  unfold handlerPower
  repeat' refine .ite ?_ ?_
  any_goals split
  all_goals simp

theorem handlerField_keepsTime {idx sub} : (handlerField idx sub).KeepsTime := by
  unfold handlerField
  repeat' refine .ite ?_ ?_
  any_goals split
  any_goals split
  all_goals simp

theorem handlerOf_keepsTime {idx sub} : (handlerOf idx sub).KeepsTime :=
  .ite handlerSite_keepsTime (.ite handlerPower_keepsTime handlerField_keepsTime)

/-! What a read of an entry returns (R367, R370): the register file's value, or, for an entry that reports state held elsewhere
in the model, that state. -/

@[simp] theorem readValue_time {idx sub} : (readValue idx sub d).2.time = d.time := by
  unfold readValue
  split <;> simp

/-! The dictionary server: the checks of a request in their order (R367, R498), reads and writes, segmented transfers (R371 to
R373), subscriptions and publications (R382 to R385), and the journey of a request (R29, R365 to R370). -/

@[simp] theorem markUnsaved_time {idx sub r} : (markUnsaved idx sub r d).time = d.time := by
  unfold markUnsaved
  (repeat' split) <;> simp

@[simp] theorem accept_time {c r} : (accept c r d).time = d.time := by
  simp [accept, handlerOf_keepsTime.act]

@[simp] theorem refuse_time {c r code} : (refuse c r code d).time = d.time := by
  simp [refuse, handlerOf_keepsTime.refused]

@[simp] theorem writeValue_time {session idx sub r b} : (writeValue session idx sub r b d).1.time = d.time := by
  simp only [writeValue]
  (repeat' split) <;> simp

@[simp] theorem writeAnswer_time {x} : (writeAnswer x).1.time = x.1.time := by
  unfold writeAnswer
  split <;> rfl

@[simp] theorem writeService_time {session idx sub b} : (writeService session idx sub b d).1.time = d.time := by
  unfold writeService
  split
  · rfl
  · split
    · rfl
    · simp

@[simp] theorem readService_time {can session idx sub} : (readService can session idx sub d).1.time = d.time := by
  unfold readService
  split <;> simp

@[simp] theorem setTransfer_time {n t} : (setTransfer n t d).time = d.time := by rfl

@[simp] theorem readStart_time {n idx sub} : (readStart n idx sub d).1.time = d.time := by
  unfold readStart
  split <;> simp

@[simp] theorem writeStart_time {n idx sub b} : (writeStart n idx sub b d).1.time = d.time := by
  simp only [writeStart]
  (repeat' split) <;> simp

@[simp] theorem badSegment_time {n} : (badSegment n d).1.time = d.time := by rfl
@[simp] theorem noTransfer_time {n} : (noTransfer n d).1.time = d.time := by simp [noTransfer]

@[simp] theorem readSegmentService_time {can n idx sub b} : (readSegmentService can n idx sub b d).1.time = d.time := by
  unfold readSegmentService
  split <;> simp

@[simp] theorem writeSegmentService_time {n idx sub flags b} :
    (writeSegmentService n idx sub flags b d).1.time = d.time := by
  unfold writeSegmentService
  split
  · simp
  · extract_lets
    split
    · simp
    · split
      · split
        · simp
        · split <;> simp
      · simp

@[simp] theorem subscribeService_time {conn session b} : (subscribeService conn session b d).1.time = d.time := by
  simp only [subscribeService]
  (repeat' split) <;> simp

@[simp] theorem unsubscribeService_time {session b} : (unsubscribeService session b d).1.time = d.time := by
  unfold unsubscribeService
  split <;> simp

@[simp] theorem sample_time {keys} : (sample keys d).2.time = d.time := by
  refine List.foldlRecOn (motive := fun x : List Byte × Dev => x.2.time = d.time) _ _ rfl fun x h k _ => ?_
  split
  · exact readValue_time.trans h
  · exact h

@[simp] theorem publish_base {n} : (publish n d).time.base = d.time.base := by
  simp only [publish]
  (repeat' split) <;> simp

@[simp] theorem entryService_time {can n m} : (entryService can n m d).1.time = d.time := by
  unfold entryService
  split <;> simp

@[simp] theorem groupAnswer_time {x} : (groupAnswer x).1.time = x.1.time := by rfl

@[simp] theorem perform_time {conn n m} : (perform conn n m d).1.time = d.time := by
  unfold perform
  extract_lets session x
  have hx : x.1.time = d.time := entryService_time
  split
  · split
    · rfl
    · exact hx
  · split <;> simp

@[simp] theorem enqueueDict_time {l type q m} : (enqueueDict l type q m d).time = d.time := by simp [enqueueDict]
@[simp] theorem respond_time {n conn m} : (respond n conn m d).time = d.time := by simp [respond]
@[simp] theorem note_time {n m} : (note n m d).time = d.time := by rfl
@[simp] theorem passAcross_time {n m} : (passAcross n m d).time = d.time := by rfl
@[simp] theorem answered_time {n conn m x} : (answered n conn m x).time = x.1.time := by simp [answered]
@[simp] theorem serveNew_time {n conn m} : (serveNew n conn m d).time = d.time := by simp [serveNew]

@[simp] theorem serveMsg_time {conn m} : (serveMsg conn m d).time = d.time := by
  simp only [serveMsg]
  (repeat' split) <;> simp

@[simp] theorem serve_time {service idx sub a} : (serve service idx sub a d).time = d.time := by
  unfold serve
  (repeat' split) <;> simp

@[simp] theorem portService_time {can n q} : (portService can n q d).1.time = d.time := by simp [portService]

@[simp] theorem atPort_time {n q} : (atPort n q d).time = d.time := by
  unfold atPort
  split <;> simp

@[simp] theorem portWrite_time {idx sub a} : (portWrite idx sub a d).time = d.time := by
  unfold portWrite
  (repeat' split) <;> simp

@[simp] theorem serveWrite_time {idx sub a} : (serveWrite idx sub a d).time = d.time := by simp [serveWrite]
@[simp] theorem serveValue_time {idx sub n v a} : (serveValue idx sub n v a d).time = d.time := by simp [serveValue]

theorem execDictionaryRequest_answers {m} :
    Answers s (execDictionaryRequest m s) := done_answers (by (repeat' split) <;> simp)

@[simp] theorem heardAnswer_time {n conn q tag} : (heardAnswer n conn q tag d).time = d.time := by simp [heardAnswer]

theorem execDictionaryResponse_answers {m} :
    Answers s (execDictionaryResponse m s) := done_answers (by (repeat' split) <;> simp)

theorem execTransferTimeout_answers {n} : Answers s (execTransferTimeout n s) := done_answers (by split <;> simp)

/-! The commands. -/

/-- Every command but the two that set the base is done with a device on the base that it started on. -/
theorem exec_answers {c : Instr} (hp : ∀ k, c ≠ .fieldPowerUp k) (hr : ∀ f b n, c ≠ .resynchronisation f b n) :
    Answers s (exec c s) := by
  cases c with
  | controlPeriod => exact done_answers (by simp)
  | heartbeat => exact execHeartbeat_answers
  | barrierLoss => exact execBarrierLoss_answers
  | timeMark => exact done_answers (by simp)
  | channelStale => exact execChannelStale_answers
  | referenceSwitch => exact execReferenceSwitch_answers
  | peerTimeTransfer => exact execPeerTimeTransfer_answers
  | laneNextMessage => exact done_answers (by simp)
  | laneRealign => exact done_answers (by simp)
  | dictionaryRequest => exact execDictionaryRequest_answers
  | dictionaryResponse => exact execDictionaryResponse_answers
  | sessionNotice => exact execSessionNotice_answers
  | ridgeFrameToSafety => exact execRidgeFrameToSafety_answers
  | ridgeFrameFromSafety => exact execRidgeFrameFromSafety_answers
  | vehicleTargetUpdate => exact execVehicleTargetUpdate_answers
  | outletStatus => exact execOutletStatus_answers
  | sitePowerData => exact execSitePowerData_answers
  | headData => exact execHeadData_answers
  | meteringRecord => exact execMeteringRecord_answers
  | meteringRecordAcknowledge => exact execMeteringRecordAcknowledge_answers
  | meteringRecordRetransmit => exact execMeteringRecordRetransmit_answers
  | scribeNotice => exact execScribeNotice_answers
  | snapshotFragment => exact execSnapshotFragment_answers
  | imageBlock => exact execImageBlock_answers
  | powerFailNotice => exact execPowerFailNotice_answers
  | lifeCycleNotice => exact execLifeCycleNotice_answers
  | event => exact execEvent_answers
  | contactorTravelConfirmed => exact execContactorTravelConfirmed_answers
  | contactorTravelFault => exact execContactorTravelFault_answers
  | contactDisagreement => exact execContactDisagreement_answers
  | contactorTest | clearFrozenTie | clearContactorTravelFault | ringConfigurationWrite | isolationRequest
      | legEnableWrite | controlSourceWrite | setpointIndexWrite | directSetpointWrite | modeRequestWrite
      | classFormatWrite | coefficientWrite | generatorTargetWrite | gridLimitWrite | layoutHoldWrite
      | authorizationResultWrite | sealRelevantWrite | sf2FaultReset | sf1FaultReset | passwordWrite | safeWrite
      | channelCommandWrite | forcedSelectWrite | externalSelectPermitWrite | limpHomeMapWrite
      | generalInputEnableWrite | pairingConfigurationWrite | wallClockWrite | removeNode | expectedSerialWrite
      | dmaChannelStart | dmaChannelRegisterWrite | descriptorWrite | transitionArm | keyValueWrite | publicItemWrite
      | imageStage => exact done_answers (by simp)
  | uplinkDeadline => exact execUplinkDeadline_answers
  | linkHoldExpiry => exact execLinkHoldExpiry_answers
  | brickLinkUp => exact execBrickLinkUp_answers
  | legLostRecovery => exact execLegLostRecovery_answers
  | portDelayMeasurement => exact execPortDelayMeasurement_answers
  | downlinkFrameAccept => exact done_answers (by simp)
  | cardDownlinkDeadline => exact done_answers (by simp)
  | cardContactorHold => exact execCardContactorHold_answers
  | serviceRequest => exact done_answers (by simp)
  | fieldIslandRestart => exact execFieldIslandRestart_answers
  | syncInEdge => exact done_answers (by simp)
  | syncLoss => exact execSyncLoss_answers
  | diodeEmulationEntry => exact execDiodeEmulationEntry_answers
  | shedDwellExpiry => exact done_answers (by simp)
  | brakingWindowEnd => exact execBrakingWindowEnd_answers
  | senseImplausible => exact execSenseImplausible_answers
  | legFaultReset | peakCapture | railStart | railStop | railIsolate | railRestore | ratiometricStart | generatorStart
      | injectionStart | injectionStop | followingErrorReset | replan | outletStop | outletOutOfService
      | outletReturnToService | outletFaultReset | pairHead | metrologyWindowOpen | metrologyWindowClose
      | safetyRestart | transactionOpen | transactionCommit | transactionAbort | channelClear | swap | reClaim
      | dmaStopRequest | captureClaim | captureRelease | snapshotTriggerCommand | transitionToField
      | transitionToReturn | transitionToDecommissioned | keyGenerate | keyDelete | discardStaged | fallBack
      | activateModule | activatePair | commit | restoreDefaults => exact done_answers (by simp)
  | telemetryWindowEnd => exact done_answers (by simp)
  | startSettleExpiry => exact execStartSettleExpiry_answers
  | trackingTimeout => exact done_answers (by simp)
  | ratiometricPauseLimit => exact done_answers (by simp)
  | drainTimeout => exact execDrainTimeout_answers
  | episodePause => exact done_answers (by simp)
  | railSenseLost => exact execRailSenseLost_answers
  | generatorStartDelayExpiry => exact execGeneratorStartDelayExpiry_answers
  | thermalInputStale => exact done_answers (by simp)
  | injectionEnd => exact done_answers (by simp)
  | followingErrorTimer => exact execFollowingErrorTimer_answers
  | planningCycle => exact done_answers (by simp)
  | planningOverrun => exact execPlanningOverrun_answers
  | gridLimitExpiry => exact execGridLimitExpiry_answers
  | frontEndStale => exact execFrontEndStale_answers
  | frontEndStaleHoldExpiry => exact execFrontEndStaleHoldExpiry_answers
  | moveStart => exact done_answers (by simp)
  | handoverEnd => exact done_answers (by simp)
  | handoverTimeout => exact execHandoverTimeout_answers
  | openWaitLimit => exact execOpenWaitLimit_answers
  | restoreWaitLimit => exact execRestoreWaitLimit_answers
  | releaseHoldExpiry => exact execReleaseHoldExpiry_answers
  | connectionDetected => exact execConnectionDetected_answers
  | unplugDetected => exact execUnplugDetected_answers
  | plugTimeout => exact execPlugTimeout_answers
  | targetTimeout => exact execTargetTimeout_answers
  | authorizationTimeout => exact execAuthorizationTimeout_answers
  | vehicleMessage => exact done_answers (by simp)
  | cableCheckRailReady => exact execCableCheckRailReady_answers
  | imdSettleExpiry => exact execImdSettleExpiry_answers
  | cableCheckTimeout => exact execCableCheckTimeout_answers
  | cableShort => exact execCableShort_answers
  | imdReading => exact done_answers (by simp)
  | imdAgeExpiry => exact execImdAgeExpiry_answers
  | directionChangeComplete => exact execDirectionChangeComplete_answers
  | fastStopEnd => exact execFastStopEnd_answers
  | outletContactorOpen => exact execOutletContactorOpen_answers
  | faultedRailStop => exact execFaultedRailStop_answers
  | winddownTimeout => exact execWinddownTimeout_answers
  | weldCheckPass => exact execWeldCheckPass_answers
  | cableDischargeExpiry => exact execCableDischargeExpiry_answers
  | headStale => exact execHeadStale_answers
  | deratingUpdate => exact execDeratingUpdate_answers
  | flowFault => exact execFlowFault_answers
  | flowFaultClear => exact execFlowFaultClear_answers
  | runOnExpiry => exact execRunOnExpiry_answers
  | meteringUplinkFrame => exact execMeteringUplinkFrame_answers
  | meteringDownlinkFrame => exact execMeteringDownlinkFrame_answers
  | meteringIntervalEnd => exact execMeteringIntervalEnd_answers
  | pulseBacklogIssue => exact execPulseBacklogIssue_answers
  | testPulseEdge => exact execTestPulseEdge_answers
  | meteringLinkDown => exact execMeteringLinkDown_answers
  | meteringLinkUp => exact execMeteringLinkUp_answers
  | outletStatusCopy => exact execOutletStatusCopy_answers
  | meteringSessionOpen => exact execMeteringSessionOpen_answers
  | meteringSessionClose => exact execMeteringSessionClose_answers
  | recordSigned => exact execRecordSigned_answers
  | lateStartWitness => exact execLateStartWitness_answers
  | metrologyRestartContinuation => exact execMetrologyRestartContinuation_answers
  | periodicSave => exact execPeriodicSave_answers
  | finalWriteStart => exact execFinalWriteStart_answers
  | metrologyStartClose => exact execMetrologyStartClose_answers
  | metrologyWindowExpiry => exact execMetrologyWindowExpiry_answers
  | safetyCycle => exact execSafetyCycle_answers
  | safetyInputSample => exact execSafetyInputSample_answers
  | discrepancyTimeout => exact execDiscrepancyTimeout_answers
  | darkPulseTest => exact execDarkPulseTest_answers
  | darkPulseTimeout => exact execDarkPulseTimeout_answers
  | chargePumpTimeout => exact done_answers (by simp)
  | coreDisagreement => exact execCoreDisagreement_answers
  | safetySelfTestComplete => exact execSafetySelfTestComplete_answers
  | currentWaitTimeout => exact execCurrentWaitTimeout_answers
  | feedbackTimerEnd => exact execFeedbackTimerEnd_answers
  | safetyFeed => exact done_answers (by simp)
  | ridgeWatchdog => exact execRidgeWatchdog_answers
  | ridgeFaultRecovery => exact execRidgeFaultRecovery_answers
  | ridgeAcknowledge => exact execRidgeAcknowledge_answers
  | ridgeProducerWatchdog => exact execRidgeProducerWatchdog_answers
  | passwordHoldExpiry => exact execPasswordHoldExpiry_answers
  | transactionTimeout => exact execTransactionTimeout_answers
  | lockoutExpiry => exact execLockoutExpiry_answers
  | loadCommandTransfer => exact execLoadCommandTransfer_answers
  | wireModelUpdate => exact execWireModelUpdate_answers
  | shortCircuitTrip => exact done_answers (by simp)
  | retryDelayExpiry => exact execRetryDelayExpiry_answers
  | retryResetExpiry => exact execRetryResetExpiry_answers
  | junctionLatch => exact execJunctionLatch_answers
  | clampEvent => exact execClampEvent_answers
  | senseScanStep => exact execSenseScanStep_answers
  | extselChange => exact execExtselChange_answers
  | limpNChange => exact execLimpNChange_answers
  | lhInChange => exact execLhInChange_answers
  | loadCommandStale => exact execLoadCommandStale_answers
  | orphanTimeout => exact execOrphanTimeout_answers
  | dissipationEstimate => exact execDissipationEstimate_answers
  | openLoadDetection => exact execOpenLoadDetection_answers
  | loadSupplyLow => exact execLoadSupplyLow_answers
  | loadSupplyReturn => exact execLoadSupplyReturn_answers
  | dowelRenewalSend => exact execDowelRenewalSend_answers
  | dowelRenewal => exact execDowelRenewal_answers
  | leaseExpiry => exact execLeaseExpiry_answers
  | bidGuardExpiry => exact execBidGuardExpiry_answers
  | bid => exact execBid_answers
  | bidAnswer => exact execBidAnswer_answers
  | bidWaitExpiry => exact execBidWaitExpiry_answers
  | leaseSupportLost => exact execLeaseSupportLost_answers
  | holderLeaseEnd => exact execHolderLeaseEnd_answers
  | yield => exact execYield_answers
  | yieldAcknowledge => exact execYieldAcknowledge_answers
  | yieldAckTimeout => exact execYieldAckTimeout_answers
  | swapBoundary => exact execSwapBoundary_answers
  | mirrorBlock => exact execMirrorBlock_answers
  | peerStatus => exact execPeerStatus_answers
  | peerPortUp => exact done_answers (by simp)
  | peerPortDown => exact execPeerPortDown_answers
  | bulkRequest => exact execBulkRequest_answers
  | bulkData => exact execBulkData_answers
  | resynchronisation f b n => exact absurd rfl (hr f b n)
  | resyncTimeout => exact execResyncTimeout_answers
  | inStepGained => exact execInStepGained_answers
  | inStepLost => exact execInStepLost_answers
  | switchOverTargetHoldExpiry => exact execSwitchOverTargetHoldExpiry_answers
  | canFrameReceived => exact done_answers (by simp)
  | canFrameTransmitted => exact execCanFrameTransmitted_answers
  | stagingAdmission => exact done_answers (by simp)
  | busOff => exact done_answers (by simp)
  | busOffRecovery => exact execBusOffRecovery_answers
  | canHeartbeat => exact execCanHeartbeat_answers
  | addrInHigh => exact execAddrInHigh_answers
  | addressListenExpiry => exact execAddressListenExpiry_answers
  | claimListenExpiry => exact execClaimListenExpiry_answers
  | addressClaim => exact execAddressClaim_answers
  | claimRetryDelay => exact execClaimRetryDelay_answers
  | frontEndStatus => exact execFrontEndStatus_answers
  | imdReadingFrame => exact execImdReadingFrame_answers
  | imdCommand => exact execImdCommand_answers
  | openSession => exact done_answers (by simp)
  | closeSession | keepAlive | read | write | readSegmentedStart | readSegment | writeSegmentedStart | writeSegment
      | transferAbandon | claimGroup | releaseGroup | queryOwner | subscribe | unsubscribe => exact done_answers (by simp)
  | transferTimeout => exact execTransferTimeout_answers
  | publication => exact done_answers (by simp)
  | sessionTimeout => exact execSessionTimeout_answers
  | usbChallengeExpiry => exact execUsbChallengeExpiry_answers
  | tlsConnection => exact execTlsConnection_answers
  | tlsHandshakeTimeout => exact execTlsHandshakeTimeout_answers
  | tlsIdleTimeout => exact execTlsIdleTimeout_answers
  | ptpSync => exact done_answers (by simp)
  | ptpSyncLoss => exact execPtpSyncLoss_answers
  | wallClockOffsetSend => exact execWallClockOffsetSend_answers
  | eavelineCycle => exact execEavelineCycle_answers
  | cycleHeader => exact execCycleHeader_answers
  | controlBlock => exact execControlBlock_answers
  | dataBlock => exact execDataBlock_answers
  | messageReassemblyTimeout => exact execMessageReassemblyTimeout_answers
  | robustStepUp => exact execRobustStepUp_answers
  | stepUpCountReset => exact execStepUpCountReset_answers
  | layoutSwitch => exact execLayoutSwitch_answers
  | admissionAnswer => exact execAdmissionAnswer_answers
  | nodeRefusedRetry => exact execNodeRefusedRetry_answers
  | nodeLost => exact execNodeLost_answers
  | nodePreambleLoss => exact execNodePreambleLoss_answers
  | zeroCrossingReport => exact done_answers (by simp)
  | mainsRefCrossing => exact execMainsRefCrossing_answers
  | eavelineStateSync => exact execEavelineStateSync_answers
  | eavelineMasterTake => exact execEavelineMasterTake_answers
  | dmaDescriptorEnd => exact done_answers (by simp)
  | snapInEdge => exact execSnapInEdge_answers
  | partnerScribeTrigger => exact execPartnerScribeTrigger_answers
  | snapshotFieldStore => exact done_answers (by simp)
  | snapshotSetValid => exact execSnapshotSetValid_answers
  | eventRaised => exact done_answers (by simp)
  | eventQueueRoom => exact execEventQueueRoom_answers
  | eventLogFlush => exact execEventLogFlush_answers
  | factoryTransition => exact execFactoryTransition_answers
  | keySlotLoad => exact execKeySlotLoad_answers
  | keySlotWaitTimeout => exact execKeySlotWaitTimeout_answers
  | fxWinddownEnd => exact execFxWinddownEnd_answers
  | bootCheck => exact execBootCheck_answers
  | trialConfirm => exact execTrialConfirm_answers
  | confirmTimeout => exact execConfirmTimeout_answers
  | autoCommit => exact execAutoCommit_answers
  | leafWriteComplete => exact execLeafWriteComplete_answers
  | fieldPowerFailWarning => exact done_answers (by simp)
  | fieldSequenceEnd => exact execFieldSequenceEnd_answers
  | hostPowerFailWarning => exact done_answers (by simp)
  | fieldPowerUp k => exact absurd rfl (hp k)
  | hostPowerUp => exact execHostPowerUp_answers
  | holdupCharged => exact execHoldupCharged_answers
  | domainStartFailed => exact execDomainStartFailed_answers
  | supplyRedundancyLost => exact execSupplyRedundancyLost_answers
  | supplyRedundancyRestored => exact execSupplyRedundancyRestored_answers
  | holdupTest => exact execHoldupTest_answers
  | coldPlateRead => exact execColdPlateRead_answers
  | overTemperatureShutdown => exact execOverTemperatureShutdown_answers
  | overTemperatureRestart => exact execOverTemperatureRestart_answers
  | partnerWaitExpiry => exact execPartnerWaitExpiry_answers
  | islandWatchdogReset => exact execIslandWatchdogReset_answers
  | holdoverLimit => exact execHoldoverLimit_answers
  | imageStatus => exact execImageStatus_answers
  | ethernetLinkChange => exact execEthernetLinkChange_answers
  | commitSpacingExpiry => exact execCommitSpacingExpiry_answers

end Sys2Proof.Machine
end

section
/-! Every step and every command answers (O2). `done` never goes back; the two commands that answer without it set the
base at an instant that stands, or lets pass the start of the islands. -/
namespace Sys2Proof.Machine

variable {d : Dev} {s : State}

/-- An outcome is a next state with the queue as it was and an instant not before that of the state. -/
def GoesOn (s : State) (o : Host.Outcome State Fault Refusal) : Prop :=
  ∃ t, o = .next t ∧ t.pending = s.pending ∧ s.dev.time.now ≤ t.dev.time.now

theorem next_goesOn (h : s.dev.time.now ≤ d.time.now) : GoesOn s (.next { s with dev := d }) := ⟨_, rfl, rfl, h⟩

theorem done_goesOn : GoesOn s (done s d) := next_goesOn (le_max_right ..)

theorem GoesOn.ite {c : Prop} [Decidable c] {a b : Host.Outcome State Fault Refusal} (ha : GoesOn s a) (hb : GoesOn s b) :
    GoesOn s (if c then a else b) := by
  split <;> assumption

/-- The start of the field side passes 20 ms, island by island. -/
theorem le_fieldOrder_now {cause} : d.time.now ≤ (fieldOrder cause d).time.now := by
  have h : (fieldOrder cause d).time.now = d.time.now + ms 10 + ms 10 := by simp [fieldOrder]
  omega

theorem execFieldPowerUp_goesOn {cold} : GoesOn s (execFieldPowerUp cold s) := by
  unfold execFieldPowerUp
  extract_lets d0 d1 _ d2 d3 d4
  have h2 : d2.time.now = s.dev.time.now := rfl
  have h4 : d4.time = d2.time := by simp [d4, d3]
  have h : s.dev.time.now ≤ (reach (d4.time.now + ms 10) d4).time.now := by simp [h4, h2]
  exact .ite done_goesOn (.ite (next_goesOn (h.trans le_fieldOrder_now)) (.ite done_goesOn done_goesOn))

theorem execResynchronisation_goesOn {f b n} : GoesOn s (execResynchronisation f b n s) := by
  unfold execResynchronisation
  extract_lets _ _ _ _ _ _ _ _ d
  have h {b} : (auditAlways 8 (raise 7 .pairTimeStep b d)).time.now = d.time.now :=
    congrArg Timebase.now (auditAlways_time.trans (raise_time ..))
  exact .ite done_goesOn (.ite done_goesOn (next_goesOn h.ge))

/-- Every command answers, and time does not go back. -/
theorem exec_goesOn (c : Instr) (s : State) : GoesOn s (exec c s) := by
  by_cases hp : ∃ k, c = .fieldPowerUp k
  · obtain ⟨k, rfl⟩ := hp
    exact execFieldPowerUp_goesOn
  by_cases hr : ∃ f b n, c = .resynchronisation f b n
  · obtain ⟨f, b, n, rfl⟩ := hr
    exact execResynchronisation_goesOn
  obtain ⟨d, e, -⟩ := exec_answers (s := s) (c := c) (fun k h => hp ⟨k, h⟩) (fun f b n h => hr ⟨f, b, n, h⟩)
  exact e ▸ done_goesOn

/-- The base is moved by a start of the field side and by a resynchronisation alone. -/
theorem exec_base {c : Instr} {t : State} (hp : ∀ k, c ≠ .fieldPowerUp k)
    (hr : ∀ f b n, c ≠ .resynchronisation f b n) (h : exec c s = .next t) : t.dev.time.base = s.dev.time.base := by
  obtain ⟨d, e, hb⟩ := exec_answers (s := s) hp hr
  cases e.symm.trans h
  exact hb

/-- Settles O2: each command is done with what its operations made of the device, and but for the two that set the site
time base anew (R14, R17) each of these leaves the base alone. -/
theorem everyStepAnswers : Obligations.EveryStepAnswers := by
  refine ⟨fun s => ?_, exec_goesOn⟩
  unfold step
  split
  · rename_i h
    exact ⟨s, rfl, by simp [h], le_rfl, fun _ => rfl⟩
  · rename_i c rest h
    obtain ⟨t, ht, hq, hn⟩ := exec_goesOn c { s with pending := rest }
    refine ⟨t, ht, by simp [hq, h], hn, fun others => ?_⟩
    obtain ⟨hp, hr⟩ := others rest c h
    exact exec_base (s := { s with pending := rest }) hp hr ht

end Sys2Proof.Machine
end

section
/-! What lies within parts of the module, operation by operation. -/
namespace Sys2Proof.Machine
variable {d e f : Dev} {parts parts' : List Part} {groups groups' : List Nat}

theorem same.trans {p : Part} (h : same p d e) (h' : same p e f) : same p d f := by
  cases p
  case time =>
    obtain ⟨le, eq⟩ := h
    obtain ⟨le', eq'⟩ := h'
    refine ⟨le.trans le', ?_⟩
    rw [← eq, ← eq']
  all_goals exact Eq.trans h' h

theorem Within.trans (h : Within parts groups d e) (h' : Within parts groups e f) : Within parts groups d f :=
  ⟨fun p hp => (h.1 p hp).trans (h'.1 p hp), fun k hk => (h'.2 k hk).trans (h.2 k hk)⟩

theorem Within.rfl : Within parts groups d d :=
  ⟨fun p _ => by cases p <;> simp [same], fun _ _ => Eq.refl _⟩

theorem Within.mono (h : Within parts groups d e) (hp : parts ⊆ parts') (hg : groups ⊆ groups') : Within parts' groups' d e :=
  ⟨fun p out => h.1 p fun i => out (hp i), fun k out => h.2 k fun i => out (hg i)⟩

theorem within_setVal (k : Nat) (v : DVal) : Within [] [k / 65536] d (setVal k v d) :=
  ⟨fun p _ => by cases p <;> simp [same],
    fun j out => getVal_setVal_other d k j v fun e => out (e ▸ List.mem_singleton_self _)⟩

theorem within_onContactor (x : ContactorId) (g : Contactor → Contactor) : Within [.ring, .brick] [] d (onContactor x g d) :=
  ⟨fun p out => by cases p <;> simp_all [same], fun k _ => getVal_of_regs (onContactor_regs ..) k⟩

theorem within_barrier (b : Barrier) : Within [.barrier] [] d { d with barrier := b } :=
  ⟨fun p out => by cases p <;> simp_all [same], fun _ _ => rfl⟩

end Sys2Proof.Machine
end

section
/-! The conditions of check 7 and the code that they give (R498). -/
namespace Sys2Proof.Machine

theorem failing_eq_nil {b : Bool} {n code : Nat} : failing b n code = [] ↔ b = false := by
  cases b <;> simp [failing]

/-- A write names no code where no condition fails, and only there. -/
theorem firstFailing_eq_none {l : List (Nat × Nat)} : firstFailing l = none ↔ l = [] := by
  obtain rfl | ⟨l, x, rfl⟩ := List.eq_nil_or_concat l
  · simp [firstFailing]
  · simp only [firstFailing, List.concat_eq_append, List.foldl_append, List.foldl_cons, List.foldl_nil, Option.map_eq_none_iff]
    split <;> simp [ite_eq_iff]

end Sys2Proof.Machine
end

section
/-! A write to an entry of the field side, from the command that is named for it to its answer (R24, R29, R367, R498). -/
namespace Sys2Proof.Machine
variable {d : Dev} {c : Instr} {idx sub code : Nat} {a : Ask} {h : Served} {r : Row} {s : State} {n : Fin 6} {m : DictMsg}

/-- The port does what it has been dispatched, and queues the answer. -/
theorem portServed_spec (got : portServed n m d = some h) : ∃ can, h = ⟨n, m, can, true, d⟩
    ∧ (m.service < 0x20 → islandUp (targetIsland m) d = true)
    ∧ atPort n m d = enqueueDict .fh 0x06 m (answerMsg m (portService can n m d).2) (portService can n m d).1 := by
  unfold portServed at got
  split at got
  · rename_i x isOpen
    split at got
    · rename_i there
      refine ⟨_, (Option.some.inj got).symm, fun low => ?_, by simp only [atPort, isOpen]⟩
      simpa [Nat.not_le.2 low] using there
    · cases got
  · cases got

theorem portService_write {can : Bool} (write : m.service = 0x11) (there : islandUp (targetIsland m) d = true) :
    portService can n m d = writeService (n.val + 1) m.index m.sub m.data d := by
  simp [portService, entryService, write, there]

/-- What a command named for a field-side entry asks of the port, and what the port does with it. -/
theorem served_at_port (asked : askedBy c = some (.named idx sub a)) (field : fieldHeld idx sub = true) (got : served c d = some h) :
    ∃ n can, h = ⟨n, requestMsg 0x11 idx sub a, can, true, d⟩ ∧ serveWrite idx sub a d
      = enqueueDict .fh 0x06 h.msg (answerMsg h.msg (writeService (h.slot.val + 1) h.msg.index h.msg.sub h.msg.data h.dev).2)
          (writeService (h.slot.val + 1) h.msg.index h.msg.sub h.msg.data h.dev).1 := by
  unfold served at got
  split at got
  · simp [askedBy] at asked
  · simp only [asked, Asked.named, field, if_true] at got
    split at got
    · rename_i n slot
      split at got
      · rename_i running
        obtain ⟨can, rfl, there, done⟩ := portServed_spec got
        refine ⟨n, can, rfl, ?_⟩
        have port : serveWrite idx sub a d = atPort n (requestMsg 0x11 idx sub a) d := by
          simp [serveWrite, field, portWrite, running, slot]
        rw [portService_write rfl (there (show 0x11 < 0x20 by decide))] at done
        exact port.trans done
      · cases got
    · cases got

theorem rowOf_of_findEntry (h : findEntry idx sub = .ok r) : rowOf idx sub = some r := by
  unfold findEntry at h
  split at h
  · cases h
  · split at h
    · rwa [← Except.ok.inj h]
    · cases h

theorem Served.write_eq (found : findEntry h.msg.index h.msg.sub = .ok r) :
    h.write = ⟨h.slot.val + 1, h.msg.index, h.msg.sub, bytesVal r.ty h.msg.data⟩ := by
  simp [Served.write, rowOf_of_findEntry found]

/-- The checks that a taken write has passed. -/
theorem Served.taken_spec (taken : h.taken = true) : ∃ r, findEntry h.msg.index h.msg.sub = .ok r
    ∧ writeAccess (h.slot.val + 1) h.msg.index h.msg.sub r h.dev = none ∧ valueCheck h.msg.index r h.msg.data = none
    ∧ subjectChecks h.write r h.dev = [] := by
  unfold Served.taken at taken
  split at taken
  · rename_i r found
    simp only [Bool.and_eq_true, Option.isNone_iff_eq_none] at taken
    obtain ⟨⟨⟨-, access⟩, valid⟩, subject⟩ := taken
    exact ⟨r, found, access, valid, firstFailing_eq_none.1 subject⟩
  · cases taken

section
variable {session : Nat} {b : List Byte} (found : findEntry idx sub = .ok r) (access : writeAccess session idx sub r d = none)
  (valid : valueCheck idx r b = none)
include found access valid

/-- A write that passes every check is carried out. -/
theorem writeService_accept (passes : subjectChecks ⟨session, idx, sub, bytesVal r.ty b⟩ r d = []) :
    writeService session idx sub b d = (accept ⟨session, idx, sub, bytesVal r.ty b⟩ r d, reply []) := by
  simp [writeService, found, access, writeValue, valid, firstFailing_eq_none.2 passes, writeAnswer]

/-- A write that check 7 refuses is answered with its code. -/
theorem writeService_refuse (fails : firstFailing (subjectChecks ⟨session, idx, sub, bytesVal r.ty b⟩ r d) = some code) :
    writeService session idx sub b d = (refuse ⟨session, idx, sub, bytesVal r.ty b⟩ r code d, .error code) := by
  simp [writeService, found, access, writeValue, valid, fails, writeAnswer]
end

/-! The answer on its way. -/

theorem within_enqueueDict (l : Lane) (t : Nat) (q m : DictMsg) : Within [.barrier] [] d (enqueueDict l t q m d) := by
  rw [enqueueDict, enqueue_frame]
  exact within_barrier _

theorem answered_at_port {x : Answer} (port : h.port = true) :
    Claims.Answered h x (enqueueDict .fh 0x06 h.msg (answerMsg h.msg x) d) := by
  rw [Claims.Answered, if_pos port]
  exact ⟨_, lastOf_enqueue .., rfl, rfl, rfl, rfl⟩

/-- What a command named for a field-side entry gives where its write is taken: what the entry's chapter says, with the answer
waiting for lane FH. -/
theorem takes_at_port {parts : List Part} {groups : List Nat} {P : WriteCall → Dev → Prop}
    (asked : askedBy c = some (.named idx sub a)) (field : fieldHeld idx sub = true)
    (run : exec c s = done s (serveWrite idx sub a s.dev))
    (work : ∀ w r, w.idx = idx → w.sub = sub → rowOf idx sub = some r → subjectChecks w r s.dev = [] →
      Within (writeParts ++ parts) (0x12 :: groups) s.dev (accept w r s.dev) ∧ ∀ b, P w { accept w r s.dev with barrier := b }) :
    Claims.Takes c s parts groups P := by
  intro h got taken
  obtain ⟨n, can, rfl, served⟩ := served_at_port asked field got
  obtain ⟨r, found, access, valid, passes⟩ := Served.taken_spec taken
  rw [Served.write_eq found] at passes ⊢
  rw [writeService_accept found access valid passes] at served
  obtain ⟨within, holds⟩ := work _ r rfl rfl (rowOf_of_findEntry found) passes
  refine gives_of_done run (by simp) ?_
  rw [served]
  refine ⟨?_, within.trans ((within_enqueueDict ..).mono (by simp [writeParts]) (by simp))⟩
  rw [enqueueDict, enqueue_frame]
  exact holds _

/-- A refused write of which its chapter takes no note changes the status of a CMD entry at most. -/
theorem refuse_spec {w : WriteCall} (quiet : ∀ d, (handlerOf w.idx w.sub).refused w code d = d)
    (group : key w.idx w.sub / 65536 = w.idx / 256) : Within [] [w.idx / 256] d (refuse w r code d)
      ∧ ∀ k, k ≠ key w.idx w.sub → getVal (refuse w r code d) k = getVal d k := by
  rw [refuse, quiet]
  split
  · exact ⟨group ▸ within_setVal .., fun k other => getVal_setVal_other _ _ _ _ other⟩
  · exact ⟨.rfl, fun _ _ => rfl⟩

/-- What a command named for a field-side entry gives where its write is refused by check 7: the code as answer. -/
theorem refuses_at_port (asked : askedBy c = some (.named idx sub a)) (field : fieldHeld idx sub = true)
    (run : exec c s = done s (serveWrite idx sub a s.dev)) (group : key idx sub / 65536 = idx / 256)
    (quiet : ∀ w d, (handlerOf idx sub).refused w code d = d)
    (fails : ∀ w r, w.idx = idx → w.sub = sub → w.val = bytesVal r.ty a.data → rowOf idx sub = some r → available idx sub s.dev = [] →
      (leaseOnly idx = true → holds s.dev = true) → firstFailing (subjectChecks w r s.dev) = some code) :
    Claims.Refuses c s code := by
  rintro h ⟨got, -, -⟩ ⟨-, ready, lease, r, found, access, valid⟩
  obtain ⟨n, can, rfl, served⟩ := served_at_port asked field got
  rw [writeService_refuse found access valid (fails _ r rfl rfl rfl (rowOf_of_findEntry found) ready lease)] at served
  refine gives_of_done run (by simp) ?_
  rw [served]
  obtain ⟨within, others⟩ := refuse_spec (d := s.dev) (r := r) (w := ⟨n.val + 1, idx, sub, bytesVal r.ty a.data⟩) (quiet _) group
  exact ⟨answered_at_port rfl, (within.mono (by simp) (by simp [requestMsg])).trans ((within_enqueueDict ..).mono (by simp) (by simp)),
    fun k _ _ other => ((within_enqueueDict ..).2 k (by simp)).trans (others k other)⟩

end Sys2Proof.Machine
end

section
/-! Contactors: what a record holds after a change, and what the interlock goes by (R41, R57, Table 2.4). -/
namespace Sys2Proof.Machine
variable {d : Dev} {k : Nat} {v : DVal}

@[simp] theorem contactor_onContactor_same (x : ContactorId) (f : Contactor → Contactor) :
    contactor x (onContactor x f d) = f (contactor x d) := by
  cases x with
  | tie j => exact upd_get_same ..
  | brick k => exact congrArg Brick.contactor (upd_get_same ..)
  | outlet j => exact upd_get_same ..

theorem contactor_onContactor_other {x y : ContactorId} (f : Contactor → Contactor) (h : y ≠ x) :
    contactor y (onContactor x f d) = contactor y d := by
  cases x with
  | tie j =>
    cases y with
    | tie i => exact upd_get_other _ _ _ _ fun e => h (e ▸ rfl)
    | brick | outlet => rfl
  | brick j =>
    cases y with
    | brick i => exact congrArg Brick.contactor (upd_get_other _ _ _ _ fun e => h (e ▸ rfl))
    | tie | outlet => rfl
  | outlet j =>
    cases y with
    | outlet i => exact upd_get_other _ _ _ _ fun e => h (e ▸ rfl)
    | tie | brick => rfl

@[simp] theorem contactor_setVal (x : ContactorId) : contactor x (setVal k v d) = contactor x d := by cases x <;> rfl

@[simp] theorem contactor_barrier (x : ContactorId) (b : Barrier) : contactor x { d with barrier := b } = contactor x d := by
  cases x <;> rfl

theorem onContactor_setVal (x : ContactorId) (f : Contactor → Contactor) :
    onContactor x f (setVal k v d) = setVal k v (onContactor x f d) := by cases x <;> rfl

@[simp] theorem reporting_setVal (x : ContactorId) : reporting x (setVal k v d) = reporting x d := rfl

/-! What the interlock goes by: of the entries the fitted ties, and the dwell time of a tie. -/
section
variable (ties : k ≠ key 0x2805 0x01)
include ties

theorem tieFitted_setVal (j : Fin 12) : tieFitted j (setVal k v d) = tieFitted j d := by
  simp only [tieFitted, nat, num, getVal_setVal_other _ _ _ _ ties.symm]

theorem countsClosed_setVal (x : ContactorId) : countsClosed x (setVal k v d) = countsClosed x d := by
  cases x with
  | tie j => simp only [countsClosed, tieFitted_setVal ties, contactor_setVal, reporting_setVal]
  | brick | outlet => rfl

theorem deriveSegments_setVal : deriveSegments (setVal k v d) = setVal k v (deriveSegments d) := by
  simp only [deriveSegments, tieMask, tieClosed, countsClosed_setVal ties]
  rfl

theorem refusal_setVal (dwell : k ≠ key 0x2802 0x0A) {permit : Fin 12 → Dev → Bool} (permits : ∀ j, permit j (setVal k v d) = permit j d)
    (x : ContactorId) : refusal permit x (setVal k v d) = refusal permit x d := by
  have dwelt_ (j : Fin 12) : dwelt j (setVal k v d) = dwelt j d := by
    simp only [dwelt, nat, num, getVal_setVal_other _ _ _ _ dwell.symm]
    rfl
  simp only [refusal, contactor_setVal, permits, deriveSegments_setVal ties, tieFitted_setVal ties, tieClosed, outletClosed,
    countsClosed_setVal ties, dwelt_]
  rfl
end

/-- The record of a contactor whose change is granted at an instant: it goes into travel. -/
def Contactor.granted (t : Nat) (c : Contactor) : Contactor :=
  { c with cmd := c.want, travel := some t, lastChange := some t, dropped := false, refused := false }

/-- A change asked for that the interlock does not refuse is granted. -/
theorem judge_of_granted {permit : Fin 12 → Dev → Bool} {x : ContactorId} (asked : (contactor x d).want ≠ (contactor x d).cmd)
    (granted : refusal permit x d = none) : judge permit x d = onContactor x (Contactor.granted d.time.now) d := by
  rw [judge, if_neg asked, granted]
  rfl

end Sys2Proof.Machine
end

section
/-! The contactor test (R57). -/
namespace Sys2Proof.Machine
variable {d : Dev} {w : WriteCall} {r : Row} {x : ContactorId} {s : State} {a : Ask}

theorem contactorTest_row : ∃ r, rowOf 0x2806 0x01 = some r ∧ r.acc = .cmd ∧ r.keep = .v ∧ r.ty = .u16 ∧ r.dom = .any :=
  ⟨_, rfl, rfl, rfl, rfl, rfl⟩

theorem handlerOf_contactorTest : handlerOf 0x2806 0x01 = contactorTestHandler := rfl

/-- What check 7 finds of a contactor test (R498). -/
theorem subjectChecks_contactorTest (idx : w.idx = 0x2806) (sub : w.sub = 0x01) : subjectChecks w r d
    = available 0x2806 0x01 d ++ failing (!holds d) 2 0x1C000010 ++ contactorTestHandler.checks w d
      ++ failing (!inDom r.dom w.val) 6 (rangeCode 0x2806 0x01 w.val) := by
  rw [subjectChecks, idx, sub, handlerOf_contactorTest]
  rfl

/-! The contactor that a test names is asked for the state that it is not commanded to. -/
@[simp] theorem testToggle_want : (contactor x (testToggle x d)).want = !(contactor x d).cmd := by
  simp only [testToggle, askContactor, contactor_onContactor_same]
  split
  · assumption
  · rfl
@[simp] theorem testToggle_cmd : (contactor x (testToggle x d)).cmd = (contactor x d).cmd := by
  simp only [testToggle, askContactor, contactor_onContactor_same]
  split <;> rfl

theorem contactor_testToggle_other {y : ContactorId} (h : y ≠ x) : contactor y (testToggle x d) = contactor y d :=
  contactor_onContactor_other _ h

theorem testToggle_setVal {k : Nat} {v : DVal} : testToggle x (setVal k v d) = setVal k v (testToggle x d) := by
  simp only [testToggle, askContactor, contactor_setVal, onContactor_setVal]

theorem within_testToggle : Within [.ring, .brick] [] d (testToggle x d) := within_onContactor ..

/-- A test that passes its checks names a contactor whose change the interlock does not refuse. -/
theorem contactorTest_passes (h : contactorTestHandler.checks w d = []) : allOutOfService d = true
    ∧ ∃ x, contactorNamed w.nat = some x ∧ refusal outletPermit x (testToggle x d) = none := by
  simp only [contactorTestHandler, List.append_eq_nil_iff, failing_eq_nil] at h
  obtain ⟨⟨service, granted⟩, named⟩ := h
  cases e : contactorNamed w.nat with
  | none => simp [e] at named
  | some x => exact ⟨by simpa using service, x, rfl, by simpa [e] using granted⟩

/-- A test that is carried out shows its command done, and sends its contactor into travel. -/
theorem accept_contactorTest (idx : w.idx = 0x2806) (sub : w.sub = 0x01) (row : rowOf 0x2806 0x01 = some r)
    (named : contactorNamed w.nat = some x) (granted : refusal outletPermit x (testToggle x d) = none) :
    accept w r d = onContactor x (Contactor.granted d.time.now) (testToggle x (setNum 0x2806 0x01 2 d)) := by
  obtain ⟨_, row', cmd, keep, -⟩ := contactorTest_row
  obtain rfl := Option.some.inj (row'.symm.trans row)
  have granted' : refusal outletPermit x (testToggle x (setNum 0x2806 0x01 2 d)) = none := by
    rw [setNum, testToggle_setVal, refusal_setVal (by decide) (by decide) fun _ => rfl, granted]
  rw [accept, markUnsaved, if_neg (by simp [keep]), if_pos cmd, idx, sub, handlerOf_contactorTest]
  simp only [contactorTestHandler, named]
  exact (judge_of_granted (by simp) granted').trans (by rw [testToggle_time]; rfl)

theorem contactorTest_holds : Claims.contactorTest := by
  intro a s
  refine takes_at_port rfl rfl rfl fun w r idx sub row passes => ?_
  rw [subjectChecks_contactorTest idx sub, List.append_eq_nil_iff, List.append_eq_nil_iff] at passes
  obtain ⟨⟨-, passes⟩, -⟩ := passes
  obtain ⟨service, x, named, granted⟩ := contactorTest_passes passes
  rw [accept_contactorTest idx sub row named granted]
  have toggled : Within [.ring, .brick] [] (setNum 0x2806 0x01 2 s.dev) _ :=
    (within_testToggle (x := x)).trans (within_onContactor x (Contactor.granted s.dev.time.now))
  refine ⟨((within_setVal (key 0x2806 0x01) (.num 2)).mono (by simp) (by decide)).trans (toggled.mono (by simp) (by simp)),
    fun b => ⟨service, ?_, x, named, granted, ?_, ?_, fun y other => ?_⟩⟩
  · exact (congrArg intOf (toggled.2 _ (by simp))).trans (num_setNum_same ..)
  · rw [contactor_barrier, contactor_onContactor_same]
    exact testToggle_want.trans (by rw [setNum, contactor_setVal])
  · rw [contactor_barrier, contactor_onContactor_same]
    rfl
  · rw [contactor_barrier, contactor_onContactor_other _ other, contactor_testToggle_other other, setNum, contactor_setVal]

/-- Where the island runs and the lease is held, what a contactor test is refused with is its chapter's to say. -/
theorem contactorTest_refuses {code : Nat} (fails : ∀ w : WriteCall, w.val = .num (leNat a.data) →
    firstFailing (contactorTestHandler.checks w s.dev) = some code) : Claims.Refuses (.contactorTest a) s code := by
  refine refuses_at_port rfl rfl rfl (by decide) (fun _ _ => rfl) fun w r idx sub val row ready lease => ?_
  obtain ⟨_, row', -, -, ty, dom⟩ := contactorTest_row
  obtain rfl := Option.some.inj (row'.symm.trans row)
  rw [subjectChecks_contactorTest idx sub, ready, lease rfl, dom, show failing (!true) 2 0x1C000010 = [] from rfl,
    show failing (!inDom .any w.val) 6 (rangeCode 0x2806 0x01 w.val) = [] from rfl, List.nil_append, List.nil_append, List.append_nil]
  exact fails w (by rw [val, ty]; rfl)

/-- Of the conditions of one step the lower code is named (R498): an outlet in service before a refusal by the interlock. -/
theorem firstFailing_inService : ∀ refused unnamed : Bool, firstFailing
    (failing true 5 0x28000010 ++ failing refused 5 0x28000011 ++ failing unnamed 6 0x28000014) = some 0x28000010 := by
  decide

/-- Settles O10: by the checks of R57 in the order of R498. -/
theorem contactorTest : Obligations.ContactorTest := by
  refine ⟨contactorTest_holds, fun a s inService => contactorTest_refuses fun w _ => ?_,
    fun a s x m service named refused => contactorTest_refuses fun w val => ?_⟩
  · change firstFailing (failing (!allOutOfService s.dev) 5 _ ++ failing _ 5 _ ++ failing _ 6 _) = _
    rw [inService]
    exact firstFailing_inService _ _
  · have named' : contactorNamed w.nat = some x := by rw [WriteCall.nat, WriteCall.num, val]; exact named
    simp only [contactorTestHandler, service, named', testToggle, refused]
    rfl

end Sys2Proof.Machine
end

section
/-! The rails that a tie would join (R41, R91, Table 2.4).

The interlock goes by the segments that follow from the ties counted open (R49). The claim reads the rails that a tie joins
off the groups of one rail loop each (`members`, R91), which are those of the last regrouping and need not be the segments. -/
namespace Sys2Proof.Machine

/-- A contactor commanded so, with nothing else asked of it. -/
def settled (closed : Bool) : Contactor := { Fresh.contactor with want := closed, cmd := closed }

/-- The rails 3 to 7 have been regulated as one group; the ties between them count open now. Outlets 5 and 6 are closed, each in a
segment of its own, and tie 3 is asked to close with valid rail voltages and three close permits. -/
def groupsBehindTies : Dev := { Dev.reset with
  brick := tab (fun _ => { Fresh.brick with link := .up, fresh := true, railGood := true, vRail := 8000 })
  safety := { Fresh.safety with fb := tab (fun j => ⟨j ≠ 5 ∧ j ≠ 6, 0, j ≠ 5 ∧ j ≠ 6⟩) }
  ring := { Fresh.ring false with
    tie := tab (fun j => if j = 3 then { settled false with want := true, permits := 3 } else settled false)
    outlet := tab (fun j => settled (j = 5 ∨ j = 6))
    group := tab (fun j => if 3 ≤ j ∧ j ≤ 7 then 3 else j) } }

theorem groupsBehindTies_closes : (contactor (.tie 3) groupsBehindTies).cmd = false
    ∧ (contactor (.tie 3) (judge outletPermit (.tie 3) groupsBehindTies)).cmd = true := by decide +kernel

theorem groupsBehindTies_joined : outletClosed 5 groupsBehindTies = true ∧ outletClosed 6 groupsBehindTies = true
    ∧ 5 ∈ members (headOf 3 groupsBehindTies) (deriveSegments groupsBehindTies)
    ∧ 6 ∈ members (headOf 3 groupsBehindTies) (deriveSegments groupsBehindTies) := by decide +kernel

/-- Refutes O9: tie 3 closes between two segments without a closed outlet, where its rail's group holds two closed outlets. -/
theorem not_interlockKeepsTheRingSafe : ¬ Obligations.InterlockKeepsTheRingSafe := by
  intro claim
  obtain ⟨-, -, -, -, tie, -⟩ := claim outletPermit (.tie 3) groupsBehindTies
  obtain ⟨isOpen, closes⟩ := groupsBehindTies_closes
  obtain ⟨closed5, closed6, in5, in6⟩ := groupsBehindTies_joined
  obtain ⟨-, -, -, -, -, -, -, apart⟩ := tie 3 rfl isOpen closes
  exact apart 5 6 (by decide) closed5 closed6 (List.mem_append_left _ in5) (List.mem_append_left _ in6)

end Sys2Proof.Machine
end

section
/-! A rail written as not fitted while it leads a ratiometric episode (R56, R58, R110, R111).

The rail is isolated, so its episode ends; a member left PRECHARGING starts a stop, and a stop puts the member's legs in STANDBY
into service. The claim on `RING_CONFIGURATION_WRITE` lists the rails and the episodes as what may change, not the legs. -/
namespace Sys2Proof.Machine

/-- Every outlet is out of service and every tie open. Rail 5 leads rail 6 in a ratiometric episode, both PRECHARGING; leg 48 of rail
6 is in STANDBY, every other leg in service. Session 2 is open at the field-side port. -/
def startingPair : Dev := { Dev.reset with
  isl := tab (fun _ => .running)
  site := { Fresh.site with fieldSession := tab (fun n => if n = 1 then some (3, []) else none) }
  leg := tab (fun n => { Fresh.leg with state := if n = 48 then .standby else .active })
  rail := tab (fun j => if j = 5 ∨ j = 6 then { Fresh.rail j with state := .precharging, episode := .ratiometric, leader := some 5 }
    else Fresh.rail j)
  ratio := tab (fun l => if l = 5 then some ⟨tab (fun j => j = 5 ∨ j = 6), 40000000, 10, 0, tab (fun _ => 0), 0, 0, false⟩ else none) }

/-- Session 2 writes every rail but rail 5 as fitted. -/
def allButRail5 : Ask := ⟨.tls 1, 2, 7, 0, leBytes 2 (4095 - 2 ^ 5)⟩

theorem allButRail5_taken : (served (.ringConfigurationWrite allButRail5 0x2805 0x02) startingPair).any Served.taken = true := by
  decide +kernel

theorem allButRail5_leg : (startingPair.leg[(48 : Fin 96)]).state = .standby
    ∧ ((serveWrite 0x2805 0x02 allButRail5 startingPair).leg[(48 : Fin 96)]).state = .active := by decide +kernel

theorem same_leg {d e : Dev} : same .leg d e ↔ e.leg = d.leg := .rfl

theorem exec_ringConfigurationWrite (a : Ask) (idx sub : Nat) (s : State) :
    exec (.ringConfigurationWrite a idx sub) s = done s (serveWrite idx sub a s.dev) := rfl

/-- The write is taken, and a leg goes into service. -/
theorem not_ringConfigurationWrite : ¬ Claims.ringConfigurationWrite := by
  intro claim
  obtain ⟨h, got, taken⟩ := (Option.any_eq_true ..).1 allButRail5_taken
  obtain ⟨-, parts, -⟩ := (gives_iff_of_done (exec_ringConfigurationWrite ..)).1 (claim allButRail5 0x2805 0x02 ⟨startingPair, []⟩ (by decide) h got taken)
  have legs := same_leg.1 (parts .leg (by decide))
  obtain ⟨standby, active⟩ := allButRail5_leg
  rw [reach_leg] at legs
  rw [legs, standby] at active
  cases active

/-- Refutes O31: the ring configuration may start a stop, which puts legs into service. -/
theorem not_contactorCommands : ¬ Obligations.ContactorCommands := fun ⟨_, _, _, _, _, write, _⟩ => not_ringConfigurationWrite write

end Sys2Proof.Machine
end

section
/-! What a frame says of single parts and entries, and the frames of the shared operations. -/
namespace Sys2Proof.Machine
variable {d e : Dev} {parts parts' : List Part} {groups groups' : List Nat}

/-! Parts and entries outside a frame. -/

theorem Within.brick_eq (h : Within parts groups d e) (out : Part.brick ∉ parts := by decide) : e.brick = d.brick := h.1 .brick out
theorem Within.leg_eq (h : Within parts groups d e) (out : Part.leg ∉ parts := by decide) : e.leg = d.leg := h.1 .leg out
theorem Within.card_eq (h : Within parts groups d e) (out : Part.card ∉ parts := by decide) : e.card = d.card := h.1 .card out
theorem Within.sync_eq (h : Within parts groups d e) (out : Part.sync ∉ parts := by decide) : e.sync = d.sync := h.1 .sync out

theorem Within.num_eq {idx sub : Nat} (h : Within parts groups d e) (out : key idx sub / 65536 ∉ groups) :
    num e idx sub = num d idx sub := congrArg intOf (h.2 _ out)

theorem Within.nat_eq {idx sub : Nat} (h : Within parts groups d e) (out : key idx sub / 65536 ∉ groups) :
    nat e idx sub = nat d idx sub := congrArg Int.toNat (h.num_eq out)

/-- The group of an entry is the high byte of its index. -/
theorem key_group {idx sub : Nat} (h : sub < 256) : key idx sub / 65536 = idx / 256 := by
  unfold key
  omega

theorem brickIdx_group {sub : Nat} (k : Fin 24) (h : sub < 256 := by decide) : key (brickIdx k) sub / 65536 = 0x22 := by
  rw [key_group h, brickIdx]
  omega

theorem legTele_group {sub : Nat} (n : Fin 96) (h : sub < 256 := by decide) : key (legTele n) sub / 65536 = 0x21 := by
  rw [key_group h, legTele]
  omega

/-! How frames are put together. -/

theorem Within.ite {c : Prop} [Decidable c] {a b : Dev} (ha : Within parts groups d a) (hb : Within parts groups d b) :
    Within parts groups d (if c then a else b) := by
  split <;> assumption

theorem within_foldl {α : Type} {f : Dev → α → Dev} {l : List α} (hf : ∀ d a, Within parts groups d (f d a)) :
    Within parts groups d (l.foldl f d) :=
  List.foldlRecOn (motive := fun e => Within parts groups d e) l f .rfl fun e h a _ => h.trans (hf e a)

/-- What every step of a run keeps, the run keeps. -/
theorem foldl_keeps {α β : Type} (g : Dev → β) {f : Dev → α → Dev} {l : List α} (hf : ∀ d a, g (f d a) = g d) :
    g (l.foldl f d) = g d :=
  List.foldlRecOn (motive := fun e => g e = g d) l f rfl fun e h a _ => (hf e a).trans h

/-- In a run over different things, each of which does its own part and leaves what the others need and have done, the part of each is
done where it was given what it needs. -/
theorem foldl_each {α : Type} {f : Dev → α → Dev} {before after : α → Dev → Prop} {l : List α} (different : l.Nodup)
    (own : ∀ d a, before a d → after a (f d a)) (waits : ∀ d a b, b ≠ a → before b d → before b (f d a))
    (stays : ∀ d a b, b ≠ a → after b d → after b (f d a)) {b : α} (mem : b ∈ l) (start : before b d) : after b (l.foldl f d) := by
  induction l generalizing d with
  | nil => cases mem
  | cons a r ih =>
    obtain ⟨new, rest⟩ := List.nodup_cons.1 different
    obtain rfl | mem := List.mem_cons.1 mem
    · exact List.foldlRecOn (motive := after b) r f (own d b start) fun e h c hc => stays e c b (fun e => new (e ▸ hc)) h
    · exact ih rest mem (waits d a b (fun e => new (e ▸ mem)) start)

theorem nodup_all (n : Nat) : (all n).Nodup := List.nodup_ofFn.2 Function.injective_id

/-- A fact about the thing at one position stands where the change at another, or the same, keeps it. -/
theorem upd_get_keeps {α β : Type} {n : Nat} (g : α → β) {f : α → α} {v : Vector α n} {i j : Fin n} (h : ∀ x, g (f x) = g x) :
    g ((upd v i f)[j]) = g v[j] := by
  by_cases e : j = i
  · rw [e, upd_get_same, h]
  · rw [upd_get_other _ _ _ _ e]

/-- A fact about a leg stands where a change of a leg keeps it. -/
theorem onLeg_keeps {β : Type} (g : Leg → β) {f : Leg → Leg} {n m : Fin 96} (h : ∀ l, g (f l) = g l) :
    g ((onLeg n f d).leg[m]) = g d.leg[m] :=
  upd_get_keeps g h

/-- A fact about a brick stands where a change of a brick keeps it. -/
theorem onBrick_keeps {β : Type} (g : Brick → β) {f : Brick → Brick} {k j : Fin 24} (h : ∀ b, g (f b) = g b) :
    g ((onBrick k f d).brick[j]) = g d.brick[j] := upd_get_keeps g h

/-! The shared operations. -/

theorem within_reach (t : Nat) : Within [] [] d (reach t d) :=
  ⟨fun p _ => by cases p <;> simp [same], fun _ _ => rfl⟩

theorem within_bump (x y : Nat) : Within [] [key x y / 65536] d (bump x y d) := within_setVal ..

theorem within_setNum (x y : Nat) (v : Int) : Within [] [key x y / 65536] d (setNum x y v d) := within_setVal ..

theorem within_onBrick (k : Fin 24) (f : Brick → Brick) : Within [.brick] [] d (onBrick k f d) :=
  ⟨fun p out => by cases p <;> simp_all [same], fun _ _ => rfl⟩

theorem within_onLeg (n : Fin 96) (f : Leg → Leg) : Within [.leg] [] d (onLeg n f d) :=
  ⟨fun p out => by cases p <;> simp_all [same], fun _ _ => rfl⟩

theorem within_onDrive (u : Fin 4) (f : Drive → Drive) : Within [.drive] [] d (onDrive u f d) :=
  ⟨fun p out => by cases p <;> simp_all [same], fun _ _ => rfl⟩

theorem within_onCard (c : Fin 28) (f : Card → Card) : Within [.card] [] d (onCard c f d) :=
  ⟨fun p out => by cases p <;> simp_all [same], fun _ _ => rfl⟩

theorem within_eng (x : Engine) : Within [.eng] [] d { d with eng := x } :=
  ⟨fun p out => by cases p <;> simp_all [same], fun _ _ => rfl⟩

theorem within_freeCount (n : Nat) : Within [.freeCount] [] d { d with freeCount := n } :=
  ⟨fun p out => by cases p <;> simp_all [same], fun _ _ => rfl⟩

/-- An event is seen in the lanes, the snapshots, the log and the entries of chapter 14 alone. -/
theorem within_raise (i : Fin 8) (x : EventName) (b : List Byte) : Within eventParts [0x19] d (raise i x b d) := by
  refine ⟨fun p out => ?_, fun k out => getVal_raise (by simpa using out)⟩
  obtain ⟨r, l, s, q, h⟩ := raise_frame i x b d
  rw [h]
  cases p <;> simp_all [same, eventParts]

end Sys2Proof.Machine
end

section
/-! The uplinks of the cards (R64, R70, R71, Tables 3.7 and 3.16). -/
namespace Sys2Proof.Machine
variable {d e : Dev} {k : Fin 24} {n m : Fin 96} {s : State}

/-! Legs. -/

theorem within_legFault (n : Fin 96) (c : Nat) : Within (.leg :: eventParts) [0x19] d (legFault n c d) := by
  have faulted : Within (.leg :: eventParts) [0x19] d
      (onLeg n (fun l => { l with state := .fault, cause := l.cause ||| c, awaiting := false }) d) :=
    (within_onLeg ..).mono (by simp) (by simp)
  exact .ite .rfl (.ite faulted (faulted.trans ((within_raise ..).mono (by simp) (by simp))))

/-- A leg that is not LOST goes to FAULT, and its cause is added. -/
theorem legFault_leg (c : Nat) (live : (d.leg[n]).state ≠ .lost) : (legFault n c d).leg
    = upd d.leg n (fun l => { l with state := .fault, cause := l.cause ||| c, awaiting := false }) := by
  unfold legFault
  rw [if_neg live]
  split
  · rfl
  · exact (within_raise ..).leg_eq

theorem legFault_current (c : Nat) : ((legFault n c d).leg[m]).current = (d.leg[m]).current := by
  by_cases live : (d.leg[n]).state = .lost
  · unfold legFault
    rw [if_pos live]
  · rw [legFault_leg c live]
    exact upd_get_keeps Leg.current fun _ => rfl

theorem within_brakeLeg (n : Fin 96) : Within [.leg] [0x21] d (brakeLeg n d) :=
  .ite (((within_onLeg ..).mono (by simp) (by simp)).trans ((within_bump ..).mono (by simp) (by simp [legTele_group]))) .rfl

theorem resetAnswer_current : ((resetAnswer n d).leg[m]).current = (d.leg[m]).current :=
  onLeg_keeps Leg.current (fun _ => by split <;> [rfl; (split <;> rfl)])

/-- A good uplink leaves its sample as the current of its leg, and leaves the currents of the others. -/
theorem legUplink_current (i : Int) (fl : Byte) : ((legUplink n i fl d).leg[m]).current = if m = n then i else (d.leg[m]).current := by
  unfold legUplink
  extract_lets d1 d2 c d3 l
  have sampled : (d1.leg[m]).current = if m = n then i else (d.leg[m]).current := by
    by_cases e : m = n
    · rw [if_pos e, e]
      exact congrArg Leg.current (upd_get_same ..)
    · rw [if_neg e]
      exact congrArg Leg.current (upd_get_other _ _ _ _ e)
  have counted : d2.leg = d1.leg := by
    unfold d2
    split <;> rfl
  have judged : (d3.leg[m]).current = (d2.leg[m]).current := by
    refine resetAnswer_current.trans ?_
    split
    · exact legFault_current c
    · rfl
  rw [← sampled, ← counted, ← judged]
  split
  · split
    · exact onLeg_keeps Leg.current fun _ => rfl
    · split
      · exact legFault_current 8
      · rfl
  · rfl

/-- What a good uplink may change of the module for a leg. -/
theorem within_legUplink (n : Fin 96) (i : Int) (fl : Byte) : Within (.leg :: eventParts) [0x19, 0x21] d (legUplink n i fl d) := by
  have leg (d : Dev) (f : Leg → Leg) : Within (.leg :: eventParts) [0x19, 0x21] d (onLeg n f d) := (within_onLeg ..).mono (by simp) (by simp)
  have fault (d : Dev) (c : Nat) : Within (.leg :: eventParts) [0x19, 0x21] d (legFault n c d) := (within_legFault ..).mono (by simp) (by simp)
  unfold legUplink
  extract_lets d1 d2 c d3 l
  have h2 : Within (.leg :: eventParts) [0x19, 0x21] d d2 :=
    (leg d _).trans (.ite ((within_bump ..).mono (by simp) (by simp [legTele_group])) .rfl)
  have h3 : Within (.leg :: eventParts) [0x19, 0x21] d2 d3 := Within.trans (.ite (fault ..) .rfl) (leg ..)
  exact (h2.trans h3).trans (.ite (.ite (leg ..) (.ite (fault ..) .rfl)) .rfl)

/-! Bricks. -/

theorem within_thermalFrom (source : Nat) (t : Int) : Within [.eng] [] d (thermalFrom source t d) :=
  within_foldl fun _ _ => .ite (within_eng _) .rfl

/-- The record of a brick beside the quantities of Table 3.11. -/
def Brick.besideAux (b : Brick) : Brick := { b with cardTemp := 0, capTemp := 0, gateSupply := 0, faultWord := 0 }

/-- Two devices agree in a brick's record beside the quantities of Table 3.11. -/
def SameBesideAux (k : Fin 24) (d e : Dev) : Prop := (e.brick[k]).besideAux = (d.brick[k]).besideAux

theorem sameBesideAux_thermalFrom {source : Nat} {t : Int} (h : SameBesideAux k d e) : SameBesideAux k d (thermalFrom source t e) := by
  rwa [SameBesideAux, (within_thermalFrom ..).brick_eq]

theorem sameBesideAux_auxUplink (i : Nat) (v : W16) : SameBesideAux k d (auxUplink k i v d) := by
  have record {f : Brick → Brick} (h : ∀ b, (f b).besideAux = b.besideAux) : SameBesideAux k d (onBrick k f d) :=
    onBrick_keeps Brick.besideAux h
  unfold auxUplink
  split
  · exact sameBesideAux_thermalFrom (record fun _ => rfl)
  · exact record fun _ => rfl
  · exact record fun _ => rfl
  · exact record fun _ => rfl
  · split
    · exact sameBesideAux_thermalFrom rfl
    · rfl

theorem within_auxUplink (i : Nat) (v : W16) : Within [.brick, .leg, .eng] [] d (auxUplink k i v d) := by
  have brick (f : Brick → Brick) : Within [.brick, .leg, .eng] [] d (onBrick k f d) := (within_onBrick ..).mono (by simp) (by simp)
  have thermal (d : Dev) (source : Nat) (t : Int) : Within [.brick, .leg, .eng] [] d (thermalFrom source t d) :=
    (within_thermalFrom ..).mono (by simp) (by simp)
  unfold auxUplink
  split
  · exact (brick _).trans (thermal ..)
  · exact brick _
  · exact brick _
  · exact brick _
  · split
    · exact ((within_onLeg ..).mono (by simp) (by simp)).trans (thermal ..)
    · exact .rfl

/-- The legs of a brick by their position on the card. -/
def legAt (k : Fin 24) (j : Fin 4) : Fin 96 := ⟨4 * k.val + j.val, by omega⟩

theorem legAt_ne {i j : Fin 4} (h : i ≠ j) : legAt k i ≠ legAt k j := fun e => by
  have same_ : 4 * k.val + i.val = 4 * k.val + j.val := congrArg Fin.val e
  exact h (Fin.ext (by omega))

/-- The counts of a good uplink: the frame itself, and the card's episodes as an orphan and in conflict that begin with it. -/
def uplinkCounted (k : Fin 24) (f : BrickUp) (d : Dev) : Dev :=
  let h := f.header.toNat
  let b := d.brick[k]
  let d := bump (brickIdx k) 0x30 d
  let d := if bit h 10 && !b.orphan then bump (brickIdx k) 0x33 d else d
  if bit h 9 && !b.conflict then bump (brickIdx k) 0x34 d else d

/-- The record of a brick with the samples of a good uplink (Table 3.7). -/
def Brick.sampled (f : BrickUp) (now : Nat) (b : Brick) : Brick :=
  let h := f.header.toNat
  let st := f.status.toNat
  let i := f.iOut.toInt
  { b with
    link := linkGood b.link, goodRun := if bit st 3 then b.goodRun + 1 else 0, goodUps := b.goodUps + 1, missing := 0,
    lastGood := now, fresh := true, authority := field h 11 1, orphan := bit h 10, conflict := bit h 9, otherLive := bit h 8,
    epochSeen := f.epochSeen.toNat, vOut := f.vOut.toNat, vRail := f.vRail.toNat, vDc := f.vDc.toNat, iOut := i,
    railGood := bit st 1, outGood := bit st 0, cardFault := bit st 4, pllLocked := bit st 3, holding := bit st 2,
    aux := tab (fun j => contactRaw (bit st (7 - j.val)) now b.aux[j]),
    peakI := some (match b.peakI with | some (p, q) => (max p i, min q i) | none => (i, i)),
    peakVdc := some (max (b.peakVdc.getD 0) f.vDc.toNat) }

/-- A good uplink at the four legs of its brick. -/
def legsUplink (k : Fin 24) (f : BrickUp) (d : Dev) : Dev :=
  (all 4).foldl (fun d j => legUplink (legAt k j) (f.legCurrent[j]).toInt f.legFlags[j] d) d

theorem brickUplink_eq (f : BrickUp) : brickUplink k f d = legsUplink k f (auxUplink k f.auxIndex.toNat f.auxValue
    (onBrick k (Brick.sampled f (uplinkCounted k f d).time.now) (uplinkCounted k f d))) := rfl

theorem within_uplinkCounted (f : BrickUp) : Within [] [0x22] d (uplinkCounted k f d) := by
  have count (d : Dev) {sub : Nat} (h : sub < 256) : Within [] [0x22] d (bump (brickIdx k) sub d) := brickIdx_group k h ▸ within_bump ..
  exact ((count d (by decide)).trans (.ite (count _ (by decide)) .rfl)).trans (.ite (count _ (by decide)) .rfl)

theorem uplinkCounted_now (f : BrickUp) : (uplinkCounted k f d).time.now = d.time.now := by simp [uplinkCounted]

theorem uplinkCounted_count (f : BrickUp) : num (uplinkCounted k f d) (brickIdx k) 0x30 = num d (brickIdx k) 0x30 + 1 := by
  have other {c : Bool} {sub : Nat} (h : sub < 256 ∧ sub ≠ 0x30) (d : Dev) :
      num (if c then bump (brickIdx k) sub d else d) (brickIdx k) 0x30 = num d (brickIdx k) 0x30 := by
    split
    · exact num_setNum_other _ _ _ _ _ _ (by unfold key; omega)
    · rfl
  exact ((other (by decide) _).trans (other (by decide) _)).trans (num_bump_same ..)

theorem within_legsUplink (f : BrickUp) : Within (.leg :: eventParts) [0x19, 0x21] d (legsUplink k f d) :=
  within_foldl fun _ _ => within_legUplink ..

theorem legsUplink_current (f : BrickUp) (j : Fin 4) : ((legsUplink k f d).leg[legAt k j]).current = (f.legCurrent[j]).toInt :=
  foldl_each (before := fun _ _ => True) (after := fun j e => (e.leg[legAt k j]).current = (f.legCurrent[j]).toInt) (nodup_all 4)
    (fun _ _ _ => (legUplink_current ..).trans (if_pos rfl)) (fun _ _ _ _ h => h)
    (fun _ _ _ other h => ((legUplink_current ..).trans (if_neg (legAt_ne other))).trans h) (mem_all j) trivial

/-- A good uplink: what it leaves of its brick's record and of the legs' currents, and that it is counted. -/
theorem brickUplink_spec (f : BrickUp) : let b := (brickUplink k f d).brick[k]
    b.fresh = true ∧ b.missing = 0 ∧ b.lastGood = d.time.now ∧ b.vRail = f.vRail.toNat ∧ b.vOut = f.vOut.toNat ∧ b.vDc = f.vDc.toNat
      ∧ b.iOut = f.iOut.toInt ∧ b.epochSeen = f.epochSeen.toNat
      ∧ (∀ j : Fin 4, ((brickUplink k f d).leg[legAt k j]).current = (f.legCurrent[j]).toInt)
      ∧ num (brickUplink k f d) (brickIdx k) 0x30 = num d (brickIdx k) 0x30 + 1 := by
  rw [brickUplink_eq, (within_legsUplink f).num_eq (by simp [brickIdx_group]), (within_auxUplink ..).num_eq (by simp),
    (within_onBrick ..).num_eq (by simp), uplinkCounted_count, (within_legsUplink f).brick_eq]
  have own : (onBrick k (Brick.sampled f (uplinkCounted k f d).time.now) (uplinkCounted k f d)).brick[k]
      = (uplinkCounted k f d).brick[k].sampled f (uplinkCounted k f d).time.now := upd_get_same ..
  have sampled := (sameBesideAux_auxUplink f.auxIndex.toNat f.auxValue).trans (congrArg Brick.besideAux own)
  exact ⟨congrArg Brick.fresh sampled, congrArg Brick.missing sampled, (congrArg Brick.lastGood sampled).trans (uplinkCounted_now f),
    congrArg Brick.vRail sampled, congrArg Brick.vOut sampled, congrArg Brick.vDc sampled, congrArg Brick.iOut sampled,
    congrArg Brick.epochSeen sampled, legsUplink_current f, rfl⟩

theorem within_brickUplink (f : BrickUp) :
    Within (.brick :: .leg :: .eng :: eventParts) [0x19, 0x21, 0x22] d (brickUplink k f d) := by
  have sampled := ((within_uplinkCounted (k := k) (d := d) f).mono (parts' := [.brick]) (by simp) (List.Subset.refl _)).trans
    ((within_onBrick k (Brick.sampled f (uplinkCounted k f d).time.now)).mono (List.Subset.refl _) (by simp))
  rw [brickUplink_eq]
  exact ((sampled.mono (by simp) (by simp)).trans ((within_auxUplink ..).mono (by simp) (by simp))).trans
    ((within_legsUplink f).mono (by decide) (by decide))

end Sys2Proof.Machine
end

section
/-! An uplink that is missing, late or bad (R71), and what a spline port does at its deadline (R64, R70). -/
namespace Sys2Proof.Machine
variable {d e : Dev} {k : Fin 24} {n m : Fin 96} {s : State}

theorem mem_legsOf : n ∈ legsOf k ↔ brickOf n = k := by
  simp only [legsOf, brickOf, List.mem_cons, List.not_mem_nil, or_false, Fin.ext_iff]
  omega

theorem nodup_legsOf (k : Fin 24) : (legsOf k).Nodup := by
  simp [legsOf, Fin.ext_iff]

/-- A leg in service goes to BRAKING, from the present instant on. -/
theorem brakeLeg_same (serves : inService d.leg[n] = true) :
    ((brakeLeg n d).leg[n]).state = .braking ∧ ((brakeLeg n d).leg[n]).brakeStart = some d.time.now := by
  rw [brakeLeg, if_pos serves]
  change ((upd d.leg n _)[n]).state = _ ∧ ((upd d.leg n _)[n]).brakeStart = _
  rw [upd_get_same]
  exact ⟨rfl, rfl⟩

theorem brakeLeg_other (h : m ≠ n) : (brakeLeg n d).leg[m] = d.leg[m] := by
  unfold brakeLeg
  split
  · exact upd_get_other _ _ _ _ h
  · rfl

/-- The contact inputs of a card debounced at an instant. -/
def debouncedAux (time now : Nat) (aux : Vector Contact 3) : Vector Contact 3 :=
  tab (fun i => let c := aux[i]; if c.since + time ≤ now then { c with deb := c.raw } else c)

theorem debounceContacts_brick : (debounceContacts d).brick[k]
    = { d.brick[k] with aux := debouncedAux (debounce d) d.time.now (d.brick[k]).aux } := tab_get ..

/-- A brick contactor counts as open by its record, and by the contact that its card reports unless it is LOST. -/
theorem brickOff_eq : brickOff k d = (!(((d.brick[k]).contactor.cmd && !(d.brick[k]).contactor.dropped)
    || ((d.brick[k]).link != .lost && ((d.brick[k]).aux[(0 : Fin 3)]).deb)) || (d.brick[k]).contactor.travelFault) := by
  simp only [brickOff, countsClosed, contactor, reporting, contactCards, List.filter_cons, List.filter_nil]
  cases ((d.brick[k]).link != .lost) with
  | false => simp only [Bool.false_eq_true, if_false, List.map_nil, List.any_nil, Bool.true_and, Bool.false_and, Bool.or_false]
  | true => simp only [if_true, List.map_cons, List.map_nil, List.any_cons, List.any_nil, Bool.true_and, Bool.or_false, contactInput]

/-- What a brick's contactor counts as after the debounce time goes by its record, its contact inputs, and whether its card is LOST. -/
theorem brickOff_debounced {t : Nat} (contactor : (e.brick[k]).contactor = (d.brick[k]).contactor) (aux : (e.brick[k]).aux = (d.brick[k]).aux)
    (lost : ((e.brick[k]).link != .lost) = ((d.brick[k]).link != .lost)) (now : e.time.now = d.time.now)
    (time : nat e 0x2802 0x07 = nat d 0x2802 0x07) :
    brickOff k (debounceContacts (reach t e)) = brickOff k (debounceContacts (reach t d)) := by
  have time_ : debounce (reach t e) = debounce (reach t d) := congrArg ms time
  rw [brickOff_eq, brickOff_eq, debounceContacts_brick, debounceContacts_brick, time_, reach_now, reach_now, now]
  simp only [reach_brick, contactor, aux, lost]

/-- The record of a brick whose uplink is missing. -/
def Brick.missed (b : Brick) : Brick :=
  { b with fresh := false, missing := b.missing + 1, goodRun := 0, goodUps := 0, link := if b.link = .starting then .down else b.link }

/-- A missing uplink before the second in a row brakes its legs. -/
def missedFirst (k : Fin 24) (d : Dev) : Dev :=
  (legsOf k).foldl (fun d n => onLeg n (fun l => { l with goodSince := none }) d) (onBrick k Brick.missed d)

theorem brickMiss_eq (k : Fin 24) (d : Dev) : brickMiss k d
    = if ((missedFirst k d).brick[k]).missing = 2 ∧ !brickOff k (debounceContacts (reach (nextBoundary (missedFirst k d)) (missedFirst k d)))
      then (legsOf k).foldl (fun d n => brakeLeg n d) (missedFirst k d) else missedFirst k d := rfl

theorem within_missedFirst (k : Fin 24) : Within [.brick, .leg] [] d (missedFirst k d) :=
  ((within_onBrick ..).mono (by simp) (by simp)).trans (within_foldl fun _ _ => (within_onLeg ..).mono (by simp) (by simp))

theorem missedFirst_brick : (missedFirst k d).brick[k] = (d.brick[k]).missed := by
  have legs : (missedFirst k d).brick = (onBrick k Brick.missed d).brick :=
    (within_foldl (parts := [.leg]) (groups := []) fun _ _ => within_onLeg ..).brick_eq
  rw [legs]
  exact upd_get_same ..

theorem missedFirst_state (n : Fin 96) : ((missedFirst k d).leg[n]).state = (d.leg[n]).state :=
  foldl_keeps (fun e : Dev => (e.leg[n]).state) fun _ _ => onLeg_keeps Leg.state fun _ => rfl

theorem missedFirst_now : (missedFirst k d).time.now = d.time.now := congrArg Timebase.now (foldl_time fun _ _ => rfl)

theorem within_brickMiss (k : Fin 24) : Within [.brick, .leg] [0x21] d (brickMiss k d) := by
  have first : Within [.brick, .leg] [0x21] d (missedFirst k d) := (within_missedFirst k).mono (by simp) (by simp)
  rw [brickMiss_eq]
  exact .ite (first.trans (within_foldl fun _ _ => (within_brakeLeg _).mono (by simp) (by simp))) first

theorem brickMiss_brick : (brickMiss k d).brick = (missedFirst k d).brick := by
  have braked : Within [.leg] [0x21] (missedFirst k d) ((legsOf k).foldl (fun d n => brakeLeg n d) (missedFirst k d)) :=
    within_foldl fun _ _ => within_brakeLeg _
  rw [brickMiss_eq]
  split
  · exact braked.brick_eq
  · rfl

/-- A missing uplink leaves what R71 says, on a device that agrees with the one of the command in the links, the legs and the instant. -/
theorem brickMissed_brickMiss (near : Within [.card, .freeCount] [0x22] d e) (now : e.time.now = d.time.now) :
    Claims.brickMissed k d (brickMiss k e) := by
  have brick : (brickMiss k e).brick[k] = (d.brick[k]).missed := by rw [brickMiss_brick, missedFirst_brick, near.brick_eq]
  refine ⟨by rw [brick]; rfl, by rw [brick]; rfl, by rw [brick]; rfl, by rw [brick]; rfl, by rw [brick]; rfl,
    fun second closed n own serves => ?_⟩
  have off : brickOff k (debounceContacts (reach (nextBoundary (missedFirst k e)) (missedFirst k e))) = false := by
    have sync : nextBoundary (missedFirst k e) = nextBoundary d := by
      rw [nextBoundary, (within_missedFirst k).sync_eq, near.sync_eq, nextBoundary]
    rw [sync, ← closed]
    have rec_ : (missedFirst k e).brick[k] = (d.brick[k]).missed := by rw [missedFirst_brick, near.brick_eq]
    refine brickOff_debounced (by rw [rec_]; rfl) (by rw [rec_]; rfl) ?_ (by rw [missedFirst_now, now]) ?_
    · rw [rec_]
      unfold Brick.missed
      cases (d.brick[k]).link <;> rfl
    · rw [(within_missedFirst k).nat_eq (by decide), near.nat_eq (by decide)]
  have two : ((missedFirst k e).brick[k]).missing = 2 := by
    rw [missedFirst_brick, near.brick_eq]
    exact congrArg (· + 1) second
  rw [brickMiss_eq, if_pos ⟨two, by simp [off]⟩]
  have serves_ : inService (missedFirst k e).leg[n] = true := by
    rw [inService, missedFirst_state, near.leg_eq]
    exact serves
  exact foldl_each (before := fun (n : Fin 96) (d' : Dev) => inService d'.leg[n] = true ∧ d'.time.now = d.time.now)
    (after := fun (n : Fin 96) (d' : Dev) => (d'.leg[n]).state = .braking ∧ (d'.leg[n]).brakeStart = some d.time.now) (nodup_legsOf k)
    (fun _ _ ⟨h, t⟩ => t ▸ brakeLeg_same h)
    (fun _ _ _ other ⟨h, t⟩ => ⟨by rwa [brakeLeg_other other], (congrArg Timebase.now brakeLeg_time).trans t⟩)
    (fun _ _ _ other h => by rwa [brakeLeg_other other]) (mem_legsOf.2 own) ⟨serves_, missedFirst_now.trans now⟩

/-! The deadline of a spline port. -/

/-- The card of a brick. -/
def cardOf (k : Fin 24) : Fin 28 := ⟨k.val, by omega⟩

theorem within_cardSamples (u : Uplink) : Within [.card, .freeCount] [] d (cardSamples k u d) := by
  have card (d : Dev) {f : Card → Card} : Within [.card, .freeCount] [] d (onCard (cardOf k) f d) :=
    (within_onCard ..).mono (by simp) (by simp)
  unfold cardSamples
  extract_lets seen
  clear_value seen
  cases seen with
  | some f => exact card d
  | none => exact ((within_freeCount _).mono (by simp) (by simp)).trans (card _)

theorem cardMeasures_card (i : Int) (l : Vector Int 4) : (cardMeasures k i l d).card[cardOf k] = patterns { d.card[cardOf k] with
    iOut := i, low := if -100 < i ∧ i < 100 then min 3 ((d.card[cardOf k]).low + 1) else 0, current := l
    words := if (d.card[cardOf k]).braking then tab (fun j => if nearZero l[j] then (d.card[cardOf k]).words[j] &&& 0xFFFFFFF3
      else (d.card[cardOf k]).words[j]) else (d.card[cardOf k]).words } := upd_get_same ..

/-- A frame whose CRC holds shows what its card has measured. -/
theorem cardSamples_card {f : BrickUp} {c : Fin 28} (own : c.val = k.val) (framed : f.framed = true) (crc : f.crc = crc16 (brickUpBytes f)) :
    ((cardSamples k (.brick f) d).card[c]).iOut = f.iOut.toInt
      ∧ ((cardSamples k (.brick f) d).card[c]).current = f.legCurrent.map (·.toInt)
      ∧ ((cardSamples k (.brick f) d).card[c]).low = if (f.iOut.toInt).natAbs < 100 then min 3 ((d.card[c]).low + 1) else 0 := by
  obtain rfl : c = cardOf k := Fin.ext own
  have window : (-100 < f.iOut.toInt ∧ f.iOut.toInt < 100) ↔ (f.iOut.toInt).natAbs < 100 := by omega
  simp only [cardSamples, framed, crc, beq_self_eq_true, Bool.and_self, if_true, cardMeasures_card, patterns, window, and_self]

theorem within_axisMiss (u : Fin 4) : Within [.drive] [] d (axisMiss u d) := within_onDrive ..
theorem within_axisUplink (u : Fin 4) (f : AxisUp) : Within [.drive] [] d (axisUplink u f d) := within_onDrive ..

/-- What the field control island takes of a spline port touches no card. -/
theorem within_uplinkDeadline (port : Fin 28) (u : Uplink) :
    Within (.brick :: .leg :: .drive :: .eng :: eventParts) [0x19, 0x21, 0x22] d (uplinkDeadline port u d) := by
  have miss (k : Fin 24) (d : Dev) : Within (.brick :: .leg :: .drive :: .eng :: eventParts) [0x19, 0x21, 0x22] d (brickMiss k d) :=
    (within_brickMiss k).mono (by simp) (by simp)
  have counted (k : Fin 24) {sub : Nat} (h : sub < 256) :
      Within (.brick :: .leg :: .drive :: .eng :: eventParts) [0x19, 0x21, 0x22] d (brickMiss k (bump (brickIdx k) sub d)) :=
    ((within_bump ..).mono (by simp) (by simp [brickIdx_group _ h])).trans (miss k _)
  have axis {u : Fin 4} : Within (.brick :: .leg :: .drive :: .eng :: eventParts) [0x19, 0x21, 0x22] d (axisMiss u d) :=
    (within_axisMiss _).mono (by simp) (by simp)
  unfold uplinkDeadline
  split
  · extract_lets k
    split
    · exact miss k d
    · exact counted k (by decide)
    · exact counted k (by decide)
    · exact .ite ((within_brickUplink _).mono (by decide) (by decide)) (counted k (by decide))
  · extract_lets k
    split
    · exact .ite ((within_axisUplink ..).mono (by simp) (by simp)) axis
    · exact axis

@[simp] theorem uplinkDeadline_time (port : Fin 28) (u : Uplink) : (uplinkDeadline port u d).time = d.time := by
  unfold uplinkDeadline
  split
  · split <;> simp
  · split <;> simp

/-- At the port of a brick card, the card's samples come first. -/
theorem exec_uplinkDeadline_brick {port : Fin 28} (own : port.val = k.val) (u : Uplink) (s : State) :
    exec (.uplinkDeadline port u) s = done s
      (if up 1 (cardSamples k u s.dev) then uplinkDeadline port u (cardSamples k u s.dev) else cardSamples k u s.dev) := by
  have low : port.val < 24 := own ▸ k.isLt
  obtain rfl : (⟨port.val, low⟩ : Fin 24) = k := Fin.ext own
  simp only [exec, execUplinkDeadline, dif_pos low]

end Sys2Proof.Machine
end

section
/-! The claim on UPLINK_DEADLINE (R64, R70, R71). -/
namespace Sys2Proof.Machine
variable {d e : Dev} {k : Fin 24} {u : Fin 4} {port : Fin 28} {s : State}

/-- What the field control island takes at the port of a brick card. -/
theorem uplinkDeadline_brick (own : port.val = k.val) :
    uplinkDeadline port .missing d = brickMiss k d
    ∧ uplinkDeadline port .late d = brickMiss k (bump (brickIdx k) 0x32 d)
    ∧ ∀ f, uplinkDeadline port (.brick f) d = if brickUpGood f d then brickUplink k f d else brickMiss k (bump (brickIdx k) 0x31 d) := by
  have low : port.val < 24 := own ▸ k.isLt
  obtain rfl : (⟨port.val, low⟩ : Fin 24) = k := Fin.ext own
  unfold uplinkDeadline
  simp only [dif_pos low, implies_true, and_self]

/-- What it takes at the port of an axis drive. -/
theorem uplinkDeadline_axis (own : port.val = 24 + u.val) :
    uplinkDeadline port .missing d = axisMiss u d
    ∧ ∀ f, uplinkDeadline port (.axis f) d = if axisUpGood f d then axisUplink u f d else axisMiss u d := by
  have high : ¬ port.val < 24 := by omega
  have here : (⟨port.val - 24, by omega⟩ : Fin 4) = u := Fin.ext (by simp only; omega)
  unfold uplinkDeadline
  simp only [dif_neg high, here, implies_true, and_self]

theorem exec_uplinkDeadline_axis (own : port.val = 24 + u.val) (running : up 1 s.dev = true) (x : Uplink) :
    exec (.uplinkDeadline port x) s = done s (uplinkDeadline port x s.dev) := by
  have high : ¬ port.val < 24 := by omega
  simp only [exec, execUplinkDeadline, dif_neg high, running, if_true]

theorem up_of_isl (i : Fin 8) (h : e.isl = d.isl) : up i e = up i d := by rw [up, up, h]

/-- The samples of a card leave the frame that comes as good as it was. -/
theorem brickUpGood_cardSamples (x : Uplink) (f : BrickUp) : brickUpGood f (cardSamples k x d) = brickUpGood f d := by
  simp only [brickUpGood, nextCount, (within_cardSamples x).sync_eq]

/-- What a running field control island does at the port of a brick card. -/
theorem exec_uplinkDeadline_running (own : port.val = k.val) (running : up 1 s.dev = true) (u : Uplink) :
    exec (.uplinkDeadline port u) s = done s (uplinkDeadline port u (cardSamples k u s.dev)) := by
  rw [exec_uplinkDeadline_brick own, if_pos ((up_of_isl 1 ((within_cardSamples u).1 .isl (by decide))).trans running)]

/-- A missing uplink that is counted first. -/
theorem brickMissed_counted {x : Dev} {sub : Nat} (small : sub < 256) (near : Within [.card, .freeCount] [] d x)
    (now : x.time.now = d.time.now) :
    Claims.brickMissed k d (brickMiss k (bump (brickIdx k) sub x))
      ∧ num (brickMiss k (bump (brickIdx k) sub x)) (brickIdx k) sub = num d (brickIdx k) sub + 1 := by
  have counted : Within [.card, .freeCount] [0x22] d (bump (brickIdx k) sub x) :=
    (near.mono (by simp) (by simp)).trans ((within_bump ..).mono (by simp) (by simp [brickIdx_group k small]))
  refine ⟨brickMissed_brickMiss counted now, ?_⟩
  rw [(within_brickMiss k).num_eq (by simp [brickIdx_group k small]), num_bump_same, near.num_eq (by simp)]

/-- What a missing axis uplink leaves. -/
theorem driveMissed_axisMiss : Claims.driveMissed u d (axisMiss u d) := by
  simp only [Claims.driveMissed, axisMiss, onDrive_drive, upd_get_same, and_self]

theorem uplinkDeadline_holds : Claims.uplinkDeadline := by
  intro s
  have near (k : Fin 24) (u : Uplink) : Within [.card, .freeCount] [] s.dev (cardSamples k u s.dev) := within_cardSamples u
  have now (k : Fin 24) (u : Uplink) : (cardSamples k u s.dev).time.now = s.dev.time.now := congrArg Timebase.now cardSamples_time
  refine ⟨fun k port f running own good => ?_, fun k port running own => ⟨?_, ?_, fun f bad => ?_⟩,
    fun u port running own => ⟨fun f good => ?_, fun f bad => ?_, ?_⟩, fun port u down => ?_, fun k c f own framed crc => ?_⟩
  · have work := exec_uplinkDeadline_running own running (.brick f)
    rw [(uplinkDeadline_brick own).2.2, if_pos (by rw [brickUpGood_cardSamples, good])] at work
    have taken := brickUplink_spec (k := k) (d := cardSamples k (.brick f) s.dev) f
    rw [now, (near k _).num_eq (by simp)] at taken
    exact gives_of_done work (by simp) taken
  · have work := exec_uplinkDeadline_running own running .missing
    rw [(uplinkDeadline_brick own).1] at work
    exact gives_of_done work (by simp) (brickMissed_brickMiss ((near k _).mono (by simp) (by simp)) (now k _))
  · have work := exec_uplinkDeadline_running own running .late
    rw [(uplinkDeadline_brick own).2.1] at work
    exact gives_of_done work (by simp) (brickMissed_counted (by decide) (near k _) (now k _))
  · have work := exec_uplinkDeadline_running own running (.brick f)
    rw [(uplinkDeadline_brick own).2.2, if_neg (by simp [brickUpGood_cardSamples, bad])] at work
    exact gives_of_done work (by simp) (brickMissed_counted (by decide) (near k _) (now k _))
  · have work := exec_uplinkDeadline_axis own running (.axis f)
    rw [(uplinkDeadline_axis own).2, if_pos good] at work
    refine gives_of_done work (by simp) ?_
    simp only [axisUplink, onDrive_drive, upd_get_same, and_self]
  · have work := exec_uplinkDeadline_axis own running (.axis f)
    rw [(uplinkDeadline_axis own).2, if_neg (by simp [bad])] at work
    exact gives_of_done work (by simp) driveMissed_axisMiss
  · have work := exec_uplinkDeadline_axis own running .missing
    rw [(uplinkDeadline_axis own).1] at work
    exact gives_of_done work (by simp) driveMissed_axisMiss
  · by_cases low : port.val < 24
    · have work := exec_uplinkDeadline_brick (k := ⟨port.val, low⟩) rfl u s
      rw [if_neg (by rw [up_of_isl 1 ((within_cardSamples u).1 .isl (by decide)), down]; decide)] at work
      exact gives_of_done work (by simp) (near _ u)
    · exact gives_of_done (by simp only [exec, execUplinkDeadline, dif_neg low, down]; rfl) le_rfl .rfl
  · obtain ⟨iOut, current, low⟩ := cardSamples_card (d := s.dev) own framed crc
    have card (x : Dev) (h : x.card = (cardSamples k (.brick f) s.dev).card) (later : s.dev.time.now ≤ x.time.now)
        (work : exec (.uplinkDeadline c (.brick f)) s = done s x) :
        Gives (.uplinkDeadline c (.brick f)) s (fun e => (e.card[c]).iOut = f.iOut.toInt
          ∧ (e.card[c]).current = f.legCurrent.map (·.toInt)
          ∧ (e.card[c]).low = (if (f.iOut.toInt).natAbs < 100 then min 3 ((s.dev.card[c]).low + 1) else 0)) :=
      gives_of_done work later (by rw [h]; exact ⟨iOut, current, low⟩)
    by_cases running : up 1 s.dev = true
    · exact card _ (within_uplinkDeadline ..).card_eq (by simp) (exec_uplinkDeadline_running own running _)
    · refine card _ rfl (by simp) ((exec_uplinkDeadline_brick own _ s).trans ?_)
      rw [if_neg (by rwa [up_of_isl 1 ((within_cardSamples _).1 .isl (by decide))])]

end Sys2Proof.Machine
end

section
/-! The claims on the links and the cards (R54, R60, R63 to R71, Tables 3.9, 3.12 and 3.14). -/
namespace Sys2Proof.Machine
variable {d : Dev} {k : Fin 24} {c port : Fin 28} {p : Fin 2} {s : State}

/-! A card that is LOST (R54, R71). -/

/-- A contactor frozen as the contacts that still report it have it. -/
def holdContactor (x : ContactorId) (d : Dev) : Dev := onContactor x (fun c =>
  let st := match reporting x d with
    | a :: _ => a.deb
    | [] => c.cmd
  { c with frozen := true, cmd := st, want := st, travel := none }) d

/-- The record of a brick whose card is LOST. -/
def Brick.lost (b : Brick) : Brick :=
  { b with link := .lost, fresh := false, outFrozen := true, contactor := { b.contactor with cmd := false, want := false, travel := none } }

/-- The brick and the legs of a card that is LOST. -/
def brickLost (k : Fin 24) (d : Dev) : Dev :=
  (legsOf k).foldl (fun d n => onLeg n (fun l => { l with state := .lost, awaiting := false, goodSince := none }) d) (onBrick k Brick.lost d)

/-- The ties of a card frozen. -/
def tiesHeld (k : Fin 24) (d : Dev) : Dev :=
  (all 12).foldl (fun d j => if (tieCards j).contains k then holdContactor (.tie j) d else d) d

theorem cardLost_eq (k : Fin 24) (d : Dev) : cardLost k d = holdContactor (.outlet (railOf k)) (tiesHeld k (brickLost k d)) := rfl

theorem holdContactor_frozen (x : ContactorId) : (contactor x (holdContactor x d)).frozen = true := by
  rw [holdContactor, contactor_onContactor_same]

theorem holdContactor_keeps_frozen {x y : ContactorId} (h : (contactor y d).frozen = true) :
    (contactor y (holdContactor x d)).frozen = true := by
  by_cases e : y = x
  · exact e ▸ holdContactor_frozen y
  · rwa [holdContactor, contactor_onContactor_other _ e]

theorem tiesHeld_frozen {j : Fin 12} (own : k ∈ tieCards j) : (contactor (.tie j) (tiesHeld k d)).frozen = true :=
  foldl_each (before := fun j _ => k ∈ tieCards j) (after := fun j e => (contactor (.tie j) e).frozen = true) (nodup_all 12)
    (fun d j own => by rw [if_pos (by simpa using own)]; exact holdContactor_frozen _) (fun _ _ _ _ h => h)
    (fun d j i _ h => by split <;> [exact holdContactor_keeps_frozen h; exact h]) (mem_all j) own

theorem cardLost_brick : (cardLost k d).brick = (brickLost k d).brick :=
  foldl_keeps Dev.brick fun d j => by split <;> rfl

theorem cardLost_leg : (cardLost k d).leg = (brickLost k d).leg :=
  foldl_keeps Dev.leg fun d j => by split <;> rfl

theorem brickLost_brick : (brickLost k d).brick[k] = (d.brick[k]).lost := by
  have legs : (brickLost k d).brick = (onBrick k Brick.lost d).brick := foldl_keeps Dev.brick fun _ _ => rfl
  rw [legs]
  exact upd_get_same ..

theorem brickLost_leg {n : Fin 96} (own : brickOf n = k) : ((brickLost k d).leg[n]).state = .lost :=
  foldl_each (before := fun _ _ => True) (after := fun n e => (e.leg[n]).state = .lost) (nodup_legsOf k)
    (fun d n _ => congrArg Leg.state (upd_get_same ..)) (fun _ _ _ _ h => h)
    (fun d n m other h => (congrArg Leg.state (upd_get_other _ _ _ _ other)).trans h) (mem_legsOf.2 own) trivial

theorem linkHoldExpiry_holds : Claims.linkHoldExpiry := by
  intro k s b
  refine ⟨fun held live => ?_, fun rests => rests_of_done ?_⟩
  · have work : exec (.linkHoldExpiry k) s = done s (cardLost k s.dev) := by
      simp only [exec, execLinkHoldExpiry]
      rw [if_pos ⟨held, live⟩]
    have frozen (x : ContactorId) (h : (contactor x (tiesHeld k (brickLost k s.dev))).frozen = true) :
        (contactor x (cardLost k s.dev)).frozen = true := cardLost_eq k s.dev ▸ holdContactor_keeps_frozen h
    refine gives_of_done work (by simp) ⟨?_, ?_, ?_, fun n own => ?_, fun j own => frozen (.tie j) (tiesHeld_frozen own), ?_, ?_⟩
    · rw [cardLost_brick, brickLost_brick]
      rfl
    · rw [cardLost_brick, brickLost_brick]
      rfl
    · rw [contactor, cardLost_brick, brickLost_brick]
      rfl
    · rw [cardLost_leg, brickLost_leg own]
    · rw [cardLost_eq]
      exact holdContactor_frozen (.outlet (railOf k))
    · rw [cardLost_brick, brickLost_brick]
      rfl
  · simp only [exec, execLinkHoldExpiry]
    rw [if_neg fun ⟨held, live⟩ => rests.elim (fun early => absurd held (Nat.not_le.2 early)) live]

/-! A link that comes up (R63, R65, R66, R71). -/

/-- A brick's and a drive's record with the link up: the service values wait to be written (R65). -/
def Brick.linkedUp (d : Dev) (b : Brick) : Brick := { b with link := .up, serviceQ := linkWrites b.delay d }
def Drive.linkedUp (d : Dev) (b : Drive) : Drive := { b with link := .up, serviceQ := linkWrites b.delay d }

theorem exec_brickLinkUp_brick (own : port.val = k.val) : exec (.brickLinkUp port) s = done s
    (if (s.dev.brick[k]).link = .starting ∧ 100 ≤ (s.dev.brick[k]).goodRun ∧ !(s.dev.brick[k]).fibreRefused
      then onBrick k (Brick.linkedUp s.dev) s.dev else s.dev) := by
  have low : port.val < 24 := own ▸ k.isLt
  obtain rfl : (⟨port.val, low⟩ : Fin 24) = k := Fin.ext own
  simp only [exec, execBrickLinkUp, dif_pos low]
  rfl

theorem exec_brickLinkUp_drive {u : Fin 4} (own : port.val = 24 + u.val) : exec (.brickLinkUp port) s = done s
    (if (s.dev.drive[u]).link = .starting ∧ 100 ≤ (s.dev.drive[u]).goodRun ∧ !(s.dev.drive[u]).fibreRefused
      then onDrive u (Drive.linkedUp s.dev) s.dev else s.dev) := by
  have high : ¬ port.val < 24 := by omega
  have here : (⟨port.val - 24, by omega⟩ : Fin 4) = u := Fin.ext (by simp only; omega)
  simp only [exec, execBrickLinkUp, dif_neg high, here]
  rfl

/-- A link that is not starting, has not run well for long enough or has too long a fibre does not come up. -/
theorem not_linkedUp {l : LinkState} {n : Nat} {long : Bool} (h : l ≠ .starting ∨ n < 100 ∨ long = true) :
    ¬ (l = .starting ∧ 100 ≤ n ∧ (!long) = true) := by
  rintro ⟨starting, good, short⟩
  obtain h | h | h := h
  · exact h starting
  · omega
  · simp [h] at short

theorem brickLinkUp_holds : Claims.brickLinkUp := by
  refine fun s => ⟨fun k port own => ⟨fun starting good fibre => ?_, fun rests => rests_of_done ?_⟩,
    fun u port own => ⟨fun starting good fibre => ?_, fun rests => rests_of_done ?_⟩⟩
  · have work := exec_brickLinkUp_brick (s := s) own
    rw [if_pos ⟨starting, good, by simpa using fibre⟩] at work
    refine gives_of_done work le_rfl ?_
    rw [onBrick_brick, upd_get_same]
    exact ⟨rfl, rfl⟩
  · rw [exec_brickLinkUp_brick own, if_neg (not_linkedUp rests)]
  · have work := exec_brickLinkUp_drive (s := s) own
    rw [if_pos ⟨starting, good, by simpa using fibre⟩] at work
    refine gives_of_done work le_rfl ?_
    rw [onDrive_drive, upd_get_same]
    exact ⟨rfl, rfl⟩
  · rw [exec_brickLinkUp_drive own, if_neg (not_linkedUp rests)]

theorem portDelayMeasurement_holds : Claims.portDelayMeasurement := by
  intro k port arrival s own p b new
  have low : port.val < 24 := own ▸ k.isLt
  obtain rfl : (⟨port.val, low⟩ : Fin 24) = k := Fin.ext own
  refine ⟨fun long => ?_, fun short => ?_⟩
  · have work : exec (.portDelayMeasurement port arrival) s
        = done s (onBrick ⟨port.val, low⟩ (fun b => { b with fibreRefused := true }) (raise1 1 .fibreDelay port.val s.dev)) := by
      have refused : decide (200 < divRound ((arrival : Int) - 240 + ((s.dev.brick[port.val]).delay[myPort s.dev] : Nat)) 2) = true :=
        decide_eq_true long
      simp only [exec, execPortDelayMeasurement, dif_pos low, refused, if_true]
    have raised : (raise1 1 .fibreDelay port.val s.dev).brick = s.dev.brick := (within_raise ..).brick_eq
    refine gives_of_done work (by simp [raise1]) ?_
    rw [onBrick_brick, raised, upd_get_same]
    exact ⟨rfl, rfl, rfl⟩
  · have work : exec (.portDelayMeasurement port arrival) s = done s (onBrick ⟨port.val, low⟩ (fun b => { b with
        fibreRefused := false, delay := b.delay.set p (max 0 new).toNat, serviceQ := b.serviceQ ++ [(8 + p.val, (max 0 new).toNat)] }) s.dev) := by
      have taken : decide (200 < divRound ((arrival : Int) - 240 + ((s.dev.brick[port.val]).delay[myPort s.dev] : Nat)) 2) = false :=
        decide_eq_false (Int.not_lt.2 short)
      simp only [exec, execPortDelayMeasurement, dif_pos low, taken]
      rfl
    refine gives_of_done work le_rfl ?_
    rw [onBrick_brick, upd_get_same]
    exact ⟨rfl, by simp, rfl⟩

/-! Frames at a card (R64, R67, R69). -/

/-- A service word leaves of its card everything but the answer and the write that waits. -/
theorem serviceAt_card (may : Bool) (q : BitVec 24) :
    ∃ a w, (serviceAt c p may q d).card[c] = { d.card[c] with answer := a, nextWrite := w } := by
  rw [serviceAt, onCard_card, upd_get_same]
  exact ⟨_, _, rfl⟩

/-- A good frame with the next count, noted at its port. -/
def noted (c : Fin 28) (p : Fin 2) (d : Dev) : Dev := onCard c (fun x => { x with gotFrame := x.gotFrame.set p true }) d

theorem noted_card : (noted c p d).card[c] = { d.card[c] with gotFrame := (d.card[c]).gotFrame.set p true } := upd_get_same ..

/-- What a card does with a good frame that has the next count. -/
theorem downlinkAccept_counted {f : Downlink} (good : Claims.counted c f d) : downlinkAccept c p f d
    = if !(downView c f).command ∨ (downView c f).epoch < (d.card[c]).highest then serviceAt c p false (downView c f).service (noted c p d)
      else if (downView c f).epoch = (d.card[c]).highest ∧ (d.card[c]).authority.isSome ∧ (d.card[c]).authority ≠ some p then
        serviceAt c p false (downView c f).service (onCard c (fun x => { x with conflictUntil := some (d.time.now + ms 100) }) (noted c p d))
      else serviceAt c p true (downView c f).service (onCard c (fun x => drawBoundary c p { x with
        authority := some p, highest := (downView c f).epoch, miss := 0, orphan := false, braking := false, next := some (downView c f).words,
        nextControl := (downView c f).control, brkOpened := false, lastAccepted := d.time.now,
        count := frameCount (downView c f).header - 1 }) (noted c p d)) := by
  obtain ⟨whole, next⟩ := good
  unfold downlinkAccept
  extract_lets v x isNext d1
  rw [if_neg (by simp [v, isNext, x, whole, next])]
  rfl

/-- Any other frame is not taken. -/
theorem downlinkAccept_not_counted {f : Downlink} (bad : ¬ Claims.counted c f d) : downlinkAccept c p f d = d := by
  unfold downlinkAccept
  refine if_pos ?_
  simpa [Claims.counted, Classical.or_iff_not_imp_left] using bad

theorem one_sub_ne (p : Fin 2) : 1 - p ≠ p := by
  revert p
  decide

theorem downlinkFrameAccept_holds : Claims.downlinkFrameAccept := by
  intro c p f s
  dsimp only
  have run : exec (.downlinkFrameAccept c p f) s = done s (downlinkAccept c p f s.dev) := rfl
  refine ⟨fun good command applies => ?_, fun good command equal other => ?_, fun good rests => ?_, fun bad => rests_of_done ?_⟩
  · have up_ : ¬ ((!(downView c f).command) = true ∨ (downView c f).epoch < (s.dev.card[c]).highest) := by
      rintro (h | h)
      · simp [command] at h
      · omega
    have mine : ¬ ((downView c f).epoch = (s.dev.card[c]).highest ∧ (s.dev.card[c]).authority.isSome = true
        ∧ (s.dev.card[c]).authority ≠ some p) := by
      rintro ⟨equal, held, elsewhere⟩
      obtain above | ⟨-, none_ | own⟩ := applies
      · omega
      · rw [none_] at held
        cases held
      · exact elsewhere own
    rw [downlinkAccept_counted good, if_neg up_, if_neg mine] at run
    refine gives_of_done run (by simp [noted]) ?_
    obtain ⟨a, w, card⟩ := serviceAt_card (c := c) (p := p) (d := onCard c (fun x => drawBoundary c p { x with
        authority := some p, highest := (downView c f).epoch, miss := 0, orphan := false, braking := false, next := some (downView c f).words,
        nextControl := (downView c f).control, brkOpened := false, lastAccepted := s.dev.time.now,
        count := frameCount (downView c f).header - 1 }) (noted c p s.dev)) true (downView c f).service
    rw [card, onCard_card, upd_get_same]
    exact ⟨rfl, rfl, rfl, rfl, rfl, rfl, rfl, rfl, BitVec.sub_add_cancel .., rfl⟩
  · have up_ : ¬ ((!(downView c f).command) = true ∨ (downView c f).epoch < (s.dev.card[c]).highest) := by
      rintro (h | h)
      · simp [command] at h
      · omega
    have elsewhere : (s.dev.card[c]).authority ≠ some p := fun h => one_sub_ne p (Option.some.inj (other.symm.trans h))
    rw [downlinkAccept_counted good, if_neg up_, if_pos ⟨equal, by rw [other]; rfl, elsewhere⟩] at run
    refine gives_of_done run (by simp [noted]) ?_
    obtain ⟨a, w, card⟩ := serviceAt_card (c := c) (p := p)
      (d := onCard c (fun x => { x with conflictUntil := some (s.dev.time.now + ms 100) }) (noted c p s.dev)) false (downView c f).service
    rw [card, onCard_card, upd_get_same, noted_card]
    exact ⟨rfl, rfl, rfl, rfl⟩
  · rw [downlinkAccept_counted good, if_pos (rests.imp_left fun h => by rw [h]; rfl)] at run
    refine gives_of_done run (by simp [noted]) ?_
    obtain ⟨a, w, card⟩ := serviceAt_card (c := c) (p := p) (d := noted c p s.dev) false (downView c f).service
    rw [card, noted_card]
    exact ⟨by simp, rfl, rfl, rfl⟩
  · rw [run, downlinkAccept_not_counted bad]

end Sys2Proof.Machine
end

section
/-! The claims on a card's deadline, its contactor hold and its service words (R60, R65, R68 to R70, Tables 3.9, 3.12 and 3.14). -/
namespace Sys2Proof.Machine
variable {d : Dev} {c : Fin 28} {p : Fin 2} {s : State} {x : Card} {axis : Bool}

/-! A card at its boundary. -/

/-- A card with the parameter write that waited carried out, and its count moved on. -/
def Card.begun (x : Card) : Card :=
  let x := match x.nextWrite with
    | some (a, v) => if h : a < 13 then { x with params := x.params.set a v, nextWrite := none } else { x with nextWrite := none }
    | none => x
  { x with count := x.count + 1 }

theorem begun_eq (x : Card) : ∃ v q, x.begun = { x with params := v, nextWrite := q, count := x.count + 1 } := by
  unfold Card.begun
  split
  · split <;> exact ⟨_, _, rfl⟩
  · exact ⟨_, _, rfl⟩

/-- The words that a card in braking has in force: torque 0 at a drive, braking for every leg that switches at a brick card. -/
def brakingWords (axis : Bool) (w : Vector W32 4) : Vector W32 4 :=
  w.map (fun w => if axis then 0 else if w &&& 0xC = 0 then w else w ||| 0xC)

theorem brakingWords_get (axis : Bool) (w : Vector W32 4) (j : Fin 4) :
    (brakingWords axis w)[j] = if axis then 0 else if w[j] &&& 0xC = 0 then w[j] else w[j] ||| 0xC := by
  simp [brakingWords]

theorem cardBoundary_eq (axis : Bool) (x : Card) : cardBoundary axis x = match x.begun.next with
    | some w => { x.begun with words := w, control := x.begun.nextControl, next := none }
    | none => if !x.begun.braking then x.begun else { x.begun with words := brakingWords axis x.begun.words } := rfl

theorem cardBoundary_of_next {w : Vector W32 4} (next : x.next = some w) : ∃ v q, cardBoundary axis x
    = { x with params := v, nextWrite := q, count := x.count + 1, words := w, control := x.nextControl, next := none } := by
  obtain ⟨v, q, begun⟩ := begun_eq x
  rw [cardBoundary_eq, begun]
  simp only [next]
  exact ⟨v, q, rfl⟩

theorem cardBoundary_of_none (next : x.next = none) : ∃ v q, cardBoundary axis x
    = { x with params := v, nextWrite := q, count := x.count + 1, words := if x.braking then brakingWords axis x.words else x.words } := by
  obtain ⟨v, q, begun⟩ := begun_eq x
  rw [cardBoundary_eq, begun]
  simp only [next]
  refine ⟨v, q, ?_⟩
  cases x.braking <;> rfl

/-- The work of CARD_DOWNLINK_DEADLINE at its card, where the switching pattern follows from the words. -/
theorem exec_cardDownlinkDeadline (c : Fin 28) (s : State) : ∃ e z q, exec (.cardDownlinkDeadline c) s = done s e ∧ e.time = s.dev.time
    ∧ e.card[c] = { cardBoundary (decide (24 ≤ c.val)) (cardDeadline c s.dev.card[c]) with zero := z, pattern := q } := by
  let x := cardBoundary (decide (24 ≤ c.val)) (cardDeadline c s.dev.card[c])
  have card : ∃ z q, (if decide (24 ≤ c.val) = true then x else patterns x) = { x with zero := z, pattern := q } := by
    split
    · exact ⟨x.zero, x.pattern, rfl⟩
    · exact ⟨_, _, rfl⟩
  obtain ⟨z, q, card⟩ := card
  exact ⟨_, z, q, rfl, rfl, (upd_get_same ..).trans card⟩

/-- A card that has accepted a frame has missed none. -/
theorem cardDeadline_of_next {w : Vector W32 4} (next : x.next = some w) : ∃ g f, cardDeadline c x
    = { x with portGood := g, gotFrame := f, miss := 0, orphan := false, braking := false } := by
  unfold cardDeadline
  extract_lets y
  have accepted : y.next.isSome = true := by simp [y, next]
  rw [if_pos accepted]
  exact ⟨_, _, rfl⟩

/-- Whether a card brakes that misses a frame after so many misses, where its other port is live or not (R68, R69). -/
def brakesAt (x : Card) (other : Bool) : Bool :=
  decide (x.params[11] < x.miss + 1) || (decide (2 ≤ x.miss + 1) && !other) || x.authority.isNone

/-- A card brakes once it has missed more frames than it holds, or with no port in authority. -/
theorem brakesAt_of_held {other : Bool} (h : x.params[11] < x.miss + 1 ∨ x.authority = none) : brakesAt x other = true := by
  obtain h | h := h
  · simp only [brakesAt, decide_eq_true h, Bool.true_or]
  · simp only [brakesAt, h, Option.isNone_none, Bool.or_true]

/-- The first frame missed does not make a card brake that holds one. -/
theorem not_brakesAt_first {other : Bool} (authority : x.authority = some p) (fresh : x.miss = 0) (hold : 1 ≤ x.params[11]) :
    brakesAt x other = false := by
  have holds_ : ¬ x.params[11] < 0 + 1 := by omega
  simp only [brakesAt, authority, fresh, decide_eq_false holds_, Option.isNone_some]
  rfl

theorem cardDeadline_of_none (next : x.next = none) : ∃ g f b other, cardDeadline c x = { x with
    portGood := g, gotFrame := f, boundary := b, miss := x.miss + 1,
    orphan := x.orphan || decide (3 ≤ x.miss + 1) || decide (x.params[11] < x.miss + 1), braking := brakesAt x other } := by
  unfold cardDeadline
  extract_lets y m other
  have missed : ¬ y.next.isSome = true := by simp [y, next]
  rw [if_neg missed]
  exact ⟨_, _, _, other, rfl⟩

theorem cardDownlinkDeadline_holds : Claims.cardDownlinkDeadline := by
  intro c s
  dsimp only
  obtain ⟨e, z, q, work, time, card⟩ := exec_cardDownlinkDeadline c s
  refine ⟨fun w next => ?_, fun next => ?_⟩
  · obtain ⟨g, f, deadline⟩ := cardDeadline_of_next (c := c) next
    obtain ⟨v, n, boundary⟩ := cardBoundary_of_next (x := cardDeadline c s.dev.card[c]) (axis := decide (24 ≤ c.val))
      (by rw [deadline]; exact next)
    refine gives_of_done work (by rw [time]) ?_
    rw [card, boundary, deadline]
    exact ⟨rfl, rfl, rfl, rfl, rfl, rfl, rfl⟩
  · obtain ⟨g, f, b, other, deadline⟩ := cardDeadline_of_none (c := c) next
    obtain ⟨v, n, boundary⟩ := cardBoundary_of_none (x := cardDeadline c s.dev.card[c]) (axis := decide (24 ≤ c.val))
      (by rw [deadline]; exact next)
    refine gives_of_done work (by rw [time]) ?_
    rw [card, boundary, deadline]
    refine ⟨rfl, rfl, fun (rolls : brakesAt _ other = false) => ?_, fun (brakes : brakesAt _ other = true) j => ?_, fun h => ?_,
      fun p authority fresh hold => ?_⟩
    · simp only [rolls]
      rfl
    · simp only [brakes, if_true, brakingWords_get, decide_eq_true_eq]
    · exact brakesAt_of_held h
    · exact not_brakesAt_first authority fresh hold

theorem exec_cardContactorHold (k : Fin 24) (s : State) : exec (.cardContactorHold k) s = done s
    (if 1 ≤ (s.dev.card[cardOf k]).miss ∧ 3 ≤ (s.dev.card[cardOf k]).low then
      onCard (cardOf k) (fun c => { c with brkOpened := true, control := c.control &&& 0x7F })
        (reach ((s.dev.card[cardOf k]).lastAccepted + ms (s.dev.card[cardOf k]).params[12]) s.dev)
    else s.dev) := rfl

theorem cardContactorHold_holds : Claims.cardContactorHold := by
  intro k c s own
  obtain rfl : c = cardOf k := Fin.ext own
  refine ⟨fun missed low => ?_, fun rests => rests_of_done ?_⟩
  · have work := exec_cardContactorHold k s
    rw [if_pos ⟨missed, low⟩] at work
    refine gives_of_done work (le_max_left ..) ?_
    rw [onCard_card, reach_card, upd_get_same]
    exact ⟨rfl, rfl, le_max_right ..⟩
  · rw [exec_cardContactorHold, if_neg]
    rintro ⟨missed, low⟩
    exact rests.elim (fun h => absurd missed (by rw [h]; decide)) (Nat.not_lt.2 low)

/-! Service words (R65). -/

/-- The address and the value that a service word carries (Table 3.9). -/
def serviceAddr (q : BitVec 24) : Nat := (q.extractLsb' 16 7).toNat
def serviceData (q : BitVec 24) : Nat := (q.extractLsb' 0 16).toNat

/-- A card's record after a service word: the answer, and the write that waits, if the word brings one. -/
theorem exec_serviceRequest (c : Fin 28) (p : Fin 2) (q : BitVec 24) (s : State) :
    ∃ e, exec (.serviceRequest c p q) s = done s e ∧ e.time = s.dev.time
      ∧ (e.card[c]).answer[p] = (serviceAnswer c s.dev.card[c] ((s.dev.card[c]).authority == some p) q).1
      ∧ (e.card[c]).nextWrite = (serviceAnswer c s.dev.card[c] ((s.dev.card[c]).authority == some p) q).2.or (s.dev.card[c]).nextWrite := by
  refine ⟨_, rfl, rfl, ?_, ?_⟩
  · rw [serviceAt, onCard_card, upd_get_same]
    simp
  · rw [serviceAt, onCard_card, upd_get_same]
    rcases serviceAnswer c s.dev.card[c] ((s.dev.card[c]).authority == some p) q with ⟨a, _ | w⟩ <;> rfl

theorem serviceAnswer_none (may : Bool) {q : BitVec 24} (a : serviceAddr q = 0) : serviceAnswer c x may q = (0, none) := if_pos a

theorem serviceAnswer_read (may : Bool) {q : BitVec 24} {y : Nat} (a : serviceAddr q ≠ 0) (read : q.getLsbD 23 = false)
    (value : serviceValue c x (serviceAddr q) = some y) : serviceAnswer c x may q = (BitVec.ofNat 24 (serviceAddr q * 2 ^ 16 + y), none) := by
  unfold serviceAddr at *
  simp only [serviceAnswer, if_neg a, read, Bool.false_eq_true, if_false, value, Nat.zero_add]

theorem serviceAnswer_write {q : BitVec 24} {lo hi : Nat} (write : q.getLsbD 23 = true) (range : serviceRange (serviceAddr q) = some (lo, hi))
    (above : lo ≤ serviceData q) (below : serviceData q ≤ hi) : serviceAnswer c x true q
      = (BitVec.ofNat 24 (serviceAddr q * 2 ^ 16 + serviceData q), some (serviceAddr q - 8, serviceData q)) := by
  have a : serviceAddr q ≠ 0 := fun h => by rw [h] at range; cases range
  unfold serviceAddr serviceData at *
  simp only [serviceAnswer, if_neg a, write, if_true, range, above, below, and_self, Bool.false_eq_true, if_false, Nat.zero_add]

/-- Any other write is answered with the error bit and the value that stands. -/
theorem serviceAnswer_refused {may : Bool} {q : BitVec 24} (a : serviceAddr q ≠ 0) (write : q.getLsbD 23 = true)
    (refused : may = false ∨ serviceRange (serviceAddr q) = none
      ∨ ∃ lo hi, serviceRange (serviceAddr q) = some (lo, hi) ∧ (serviceData q < lo ∨ hi < serviceData q)) : serviceAnswer c x may q
    = (BitVec.ofNat 24 (2 ^ 23 + serviceAddr q * 2 ^ 16 + (serviceValue c x (serviceAddr q)).getD 0), none) := by
  have out {lo hi : Nat} (range : serviceRange (serviceAddr q) = some (lo, hi)) :
      ¬ (may = true ∧ lo ≤ serviceData q ∧ serviceData q ≤ hi) := by
    rintro ⟨rfl, above, below⟩
    obtain h | h | ⟨_, _, h, outside⟩ := refused
    · cases h
    · cases range.symm.trans h
    · cases range.symm.trans h
      omega
  unfold serviceAddr serviceData at *
  cases range : serviceRange (q.extractLsb' 16 7).toNat with
  | none => simp only [serviceAnswer, if_neg a, write, if_true, range]
  | some r => simp only [serviceAnswer, if_neg a, write, if_true, range, if_neg (out range)]

/-- The error bit of an answer that fits below it. -/
theorem answer_errorBit {a y : Nat} (ha : a < 128) (hy : y < 65536) : (BitVec.ofNat 24 (2 ^ 23 + a * 2 ^ 16 + y)).getLsbD 23 = true := by
  rw [BitVec.getLsbD_ofNat, Nat.testBit_eq_decide_div_mod_eq]
  have top : (2 ^ 23 + a * 2 ^ 16 + y) / 2 ^ 23 = 1 := by omega
  rw [top]
  rfl

theorem serviceRequest_holds : Claims.serviceRequest := by
  intro c p q s
  obtain ⟨e, work, time, answer, write⟩ := exec_serviceRequest c p q s
  have given {P : Dev → Prop} (h : P e) : Gives (.serviceRequest c p q) s P := gives_of_done work (by rw [time]) h
  refine ⟨fun none_ => given ?_, fun y some_ read value => given ?_, fun lo hi writes range authority above below => given ?_,
    fun some_ writes small refused => given ?_⟩
  · rw [answer, write, serviceAnswer_none _ none_]
    exact ⟨rfl, rfl⟩
  · rw [answer, write, serviceAnswer_read _ some_ read value]
    exact ⟨rfl, rfl⟩
  · have may : ((s.dev.card[c]).authority == some p) = true := beq_iff_eq.2 authority
    rw [answer, write, may, serviceAnswer_write writes range above below]
    exact ⟨rfl, rfl⟩
  · rw [answer, write, serviceAnswer_refused some_ writes (refused.imp_left fun h => beq_eq_false_iff_ne.2 h)]
    refine ⟨answer_errorBit (q.extractLsb' 16 7).isLt ?_, rfl⟩
    cases value : serviceValue c s.dev.card[c] (serviceAddr q) with
    | none => decide
    | some y => exact small y value

/-- Settles O32: the commands of the links and of the cards one by one. -/
theorem splineLinkCommands : Obligations.SplineLinkCommands :=
  ⟨uplinkDeadline_holds, linkHoldExpiry_holds, brickLinkUp_holds, portDelayMeasurement_holds, downlinkFrameAccept_holds,
    cardDownlinkDeadline_holds, cardContactorHold_holds, serviceRequest_holds⟩

end Sys2Proof.Machine
end

section
/-! The claims on single legs and on synchronisation (R73 to R75, R79, R84, Tables 3.16 and 3.21). -/
namespace Sys2Proof.Machine
variable {d : Dev} {n : Fin 96} {s : State}

@[simp] theorem onLeg_leg_same {f : Leg → Leg} : (onLeg n f d).leg[n] = f d.leg[n] := upd_get_same ..

theorem legLostRecovery_holds : Claims.legLostRecovery := by
  intro n s l
  refine ⟨fun t since lost fresh => ?_, fun rests => rests_of_done ?_⟩
  · have work : exec (.legLostRecovery n) s = done s (onLeg n (fun l => { l with state := .off }) (reach (t + ms 10) s.dev)) := by
      have since' : (s.dev.leg[n]).goodSince = some t := since
      simp only [exec, execLegLostRecovery, since']
      rw [if_pos ⟨lost, fresh⟩]
    exact gives_of_done work (le_max_left ..) ⟨congrArg Leg.state (onLeg_leg_same), le_max_right ..⟩
  · simp only [exec, execLegLostRecovery]
    split
    · rename_i since
      rw [if_neg]
      rintro ⟨lost, fresh⟩
      obtain h | h | h := rests
      · cases h.symm.trans since
      · exact h lost
      · exact h fresh
    · rfl

theorem exec_diodeEmulationEntry (n : Fin 96) (s : State) : exec (.diodeEmulationEntry n) s = done s
    (if (s.dev.leg[n]).state = .active ∧ 10 ≤ (s.dev.leg[n]).belowBd ∧ on s.dev 0x2310 0x07 then
      onLeg n (fun l => { l with state := .diodeEmu }) s.dev else s.dev) := rfl

theorem diodeEmulationEntry_holds : Claims.diodeEmulationEntry := by
  intro n s
  refine ⟨fun active below enabled => ?_, fun rests => rests_of_done ?_⟩
  · have work := exec_diodeEmulationEntry n s
    rw [if_pos ⟨active, below, enabled⟩] at work
    exact gives_of_done work le_rfl onLeg_leg_same
  · rw [exec_diodeEmulationEntry, if_neg]
    rintro ⟨active, below, enabled⟩
    obtain h | h | h := rests
    · exact h active
    · exact Nat.not_lt.2 below h
    · cases h.symm.trans enabled

/-- The record of a leg that is not LOST and goes to FAULT. -/
theorem legFault_leg_same (c : Nat) (live : (d.leg[n]).state ≠ .lost) : (legFault n c d).leg[n]
    = { d.leg[n] with state := .fault, cause := (d.leg[n]).cause ||| c, awaiting := false } := by
  rw [legFault_leg c live]
  exact upd_get_same ..

theorem exec_senseImplausible (n : Fin 96) (s : State) : exec (.senseImplausible n) s = done s
    (if 100 ≤ (s.dev.leg[n]).implausible ∧ (s.dev.leg[n]).state ≠ .lost then legFault n 16 s.dev else s.dev) := rfl

theorem senseImplausible_holds : Claims.senseImplausible := by
  intro n s
  refine ⟨fun long live => ?_, fun rests => rests_of_done ?_⟩
  · have work := exec_senseImplausible n s
    rw [if_pos ⟨long, live⟩] at work
    refine gives_of_done work (by simp) ?_
    rw [legFault_leg_same _ live]
    exact ⟨rfl, rfl⟩
  · rw [exec_senseImplausible, if_neg]
    rintro ⟨long, live⟩
    exact rests.elim (Nat.not_lt.2 long) live

/-- The device at the end of a leg's braking window (R84). -/
def windowEnd (n : Fin 96) (d : Dev) : Dev := reach ((d.leg[n]).brakeStart.getD d.time.now + period * nat d 0x2330 0x06) d

/-- The end of a braking window: the leg is judged by its last sample, where that is a good one. -/
theorem exec_brakingWindowEnd (braking : (s.dev.leg[n]).state = .braking) (fresh : (s.dev.leg[n]).awaiting = false) :
    exec (.brakingWindowEnd n) s = done s (if (s.dev.brick[brickOf n]).missing = 0 then
        if nearZero (s.dev.leg[n]).current then onLeg n (fun l => { l with state := .standby }) (windowEnd n s.dev)
        else legFault n 8 (windowEnd n s.dev)
      else onLeg n (fun l => { l with awaiting := true }) (windowEnd n s.dev)) := by
  simp only [exec, execBrakingWindowEnd]
  rw [if_neg]
  · rfl
  · rintro (h | h)
    · exact h braking
    · cases fresh.symm.trans h

theorem nearZero_iff (i : Int) : nearZero i = true ↔ -50 ≤ i ∧ i ≤ 50 := decide_eq_true_iff

theorem brakingWindowEnd_holds : Claims.brakingWindowEnd := by
  intro n s
  refine ⟨fun braking fresh => ?_, fun rests => rests_of_done ?_⟩
  · have work := exec_brakingWindowEnd braking fresh
    have live : ((windowEnd n s.dev).leg[n]).state ≠ .lost := fun h => by cases braking.symm.trans h
    by_cases good : (s.dev.brick[brickOf n]).missing = 0
    · by_cases inside : nearZero (s.dev.leg[n]).current = true
      · rw [if_pos good, if_pos inside] at work
        refine gives_of_done work (le_max_left ..) ⟨le_max_right .., fun _ _ => ?_, fun _ outside => ?_, fun missed => absurd good missed⟩
        · rw [onLeg_leg_same]
        · rw [nearZero_iff] at inside
          omega
      · rw [if_pos good, if_neg inside] at work
        refine gives_of_done work (by rw [legFault_time]; exact le_max_left ..) ⟨by rw [legFault_time]; exact le_max_right ..,
          fun _ near => absurd ((nearZero_iff _).2 near) inside, fun _ _ => ?_, fun missed => absurd good missed⟩
        rw [legFault_leg_same _ live]
        exact ⟨rfl, rfl⟩
    · rw [if_neg good] at work
      refine gives_of_done work (le_max_left ..) ⟨le_max_right .., fun h => absurd h good, fun h => absurd h good, fun _ => ?_⟩
      rw [onLeg_leg_same]
      exact ⟨braking, rfl⟩
  · simp only [exec, execBrakingWindowEnd]
    rw [if_pos rests]

/-! Synchronisation (R73 to R75). -/

/-- The correction of the next boundary by a module that holds the lease or does not (R75). -/
theorem trim_eq (off holder : Bool) (e : Int) : (if off = true ∨ (!holder) = true ∨ e = 0 then (0 : Int) else if 0 < e then -1 else 1)
    = if holder = true ∧ off = false then -(Int.sign e) else 0 := by
  cases off with
  | true => simp
  | false =>
    cases holder with
    | false => simp
    | true =>
      obtain neg | rfl | pos := lt_trichotomy e 0
      · simp [neg.ne, neg.not_gt, Int.sign_eq_neg_one_of_neg neg]
      · simp
      · simp [pos.ne', pos, Int.sign_eq_one_of_pos pos]

/-- What an edge leaves of synchronisation where SYNC_IN is selected. -/
theorem syncEdge_sync {holder : Bool} {at_ : Nat} (selected : num d 0x2300 0x01 = 1) :
    let t := atSite at_ d
    let e := phaseError t (nat d 0x2300 0x03) d.sync.boundary
    let off := Claims.edgeOffRate t d
    let inside := if e.natAbs ≤ 2 ∧ !off then min 16 (d.sync.inside + 1) else 0
    (syncEdge holder at_ d).time.now = max d.time.now t ∧ (syncEdge holder at_ d).sync = { d.sync with
      lastEdge := some t, error := 10 * e, inside := inside, missed := 0, offRate := off
      trim := if off ∨ !holder ∨ e = 0 then 0 else if 0 < e then -1 else 1
      state := if off then d.sync.state else if 16 ≤ inside then .locked else if d.sync.state = .locked then .locked else .acquiring } := by
  intro t e off inside
  unfold syncEdge
  rw [if_neg (by simp [selected])]
  exact ⟨rfl, rfl⟩

theorem syncInEdge_holds : Claims.syncInEdge := by
  intro at_ s t e0
  refine ⟨fun running selected => ?_, fun rests => rests_of_done ?_⟩
  · have work : exec (.syncInEdge at_) s = done s (syncEdge (holds s.dev) at_ s.dev) := by
      simp only [exec, execSyncInEdge, syncInEdge, running, if_true]
    obtain ⟨now, sync⟩ := syncEdge_sync (holder := holds s.dev) (at_ := at_) selected
    refine gives_of_done work (by rw [now]; exact le_max_left ..) ?_
    rw [now, sync]
    refine ⟨rfl, rfl, le_max_right .., rfl, rfl, trim_eq .., fun steady near row => ?_⟩
    have inside : 16 ≤ if e0.natAbs ≤ 2 ∧ (!Claims.edgeOffRate t s.dev) = true then min 16 (s.dev.sync.inside + 1) else 0 := by
      rw [if_pos ⟨near, by simp [steady]⟩]
      omega
    change (if Claims.edgeOffRate t s.dev = true then _ else _) = SyncState.locked
    rw [if_neg (by simp [steady])]
    exact if_pos inside
  · simp only [exec, execSyncInEdge, syncInEdge, syncEdge]
    obtain h | h := rests
    · rw [if_neg (by simp [h])]
    · rw [if_pos h, ite_self]

/-- The device at the instant at which the loss of sync is found: a lost rate at once, missing edges after three waits (R74). -/
theorem exec_syncLoss {off : Bool} (locked : s.dev.sync.state = .locked) (lost : off = true → s.dev.sync.offRate = true) :
    ∃ d, Within [] [] s.dev d ∧ (∀ t, off = false → s.dev.sync.lastEdge = some t → t + nat s.dev 0x2300 0x02 * 4500 ≤ d.time.now)
      ∧ exec (.syncLoss off) s = done s (raise 1 .syncLost [] (bump 0x2300 0x09
          (onSync (fun s => { s with state := .holdover, trim := 0, inside := 0, missed := 3 }) d))) := by
  simp only [exec, execSyncLoss]
  rw [if_neg (by simp [locked]), if_neg (by cases off <;> simp_all)]
  refine ⟨_, ?_, fun t missing last => ?_, rfl⟩
  · split
    · exact within_reach _
    · exact .rfl
  · subst missing
    simp only [last]
    exact le_max_right ..

theorem syncLoss_holds : Claims.syncLoss := by
  intro off s
  refine ⟨fun locked lost => ?_, fun rests => rests_of_done ?_⟩
  · obtain ⟨d, near, waited, work⟩ := exec_syncLoss locked lost
    have later : s.dev.time.now ≤ d.time.now := (near.1 .time (by simp)).1
    refine gives_of_done work (by simpa using later) ?_
    rw [(within_raise ..).sync_eq, num_raise (by decide), num_bump_same, raise_time]
    have count : d.sync.count = s.dev.sync.count := congrArg Sync.count near.sync_eq
    exact ⟨rfl, rfl, rfl, count, congrArg (· + 1) (near.num_eq (by simp)), waited⟩
  · simp only [exec, execSyncLoss]
    obtain h | ⟨h, h'⟩ := rests
    · rw [if_pos h]
    · rw [ite_eq_left_iff.2 fun _ => if_pos (by simp [h, h'])]

end Sys2Proof.Machine
end

section
/-! The claim on the end of a shed dwell (R80). -/
namespace Sys2Proof.Machine
variable {d e : Dev} {h : Fin 12} {n : Fin 96} {s : State}

/-! The legs of a group. -/

theorem runOf_nodup (head : Vector (Fin 12) 12) (h : Fin 12) : (runOf head h).Nodup := by
  refine List.Nodup.filter _ (List.Nodup.map_on (fun i hi j hj e => ?_) List.nodup_range)
  have e' : (h.val + i) % 12 = (h.val + j) % 12 := congrArg Fin.val e
  rw [List.mem_range] at hi hj
  omega

theorem mem_railLegs {j : Fin 12} : n ∈ (bricksOf j).flatMap legsOf ↔ n.val / 8 = j.val := by
  simp only [List.mem_flatMap, mem_legsOf, exists_eq_right']
  simp only [bricksOf, brickOf, List.mem_cons, List.not_mem_nil, or_false, Fin.ext_iff]
  omega

theorem railLegs_nodup (j : Fin 12) : ((bricksOf j).flatMap legsOf).Nodup := by
  revert j
  decide

theorem segLegs_nodup (h : Fin 12) (d : Dev) : (segLegs h d).Nodup := by
  refine List.nodup_flatMap.2 ⟨fun j _ => railLegs_nodup j, (runOf_nodup _ h).imp fun {i j} other => ?_⟩
  refine List.disjoint_left.2 fun n hi hj => other (Fin.ext ?_)
  exact (mem_railLegs.1 hi).symm.trans (mem_railLegs.1 hj)

theorem activeLegs_nodup (h : Fin 12) (d : Dev) : (activeLegs h d).Nodup := (segLegs_nodup h d).filter _

/-! Legs picked one by one. -/

/-- The best of the legs that are left, added to those that have been picked. -/
def pickLeg (better : Fin 96 → Fin 96 → Bool) (p : List (Fin 96) × List (Fin 96)) : List (Fin 96) × List (Fin 96) :=
  match bestLeg better p.1 with
  | some n => (p.1.filter (· != n), p.2 ++ [n])
  | none => p

/-- So many legs picked from a list, beside those that are left. -/
def pickLegs (better : Fin 96 → Fin 96 → Bool) (legs : List (Fin 96)) (m : Nat) : List (Fin 96) × List (Fin 96) :=
  (List.range m).foldl (fun p _ => pickLeg better p) (legs, [])

theorem bestLeg_cons (better : Fin 96 → Fin 96 → Bool) (a : Fin 96) (l : List (Fin 96)) :
    ∃ n ∈ a :: l, bestLeg better (a :: l) = some n := by
  induction l generalizing a with
  | nil => exact ⟨a, List.mem_singleton_self a, rfl⟩
  | cons b l ih =>
    obtain ⟨n, mem, best⟩ := ih b
    rw [bestLeg, best]
    by_cases h : better n a = true
    · exact ⟨n, List.mem_cons_of_mem _ mem, if_pos h⟩
    · exact ⟨a, List.mem_cons_self, if_neg h⟩

/-- Picking parts a list without repeats into the legs picked, as many as were asked for where there are as many, and the rest. -/
theorem pickLegs_spec (better : Fin 96 → Fin 96 → Bool) {legs : List (Fin 96)} (nodup : legs.Nodup) (m : Nat) :
    ((pickLegs better legs m).1 ++ (pickLegs better legs m).2).Perm legs ∧ (pickLegs better legs m).2.length = min m legs.length := by
  induction m with
  | zero => simp [pickLegs]
  | succ m ih =>
    have step : pickLegs better legs (m + 1) = pickLeg better (pickLegs better legs m) := by
      rw [pickLegs, List.range_succ, List.foldl_append]
      rfl
    obtain ⟨perm, count⟩ := ih
    have total := perm.length_eq
    rw [List.length_append] at total
    rw [step]
    generalize pickLegs better legs m = p at perm count total
    obtain ⟨left, picked⟩ := p
    cases left with
    | nil => exact ⟨perm, by simp only [pickLeg, bestLeg, List.length_nil] at *; omega⟩
    | cons a l =>
      obtain ⟨n, mem, best⟩ := bestLeg_cons better a l
      have once : (a :: l).Nodup := (List.nodup_append.1 (perm.nodup_iff.2 nodup)).1
      have rest : (a :: l).filter (· != n) = (a :: l).erase n := (once.erase_eq_filter n).symm
      simp only [pickLeg, best, rest]
      refine ⟨List.Perm.trans ?_ perm, ?_⟩
      · rw [← List.append_assoc]
        exact (List.perm_append_singleton n _).trans ((List.perm_cons_erase mem).symm.append_right picked)
      · simp only [List.length_append, List.length_cons, List.length_nil] at *
        omega

/-! Legs shed. -/

/-- A leg shed for a cause. -/
def Leg.shedFor (cause : ShedCause) (l : Leg) : Leg := { l with state := .shed, shedCause := cause, belowBd := 0, implausible := 0 }

theorem foldl_shedLeg_leg (cause : ShedCause) (l : List (Fin 96)) (d : Dev) : (l.foldl (fun d n => shedLeg n cause d) d).leg[n]
    = if n ∈ l then (d.leg[n]).shedFor cause else d.leg[n] := by
  induction l generalizing d with
  | nil => simp
  | cons a l ih =>
    rw [List.foldl_cons, ih]
    by_cases e : n = a
    · subst e
      have own : (shedLeg n cause d).leg[n] = (d.leg[n]).shedFor cause := onLeg_leg_same ..
      simp [own, Leg.shedFor]
    · have other : (shedLeg a cause d).leg[n] = d.leg[n] := upd_get_other _ _ _ _ e
      simp [other, e]

theorem foldl_shedLeg_ring (cause : ShedCause) (l : List (Fin 96)) (d : Dev) : (l.foldl (fun d n => shedLeg n cause d) d).ring = d.ring :=
  foldl_keeps Dev.ring fun _ _ => rfl

theorem foldl_shedLeg_time (cause : ShedCause) (l : List (Fin 96)) (d : Dev) : (l.foldl (fun d n => shedLeg n cause d) d).time = d.time :=
  foldl_keeps Dev.time fun _ _ => rfl

/-- The legs of a group that stay active are those that have not been shed. -/
theorem activeLegs_shed {gone : List (Fin 96)} (group : e.ring.group = d.ring.group)
    (legs : ∀ n : Fin 96, e.leg[n] = if n ∈ gone then (d.leg[n]).shedFor .lightLoad else d.leg[n]) :
    activeLegs h e = (activeLegs h d).filter (fun n => n ∉ gone) := by
  have members_ : segLegs h e = segLegs h d := by rw [segLegs, members, group]; rfl
  rw [activeLegs, activeLegs, members_, List.filter_filter]
  refine List.filter_congr fun n _ => ?_
  rw [legs]
  by_cases m : n ∈ gone <;> simp [m, Leg.shedFor, inService]

theorem activeLegs_onSeg (i : Fin 12) (f : SegCtl → SegCtl) : activeLegs h (onSeg i f d) = activeLegs h d := rfl

/-- The hotter of two legs by their 1 s averages, the higher index where they are equally hot (R80). -/
def hotter (d : Dev) (a b : Fin 96) : Bool := decide (secTemp b d < secTemp a d ∨ (secTemp a d = secTemp b d ∧ b < a))

/-- How many legs a group keeps active at the end of its shed dwell (R80). -/
def keptLegs (h : Fin 12) (d : Dev) : Nat := max (nat d 0x2310 0x06) (ceilRat (refOf h d / shedLevel 2 h d))

theorem shedExpiry_eq {t : Nat} (since : (d.ring.seg[h]).shedSince = some t) : shedExpiry h d
    = onSeg h (fun s => { s with shedSince := none }) ((pickLegs (hotter d) (activeLegs h d) ((activeLegs h d).length - keptLegs h d)).2.foldl
        (fun d n => shedLeg n .lightLoad d) (reach (t + ms (nat d 0x2310 0x05)) d)) := by
  unfold shedExpiry
  rw [since]
  rfl

/-- What the end of a shed dwell leaves of a group (R80). -/
theorem shedExpiry_spec {t : Nat} (since : (d.ring.seg[h]).shedSince = some t) : let e := shedExpiry h d
    e.time.now = max d.time.now (t + ms (nat d 0x2310 0x05)) ∧ (e.ring.seg[h]).shedSince = none
      ∧ (activeLegs h e).length = min (activeLegs h d).length (keptLegs h d)
      ∧ ∀ n : Fin 96, e.leg[n] = d.leg[n] ∨ (n ∈ activeLegs h d ∧ (e.leg[n]).state = .shed ∧ (e.leg[n]).shedCause = .lightLoad) := by
  have picked := pickLegs_spec (hotter d) (activeLegs_nodup h d) ((activeLegs h d).length - keptLegs h d)
  rw [shedExpiry_eq since]
  generalize (pickLegs (hotter d) (activeLegs h d) ((activeLegs h d).length - keptLegs h d)).1 = left at picked
  generalize (pickLegs (hotter d) (activeLegs h d) ((activeLegs h d).length - keptLegs h d)).2 = gone at picked
  obtain ⟨parted, count⟩ := picked
  let shed := gone.foldl (fun d n => shedLeg n .lightLoad d) (reach (t + ms (nat d 0x2310 0x05)) d)
  have legs (n : Fin 96) : shed.leg[n] = if n ∈ gone then (d.leg[n]).shedFor .lightLoad else d.leg[n] := foldl_shedLeg_leg ..
  have group : shed.ring.group = d.ring.group := congrArg Ring.group (foldl_shedLeg_ring ..)
  refine ⟨congrArg Timebase.now (foldl_shedLeg_time ..), congrArg SegCtl.shedSince (upd_get_same ..), ?_, fun n => ?_⟩
  · have apart := List.disjoint_of_nodup_append (parted.nodup_iff.2 (activeLegs_nodup h d))
    have stay : (left ++ gone).filter (fun n => n ∉ gone) = left := by
      have all_ : left.filter (fun n => n ∉ gone) = left := List.filter_eq_self.2 fun n mem => decide_eq_true fun g => apart mem g
      have none_ : gone.filter (fun n => n ∉ gone) = [] := List.filter_eq_nil_iff.2 fun n mem => by simpa using mem
      rw [List.filter_append, all_, none_, List.append_nil]
    have total := parted.length_eq
    rw [List.length_append] at total
    rw [activeLegs_onSeg, activeLegs_shed group legs, ← (parted.filter _).length_eq, stay]
    omega
  · by_cases mem : n ∈ gone
    · have shed := (legs n).trans (if_pos mem)
      exact .inr ⟨parted.subset (List.mem_append_right _ mem), congrArg Leg.state shed, congrArg Leg.shedCause shed⟩
    · exact .inl ((legs n).trans (if_neg mem))

theorem shedExpiry_of_none (none_ : (d.ring.seg[h]).shedSince = none) : shedExpiry h d = d := by
  unfold shedExpiry
  rw [none_]

theorem exec_shedDwellExpiry (h : Fin 12) (s : State) : exec (.shedDwellExpiry h) s
    = done s (if s.dev.ring.group[h] = h then shedExpiry h s.dev else s.dev) := rfl

theorem shedDwellExpiry_holds : Claims.shedDwellExpiry := by
  intro h s
  refine ⟨fun t head since => ?_, fun rests => rests_of_done ?_⟩
  · have work := exec_shedDwellExpiry h s
    rw [if_pos head] at work
    obtain ⟨now, ended, count, legs⟩ := shedExpiry_spec since
    exact gives_of_done work (by rw [now]; exact le_max_left ..) ⟨ended, by rw [now]; exact le_max_right .., count, legs⟩
  · rw [exec_shedDwellExpiry]
    obtain other | none_ := rests
    · rw [if_neg other]
    · rw [shedExpiry_of_none none_, ite_self]

end Sys2Proof.Machine
end

section
/-! The claim on the end of an averaging window (R88). -/
namespace Sys2Proof.Machine
variable {d : Dev} {w : Fin 3} {n m : Fin 96} {k j : Fin 24} {s : State}

/-! Averages stored. -/

theorem within_storeAvg (idx sub : Nat) (a : Option Int) : Within [] [key idx sub / 65536] d (storeAvg idx sub a d) := by
  cases a with
  | some x => exact within_setNum ..
  | none => exact .rfl

@[simp] theorem num_storeAvg_same (idx sub : Nat) (x : Int) : num (storeAvg idx sub (some x) d) idx sub = x := num_setNum_same ..

theorem num_storeAvg_other {idx sub x y : Nat} (a : Option Int) (h : key x y ≠ key idx sub) : num (storeAvg idx sub a d) x y = num d x y := by
  cases a with
  | some v => exact num_setNum_other _ _ _ _ _ _ h
  | none => rfl

/-- A closed window begins again, and gives the rounded mean where a value came. -/
theorem close_begun (a : Avg) (w : Fin 3) (per : Nat) : (a.close w per).2.n[w] = 0 ∧ (a.close w per).2.sum[w] = 0 := by
  simp [Avg.close]

theorem close_mean {a : Avg} {per : Nat} (some_ : a.n[w] ≠ 0) : (a.close w per).1 = some (divRound a.sum[w] (a.n[w] * per)) := if_neg some_

/-! The windows of a leg and of a brick. -/

/-- The window of a leg closed. -/
def closeLeg (w : Fin 3) (d : Dev) (n : Fin 96) : Dev :=
  let l := d.leg[n]
  storeAvg (legTele n) (0x10 + w.val) (l.avgI.close w 1).1 (storeAvg (legTele n) (0x13 + w.val) (l.avgP.close w 2000).1
    (storeAvg (legTele n) (0x16 + w.val) (l.avgT.close w 1).1
      (onLeg n (fun x => { x with avgI := (l.avgI.close w 1).2, avgP := (l.avgP.close w 2000).2, avgT := (l.avgT.close w 1).2 }) d)))

/-- The window of a brick closed. -/
def closeBrick (w : Fin 3) (d : Dev) (k : Fin 24) : Dev :=
  let b := d.brick[k]
  storeAvg (brickIdx k) (0x20 + w.val) (b.power.close w 1000).1 (storeAvg (brickIdx k) (0x23 + w.val) (b.voltage.close w 1).1
    (onBrick k (fun x => { x with power := (b.power.close w 1000).2, voltage := (b.voltage.close w 1).2 }) d))

theorem telemetryEnd_eq (w : Fin 3) (d : Dev) : telemetryEnd w d
    = (all 24).foldl (closeBrick w) ((all 96).foldl (closeLeg w) (tick ⟨w.val, by omega⟩ (windowLength w) d)) := rfl

theorem within_closeLeg (w : Fin 3) (n : Fin 96) : Within [.leg] [0x21] d (closeLeg w d n) := by
  have store (e : Dev) {sub : Nat} (a : Option Int) (h : sub < 256) : Within [.leg] [0x21] e (storeAvg (legTele n) sub a e) :=
    (within_storeAvg ..).mono (by simp) (by simp [legTele_group n h])
  exact ((((within_onLeg ..).mono (by simp) (by simp)).trans (store _ _ (by omega))).trans (store _ _ (by omega))).trans (store _ _ (by omega))

theorem within_closeBrick (w : Fin 3) (k : Fin 24) : Within [.brick] [0x22] d (closeBrick w d k) := by
  have store (e : Dev) {sub : Nat} (a : Option Int) (h : sub < 256) : Within [.brick] [0x22] e (storeAvg (brickIdx k) sub a e) :=
    (within_storeAvg ..).mono (by simp) (by simp [brickIdx_group k h])
  exact (((within_onBrick ..).mono (by simp) (by simp)).trans (store _ _ (by omega))).trans (store _ _ (by omega))

theorem storeAvg_leg (idx sub : Nat) (a : Option Int) : (storeAvg idx sub a d).leg = d.leg := (within_storeAvg ..).leg_eq
theorem storeAvg_brick (idx sub : Nat) (a : Option Int) : (storeAvg idx sub a d).brick = d.brick := (within_storeAvg ..).brick_eq

theorem closeLeg_leg : (closeLeg w d n).leg = upd d.leg n (fun l => { l with
    avgI := ((d.leg[n]).avgI.close w 1).2, avgP := ((d.leg[n]).avgP.close w 2000).2, avgT := ((d.leg[n]).avgT.close w 1).2 }) := by
  simp only [closeLeg, storeAvg_leg, onLeg_leg]

theorem closeBrick_brick : (closeBrick w d k).brick = upd d.brick k (fun b => { b with
    power := ((d.brick[k]).power.close w 1000).2, voltage := ((d.brick[k]).voltage.close w 1).2 }) := by
  simp only [closeBrick, storeAvg_brick, onBrick_brick]

/-- The entries of one leg are no other's. -/
theorem num_closeLeg_other {sub : Nat} (small : sub < 256) (other : m ≠ n) :
    num (closeLeg w d n) (legTele m) sub = num d (legTele m) sub := by
  have apart {s : Nat} (h : s < 256) : key (legTele m) sub ≠ key (legTele n) s := by
    have := Fin.val_ne_of_ne other
    unfold key legTele
    omega
  simp only [closeLeg]
  rw [num_storeAvg_other _ (apart (by omega)), num_storeAvg_other _ (apart (by omega)), num_storeAvg_other _ (apart (by omega))]
  rfl

theorem num_closeBrick_other {sub : Nat} (small : sub < 256) (other : j ≠ k) :
    num (closeBrick w d k) (brickIdx j) sub = num d (brickIdx j) sub := by
  have apart {s : Nat} (h : s < 256) : key (brickIdx j) sub ≠ key (brickIdx k) s := by
    have := Fin.val_ne_of_ne other
    unfold key brickIdx
    omega
  simp only [closeBrick]
  rw [num_storeAvg_other _ (apart (by omega)), num_storeAvg_other _ (apart (by omega))]
  rfl

/-- What the end of a window leaves of a leg with that record. -/
def legClosed (w : Fin 3) (l : Leg) (n : Fin 96) (e : Dev) : Prop :=
  (e.leg[n]).avgI.n[w] = 0 ∧ (e.leg[n]).avgI.sum[w] = 0
    ∧ (l.avgI.n[w] ≠ 0 → num e (legTele n) (0x10 + w.val) = divRound l.avgI.sum[w] l.avgI.n[w])
    ∧ (l.avgP.n[w] ≠ 0 → num e (legTele n) (0x13 + w.val) = divRound l.avgP.sum[w] (l.avgP.n[w] * 2000))

/-- What the end of a window leaves of a brick with that record. -/
def brickClosed (w : Fin 3) (b : Brick) (k : Fin 24) (e : Dev) : Prop :=
  (e.brick[k]).power.n[w] = 0
    ∧ (b.power.n[w] ≠ 0 → num e (brickIdx k) (0x20 + w.val) = divRound b.power.sum[w] (b.power.n[w] * 1000))

theorem legClosed_closeLeg : legClosed w d.leg[n] n (closeLeg w d n) := by
  rw [legClosed, closeLeg_leg, upd_get_same]
  obtain ⟨count, sum⟩ := close_begun (d.leg[n]).avgI w 1
  refine ⟨count, sum, fun some_ => ?_, fun some_ => ?_⟩
  · rw [closeLeg, close_mean some_, num_storeAvg_same, mul_one]
  · rw [closeLeg, num_storeAvg_other _ (by unfold key; omega), close_mean some_, num_storeAvg_same]

theorem brickClosed_closeBrick : brickClosed w d.brick[k] k (closeBrick w d k) := by
  rw [brickClosed, closeBrick_brick, upd_get_same]
  refine ⟨(close_begun (d.brick[k]).power w 1000).1, fun some_ => ?_⟩
  rw [closeBrick, close_mean some_, num_storeAvg_same]

/-- Every leg's window is closed, each by its own record. -/
theorem legClosed_foldl (w : Fin 3) (n : Fin 96) (d : Dev) : legClosed w d.leg[n] n ((all 96).foldl (closeLeg w) d) := by
  refine foldl_each (before := fun m e => e.leg[m] = d.leg[m]) (after := fun m e => legClosed w d.leg[m] m e) (nodup_all 96) ?_ ?_ ?_
    (mem_all n) rfl
  · intro e m same_
    exact same_ ▸ legClosed_closeLeg
  · intro e a b other same_
    rwa [closeLeg_leg, upd_get_other _ _ _ _ other]
  · intro e a b other closed
    rwa [legClosed, closeLeg_leg, upd_get_other _ _ _ _ other, num_closeLeg_other (by omega) other, num_closeLeg_other (by omega) other]

theorem brickClosed_foldl (w : Fin 3) (k : Fin 24) (d : Dev) : brickClosed w d.brick[k] k ((all 24).foldl (closeBrick w) d) := by
  refine foldl_each (before := fun j e => e.brick[j] = d.brick[j]) (after := fun j e => brickClosed w d.brick[j] j e) (nodup_all 24) ?_ ?_ ?_
    (mem_all k) rfl
  · intro e j same_
    exact same_ ▸ brickClosed_closeBrick
  · intro e a b other same_
    rwa [closeBrick_brick, upd_get_other _ _ _ _ other]
  · intro e a b other closed
    rwa [brickClosed, closeBrick_brick, upd_get_other _ _ _ _ other, num_closeBrick_other (by omega) other]

theorem telemetryEnd_now (w : Fin 3) (d : Dev) : (telemetryEnd w d).time.now = dueAt (d.time.ticked[w.val]'(by omega)) (windowLength w) d := by
  have legs (e : Dev) (n : Fin 96) : (closeLeg w e n).time = e.time := by simp only [closeLeg, storeAvg_time, onLeg_time]
  have bricks (e : Dev) (k : Fin 24) : (closeBrick w e k).time = e.time := by simp only [closeBrick, storeAvg_time, onBrick_time]
  rw [telemetryEnd_eq, foldl_keeps Dev.time bricks, foldl_keeps Dev.time legs]
  exact max_eq_right le_dueAt

/-- The legs' windows closed, where the bricks' still stand. -/
def legsClosed (w : Fin 3) (d : Dev) : Dev := (all 96).foldl (closeLeg w) (tick ⟨w.val, by omega⟩ (windowLength w) d)

theorem within_legsClosed (w : Fin 3) (d : Dev) :
    Within [.leg] [0x21] (tick ⟨w.val, by omega⟩ (windowLength w) d) (legsClosed w d) :=
  within_foldl fun _ _ => within_closeLeg ..

theorem within_bricksClosed (w : Fin 3) (d : Dev) : Within [.brick] [0x22] (legsClosed w d) (telemetryEnd w d) :=
  within_foldl fun _ _ => within_closeBrick ..

/-- The windows of the bricks are none of the legs'. -/
theorem legClosed.within {l : Leg} {e e' : Dev} (closed : legClosed w l n e) (change : Within [.brick] [0x22] e e') :
    legClosed w l n e' := by
  have shown {sub : Nat} (small : sub < 256) : num e' (legTele n) sub = num e (legTele n) sub :=
    change.num_eq (by simp [legTele_group n small])
  have record : e'.leg = e.leg := change.leg_eq
  rw [legClosed, record, shown (by omega), shown (by omega)]
  exact closed

theorem legClosed_telemetryEnd (w : Fin 3) (n : Fin 96) (d : Dev) : legClosed w d.leg[n] n (telemetryEnd w d) :=
  (legClosed_foldl w n (tick ⟨w.val, by omega⟩ (windowLength w) d)).within (within_bricksClosed w d)

theorem brickClosed_telemetryEnd (w : Fin 3) (k : Fin 24) (d : Dev) : brickClosed w d.brick[k] k (telemetryEnd w d) := by
  have record : (legsClosed w d).brick = d.brick := (within_legsClosed w d).brick_eq
  have closed : brickClosed w (legsClosed w d).brick[k] k (telemetryEnd w d) := brickClosed_foldl w k (legsClosed w d)
  rwa [record] at closed

theorem telemetryWindowEnd_holds : Claims.telemetryWindowEnd := by
  intro w s
  have work : exec (.telemetryWindowEnd w) s = done s (telemetryEnd w s.dev) := rfl
  have now := telemetryEnd_now w s.dev
  have legs (n : Fin 96) := legClosed_telemetryEnd w n s.dev
  have bricks (k : Fin 24) := brickClosed_telemetryEnd w k s.dev
  -- the device at the end is opaque from here, so that no comparison unfolds its two runs over legs and bricks
  generalize telemetryEnd w s.dev = e at work now legs bricks
  exact gives_of_done work (now ▸ le_dueAt) ⟨now, legs, bricks⟩

end Sys2Proof.Machine
end

section
/-! Writes to the entries of legs and bricks, from their checks to what they leave (R470, R498). -/
namespace Sys2Proof.Machine
variable {d : Dev} {w : WriteCall} {r : Row}

/-- The entries of legs and bricks are the loop island's. -/
theorem fieldHeld_power {idx sub : Nat} (low : 0x2000 ≤ idx) (high : idx < 0x2300) : fieldHeld idx sub = true := by
  obtain h | h | h : idx / 256 = 0x20 ∨ idx / 256 = 0x21 ∨ idx / 256 = 0x22 := by omega
  all_goals simp [fieldHeld, islandOf, h]

theorem handlerOf_power {idx sub : Nat} (low : 0x2000 ≤ idx) (high : idx < 0x2300) : handlerOf idx sub = handlerPower idx sub := by
  rw [handlerOf, if_neg (by omega), if_pos (by omega)]

/-- No check of an entry's chapter fails at a write that passes check 7. -/
theorem checks_of_passes (passes : subjectChecks w r d = []) : (handlerOf w.idx w.sub).checks w d = [] := by
  rw [subjectChecks, List.append_eq_nil_iff, List.append_eq_nil_iff] at passes
  exact passes.1.2

/-- A command entry shows its command done, and is in no store. -/
theorem accept_of_cmd (cmd : r.acc = .cmd) (keep : r.keep = .v) :
    accept w r d = (handlerOf w.idx w.sub).act w (setNum w.idx w.sub 2 d) := by
  rw [accept, markUnsaved, if_neg (by simp [keep]), if_pos cmd]

theorem accept_of_ne_cmd (value : r.acc ≠ .cmd) : accept w r d = markUnsaved w.idx w.sub r ((handlerOf w.idx w.sub).act w d) := by
  rw [accept, if_neg value]

theorem within_markStore (st : Fin 2) : Within [.sys] [] d (markStore st d) :=
  ⟨fun p out => by cases p <;> simp_all [same, markStore], fun _ _ => rfl⟩

theorem within_markUnsaved (idx sub : Nat) : Within [.sys] [] d (markUnsaved idx sub r d) := by
  unfold markUnsaved
  split
  · split
    · exact within_markStore _
    · exact .rfl
  · exact .rfl

/-! The object that an index names. -/

theorem legOfIdx_add (base : Nat) (n : Fin 96) : legOfIdx (base + n.val) base = n :=
  Fin.ext (by simp only [legOfIdx, objAt]; omega)

theorem brickOfIdx_add (k : Fin 24) : brickOfIdx (0x2200 + k.val) = k :=
  Fin.ext (by simp only [brickOfIdx, objAt]; omega)

end Sys2Proof.Machine
end

section
/-! The claims on the writes to a leg: its fault reset and its enabling (R90). -/
namespace Sys2Proof.Machine
variable {d : Dev} {w : WriteCall} {r : Row} {n : Fin 96}

theorem legReset_row : ∀ n : Fin 96, rowOf (0x2000 + n.val) 0x07 = some (row 0x2000 1 96 0x07 0x07 .u8 .cmd .v (.k 0) (.oneOf [1])) := by
  decide

theorem legEnable_row : ∀ n : Fin 96, rowOf (0x2000 + n.val) 0x01 = some (row 0x2000 1 96 0x01 0x01 .bool .rw .p (.k 1) .any) := by
  decide

theorem handlerOf_legReset (n : Fin 96) : handlerOf (0x2000 + n.val) 0x07 = legResetHandler :=
  (handlerOf_power (by omega) (by omega)).trans (if_pos (by omega))

theorem handlerOf_legEnable (n : Fin 96) : handlerOf (0x2000 + n.val) 0x01 = legEnableHandler :=
  (handlerOf_power (by omega) (by omega)).trans (if_pos (by omega))

/-- The record of a leg after a fault reset. -/
def Leg.faultReset (l : Leg) : Leg :=
  if l.state ≠ .fault then l
  else if latchedFlags l then { l with resetBit := true }
  else { l with state := .standby, cause := 0, resetBit := true }

theorem Leg.faultReset_of_ne {l : Leg} (h : l.state ≠ .fault) : l.faultReset = l := if_pos h

theorem Leg.faultReset_resetBit {l : Leg} (h : l.state = .fault) : l.faultReset.resetBit = true := by
  rw [faultReset, if_neg (not_not.2 h)]
  split <;> rfl

theorem Leg.faultReset_clear {l : Leg} (h : l.state = .fault) (clear : latchedFlags l = false) :
    l.faultReset.state = .standby ∧ l.faultReset.cause = 0 := by
  rw [faultReset, if_neg (not_not.2 h), clear]
  exact ⟨rfl, rfl⟩

theorem accept_legReset (idx : w.idx = 0x2000 + n.val) (sub : w.sub = 0x07) (row : rowOf (0x2000 + n.val) 0x07 = some r) :
    accept w r d = onLeg n Leg.faultReset (setNum (0x2000 + n.val) 0x07 2 d) := by
  obtain rfl := Option.some.inj ((legReset_row n).symm.trans row)
  rw [accept_of_cmd rfl rfl, idx, sub, handlerOf_legReset]
  simp only [legResetHandler, idx, legOfIdx_add]
  rfl

/-- A reset that passes its check is of a leg with no cause present. -/
theorem legReset_passes (passes : legResetHandler.checks w d = []) (named : legOfIdx w.idx 0x2000 = n) : causesPresent n d = 0 := by
  subst named
  exact bne_eq_false_iff_eq.1 (failing_eq_nil.1 passes)

theorem legFaultReset_holds : Claims.legFaultReset := by
  intro a n s
  refine takes_at_port rfl (fieldHeld_power (by omega) (by omega)) rfl fun w r idx sub row passes => ?_
  have checks := checks_of_passes passes
  rw [idx, sub, handlerOf_legReset] at checks
  have clear := legReset_passes checks (by rw [idx, legOfIdx_add])
  rw [accept_legReset idx sub row]
  have reset : Within [.leg] [] (setNum (0x2000 + n.val) 0x07 2 s.dev) (onLeg n Leg.faultReset _) := within_onLeg ..
  refine ⟨((within_setNum ..).mono (by simp) ?_).trans (reset.mono (by simp) (by simp)), fun b => ⟨clear, ?_, ?_⟩⟩
  · rw [key_group (by omega), show (0x2000 + n.val) / 256 = 0x20 by omega]
    simp
  · exact (reset.num_eq (by simp)).trans (num_setNum_same ..)
  · have own : ((onLeg n Leg.faultReset (setNum (0x2000 + n.val) 0x07 2 s.dev)).leg)[n] = (s.dev.leg[n]).faultReset := upd_get_same ..
    have others (m : Fin 96) (other : m ≠ n) :
        ((onLeg n Leg.faultReset (setNum (0x2000 + n.val) 0x07 2 s.dev)).leg)[m] = s.dev.leg[m] := upd_get_other _ _ _ _ other
    dsimp only
    rw [own]
    exact ⟨Leg.faultReset_resetBit, Leg.faultReset_clear, Leg.faultReset_of_ne, others⟩

theorem accept_legEnable (idx : w.idx = 0x2000 + n.val) (sub : w.sub = 0x01) (row : rowOf (0x2000 + n.val) 0x01 = some r) :
    accept w r d = markUnsaved (0x2000 + n.val) 0x01 r (setVal (key (0x2000 + n.val) 0x01) w.val d) := by
  obtain rfl := Option.some.inj ((legEnable_row n).symm.trans row)
  rw [accept_of_ne_cmd (by decide), idx, sub, handlerOf_legEnable]
  simp only [legEnableHandler, plainAct, WriteCall.key, idx, sub]

/-- A leg that is enabled or disabled does not brake. -/
theorem legEnable_passes (passes : legEnableHandler.checks w d = []) (named : legOfIdx w.idx 0x2000 = n) :
    (d.leg[n]).state ≠ .braking := by
  subst named
  exact ne_of_beq_false (failing_eq_nil.1 passes)

theorem legEnableWrite_holds : Claims.legEnableWrite := by
  intro a n s
  refine takes_at_port rfl (fieldHeld_power (by omega) (by omega)) rfl fun w r idx sub row passes => ?_
  have checks := checks_of_passes passes
  rw [idx, sub, handlerOf_legEnable] at checks
  have running := legEnable_passes checks (by rw [idx, legOfIdx_add])
  rw [accept_legEnable idx sub row]
  have marked := within_markUnsaved (d := setVal (key (0x2000 + n.val) 0x01) w.val s.dev) (r := r) (0x2000 + n.val) 0x01
  refine ⟨((within_setVal ..).mono (by simp) ?_).trans (marked.mono (by decide) (by simp)), fun b => ⟨running, ?_⟩⟩
  · rw [key_group (by omega), show (0x2000 + n.val) / 256 = 0x20 by omega]
    simp
  · exact (marked.2 _ (by simp)).trans (getVal_setVal_same ..)

end Sys2Proof.Machine
end

section
/-! The claim on the capture of peaks (R89). -/
namespace Sys2Proof.Machine
variable {d : Dev} {w : WriteCall} {r : Row} {n : Fin 96} {k : Fin 24}

/-- A pair of peaks and a single one stored in an object's entries, from the sub-index of the first on; what has no peak stays. -/
def storePeaks (idx first : Nat) (pair : Option (Int × Int)) (one : Option Int) (d : Dev) : Dev :=
  storeAvg idx (first + 2) one (storeAvg idx first (pair.map Prod.fst) (storeAvg idx (first + 1) (pair.map Prod.snd) d))

theorem within_storePeaks {idx first : Nat} (pair : Option (Int × Int)) (one : Option Int) (small : first + 2 < 256) :
    Within [] [idx / 256] d (storePeaks idx first pair one d) := by
  have store (e : Dev) {sub : Nat} (x : Option Int) (h : sub < 256) : Within [] [idx / 256] e (storeAvg idx sub x e) :=
    key_group (idx := idx) h ▸ within_storeAvg ..
  exact ((store _ _ (by omega)).trans (store _ _ (by omega))).trans (store _ _ small)

/-- A command entry shows its command done, and its object's entries the peaks. -/
theorem within_captured {idx sub first group : Nat} (pair : Option (Int × Int)) (one : Option Int) (own : idx / 256 = group)
    (cmd : sub < 256) (small : first + 2 < 256) : Within [] [group] d (storePeaks idx first pair one (setNum idx sub 2 d)) := by
  subst own
  have shown : Within [] [idx / 256] d (setNum idx sub 2 d) := key_group (idx := idx) cmd ▸ within_setNum ..
  exact shown.trans (within_storePeaks _ _ small)

theorem num_storePeaks_pair (idx first : Nat) (x y : Int) (one : Option Int) :
    num (storePeaks idx first (some (x, y)) one d) idx first = x ∧ num (storePeaks idx first (some (x, y)) one d) idx (first + 1) = y := by
  have apart {i j : Nat} (h : i ≠ j) : key idx i ≠ key idx j := by
    unfold key
    omega
  constructor
  · rw [storePeaks, num_storeAvg_other _ (apart (by omega)), Option.map_some, num_storeAvg_same]
  · rw [storePeaks, num_storeAvg_other _ (apart (by omega)), num_storeAvg_other _ (apart (by omega)), Option.map_some, num_storeAvg_same]

theorem num_storePeaks_one (idx first : Nat) (pair : Option (Int × Int)) (t : Int) :
    num (storePeaks idx first pair (some t) d) idx (first + 2) = t := num_storeAvg_same ..

/-- The record of a leg begun anew. -/
def Leg.unpeaked (l : Leg) : Leg := { l with peakI := none, peakT := none }
/-- The record of a brick begun anew. -/
def Brick.unpeaked (b : Brick) : Brick := { b with peakI := none, peakVdc := none }

theorem captureLeg_eq : captureLeg n d = onLeg n Leg.unpeaked (storePeaks (legTele n) 0x21 (d.leg[n]).peakI (d.leg[n]).peakT d) := by
  rcases pair : (d.leg[n]).peakI with _ | ⟨x, y⟩ <;> cases one : (d.leg[n]).peakT <;> simp only [captureLeg, pair, one] <;> rfl

theorem captureBrick_eq : captureBrick k d
    = onBrick k Brick.unpeaked (storePeaks (brickIdx k) 0x27 (d.brick[k]).peakI ((d.brick[k]).peakVdc.map Nat.cast) d) := by
  rcases pair : (d.brick[k]).peakI with _ | ⟨x, y⟩ <;> cases one : (d.brick[k]).peakVdc <;> simp only [captureBrick, pair, one] <;> rfl

theorem legCapture_row : ∀ n : Fin 96, rowOf (0x2100 + n.val) 0x20 = some (row 0x2100 1 96 0x20 0x20 .u8 .cmd .v (.k 0) (.oneOf [1])) := by
  decide

theorem brickCapture_row :
    ∀ k : Fin 24, rowOf (0x2200 + k.val) 0x26 = some (row 0x2200 1 24 0x26 0x26 .u8 .cmd .v (.k 0) (.oneOf [1])) := by
  decide

theorem handlerOf_legCapture (n : Fin 96) : handlerOf (0x2100 + n.val) 0x20 = legCaptureHandler :=
  (handlerOf_power (by omega) (by omega)).trans ((if_neg (by omega)).trans (if_pos (by omega)))

theorem handlerOf_brickCapture (k : Fin 24) : handlerOf (0x2200 + k.val) 0x26 = brickCaptureHandler :=
  (handlerOf_power (by omega) (by omega)).trans ((if_neg (by omega)).trans ((if_neg (by omega)).trans (if_pos (by omega))))

theorem accept_legCapture (idx : w.idx = 0x2100 + n.val) (sub : w.sub = 0x20) (row : rowOf (0x2100 + n.val) 0x20 = some r) :
    accept w r d = onLeg n Leg.unpeaked
      (storePeaks (legTele n) 0x21 (d.leg[n]).peakI (d.leg[n]).peakT (setNum (legTele n) 0x20 2 d)) := by
  obtain rfl := Option.some.inj ((legCapture_row n).symm.trans row)
  rw [accept_of_cmd rfl rfl, idx, sub, handlerOf_legCapture]
  simp only [legCaptureHandler, idx, legOfIdx_add, captureLeg_eq]
  rfl

theorem accept_brickCapture (idx : w.idx = 0x2200 + k.val) (sub : w.sub = 0x26) (row : rowOf (0x2200 + k.val) 0x26 = some r) :
    accept w r d = onBrick k Brick.unpeaked
      (storePeaks (brickIdx k) 0x27 (d.brick[k]).peakI ((d.brick[k]).peakVdc.map Nat.cast) (setNum (brickIdx k) 0x26 2 d)) := by
  obtain rfl := Option.some.inj ((brickCapture_row k).symm.trans row)
  rw [accept_of_cmd rfl rfl, idx, sub, handlerOf_brickCapture]
  simp only [brickCaptureHandler, idx, brickOfIdx_add, captureBrick_eq]
  rfl

/-- What is stored of peaks is what the entries show after the record began anew. -/
theorem peaks_shown {parts : List Part} {idx first : Nat} {pair : Option (Int × Int)} {one : Option Int} {e : Dev}
    (record : Within parts [] (storePeaks idx first pair one d) e) :
    (∀ x y, pair = some (x, y) → num e idx first = x ∧ num e idx (first + 1) = y)
      ∧ ∀ t, one = some t → num e idx (first + 2) = t := by
  constructor
  · rintro x y rfl
    rw [record.num_eq (by simp), record.num_eq (by simp)]
    exact num_storePeaks_pair ..
  · rintro t rfl
    rw [record.num_eq (by simp)]
    exact num_storePeaks_one ..

theorem legCapture_holds (a : Ask) (s : State) : Claims.Takes (.peakCapture a false n.val) s [.leg] [0x21] (fun _ e =>
    (∀ x y, (s.dev.leg[n]).peakI = some (x, y) → num e (0x2100 + n.val) 0x21 = x ∧ num e (0x2100 + n.val) 0x22 = y)
      ∧ (∀ t, (s.dev.leg[n]).peakT = some t → num e (0x2100 + n.val) 0x23 = t)
      ∧ e.leg[n] = { s.dev.leg[n] with peakI := none, peakT := none }) := by
  refine takes_at_port (idx := 0x2100 + n.val) (sub := 0x20) rfl (fieldHeld_power (by omega) (by omega)) rfl
    fun w r idx sub row _ => ?_
  rw [accept_legCapture idx sub row]
  have stored := within_captured (d := s.dev) (idx := legTele n) (sub := 0x20) (first := 0x21) (s.dev.leg[n]).peakI (s.dev.leg[n]).peakT
    (show (0x2100 + n.val) / 256 = 0x21 by omega) (by omega) (by omega)
  have record : Within [.leg] [] _ _ := within_onLeg (d := storePeaks (legTele n) 0x21 (s.dev.leg[n]).peakI (s.dev.leg[n]).peakT
    (setNum (legTele n) 0x20 2 s.dev)) n Leg.unpeaked
  obtain ⟨pair, one⟩ := peaks_shown record
  refine ⟨(stored.mono (by simp) (by simp)).trans (record.mono (by simp) (by simp)), fun b => ⟨pair, one, ?_⟩⟩
  dsimp only
  rw [onLeg_leg, upd_get_same, stored.leg_eq]
  rfl

theorem brickCapture_holds (a : Ask) (s : State) : Claims.Takes (.peakCapture a true k.val) s [.brick] [0x22] (fun _ e =>
    (∀ x y, (s.dev.brick[k]).peakI = some (x, y) → num e (0x2200 + k.val) 0x27 = x ∧ num e (0x2200 + k.val) 0x28 = y)
      ∧ (∀ v, (s.dev.brick[k]).peakVdc = some v → num e (0x2200 + k.val) 0x29 = v)
      ∧ e.brick[k] = { s.dev.brick[k] with peakI := none, peakVdc := none }) := by
  refine takes_at_port (idx := 0x2200 + k.val) (sub := 0x26) rfl (fieldHeld_power (by omega) (by omega)) rfl
    fun w r idx sub row _ => ?_
  rw [accept_brickCapture idx sub row]
  have stored := within_captured (d := s.dev) (idx := brickIdx k) (sub := 0x26) (first := 0x27) (s.dev.brick[k]).peakI
    ((s.dev.brick[k]).peakVdc.map Nat.cast) (show (0x2200 + k.val) / 256 = 0x22 by omega) (by omega) (by omega)
  have record : Within [.brick] [] _ _ := within_onBrick (d := storePeaks (brickIdx k) 0x27 (s.dev.brick[k]).peakI
    ((s.dev.brick[k]).peakVdc.map Nat.cast) (setNum (brickIdx k) 0x26 2 s.dev)) k Brick.unpeaked
  obtain ⟨pair, one⟩ := peaks_shown record
  refine ⟨(stored.mono (by simp) (by simp)).trans (record.mono (by simp) (by simp)),
    fun b => ⟨pair, fun v some_ => one v (by rw [some_]; rfl), ?_⟩⟩
  dsimp only
  rw [onBrick_brick, upd_get_same, stored.brick_eq]
  rfl

theorem peakCapture_holds : Claims.peakCapture := fun a s => ⟨fun _ => legCapture_holds a s, fun _ => brickCapture_holds a s⟩

/-- Settles O33: each command by the equation of its work, each write by the checks and the handler of its entry. -/
theorem legCommands : Obligations.LegCommands :=
  ⟨legLostRecovery_holds, syncInEdge_holds, syncLoss_holds, diodeEmulationEntry_holds, shedDwellExpiry_holds, brakingWindowEnd_holds,
    senseImplausible_holds, telemetryWindowEnd_holds, legFaultReset_holds, legEnableWrite_holds, peakCapture_holds⟩

end Sys2Proof.Machine
end

section
/-! What the operations on rails leave: the rails' records, the legs' states, and the parts that they do not touch (R99 to R111). -/
namespace Sys2Proof.Machine
variable {d e : Dev} {parts : List Part} {groups : List Nat} {i j l : Fin 12} {n m : Fin 96}

theorem Within.ring_eq (h : Within parts groups d e) (out : Part.ring ∉ parts) : e.ring = d.ring := h.1 .ring out
theorem Within.rail_eq (h : Within parts groups d e) (out : Part.rail ∉ parts) : e.rail = d.rail := h.1 .rail out

/-! Rails and legs changed. -/

@[simp] theorem onRail_rail_same {f : Rail → Rail} : (onRail j f d).rail[j] = f d.rail[j] := upd_get_same ..

theorem onRail_rail_other {f : Rail → Rail} (h : i ≠ j) : (onRail j f d).rail[i] = d.rail[i] := upd_get_other _ _ _ _ h

/-- A fact about a rail stands where a change of a rail keeps it. -/
theorem onRail_keeps {β : Type} (g : Rail → β) {f : Rail → Rail} (h : ∀ r, g (f r) = g r) : g ((onRail j f d).rail[i]) = g d.rail[i] :=
  upd_get_keeps g h

theorem within_onRail (j : Fin 12) (f : Rail → Rail) : Within [.rail] [] d (onRail j f d) :=
  ⟨fun p out => by cases p <;> simp_all [same], fun _ _ => rfl⟩

theorem within_ratio (x : Vector (Option Ratio) 12) : Within [.ratio] [] d { d with ratio := x } :=
  ⟨fun p out => by cases p <;> simp_all [same], fun _ _ => rfl⟩

theorem within_latchPar (j : Fin 12) : Within [.rail] [] d (latchPar j d) := within_onRail ..

theorem within_genTarget (g : Fin 28) (t : Int) : Within [.eng] [] d (genTarget g t d) := within_eng _

theorem within_legToService (n : Fin 96) : Within [.leg, .eng] [] d (legToService n d) :=
  ((within_onLeg ..).mono (by simp) (by simp)).trans ((within_eng _).mono (by simp) (by simp))

theorem within_startLegs (h : Fin 12) : Within [.leg, .eng] [] d (startLegs h d) :=
  within_foldl fun _ _ => .ite (within_legToService _) .rfl

theorem within_restLegs (h : Fin 12) : Within [.leg] [] d (restLegs h d) :=
  within_foldl fun _ _ => .ite (within_onLeg ..) .rfl

theorem within_takeGoverning (mask : Vector Bool 12) (j : Fin 12) : Within [.rail] [] d (takeGoverning mask j d) :=
  .ite .rfl (within_foldl fun _ _ => within_onRail ..)

/-- The legs of a group go by the groups that the ties part the ring into. -/
theorem segLegs_of_ring (h : Fin 12) (ring : e.ring = d.ring) : segLegs h e = segLegs h d := by
  rw [segLegs, segLegs, members, members, ring]

/-- A leg is sent to rest (R111). -/
def restLeg (n : Fin 96) (d : Dev) : Dev :=
  if inService d.leg[n] || (d.leg[n]).state == .shed || (d.leg[n]).state == .braking
  then onLeg n (fun l => { l with state := .standby, shedCause := .none }) d else d

theorem restLegs_eq (h : Fin 12) : restLegs h d = (segLegs h d).foldl (fun d n => restLeg n d) d := rfl

theorem restLeg_same : inService (restLeg n d).leg[n] = false := by
  unfold restLeg
  split
  · rw [onLeg_leg_same]
    rfl
  · rename_i out
    simp only [Bool.or_eq_true, not_or, Bool.not_eq_true] at out
    exact out.1.1

theorem restLeg_other (h : m ≠ n) : (restLeg n d).leg[m] = d.leg[m] := by
  unfold restLeg
  split
  · exact upd_get_other _ _ _ _ h
  · rfl

/-- No leg of a segment is in service once its legs have been sent to rest. -/
theorem restLegs_leg {h : Fin 12} (mem : n ∈ segLegs h d) : inService (restLegs h d).leg[n] = false := by
  rw [restLegs_eq]
  refine foldl_each (before := fun _ _ => True) (after := fun n e => inService e.leg[n] = false) (segLegs_nodup h d)
    (fun _ _ _ => restLeg_same) (fun _ _ _ _ _ => trivial) (fun _ _ _ other rests => ?_) mem trivial
  rwa [restLeg_other other]

/-- A run over different rails changes the record of each by itself. -/
theorem foldl_onRail (f : Timebase → Fin 12 → Rail → Rail) {rails : List (Fin 12)} (different : rails.Nodup) :
    (rails.foldl (fun d j => onRail j (f d.time j) d) d).rail[i] = if i ∈ rails then f d.time i d.rail[i] else d.rail[i] := by
  induction rails generalizing d with
  | nil => simp
  | cons a rails ih =>
    obtain ⟨new, rest⟩ := List.nodup_cons.1 different
    rw [List.foldl_cons, ih rest, onRail_time]
    by_cases own : i = a
    · rw [own, if_neg new, if_pos List.mem_cons_self, onRail_rail_same]
    · rw [onRail_rail_other own]
      simp only [List.mem_cons, own, false_or]

/-! The members of an episode. -/

section
variable {mask : Vector Bool 12}

theorem mem_maskRails : i ∈ maskRails mask ↔ mask[i] = true := by simp [maskRails, mem_all]

theorem nodup_maskRails (mask : Vector Bool 12) : (maskRails mask).Nodup := (nodup_all 12).filter _

/-- A rail's record but for which rail governs its segment. -/
def Rail.besideGoverning (r : Rail) : Rail := { r with governing := 0 }

theorem Rail.eq_of_besideGoverning {r q : Rail} (h : q.besideGoverning = r.besideGoverning) : q = { r with governing := q.governing } :=
  congrArg (fun x : Rail => { x with governing := q.governing }) h

/-- A fact about a rail stands where a rail comes to govern its segment, unless it is about that. -/
theorem takeGoverning_keeps {β : Type} (g : Rail → β) (gov : ∀ (r : Rail) k, g { r with governing := k } = g r) :
    g ((takeGoverning mask j d).rail[i]) = g d.rail[i] := by
  unfold takeGoverning
  split
  · rfl
  · exact foldl_keeps (fun e : Dev => g e.rail[i]) fun _ _ => onRail_keeps g fun _ => gov ..

/-- The members take their tracking parameters, and a free one may come to govern its segment. -/
def ratioTaken (mask : Vector Bool 12) (d : Dev) : Dev :=
  (maskRails mask).foldl (fun d j => latchPar j (if (d.rail[j]).state = .free then takeGoverning mask j d else d)) d

/-- The members of a stop are those with legs; another episode has every rail of its mask. -/
def ratioMembers (mask : Vector Bool 12) (stop : Bool) (d : Dev) : Vector Bool 12 := tab (fun j => mask[j] && !(stop && !hasLegs j d))

/-- The legs of the members are put into service. -/
def ratioLegs (members : Vector Bool 12) (d : Dev) : Dev := (maskRails members).foldl (fun d j => startLegs (segOf j d) d) d

/-- A rail's record as a rail of an episode that begins, or is re-targeted. -/
def Rail.joining (leader : Fin 12) (stop again passive : Bool) (v : Int) (now : Nat) (r : Rail) : Rail := { r with
  state := if stop then .draining else if r.state = .free then .precharging else r.state,
  episode := if stop then .stop else .ratiometric, leader := if passive then none else some leader,
  s := v, epStart := (bif again then r.epStart else now), paused := false, currentMode := false, command := none,
  passive := passive, drained := if stop && !again then 0 else r.drained, stopWaits := false }

/-- The beginning of a ratiometric episode by its stages. -/
theorem beginRatio_eq (leader : Fin 12) (mask : Vector Bool 12) (vEnd : Int) (rate : Nat) (stop : Bool) (d : Dev) :
    ∃ (again : Bool) (v0 : Vector Int 12) (settle : Nat),
      let taken := ratioTaken mask d
      let members := ratioMembers mask stop taken
      let joined := (maskRails mask).foldl (fun d j => onRail j
        (Rail.joining leader stop again (stop && !hasLegs j taken) v0[j] d.time.now) d) (ratioLegs members taken)
      beginRatio leader mask vEnd rate stop d = { joined with ratio := upd joined.ratio leader (fun _ =>
        if maskRails members = [] then none else some ⟨members, vEnd, rate, 0, v0, settle, 0, stop⟩) } :=
  ⟨_, _, _, rfl⟩

theorem within_ratioTaken (mask : Vector Bool 12) : Within [.rail] [] d (ratioTaken mask d) :=
  within_foldl fun _ _ => Within.trans (.ite (within_takeGoverning ..) .rfl) (within_latchPar _)

theorem within_ratioLegs (mask : Vector Bool 12) : Within [.leg, .eng] [] d (ratioLegs mask d) :=
  within_foldl fun _ _ => within_startLegs _

/-- A fact about a rail stands where members take their parameters, unless it is about these or about who governs. -/
theorem ratioTaken_keeps {β : Type} (g : Rail → β) (gov : ∀ (r : Rail) k, g { r with governing := k } = g r)
    (par : ∀ (r : Rail) p, g { r with par := p } = g r) : g ((ratioTaken mask d).rail[i]) = g d.rail[i] := by
  refine foldl_keeps (fun e : Dev => g e.rail[i]) fun e j => (onRail_keeps g fun _ => par ..).trans ?_
  split
  · exact takeGoverning_keeps g gov
  · rfl

/-- A rail that is no member keeps its record, but for which rail governs its segment. -/
theorem ratioTaken_other (out : mask[i] = false) : ((ratioTaken mask d).rail[i]).besideGoverning = (d.rail[i]).besideGoverning := by
  refine List.foldlRecOn (motive := fun e : Dev => (e.rail[i]).besideGoverning = (d.rail[i]).besideGoverning) _ _ rfl fun e h j mem => ?_
  have other : i ≠ j := fun same_ => by
    rw [← same_, mem_maskRails, out] at mem
    cases mem
  rw [latchPar, onRail_rail_other other, ← h]
  split
  · exact takeGoverning_keeps Rail.besideGoverning fun _ _ => rfl
  · rfl

end

section
variable (leader : Fin 12) (mask : Vector Bool 12) (vEnd : Int) (rate : Nat) (stop : Bool)

theorem within_beginRatio : Within [.leg, .rail, .ratio, .eng] [] d (beginRatio leader mask vEnd rate stop d) := by
  obtain ⟨again, v0, settle, stages⟩ := beginRatio_eq leader mask vEnd rate stop d
  rw [stages]
  have taken : Within [.leg, .rail, .ratio, .eng] [] d (ratioTaken mask d) := (within_ratioTaken mask).mono (by simp) (by simp)
  have legs (m : Vector Bool 12) (d : Dev) : Within [.leg, .rail, .ratio, .eng] [] d (ratioLegs m d) :=
    (within_ratioLegs m).mono (by simp) (by simp)
  exact ((taken.trans (legs ..)).trans (within_foldl fun _ _ => (within_onRail ..).mono (by simp) (by simp))).trans
    ((within_ratio _).mono (by simp) (by simp))

/-- The records of the rails after the beginning of an episode, from those after its members took their parameters. -/
theorem beginRatio_rail (i : Fin 12) : ∃ (again passive : Bool) (v : Int) (now : Nat), (stop = false → passive = false) ∧
    (beginRatio leader mask vEnd rate stop d).rail[i]
      = if mask[i] = true then ((ratioTaken mask d).rail[i]).joining leader stop again passive v now else (ratioTaken mask d).rail[i] := by
  obtain ⟨again, v0, settle, stages⟩ := beginRatio_eq leader mask vEnd rate stop d
  refine ⟨again, stop && !hasLegs i (ratioTaken mask d), v0[i],
    (ratioLegs (ratioMembers mask stop (ratioTaken mask d)) (ratioTaken mask d)).time.now, fun no => by rw [no, Bool.false_and], ?_⟩
  rw [stages]
  refine (foldl_onRail (fun t j => Rail.joining leader stop again (stop && !hasLegs j (ratioTaken mask d)) v0[j] t.now)
    (nodup_maskRails mask)).trans ?_
  rw [(within_ratioLegs _).rail_eq (by decide)]
  simp only [mem_maskRails]

/-- A rail of a stop drains; its result stands. -/
theorem beginRatio_stop_rail (mem : mask[i] = true) : let r := (beginRatio leader mask vEnd rate true d).rail[i]
    r.state = .draining ∧ r.episode = .stop ∧ r.result = (d.rail[i]).result := by
  obtain ⟨again, passive, v, now, -, record⟩ := beginRatio_rail (d := d) leader mask vEnd rate true i
  rw [if_pos mem] at record
  rw [record]
  exact ⟨rfl, rfl, ratioTaken_keeps Rail.result (fun _ _ => rfl) fun _ _ => rfl⟩

/-- A member of another episode has the leader's episode, and precharges where it was free. -/
theorem beginRatio_member (mem : mask[i] = true) : let r := (beginRatio leader mask vEnd rate false d).rail[i]
    r.episode = .ratiometric ∧ r.leader = some leader
      ∧ r.state = if (d.rail[i]).state = .free then .precharging else (d.rail[i]).state := by
  obtain ⟨again, passive, v, now, active, record⟩ := beginRatio_rail (d := d) leader mask vEnd rate false i
  have state : ((ratioTaken mask d).rail[i]).state = (d.rail[i]).state := ratioTaken_keeps Rail.state (fun _ _ => rfl) fun _ _ => rfl
  rw [if_pos mem, active rfl] at record
  rw [record, ← state]
  exact ⟨rfl, rfl, rfl⟩

/-- Of a rail that is no member only the governing rail may change. -/
theorem beginRatio_other (out : mask[i] = false) : let r := (beginRatio leader mask vEnd rate stop d).rail[i]
    r = { d.rail[i] with governing := r.governing } := by
  obtain ⟨again, passive, v, now, -, record⟩ := beginRatio_rail (d := d) leader mask vEnd rate stop i
  rw [if_neg (by simp [out])] at record
  rw [record]
  exact Rail.eq_of_besideGoverning (ratioTaken_other out)

/-- The episode of a leader that is a member itself. -/
theorem beginRatio_ratio (mem : mask[leader] = true) : ∃ q, (beginRatio leader mask vEnd rate false d).ratio[leader] = some q
    ∧ q.mask = mask ∧ q.vEnd = vEnd ∧ q.rate = rate ∧ q.stop = false := by
  obtain ⟨again, v0, settle, stages⟩ := beginRatio_eq leader mask vEnd rate false d
  have every : ratioMembers mask false (ratioTaken mask d) = mask :=
    Vector.ext fun k hk => (tab_get _ (⟨k, hk⟩ : Fin 12)).trans (by simp)
  rw [stages, every]
  dsimp only
  rw [upd_get_same, if_neg (List.ne_nil_of_mem (mem_maskRails.2 mem))]
  exact ⟨_, rfl, rfl, rfl, rfl, rfl⟩
end

/-! Episodes that end, and rails that stop or are isolated. -/

theorem within_soloStop (j : Fin 12) : Within [.leg, .rail, .ratio, .eng] [] d (soloStop j d) :=
  ((within_latchPar j).mono (by simp) (by simp)).trans (within_beginRatio ..)

theorem within_leaveRatio (j : Fin 12) (res : EpResult) : Within [.leg, .rail, .ratio, .eng] [] d (leaveRatio j res d) := by
  have rail (d : Dev) (j : Fin 12) (f : Rail → Rail) : Within [.leg, .rail, .ratio, .eng] [] d (onRail j f d) :=
    (within_onRail ..).mono (by simp) (by simp)
  have ratio (d : Dev) (x : Vector (Option Ratio) 12) : Within [.leg, .rail, .ratio, .eng] [] d { d with ratio := x } :=
    (within_ratio x).mono (by simp) (by simp)
  unfold leaveRatio
  split
  · exact .rfl
  · split
    · exact rail ..
    · refine .ite ?_ ((rail ..).trans (ratio ..))
      exact ((within_foldl fun _ _ => rail ..).trans (ratio ..)).trans (within_foldl fun _ _ => .ite (within_soloStop _) .rfl)

theorem within_endEpisode (j : Fin 12) (res : EpResult) : Within [.leg, .rail, .ratio, .eng] [] d (endEpisode j res d) :=
  (within_leaveRatio j res).trans ((within_onRail ..).mono (by simp) (by simp))

/-- An episode that has ended leaves its result. -/
theorem endEpisode_result (j : Fin 12) (res : EpResult) : ((endEpisode j res d).rail[j]).result = res := by
  rw [endEpisode, onRail_rail_same]

theorem soloStop_rail (j : Fin 12) : let r := (soloStop j d).rail[j]
    r.state = .draining ∧ r.episode = .stop ∧ r.result = (d.rail[j]).result := by
  obtain ⟨state, episode, result⟩ := beginRatio_stop_rail (d := latchPar j d) (i := j) j (tab (fun i => i == j))
    (stopLevel j (latchPar j d)) (par j 0x07 (latchPar j d)) ((tab_get ..).trans (beq_self_eq_true j))
  exact ⟨state, episode, result.trans (onRail_keeps Rail.result fun _ => rfl)⟩

theorem within_isolate (j : Fin 12) (cause : IsoCause) (res : EpResult) :
    Within [.leg, .rail, .ratio, .eng] [] d (isolate j cause (some res) d) :=
  Within.trans (.ite .rfl (within_endEpisode ..)) ((within_onRail ..).mono (by simp) (by simp))

theorem isolate_rail (j : Fin 12) (cause : IsoCause) (res : Option EpResult) : ((isolate j cause res d).rail[j]).state = .isolated
    ∧ ((isolate j cause res d).rail[j]).isoCause = cause := by
  unfold isolate
  rw [onRail_rail_same]
  exact ⟨rfl, rfl⟩

end Sys2Proof.Machine
end

section
/-! The claims on the commands that end a rail's waits and timers (R104 to R108, R112). -/
namespace Sys2Proof.Machine
variable {d : Dev} {j l : Fin 12} {s : State}

theorem exec_startSettleExpiry (j : Fin 12) (s : State) : exec (.startSettleExpiry j) s = done s
    (if (s.dev.rail[j]).episode = .none then s.dev
      else onRail j (fun r => { r with settleUntil := 0 }) (reach (s.dev.rail[j]).settleUntil s.dev)) := rfl

theorem startSettleExpiry_holds : Claims.startSettleExpiry := by
  intro j s r
  have work := exec_startSettleExpiry j s
  refine ⟨fun runs => ?_, fun none_ => ?_⟩
  · rw [if_neg runs] at work
    exact gives_of_done work (le_max_left ..) ⟨onRail_rail_same, le_max_right ..⟩
  · rw [if_pos none_] at work
    exact rests_of_done work

/-- The device when the tracking timeout of a rail's episode is over. -/
def trackingEnd (j : Fin 12) (d : Dev) : Dev := reach ((d.rail[j]).epStart + ms (par j 0x02 d)) d

theorem exec_trackingTimeout (j : Fin 12) (s : State) : exec (.trackingTimeout j) s = done s
    (if (s.dev.rail[j]).episode = .coincidentTie ∨ (s.dev.rail[j]).episode = .coincidentOutlet
      then soloStop j (endEpisode j .timeout (trackingEnd j s.dev)) else s.dev) := rfl

theorem trackingTimeout_holds : Claims.trackingTimeout := by
  intro j s r
  have work := exec_trackingTimeout j s
  refine ⟨fun coincident => ?_, fun noTie noOutlet => ?_⟩
  · rw [if_pos coincident] at work
    have now : (soloStop j (endEpisode j .timeout (trackingEnd j s.dev))).time = (trackingEnd j s.dev).time := by simp
    obtain ⟨state, episode, result⟩ := soloStop_rail (d := endEpisode j .timeout (trackingEnd j s.dev)) j
    refine gives_of_done work (by rw [now]; exact le_max_left ..) ⟨state, episode, ?_, by rw [now]; exact le_max_right ..⟩
    exact result.trans (endEpisode_result j .timeout)
  · rw [if_neg (not_or.2 ⟨noTie, noOutlet⟩)] at work
    exact rests_of_done work

/-! The pause limit of a ratiometric episode (R108). -/

/-- A member's record where its episode is aborted at the pause limit. -/
def Rail.heldInPlace (r : Rail) : Rail := { r with
  leader := none, episode := .none, result := .deviation, t := r.s, state := .live, follows := none }

/-- The work at the pause limit of a leader's episode. -/
theorem ratioAbort_eq {q : Ratio} (runs : d.ratio[l] = some q) : ratioAbort l d
    = if q.stop ∨ q.frozen * period ≤ ms (par l 0x06 d) then d
      else { (maskRails q.mask).foldl (fun d j => onRail j Rail.heldInPlace d) d with
        ratio := upd ((maskRails q.mask).foldl (fun d j => onRail j Rail.heldInPlace d) d).ratio l (fun _ => none) } := by
  unfold ratioAbort
  rw [runs]
  rfl

theorem exec_ratiometricPauseLimit (l : Fin 12) (s : State) : exec (.ratiometricPauseLimit l) s = done s (ratioAbort l s.dev) := rfl

theorem ratiometricPauseLimit_holds : Claims.ratiometricPauseLimit := by
  intro l s
  refine ⟨fun q runs noStop frozen => ?_, fun rests => rests_of_done ?_⟩
  · have work := exec_ratiometricPauseLimit l s
    refine gives_of_done work (by simp) ?_
    rw [ratioAbort_eq runs, if_neg (by simp [noStop, frozen])]
    refine ⟨upd_get_same .., fun j member => ?_⟩
    dsimp only
    rw [foldl_onRail (fun _ _ => Rail.heldInPlace) (nodup_maskRails q.mask), if_pos (mem_maskRails.2 member)]
    exact ⟨rfl, rfl, rfl, rfl, rfl⟩
  · rw [exec_ratiometricPauseLimit]
    cases runs : s.dev.ratio[l] with
    | none =>
      unfold ratioAbort
      rw [runs]
    | some q => rw [ratioAbort_eq runs, if_pos (rests q runs)]

/-! The drain timeout (R112). -/

/-- The device when the drain timeout of a rail is over. -/
def drainEnd (j : Fin 12) (d : Dev) : Dev := reach (d.sync.boundary + (ms (par j 0x09 d) - (d.rail[j]).drained)) d

theorem exec_drainTimeout (j : Fin 12) (s : State) : exec (.drainTimeout j) s = done s
    (if (s.dev.rail[j]).state = .draining ∧ !(s.dev.rail[j]).stopHeld
      then restLegs (segOf j s.dev) (isolate j .drainIncomplete (some .timeout) (drainEnd j s.dev)) else s.dev) := rfl

theorem drainTimeout_holds : Claims.drainTimeout := by
  intro j s r
  have work := exec_drainTimeout j s
  refine ⟨fun draining free => ?_, fun rests => ?_⟩
  · rw [if_pos ⟨draining, congrArg Bool.not free⟩] at work
    have now : (restLegs (segOf j s.dev) (isolate j .drainIncomplete (some .timeout) (drainEnd j s.dev))).time
        = (drainEnd j s.dev).time := by simp
    have ring : (isolate j .drainIncomplete (some .timeout) (drainEnd j s.dev)).ring = s.dev.ring := (within_isolate ..).ring_eq (by decide)
    obtain ⟨state, cause⟩ := isolate_rail (d := drainEnd j s.dev) j .drainIncomplete (some .timeout)
    refine gives_of_done work (by rw [now]; exact le_max_left ..) ⟨?_, ?_, by rw [now]; exact le_max_right .., fun n mem => ?_⟩
    · rwa [(within_restLegs _).rail_eq (by decide)]
    · rwa [(within_restLegs _).rail_eq (by decide)]
    · exact restLegs_leg (by rwa [segLegs_of_ring _ ring])
  · rw [if_neg] at work
    · exact rests_of_done work
    · rintro ⟨draining, free⟩
      obtain h | h := rests
      · exact h draining
      · cases (congrArg Bool.not h).symm.trans free

/-! Rails without a measured voltage (R104). -/

theorem exec_episodePause (j : Fin 12) (s : State) : exec (.episodePause j) s = done s
    (if 10 ≤ (s.dev.rail[j]).missing ∧ (s.dev.rail[j]).episode ≠ .none
      then onRail j (fun r => { r with paused := true }) s.dev else s.dev) := rfl

theorem episodePause_holds : Claims.episodePause := by
  intro j s r
  have work := exec_episodePause j s
  refine ⟨fun long runs => ?_, fun rests => ?_⟩
  · rw [if_pos ⟨long, runs⟩] at work
    exact gives_of_done work le_rfl onRail_rail_same
  · rw [if_neg fun ⟨long, runs⟩ => rests.elim (Nat.not_lt.2 long) runs] at work
    exact rests_of_done work

theorem exec_railSenseLost (j : Fin 12) (s : State) : exec (.railSenseLost j) s = done s
    (if (s.dev.rail[j]).missing * period < ms 10 then s.dev
      else if (s.dev.rail[j]).state = .joined then onRail j (fun r => { r with flagged := true }) s.dev
      else isolate j .senseLost (some .senseLost) s.dev) := rfl

theorem railSenseLost_holds : Claims.railSenseLost := by
  intro j s r
  have work := exec_railSenseLost j s
  refine ⟨fun long apart => ?_, fun long joined => ?_, fun short => ?_⟩
  · rw [if_neg (Nat.not_lt.2 long), if_neg apart] at work
    exact gives_of_done work (by simp) (isolate_rail ..)
  · rw [if_neg (Nat.not_lt.2 long), if_pos joined] at work
    exact gives_of_done work le_rfl onRail_rail_same
  · rw [if_pos short] at work
    exact rests_of_done work

/-- Settles O34: the commands one by one, each by the equation of its work. -/
theorem railCommands : Obligations.RailCommands :=
  ⟨startSettleExpiry_holds, trackingTimeout_holds, ratiometricPauseLimit_holds, drainTimeout_holds, episodePause_holds, railSenseLost_holds⟩

end Sys2Proof.Machine
end

section
/-! Writes to a rail's entries, from their checks to what they leave (R96, R370, R470, R498). -/
namespace Sys2Proof.Machine
variable {d e : Dev} {c : Instr} {w : WriteCall} {r : Row} {a : Ask} {s : State} {j : Fin 12} {idx sub t : Nat} {parts : List Part}

/-! A rail's entries. -/

theorem railIdx_command (j : Fin 12) : 0x2401 + 16 * j.val = railIdx j 1 := by unfold railIdx; omega
theorem railIdx_ratio (j : Fin 12) : 0x2405 + 16 * j.val = railIdx j 5 := by unfold railIdx; omega

theorem railIdx_group (j : Fin 12) (small : t < 16) : railIdx j t / 256 = 0x24 := by unfold railIdx; omega

theorem railKey_group (j : Fin 12) (small : t < 16) (h : sub < 256) : key (railIdx j t) sub / 65536 = 0x24 := by
  rw [key_group h, railIdx_group j small]

theorem railKey_ne {t' sub' : Nat} (h : sub < 256) (h' : sub' < 256) (other : t ≠ t' ∨ sub ≠ sub') :
    key (railIdx j t) sub ≠ key (railIdx j t') sub' := by
  unfold key railIdx
  omega

theorem railOfIdx_railIdx (j : Fin 12) (small : t < 16) : railOfIdx (railIdx j t) = j :=
  Fin.ext (by simp only [railOfIdx, objAt, railIdx]; omega)

theorem railOfIdx_command (idx : w.idx = railIdx j 1) : railOfIdx w.idx = j := by rw [idx, railOfIdx_railIdx j (by decide)]

/-- The entries of rails are the loop island's. -/
theorem fieldHeld_rail (j : Fin 12) (small : t < 16) : fieldHeld (railIdx j t) sub = true := by
  simp [fieldHeld, islandOf, railIdx_group j small]

/-- The entries of every rail have the handlers of the first rail's. -/
theorem handlerOf_rail (j : Fin 12) (small : t < 16) : handlerOf (railIdx j t) sub = handlerOf (0x2400 + t) sub := by
  have same_ {idx : Nat} (low : 0x2400 ≤ idx) (high : idx < 0x2600) (table : idx % 16 = t) :
      handlerOf idx sub = handlerPower (0x2400 + t) sub := by
    rw [handlerOf, if_neg (by omega), if_pos (by omega)]
    conv_lhs =>
      unfold handlerPower
      rw [if_neg (by omega), if_neg (by omega), if_neg (by omega), if_neg (by omega), if_pos (by omega), table]
    conv_rhs =>
      unfold handlerPower
      rw [if_neg (by omega), if_neg (by omega), if_neg (by omega), if_neg (by omega), if_pos (by omega),
        show (0x2400 + t) % 16 = t by omega]
  rw [same_ (idx := railIdx j t) (by unfold railIdx; omega) (by unfold railIdx; omega) (by unfold railIdx; omega),
    same_ (idx := 0x2400 + t) (by omega) (by omega) (by omega)]

/-! Writes taken. -/

/-- A value that is in no store is written by its handler alone. -/
theorem accept_of_value (value : r.acc ≠ .cmd) (keep : r.keep = .v) : accept w r d = (handlerOf w.idx w.sub).act w d := by
  rw [accept_of_ne_cmd value, markUnsaved, if_neg (by simp [keep])]

/-- The access and the store of an entry. -/
def entryKind (idx sub : Nat) : Option (Acc × Keep) := (rowOf idx sub).map fun r => (r.acc, r.keep)

theorem kind_of_row {x : Acc} {y : Keep} (kind : entryKind idx sub = some (x, y)) (row : rowOf idx sub = some r) : r.acc = x ∧ r.keep = y := by
  rw [entryKind, row] at kind
  exact Prod.mk.inj (Option.some.inj kind)

theorem underSession_eq_nil (rail : railOfIdx w.idx = j) : underSession w d = [] ↔ hostSource j d = true := by
  rw [underSession, failing_eq_nil, rail, Bool.not_eq_false']

section
variable {H : Handler} {P : WriteCall → Dev → Prop} (small : t < 16) (own : idx = railIdx j t)
  (asked : askedBy c = some (.named idx sub a)) (run : exec c s = done s (serveWrite idx sub a s.dev))
  (handler : handlerOf (0x2400 + t) sub = H)
include small own asked run handler

/-- What a write to a value of a rail gives: what the entry's handler does where its checks pass. -/
theorem takes_of_railValue {x : Acc} (kind : entryKind (railIdx j t) sub = some (x, .v)) (value : x ≠ .cmd)
    (work : ∀ w, w.idx = railIdx j t → w.sub = sub → H.checks w s.dev = [] →
      Within parts [0x24] s.dev (H.act w s.dev) ∧ ∀ b, P w { H.act w s.dev with barrier := b }) :
    Claims.Takes c s parts [0x24] P := by
  subst own
  refine takes_at_port asked (fieldHeld_rail j small) run fun w r idx sub row passes => ?_
  have checks := checks_of_passes passes
  obtain ⟨acc, keep⟩ := kind_of_row kind row
  rw [accept_of_value (acc ▸ value) keep]
  rw [idx, sub, handlerOf_rail j small, handler] at checks ⊢
  obtain ⟨within, holds⟩ := work w idx sub checks
  exact ⟨within.mono (by simp) (by simp), holds⟩

/-- What a command entry of a rail gives: it shows the command done, and its handler does the rest. -/
theorem takes_of_railCommand (low : sub < 256) (kind : entryKind (railIdx j t) sub = some (.cmd, .v))
    (work : ∀ w d, w.idx = railIdx j t → H.checks w s.dev = [] → d = setNum (railIdx j t) sub 2 s.dev →
      Within parts [] d (H.act w d)
        ∧ ∀ b, Claims.Shown (railIdx j t) sub { H.act w d with barrier := b } → P w { H.act w d with barrier := b }) :
    Claims.Takes c s parts [0x24] P := by
  subst own
  refine takes_at_port asked (fieldHeld_rail j small) run fun w r idx sub row passes => ?_
  have checks := checks_of_passes passes
  obtain ⟨acc, keep⟩ := kind_of_row kind row
  rw [accept_of_cmd acc keep]
  rw [idx, sub, handlerOf_rail j small, handler] at checks ⊢
  obtain ⟨within, holds⟩ := work w _ idx checks rfl
  have shown : Within [] [0x24] s.dev (setNum (railIdx j t) _ 2 s.dev) := railKey_group j small low ▸ within_setNum ..
  exact ⟨(shown.mono (by simp) (by simp)).trans (within.mono (by simp) (by simp)),
    fun b => holds b ((within.num_eq (by simp)).trans (num_setNum_same ..))⟩
end

/-! The value that a write carries. -/

/-- The value that a taken write carries is what its data spell. -/
theorem written_value {h : Served} (asked : askedBy c = some (.named idx sub a)) (field : fieldHeld idx sub = true)
    (got : served c d = some h) (taken : h.taken = true) (row : rowOf idx sub = some r) : h.write.val = bytesVal r.ty a.data := by
  obtain ⟨n, can, rfl, -⟩ := served_at_port asked field got
  obtain ⟨r', found, -⟩ := Served.taken_spec taken
  obtain rfl := Option.some.inj ((rowOf_of_findEntry found).symm.trans row)
  rw [Served.write_eq found]
  rfl

/-- What a command gives may be told of the value that its data spell. -/
theorem takes_of_value {groups : List Nat} {P : WriteCall → Dev → Prop} (asked : askedBy c = some (.named idx sub a))
    (field : fieldHeld idx sub = true) (row : rowOf idx sub = some r)
    (takes : Claims.Takes c s parts groups fun w e => w.val = bytesVal r.ty a.data → P w e) : Claims.Takes c s parts groups P := by
  intro h got taken
  obtain ⟨t, ran, queue, holds, within⟩ := takes h got taken
  exact ⟨t, ran, queue, holds (written_value asked field got taken row), within⟩

end Sys2Proof.Machine
end

section
/-! The claims on the writes to a rail's values: its control source, its commands and its mode (R95 to R98). -/
namespace Sys2Proof.Machine
variable {d e : Dev} {w : WriteCall} {j : Fin 12} {sub : Nat}

/-! Entries set by their writes. -/

theorem within_plainAct {t : Nat} (small : t < 16) (low : sub < 256) (idx : w.idx = railIdx j t) (own : w.sub = sub) :
    Within [] [0x24] d (plainAct w d) := by
  have group : w.key / 65536 = 0x24 := by rw [WriteCall.key, idx, own, railKey_group j small low]
  exact group ▸ within_setVal ..

theorem getVal_plainAct {t : Nat} (idx : w.idx = railIdx j t) (own : w.sub = sub) :
    getVal (plainAct w d) (key (railIdx j t) sub) = w.val := by
  rw [← idx, ← own]
  exact getVal_setVal_same ..

/-! The control source and the mode. -/

theorem controlSource_kind : ∀ j : Fin 12, entryKind (railIdx j 1) 0x01 = some (.rw, .v) := by decide
theorem setpointIndex_kind : ∀ j : Fin 12, entryKind (railIdx j 1) 0x02 = some (.own, .v) := by decide
theorem directSetpoint_kind : ∀ j : Fin 12, entryKind (railIdx j 1) 0x03 = some (.own, .v) := by decide
theorem modeRequest_kind : ∀ j : Fin 12, entryKind (railIdx j 1) 0x06 = some (.own, .v) := by decide

/-- A rail goes to host control only where its outlet is out of service. -/
theorem controlSource_passes (rail : railOfIdx w.idx = j) (passes : sourceHandler.checks w d = []) (host : w.nat = 1) :
    (d.out[j]).state = .outOfService := by
  simp only [sourceHandler, rail, host, failing_eq_nil] at passes
  simpa using passes

theorem controlSourceWrite_holds : Claims.controlSourceWrite := by
  intro a j s
  refine takes_of_railValue (H := sourceHandler) (by decide) (railIdx_command j) rfl rfl rfl (controlSource_kind j) (by decide)
    fun w idx own passes => ?_
  have rail := railOfIdx_command idx
  exact ⟨within_plainAct (by decide) (by decide) idx own, fun b => ⟨controlSource_passes rail passes, getVal_plainAct idx own⟩⟩

theorem modeRequest_passes (rail : railOfIdx w.idx = j) (passes : modeHandler.checks w d = []) :
    hostSource j d = true ∧ (d.rail[j]).episode = .none := by
  simp only [modeHandler, rail, List.append_eq_nil_iff, failing_eq_nil, underSession_eq_nil rail, bne_eq_false_iff_eq] at passes
  exact passes

/-- A rail's record with a mode asked for. -/
def Rail.askMode (current : Bool) (r : Rail) : Rail := { r with modeAsked := some current }

theorem modeHandler_act (rail : railOfIdx w.idx = j) : modeHandler.act w d = onRail j (Rail.askMode (w.nat == 1)) (plainAct w d) := by
  subst rail
  rfl

theorem modeRequestWrite_holds : Claims.modeRequestWrite := by
  intro a j s
  refine takes_of_railValue (H := modeHandler) (by decide) (railIdx_command j) rfl rfl rfl (modeRequest_kind j) (by decide)
    fun w idx own passes => ?_
  have rail := railOfIdx_command idx
  obtain ⟨host, none_⟩ := modeRequest_passes rail passes
  rw [modeHandler_act rail]
  have plain : Within [] [0x24] s.dev (plainAct w s.dev) := within_plainAct (by decide) (by decide) idx own
  refine ⟨(plain.mono (by simp) (by simp)).trans ((within_onRail ..).mono (by simp) (by simp)),
    fun b => ⟨host, none_, getVal_plainAct idx own, ?_, fun i other => ?_⟩⟩
  · exact onRail_rail_same
  · exact onRail_rail_other other

/-! Voltage commands (R97, R98). -/

/-- A voltage command as a free rail's target, or stored for the next boundary; one that replaces a stored command is counted. -/
def commandGiven (j : Fin 12) (v : Int) (rate : Nat) (d : Dev) : Dev :=
  if (d.rail[j]).state = .free then onRail j (fun r => { r with t := v, rate := rate }) d
  else onRail j (fun r => { r with command := some (v, rate) }) (if (d.rail[j]).command.isSome then bump (railIdx j 0) 0x0F d else d)

theorem commandHandler_act (rail : railOfIdx w.idx = j) :
    commandHandler.act w d = commandGiven j (commandOf w d).1 (commandOf w d).2 (plainAct w d) := by
  subst rail
  rfl

theorem within_commandGiven (j : Fin 12) (v : Int) (rate : Nat) : Within [.rail] [0x24] d (commandGiven j v rate d) := by
  have rail (d : Dev) (f : Rail → Rail) : Within [.rail] [0x24] d (onRail j f d) := (within_onRail ..).mono (by simp) (by simp)
  have count : Within [.rail] [0x24] d (bump (railIdx j 0) 0x0F d) :=
    (within_bump ..).mono (by simp) (by rw [railKey_group j (by decide) (by decide)]; simp)
  exact .ite (rail ..) ((Within.ite count .rfl).trans (rail ..))

theorem getVal_commandGiven (v : Int) (rate : Nat) {k : Nat} (other : k ≠ key (railIdx j 0) 0x0F) :
    getVal (commandGiven j v rate d) k = getVal d k := by
  unfold commandGiven
  split
  · rfl
  · refine Eq.trans rfl (?_ : getVal (if (d.rail[j]).command.isSome then bump (railIdx j 0) 0x0F d else d) k = _)
    split
    · exact getVal_bump_other other
    · rfl

/-- A command is given to a rail under host control, in voltage mode, with no episode. -/
theorem command_passes (rail : railOfIdx w.idx = j) (passes : commandHandler.checks w d = []) :
    (hostSource j d = true ∧ railBusy j d = false ∧ (d.rail[j]).currentMode = false)
      ∧ (w.sub = 0x02 → (commandOf w d).1 ≠ 0)
      ∧ (w.sub ≠ 0x02 → 15000000 ≤ (commandOf w d).1 ∧ (commandOf w d).1 ≤ vCeil j d) := by
  simp only [commandHandler, rail, List.append_eq_nil_iff, failing_eq_nil, underSession_eq_nil rail] at passes
  obtain ⟨⟨⟨⟨host, busy⟩, mode⟩, named⟩, bounds⟩ := passes
  refine ⟨⟨host, busy, mode⟩, fun table => ?_, fun direct => ?_⟩
  · simpa [table] using named
  · simpa [direct] using bounds

/-- A command given leaves what R97 says of it. -/
theorem commandGiven_commanded {v : Int} {rate : Nat} (rule : hostSource j d = true ∧ railBusy j d = false ∧ (d.rail[j]).currentMode = false)
    (plain : Within [] [0x24] d e) (count : num e (railIdx j 0) 0x0F = num d (railIdx j 0) 0x0F) :
    Claims.commanded j v rate d (commandGiven j v rate e) := by
  obtain ⟨host, busy, mode⟩ := rule
  refine ⟨host, busy, mode, fun free => ?_, fun live => ?_, fun i other => ?_⟩
  · rw [commandGiven, plain.rail_eq (by decide), if_pos free, onRail_rail_same]
    exact ⟨rfl, rfl⟩
  · rw [commandGiven, plain.rail_eq (by decide), if_neg fun free => by cases live.symm.trans free]
    refine ⟨by rw [onRail_rail_same], fun stored => ?_⟩
    rw [if_pos stored, ← count]
    exact num_bump_same ..
  · rw [← plain.rail_eq (by decide)]
    unfold commandGiven
    split
    · exact onRail_rail_other other
    · rw [onRail_rail_other other]
      split <;> rfl

/-- The work of a voltage command: its value stands, and R97 holds of it. -/
theorem command_work (low : sub < 256) (idx : w.idx = railIdx j 1) (own : w.sub = sub)
    (rule : hostSource j d = true ∧ railBusy j d = false ∧ (d.rail[j]).currentMode = false) :
    Within [.rail] [0x24] d (commandHandler.act w d) ∧ Claims.Stands (railIdx j 1) sub w (commandHandler.act w d)
      ∧ Claims.commanded j (commandOf w d).1 (commandOf w d).2 d (commandHandler.act w d) := by
  have plain : Within [] [0x24] d (plainAct w d) := within_plainAct (by decide) low idx own
  rw [commandHandler_act (railOfIdx_command idx)]
  refine ⟨(plain.mono (by simp) (by simp)).trans (within_commandGiven ..), ?_, commandGiven_commanded rule plain ?_⟩
  · rw [Claims.Stands, getVal_commandGiven _ _ (railKey_ne low (by decide) (.inl (by decide))), getVal_plainAct idx own]
  · refine congrArg intOf (getVal_setVal_other _ _ _ _ ?_)
    rw [WriteCall.key, idx, own]
    exact railKey_ne (by decide) low (.inl (by decide))

theorem setpointIndexWrite_holds : Claims.setpointIndexWrite := by
  intro a j s
  refine takes_of_railValue (H := commandHandler) (by decide) (railIdx_command j) rfl rfl rfl (setpointIndex_kind j) (by decide)
    fun w idx own passes => ?_
  have rail := railOfIdx_command idx
  obtain ⟨rule, named, -⟩ := command_passes rail passes
  obtain ⟨within, stands, given⟩ := command_work (by decide) idx own rule
  have command : commandOf w s.dev = (100 * num s.dev (railIdx j 2) (w.nat + 1), nat s.dev (railIdx j 3) (w.nat + 1)) := by
    rw [commandOf, if_pos own, rail]
  rw [command] at named given
  exact ⟨within, fun b => ⟨stands, named own, given⟩⟩

theorem directSetpointWrite_holds : Claims.directSetpointWrite := by
  intro a j s
  refine takes_of_railValue (H := commandHandler) (by decide) (railIdx_command j) rfl rfl rfl (directSetpoint_kind j) (by decide)
    fun w idx own passes => ?_
  have rail := railOfIdx_command idx
  obtain ⟨rule, -, bounds⟩ := command_passes rail passes
  obtain ⟨within, stands, given⟩ := command_work (by decide) idx own rule
  have direct : w.sub ≠ 0x02 := by simp [own]
  have command : commandOf w s.dev = (100 * w.num, nat s.dev (railIdx j 1) 0x04) := by
    rw [commandOf, if_neg direct, idx]
  rw [command] at bounds given
  obtain ⟨above_, below⟩ := bounds direct
  exact ⟨within, fun b => ⟨stands, above_, below, given⟩⟩

end Sys2Proof.Machine
end

section
/-! The claims on the commands to a rail: its start, its stop, its isolation and its restoring (R103, R105, R111, R114). -/
namespace Sys2Proof.Machine
variable {d : Dev} {w : WriteCall} {i j : Fin 12}

theorem railStart_kind : ∀ j : Fin 12, entryKind (railIdx j 1) 0x0A = some (.cmd, .v) := by decide
theorem railStop_kind : ∀ j : Fin 12, entryKind (railIdx j 1) 0x0B = some (.cmd, .v) := by decide
theorem railIsolation_kind : ∀ j : Fin 12, entryKind (railIdx j 1) 0x0C = some (.cmd, .v) := by decide

/-! The start. -/

theorem within_beginTrack (j : Fin 12) (ep : Episode) : Within [.leg, .rail, .eng] [] d (beginTrack j ep d) :=
  (((within_startLegs _).mono (by simp) (by simp)).trans ((within_latchPar _).mono (by simp) (by simp))).trans
    ((within_onRail ..).mono (by simp) (by simp))

/-- A rail that begins to track precharges from the measured voltage of the previous period. -/
theorem beginTrack_rail (j : Fin 12) (ep : Episode) : let r := (beginTrack j ep d).rail[j]
    r.state = .precharging ∧ r.episode = ep ∧ r.epStart = d.time.now ∧ r.s = ((d.rail[j]).vPrev).getD (d.rail[j]).s := by
  have started : (startLegs (segOf j d) d).rail = d.rail := (within_startLegs _).rail_eq (by decide)
  unfold beginTrack
  rw [onRail_rail_same, latchPar, onRail_rail_same, started]
  exact ⟨rfl, rfl, congrArg Timebase.now startLegs_time, rfl⟩

theorem beginTrack_other {ep : Episode} (other : i ≠ j) : (beginTrack j ep d).rail[i] = d.rail[i] := by
  unfold beginTrack
  rw [onRail_rail_other other, latchPar, onRail_rail_other other, (within_startLegs _).rail_eq (by decide)]

theorem beginStart_of_granted (granted : startRefusal j d = none) : beginStart j d = beginTrack j .start d := by
  rw [beginStart, granted]

theorem railStart_passes (rail : railOfIdx w.idx = j) (passes : railStartHandler.checks w d = []) :
    hostSource j d = true ∧ startRefusal j d = none := by
  obtain ⟨host, granted⟩ := List.append_eq_nil_iff.1 passes
  rw [rail] at granted
  refine ⟨(underSession_eq_nil rail).1 host, ?_⟩
  cases refused : startRefusal j d with
  | none => rfl
  | some code =>
    rw [refused] at granted
    cases granted

theorem railStart_holds : Claims.railStart := by
  intro a j s
  refine takes_of_railCommand (H := railStartHandler) (by decide) (railIdx_command j) rfl rfl rfl (by decide) (railStart_kind j)
    fun w d idx passes shown => ?_
  have rail := railOfIdx_command idx
  obtain ⟨host, granted⟩ := railStart_passes rail passes
  have act : railStartHandler.act w d = beginTrack j .start d := by
    rw [shown]
    exact (congrArg (beginStart · _) rail).trans (beginStart_of_granted granted)
  obtain ⟨state, episode, start, point⟩ := beginTrack_rail (d := d) j .start
  rw [act]
  refine ⟨within_beginTrack .., fun b done_ => ⟨host, granted, done_, state, episode, ?_, ?_, fun i other => ?_⟩⟩
  · exact start.trans (by rw [shown]; rfl)
  · exact point.trans (by rw [shown]; rfl)
  · exact (beginTrack_other other).trans (by rw [shown]; rfl)

/-! The stop. -/

/-- A rail's record where its stop waits for its current to fall. -/
def Rail.stopWaiting (now : Nat) (r : Rail) : Rail :=
  { r with state := .draining, episode := .stop, stopWaits := true, drained := 0, epStart := now, command := none }

/-- A rail in current mode first lets its current go to 0. -/
theorem beginStop_of_current (current : (d.rail[j]).currentMode = true) :
    beginStop j d = onRail j (Rail.stopWaiting d.time.now) (genTarget (outletGen j) 0 (latchPar j d)) := by
  simp only [beginStop, beginStops, List.filter_cons, List.filter_nil, current]
  rfl

/-- The device when a rail in voltage mode begins its stop: another episode has ended. -/
def stopTaken (j : Fin 12) (d : Dev) : Dev := latchPar j (if (d.rail[j]).episode = .none then d else endEpisode j .superseded d)

/-- A rail in voltage mode drains in an episode of its own. -/
theorem beginStop_of_voltage (voltage : (d.rail[j]).currentMode = false) : beginStop j d
    = beginRatio j (tab (fun i => [j].contains i)) (stopLevel j (stopTaken j d)) (par j 0x07 (stopTaken j d)) true (stopTaken j d) := by
  simp only [beginStop, beginStops, List.filter_cons, List.filter_nil, voltage]
  rfl

theorem within_beginStop (j : Fin 12) : Within [.leg, .rail, .ratio, .eng] [] d (beginStop j d) := by
  have par_ (d : Dev) : Within [.leg, .rail, .ratio, .eng] [] d (latchPar j d) := (within_latchPar j).mono (by simp) (by simp)
  cases mode : (d.rail[j]).currentMode with
  | true =>
    rw [beginStop_of_current mode]
    exact ((par_ d).trans ((within_genTarget ..).mono (by simp) (by simp))).trans ((within_onRail ..).mono (by simp) (by simp))
  | false =>
    rw [beginStop_of_voltage mode]
    exact (Within.trans (.ite .rfl (within_endEpisode ..)) (par_ _)).trans (within_beginRatio ..)

/-- What the beginning of a stop leaves (R111). -/
theorem beginStop_spec (j : Fin 12) (d : Dev) : ((beginStop j d).rail[j]).state = .draining ∧ ((beginStop j d).rail[j]).episode = .stop
    ∧ ((d.rail[j]).currentMode = true → ((beginStop j d).rail[j]).stopWaits = true ∧ ((beginStop j d).eng.gen[outletGen j]).target = 0) := by
  cases mode : (d.rail[j]).currentMode with
  | true =>
    have target : ((genTarget (outletGen j) 0 (latchPar j d)).eng.gen[outletGen j]).target = 0 := congrArg Gen.target (upd_get_same ..)
    rw [beginStop_of_current mode, onRail_rail_same]
    exact ⟨rfl, rfl, fun _ => ⟨rfl, target⟩⟩
  | false =>
    rw [beginStop_of_voltage mode]
    obtain ⟨state, episode, -⟩ := beginRatio_stop_rail (d := stopTaken j d) (i := j) j (tab (fun i => [j].contains i))
      (stopLevel j (stopTaken j d)) (par j 0x07 (stopTaken j d)) ((tab_get ..).trans (by simp))
    exact ⟨state, episode, fun current => by cases current⟩

theorem railStop_passes (rail : railOfIdx w.idx = j) (passes : railStopHandler.checks w d = []) : hostSource j d = true
    ∧ ((d.rail[j]).state = .live ∨ (d.rail[j]).state = .precharging) ∧ (d.rail[j]).episode ≠ .stop := by
  simp only [railStopHandler, rail, List.append_eq_nil_iff, failing_eq_nil, underSession_eq_nil rail, Bool.or_eq_false_iff,
    Bool.not_eq_false', Bool.or_eq_true, beq_iff_eq, beq_eq_false_iff_ne] at passes
  exact passes

theorem railStop_holds : Claims.railStop := by
  intro a j s
  refine takes_of_railCommand (H := railStopHandler) (by decide) (railIdx_command j) rfl rfl rfl (by decide) (railStop_kind j)
    fun w d idx passes shown => ?_
  have rail := railOfIdx_command idx
  obtain ⟨host, state, episode⟩ := railStop_passes rail passes
  have act : railStopHandler.act w d = beginStop j d := congrArg (beginStop · d) rail
  obtain ⟨drains, stops, waits⟩ := beginStop_spec j d
  rw [act]
  exact ⟨within_beginStop j, fun b done_ => ⟨host, state, episode, done_, drains, stops,
    fun current => waits (by rw [shown]; exact current)⟩⟩

/-! The isolation and the restoring. -/

theorem railIsolation_row : ∀ j : Fin 12,
    rowOf (0x2401 + 16 * j.val) 0x0C = some (row 0x2401 16 12 0x0C 0x0C .u8 .cmd .v (.k 0) (.oneOf [1, 2])) := by decide

/-- A rail's record where the rail is restored. -/
def Rail.restored (r : Rail) : Rail := { r with state := .free, isoCause := .none }

theorem railIsolation_act (rail : railOfIdx w.idx = j) :
    railIsolationHandler.act w d = if w.nat = 2 then onRail j Rail.restored d else isolate j .command none d := by
  subst rail
  rfl

theorem railIsolation_passes (rail : railOfIdx w.idx = j) (passes : railIsolationHandler.checks w d = []) :
    (if w.nat = 2 then mayRestore j d else mayIsolate j d) = true := by
  simp only [railIsolationHandler, rail, failing_eq_nil, Bool.not_eq_false'] at passes
  exact passes

theorem within_railIsolation (rail : railOfIdx w.idx = j) : Within [.rail] [] d (railIsolationHandler.act w d) := by
  rw [railIsolation_act rail]
  exact .ite (within_onRail ..) (within_onRail ..)

theorem isolate_none_other {cause : IsoCause} (other : i ≠ j) : (isolate j cause none d).rail[i] = d.rail[i] := onRail_rail_other other

theorem railIsolate_holds : Claims.railIsolate := by
  intro a j s
  refine takes_of_value rfl (railIdx_command j ▸ fieldHeld_rail j (by decide)) (railIsolation_row j) ?_
  refine takes_of_railCommand (H := railIsolationHandler) (by decide) (railIdx_command j) rfl rfl rfl (by decide) (railIsolation_kind j)
    fun w d idx passes shown => ?_
  have rail := railOfIdx_command idx
  refine ⟨within_railIsolation rail, fun b done_ val => ?_⟩
  have one : w.nat = 1 := by
    rw [WriteCall.nat, WriteCall.num, val]
    rfl
  have isolates : ¬ w.nat = 2 := by omega
  have rule := railIsolation_passes rail passes
  rw [if_neg isolates] at rule
  obtain ⟨state, cause⟩ := isolate_rail (d := d) j .command none
  rw [railIsolation_act rail, if_neg isolates] at done_ ⊢
  exact ⟨rule, done_, state, cause, fun i other => (isolate_none_other other).trans (by rw [shown]; rfl)⟩

theorem railRestore_holds : Claims.railRestore := by
  intro a j s
  refine takes_of_value rfl (railIdx_command j ▸ fieldHeld_rail j (by decide)) (railIsolation_row j) ?_
  refine takes_of_railCommand (H := railIsolationHandler) (by decide) (railIdx_command j) rfl rfl rfl (by decide) (railIsolation_kind j)
    fun w d idx passes shown => ?_
  have rail := railOfIdx_command idx
  refine ⟨within_railIsolation rail, fun b done_ val => ?_⟩
  have restores : w.nat = 2 := by
    rw [WriteCall.nat, WriteCall.num, val]
    rfl
  have rule := railIsolation_passes rail passes
  rw [if_pos restores] at rule
  rw [railIsolation_act rail, if_pos restores] at done_ ⊢
  refine ⟨rule, done_, ?_, fun i other => ?_⟩
  · exact onRail_rail_same.trans (by rw [shown]; rfl)
  · exact (onRail_rail_other other).trans (by rw [shown]; rfl)

end Sys2Proof.Machine
end

section
/-! The claim on the start of a ratiometric episode (R103, R107, R109). -/
namespace Sys2Proof.Machine
variable {d e : Dev} {w : WriteCall} {i j : Fin 12}

theorem ratioStart_kind : ∀ j : Fin 12, entryKind (railIdx j 5) 0x04 = some (.cmd, .v) := by decide

/-- The rails that the member mask of a leader names. -/
def ratioMask (j : Fin 12) (d : Dev) : Vector Bool 12 := tab (fun i => bit (nat d (railIdx j 5) 0x01) i.val)

theorem ratioMask_get : (ratioMask j d)[i] = bit (nat d (railIdx j 5) 0x01) i.val := tab_get ..

theorem ratioHandler_act (idx : w.idx = railIdx j 5) : ratioHandler.act w d
    = beginRatio j (ratioMask j d) (100 * num d (railIdx j 5) 0x02) (nat d (railIdx j 5) 0x03) false d := by
  simp only [ratioHandler, idx, railOfIdx_railIdx j (show 5 < 16 by decide)]
  rfl

/-- An episode's leader is a member, and every member's segment has legs that it can use. -/
theorem ratioStart_passes (idx : w.idx = railIdx j 5) (passes : ratioHandler.checks w d = []) :
    hostSource j d = true ∧ (ratioMask j d)[j] = true ∧ ∀ i, (ratioMask j d)[i] = true → hasLegs i d = true := by
  have named := railOfIdx_railIdx j (show 5 < 16 by decide)
  have rail : railOfIdx w.idx = j := by rw [idx, named]
  simp only [ratioHandler, named, idx, List.append_eq_nil_iff, failing_eq_nil, underSession_eq_nil rail, Bool.or_eq_false_iff,
    Bool.not_eq_false'] at passes
  obtain ⟨⟨⟨host, -⟩, led, -⟩, legs⟩ := passes
  refine ⟨host, led, fun i member => ?_⟩
  simpa using List.any_eq_false.1 legs i (mem_maskRails.2 member)

/-- The other entries of a leader's command stand where its start is shown. -/
theorem num_ratioShown {sub : Nat} (low : sub < 4) : num (setNum (railIdx j 5) 0x04 2 d) (railIdx j 5) sub = num d (railIdx j 5) sub :=
  num_setNum_other _ _ _ _ _ _ (railKey_ne (by omega) (by decide) (.inr (by omega)))

theorem nat_ratioShown {sub : Nat} (low : sub < 4) : nat (setNum (railIdx j 5) 0x04 2 d) (railIdx j 5) sub = nat d (railIdx j 5) sub :=
  congrArg Int.toNat (num_ratioShown low)

theorem ratiometricStart_holds : Claims.ratiometricStart := by
  intro a j s
  refine takes_of_railCommand (H := ratioHandler) (by decide) (railIdx_ratio j) rfl rfl rfl (by decide) (ratioStart_kind j)
    fun w d idx passes shown => ?_
  obtain ⟨host, led, legs⟩ := ratioStart_passes idx passes
  have mask : ratioMask j d = ratioMask j s.dev := by rw [ratioMask, shown, nat_ratioShown (by decide)]; rfl
  have rails : d.rail = s.dev.rail := by rw [shown]; rfl
  rw [ratioHandler_act idx, mask, shown, num_ratioShown (by decide), nat_ratioShown (by decide), ← shown]
  refine ⟨within_beginRatio .., fun b done_ => ⟨host, ratioMask_get.symm.trans led, done_, fun i member => ?_, fun i out => ?_, ?_⟩⟩
  · have member' : (ratioMask j s.dev)[i] = true := ratioMask_get.trans member
    obtain ⟨episode, leader, state⟩ := beginRatio_member (d := d) j (ratioMask j s.dev) (100 * num s.dev (railIdx j 5) 0x02)
      (nat s.dev (railIdx j 5) 0x03) member'
    exact ⟨episode, leader, legs i member', by rw [← rails]; exact state⟩
  · have other := beginRatio_other (d := d) j (ratioMask j s.dev) (100 * num s.dev (railIdx j 5) 0x02)
      (nat s.dev (railIdx j 5) 0x03) false (ratioMask_get.trans out)
    rw [← rails]
    exact other
  · obtain ⟨q, runs, members_, vEnd, rate, noStop⟩ := beginRatio_ratio (d := d) j (ratioMask j s.dev)
      (100 * num s.dev (railIdx j 5) 0x02) (nat s.dev (railIdx j 5) 0x03) led
    exact ⟨q, runs, vEnd, rate, noStop, fun i => by rw [members_, ratioMask_get]⟩

/-- Settles O35: each write by the checks and the handler of its entry. -/
theorem railWrites : Obligations.RailWrites :=
  ⟨controlSourceWrite_holds, setpointIndexWrite_holds, directSetpointWrite_holds, modeRequestWrite_holds, railStart_holds, railStop_holds,
    railIsolate_holds, railRestore_holds, ratiometricStart_holds⟩

end Sys2Proof.Machine
end

section
/-! Writes to the entries of the loop engine, from their checks to what they leave (R127, R370, R470, R498). -/
namespace Sys2Proof.Machine
variable {d e : Dev} {c : Instr} {w : WriteCall} {r : Row} {a : Ask} {s : State} {idx sub k group : Nat} {parts : List Part}

/-! Marks of an unsaved store. -/

theorem markUnsaved_frame (idx sub : Nat) (r : Row) (d : Dev) : ∃ y, markUnsaved idx sub r d = { d with sys := y } := by
  unfold markUnsaved
  split
  · split
    · exact ⟨_, rfl⟩
    · exact ⟨_, rfl⟩
  · exact ⟨_, rfl⟩

theorem Within.key_eq (h : Within parts [group] d e) (out : k / 65536 ≠ group) : getVal e k = getVal d k :=
  h.2 k (by simpa using out)

/-! Writes taken. -/

/-- The entries of the loop engine are the loop island's. -/
theorem fieldHeld_engine (table : idx / 256 = group) (engine : group = 0x26 ∨ group = 0x27) : fieldHeld idx sub = true := by
  obtain rfl | rfl := engine <;> simp [fieldHeld, islandOf, table]

section
variable {H : Handler} {P : WriteCall → Dev → Prop} (table : idx / 256 = group) (engine : group = 0x26 ∨ group = 0x27)
  (asked : askedBy c = some (.named idx sub a)) (run : exec c s = done s (serveWrite idx sub a s.dev)) (handler : handlerOf idx sub = H)
include table engine asked run handler

/-- What a write to a value of the engine gives: what the entry's handler does where its checks pass. -/
theorem takes_of_engineValue (value : ∀ r, rowOf idx sub = some r → r.acc ≠ .cmd)
    (work : ∀ w, w.idx = idx → w.sub = sub → H.checks w s.dev = [] →
      Within parts [group] s.dev (H.act w s.dev) ∧ ∀ b y, P w { H.act w s.dev with barrier := b, sys := y }) :
    Claims.Takes c s parts [group] P := by
  refine takes_at_port asked (fieldHeld_engine table engine) run fun w r own own' row passes => ?_
  have checks := checks_of_passes passes
  rw [accept_of_ne_cmd (value r row)]
  rw [own, own', handler] at checks ⊢
  obtain ⟨within, holds⟩ := work w own own' checks
  have marked : Within [.sys] [] (H.act w s.dev) (markUnsaved idx sub r (H.act w s.dev)) := within_markUnsaved ..
  refine ⟨(within.mono (by simp) (by simp)).trans (marked.mono (by simp [writeParts]) (by simp)), fun b => ?_⟩
  obtain ⟨y, frame⟩ := markUnsaved_frame idx sub r (H.act w s.dev)
  rw [frame]
  exact holds b y

/-- What a command entry of the engine gives: it shows the command done, and its handler does the rest. -/
theorem takes_of_engineCommand (low : sub < 256) (kind : entryKind idx sub = some (.cmd, .v))
    (work : ∀ w d, w.idx = idx → H.checks w s.dev = [] → d = setNum idx sub 2 s.dev → Within parts [group] d (H.act w d)
      ∧ num (H.act w d) idx sub = num d idx sub
      ∧ ∀ b, Claims.Shown idx sub { H.act w d with barrier := b } → P w { H.act w d with barrier := b }) :
    Claims.Takes c s parts [group] P := by
  refine takes_at_port asked (fieldHeld_engine table engine) run fun w r idx sub row passes => ?_
  have checks := checks_of_passes passes
  obtain ⟨acc, keep⟩ := kind_of_row kind row
  rw [accept_of_cmd acc keep]
  rw [idx, sub, handler] at checks ⊢
  obtain ⟨within, stays, holds⟩ := work w _ idx checks rfl
  have shown : Within [] [group] s.dev (setNum _ _ 2 s.dev) := (key_group low).trans table ▸ within_setNum ..
  exact ⟨(shown.mono (by simp) (by simp)).trans (within.mono (by simp) (by simp)),
    fun b => holds b (stays.trans (num_setNum_same ..))⟩
end

/-- The commands among the engine's own entries come after its values. -/
theorem engineValue (table : idx / 256 = 0x26) (low : sub < 0x0C) : ∀ r, rowOf idx sub = some r → r.acc ≠ .cmd := by
  intro r row
  rw [rowOf, table] at row
  have has := List.find?_some row
  simp only [rowHas, Bool.and_eq_true, decide_eq_true_eq] at has
  have commands : ∀ r ∈ entries26, r.acc = .cmd → 0x0C ≤ r.subLo := by decide
  intro cmd
  have := commands r (List.mem_of_find?_eq_some row) cmd
  omega

/-! Entries set by their writes. -/

theorem within_plainAct_of_key (own : w.key = k) : Within [] [k / 65536] d (plainAct w d) := own ▸ within_setVal ..

theorem getVal_plainAct_same (own : w.key = k) : getVal (plainAct w d) k = w.val := own ▸ getVal_setVal_same ..

theorem getVal_plainAct_other {j : Nat} (own : w.key = k) (other : j ≠ k) : getVal (plainAct w d) j = getVal d j :=
  getVal_setVal_other _ _ _ _ (own ▸ other)

theorem WriteCall.key_eq (idx_ : w.idx = idx) (sub_ : w.sub = sub) : w.key = Machine.key idx sub := by rw [WriteCall.key, idx_, sub_]

end Sys2Proof.Machine
end

section
/-! The claims on the writes of class formats and coefficients (R127). -/
namespace Sys2Proof.Machine
variable {d : Dev} {w : WriteCall} {idx sub : Nat} {cls : Fin 4} {l : Fin 16}

theorem handlerOf_format : ∀ cls : Fin 4, handlerOf 0x2600 (7 + cls.val) = formatHandler := fun cls => by fin_cases cls <;> rfl

/-- The class that a format's sub-index names. -/
theorem formatClass (own : w.sub = 7 + cls.val) : (⟨(w.sub - 7) % 4, Nat.mod_lt _ (by decide)⟩ : SlotClass) = cls :=
  Fin.ext (by simp only [own]; omega)

theorem reformat_other {bfp : Bool} (other : cls ≠ 3) : reformat cls bfp d = d := if_pos other

theorem within_reformat (bfp : Bool) : Within [.eng] [] d (reformat cls bfp d) := .ite .rfl (within_eng _)

/-- Of the thermal loops a new format changes the integrators alone. -/
theorem reformat_thermal (bfp : Bool) : (reformat cls bfp d).eng.thermal[l] =
    { d.eng.thermal[l] with xt := ((reformat cls bfp d).eng.thermal[l]).xt } := by
  unfold reformat
  split
  · rfl
  · simp

theorem formatHandler_act (own : w.sub = 7 + cls.val) : formatHandler.act w d = plainAct w (reformat cls (w.nat == 1) d) := by
  simp only [formatHandler, formatClass own]

/-- A class whose format is written is at rest, and its coefficients convert. -/
theorem format_passes (own : w.sub = 7 + cls.val) (passes : formatHandler.checks w d = []) : classRuns cls d = false
    ∧ ∀ x ∈ classCoefs cls, coefOk (w.nat == 1) x.1 x.2 (getVal d (key x.1 x.2)) d = true := by
  simp only [formatHandler, formatClass own, List.append_eq_nil_iff, failing_eq_nil, Bool.not_eq_false', List.all_eq_true] at passes
  exact passes

theorem classFormatWrite_holds : Claims.classFormatWrite := by
  intro a cls s
  refine takes_of_engineValue (by decide) (.inl rfl) rfl rfl (handlerOf_format cls) (engineValue (by decide) (by omega))
    fun w idx own passes => ?_
  obtain ⟨rests, converts⟩ := format_passes own passes
  have key := WriteCall.key_eq idx own
  rw [formatHandler_act own]
  refine ⟨((within_reformat _).mono (by simp) (by simp)).trans ((within_plainAct_of_key key).mono (by simp) ?_),
    fun b y => ⟨rests, getVal_plainAct_same key, fun other => ?_, fun l => reformat_thermal _, converts⟩⟩
  · rw [key_group (by omega)]
    simp
  · rw [reformat_other other]
    rfl

/-- The entries of coefficients are those of the four classes' tables. -/
theorem coefficientEntry_cases (h : coefficientEntry idx sub = true) : idx = 0x2610 ∧ 1 ≤ sub ∧ sub ≤ 3
    ∨ (0x2620 ≤ idx ∧ idx < 0x262C) ∧ (sub = 1 ∨ sub = 2 ∨ sub = 4 ∨ sub = 5)
    ∨ (0x2640 ≤ idx ∧ idx < 0x264C) ∧ 1 ≤ sub ∧ sub ≤ 5 ∨ (0x2650 ≤ idx ∧ idx < 0x2660) ∧ (sub = 4 ∨ sub = 5) := by
  simp only [coefficientEntry, Bool.or_eq_true, Bool.and_eq_true, beq_iff_eq, decide_eq_true_eq, List.contains_iff_mem, List.mem_cons,
    List.not_mem_nil, or_false] at h
  omega

theorem handlerOf_coefficient (h : coefficientEntry idx sub = true) : handlerOf idx sub = coefHandler := by
  have cases_ := coefficientEntry_cases h
  rw [handlerOf, if_neg (by omega), if_pos (by omega)]
  unfold handlerPower
  simp only [show ¬ idx < 0x2100 by omega, show ¬ idx < 0x2200 by omega, show ¬ idx < 0x2300 by omega, show ¬ idx < 0x2400 by omega,
    show ¬ idx < 0x2600 by omega, show idx < 0x2700 by omega, if_true, if_false]
  rw [if_neg (by omega)]
  split_ifs
  · rfl
  · rfl
  · omega
  · omega
  · obtain rfl | rfl : sub = 4 ∨ sub = 5 := by omega
    · rfl
    · rfl
  · omega
  · omega
  · omega
  · omega
  · omega
  · omega

theorem coefficientWrite_holds : Claims.coefficientWrite := by
  intro a idx sub s entry
  have cases_ := coefficientEntry_cases entry
  have table : idx / 256 = 0x26 := by omega
  refine takes_of_engineValue table (.inl rfl) rfl rfl (handlerOf_coefficient entry) (engineValue table (by omega)) fun w own own' passes => ?_
  have key := WriteCall.key_eq own own'
  refine ⟨(within_plainAct_of_key key).mono (by simp) ?_, fun b y => ⟨?_, getVal_plainAct_same key⟩⟩
  · rw [key_group (by omega), table]
    simp
  · simpa [coefHandler, failing_eq_nil, own, own'] using passes

end Sys2Proof.Machine
end

section
/-! The claims on the writes to a generator and to an axis: its limits and target, its start, and the reset of its following error (R137,
R140, R141, R147). -/
namespace Sys2Proof.Machine
variable {d : Dev} {w : WriteCall} {sub : Nat} {g h : Fin 28} {x y : Fin 12}

theorem handlerOf_genLimit (low : 2 ≤ sub) (high : sub ≤ 5) : ∀ g : Fin 28, handlerOf (genIdx g) sub = genLimitHandler := fun g => by
  interval_cases sub <;> fin_cases g <;> rfl

theorem handlerOf_genTarget : ∀ g : Fin 28, handlerOf (genIdx g) 6 = genTargetHandler := fun g => by fin_cases g <;> rfl
theorem handlerOf_genStart : ∀ g : Fin 28, handlerOf (genIdx g) 0x0F = genStartHandler := fun g => by fin_cases g <;> rfl
theorem handlerOf_followReset : ∀ x : Fin 12, handlerOf (axisIdx x) 0x0C = followResetHandler := fun x => by fin_cases x <;> rfl
theorem genStart_kind : ∀ g : Fin 28, entryKind (genIdx g) 0x0F = some (.cmd, .v) := by decide
theorem followReset_kind : ∀ x : Fin 12, entryKind (axisIdx x) 0x0C = some (.cmd, .v) := by decide

theorem genIdx_table (g : Fin 28) : genIdx g / 256 = 0x26 := by unfold genIdx; omega
theorem axisIdx_table (x : Fin 12) : axisIdx x / 256 = 0x26 := by unfold axisIdx; omega

theorem genOfIdx_genIdx (own : w.idx = genIdx g) : genOfIdx w.idx = g :=
  Fin.ext (by simp only [own, genOfIdx, objAt, genIdx]; omega)

/-! Generators changed. -/

theorem onGen_same {f : Gen → Gen} : (onGen g f d).eng.gen[g] = f d.eng.gen[g] := upd_get_same ..
theorem onGen_other {f : Gen → Gen} (other : h ≠ g) : (onGen g f d).eng.gen[h] = d.eng.gen[h] := upd_get_other _ _ _ _ other
theorem onGen_onGen (f f' : Gen → Gen) : onGen g f (onGen g f' d) = onGen g (f ∘ f') d := by
  have twice : upd (upd d.eng.gen g f') g f = upd d.eng.gen g (f ∘ f') := by simp [upd]
  rw [onGen, onGen, onGen, twice]

theorem within_onGen (g : Fin 28) (f : Gen → Gen) : Within [.eng] [] d (onGen g f d) := within_eng _

/-- A generator whose limits have changed. -/
def Gen.replanned (x : Gen) : Gen := { x with replan := true }
/-- A generator with a new target, in its unit. -/
def Gen.targeted (t : Int) (x : Gen) : Gen := { x with target := t * 2 ^ 24, replan := true }
/-- A generator with another user. -/
def Gen.usedBy (u : GenUser) (x : Gen) : Gen := { x with user := u }
/-- A generator whose start waits for its delay. -/
def Gen.delayed (n : Nat) (x : Gen) : Gen := { x with due := some n }

/-! Limits and targets. -/

theorem genLimit_act (own : w.idx = genIdx g) : genLimitHandler.act w d = onGen g Gen.replanned (plainAct w d) := by
  rw [← genOfIdx_genIdx own]
  rfl

/-- The other entries of a generator stand at the write of its target. -/
theorem nat_targetWritten (own : w.key = key (genIdx g) 6) (_small : sub < 256) (other : sub ≠ 6) :
    nat (plainAct w d) (genIdx g) sub = nat d (genIdx g) sub :=
  congrArg (fun v => (intOf v).toNat) (getVal_plainAct_other own (by unfold key; omega))

/-- The generator's record after the write of a target `t`: a general generator is its host's, and one whose start is timed waits. -/
def Gen.targetWritten (general timed : Bool) (host : GenUser) (t : Int) (x : Gen) : Gen :=
  if general then (if timed then x.usedBy host else (x.usedBy host).targeted t) else x.targeted t

section
variable {general timed : Bool} {host : GenUser} {t : Int} {x : Gen}

theorem Gen.targetWritten_now (h : general = false ∨ timed = false) : (x.targetWritten general timed host t).target = t * 2 ^ 24
    ∧ (x.targetWritten general timed host t).replan = true := by
  cases general
  · exact ⟨rfl, rfl⟩
  · obtain rfl : timed = false := h.resolve_left (by decide)
    exact ⟨rfl, rfl⟩

theorem Gen.targetWritten_user : (x.targetWritten true timed host t).user = host := by cases timed <;> rfl

end

theorem genTarget_act (own : w.idx = genIdx g) (own' : w.sub = 6) : genTargetHandler.act w d = onGen g
    (Gen.targetWritten (24 ≤ g.val) (nat d (genIdx g) 0x0E ≠ 0xFF) (hostUser g d) w.num) (plainAct w d) := by
  have key := WriteCall.key_eq own own'
  have host : hostUser g (plainAct w d) = hostUser g d := by rw [hostUser, nat_targetWritten key (by decide) (by decide)]; rfl
  have timer : nat (onGen g (Gen.usedBy (hostUser g d)) (plainAct w d)) (genIdx g) 0x0E = nat d (genIdx g) 0x0E :=
    nat_targetWritten key (by decide) (by decide)
  simp only [genTargetHandler, genOfIdx_genIdx own]
  by_cases axis : g.val < 24
  · rw [if_pos axis, decide_eq_false (by omega : ¬ 24 ≤ g.val)]
    rfl
  · rw [if_neg axis, host, own, decide_eq_true (by omega : 24 ≤ g.val)]
    change (if nat (onGen g (Gen.usedBy (hostUser g d)) (plainAct w d)) (genIdx g) 0x0E = 0xFF then _ else _) = _
    rw [timer]
    split
    · rename_i free
      rw [decide_eq_false (not_not.2 free)]
      exact onGen_onGen ..
    · rename_i timed
      rw [decide_eq_true timed]
      rfl

/-- A target is written to a generator that neither an outlet nor the allocator uses, and to none of an outlet's. -/
theorem genTarget_passes (own : w.idx = genIdx g) (passes : genTargetHandler.checks w d = []) :
    12 ≤ g.val ∧ (d.eng.gen[g]).user ≠ .outlet ∧ (d.eng.gen[g]).user ≠ .allocator := by
  simp only [genTargetHandler, genOfIdx_genIdx own, failing_eq_nil, Bool.or_eq_false_iff, beq_eq_false_iff_ne,
    decide_eq_false_iff_not] at passes
  obtain ⟨⟨outlet, allocator⟩, general⟩ := passes
  rw [own, genIdx] at general
  exact ⟨by omega, outlet, allocator⟩

theorem generatorTargetWrite_holds : Claims.generatorTargetWrite := by
  intro a g sub s low high
  have group {w : WriteCall} (own : w.idx = genIdx g) (own' : w.sub = sub) (f : Gen → Gen) :
      Within [.eng] [0x26] s.dev (onGen g f (plainAct w s.dev)) := by
    have plain := within_plainAct_of_key (d := s.dev) (WriteCall.key_eq own own')
    rw [key_group (by omega), genIdx_table] at plain
    exact (plain.mono (by simp) (by simp)).trans ((within_onGen ..).mono (by simp) (by simp))
  by_cases target : sub = 6
  · subst target
    refine takes_of_engineValue (genIdx_table g) (.inl rfl) rfl rfl (handlerOf_genTarget g) (engineValue (genIdx_table g) (by decide))
      fun w own own' passes => ?_
    obtain ⟨general, outlet, allocator⟩ := genTarget_passes own passes
    rw [genTarget_act own own']
    refine ⟨group own own' _, fun b y => ⟨getVal_plainAct_same (WriteCall.key_eq own own'), fun below => absurd below (by decide),
      fun _ => ⟨general, outlet, allocator, ?_⟩, fun h other => onGen_other other⟩⟩
    dsimp only
    rw [onGen_same]
    refine ⟨fun now => Gen.targetWritten_now ?_, fun general => ?_, fun general timed => ?_⟩
    · exact now.imp (fun axis => decide_eq_false (by omega)) fun free => decide_eq_false (not_not.2 free)
    · rw [decide_eq_true general]
      exact Gen.targetWritten_user
    · rw [decide_eq_true general, decide_eq_true timed]
      rfl
  · refine takes_of_engineValue (genIdx_table g) (.inl rfl) rfl rfl (handlerOf_genLimit low (by omega) g)
      (engineValue (genIdx_table g) (by omega)) fun w own own' passes => ?_
    rw [genLimit_act own]
    exact ⟨group own own' _, fun b y => ⟨getVal_plainAct_same (WriteCall.key_eq own own'), fun _ => onGen_same,
      fun six => absurd six target, fun h other => onGen_other other⟩⟩

/-! The start. -/

/-- The device when a generator's move starts: its target is that of its entry. -/
theorem genStart_act (own : w.idx = genIdx g) : genStartHandler.act w d = generatorStart g d := by
  rw [← genOfIdx_genIdx own]
  rfl

theorem genStart_passes (own : w.idx = genIdx g) (passes : genStartHandler.checks w d = []) : hostHeld g d = true := by
  simp only [genStartHandler, genOfIdx_genIdx own, List.append_eq_nil_iff, failing_eq_nil, Bool.not_eq_false'] at passes
  exact passes.1

/-- A start waits on its timer. -/
theorem generatorStart_timed {t : Fin 4} (named : nat d (genIdx g) 0x0E = t.val) : generatorStart g d
    = onTimer t (some g.val) (onGen g (Gen.delayed (d.sync.periods + nat d (genIdx g) 0x0D)) d) := by
  unfold generatorStart
  simp only [named, t.isLt, dif_pos]
  rfl

/-- A start without a timer is at once. -/
theorem generatorStart_untimed (named : 4 ≤ nat d (genIdx g) 0x0E) :
    generatorStart g d = onGen g (Gen.targeted (num d (genIdx g) 0x06)) d := by
  unfold generatorStart
  simp only [Nat.not_lt.2 named, dif_neg, not_false_iff]
  rfl

theorem within_generatorStart (g : Fin 28) : Within [.eng] [] d (generatorStart g d) := by
  obtain timed | untimed := lt_or_ge (nat d (genIdx g) 0x0E) 4
  · rw [generatorStart_timed (t := ⟨_, timed⟩) rfl]
    exact (within_onGen ..).trans (within_eng _)
  · rw [generatorStart_untimed untimed]
    exact within_onGen ..

theorem generatorStart_holds : Claims.generatorStart := by
  intro a g s
  refine takes_of_engineCommand (genIdx_table g) (.inl rfl) rfl rfl (handlerOf_genStart g) (by decide) (genStart_kind g)
    fun w d own passes shown => ?_
  have entry {sub : Nat} (small : sub < 0x0F) : num d (genIdx g) sub = num s.dev (genIdx g) sub := by
    rw [shown, num_setNum_other _ _ _ _ _ _ (by unfold key; omega)]
  have entry' {sub : Nat} (small : sub < 0x0F) : nat d (genIdx g) sub = nat s.dev (genIdx g) sub := congrArg Int.toNat (entry small)
  rw [genStart_act own]
  have work := within_generatorStart (d := d) g
  refine ⟨work.mono (by simp) (by simp), work.num_eq (by simp), fun b done_ => ⟨genStart_passes own passes, done_, fun t named => ?_,
    fun none_ => ?_⟩⟩
  · rw [generatorStart_timed ((entry' (by decide)).trans named), entry' (by decide)]
    refine ⟨upd_get_same .., ?_⟩
    change ((onGen g _ d).eng.gen[g]).due = _
    rw [onGen_same, shown]
    rfl
  · rw [generatorStart_untimed (none_.trans_eq (entry' (by decide)).symm), entry (by decide)]
    refine ⟨congrArg Gen.target onGen_same, congrArg Gen.replan onGen_same, ?_⟩
    rw [shown]
    rfl

/-! The reset of a following error. -/

theorem followReset_act (own : w.idx = axisIdx x) : followResetHandler.act w d = onAxis x (fun a => { a with flag := false, follow := 0 }) d := by
  have named : objAt 12 (by omega) w.idx 0x2640 1 = x := Fin.ext (by simp only [own, objAt, axisIdx]; omega)
  rw [← named]
  rfl

theorem followReset_passes (own : w.idx = axisIdx x) (passes : followResetHandler.checks w d = []) :
    axisEnabled x d = false ∧ |(d.eng.axis[x]).error| ≤ num d (axisIdx x) 0x07 := by
  have named : objAt 12 (by omega) w.idx 0x2640 1 = x := Fin.ext (by simp only [own, objAt, axisIdx]; omega)
  simpa only [followResetHandler, named, failing_eq_nil, Bool.or_eq_false_iff, decide_eq_false_iff_not, not_lt] using passes

theorem followingErrorReset_holds : Claims.followingErrorReset := by
  intro a x s
  refine takes_of_engineCommand (axisIdx_table x) (.inl rfl) rfl rfl (handlerOf_followReset x) (by decide) (followReset_kind x)
    fun w d own passes shown => ?_
  obtain ⟨disabled, small⟩ := followReset_passes own passes
  rw [followReset_act own]
  have work : Within [.eng] [] d (onAxis x (fun a => { a with flag := false, follow := 0 }) d) := within_eng _
  refine ⟨work.mono (by simp) (by simp), work.num_eq (by simp), fun b done_ => ⟨disabled, small, done_, ?_, fun y other => ?_⟩⟩
  · exact (upd_get_same ..).trans (by rw [shown]; rfl)
  · exact (upd_get_other _ _ _ _ other).trans (by rw [shown]; rfl)

end Sys2Proof.Machine
end

section
/-! Injections: what their start, their end and their results leave (R142 to R146). -/
namespace Sys2Proof.Machine
variable {d : Dev} {c : Fin 2} {i k n : Nat}

theorem injIdx_table (c : Fin 2) : injIdx c / 256 = 0x27 := by unfold injIdx; omega

theorem within_onInj (c : Fin 2) (f : Inj → Inj) : Within [.eng] [] d (onInj c f d) := within_eng _

theorem onInj_same {f : Inj → Inj} : (onInj c f d).eng.inj[c] = f d.eng.inj[c] := upd_get_same ..

theorem length_injFreqs : (injFreqs c d).length ≤ 64 := by
  have kept := List.length_filter_le (· ≠ 0) ((List.range 64).map fun i => nat d (injIdx c + 2) (i + 1))
  rwa [List.length_map, List.length_range] at kept

/-! Results. -/

/-- The result of a frequency set: its gain and its phase. -/
def setResult (c : Fin 2) (gain phase : Int) (i : Nat) (d : Dev) : Dev :=
  setNum (injIdx c + 4) (i + 1) phase (setNum (injIdx c + 3) (i + 1) gain d)

/-- An entry outside the tables of gains and phases of a channel. -/
def besideResults (c : Fin 2) (k : Nat) : Prop := k / 256 ≠ injIdx c + 3 ∧ k / 256 ≠ injIdx c + 4

theorem resultKey (small : i < 64) (t : Nat) : key (injIdx c + t) (i + 1) / 256 = injIdx c + t := by unfold key; omega

theorem besideResults_setting {sub : Nat} (small : sub < 256) : besideResults c (key (injIdx c) sub) := by
  unfold besideResults key
  omega

theorem getVal_setResult (gain phase : Int) (small : i < 64) (out : besideResults c k) : getVal (setResult c gain phase i d) k = getVal d k := by
  obtain ⟨gains, phases⟩ := out
  rw [setResult, setNum, getVal_setVal_other _ _ _ _ fun same_ => phases (by rw [same_, resultKey small]),
    setNum, getVal_setVal_other _ _ _ _ fun same_ => gains (by rw [same_, resultKey small])]

theorem within_setResult (gain phase : Int) (small : i < 64) : Within [] [0x27] d (setResult c gain phase i d) := by
  have one (t : Nat) (low : t < 5) (v : Int) (d : Dev) : Within [] [0x27] d (setNum (injIdx c + t) (i + 1) v d) := by
    have set_ := within_setNum (d := d) (injIdx c + t) (i + 1) v
    rwa [key_group (by omega), show (injIdx c + t) / 256 = 0x27 by unfold injIdx; omega] at set_
  exact (one 3 (by decide) ..).trans (one 4 (by decide) ..)

/-- The gain and the phase that are written of a frequency. -/
def resultOf (complete : Nat) (x : Inj) (i : Nat) : Int × Int :=
  let p := x.x.getD i (0, 0)
  if decide (i < complete) && decide (0 < magSq p) && decide (x.x.foldl (fun a p => max a (magSq p)) 0 ≤ magSq p * 1000000)
  then response p (x.y.getD i (0, 0)) else (-32768, -32768)

theorem writeResults_eq (c : Fin 2) (complete : Nat) (d : Dev) : writeResults c complete d = (List.range (injFreqs c d).length).foldl
    (fun e i => setResult c (resultOf complete d.eng.inj[c] i).1 (resultOf complete d.eng.inj[c] i).2 i e) d := rfl

theorem frequency_lt (mem : i ∈ List.range (injFreqs c d).length) : i < 64 := (List.mem_range.1 mem).trans_le length_injFreqs

theorem within_writeResults (complete : Nat) : Within [] [0x27] d (writeResults c complete d) := by
  rw [writeResults_eq]
  exact List.foldlRecOn (motive := fun e => Within [] [0x27] d e) _ _ .rfl fun e h i mem => h.trans (within_setResult _ _ (frequency_lt mem))

theorem getVal_writeResults (complete : Nat) (out : besideResults c k) : getVal (writeResults c complete d) k = getVal d k := by
  rw [writeResults_eq]
  exact List.foldlRecOn (motive := fun e => getVal e k = getVal d k) _ _ rfl fun e h i mem =>
    (getVal_setResult _ _ (frequency_lt mem) out).trans h

theorem writeResults_eng (complete : Nat) : (writeResults c complete d).eng = d.eng := (within_writeResults complete).1 .eng (by decide)

/-! Capture memory. -/

theorem putCapture_frame (ws : List W32) : ∀ (u : Nat) (d : Dev), ∃ m used, putCapture u ws d = { d with dma := { d.dma with mem := m, capUsed := used } } := by
  induction ws with
  | nil => exact fun _ d => ⟨_, _, rfl⟩
  | cons w ws ih =>
    intro u d
    unfold putCapture
    split
    · exact ⟨_, _, rfl⟩
    · obtain ⟨m, used, frame⟩ := ih (u + 1) { d with dma := { d.dma with
        mem := putUnit (captureBase + 4 * u) w d.dma.mem, capUsed := max d.dma.capUsed (4 * u + 4) } }
      exact ⟨m, used, frame⟩

theorem within_dma (x : Dma) : Within [.dma] [] d { d with dma := x } :=
  ⟨fun p out => by cases p <;> simp_all [same], fun _ _ => rfl⟩

/-! The end of an injection. -/

/-- A channel's record where its injection has ended. -/
def Inj.ended (st : InjState) (cause : Nat) (x : Inj) : Inj := { x with state := st, cause := cause, value := 0 }

/-- The device after the end of an injection but for its capture. -/
def injEnded (c : Fin 2) (st : InjState) (cause : Nat) (d : Dev) : Dev := releaseTimers (0x40 + c.val) (onInj c (Inj.ended st cause) d)

/-- The end of an injection changes its channel and timer, and the DMA engine by its capture record. -/
theorem injClose_frame (c : Fin 2) (st : InjState) (cause status : Nat) (d : Dev) :
    ∃ x, injClose c st cause status d = { injEnded c st cause d with dma := x } := by
  have closed (d : Dev) : ∃ x, (let e := putCapture 0 (captureHeader c status d) (internalChannel (captureChannel c) false d)
      if e.dma.capOwner = 0 then releaseCapture e else { e with dma := { e.dma with capState := .held } }) = { d with dma := x } := by
    obtain ⟨m, used, frame⟩ := putCapture_frame (captureHeader c status d) 0 (internalChannel (captureChannel c) false d)
    rw [frame]
    dsimp only
    split
    · exact ⟨_, rfl⟩
    · exact ⟨_, rfl⟩
  unfold injClose
  dsimp only
  split
  · exact closed _
  · exact ⟨_, rfl⟩

theorem releaseTimers_timer (owner : Nat) (t : Fin 4) : (releaseTimers owner d).eng.timer[t] ≠ some owner := by
  simp only [releaseTimers, Fin.getElem_fin, Vector.getElem_map]
  split
  · simp
  · assumption

theorem within_injClose (st : InjState) (cause status : Nat) : Within [.dma, .eng] [] d (injClose c st cause status d) := by
  obtain ⟨x, frame⟩ := injClose_frame c st cause status d
  rw [frame]
  have ended : Within [.eng] [] d (injEnded c st cause d) := (within_onInj ..).trans (within_eng _)
  exact (ended.mono (by simp) (by simp)).trans ((within_dma x).mono (by simp) (by simp))

theorem injClose_inj (st : InjState) (cause status : Nat) : (injClose c st cause status d).eng.inj[c] = Inj.ended st cause d.eng.inj[c] := by
  obtain ⟨x, frame⟩ := injClose_frame c st cause status d
  rw [frame]
  exact onInj_same

theorem injClose_timer (st : InjState) (cause status : Nat) (t : Fin 4) :
    (injClose c st cause status d).eng.timer[t] ≠ some (0x40 + c.val) := by
  obtain ⟨x, frame⟩ := injClose_frame c st cause status d
  rw [frame]
  exact releaseTimers_timer (d := onInj c (Inj.ended st cause) d) _ t

end Sys2Proof.Machine
end

section
/-! The claims on injections: their end, their stop and their start (R142 to R146). -/
namespace Sys2Proof.Machine
variable {d : Dev} {w : WriteCall} {c : Fin 2} {i k n : Nat}

/-! The end. -/

/-- A channel's record whose frequencies up to a number have completed. -/
def Inj.completed (n : Nat) (x : Inj) : Inj := { x with complete := n }

theorem injectionEnd_of_ended (runs : injRunning c d = true) (ended : injTotal c d ≤ (d.eng.inj[c]).n) : injectionEnd c d
    = injClose c .done 0 1 (writeResults c (injFreqs c d).length (onInj c (Inj.completed (injFreqs c d).length) d)) :=
  if_pos (by rw [runs, decide_eq_true ended]; rfl)

theorem injectionEnd_holds : Claims.injectionEnd := by
  intro c s
  refine ⟨fun runs ended => ?_, fun goes => rests_of_done ?_⟩
  · have work : exec (.injectionEnd c) s = done s (injectionEnd c s.dev) := rfl
    refine gives_of_done work (by rw [injectionEnd_time]) ?_
    rw [injectionEnd_of_ended runs ended, injClose_inj, writeResults_eng, onInj_same]
    exact ⟨rfl, rfl, rfl, rfl, injClose_timer _ _ _⟩
  · refine congrArg (done s) (if_neg ?_)
    rw [Bool.and_eq_true, decide_eq_true_eq]
    rintro ⟨runs, ended⟩
    obtain idle | left_ := goes
    · rw [runs] at idle
      cases idle
    · omega

/-! The stop. -/

theorem handlerOf_injStop : ∀ c : Fin 2, handlerOf (injIdx c) 0x12 = injStopHandler := fun c => by fin_cases c <;> rfl
theorem injStop_kind : ∀ c : Fin 2, entryKind (injIdx c) 0x12 = some (.cmd, .v) := by decide

theorem injOfIdx_injIdx (own : w.idx = injIdx c) : injOfIdx w.idx = c :=
  Fin.ext (by simp only [own, injOfIdx, objAt, injIdx]; omega)

theorem injStop_act (own : w.idx = injIdx c) : injStopHandler.act w d = injAbort c 1 d := by
  rw [← injOfIdx_injIdx own]
  rfl

theorem injAbort_of_idle {cause : Nat} (idle : injRunning c d = false) : injAbort c cause d = d := if_neg (by simp [idle])

theorem injAbort_of_running {cause : Nat} (runs : injRunning c d = true) : injAbort c cause d = injClose c .aborted cause 2
    (writeResults c (if injEntry c 0x03 d = 3 then (d.eng.inj[c]).complete else 0) d) := if_pos runs

theorem within_injAbort (cause : Nat) : Within [.dma, .eng] [0x27] d (injAbort c cause d) :=
  .ite (((within_writeResults _).mono (by simp) (by simp)).trans ((within_injClose ..).mono (by simp) (by simp))) .rfl

theorem getVal_injAbort (cause : Nat) (out : besideResults c k) : getVal (injAbort c cause d) k = getVal d k := by
  cases running : injRunning c d with
  | false => rw [injAbort_of_idle running]
  | true =>
    rw [injAbort_of_running running]
    exact ((within_injClose ..).2 k (by simp)).trans (getVal_writeResults _ out)

theorem injectionStop_holds : Claims.injectionStop := by
  intro a c s
  refine takes_of_engineCommand (injIdx_table c) (.inr rfl) rfl rfl (handlerOf_injStop c) (by decide) (injStop_kind c)
    fun w d own passes shown => ?_
  have engine : d.eng = s.dev.eng := by rw [shown]; rfl
  have running : injRunning c d = injRunning c s.dev := by rw [injRunning, engine]; rfl
  rw [injStop_act own]
  refine ⟨within_injAbort 1, congrArg intOf (getVal_injAbort 1 (besideResults_setting (by decide))), fun b done_ =>
    ⟨done_, fun runs => ?_, fun idle => ?_⟩⟩
  · dsimp only
    rw [injAbort_of_running (running.trans runs), injClose_inj]
    exact ⟨rfl, rfl, rfl⟩
  · rw [injAbort_of_idle (running.trans idle)]
    exact ⟨engine, by rw [shown]; rfl⟩

/-! The start. -/

theorem handlerOf_injStart : ∀ c : Fin 2, handlerOf (injIdx c) 0x11 = injStartHandler := fun c => by fin_cases c <;> rfl
theorem injStart_kind : ∀ c : Fin 2, entryKind (injIdx c) 0x11 = some (.cmd, .v) := by decide

theorem injStart_act (own : w.idx = injIdx c) : injStartHandler.act w d = injBegin c w.session d := by
  rw [← injOfIdx_injIdx own]
  rfl

/-- An injection starts on an idle channel whose target is in test condition, with capture memory free where it captures. -/
theorem injStart_passes (own : w.idx = injIdx c) (passes : injStartHandler.checks w d = []) :
    injRunning c d = false ∧ injTargetOk c d = true ∧ (captures c d = true → d.dma.capState = .free) := by
  simp only [injStartHandler, injOfIdx_injIdx own, List.append_eq_nil_iff, failing_eq_nil, Bool.not_eq_false', Bool.and_eq_false_iff,
    bne_eq_false_iff_eq] at passes
  obtain ⟨⟨⟨⟨⟨⟨-, capture⟩, idle⟩, target⟩, -⟩, -⟩, -⟩ := passes
  exact ⟨idle, target, fun captures_ => capture.resolve_left (by simp [captures_])⟩

/-- The first results of a channel cleared. -/
@[irreducible] def resultsCleared (c : Fin 2) (n : Nat) (d : Dev) : Dev := (List.range n).foldl (fun d i => setResult c (-32768) (-32768) i d) d

theorem resultsCleared_zero : resultsCleared c 0 d = d := by
  rw [resultsCleared]
  rfl

theorem resultsCleared_succ : resultsCleared c (n + 1) d = setResult c (-32768) (-32768) n (resultsCleared c n d) := by
  rw [resultsCleared, resultsCleared, List.range_succ, List.foldl_append]
  rfl

theorem within_resultsCleared (few : n ≤ 64) : Within [] [0x27] d (resultsCleared c n d) := by
  induction n with
  | zero => exact resultsCleared_zero ▸ .rfl
  | succ n ih => exact resultsCleared_succ ▸ (ih (by omega)).trans (within_setResult _ _ (by omega))

theorem getVal_resultsCleared (few : n ≤ 64) (out : besideResults c k) : getVal (resultsCleared c n d) k = getVal d k := by
  induction n with
  | zero => rw [resultsCleared_zero]
  | succ n ih => exact resultsCleared_succ ▸ (getVal_setResult _ _ (by omega) out).trans (ih (by omega))

/-- A frequency has neither a gain nor a phase where its results have been cleared. -/
theorem num_resultsCleared (few : n ≤ 64) (mem : i < n) : num (resultsCleared c n d) (injIdx c + 3) (i + 1) = -32768
    ∧ num (resultsCleared c n d) (injIdx c + 4) (i + 1) = -32768 := by
  induction n with
  | zero => omega
  | succ n ih =>
    have tables {j : Nat} (small : j < 64) : key (injIdx c + 3) (j + 1) ≠ key (injIdx c + 4) (n + 1) := by unfold key; omega
    rw [resultsCleared_succ, setResult]
    obtain before | rfl : i < n ∨ i = n := by omega
    · obtain ⟨gain, phase⟩ := ih (by omega) before
      have other (t : Nat) : key (injIdx c + t) (i + 1) ≠ key (injIdx c + t) (n + 1) := by unfold key; omega
      rw [num_setNum_other _ _ _ _ _ _ (tables (by omega)), num_setNum_other _ _ _ _ _ _ (other 3), num_setNum_other _ _ _ _ _ _ (other 4),
        num_setNum_other _ _ _ _ _ _ (by unfold key; omega)]
      exact ⟨gain, phase⟩
    · rw [num_setNum_other _ _ _ _ _ _ (tables (by omega)), num_setNum_same, num_setNum_same]
      exact ⟨rfl, rfl⟩

/-- A channel's record where its injection begins. -/
def injStarted (c : Fin 2) (session : Nat) (d : Dev) : Inj :=
  let zeros := List.replicate (injFreqs c d).length (0, 0)
  ⟨if injEntry c 0x03 d = 1 then .measuring else .settling, 0, 0, 0, 0, 0, 2 ^ injEntry c 0x09 d - 1, 0, zeros, zeros, 0, session,
    d.sync.boundary + period, 0⟩

/-- The device at the start of an injection but for its capture: its timer taken, its channel begun, its results cleared. -/
def injTaken (c : Fin 2) (session : Nat) (d : Dev) : Dev := resultsCleared c 64
  (onInj c (fun _ => injStarted c session d) (onTimer (Fin.ofNat 4 (injEntry c 0x0F d)) (some (0x40 + c.val)) d))

theorem getVal_injTaken (session : Nat) {sub : Nat} (small : sub < 256) :
    getVal (injTaken c session d) (key (injIdx c) sub) = getVal d (key (injIdx c) sub) := by
  rw [injTaken, getVal_resultsCleared le_rfl (besideResults_setting small)]
  rfl

theorem injTaken_inj (session : Nat) : (injTaken c session d).eng.inj[c] = injStarted c session d := by
  rw [injTaken, (within_resultsCleared le_rfl).1 .eng (by decide)]
  exact onInj_same

theorem within_injTaken (session : Nat) : Within [.eng] [0x27] d (injTaken c session d) :=
  (((within_eng _).mono (by simp) (by simp)).trans ((within_onInj ..).mono (by simp) (by simp))).trans
    ((within_resultsCleared le_rfl).mono (by simp) (by simp))

theorem num_injTaken (session : Nat) (small : i < 64) : num (injTaken c session d) (injIdx c + 3) (i + 1) = -32768
    ∧ num (injTaken c session d) (injIdx c + 4) (i + 1) = -32768 := by
  rw [injTaken]
  exact num_resultsCleared le_rfl small

theorem captures_congr {e : Dev} (h : getVal e (key (injIdx c) 0x10) = getVal d (key (injIdx c) 0x10)) : captures c e = captures c d := by
  unfold captures injEntry nat num
  rw [h]

/-- Capture memory taken by a session. -/
def captureTaken (session : Nat) (d : Dev) : Dev := { d with dma := { d.dma with capState := .filling, capOwner := session, capUsed := 0 } }

/-- The beginning of a capture record. -/
def captureBegun (c : Fin 2) (session : Nat) (d : Dev) : Dev :=
  putCapture 0 (captureHeader c 0 (captureTaken session d)) (internalChannel (captureChannel c) true (captureTaken session d))

theorem captureBegun_frame (c : Fin 2) (session : Nat) (d : Dev) :
    ∃ x, captureBegun c session d = { d with dma := x } ∧ x.capState = .filling ∧ x.capOwner = session := by
  obtain ⟨m, used, frame⟩ := putCapture_frame (captureHeader c 0 (captureTaken session d)) 0
    (internalChannel (captureChannel c) true (captureTaken session d))
  exact ⟨_, frame, rfl, rfl⟩

theorem injBegin_eq (c : Fin 2) (session : Nat) (d : Dev) : injBegin c session d
    = if captures c d = true then captureBegun c session (injTaken c session d) else injTaken c session d := by
  rw [← captures_congr (getVal_injTaken session (by decide)), injTaken, resultsCleared]
  rfl

/-- The DMA engine is taken where a channel captures, and left otherwise. -/
theorem captureBegun_where (captured : Prop) [Decidable captured] (c : Fin 2) (session : Nat) (d : Dev) :
    ∃ x, (if captured then captureBegun c session d else d) = { d with dma := x }
      ∧ (captured → x.capState = .filling ∧ x.capOwner = session) ∧ (¬ captured → x = d.dma) := by
  split
  · rename_i yes
    obtain ⟨x, frame, taken⟩ := captureBegun_frame c session d
    exact ⟨x, frame, fun _ => taken, fun no => absurd yes no⟩
  · rename_i no
    exact ⟨d.dma, rfl, fun yes => absurd yes no, fun _ => rfl⟩

/-- What a start of an injection leaves: a device `e` with its channel begun and its results cleared, and the DMA engine taken where it
captures. -/
theorem injBegin_spec (c : Fin 2) (session : Nat) (d : Dev) : ∃ e x, injBegin c session d = { e with dma := x }
    ∧ (captures c d = true → x.capState = .filling ∧ x.capOwner = session) ∧ (¬ captures c d = true → x = d.dma)
    ∧ Within [.eng] [0x27] d e ∧ e.eng.inj[c] = injStarted c session d
    ∧ (∀ sub < 256, getVal e (key (injIdx c) sub) = getVal d (key (injIdx c) sub))
    ∧ ∀ i < 64, num e (injIdx c + 3) (i + 1) = -32768 ∧ num e (injIdx c + 4) (i + 1) = -32768 := by
  obtain ⟨x, frame, taken, left_⟩ := captureBegun_where (captures c d = true) c session (injTaken c session d)
  have work := within_injTaken (c := c) (d := d) session
  exact ⟨_, x, (injBegin_eq ..).trans frame, taken, fun no => (left_ no).trans (work.1 .dma (by decide)), work, injTaken_inj session,
    fun _ small => getVal_injTaken session small, fun _ small => num_injTaken session small⟩

theorem injectionStart_holds : Claims.injectionStart := by
  intro a c s
  refine takes_of_engineCommand (injIdx_table c) (.inr rfl) rfl rfl (handlerOf_injStart c) (by decide) (injStart_kind c)
    fun w d own passes shown => ?_
  obtain ⟨idle, target, free⟩ := injStart_passes own passes
  have entry {sub : Nat} (small : sub < 0x11) : getVal d (key (injIdx c) sub) = getVal s.dev (key (injIdx c) sub) := by
    rw [shown, setNum, getVal_setVal_other _ _ _ _ (by unfold key; omega)]
  have mask : captures c d = captures c s.dev := captures_congr (entry (by decide))
  have signal : injEntry c 0x03 d = injEntry c 0x03 s.dev := congrArg (fun v => (intOf v).toNat) (entry (by decide))
  obtain ⟨e, x, begun, taken, left_, work, channel, settings, results⟩ := injBegin_spec c w.session d
  rw [mask] at taken left_
  rw [injStart_act own, begun]
  refine ⟨(work.mono (by simp) (by simp)).trans ((within_dma x).mono (by simp) (by simp)), congrArg intOf (settings _ (by decide)),
    fun b done_ => ⟨idle, target, free, done_, ?_⟩⟩
  dsimp only
  rw [channel]
  refine ⟨?_, rfl, ?_, rfl, taken, fun no => (left_ (by simp [no])).trans (by rw [shown]; rfl), results⟩
  · rw [injStarted, signal]
  · rw [shown]
    rfl

/-- Settles O37: each write by the checks and the handler of its entry. -/
theorem engineWrites : Obligations.EngineWrites :=
  ⟨classFormatWrite_holds, coefficientWrite_holds, generatorTargetWrite_holds, generatorStart_holds, injectionStart_holds,
    injectionStop_holds, followingErrorReset_holds⟩

end Sys2Proof.Machine
end

section
/-! What a control period counts and sends: the operations within it leave the boundary, the engine's input number and slots in error, the wait
of a restart, and the frames sent (R72, R73, R119, R124). One rule for each operation, in the order of the model. -/
namespace Sys2Proof.Machine
variable {d : Dev}

/-- What a control period counts at its boundary and what it sends at its end: the synchronisation with the boundary and its counts, the
number of the thermal input, the slots in error, whether a restarted island waits for its cards, and the frames last sent. -/
abbrev Marks := Sync × Nat × List (Fin 136) × Bool × Vector (Option Downlink) 28

/-- The marks of a device. -/
def Dev.marks (d : Dev) : Marks := (d.sync, d.eng.w, d.eng.faulted, d.ring.restart, d.sent)

/-! How devices are put together. -/

@[simp] theorem Dev.marks_ite {c : Prop} [Decidable c] {a b : Dev} : (if c then a else b).marks = if c then a.marks else b.marks :=
  apply_ite ..

@[simp] theorem Dev.marks_dite {c : Prop} [Decidable c] {a : c → Dev} {b : ¬ c → Dev} :
    (if h : c then a h else b h).marks = if h : c then (a h).marks else (b h).marks := apply_dite ..

@[simp] theorem foldl_marks {α : Type} {f : Dev → α → Dev} {l : List α} (hf : ∀ d a, (f d a).marks = d.marks) :
    (l.foldl f d).marks = d.marks := foldl_keeps Dev.marks hf

/-- A run over a list that starts from a device with these marks. -/
theorem foldl_of_marks {α : Type} {m : Marks} {f : Dev → α → Dev} {l : List α} (h : d.marks = m)
    (hf : ∀ d a, (f d a).marks = d.marks) : (l.foldl f d).marks = m := (foldl_marks hf).trans h

theorem marks_ratio (x : Vector (Option Ratio) 12) : ({ d with ratio := x } : Dev).marks = d.marks := rfl

/-! The shared operations: time, entries, messages and events (R14, R19, R430 to R438). -/

@[simp] theorem reach_marks {t} : (reach t d).marks = d.marks := by rfl
@[simp] theorem freeNat_marks : (freeNat d).2.marks = d.marks := by rfl
@[simp] theorem setVal_marks {k v} : (setVal k v d).marks = d.marks := by rfl
@[simp] theorem setNum_marks {x y v} : (setNum x y v d).marks = d.marks := by rfl
@[simp] theorem bumpBy_marks {x y n} : (bumpBy x y n d).marks = d.marks := by rfl
@[simp] theorem bump_marks {x y} : (bump x y d).marks = d.marks := by rfl
@[simp] theorem onGen_marks {g f} : (onGen g f d).marks = d.marks := by rfl
@[simp] theorem genUpdate_marks {g} : (genUpdate g d).marks = d.marks := by simp [genUpdate]
@[simp] theorem genTarget_marks {g t} : (genTarget g t d).marks = d.marks := by rfl
@[simp] theorem genShare_marks {g share} : (genShare g share d).marks = d.marks := by rfl
@[simp] theorem genRestAt_marks {g p} : (genRestAt g p d).marks = d.marks := by rfl
@[simp] theorem onLane_marks {l f} : (onLane l f d).marks = d.marks := by cases l <;> rfl
@[simp] theorem enqueue_marks {l m} : (enqueue l m d).marks = d.marks := by simp [enqueue]

@[simp] theorem raise_marks {i x b} : (raise i x b d).marks = d.marks := by
  obtain ⟨_, _, _, _, frame⟩ := raise_frame i x b d
  rw [frame]
  rfl

@[simp] theorem raise1_marks {isl name x} : (raise1 isl name x d).marks = d.marks := by simp [raise1]
@[simp] theorem transfer_marks {ch} : (transfer ch d).marks = d.marks := by rfl
@[simp] theorem onDma_marks {c f} : (onDma c f d).marks = d.marks := by rfl
@[simp] theorem internalChannel_marks {c runs} : (internalChannel c runs d).marks = d.marks := by simp [internalChannel]
@[simp] theorem releaseCapture_marks : (releaseCapture d).marks = d.marks := by rfl
@[simp] theorem onSet_marks {i f} : (onSet i f d).marks = d.marks := by rfl

@[simp] theorem fieldStore_marks : (fieldStore d).marks = d.marks := by
  unfold fieldStore
  split <;> rfl

/-! The rafter ring (R34 to R58). -/

@[simp] theorem onBrick_marks {k f} : (onBrick k f d).marks = d.marks := by rfl
@[simp] theorem onLeg_marks {n f} : (onLeg n f d).marks = d.marks := by rfl
@[simp] theorem onSeg_marks {x f} : (onSeg x f d).marks = d.marks := by rfl
@[simp] theorem onContactor_marks {x f} : (onContactor x f d).marks = d.marks := by cases x <;> rfl
@[simp] theorem deriveSegments_marks : (deriveSegments d).marks = d.marks := by rfl
@[simp] theorem countPermits_marks : (countPermits d).marks = d.marks := by rfl

@[simp] theorem countOperation_marks {x} : (countOperation x d).marks = d.marks := by
  unfold countOperation
  split <;> simp

@[simp] theorem judge_marks {permit x} : (judge permit x d).marks = d.marks := by
  unfold judge
  split <;> simp

@[simp] theorem interlock_marks {permit} : (interlock permit d).marks = d.marks := by simp [interlock]
@[simp] theorem checkTravel_marks : (checkTravel d).marks = d.marks := by simp [checkTravel]
@[simp] theorem debounceContacts_marks : (debounceContacts d).marks = d.marks := by rfl
@[simp] theorem clearAgreed_marks : (clearAgreed d).marks = d.marks := by rfl
@[simp] theorem checkDropped_marks : (checkDropped d).marks = d.marks := by simp [checkDropped]
@[simp] theorem clearDropped_marks : (clearDropped d).marks = d.marks := by rfl
@[simp] theorem zeroDropped_marks : (zeroDropped d).marks = d.marks := by rfl

@[simp] theorem checkSense_marks : (checkSense d).marks = d.marks := by
  unfold checkSense
  exact foldl_of_marks rfl fun _ _ => by simp

/-! Rails and their episodes (R91 to R116). -/

@[simp] theorem onRail_marks {j f} : (onRail j f d).marks = d.marks := by rfl
@[simp] theorem latchPar_marks {j} : (latchPar j d).marks = d.marks := by rfl
@[simp] theorem legToService_marks {n} : (legToService n d).marks = d.marks := by rfl
@[simp] theorem startLegs_marks {x} : (startLegs x d).marks = d.marks := by simp [startLegs]
@[simp] theorem restLegs_marks {x} : (restLegs x d).marks = d.marks := by simp [restLegs]

@[simp] theorem takeGoverning_marks {mask j} : (takeGoverning mask j d).marks = d.marks := by
  unfold takeGoverning
  split
  · rfl
  · exact foldl_marks fun _ _ => rfl

@[simp] theorem beginRatio_marks {leader mask vEnd rate stop} :
    (beginRatio leader mask vEnd rate stop d).marks = d.marks := by
  unfold beginRatio
  extract_lets _ _ _ _ d1 _ _ _ _ d2 d3
  have h1 : d1.marks = d.marks := by simp [d1]
  have h2 : d2.marks = d1.marks := by simp [d2]
  have h3 : d3.marks = d2.marks := foldl_marks fun _ _ => rfl
  exact h3.trans (h2.trans h1)

@[simp] theorem soloStop_marks {j} : (soloStop j d).marks = d.marks := by simp [soloStop]

@[simp] theorem leaveRatio_marks {j res} : (leaveRatio j res d).marks = d.marks := by
  unfold leaveRatio
  split
  · rfl
  · split
    · rfl
    · extract_lets _ d1 d2 d3
      have h1 : d1.marks = d.marks := foldl_marks fun _ _ => rfl
      split
      · refine foldl_of_marks h1 fun _ _ => ?_
        simp
      · rfl

@[simp] theorem endEpisode_marks {j res} : (endEpisode j res d).marks = d.marks := by simp [endEpisode]
@[simp] theorem abortEpisode_marks {j res} : (abortEpisode j res d).marks = d.marks := by simp [abortEpisode]
@[simp] theorem toVoltageMode_marks {j} : (toVoltageMode j d).marks = d.marks := by rfl
@[simp] theorem keepSamples_marks : (keepSamples d).marks = d.marks := by rfl
@[simp] theorem toCurrentMode_marks {j} : (toCurrentMode j d).marks = d.marks := by rfl

@[simp] theorem beginStops_marks {rails} : (beginStops rails d).marks = d.marks := by
  simp only [beginStops]
  (repeat' split) <;> simp

@[simp] theorem beginStop_marks {j} : (beginStop j d).marks = d.marks := by simp [beginStop]

@[simp] theorem isolate_marks {j cause res} : (isolate j cause res d).marks = d.marks := by
  unfold isolate
  split <;> simp

@[simp] theorem stopDone_marks {j} : (stopDone j d).marks = d.marks := by
  unfold stopDone
  exact foldl_of_marks (by simp) fun _ _ => rfl

@[simp] theorem ratioDone_marks {l q} : (ratioDone l q d).marks = d.marks :=
  Eq.trans (marks_ratio _) (foldl_marks fun _ _ => by simp)

@[simp] theorem ratioPeriod_marks {l held} : (ratioPeriod l held d).marks = d.marks := by
  unfold ratioPeriod
  split
  · rfl
  · extract_lets rails d1 _ _ _ _ d2
    have stopped : (rails.foldl (fun d j => stopDone j d) d1).marks = d.marks := foldl_marks fun _ _ => stopDone_marks
    have h2 : d2.marks = d.marks := foldl_marks fun _ _ => rfl
    split_ifs
    · exact stopped
    · rfl
    · rfl
    · exact ratioDone_marks.trans h2
    · exact h2

@[simp] theorem boundPeriod_marks {j} : (boundPeriod j d).marks = d.marks := by simp [boundPeriod]

@[simp] theorem setPointPeriod_marks {j} : (setPointPeriod j d).marks = d.marks := by
  unfold setPointPeriod
  extract_lets
  split
  · split <;> rfl
  · split
    · rfl
    · split
      · split <;> rfl
      · rfl
  · split
    · rfl
    · split <;> rfl
  · split
    · rfl
    · split <;> rfl
  · rfl

@[simp] theorem passivePeriod_marks {j} : (passivePeriod j d).marks = d.marks := by
  unfold passivePeriod
  split <;> simp

@[simp] theorem stopWaitPeriod_marks {j} : (stopWaitPeriod j d).marks = d.marks := by simp [stopWaitPeriod]
@[simp] theorem legLossPeriod_marks {j} : (legLossPeriod j d).marks = d.marks := by simp [legLossPeriod]

@[simp] theorem stopBitPeriod_marks {j held} : (stopBitPeriod j held d).marks = d.marks := by
  simp only [stopBitPeriod]
  split
  · split <;> simp
  · split
    · split
      · split
        · exact (marks_ratio _).trans (by simp)
        · simp
      · simp
    · simp

@[simp] theorem commandPeriod_marks {j held} : (commandPeriod j held d).marks = d.marks := by
  simp only [commandPeriod]
  (repeat' split) <;> simp

@[simp] theorem sensePeriod_marks {j} : (sensePeriod j d).marks = d.marks := by
  unfold sensePeriod
  split <;> simp

@[simp] theorem setJoined_marks {j x} : (setJoined j x d).marks = d.marks := by rfl
@[simp] theorem joinRails_marks {j} : (joinRails j d).marks = d.marks := by simp [joinRails]
@[simp] theorem formPart_marks {x} : (formPart x d).marks = d.marks := by simp [formPart]
@[simp] theorem splitRails_marks {j} : (splitRails j d).marks = d.marks := by simp [splitRails]
@[simp] theorem regroup_marks : (regroup d).marks = d.marks := by simp [regroup]
@[simp] theorem isolateUnfitted_marks : (isolateUnfitted d).marks = d.marks := by simp [isolateUnfitted]

/-! The cards and the modulator sequencer (R50 to R53, R72 to R86). -/

@[simp] theorem brakeLeg_marks {n} : (brakeLeg n d).marks = d.marks := by simp [brakeLeg]
@[simp] theorem onThermal_marks {w f} : (onThermal w f d).marks = d.marks := by rfl
@[simp] theorem thawOutlets_marks : (thawOutlets d).marks = d.marks := by rfl
@[simp] theorem averagePeriod_marks : (averagePeriod d).marks = d.marks := by rfl
@[simp] theorem shedLeg_marks {n cause} : (shedLeg n cause d).marks = d.marks := by rfl

@[simp] theorem limitRule_marks {x n} : (limitRule x n d).marks = d.marks := by
  induction n generalizing d with
  | zero => rfl
  | succ n ih =>
    unfold limitRule
    extract_lets
    split
    · rfl
    · simp [ih]

@[simp] theorem limitRestore_marks {x} : (limitRestore x d).marks = d.marks := by simp [limitRestore]
@[simp] theorem lightLoad_marks {busy x} : (lightLoad busy x d).marks = d.marks := by simp [lightLoad]
@[simp] theorem detectorMemory_marks {x} : (detectorMemory x d).marks = d.marks := by simp [detectorMemory]
@[simp] theorem releaseSegment_marks {x} : (releaseSegment x d).marks = d.marks := by simp [releaseSegment]
@[simp] theorem brakeEndPeriod_marks {x} : (brakeEndPeriod x d).marks = d.marks := by simp [brakeEndPeriod]

@[simp] theorem offPeriod_marks {n} : (offPeriod n d).marks = d.marks := by
  simp only [offPeriod]
  (repeat' split) <;> simp

@[simp] theorem sharePeriod_marks {x} : (sharePeriod x d).marks = d.marks := by simp [sharePeriod]

@[simp] theorem sequenceSegment_marks {busy returning x} :
    (sequenceSegment busy returning x d).1.marks = d.marks := by simp [sequenceSegment]

/-! The slots of the loop engine, and injections (R117 to R133, R140 to R146). -/

@[simp] theorem writeCell_marks {s out next} : (writeCell s out next d).marks = d.marks := by rfl

@[simp] theorem countSat_marks {c n} : (countSat c n d).marks = d.marks := by
  unfold countSat
  extract_lets quiet _ counted
  have h : counted.marks = d.marks := rfl
  cases quiet <;> simp [h]

@[simp] theorem legSlot_marks {n} : (legSlot n d).marks = d.marks := by simp [legSlot]
@[simp] theorem railSlot_marks {j} : (railSlot j d).marks = d.marks := by simp [railSlot]
@[simp] theorem onAxis_marks {x f} : (onAxis x f d).marks = d.marks := by rfl
@[simp] theorem axisSlot_marks {torqueOff x} : (axisSlot torqueOff x d).marks = d.marks := by simp [axisSlot]
@[simp] theorem thermalSlot_marks {w} : (thermalSlot w d).marks = d.marks := by simp [thermalSlot]

@[simp] theorem slotFault_marks {s} : (slotFault s d).marks = d.marks := by
  simp only [slotFault, raise_marks, setNum_marks, bump_marks]
  rfl

@[simp] theorem repeatOutput_marks {before s} : (repeatOutput before s d).marks = d.marks := by
  simp [repeatOutput]

@[simp] theorem rebuildSlot_marks {s} : (rebuildSlot s d).marks = d.marks := by
  unfold rebuildSlot
  extract_lets d1 d2 d3 d4
  have h1 : d1.marks = d.marks := foldl_marks fun _ _ => by split <;> rfl
  clear_value d1
  have h3 : d3.marks = d.marks := by simp [d3, d2, h1]
  clear_value d3
  have h4 : d4.marks = d.marks := foldl_of_marks h3 fun _ _ => foldl_marks fun _ _ => by split <;> rfl
  clear_value d4
  simp [h4]

@[simp] theorem legOutput_marks {n phase} : (legOutput n phase d).marks = d.marks := by
  simp only [legOutput]
  (repeat' split) <;> rfl

@[simp] theorem onInj_marks {c f} : (onInj c f d).marks = d.marks := by rfl
@[simp] theorem signalPeriod_marks : (signalPeriod d).marks = d.marks := foldl_marks fun _ _ => rfl
@[simp] theorem analyse_marks {c} : (analyse c d).marks = d.marks := by simp [analyse]
@[simp] theorem writeResults_marks {c complete} : (writeResults c complete d).marks = d.marks := by simp [writeResults]

@[simp] theorem putCapture_marks {u ws} : (putCapture u ws d).marks = d.marks := by
  obtain ⟨_, _, frame⟩ := putCapture_frame ws u d
  rw [frame]
  rfl

@[simp] theorem captureFrame_marks {c} : (captureFrame c d).marks = d.marks := by simp [captureFrame]
@[simp] theorem analysisCells_marks {c} : (analysisCells c d).marks = d.marks := by simp [analysisCells]

@[simp] theorem advanceSignal_marks {c} : (advanceSignal c d).marks = d.marks := by
  unfold advanceSignal
  split <;> simp

@[simp] theorem analysisPeriod_marks : (analysisPeriod d).marks = d.marks := by simp [analysisPeriod]
@[simp] theorem releaseTimers_marks {owner} : (releaseTimers owner d).marks = d.marks := by rfl

@[simp] theorem injClose_marks {c st cause status} : (injClose c st cause status d).marks = d.marks := by
  obtain ⟨_, frame⟩ := injClose_frame c st cause status d
  rw [frame]
  rfl

@[simp] theorem injAbort_marks {c cause} : (injAbort c cause d).marks = d.marks := by simp [injAbort]

@[simp] theorem abortPeriod_marks {released} : (abortPeriod released d).marks = d.marks := by
  refine foldl_marks fun _ _ => ?_
  split
  · split <;> simp
  · rfl

/-! The allocator and its moves (R149 to R173). -/

@[simp] theorem onAlloc_marks {f} : (onAlloc f d).marks = d.marks := by rfl
@[simp] theorem onOut_marks {k f} : (onOut k f d).marks = d.marks := by rfl
@[simp] theorem onMove_marks {i f} : (onMove i f d).marks = d.marks := by rfl
@[simp] theorem takeGenerator_marks {g p target} : (takeGenerator g p target d).marks = d.marks := by rfl
@[simp] theorem giveGenerator_marks {g} : (giveGenerator g d).marks = d.marks := by rfl
@[simp] theorem sendAllocation_marks : (sendAllocation d).marks = d.marks := by rfl

@[simp] theorem endMove_marks {i st cause} : (endMove i st cause d).marks = d.marks := by
  unfold endMove
  split
  · rfl
  · extract_lets d1 _ d2 d3 d4 _ d5 d6
    have h1 : d1.marks = d.marks := by
      unfold d1
      split <;> rfl
    have h3 : d3.marks = d.marks := foldl_of_marks h1 fun _ _ => rfl
    have h5 : d5.marks = d.marks := by simp [d5, d4, h3]
    have h6 : d6.marks = d.marks := by
      unfold d6
      split <;> simp [h5]
    simp [h6]

@[simp] theorem enterPhase_marks {i p} : (enterPhase i p d).marks = d.marks := by rfl
@[simp] theorem askContactor_marks {x closed} : (askContactor x closed d).marks = d.marks := by simp [askContactor]

@[simp] theorem beginTake_marks {i g p} : (beginTake i g p d).marks = d.marks := by
  unfold beginTake
  split <;> simp

@[simp] theorem grantsPeriod_marks : (grantsPeriod d).marks = d.marks := by simp [grantsPeriod]

@[simp] theorem withdraw_marks {m} : (withdraw m d).marks = d.marks := by
  unfold withdraw
  split <;> simp

@[simp] theorem reverseMove_marks {i cause} : (reverseMove i cause d).marks = d.marks := by
  unfold reverseMove
  (repeat' split) <;> simp

@[simp] theorem failMove_marks {i cause} : (failMove i cause d).marks = d.marks := by
  unfold failMove
  split <;> simp

@[simp] theorem handoverEnd_marks {i} : (handoverEnd i d).marks = d.marks := by
  unfold handoverEnd
  (repeat' split) <;> simp

@[simp] theorem noteGrant_marks {i} : (noteGrant d i).marks = d.marks := by
  unfold noteGrant
  (repeat' split) <;> simp

@[simp] theorem applyCause_marks {i cause} : (applyCause i cause d).marks = d.marks := by
  unfold applyCause
  split <;> simp

@[simp] theorem moveEvents_marks {released i} : (moveEvents released d i).marks = d.marks := by
  unfold moveEvents
  split <;> simp

@[simp] theorem groupEvents_marks {i} : (groupEvents d i).marks = d.marks := by
  unfold groupEvents
  (repeat' split) <;> simp

@[simp] theorem contactorPhase_marks {i} : (contactorPhase d i).marks = d.marks := by
  unfold contactorPhase
  split
  · rfl
  · split
    · rfl
    · extract_lets _ taken
      have h : taken.marks = d.marks := beginTake_marks
      split
      · rfl
      · split <;> simp [h]

@[simp] theorem followerTies_marks : (followerTies d).marks = d.marks := by simp [followerTies]
@[simp] theorem omitMove_marks {i} : (omitMove i d).marks = d.marks := by simp [omitMove]

@[simp] theorem omitAll_marks : (omitAll d).marks = d.marks := by
  refine foldl_marks fun _ _ => ?_
  split <;> simp

@[simp] theorem takePlan_marks {p t} : (takePlan p t d).marks = d.marks := by
  refine Eq.trans (onAlloc_marks ..) (foldl_marks fun _ _ => ?_)
  split <;> simp

@[simp] theorem decidePlan_marks : (decidePlan d).marks = d.marks := by
  unfold decidePlan
  (repeat' split) <;> simp

@[simp] theorem allocatorPeriod_marks {released} :
    (allocatorPeriod released d).marks = d.marks := by simp [allocatorPeriod]

/-! The outlets (R179 to R203, R502, R503). -/

@[simp] theorem sendStatus_marks {k} : (sendStatus k d).marks = d.marks := by rfl
@[simp] theorem outEnter_marks {k s} : (outEnter k s d).marks = d.marks := by simp [outEnter]
@[simp] theorem beginFast_marks {k} : (beginFast k d).marks = d.marks := by simp [beginFast]
@[simp] theorem recordCause_marks {k c} : (recordCause k c d).marks = d.marks := by simp [recordCause]
@[simp] theorem dropTarget_marks {k} : (dropTarget k d).marks = d.marks := by rfl
@[simp] theorem keepLimit_marks {k} : (keepLimit k d).marks = d.marks := by simp [keepLimit]
@[simp] theorem holdSetPoint_marks {k} : (holdSetPoint k d).marks = d.marks := by simp [holdSetPoint]
@[simp] theorem endCheck_marks {k} : (endCheck k d).marks = d.marks := by simp [endCheck]
@[simp] theorem weldStop_marks {k} : (weldStop k d).marks = d.marks := by simp [weldStop]
@[simp] theorem enterFaulted_marks {k c} : (enterFaulted k c d).marks = d.marks := by simp [enterFaulted]
@[simp] theorem enterWinddown_marks {k c} : (enterWinddown k c d).marks = d.marks := by simp [enterWinddown]
@[simp] theorem raiseCause_marks {k c} : (raiseCause k c d).marks = d.marks := by rfl
@[simp] theorem laterCause_marks {k c} : (laterCause k c d).marks = d.marks := by simp [laterCause]

@[simp] theorem takeCauses_marks {k l} : (takeCauses k l d).marks = d.marks := by
  simp only [takeCauses]
  (repeat' split) <;> simp

@[simp] theorem sessionVoltage_marks {k v} : (sessionVoltage k v d).marks = d.marks := by simp [sessionVoltage]
@[simp] theorem beginRaise_marks {k} : (beginRaise k d).marks = d.marks := by simp [beginRaise]

@[simp] theorem checkPeriod_marks {k} : (checkPeriod k d).marks = d.marks := by
  simp only [checkPeriod]
  (repeat' split) <;> simp

@[simp] theorem applyPhase_marks {k} : (applyPhase k d).marks = d.marks := by
  simp only [applyPhase]
  (repeat' split) <;> simp

@[simp] theorem returnToService_marks {k} : (returnToService k d).marks = d.marks := by rfl
@[simp] theorem enterWeld_marks {k} : (enterWeld k d).marks = d.marks := by simp [enterWeld]
@[simp] theorem enterPlugged_marks {k} : (enterPlugged k d).marks = d.marks := by rfl

@[simp] theorem takeEvent_marks {k e} : (takeEvent k e d).marks = d.marks := by
  simp only [takeEvent]
  (repeat' split) <;> simp

@[simp] theorem quietPeriod_marks {k events} : (quietPeriod k events d).marks = d.marks := by
  unfold quietPeriod
  (repeat' split) <;> simp

@[simp] theorem statusPeriod_marks {k} : (statusPeriod k d).marks = d.marks := by simp [statusPeriod]

@[simp] theorem outletPeriod_marks {k} : (outletPeriod k d).marks = d.marks := by
  simp only [outletPeriod]
  (repeat' split) <;> simp

@[simp] theorem outletGenerators_marks : (outletGenerators d).marks = d.marks := by
  refine foldl_marks fun d k => ?_
  extract_lets _ _ _ woken _ _
  have h : woken.marks = d.marks := by simp [woken]
  split
  · rfl
  · split
    · rfl
    · split <;> simp [h]

@[simp] theorem releaseOutlets_marks {x} : (releaseOutlets x d).marks = d.marks := by simp [releaseOutlets]
@[simp] theorem onVehicle_marks {k f} : (onVehicle k f d).marks = d.marks := by rfl
@[simp] theorem repeatUpdate_marks {k} : (repeatUpdate k d).marks = d.marks := by simp [repeatUpdate]
@[simp] theorem repeatUpdates_marks : (repeatUpdates d).marks = d.marks := by simp [repeatUpdates]

/-! The pair and activations (R326 to R344, R459 to R463). -/

@[simp] theorem onMetro_marks {f} : (onMetro f d).marks = d.marks := by rfl

@[simp] theorem audit_marks {kind session idx sub old new} : (audit kind session idx sub old new d).1.marks = d.marks := by
  simp [audit]

@[simp] theorem onPair_marks {f} : (onPair f d).marks = d.marks := by rfl
@[simp] theorem setRole_marks {r} : (setRole r d).marks = d.marks := by simp [setRole]
@[simp] theorem peerSend_marks {type payload} : (peerSend type payload d).marks = d.marks := by rfl

@[simp] theorem enterSyncing_marks : (enterSyncing d).marks = d.marks := by
  simp only [enterSyncing, onPair_marks, setNum_marks, setRole_marks]
  rfl

@[simp] theorem takeOver_marks : (takeOver d).marks = d.marks := by
  unfold takeOver
  extract_lets gap marked
  clear_value gap
  simp [marked]

@[simp] theorem beginSwap_marks : (beginSwap d).marks = d.marks := by rfl
@[simp] theorem onSys_marks {f} : (onSys f d).marks = d.marks := by rfl
@[simp] theorem onImg_marks {t f} : (onImg t f d).marks = d.marks := by rfl
@[simp] theorem setIsland_marks {i st} : (setIsland i st d).marks = d.marks := by rfl

@[simp] theorem failActivation_marks : (failActivation d).marks = d.marks := by
  unfold failActivation
  split <;> simp

@[simp] theorem stopIsland_marks {i st} : (stopIsland i st d).marks = d.marks := by simp [stopIsland]
@[simp] theorem stopForActivation_marks {t} : (stopForActivation t d).marks = d.marks := by simp [stopForActivation]
@[simp] theorem beginActivation_marks {session} : (beginActivation 3 session d).marks = d.marks := by simp [beginActivation]

@[simp] theorem pairActivation_marks : (pairActivation d).marks = d.marks := by
  unfold pairActivation
  (repeat' split) <;> simp

@[simp] theorem watchHealth_marks : (watchHealth d).marks = d.marks := by simp [watchHealth]

/-! The stages of a period (Tables 1.3, 3.2 and 5.1). -/

@[simp] theorem topologyPeriod_marks : (topologyPeriod d).marks = d.marks := by
  simp only [topologyPeriod]
  split
  · simp only [raise_marks, bump_marks]
    rfl
  · rfl

@[simp] theorem contactPeriod_marks : (contactPeriod d).marks = d.marks := by simp [contactPeriod]
@[simp] theorem setPoints_marks : (setPoints d).marks = d.marks := by simp [setPoints]
@[simp] theorem profileWindow_marks : (profileWindow d).marks = d.marks := by simp [profileWindow]

@[simp] theorem takeStop_marks : (takeStop d).marks = d.marks := by
  unfold takeStop
  split <;> rfl

@[simp] theorem freezeImage_marks : (freezeImage d).marks = d.marks := (takeStop_marks (d := d) :)
@[simp] theorem thawThermal_marks : (thawThermal d).marks = d.marks := by rfl

@[simp] theorem sequencer_marks : (sequencer d).1.marks = d.marks := by
  unfold sequencer
  extract_lets d1 _ _
  have h1 : d1.marks = d.marks := by simp [d1]
  clear_value d1
  refine List.foldlRecOn (motive := fun x : Dev × List (Fin 12) => x.1.marks = d.marks) _ _ h1 fun x h a _ => ?_
  extract_lets y
  have hy : y.1.marks = x.1.marks := sequenceSegment_marks
  clear_value y
  exact hy.trans h

@[simp] theorem runSlots_marks {bad} : (runSlots bad d).1.marks = d.marks := by
  unfold runSlots
  extract_lets d0 rails d1 x d2 off d3 d4 d5 d6
  have h1 : d1.marks = d.marks := foldl_of_marks (by simp) fun _ _ => repeatOutput_marks
  clear_value d1
  have h2 : d2.marks = d.marks := by simp [d2, x, h1]
  clear_value d2
  have h4 : d4.marks = d.marks := foldl_of_marks h2 fun _ _ => axisSlot_marks
  clear_value d4
  have h5 : d5.marks = d.marks := by
    unfold d5
    split <;> simp [h4]
  exact analysisPeriod_marks.trans (foldl_of_marks h5 fun _ _ => repeatOutput_marks)

@[simp] theorem learnSeen_marks : (learnSeen d).marks = d.marks := by simp [learnSeen]
@[simp] theorem takeOverPeriod_marks : (takeOverPeriod d).marks = d.marks := by simp [takeOverPeriod]
@[simp] theorem pairPeriod_marks : (pairPeriod d).marks = d.marks := by simp [pairPeriod]
@[simp] theorem decisions_marks {released} : (decisions released d).marks = d.marks := by simp [decisions]

end Sys2Proof.Machine
end

section
/-! The claim on the control period: its boundary, its counters and the frames that it sends (R62, R64, R72, R73, R119, R124). -/
namespace Sys2Proof.Machine
variable {d : Dev} {x : Sync} {w : Nat} {last : List (Fin 136)} {waits : Bool} {frames : Vector (Option Downlink) 28}
  {bad : List (Fin 136)} {ecc : List (Fin 136 × Bool)} {released : List (Fin 12)} {k : Fin 24} {u : Fin 4} {c : Fin 28}

/-! What is read off the marks. -/

theorem sync_of_marks (h : d.marks = (x, w, last, waits, frames)) : d.sync = x := congrArg Prod.fst h
theorem w_of_marks (h : d.marks = (x, w, last, waits, frames)) : d.eng.w = w := congrArg (·.2.1) h
theorem faulted_of_marks (h : d.marks = (x, w, last, waits, frames)) : d.eng.faulted = last := congrArg (·.2.2.1) h
theorem restart_of_marks (h : d.marks = (x, w, last, waits, frames)) : d.ring.restart = waits := congrArg (·.2.2.2.1) h
theorem sent_of_marks (h : d.marks = (x, w, last, waits, frames)) : d.sent = frames := congrArg (·.2.2.2.2) h

/-! The boundary. -/

/-- Where SYNC_IN is not selected, sync is free; the boundary and its counts stand. -/
theorem syncFree_sync (d : Dev) : (syncFree d).sync.count = d.sync.count ∧ (syncFree d).sync.periods = d.sync.periods := by
  unfold syncFree
  split <;> exact ⟨rfl, rfl⟩

/-- A pulse on SYNC_OUT leaves the boundary, its counts and the trim. -/
theorem syncPulse_sync (d : Dev) : (syncPulse d).sync.boundary = d.sync.boundary ∧ (syncPulse d).sync.count = d.sync.count
    ∧ (syncPulse d).sync.periods = d.sync.periods ∧ (syncPulse d).sync.trim = d.sync.trim := by
  unfold syncPulse
  dsimp only [onSync]
  split_ifs <;> exact ⟨rfl, rfl, rfl, rfl⟩

/-- The boundary comes one period after the last and the trim, which is spent; its counts go on by one. -/
theorem boundaryTick_sync (d : Dev) : (boundaryTick d).sync.boundary = nextBoundary d ∧ (boundaryTick d).sync.count = d.sync.count + 1
    ∧ (boundaryTick d).sync.periods = d.sync.periods + 1 ∧ (boundaryTick d).sync.trim = 0 := by
  unfold boundaryTick
  extract_lets t
  obtain ⟨count, periods⟩ := syncFree_sync (reach t d)
  obtain ⟨boundary', count', periods', trim'⟩ := syncPulse_sync
    (onSync (fun s => { s with boundary := t, count := s.count + 1, periods := s.periods + 1, trim := 0 }) (syncFree (reach t d)))
  exact ⟨boundary', count'.trans (congrArg (· + 1) count), periods'.trans (congrArg (· + 1) periods), trim'⟩

/-- Sync where SYNC_IN is not selected changes no mark but the synchronisation. -/
theorem syncFree_marks (h : d.marks = (x, w, last, waits, frames)) : (syncFree d).marks = ((syncFree d).sync, w, last, waits, frames) := by
  cases h
  unfold syncFree
  split <;> rfl

/-- Of the marks the boundary moves the synchronisation alone. -/
theorem boundaryTick_marks (h : d.marks = (x, w, last, waits, frames)) :
    (boundaryTick d).marks = ((boundaryTick d).sync, w, last, waits, frames) := by
  have others : (boundaryTick d).marks = ((boundaryTick d).sync, (syncFree (reach (nextBoundary d) d)).marks.2) := rfl
  rw [others, syncFree_marks (reach_marks.trans h)]

/-- At the beginning of a period the boundary comes and the engine counts on. -/
theorem beginPeriod_marks (h : d.marks = (x, w, last, waits, frames)) :
    (beginPeriod d).marks = ((boundaryTick d).sync, (w + 1) % 100, last, waits, frames) := by
  have begun : (beginPeriod d).marks = ((boundaryTick d).sync, ((boundaryTick d).marks.2.1 + 1) % 100, (boundaryTick d).marks.2.2) := rfl
  rw [begun, boundaryTick_marks h]

/-! The stages. -/

/-- The device of a period whose slots are to run: its set-points and generators stand, and the input image is frozen. -/
def periodReady (ecc : List (Fin 136 × Bool)) (d : Dev) : Dev :=
  let d := profileWindow (setPoints (contactPeriod (beginPeriod (fieldStore d))))
  bumpBy 0x2600 0x0B ((ecc.countP (fun e => !e.2) : Nat) : Int) (freezeImage (reach (d.sync.boundary + us 2) d))

/-- The slots of a period whose words had an error that could not be corrected. -/
def badSlots (ecc : List (Fin 136 × Bool)) : List (Fin 136) := (ecc.filter (fun e => e.2)).map Prod.fst

/-- Slot faults counted and reported. -/
def slotsFaulted (bad : List (Fin 136)) (d : Dev) : Dev := bad.foldl (fun d s => slotFault s d) d

theorem periodReady_marks : (periodReady ecc d).marks
    = ((boundaryTick (fieldStore d)).sync, (d.eng.w + 1) % 100, d.eng.faulted, d.ring.restart, d.sent) := by
  rw [← beginPeriod_marks fieldStore_marks]
  simp [periodReady]

theorem slotsFaulted_marks : (slotsFaulted bad d).marks = d.marks := foldl_marks fun _ _ => slotFault_marks

theorem periodReady_faulted : (periodReady ecc d).eng.faulted = d.eng.faulted := faulted_of_marks periodReady_marks

/-- A period comes to its end, unless a slot is in error for the second time running: then the island is reset. -/
theorem controlPeriod_eq (ecc : List (Fin 136 × Bool)) (d : Dev) : controlPeriod ecc d
    = if (badSlots ecc).any (fun x => (periodReady ecc d).eng.faulted.contains x) then
        setNum 0x2600 0x01 2 (startIsland 1 4 (slotsFaulted (badSlots ecc) (periodReady ecc d)))
      else endPeriod (badSlots ecc) (runSlots (badSlots ecc) (slotsFaulted (badSlots ecc) (periodReady ecc d))).2
        (runSlots (badSlots ecc) (slotsFaulted (badSlots ecc) (periodReady ecc d))).1 := rfl

theorem controlPeriod_of_twice (twice : (badSlots ecc).any (fun x => d.eng.faulted.contains x) = true) : controlPeriod ecc d
    = setNum 0x2600 0x01 2 (startIsland 1 4 (slotsFaulted (badSlots ecc) (periodReady ecc d))) := by
  rw [controlPeriod_eq, periodReady_faulted, if_pos twice]

theorem controlPeriod_of_once (once : (badSlots ecc).any (fun x => d.eng.faulted.contains x) = false) :
    ∃ e released, controlPeriod ecc d = endPeriod (badSlots ecc) released e
      ∧ e.marks = ((boundaryTick (fieldStore d)).sync, (d.eng.w + 1) % 100, d.eng.faulted, d.ring.restart, d.sent) := by
  refine ⟨_, _, by rw [controlPeriod_eq, periodReady_faulted, if_neg (by rw [once]; decide)], ?_⟩
  rw [runSlots_marks, slotsFaulted_marks, periodReady_marks]

/-! The end of a period. -/

theorem closeBank_marks (h : d.marks = (x, w, last, waits, frames)) : (closeBank bad d).marks = (x, w, bad, waits, frames) := by
  unfold closeBank
  extract_lets d1 engine d2 ph d3
  have h1 : d1.marks = (x, w, last, waits, frames) := takeStop_marks.trans h
  clear_value d1
  have h2 : d2.marks = (x, w, bad, waits, frames) := by
    cases h1
    rfl
  have h3 : d3.marks = d2.marks := foldl_marks fun _ _ => legOutput_marks
  exact (foldl_marks fun _ _ => rebuildSlot_marks).trans (h3.trans h2)

theorem restartPeriod_of_idle (idle : d.ring.restart = false) : restartPeriod d = d := by simp [restartPeriod, idle]

/-- The wait of a restart changes no mark but itself. -/
theorem restartPeriod_marks (h : d.marks = (x, w, last, waits, frames)) :
    (restartPeriod d).marks = (x, w, last, (restartPeriod d).ring.restart, frames) := by
  unfold restartPeriod
  split
  · cases h
    rfl
  · extract_lets d1 ready
    have h1 : d1.marks = (x, w, last, waits, frames) := foldl_of_marks h fun _ _ => by simp
    clear_value d1 ready
    have waiting : (regroup (deriveSegments { d1 with ring := { d1.ring with restart := !ready } })).marks = (x, w, last, !ready, frames) := by
      rw [regroup_marks, deriveSegments_marks]
      cases h1
      rfl
    rw [waiting, restart_of_marks waiting]

/-! The frames. -/

theorem frameCount_downHeader (type : Nat) : frameCount (downHeader type d) = nextCount d := by
  apply BitVec.eq_of_toNat_eq
  simp [frameCount, downHeader]
  omega

theorem frameType_downHeader {type : Nat} (small : type < 16) : frameType (downHeader type d) = type := by
  simp [frameType, downHeader, Nat.shiftRight_eq_div_pow]
  omega

/-- The frame sent to a brick. -/
theorem sendFrames_brick (port : c.val = k.val) (idle : d.ring.restart = false) :
    (sendFrames d).sent[c] = some (.brick (brickFrame k d)) := by
  obtain ⟨c, small⟩ := c
  cases port
  exact (tab_get ..).trans (by simp [idle])

/-- The frame sent to an axis drive. -/
theorem sendFrames_axis (port : c.val = 24 + u.val) : (sendFrames d).sent[c] = some (.axis (axisFrame u d)) := by
  obtain ⟨c, small⟩ := c
  cases port
  exact (tab_get ..).trans (by simp)

theorem brickFrame_spec (k : Fin 24) (d : Dev) : (brickFrame k d).crc = crc16 (brickDownBytes (brickFrame k d))
    ∧ frameCount (brickFrame k d).header = nextCount d ∧ (frameType (brickFrame k d).header = 1 ∨ frameType (brickFrame k d).header = 2) := by
  have header : (brickFrame k d).header = downHeader (if d.ring.restart || commandsCard ⟨k.val, by omega⟩ d then 1 else 2) d := rfl
  refine ⟨rfl, frameCount_downHeader _, ?_⟩
  rw [header]
  split
  · exact .inl (frameType_downHeader (by decide))
  · exact .inr (frameType_downHeader (by decide))

theorem axisFrame_spec (u : Fin 4) (d : Dev) : (axisFrame u d).crc = crc16 (axisDownBytes (axisFrame u d))
    ∧ frameCount (axisFrame u d).header = nextCount d ∧ (frameType (axisFrame u d).header = 4 ∨ frameType (axisFrame u d).header = 5) := by
  have header : (axisFrame u d).header = downHeader (if d.ring.restart || commandsCard ⟨24 + u.val, by omega⟩ d then 4 else 5) d := rfl
  refine ⟨rfl, frameCount_downHeader _, ?_⟩
  rw [header]
  split
  · exact .inl (frameType_downHeader (by decide))
  · exact .inr (frameType_downHeader (by decide))

theorem sendFrames_marks (h : d.marks = (x, w, last, waits, frames)) : (sendFrames d).marks = (x, w, last, waits, (sendFrames d).sent) := by
  cases h
  rfl

/-- The end of a period sends the frames of one device, 8 µs after the boundary: its slots in error are the period's, and it waits for no
restart that did not wait already. -/
theorem endPeriod_spec (bad : List (Fin 136)) (released : List (Fin 12)) (h : d.marks = (x, w, last, waits, frames)) : ∃ f : Dev,
    f.marks = (x, w, bad, f.ring.restart, frames) ∧ (waits = false → f.ring.restart = false)
      ∧ (endPeriod bad released d).marks = (x, w, bad, f.ring.restart, (sendFrames f).sent)
      ∧ x.boundary + us 8 ≤ (endPeriod bad released d).time.now := by
  unfold endPeriod
  extract_lets d1 d2 d3 d4 d5 d6
  have h2 : (decisions released d2).marks = (x, w, bad, waits, frames) := by
    rw [decisions_marks, thawThermal_marks, abortPeriod_marks, closeBank_marks (reach_marks.trans h)]
  have h3 : d3.marks = (x, w, bad, d3.ring.restart, frames) := restartPeriod_marks h2
  have idle3 (idle : waits = false) : d3.ring.restart = false := by
    rw [show d3 = decisions released d2 from restartPeriod_of_idle ((restart_of_marks h2).trans idle), restart_of_marks h2, idle]
  have h4 : d4.marks = d3.marks := by rw [takeOverPeriod_marks, reach_marks]
  have boundary : d4.sync.boundary = x.boundary := by rw [sync_of_marks (h4.trans h3)]
  have h5 : (reach (d4.sync.boundary + us 8) d4).marks = (x, w, bad, d3.ring.restart, frames) := by
    rw [reach_marks, h4, ← h3]
  have sends : (reach (d4.sync.boundary + us 8) d4).ring.restart = d3.ring.restart := restart_of_marks h5
  refine ⟨reach (d4.sync.boundary + us 8) d4, ?_, fun idle => sends.trans (idle3 idle), ?_, ?_⟩
  · rw [h5, sends]
  · rw [watchHealth_marks, pairPeriod_marks, keepSamples_marks, transfer_marks, averagePeriod_marks, repeatUpdates_marks, sendFrames_marks h5, sends]
  · rw [watchHealth_time, pairPeriod_time, keepSamples_time, transfer_time, averagePeriod_time, repeatUpdates_time, sendFrames_time, reach_now,
      boundary]
    exact le_max_right ..

/-! The claim. -/

/-- A started island's entry holds the cause of its start. -/
theorem num_startIsland (i : Fin 8) (cause : Nat) (d : Dev) : num (startIsland i cause d) 0x1001 (i.val + 1) = cause := by
  unfold startIsland
  exact num_setNum_same ..

/-- A period without a second error of a slot: its end sends the frames of a device `f` with the boundary moved and the engine counted on. -/
theorem controlPeriod_ends (once : (badSlots ecc).any (fun x => d.eng.faulted.contains x) = false) : ∃ f : Dev,
    f.marks = ((boundaryTick (fieldStore d)).sync, (d.eng.w + 1) % 100, badSlots ecc, f.ring.restart, d.sent)
      ∧ (d.ring.restart = false → f.ring.restart = false)
      ∧ (controlPeriod ecc d).marks
        = ((boundaryTick (fieldStore d)).sync, (d.eng.w + 1) % 100, badSlots ecc, f.ring.restart, (sendFrames f).sent)
      ∧ (boundaryTick (fieldStore d)).sync.boundary + us 8 ≤ (controlPeriod ecc d).time.now := by
  obtain ⟨e, released, ends, begun⟩ := controlPeriod_of_once once
  obtain ⟨f, sends, idle, sent, later⟩ := endPeriod_spec (badSlots ecc) released begun
  rw [ends]
  exact ⟨f, sends, idle, sent, later⟩

theorem nextBoundary_fieldStore : nextBoundary (fieldStore d) = nextBoundary d := by
  simp only [nextBoundary, sync_of_marks (fieldStore_marks (d := d))]

theorem controlPeriod_holds : Claims.controlPeriod := by
  intro ecc s
  have work (runs : up 1 s.dev = true) : exec (.controlPeriod ecc) s = done s (controlPeriod ecc s.dev) := congrArg (done s) (if_pos runs)
  refine ⟨fun runs once => ?_, fun runs twice => ?_, fun down => rests_of_done (congrArg (done s) (if_neg (by simp [down])))⟩
  · obtain ⟨f, sends, idle, marks, later⟩ := controlPeriod_ends once
    obtain ⟨boundary, count, periods, trim⟩ := boundaryTick_sync (fieldStore s.dev)
    rw [nextBoundary_fieldStore] at boundary
    rw [sync_of_marks (fieldStore_marks (d := s.dev))] at count periods
    have header : nextCount f = BitVec.ofNat 8 (s.dev.sync.count + 2) := by
      rw [nextCount, sync_of_marks sends, count]
    have sync : (controlPeriod ecc s.dev).sync = (boundaryTick (fieldStore s.dev)).sync := sync_of_marks marks
    have sent : (controlPeriod ecc s.dev).sent = (sendFrames f).sent := sent_of_marks marks
    refine (gives_iff_of_done (work runs)).2 ⟨(congrArg Sync.boundary sync).trans boundary, (congrArg Sync.count sync).trans count,
      (congrArg Sync.trim sync).trans trim, ?_, w_of_marks marks, faulted_of_marks marks,
      (congrArg Sync.periods sync).trans periods, fun k c port waits => ?_, fun u c port => ?_⟩
    · rw [← boundary]
      exact later.trans (le_max_left ..)
    · obtain ⟨crc, counted, typed⟩ := brickFrame_spec k f
      exact ⟨brickFrame k f, (congrArg (·[c]) sent).trans (sendFrames_brick port (idle waits)), crc, counted.trans header, typed⟩
    · obtain ⟨crc, counted, typed⟩ := axisFrame_spec u f
      exact ⟨axisFrame u f, (congrArg (·[c]) sent).trans (sendFrames_axis port), crc, counted.trans header, typed⟩
  · refine (gives_iff_of_done (work runs)).2 ?_
    rw [controlPeriod_of_twice twice]
    generalize slotsFaulted _ _ = faulty
    have started : num (startIsland 1 4 faulty) 0x1001 0x02 = 4 := num_startIsland 1 4 faulty
    change num (setNum 0x2600 0x01 2 _) 0x2600 0x01 = 2 ∧ num (setNum 0x2600 0x01 2 _) 0x1001 0x02 = 4
    rw [num_setNum_same, num_setNum_other _ _ _ _ _ _ (by decide), started]
    exact ⟨rfl, rfl⟩

end Sys2Proof.Machine
end

section
/-! The claims on the engine's timers: delayed starts, stale thermal inputs and the following error (R133, R140, R141). -/
namespace Sys2Proof.Machine

theorem releaseTimers_gen (owner : Nat) (d : Dev) : (releaseTimers owner d).eng.gen = d.eng.gen := rfl

theorem generatorStartDelayExpiry_holds : Claims.generatorStartDelayExpiry := by
  intro g s
  refine ⟨fun n due => ?_, fun free => ?_⟩
  · have work : exec (.generatorStartDelayExpiry g) s = done s (releaseTimers g.val (onGen g
        (fun x => { x with due := none, target := num s.dev (genIdx g) 0x06 * 2 ^ 24, replan := true })
        (reach (s.dev.sync.boundary + (n - s.dev.sync.periods) * period) s.dev))) := by
      simp only [exec, execGeneratorStartDelayExpiry, due]
      rfl
    refine (gives_iff_of_done work).2 ?_
    have gen := onGen_same (g := g) (d := reach (s.dev.sync.boundary + (n - s.dev.sync.periods) * period) s.dev)
      (f := fun x => { x with due := none, target := num s.dev (genIdx g) 0x06 * 2 ^ 24, replan := true })
    exact ⟨congrArg Gen.due gen, congrArg Gen.target gen, congrArg Gen.replan gen, (le_max_right ..).trans (le_max_left ..),
      releaseTimers_timer _⟩
  · exact rests_of_done (by simp only [exec, execGeneratorStartDelayExpiry, free])

/-- A loop whose input is stale: its duty is the maximum. -/
def Thermal.driven (duty : Int) (x : Thermal) : Thermal := { x with stale := true, duty := duty }

theorem thermalInputStale_holds : Claims.thermalInputStale := by
  intro w s
  have work : exec (.thermalInputStale w) s = done s (onThermal w (Thermal.driven (num s.dev (thermalIdx w) 0x08))
    (reach ((s.dev.eng.thermal[w]).inputAt + ms 3) s.dev)) := rfl
  refine (gives_iff_of_done work).2 ?_
  have thermal := upd_get_same s.dev.eng.thermal w (Thermal.driven (num s.dev (thermalIdx w) 0x08))
  exact ⟨congrArg Thermal.stale thermal, congrArg Thermal.duty thermal, (le_max_right ..).trans (le_max_left ..),
    (congrArg Thermal.input thermal :)⟩

theorem followingErrorTimer_holds : Claims.followingErrorTimer := by
  intro x s
  refine ⟨fun reached clear => ?_, fun waits => rests_of_done (congrArg (done s) (if_neg ?_))⟩
  · have work : exec (.followingErrorTimer x) s
        = done s (raise1 1 .followingError x.val (onAxis x (fun a => { a with flag := true }) s.dev)) :=
      congrArg (done s) (if_pos ⟨reached, by rw [clear]; rfl⟩)
    have eng : (raise1 1 .followingError x.val (onAxis x (fun a => { a with flag := true }) s.dev)).eng
        = (onAxis x (fun a => { a with flag := true }) s.dev).eng := raise_eng ..
    refine (gives_iff_of_done work).2 ((congrArg (fun e : Engine => e.axis[x]) eng).trans (upd_get_same ..))
  · rintro ⟨reached, clear⟩
    obtain early | flagged := waits
    · omega
    · rw [flagged] at clear
      cases clear

/-- Settles O36: a control period leaves everything that it counts or sends to its beginning and its end, where the boundary moves and the
frames go out; the timers and the end of an injection each do what they are set for, or nothing. -/
theorem engineCommands : Obligations.EngineCommands :=
  ⟨controlPeriod_holds, generatorStartDelayExpiry_holds, thermalInputStale_holds, followingErrorTimer_holds, injectionEnd_holds⟩

end Sys2Proof.Machine
end

section
/-! What a received message leaves of the module (R21, R22). -/
namespace Sys2Proof.Machine
variable {d e : Dev} {parts : List Part} {groups : List Nat} {l : Lane} {m : TenonMsg}

theorem Within.isl_eq (h : Within parts groups d e) (out : Part.isl ∉ parts) : e.isl = d.isl := h.1 .isl out
theorem Within.alloc_eq (h : Within parts groups d e) (out : Part.alloc ∉ parts) : e.alloc = d.alloc := h.1 .alloc out
theorem Within.out_eq (h : Within parts groups d e) (out : Part.out ∉ parts) : e.out = d.out := h.1 .out out

theorem raise_alloc (i : Fin 8) (x : EventName) (b : List Byte) : (raise i x b d).alloc = d.alloc := (within_raise i x b).alloc_eq (by decide)

theorem within_onLane (l : Lane) (f : LaneState → LaneState) : Within [.barrier] [] d (onLane l f d) :=
  ⟨fun p out => by cases p <;> simp_all [same], fun k _ => getVal_of_regs (onLane_regs ..) k⟩

theorem within_noteSequence (l : Lane) (m : TenonMsg) : Within eventParts [0x10, 0x19] d (noteSequence l m d) := by
  have noted (d : Dev) (f : LaneState → LaneState) : Within eventParts [0x10, 0x19] d (onLane l f d) :=
    (within_onLane l f).mono (by simp [eventParts]) (by simp)
  have counted (d : Dev) (n : Int) : Within eventParts [0x10, 0x19] d (bumpBy 0x1042 0x05 n d) :=
    (within_setNum 0x1042 0x05 _).mono (by simp) (by simp [key])
  exact .ite (noted ..) ((noted ..).trans ((counted ..).trans ((within_raise ..).mono (by simp) (by simp))))

theorem within_noteCrcFailure (l : Lane) : Within [.barrier] [] d (noteCrcFailure l d) := .ite (within_onLane ..) (within_onLane ..)

/-- The receipt of a message is seen in the lanes, in what its events leave, and in the counters of the barrier's ports. -/
theorem within_receive (l : Lane) (m : TenonMsg) : Within eventParts [0x10, 0x19] d (receive l m d).1 := by
  have counted (sub : Nat) (low : sub < 256) (d : Dev) : Within eventParts [0x10, 0x19] d (bump 0x1042 sub d) :=
    (within_bump 0x1042 sub).mono (by simp) (by rw [key_group low]; simp)
  have failed (d : Dev) : Within eventParts [0x10, 0x19] d (noteCrcFailure l d) :=
    (within_noteCrcFailure l).mono (by simp [eventParts]) (by simp)
  unfold receive
  split
  · exact .rfl
  · split
    · exact (((counted _ (by cases l <;> decide) d).trans (.ite (failed _) .rfl)).trans (.ite (within_noteSequence ..) .rfl)).trans
        ((within_raise ..).mono (by simp) (by simp))
    · extract_lets noted
      split
      · exact (within_noteSequence ..).trans (counted _ (by decide) _)
      · exact within_noteSequence ..

theorem receive_isl : (receive l m d).1.isl = d.isl := (within_receive l m).isl_eq (by decide)
theorem receive_alloc : (receive l m d).1.alloc = d.alloc := (within_receive l m).alloc_eq (by decide)
theorem receive_out : (receive l m d).1.out = d.out := (within_receive l m).out_eq (by decide)

end Sys2Proof.Machine
end

section
/-! Writes to entries of the field side taken, from their checks to what they leave (R370, R470, R498). -/
namespace Sys2Proof.Machine
variable {c : Instr} {a : Ask} {s : State} {idx sub group : Nat} {parts : List Part} {H : Handler} {P : WriteCall → Dev → Prop}

section
variable (field : fieldHeld idx sub = true) (asked : askedBy c = some (.named idx sub a))
  (run : exec c s = done s (serveWrite idx sub a s.dev)) (handler : handlerOf idx sub = H)
include field asked run handler

/-- What a write to a value of the field side that is in no store gives: what the entry's handler does where its checks pass. -/
theorem takes_of_fieldValue {x : Acc} (kind : entryKind idx sub = some (x, .v)) (value : x ≠ .cmd)
    (work : ∀ w, w.sub = sub → w.key = key idx sub → H.checks w s.dev = [] →
      Within parts [group] s.dev (H.act w s.dev) ∧ ∀ b, P w { H.act w s.dev with barrier := b }) :
    Claims.Takes c s parts [group] P := by
  refine takes_at_port asked field run fun w r own own' row passes => ?_
  have checks := checks_of_passes passes
  obtain ⟨acc, keep⟩ := kind_of_row kind row
  rw [accept_of_value (acc ▸ value) keep]
  rw [own, own', handler] at checks ⊢
  obtain ⟨within, holds⟩ := work w own' (WriteCall.key_eq own own') checks
  exact ⟨within.mono (by simp) (by simp), holds⟩

/-- What a command entry of the field side gives: it shows the command done, and its handler does the rest. -/
theorem takes_of_fieldCommand (table : idx / 256 = group) (low : sub < 256) (kind : entryKind idx sub = some (.cmd, .v))
    (work : ∀ w d, H.checks w s.dev = [] → d = setNum idx sub 2 s.dev → Within parts [] d (H.act w d)
      ∧ ∀ b, Claims.Shown idx sub { H.act w d with barrier := b } → P w { H.act w d with barrier := b }) :
    Claims.Takes c s parts [group] P := by
  refine takes_at_port asked field run fun w r own own' row passes => ?_
  have checks := checks_of_passes passes
  obtain ⟨acc, keep⟩ := kind_of_row kind row
  rw [accept_of_cmd acc keep]
  rw [own, own', handler] at checks ⊢
  obtain ⟨within, holds⟩ := work w _ checks rfl
  have shown : Within [] [group] s.dev (setNum idx sub 2 s.dev) := (key_group low).trans table ▸ within_setNum ..
  exact ⟨(shown.mono (by simp) (by simp)).trans (within.mono (by simp) (by simp)),
    fun b => holds b ((within.num_eq (by simp)).trans (num_setNum_same ..))⟩
end

end Sys2Proof.Machine
end

section
/-! The claims on the allocator's planning: its cycle, its limits, and the data and the writes that it goes by (R149 to R152, R159, R177). -/
namespace Sys2Proof.Machine
variable {d : Dev} {s : State} {sub : Nat}

theorem within_onAlloc (f : Alloc → Alloc) : Within [.alloc] [] d (onAlloc f d) :=
  ⟨fun p out => by cases p <;> simp_all [same], fun _ _ => rfl⟩

/-! The cycle. -/

theorem length_computePlan (d : Dev) : (computePlan d).moves.length ≤ 16 := List.length_take_le ..

/-- The limits that a cycle puts in force go by whether the written ones have ended. -/
theorem gridLimits_planningCycle (d : Dev) : gridLimits (planningCycle d) = (if d.alloc.writtenAt = none
    then (nat d 0x2811 0x04, nat d 0x2811 0x05, true) else (d.alloc.written.1, d.alloc.written.2, false)) := by
  have fallback : (planningCycle d).alloc.fallback = d.alloc.writtenAt.isNone := rfl
  rw [gridLimits, fallback]
  cases d.alloc.writtenAt <;> rfl

theorem planningCycle_now (d : Dev) : (planningCycle d).time.now = nextMultiple (ms 20) d :=
  max_eq_right (Nat.le_add_right ..)

theorem planningCycle_holds : Claims.planningCycle := by
  refine fun s => ⟨fun runs whole => ?_, fun stopped => rests_of_done (congrArg (done s) (if_neg ?_))⟩
  · have work : exec .planningCycle s = done s (planningCycle s.dev) := congrArg (done s) (if_pos (by simp [runs, whole]))
    refine gives_of_done work ?_ ⟨planningCycle_now _, ⟨_, rfl, length_computePlan _⟩, rfl, rfl,
      gridLimits_planningCycle _, rfl, rfl, rfl⟩
    rw [planningCycle_now]
    exact Nat.le_add_right ..
  · obtain stopped | stopped := stopped <;> simp [stopped]

theorem planningOverrun_holds : Claims.planningOverrun := by
  refine fun s => ⟨fun p t computed began => ?_, fun idle => rests_of_done (congrArg (done s) ?_)⟩
  · have work : exec .planningOverrun s = done s (raise 1 .planningOverrun [] (bump 0x2817 0x0A
        (onAlloc (fun a => { a with next := none, overrun := true }) (reach (t + us 6500) s.dev)))) := by
      simp only [exec, execPlanningOverrun, computed, began]
    refine gives_of_done work (by simp [bump, bumpBy, setNum]) ?_
    rw [raise_alloc, raise_time, num_raise (by decide), num_bump_same]
    exact ⟨rfl, rfl, rfl, le_max_right .., rfl⟩
  · obtain none_ | none_ := idle
    · rw [none_]
    · rw [none_]
      cases s.dev.alloc.next <;> rfl

/-! What expires. -/

theorem gridLimits_of_frame {e : Dev} {parts : List Part} {groups : List Nat} (h : Within parts groups d e) (out : 0x28 ∉ groups)
    (fallback : e.alloc.fallback = d.alloc.fallback) (written : e.alloc.written = d.alloc.written) : gridLimits e = gridLimits d := by
  rw [gridLimits, gridLimits, fallback, written, h.nat_eq (idx := 0x2811) (sub := 0x04) out, h.nat_eq (idx := 0x2811) (sub := 0x05) out]

theorem gridLimitExpiry_holds : Claims.gridLimitExpiry := by
  refine fun s => ⟨fun t written => ?_, fun none_ => rests_of_done ?_⟩
  · have work : exec .gridLimitExpiry s = done s (raise 1 .gridLimitExpired []
        (onAlloc (fun a => { a with writtenAt := none }) (reach (t + sec (nat s.dev 0x2811 0x03)) s.dev))) := by
      simp only [exec, execGridLimitExpiry, written]
    refine gives_of_done work (by simp) ⟨?_, ?_, ?_⟩
    · rw [raise_alloc]
      rfl
    · rw [raise_time]
      exact le_max_right ..
    · exact gridLimits_of_frame (((within_reach _).mono (parts' := .alloc :: eventParts) (by simp) (by simp)).trans
        (((within_onAlloc _).mono (by simp) (by simp)).trans ((within_raise ..).mono (by simp) (List.Subset.refl _)))) (by simp)
        (by rw [raise_alloc]; rfl) (by rw [raise_alloc]; rfl)
  · simp only [exec, execGridLimitExpiry, none_]

theorem frontEndStale_holds : Claims.frontEndStale := by
  refine fun i s => ⟨fun t heard fresh => ?_, fun rests => rests_of_done (congrArg (done s) ?_)⟩
  · have work : exec (.frontEndStale i) s = done s (raise1 1 .frontEndStale i.val
        (onFront i (fun f => { f with stale := true }) (reach (t + ms 300) s.dev))) := by
      simp only [exec, execFrontEndStale, heard, fresh, Bool.false_eq_true, if_false]
    refine gives_of_done work (by simp [onFront]) ?_
    rw [raise1, raise_alloc, raise_time]
    exact ⟨upd_get_same .., le_max_right ..⟩
  · obtain never | stale := rests
    · rw [never]
    · simp only [stale, if_true]
      split <;> rfl

theorem frontEndStaleHoldExpiry_holds : Claims.frontEndStaleHoldExpiry := by
  refine fun i s => ⟨fun t heard stale => ?_, fun rests => rests_of_done (congrArg (done s) ?_)⟩
  · have work : exec (.frontEndStaleHoldExpiry i) s = done s (onFront i (fun f => { f with imp := 0, exp := 0, gone := true })
        (reach (t + ms 300 + ms (nat s.dev 0x2810 0x0C)) s.dev)) := by
      simp only [exec, execFrontEndStaleHoldExpiry, heard, stale, if_true]
    exact gives_of_done work (le_max_left ..) ⟨upd_get_same .., le_max_right ..⟩
  · obtain never | fresh := rests
    · rw [never]
    · simp only [fresh, Bool.false_eq_true, if_false]
      split <;> rfl

theorem releaseHoldExpiry_holds : Claims.releaseHoldExpiry := by
  refine fun h s => ⟨fun t since => ?_, fun none_ => rests_of_done ?_⟩
  · have work : exec (.releaseHoldExpiry h) s = done s (onAlloc (fun a => { a with surplusDue := upd a.surplusDue h (fun _ => true) })
        (reach (t + ms (nat s.dev 0x2810 0x04)) s.dev)) := by
      simp only [exec, execReleaseHoldExpiry, since]
    exact gives_of_done work (le_max_left ..) ⟨upd_get_same .., le_max_right ..⟩
  · simp only [exec, execReleaseHoldExpiry, none_]

/-! Site power data. -/

theorem frontData_front (i : Fin 8) (imp exp stamp : Nat) (d : Dev) : (frontData i imp exp stamp d).alloc.front[i]
    = if stamp < (d.alloc.front[i]).stamp then d.alloc.front[i] else ⟨imp, exp, stamp, some d.time.now, false, false⟩ := by
  unfold frontData
  split
  · rfl
  · exact upd_get_same ..

/-- A fact about an outlet stands where a change of an outlet keeps it. -/
theorem onOut_keeps {β : Type} (g : Outlet → β) {f : Outlet → Outlet} {k j : Fin 12} (h : ∀ o, g (f o) = g o) :
    g ((onOut k f d).out[j]) = g d.out[j] := upd_get_keeps g h

theorem raiseCause_imd (k : Fin 12) (c : Nat) (d : Dev) : ((raiseCause k c d).out[k]).imd = (d.out[k]).imd := onOut_keeps Outlet.imd fun _ => rfl

/-- A reading of an outlet's IMD is taken where its status makes it one. -/
theorem imdReading_imd {k : Fin 12} {x : ImdReading} (low : 1 ≤ x.status) (high : x.status ≤ 3) :
    ((imdReading k x d).out[k]).imd = some x := by
  rw [imdReading, if_neg (by omega)]
  extract_lets taken o c judged
  have takes : (taken.out[k]).imd = some x := congrArg Outlet.imd (upd_get_same ..)
  have judges : (judged.out[k]).imd = some x := (onOut_keeps (f := fun o => { o with insul := c }) Outlet.imd fun _ => rfl).trans takes
  split
  · split
    · exact (raiseCause_imd ..).trans judges
    · exact judges
  · exact takes

theorem newerReading_of_newer {k : Fin 12} {x : ImdReading} (newer : ∀ y, (d.out[k]).imd = some y → y.stamp ≤ x.stamp) :
    newerReading k x d = imdReading k x d := by
  unfold newerReading
  split
  · rename_i y held
    exact if_neg (not_lt.2 (newer y held))
  · rfl

theorem outIdx_group {t sub : Nat} (k : Fin 12) (small : t < 16) (low : sub < 256) : key (outIdx k t) sub / 65536 = 0x30 := by
  rw [key_group low, outIdx]
  omega

section
variable {m : TenonMsg} {e : Dev} {ok : Bool} (got : receive .hf m s.dev = (e, ok))
include got

/-- Site power data is only received where it is not heard. -/
theorem execSitePowerData_of_unheard {x : SiteData} (rests : (ok && hdrType m.header == 0x0B && up 1 e) = false) :
    exec (.sitePowerData m x) s = done s e := by
  simp only [exec, execSitePowerData, got, rests, Bool.false_eq_true, if_false]

theorem execSitePowerData_frontEnd {i : Fin 8} {imp exp st stamp : Nat} (heard : (ok && hdrType m.header == 0x0B && up 1 e) = true) :
    exec (.sitePowerData m (.frontEnd i imp exp st stamp)) s
      = done s (if st = 1 ∨ st = 2 then frontData i imp exp stamp e else frontData i 0 0 stamp e) := by
  simp only [exec, execSitePowerData, got, heard, if_true]

theorem execSitePowerData_imd {k : Fin 12} {kohm st : Nat} {stamp : Int} (heard : (ok && hdrType m.header == 0x0B && up 1 e) = true)
    (bus : nat e (outIdx k 1) 0x08 / 256 = 1) :
    exec (.sitePowerData m (.imd k kohm st stamp)) s = done s (newerReading k ⟨kohm, st, stamp⟩ e) := by
  simp only [exec, execSitePowerData, got, heard, if_true, bus]
end

theorem sitePowerData_holds : Claims.sitePowerData := by
  intro m s
  obtain ⟨e, ok, got⟩ : ∃ e ok, receive .hf m s.dev = (e, ok) := ⟨_, _, rfl⟩
  have received : e = (receive .hf m s.dev).1 := congrArg Prod.fst got.symm
  have now : e.time = s.dev.time := by rw [received, receive_time]
  have passes (heard : Claims.heard .hf 0x0B m s.dev) (runs : up 1 s.dev = true) : (ok && hdrType m.header == 0x0B && up 1 e) = true := by
    obtain ⟨accepted, type⟩ := heard
    rw [got] at accepted
    rw [up, received, receive_isl, ← up, runs, type]
    simpa using accepted
  refine ⟨fun i imp exp st stamp heard runs => ?_, fun k kohm st stamp heard runs low high bus newer => ?_, fun x rests => ?_⟩
  · refine gives_of_done (execSitePowerData_frontEnd got (passes heard runs)) ?_ ?_
    · split <;> simp [now]
    · rw [apply_ite (fun e : Dev => e.alloc.front[i]), frontData_front, frontData_front, received, receive_alloc, receive_time]
      split_ifs <;> rfl
  · have bus' : nat e (outIdx k 1) 0x08 / 256 = 1 := by rwa [received, (within_receive .hf m).nat_eq (by simp [outIdx_group])]
    refine gives_of_done (execSitePowerData_imd got (passes heard runs) bus') (by simp [now]) ?_
    rw [newerReading_of_newer (by rwa [received, receive_out]), imdReading_imd low high]
  · refine (execSitePowerData_of_unheard got (Bool.eq_false_iff.2 fun heard => ?_)).trans (congrArg (done s) received)
    simp only [Bool.and_eq_true, beq_iff_eq] at heard
    obtain ⟨⟨accepted, type⟩, runs⟩ := heard
    obtain unheard | stopped := rests
    · exact unheard ⟨by rw [got]; exact accepted, type⟩
    · rw [up, received, receive_isl, ← up, stopped] at runs
      cases runs

/-! Writes. -/

theorem gridLimit_entry (low : 1 ≤ sub) (high : sub ≤ 3) : handlerOf 0x2811 sub = gridLimitHandler
    ∧ entryKind 0x2811 sub = some (.own, .v) := by
  interval_cases sub <;> exact ⟨rfl, by decide⟩

theorem gridLimitWrite_holds : Claims.gridLimitWrite := by
  intro a sub s low high
  obtain ⟨handler, kind⟩ := gridLimit_entry low high
  refine takes_of_fieldValue rfl rfl rfl handler kind (by decide) fun w own key _ => ?_
  have written : Within [] [0x28] s.dev (plainAct w s.dev) :=
    (within_plainAct_of_key key).mono (List.Subset.refl _) (by rw [key_group (by omega)]; simp)
  have stands : getVal (plainAct w s.dev) _ = w.val := getVal_plainAct_same key
  by_cases lifetime : sub = 3
  · have act : gridLimitHandler.act w s.dev = plainAct w s.dev := if_pos (own.trans lifetime)
    rw [act]
    exact ⟨written.mono (by simp) (by simp), fun b => ⟨stands, fun limit => by omega, fun _ => rfl⟩⟩
  · have act : gridLimitHandler.act w s.dev = gridWrite (plainAct w s.dev) := if_neg fun e => lifetime (own.symm.trans e)
    rw [act]
    exact ⟨(written.mono (by simp) (by simp)).trans ((within_onAlloc _).mono (by simp) (by simp)),
      fun b => ⟨stands, fun _ => rfl, fun e => absurd e lifetime⟩⟩

theorem allocatorRestarts_eq_nil : allocatorRestarts d = [] ↔ d.ring.restart = false := failing_eq_nil

theorem replan_holds : Claims.replan := by
  intro a s
  refine takes_of_fieldCommand rfl rfl rfl rfl (by decide) (by decide) (by decide) fun w d passes begun => ?_
  subst begun
  exact ⟨within_onAlloc _, fun b shown => ⟨allocatorRestarts_eq_nil.1 passes, shown, fun h => tab_get ..⟩⟩

theorem layoutHold_kind : entryKind 0x2810 0x0D = some (.own, .v) := by decide

theorem layoutHoldWrite_holds : Claims.layoutHoldWrite := by
  intro a s
  exact takes_of_fieldValue rfl rfl rfl rfl layoutHold_kind (by decide) fun w own key passes =>
    ⟨within_plainAct_of_key key, fun b => ⟨allocatorRestarts_eq_nil.1 passes, getVal_plainAct_same key⟩⟩

/-- Settles O38: the cycle and what expires by the equation of their work, what is received by the frame of its receipt, each write by the
checks and the handler of its entry. -/
theorem planningCommands : Obligations.PlanningCommands :=
  ⟨planningCycle_holds, planningOverrun_holds, gridLimitExpiry_holds, frontEndStale_holds, frontEndStaleHoldExpiry_holds,
    sitePowerData_holds, releaseHoldExpiry_holds, gridLimitWrite_holds, replan_holds, layoutHoldWrite_holds⟩

end Sys2Proof.Machine
end

section
/-! What the operations on moves leave: the move, the plan, and the parts that they do not touch (R162 to R173). -/
namespace Sys2Proof.Machine
variable {d e : Dev} {parts : List Part} {groups : List Nat} {i : Nat} {m : PlanMove}

/-! The moves of the plan. -/

theorem getElem?_editAt {α : Type} (f : α → α) (i : Nat) (l : List α) : (editAt f i l)[i]? = l[i]?.map f := by
  induction l generalizing i with
  | nil => simp [editAt]
  | cons a l ih =>
    cases i with
    | zero => rfl
    | succ i => exact ih i

theorem moveAt_of_alloc (h : e.alloc = d.alloc) : moveAt i e = moveAt i d := by rw [moveAt, moveAt, h]

theorem Within.moveAt_eq (h : Within parts groups d e) (out : Part.alloc ∉ parts) : moveAt i e = moveAt i d :=
  moveAt_of_alloc (h.alloc_eq out)

theorem moveAt_onMove (f : PlanMove → PlanMove) (found : moveAt i d = some m) : moveAt i (onMove i f d) = some (f m) := by
  have edited : moveAt i (onMove i f d) = (moveAt i d).map f := getElem?_editAt ..
  rw [edited, found, Option.map_some]

theorem moveAt_enterPhase (p : MovePhase) (found : moveAt i d = some m) :
    moveAt i (enterPhase i p d) = some { m with phase := p, phaseAt := d.time.now } := moveAt_onMove _ found

theorem moveAt_grantsPeriod : moveAt i (grantsPeriod d) = moveAt i d := rfl

theorem alloc_onMove {f : PlanMove → PlanMove} (h : e.alloc = d.alloc) : (onMove i f e).alloc = (onMove i f d).alloc := by
  rw [onMove, onMove, onAlloc_alloc, onAlloc_alloc, h]

theorem within_onMove (i : Nat) (f : PlanMove → PlanMove) : Within [.alloc] [] d (onMove i f d) := within_onAlloc _

theorem within_enterPhase (i : Nat) (p : MovePhase) : Within [.alloc] [] d (enterPhase i p d) := within_onMove ..

/-! Generators and contactors of a move. -/

theorem within_takeGenerator (g : Fin 28) (p target : Rat) : Within [.eng] [] d (takeGenerator g p target d) := within_onGen ..
theorem within_giveGenerator (g : Fin 28) : Within [.eng] [] d (giveGenerator g d) := within_onGen ..
theorem within_genShare (g : Fin 28) (share : Rat) : Within [.eng] [] d (genShare g share d) := within_onGen ..

theorem within_withdraw (m : PlanMove) : Within [.ring, .brick] [] d (withdraw m d) := by
  unfold withdraw
  split
  · exact within_onContactor ..
  · exact .rfl

/-- A withdrawn request asks for what is commanded. -/
theorem contactor_withdraw {x : ContactorId} (own : moveContactor m = some x) :
    contactor x (withdraw m d) = { contactor x d with want := (contactor x d).cmd } := by
  rw [withdraw, own]
  exact contactor_onContactor_same ..

theorem Within.contactor_eq (h : Within parts groups d e) (out : Part.ring ∉ parts ∧ Part.brick ∉ parts) (x : ContactorId) :
    contactor x e = contactor x d := by
  cases x with
  | tie | outlet => simp only [contactor, h.ring_eq out.1]
  | brick => simp only [contactor, h.brick_eq out.2]

theorem within_beginTie (j tie : Fin 12) : Within [.leg, .rail, .eng] [] d (beginTie j tie d) := by
  unfold beginTie
  split
  · exact (within_beginTrack ..).trans ((within_onRail ..).mono (by simp) (by simp))
  · exact .rfl

/-! The end of a move. -/

theorem within_sendAllocation : Within [.barrier] [] d (sendAllocation d) := by
  rw [sendAllocation, enqueue_frame]
  exact within_barrier _

/-- The end of a move is seen in its generator, the allocator, the counters of ends, and what its events and its message leave. -/
theorem within_endMove (i : Nat) (st : MoveState) (cause : MoveCause) :
    Within (.eng :: .alloc :: eventParts) [0x19, 0x28] d (endMove i st cause d) := by
  have raised (d : Dev) (x : EventName) (b : List Byte) : Within (.eng :: .alloc :: eventParts) [0x19, 0x28] d (raise 1 x b d) :=
    (within_raise ..).mono (by simp) (by simp)
  have counted (d : Dev) (sub : Nat) (low : sub < 256) : Within (.eng :: .alloc :: eventParts) [0x19, 0x28] d (bump 0x2817 sub d) :=
    (within_bump 0x2817 sub).mono (by simp) (by rw [key_group low]; simp)
  have alloc (d : Dev) (f : Alloc → Alloc) : Within (.eng :: .alloc :: eventParts) [0x19, 0x28] d (onAlloc f d) :=
    (within_onAlloc f).mono (by simp) (by simp)
  unfold endMove
  split
  · exact .rfl
  · rename_i m _
    extract_lets given h closed capped ended record told reported
    have gives : Within (.eng :: .alloc :: eventParts) [0x19, 0x28] d given := by
      unfold given
      split
      · exact (within_giveGenerator _).mono (by simp) (by simp)
      · exact .rfl
    have ends : Within (.eng :: .alloc :: eventParts) [0x19, 0x28] d ended :=
      ((gives.trans (alloc ..)).trans (within_foldl fun _ _ => alloc ..)).trans (alloc ..)
    have tells : Within (.eng :: .alloc :: eventParts) [0x19, 0x28] d told := ends.trans (.ite .rfl (raised ..))
    have reports : Within (.eng :: .alloc :: eventParts) [0x19, 0x28] d reported := by
      unfold reported
      split
      · exact (tells.trans (counted _ _ (by decide))).trans (raised ..)
      · exact (tells.trans (counted _ _ (by decide))).trans (raised ..)
      · exact tells
    exact reports.trans (.ite .rfl (within_sendAllocation.mono (by simp [eventParts]) (by simp)))

/-- Of the allocator the end of a move changes that move's record, the ceilings of grants and the count of ends. -/
theorem alloc_endMove (st : MoveState) (cause : MoveCause) (found : moveAt i d = some m) : ∃ f c n,
    (endMove i st cause d).alloc = { (onMove i f d).alloc with ceiling := c, ended := n } ∧ (f m).state = st ∧ (f m).cause = cause
      ∧ (f m).gen = none ∧ (f m).kind = m.kind ∧ (f m).object = m.object ∧ (f m).started = m.started := by
  rw [endMove, found]
  dsimp -zeta only
  extract_lets given h closed capped ended record told reported
  have gives : given.alloc = d.alloc := by
    unfold given
    split <;> rfl
  have closes : closed.alloc = _ := alloc_onMove gives
  have caps : ∃ c, capped.alloc = { closed.alloc with ceiling := c } :=
    List.foldlRecOn (motive := fun e : Dev => ∃ c, e.alloc = { closed.alloc with ceiling := c }) _ _ ⟨_, rfl⟩
      fun e ⟨c, h⟩ k _ => ⟨_, by rw [onAlloc_alloc, h]⟩
  have tells : told.alloc = ended.alloc := by
    unfold told
    split
    · rfl
    · exact raise_alloc ..
  have reports : reported.alloc = told.alloc := by
    unfold reported
    split
    · rw [raise1, raise_alloc, (within_bump ..).alloc_eq (by decide)]
    · rw [raise1, raise_alloc, (within_bump ..).alloc_eq (by decide)]
    · rfl
  obtain ⟨c, caps⟩ := caps
  refine ⟨fun m => { m with
    state := st
    cause := cause
    gen := none
    held := false
    elapsed := min 65535 ((given.time.now - m.started) / ms 1) }, c, capped.alloc.ended + 1, ?_, rfl, rfl, rfl, rfl, rfl, rfl⟩
  rw [apply_ite Dev.alloc, within_sendAllocation.alloc_eq (by decide), ite_self, reports, tells, onAlloc_alloc, caps, closes]

theorem moveAt_endMove (st : MoveState) (cause : MoveCause) (found : moveAt i d = some m) : ∃ x, moveAt i (endMove i st cause d) = some x
    ∧ x.state = st ∧ x.cause = cause ∧ x.gen = none ∧ x.kind = m.kind ∧ x.object = m.object ∧ x.started = m.started := by
  obtain ⟨f, c, n, alloc, record⟩ := alloc_endMove st cause found
  exact ⟨f m, (congrArg (fun a : Alloc => a.plan.moves[i]?) alloc).trans (moveAt_onMove f found), record⟩

theorem restoreAfter_endMove (st : MoveState) (cause : MoveCause) (found : moveAt i d = some m) :
    (endMove i st cause d).alloc.restoreAfter = d.alloc.restoreAfter := by
  obtain ⟨f, c, n, alloc, -⟩ := alloc_endMove st cause found
  rw [alloc]
  rfl

/-! The first step of a move: its record stays but for its phase and its generator, or it is done. -/

theorem moveAt_handover (g : Fin 28) (p target : Rat) (found : moveAt i d = some m) : ∃ x,
    moveAt i (enterPhase i .handover (onMove i (fun m => { m with gen := some g }) (takeGenerator g p target d))) = some x
      ∧ x.kind = m.kind ∧ x.object = m.object ∧ x.started = m.started ∧ (x.state = m.state ∨ x.state = .done) := by
  have taken : moveAt i (takeGenerator g p target d) = some m := ((within_takeGenerator ..).moveAt_eq (by decide)).trans found
  exact ⟨_, moveAt_enterPhase _ (moveAt_onMove _ taken), rfl, rfl, rfl, .inl rfl⟩

theorem moveAt_done (cause : MoveCause) (found : moveAt i d = some m) : ∃ x, moveAt i (endMove i .done cause d) = some x
    ∧ x.kind = m.kind ∧ x.object = m.object ∧ x.started = m.started ∧ (x.state = m.state ∨ x.state = .done) := by
  obtain ⟨x, there, state, -, -, kind, object, started⟩ := moveAt_endMove .done cause found
  exact ⟨x, there, kind, object, started, .inr state⟩

theorem within_shedLeg (n : Fin 96) (cause : ShedCause) : Within [.leg] [] d (shedLeg n cause d) := within_onLeg ..

theorem moveAt_beginRelease (g : Option (Fin 28)) (found : moveAt i d = some m) : ∃ x, moveAt i (beginRelease i g d) = some x
    ∧ x.kind = m.kind ∧ x.object = m.object ∧ x.started = m.started ∧ (x.state = m.state ∨ x.state = .done) := by
  rw [beginRelease, found]
  dsimp -zeta only
  extract_lets h act ng after
  split
  · unfold after
    split
    · exact moveAt_done _ (((within_foldl fun _ _ => within_shedLeg ..).moveAt_eq (by decide)).trans found)
    · exact ⟨_, moveAt_enterPhase _ found, rfl, rfl, rfl, .inl rfl⟩
  · split
    · exact moveAt_handover _ _ _ found
    · exact ⟨_, found, rfl, rfl, rfl, .inl rfl⟩

theorem moveAt_beginTake (g : Option (Fin 28)) (p : Rat) (found : moveAt i d = some m) : ∃ x, moveAt i (beginTake i g p d) = some x
    ∧ x.kind = m.kind ∧ x.object = m.object ∧ x.started = m.started ∧ (x.state = m.state ∨ x.state = .done) := by
  unfold beginTake
  split
  · extract_lets
    split
    · exact moveAt_done _ found
    · exact moveAt_handover _ _ _ found
  · exact ⟨_, found, rfl, rfl, rfl, .inl rfl⟩

/-! Moves turned back. -/

/-- A move turned back withdraws its request; then its generator goes back, or a join waits for its tie to open, or the move has ended. -/
theorem reverseMove_cases (cause : MoveCause) (found : moveAt i d = some m) : ∃ e f, e = withdraw m (onMove i f d)
    ∧ (f m).state = .reversing ∧ (f m).cause = cause ∧ ((∃ g share, reverseMove i cause d = genShare g share e)
      ∨ reverseMove i cause d = enterPhase i .openWait e ∨ reverseMove i cause d = endMove i .reversed cause e) := by
  rw [reverseMove, found]
  dsimp -zeta only
  extract_lets turned e back live
  refine ⟨e, _, rfl, rfl, rfl, ?_⟩
  split
  · split
    · exact .inl ⟨_, _, rfl⟩
    · exact .inr (ite_eq_or_eq ..)
  · exact .inr (ite_eq_or_eq ..)

theorem moveAt_withdraw (found : moveAt i d = some m) (q : PlanMove) : moveAt i (withdraw q d) = some m :=
  ((within_withdraw q).moveAt_eq (by decide)).trans found

/-- A move turned back is under way in reverse or has been reversed, for the cause, with its request withdrawn. -/
theorem reverseMove_spec (cause : MoveCause) (found : moveAt i d = some m) : (∃ x, moveAt i (reverseMove i cause d) = some x
      ∧ (x.state = .reversing ∨ x.state = .reversed) ∧ x.cause = cause)
    ∧ ∀ c, moveContactor m = some c → (contactor c (reverseMove i cause d)).want = (contactor c d).cmd := by
  obtain ⟨e, f, rfl, state, because, cases_⟩ := reverseMove_cases cause found
  have turned : moveAt i (withdraw m (onMove i f d)) = some (f m) := moveAt_withdraw (moveAt_onMove _ found) m
  have withdrawn (c : ContactorId) (own : moveContactor m = some c) :
      (contactor c (withdraw m (onMove i f d))).want = (contactor c d).cmd := by
    rw [contactor_withdraw own, (within_onMove ..).contactor_eq (by decide)]
  obtain ⟨g, share, back⟩ | waits | ended := cases_
  · rw [back]
    exact ⟨⟨f m, ((within_genShare ..).moveAt_eq (by decide)).trans turned, .inl state, because⟩, fun c own => by
      rw [(within_genShare ..).contactor_eq (by decide), withdrawn c own]⟩
  · rw [waits]
    exact ⟨⟨_, moveAt_enterPhase _ turned, .inl state, because⟩, fun c own => by
      rw [(within_enterPhase ..).contactor_eq (by decide), withdrawn c own]⟩
  · rw [ended]
    obtain ⟨x, there, reversed, why, -⟩ := moveAt_endMove .reversed cause turned
    exact ⟨⟨x, there, .inr reversed, why⟩, fun c own => by
      rw [(within_endMove ..).contactor_eq (by decide), withdrawn c own]⟩

/-- A move that waits for its permit fails with its request withdrawn. -/
theorem failMove_of_permitWait (cause : MoveCause) (found : moveAt i d = some m) (waits : m.phase = .permitWait) :
    failMove i cause d = endMove i .failed cause (withdraw m d) := by
  rw [failMove, found]
  dsimp only
  rw [if_neg (by simp [waits])]

end Sys2Proof.Machine
end

section
/-! The claims on the moves of a plan: their start, the end of a handover, and their waits (R164 to R172, Tables 6.3 and 6.4). -/
namespace Sys2Proof.Machine
variable {d : Dev} {s : State} {i : Nat} {m : PlanMove}

/-! The start. -/

/-- A move that starts stands as it was planned, started now: a join tracks and a restore waits for its permit (Table 6.3). -/
theorem moveAt_moveStart (found : moveAt i d = some m) (may : mayBegin i m d = true) : ∃ x, moveAt i (moveStart i d) = some x
    ∧ x.kind = m.kind ∧ x.object = m.object ∧ x.started = d.time.now ∧ x.state ≠ .queued
    ∧ (m.kind = .join → x.state = .running ∧ x.phase = .track)
    ∧ (m.kind = .restore → x.state = .running ∧ x.phase = .permitWait) := by
  rw [moveStart, found]
  dsimp -zeta only
  rw [if_neg (by simp [may])]
  extract_lets group e g taken given served n mean
  have begun : moveAt i e = some _ := moveAt_onMove _ found
  have under {x : PlanMove} (state : x.state = .running ∨ x.state = .done) : x.state ≠ .queued := by
    obtain state | state := state <;> simp [state]
  rw [moveAt_grantsPeriod]
  split
  case h_1 join =>
    have takes : moveAt i taken = some _ := moveAt_onMove _ begun
    have gives : moveAt i given = moveAt i taken := by
      clear_value g
      cases g with
      | some x => exact (within_takeGenerator ..).moveAt_eq (by decide)
      | none => rfl
    exact ⟨_, moveAt_enterPhase _ (((within_beginTie ..).moveAt_eq (by decide)).trans (gives.trans takes)), rfl, rfl, rfl, under (.inl rfl),
      fun _ => ⟨rfl, rfl⟩, fun restore => by simp [join] at restore⟩
  case h_2 kind | h_3 kind | h_4 kind =>
    obtain ⟨x, there, same_, object, started, state⟩ := moveAt_beginRelease g begun
    exact ⟨x, there, same_, object, started, under state, fun join => by simp [kind] at join, fun restore => by simp [kind] at restore⟩
  case h_5 kind =>
    have serves : moveAt i served = some _ := ((within_foldl fun _ _ => within_legToService _).moveAt_eq (by decide)).trans begun
    obtain ⟨x, there, same_, object, started, state⟩ := moveAt_beginTake g mean serves
    exact ⟨x, there, same_, object, started, under state, fun join => by simp [kind] at join, fun restore => by simp [kind] at restore⟩
  case h_6 restore =>
    exact ⟨_, moveAt_enterPhase _ begun, rfl, rfl, rfl, under (.inl rfl), fun join => by simp [restore] at join, fun _ => ⟨rfl, rfl⟩⟩

theorem moveStart_holds : Claims.moveStart := by
  refine fun n s => ⟨fun m runs found may => ?_, fun rests => rests_of_done (congrArg (done s) ?_)⟩
  · exact gives_of_done (congrArg (done s) (if_pos runs)) (by simp) (moveAt_moveStart found may)
  · obtain stopped | none_ | ⟨m, found, waits⟩ := rests
    · exact if_neg (by simp [stopped])
    · rw [moveStart, none_, ite_self]
    · rw [moveStart, found]
      simp [waits]

/-! The end of a handover. -/

/-- A run over a group in which each step takes its own leg out of service, and puts none into it, takes the group out of service. -/
theorem foldl_takesOut {f : Dev → Fin 96 → Dev} {group : List (Fin 96)} {l : Fin 96} (own : ∀ d n, inService (f d n).leg[n] = false)
    (stays : ∀ d n, inService d.leg[l] = false → inService (f d n).leg[l] = false) (mem : l ∈ group) :
    inService (group.foldl f d).leg[l] = false := by
  induction group generalizing d with
  | nil => cases mem
  | cons n group ih =>
    obtain rfl | mem := List.mem_cons.1 mem
    · exact List.foldlRecOn (motive := fun e : Dev => inService e.leg[l] = false) group f (own d l) fun e h n _ => stays e n h
    · exact ih mem

theorem inService_shedLeg (n : Fin 96) (cause : ShedCause) (d : Dev) : inService (shedLeg n cause d).leg[n] = false := by
  rw [shedLeg, onLeg_leg_same]
  rfl

theorem inService_shedLeg_of_out {l : Fin 96} (n : Fin 96) (cause : ShedCause) (out : inService d.leg[l] = false) :
    inService (shedLeg n cause d).leg[l] = false := by
  by_cases own : l = n
  · rw [own]
    exact inService_shedLeg ..
  · have other : (shedLeg n cause d).leg[l] = d.leg[l] := upd_get_other _ _ _ _ own
    rw [other, out]

/-- The end of a running handover whose generator rests at its target. A group that gives its current away goes on where the rest can carry
it; one that takes its share is done where it is within the tolerance, and is re-targeted otherwise. -/
theorem handoverEnd_of_target {g : Fin 28} {h : Fin 12} {ng : Nat} (found : moveAt i d = some m) (running : m.state = .running)
    (phase : m.phase = .handover) (gen : m.gen = some g) (target : genAtTarget g d = true) (segment : segOf m.rail d = h)
    (active : (activeLegs h d).countP (fun x => m.group.contains x) = ng) : handoverEnd i d = if frees m then
        if ng ≠ 0 ∧ 0 < heldShare h ng ((activeLegs h d).length - ng) d then d
        else if m.kind = .shedLegs then
          endMove i .done .none (m.group.foldl (fun d n => if inService d.leg[n] then shedLeg n .move d else d) d)
        else enterPhase i .openWait d
      else if ng = 0 ∨ |genVal (d.eng.gen[g]).p / 10 - equalShare h d| ≤ (num d 0x2810 0x09 : Rat) / 10 then endMove i .done .none d
      else genShare g (equalShare h d) d := by
  have toZero : (true == (m.kind == .split || m.kind == .shedLegs || m.kind == .isolate)) = frees m := Bool.true_beq _
  subst segment active
  rw [handoverEnd, found]
  dsimp -zeta only
  rw [if_neg (by simp [phase, underWay, running])]
  simp only [gen, target, running, Bool.not_true, Bool.false_eq_true, false_and, if_false, beq_self_eq_true, if_true, toZero]
  refine ite_congr rfl (fun gives => ite_congr rfl (fun _ => rfl) fun _ => ?_) fun _ => rfl
  cases kind : m.kind with
  | addLegs => simp [frees, kind] at gives
  | _ => rfl

theorem handoverEnd_holds : Claims.handoverEnd := by
  refine fun n s m found => ⟨fun g running phase gen target => ?_, fun rests => rests_of_done (congrArg (done s) ?_)⟩
  · have ends := handoverEnd_of_target found running phase gen target rfl rfl
    refine ⟨fun kind carried => ?_, fun kind carried => ?_, fun kind close_ => ?_⟩
    · have gives : frees m = true := by obtain kind | kind := kind <;> simp [frees, kind]
      rw [if_pos gives, if_neg fun ⟨some_, held⟩ => carried.elim some_ (not_le.2 held),
        if_neg (by obtain kind | kind := kind <;> simp [kind])] at ends
      exact gives_of_done (congrArg (done s) ends) (by simp) (moveAt_enterPhase _ found)
    · have gives : frees m = true := by simp [frees, kind]
      rw [if_pos gives, if_neg fun ⟨some_, held⟩ => carried.elim some_ (not_le.2 held), if_pos kind] at ends
      have shed : Within [.leg] [] s.dev (m.group.foldl (fun d n => if inService d.leg[n] then shedLeg n .move d else d) s.dev) :=
        within_foldl fun _ _ => .ite (within_shedLeg ..) .rfl
      obtain ⟨x, there, state, -, given, -⟩ := moveAt_endMove .done .none ((shed.moveAt_eq (by decide)).trans found)
      refine gives_of_done (congrArg (done s) ends) ?_ ⟨⟨x, there, state, given⟩, fun l mem => ?_⟩
      · rw [endMove_time]
        exact (shed.1 .time (by decide)).1
      · rw [(within_endMove ..).leg_eq (by decide)]
        refine foldl_takesOut (fun d n => ?_) (fun d n out => ?_) mem
        · split
          · exact inService_shedLeg ..
          · exact Bool.eq_false_of_not_eq_true ‹_›
        · split
          · exact inService_shedLeg_of_out _ _ out
          · exact out
    · have takes : ¬ frees m = true := by obtain kind | kind := kind <;> simp [frees, kind]
      obtain ⟨x, there, state, -, given, -⟩ := moveAt_endMove .done .none found
      rw [if_neg takes] at ends
      exact gives_of_done (congrArg (done s) (ends.trans (if_pos close_))) (by simp) ⟨x, there, state, given⟩
  · rw [handoverEnd, found]
    exact if_pos (rests.imp_right fun idle => by simp [idle])

/-! What a move waits for. -/

theorem idle_of_waits {p : MovePhase} (waits : m.phase ≠ p ∨ underWay m = false) : m.phase ≠ p ∨ (!underWay m) = true :=
  waits.imp_right fun idle => by simp [idle]

theorem underWay_of_reversing (reversing : m.state = .reversing) : underWay m = true := by simp [underWay, reversing]
theorem underWay_of_running (running : m.state = .running) : underWay m = true := by simp [underWay, running]

/-- A move under way in a phase is not at rest in it. -/
theorem not_idle {p : MovePhase} (phase : m.phase = p) (under : underWay m = true) : ¬ (m.phase ≠ p ∨ (!underWay m) = true) := by
  simp [phase, under]

theorem moveAt_reach (t : Nat) : moveAt i (reach t d) = moveAt i d := rfl

theorem handoverTimeout_holds : Claims.handoverTimeout := by
  refine fun n s m found => ⟨fun phase running => ?_, fun phase reversing => ?_, fun waits => rests_of_done (congrArg (done s) ?_)⟩
  · have work : exec (.handoverTimeout n) s
        = done s (reverseMove n.val .handoverTimeout (reach (m.phaseAt + ms (nat s.dev 0x2810 0x08)) s.dev)) := by
      simp only [exec, execHandoverTimeout, found]
      rw [if_neg (not_idle phase (underWay_of_running running)), if_pos running]
    obtain ⟨⟨x, there, state, cause⟩, -⟩ :=
      reverseMove_spec .handoverTimeout ((moveAt_reach (m.phaseAt + ms (nat s.dev 0x2810 0x08))).trans found)
    exact gives_of_done work (by simp) ⟨x, there, state, cause, by simp⟩
  · have work : exec (.handoverTimeout n) s
        = done s (endMove n.val .failed .handoverTimeout (reach (m.phaseAt + ms (nat s.dev 0x2810 0x08)) s.dev)) := by
      simp only [exec, execHandoverTimeout, found]
      rw [if_neg (not_idle phase (underWay_of_reversing reversing)), if_neg (by simp [reversing])]
    obtain ⟨x, there, state, cause, given, -⟩ := moveAt_endMove .failed .handoverTimeout ((moveAt_reach _).trans found)
    exact gives_of_done work (by simp) ⟨x, there, state, cause, given⟩
  · rw [found]
    exact if_pos (idle_of_waits waits)

theorem openWaitLimit_holds : Claims.openWaitLimit := by
  refine fun n s m found => ⟨fun phase running => ?_, fun phase reversing => ?_, fun waits => rests_of_done (congrArg (done s) ?_)⟩
  · have work : exec (.openWaitLimit n) s
        = done s (reverseMove n.val .openRefused (withdraw m (reach (m.phaseAt + ms (nat s.dev 0x2810 0x0A)) s.dev))) := by
      simp only [exec, execOpenWaitLimit, found]
      rw [if_neg (not_idle phase (underWay_of_running running)), if_pos running]
    obtain ⟨⟨x, there, state, cause⟩, withdrawn⟩ :=
      reverseMove_spec .openRefused (moveAt_withdraw ((moveAt_reach (m.phaseAt + ms (nat s.dev 0x2810 0x0A))).trans found) m)
    refine gives_of_done work (by simp) ⟨x, there, state, cause, fun c own => ?_, by simp⟩
    rw [withdrawn c own, contactor_withdraw own, (within_reach _).contactor_eq (by decide)]
  · have work : exec (.openWaitLimit n) s
        = done s (endMove n.val .failed .openRefused (withdraw m (reach (m.phaseAt + ms (nat s.dev 0x2810 0x0A)) s.dev))) := by
      simp only [exec, execOpenWaitLimit, found]
      rw [if_neg (not_idle phase (underWay_of_reversing reversing)), if_neg (by simp [reversing])]
    obtain ⟨x, there, state, cause, -⟩ := moveAt_endMove .failed .openRefused (moveAt_withdraw ((moveAt_reach _).trans found) m)
    exact gives_of_done work (by simp) ⟨x, there, state, cause⟩
  · rw [found]
    exact if_pos (idle_of_waits waits)

/-- A restore without its permit bars its brick for the limit, and fails with its request withdrawn. -/
theorem restoreWaitLimit_fails {n : Fin 16} (found : moveAt n.val s.dev = some m) (phase : m.phase = .permitWait) (under : underWay m = true) :
    ∃ barred : Dev, exec (.restoreWaitLimit n) s = done s (endMove n.val .failed .noPermit (withdraw m barred))
      ∧ moveAt n.val barred = some m ∧ barred.time = (reach (m.phaseAt + sec (nat s.dev 0x2810 0x0B)) s.dev).time
      ∧ barred.alloc.restoreAfter[Fin.ofNat 24 m.object] = barred.time.now + sec (nat s.dev 0x2810 0x0B) := by
  have limit : exec (.restoreWaitLimit n) s = done s (failMove n.val .noPermit (onAlloc (fun a => { a with
      restoreAfter := upd a.restoreAfter (Fin.ofNat 24 m.object) fun _ =>
        (reach (m.phaseAt + sec (nat s.dev 0x2810 0x0B)) s.dev).time.now + sec (nat s.dev 0x2810 0x0B) })
      (reach (m.phaseAt + sec (nat s.dev 0x2810 0x0B)) s.dev))) := by
    simp only [exec, execRestoreWaitLimit, found]
    rw [if_neg (not_idle phase under)]
  exact ⟨_, limit.trans (congrArg (done s) (failMove_of_permitWait _ found phase)), found, rfl, upd_get_same ..⟩

theorem restoreWaitLimit_holds : Claims.restoreWaitLimit := by
  refine fun n s m found => ⟨fun phase under => ?_, fun waits => rests_of_done (congrArg (done s) ?_)⟩
  · obtain ⟨barred, work, there, time, bar⟩ := restoreWaitLimit_fails found phase under
    have now : (endMove n.val .failed .noPermit (withdraw m barred)).time = _ := (endMove_time.trans withdraw_time).trans time
    obtain ⟨x, fails, state, cause, -⟩ := moveAt_endMove .failed .noPermit (moveAt_withdraw there m)
    refine gives_of_done work ?_ ⟨⟨x, fails, state, cause⟩, ?_, ?_⟩
    · rw [now]
      exact le_max_left ..
    · rw [now]
      exact le_max_right ..
    · rw [restoreAfter_endMove .failed .noPermit (moveAt_withdraw there m), (within_withdraw m).alloc_eq (by decide), now, ← time]
      exact bar
  · rw [found]
    exact if_pos (idle_of_waits waits)

/-- Settles O39: what a move's operations leave of its record and of its contactor, from the start to the end, and each wait by the equation
of its work. -/
theorem moveCommands : Obligations.MoveCommands :=
  ⟨moveStart_holds, handoverEnd_holds, handoverTimeout_holds, openWaitLimit_holds, restoreWaitLimit_holds⟩

end Sys2Proof.Machine
end

section
/-! An outlet's course, and what the causes and events of Table 7.3 and Table 7.4 make of it (R182 to R184). -/
namespace Sys2Proof.Machine

/-- What the state machine of an outlet goes by and what its claims speak of: its state, end cause and faults, the causes and events noted for its
next boundary, the connection, the current asked for, the vehicle's greatest voltage, and a change of direction. The rest of the record is not
told apart. -/
abbrev Course : Type := OutState × Nat × Nat × (Nat × List OutEvent) × Nat × Int × Option Int × Bool

def Course.state (c : Course) : OutState := c.1
def Course.cause (c : Course) : Nat := c.2.1
def Course.faults (c : Course) : Nat := c.2.2.1
def Course.notes (c : Course) : Nat × List OutEvent := c.2.2.2.1
def Course.conn (c : Course) : Nat := c.2.2.2.2.1
def Course.reqI (c : Course) : Int := c.2.2.2.2.2.1
def Course.vehMax (c : Course) : Option Int := c.2.2.2.2.2.2.1
def Course.turning (c : Course) : Bool := c.2.2.2.2.2.2.2

/-- The course of an outlet. -/
def Outlet.course (o : Outlet) : Course := (o.state, o.cause, o.faults, (o.raised, o.events), o.conn, o.reqI, o.vehMax, o.turning)

theorem Outlet.course_eq_iff {o p : Outlet} : o.course = p.course ↔ o.state = p.state ∧ o.cause = p.cause ∧ o.faults = p.faults
    ∧ (o.raised, o.events) = (p.raised, p.events) ∧ o.conn = p.conn ∧ o.reqI = p.reqI ∧ o.vehMax = p.vehMax ∧ o.turning = p.turning := by
  simp only [course, Prod.mk.injEq]

/-- The course after the first cause of the session's end. -/
def Course.ended (c : Course) (n : Nat) : Course := (c.state, if c.cause = 0 then n else c.cause, c.2.2)
/-- The course of an outlet whose session's target is given up. -/
def Course.dropped (c : Course) : Course := (c.state, c.cause, c.faults, c.notes, c.conn, 0, none, false)
/-- The course of an outlet that enters a state. -/
def Course.enters (c : Course) (st : OutState) : Course := (st, if st = .plugged then 0 else c.cause, c.2.2)
/-- The course with the faults that stand. -/
def Course.withFaults (c : Course) (n : Nat) : Course := (c.state, c.cause, n, c.2.2.2)
/-- The course of an outlet that faults with a cause. -/
def Course.faulted (c : Course) (n : Nat) : Course := ((c.dropped.ended n).withFaults (c.faults ||| 2 ^ n)).enters .faulted
/-- The course of an outlet where a session begins. -/
def Course.begins (c : Course) : Course := (.plugged, 0, c.faults, c.notes, c.conn, 0, none, c.turning)
/-- The course of an outlet whose direction has changed. -/
def Course.turned (c : Course) : Course := (c.state, c.cause, c.faults, c.notes, c.conn, c.reqI, c.vehMax, false)

/-- The course of an outlet after an event (Table 7.4). -/
def Course.after (c : Course) : OutEvent → Course
  | .plug => c.begins
  | .unplug => (c.dropped.ended 7).enters .idle
  | .pass => c.enters .ended
  | .turned => c.turned.enters (if c.state = .delivering then .returning else .delivering)
  | .outOfService => c.enters .outOfService
  | .toService => c.enters .idle
  | .reset => if plugged c.conn then (c.withFaults 0).begins else (c.withFaults 0).enters .idle

theorem Course.after_reset (c : Course) :
    c.after .reset = if plugged c.conn then (c.withFaults 0).begins else (c.withFaults 0).enters .idle := rfl

end Sys2Proof.Machine
end

section
/-! A cable check whose rail is regulated apart, while a tie beside it closes (R91, R106, R193).

While a tie's close is in travel the two parts of the segment are groups of their own, so the rail is alone in its group (`members`), and the
check goes on; but the segments follow from the ties counted closed (`segRails`), so the coincident episode finds a neighbour and does not
begin. The claim on `CABLE_CHECK_RAIL_READY` goes by the group alone. -/
namespace Sys2Proof.Machine

/-- Outlet 3 waits in its cable check, its rail FREE with legs in STANDBY; tie 3, from rail 3 to rail 4, is commanded closed and in travel, every
other tie open. -/
def checkBesideTie : Dev := deriveSegments { Dev.reset with
  out := upd Dev.reset.out 3 (fun o => { o with state := .cableCheck })
  leg := tab (fun _ => { Fresh.leg with state := .standby })
  ring := { Fresh.ring false with tie := tab (fun j => if j = 3 then { settled true with travel := some 0 } else settled false) } }

theorem checkBesideTie_ready : ((checkBesideTie.out[(3 : Fin 12)]).state = .cableCheck ∧ (checkBesideTie.out[(3 : Fin 12)]).step = .wait
    ∧ (checkBesideTie.rail[(3 : Fin 12)]).state = .free ∧ (members (segOf 3 checkBesideTie) checkBesideTie).length = 1
    ∧ hasLegs 3 checkBesideTie = true) ∧ startRefusal 3 checkBesideTie = none := by decide

theorem checkBesideTie_segment : (segRails (checkBesideTie.ring.head[(3 : Fin 12)]) checkBesideTie).length ≠ 1
    ∧ (checkBesideTie.rail[(3 : Fin 12)]).state = .free := by decide

theorem beginOutlet_beside {j : Fin 12} {d : Dev} (beside : (segRails (d.ring.head[j]) d).length ≠ 1) : beginOutlet j d = d := if_pos beside

/-- The check goes on, and the rail stays FREE. -/
theorem not_cableCheckRailReady : ¬ Claims.cableCheckRailReady := by
  intro claim
  obtain ⟨ready, granted⟩ := checkBesideTie_ready
  obtain ⟨beside, free⟩ := checkBesideTie_segment
  have work : exec (.cableCheckRailReady 3) ⟨checkBesideTie, []⟩
      = done ⟨checkBesideTie, []⟩ (onOut 3 (fun o => { o with step := .closing }) (beginOutlet 3 checkBesideTie)) :=
    congrArg (done _) (if_pos ready)
  rw [beginOutlet_beside beside] at work
  obtain ⟨-, episode⟩ := (gives_iff_of_done work).1 ((claim 3 ⟨checkBesideTie, []⟩).1 ready)
  have precharging : (checkBesideTie.rail[(3 : Fin 12)]).state = .precharging := (episode granted).2
  rw [free] at precharging
  cases precharging

/-- Refutes O41: a rail whose group is itself alone, but whose segment is not, begins no episode. -/
theorem not_cableCheckCommands : ¬ Obligations.CableCheckCommands := fun ⟨ready, _⟩ => not_cableCheckRailReady ready

end Sys2Proof.Machine
end

section
/-! Outlets: records changed, causes and events noted for an outlet's next boundary, and the messages that a port hears (R21, R182). -/
namespace Sys2Proof.Machine
variable {d e : Dev} {c : Instr} {s : State} {j k : Fin 12} {n t : Nat} {x : OutEvent}

/-! Records of outlets. -/

theorem onOut_other {f : Outlet → Outlet} (h : j ≠ k) : (onOut k f d).out[j] = d.out[j] := upd_get_other _ _ _ _ h

theorem within_onOut (k : Fin 12) (f : Outlet → Outlet) : Within [.out] [] d (onOut k f d) := by
  refine ⟨fun p out => ?_, fun _ _ => rfl⟩
  cases p
  case out => exact absurd (List.mem_singleton_self _) out
  case time => exact ⟨le_rfl, rfl⟩
  all_goals rfl

/-- A fact about an outlet's record stands beside a cause raised. -/
theorem raiseCause_keeps {β : Type} (g : Outlet → β) (h : ∀ o r, g { o with raised := r } = g o) : g (raiseCause k n d).out[j] = g d.out[j] :=
  onOut_keeps (f := fun o => { o with raised := o.raised ||| 2 ^ n }) g fun o => h o _

/-- What a note of a cause or an event stands beside: the causes and events noted, the state and the end cause. -/
def Outlet.noted (o : Outlet) : Nat × List OutEvent × OutState × Nat := (o.raised, o.events, o.state, o.cause)

theorem Outlet.noted_eq_iff {o p : Outlet} : o.noted = p.noted ↔ o.raised = p.raised ∧ o.events = p.events ∧ o.state = p.state ∧ o.cause = p.cause := by
  simp only [noted, Prod.mk.injEq]

/-- A cause raised where the outlet stands as before is noted. -/
theorem causeNoted_raiseCause (h : (e.out[k]).noted = (d.out[k]).noted) : Claims.causeNoted k n d (raiseCause k n e) := by
  obtain ⟨raised, -, state, cause⟩ := Outlet.noted_eq_iff.1 h
  rw [Claims.causeNoted, raiseCause, onOut_out, upd_get_same]
  exact ⟨by rw [raised], state, cause⟩

/-- An event that reaches an outlet standing as before is noted. -/
theorem eventNoted_raiseEvent (h : (e.out[k]).noted = (d.out[k]).noted) : Claims.eventNoted k x d (raiseEvent k x e) := by
  obtain ⟨-, events, state, cause⟩ := Outlet.noted_eq_iff.1 h
  rw [Claims.eventNoted, raiseEvent, onOut_out, upd_get_same]
  exact ⟨by rw [events], state, cause⟩

/-! Commands that end a time with a cause or an event. -/

section
variable {p : Prop} [Decidable p]

/-- A command whose work is a cause at the end of a time, where its condition holds. -/
theorem cause_when_due (work : exec c s = done s (if p then raiseCause k n (reach t s.dev) else s.dev)) :
    (p → Gives c s fun e => Claims.causeNoted k n s.dev e ∧ t ≤ e.time.now) ∧ (¬ p → Claims.Rests c s) := by
  refine ⟨fun due => ?_, fun rests => rests_of_done (work.trans (congrArg (done s) (if_neg rests)))⟩
  rw [if_pos due] at work
  exact gives_of_done work (le_max_left ..) ⟨causeNoted_raiseCause rfl, le_max_right ..⟩

/-- A command whose work is an event at the end of a time, where its condition holds. -/
theorem event_when_due (work : exec c s = done s (if p then raiseEvent k x (reach t s.dev) else s.dev)) :
    (p → Gives c s fun e => Claims.eventNoted k x s.dev e ∧ t ≤ e.time.now) ∧ (¬ p → Claims.Rests c s) := by
  refine ⟨fun due => ?_, fun rests => rests_of_done (work.trans (congrArg (done s) (if_neg rests)))⟩
  rw [if_pos due] at work
  exact gives_of_done work (le_max_left ..) ⟨eventNoted_raiseEvent rfl, le_max_right ..⟩
end

/-! Commands whose work hangs on something that is set or is not, a time for one. -/

section
variable {α : Type} {o : Option α} {f : α → Dev} {x : α}

theorem acts_of_some (work : exec c s = done s (o.elim s.dev f)) (set : o = some x) : exec c s = done s (f x) :=
  work.trans (congrArg (fun o => done s (o.elim s.dev f)) set)

theorem rests_of_none (work : exec c s = done s (o.elim s.dev f)) (unset : o = none) : Claims.Rests c s :=
  rests_of_done (work.trans (congrArg (fun o => done s (o.elim s.dev f)) unset))
end

/-! Events that can happen (Table 7.4). -/

theorem eventHolds_plug_eq : eventHolds k d .plug = ((d.out[k]).state == .idle && plugged (d.out[k]).conn && !fxWaits d && !noNewSession d) := rfl
theorem eventHolds_unplug_eq : eventHolds k d .unplug
    = (((d.out[k]).state == .plugged || (d.out[k]).state == .handshake || (d.out[k]).state == .ended) && (d.out[k]).conn == 0) := rfl
theorem eventHolds_outOfService_eq : eventHolds k d .outOfService
    = (((d.out[k]).state == .idle || (d.out[k]).state == .ended || (d.out[k]).state == .faulted) && outConfirmed k false d) := rfl
theorem eventHolds_toService_eq : eventHolds k d .toService = ((d.out[k]).state == .outOfService && mayServe k d) := rfl

/-! Messages heard. -/

/-- What a command does that is a message of one type for an island: it acts where the message is heard, and only receives it otherwise. -/
theorem message_cases {l : Lane} {m : TenonMsg} {i : Fin 8} {f : Dev → Dev} (work : exec c s = done s
      (if (receive l m s.dev).2 && hdrType m.header == n && up i (receive l m s.dev).1 then f (receive l m s.dev).1
        else (receive l m s.dev).1)) :
    (Claims.heard l n m s.dev → up i s.dev = true → exec c s = done s (f (receive l m s.dev).1))
      ∧ (¬ Claims.heard l n m s.dev ∨ up i s.dev = false → Claims.receivedOnly c l m s) := by
  have runs : up i (receive l m s.dev).1 = up i s.dev := up_of_isl i receive_isl
  rw [runs] at work
  refine ⟨fun heard running => ?_, fun rests => work.trans (congrArg (done s) (if_neg ?_))⟩
  · rw [work, if_pos (by simp [heard.1, heard.2, running])]
  · obtain unheard | stopped := rests
    · intro heard
      simp only [Bool.and_eq_true, beq_iff_eq] at heard
      exact unheard ⟨heard.1.1, heard.1.2⟩
    · simp [stopped]

theorem receive_outlet {l : Lane} {m : TenonMsg} : (receive l m d).1.out[k] = d.out[k] := congrArg (·[k]) receive_out

theorem receive_outNum {l : Lane} {m : TenonMsg} {sub : Nat} (small : t < 16) (low : sub < 256) :
    num (receive l m d).1 (outIdx k t) sub = num d (outIdx k t) sub :=
  (within_receive l m).num_eq (by simp [outIdx_group k small low])

end Sys2Proof.Machine
end

section
/-! The claims on the head data and the cooling (R180, R204 to R206). -/
namespace Sys2Proof.Machine
variable {d e : Dev} {s : State} {j k : Fin 12} {x : HeadData}

/-! Head data (R180). -/

/-- What the head reports of an outlet, and when it was heard. -/
def Outlet.head (o : Outlet) : Nat × Nat × Option Nat × Bool × Int × Int × Nat :=
  (o.conn, o.connSince, o.headAt, o.headStale, o.supplyT, o.returnT, o.flow)

theorem flowTimers_head : ((flowTimers k d).out[j]).head = (d.out[j]).head := onOut_keeps Outlet.head fun _ => rfl

theorem imdReading_head {y : ImdReading} : ((imdReading k y d).out[j]).head = (d.out[j]).head := by
  rw [imdReading]
  extract_lets taken o cls judged
  have takes : (taken.out[j]).head = (d.out[j]).head := onOut_keeps Outlet.head fun _ => rfl
  have judges : (judged.out[j]).head = (d.out[j]).head :=
    (onOut_keeps (f := fun o => { o with insul := cls }) Outlet.head fun _ => rfl).trans takes
  split_ifs
  · rfl
  · exact (raiseCause_keeps Outlet.head fun _ _ => rfl).trans judges
  · exact judges
  · exact takes

theorem thermalFrom_out (source : Nat) (t : Int) : (thermalFrom source t d).out = d.out := (within_thermalFrom source t).out_eq (by decide)

/-- What head data leaves of the head's report. -/
theorem headFor_head : ((headFor k x d).out[k]).head = (x.connection.val,
    if sameConnection (d.out[k]).conn x.connection.val then (d.out[k]).connSince else d.time.now, some d.time.now, false, x.supply, x.return_,
    x.flow) := by
  unfold headFor
  extract_lets pins pin reported loop timed
  have reports : (reported.out[k]).head = _ := congrArg Outlet.head (upd_get_same ..)
  have looped : loop.out = reported.out := by
    unfold loop
    clear_value pin
    cases pin with
    | none => rfl
    | some t => exact thermalFrom_out ..
  have times : (timed.out[k]).head = (reported.out[k]).head := (flowTimers_head).trans (by rw [looped])
  refine Eq.trans ?_ (times.trans reports)
  split
  · split
    · exact imdReading_head
    · rfl
  · rfl

/-- Head data are for the outlet whose entry names the head's node, where there is one. -/
theorem headData_eq : headData x d = ((all 12).find? (fun k => num d (outIdx k 1) 0x05 == x.node.val)).elim d (headFor · x d) := by
  unfold headData
  cases (all 12).find? (fun k => num d (outIdx k 1) 0x05 == x.node.val) <;> rfl

theorem headData_of_named (named : (all 12).find? (fun k => num d (outIdx k 1) 0x05 == x.node.val) = some k) : headData x d = headFor k x d :=
  (headData_eq).trans (congrArg (Option.elim · d (headFor · x d)) named)

theorem headData_of_unnamed (unnamed : (all 12).find? (fun k => num d (outIdx k 1) 0x05 == x.node.val) = none) : headData x d = d :=
  (headData_eq).trans (congrArg (Option.elim · d (headFor · x d)) unnamed)

theorem headData_holds : Claims.headData := by
  intro k m x s named
  have nodes : (fun k => num (receive .hf m s.dev).1 (outIdx k 1) 0x05 == x.node.val) = fun k => num s.dev (outIdx k 1) 0x05 == x.node.val :=
    funext fun k => by rw [receive_outNum (by decide) (by decide)]
  have same_ : (all 12).find? (fun k => num (receive .hf m s.dev).1 (outIdx k 1) 0x05 == x.node.val) = named := congrArg (List.find? · (all 12)) nodes
  obtain ⟨acts, rests⟩ := message_cases (c := .headData m x) (s := s) (f := headData x) rfl
  refine ⟨fun heard running own => ?_, fun unheard => ?_⟩
  · refine gives_of_done (acts heard running) (by simp) ?_
    have head := headFor_head (k := k) (x := x) (d := (receive .hf m s.dev).1)
    rw [receive_out, receive_time, ← headData_of_named (same_.trans own)] at head
    simp only [Outlet.head, Prod.mk.injEq] at head
    obtain ⟨conn, since, heardAt, fresh, supply, return_, flow⟩ := head
    exact ⟨conn, heardAt, fresh, supply, return_, flow, since⟩
  · by_cases other : ¬ Claims.heard .hf 0x17 m s.dev ∨ up 1 s.dev = false
    · exact rests other
    · have unnamed : named = none := by tauto
      simp only [not_or, not_not, Bool.not_eq_false] at other
      obtain ⟨heard, running⟩ := other
      exact (acts heard running).trans (congrArg (done s) (headData_of_unnamed (same_.trans unnamed)))

/-- The record of an outlet whose head has fallen silent. -/
def Outlet.headLost (o : Outlet) : Outlet := { o with headStale := true, derated := 0 }

theorem exec_headStale : exec (.headStale k) s = done s ((s.dev.out[k]).headAt.elim s.dev fun t =>
    if (s.dev.out[k]).headStale || s.dev.barrier.field.view == .restartAwaited then s.dev
    else raiseCause k 8 (onOut k Outlet.headLost (reach (t + ms (nat s.dev (coolIdx k 0) 0x09)) s.dev))) := by
  change execHeadStale k s = _
  unfold execHeadStale
  dsimp only
  cases (s.dev.out[k]).headAt <;> rfl

theorem headStale_holds : Claims.headStale := by
  refine fun k s => ⟨fun t heard fresh there => ?_, fun rests => ?_⟩
  · have work := acts_of_some exec_headStale heard
    rw [if_neg (by simp [-Fin.getElem_fin, fresh, there])] at work
    have lost : (onOut k Outlet.headLost (reach (t + ms (nat s.dev (coolIdx k 0) 0x09)) s.dev)).out[k] = (s.dev.out[k]).headLost :=
      upd_get_same ..
    refine gives_of_done work (le_max_left ..) ⟨?_, ?_, le_max_right .., causeNoted_raiseCause ((congrArg Outlet.noted lost).trans rfl)⟩
    · exact (raiseCause_keeps Outlet.headStale fun _ _ => rfl).trans (congrArg Outlet.headStale lost)
    · exact (raiseCause_keeps Outlet.derated fun _ _ => rfl).trans (congrArg Outlet.derated lost)
  · cases heard : (s.dev.out[k]).headAt with
    | none => exact rests_of_none exec_headStale heard
    | some t =>
      refine rests_of_done ((acts_of_some exec_headStale heard).trans (congrArg (done s) (if_pos ?_)))
      obtain never | stale | awaited := rests
      · cases heard.symm.trans never
      · rw [stale, Bool.true_or]
      · rw [awaited, beq_self_eq_true, Bool.or_true]

/-! Derating (R205, R206). -/

/-- The record of an outlet that the derated current goes by. -/
def Outlet.derating (o : Outlet) : Option Int × Bool × Bool := (o.pin, o.headStale, o.flowFault)

theorem deratedOf_congr (regs : e.regs = d.regs) (out : (e.out[k]).derating = (d.out[k]).derating) : deratedOf k e = deratedOf k d := by
  simp only [Outlet.derating, Prod.mk.injEq] at out
  obtain ⟨pin, stale, fault⟩ := out
  simp only [deratedOf, pin, stale, fault, num, getVal_of_regs regs]
  rfl

theorem flowTimers_derating : ((flowTimers k d).out[j]).derating = (d.out[j]).derating := onOut_keeps Outlet.derating fun _ => rfl
theorem flowTimers_state : ((flowTimers k d).out[j]).state = (d.out[j]).state := onOut_keeps Outlet.state fun _ => rfl
theorem flowTimers_other (h : j ≠ k) : (flowTimers k d).out[j] = d.out[j] := onOut_other h
theorem flowTimers_regs : (flowTimers k d).regs = d.regs := rfl

/-- An outlet derated to a current. -/
def Outlet.deratedTo (i : Int) (o : Outlet) : Outlet := { o with derated := i }

/-- An outlet derated as its head, its pins and its flow have it. -/
def derate (d : Dev) (k : Fin 12) : Dev := onOut k (Outlet.deratedTo (deratedOf k (flowTimers k d))) (flowTimers k d)

theorem derate_same : (derate d k).out[k] = ((flowTimers k d).out[k]).deratedTo (deratedOf k d) := by
  rw [derate, deratedOf_congr flowTimers_regs flowTimers_derating]
  exact upd_get_same ..

theorem derate_other (h : j ≠ k) : (derate d k).out[j] = d.out[j] := (onOut_other h).trans (flowTimers_other h)

theorem derate_regs : (derate d k).regs = d.regs := rfl

/-- Every outlet is derated by what it was at the start of the run. -/
theorem foldl_derate (k : Fin 12) (d : Dev) : (((all 12).foldl derate d).out[k]).derated = deratedOf k d
    ∧ (((all 12).foldl derate d).out[k]).state = (d.out[k]).state := by
  refine foldl_each (before := fun j e => e.out[j] = d.out[j] ∧ e.regs = d.regs)
    (after := fun j e => (e.out[j]).derated = deratedOf j d ∧ (e.out[j]).state = (d.out[j]).state) (nodup_all 12) ?_ ?_ ?_ (mem_all k)
    ⟨rfl, rfl⟩
  · rintro e j ⟨out, regs⟩
    rw [derate_same]
    exact ⟨deratedOf_congr regs (by rw [out]), (flowTimers_state).trans (by rw [out])⟩
  · rintro e a b other ⟨out, regs⟩
    exact ⟨(derate_other other).trans out, (derate_regs).trans regs⟩
  · intro e a b other done_
    rwa [derate_other other]

theorem deratingUpdate_holds : Claims.deratingUpdate := by
  refine fun s => ⟨fun runs => ?_, fun stopped => rests_of_done (congrArg (done s) (if_pos (by simp [stopped])))⟩
  have due : s.dev.time.now ≤ dueAt s.dev.time.ticked[(8 : Fin 9)] (ms 1) s.dev := le_dueAt
  have work : exec .deratingUpdate s = done s ((all 12).foldl derate (tick 8 (ms 1) s.dev)) := congrArg (done s) (if_neg (by simp [runs]))
  have time : ((all 12).foldl derate (tick 8 (ms 1) s.dev)).time = (tick 8 (ms 1) s.dev).time := foldl_time fun _ _ => rfl
  have now : ((all 12).foldl derate (tick 8 (ms 1) s.dev)).time.now = dueAt s.dev.time.ticked[(8 : Fin 9)] (ms 1) s.dev := by
    rw [time]
    exact max_eq_right due
  exact gives_of_done work (now ▸ due) ⟨now, fun k => foldl_derate k (tick 8 (ms 1) s.dev)⟩

/-! The flow and the run-on (R204, R206). -/

/-- The record of an outlet at the beginning of a flow fault. -/
def Outlet.flowFaulted (o : Outlet) : Outlet := { o with flowFault := true, flowLow := none }

theorem exec_flowFault (good : pumpTripped k s.dev = false) : exec (.flowFault k) s = done s ((s.dev.out[k]).flowLow.elim s.dev fun t =>
    onOut k Outlet.flowFaulted (reach (t + ms (nat s.dev (coolIdx k 0) 0x03)) s.dev)) := by
  change execFlowFault k s = _
  unfold execFlowFault
  dsimp only
  rw [if_neg (ne_true_of_eq_false good)]
  cases (s.dev.out[k]).flowLow <;> rfl

theorem flowFault_holds : Claims.flowFault := by
  refine fun k s => ⟨fun tripped => ?_, fun t free low => ?_, fun free good => rests_of_none (exec_flowFault free) good⟩
  · have work : exec (.flowFault k) s = done s (onOut k Outlet.flowFaulted s.dev) := congrArg (done s) (if_pos tripped)
    exact gives_of_done work le_rfl (upd_get_same ..)
  · exact gives_of_done (acts_of_some (exec_flowFault free) low) (le_max_left ..) ⟨upd_get_same .., le_max_right ..⟩

/-- The record of an outlet whose flow fault has ended. -/
def Outlet.flowCleared (o : Outlet) : Outlet := { o with flowFault := false }

theorem exec_flowFaultClear : exec (.flowFaultClear k) s = done s ((s.dev.out[k]).flowOk.elim s.dev fun t =>
    if (s.dev.out[k]).flowFault then onOut k Outlet.flowCleared (reach (t + ms (nat s.dev (coolIdx k 0) 0x03)) s.dev) else s.dev) := by
  change execFlowFaultClear k s = _
  unfold execFlowFaultClear
  dsimp only
  cases (s.dev.out[k]).flowOk <;> rfl

theorem flowFaultClear_holds : Claims.flowFaultClear := by
  refine fun k s => ⟨fun t ok fault => ?_, fun rests => ?_⟩
  · exact gives_of_done ((acts_of_some exec_flowFaultClear ok).trans (congrArg (done s) (if_pos fault))) (le_max_left ..)
      ⟨upd_get_same .., le_max_right ..⟩
  · cases ok : (s.dev.out[k]).flowOk with
    | none => exact rests_of_none exec_flowFaultClear ok
    | some t =>
      refine rests_of_done ((acts_of_some exec_flowFaultClear ok).trans (congrArg (done s) (if_neg ?_)))
      obtain low | clear := rests
      · cases ok.symm.trans low
      · exact ne_true_of_eq_false clear

/-- The record of an outlet whose cooling has run on. -/
def Outlet.cooled (o : Outlet) : Outlet := { o with cooling := false, runOn := none }

theorem exec_runOnExpiry : exec (.runOnExpiry k) s = done s ((s.dev.out[k]).runOn.elim s.dev fun t =>
    onOut k Outlet.cooled (reach (t + sec (nat s.dev (coolIdx k 0) 0x08)) s.dev)) := by
  change execRunOnExpiry k s = _
  unfold execRunOnExpiry
  dsimp only
  cases (s.dev.out[k]).runOn <;> rfl

theorem runOnExpiry_holds : Claims.runOnExpiry := fun _ _ =>
  ⟨fun _ runs => gives_of_done (acts_of_some exec_runOnExpiry runs) (le_max_left ..) ⟨upd_get_same .., le_max_right ..⟩,
    fun none_ => rests_of_none exec_runOnExpiry none_⟩

/-- Settles O43: head data by what it leaves of the head's report, the derating outlet by outlet, the rest by the equation of their work. -/
theorem coolingCommands : Obligations.CoolingCommands :=
  ⟨headData_holds, headStale_holds, deratingUpdate_holds, flowFault_holds, flowFaultClear_holds, runOnExpiry_holds⟩

end Sys2Proof.Machine
end

section
/-! The claims on the ends of a session: wind-down, the weld check and faults (R184, R185, R201, R202, R502). -/
namespace Sys2Proof.Machine
variable {d : Dev} {s : State} {k : Fin 12}

/-- The record of an outlet whose fast stop has ended. -/
def Outlet.fastEnded (o : Outlet) : Outlet := { o with fast := none }

theorem exec_fastStopEnd : exec (.fastStopEnd k) s = done s ((s.dev.out[k]).fast.elim s.dev fun p => genRestAt (outletGen k) 0
    (onOut k Outlet.fastEnded (reach (p.2 + ms (nat s.dev (outIdx k 2) 0x0A)) s.dev))) := by
  change execFastStopEnd k s = _
  unfold execFastStopEnd
  dsimp only
  cases (s.dev.out[k]).fast <;> rfl

theorem fastStopEnd_holds : Claims.fastStopEnd := by
  refine fun k s => ⟨fun p t fast => ?_, fun none_ => rests_of_none exec_fastStopEnd none_⟩
  exact gives_of_done (acts_of_some exec_fastStopEnd fast) (le_max_left ..) ⟨congrArg Outlet.fast (upd_get_same ..),
    congrArg Gen.p (upd_get_same ..), congrArg Gen.state (upd_get_same ..), le_max_right ..⟩

theorem askContactor_want (x : ContactorId) (closed : Bool) : (contactor x (askContactor x closed d)).want = closed := by
  rw [askContactor, contactor_onContactor_same]
  split
  · assumption
  · rfl

theorem exec_outletContactorOpen (k : Fin 12) (s : State) : exec (.outletContactorOpen k) s = done s
    (if ((s.dev.out[k]).state = .winddown ∨ (s.dev.out[k]).state = .faulted) ∧ 3 ≤ (s.dev.out[k]).lows then askContactor (.outlet k) false s.dev
    else if (s.dev.out[k]).state = .faulted then
      askContactor (.outlet k) false (reach ((s.dev.out[k]).since + ms (nat s.dev (outIdx k 2) 0x0A) + ms 10) s.dev)
    else s.dev) := rfl

theorem outletContactorOpen_holds : Claims.outletContactorOpen := by
  refine fun k s => ⟨fun ends low => ?_, fun faulted high => ?_, fun rests => rests_of_done ?_⟩
  · exact gives_of_done ((exec_outletContactorOpen k s).trans (congrArg (done s) (if_pos ⟨ends, low⟩))) (by simp) (askContactor_want ..)
  · have work := exec_outletContactorOpen k s
    rw [if_neg fun ⟨_, low⟩ => absurd low (not_le.2 high), if_pos faulted] at work
    exact gives_of_done work (by simp) ⟨askContactor_want .., by simp⟩
  · have open_ : ¬ (((s.dev.out[k]).state = .winddown ∨ (s.dev.out[k]).state = .faulted) ∧ 3 ≤ (s.dev.out[k]).lows) := by
      rintro ⟨ends, low⟩
      obtain ⟨other, other'⟩ | ⟨-, high⟩ := rests
      · exact ends.elim other other'
      · omega
    have sound : (s.dev.out[k]).state ≠ .faulted := by
      obtain ⟨-, other⟩ | ⟨winds, -⟩ := rests
      · exact other
      · exact fun faulted => by cases winds.symm.trans faulted
    rw [exec_outletContactorOpen, if_neg open_, if_neg sound]

/-- The record of an outlet whose rail need not stop any more. -/
def Outlet.stopTaken (o : Outlet) : Outlet := { o with stopDue := false }

/-- A rail that stops where its outlet governs it. -/
theorem exec_faultedRailStop (due : ((s.dev.out[k]).stopDue && !outletClosed k s.dev) = true) : exec (.faultedRailStop k) s
    = done s (if governs k s.dev ∧ (s.dev.rail[k]).state = .live then beginStop k (onOut k Outlet.stopTaken s.dev) else onOut k Outlet.stopTaken s.dev) :=
  congrArg (done s) (if_pos due)

theorem faultedRailStop_holds : Claims.faultedRailStop := by
  intro k s due
  refine ⟨fun yes => ?_, fun no => rests_of_done (congrArg (done s) (if_neg (Bool.eq_false_iff.1 no)))⟩
  have work := exec_faultedRailStop yes
  have taken : ((onOut k Outlet.stopTaken s.dev).out[k]).stopDue = false := congrArg Outlet.stopDue (upd_get_same ..)
  by_cases stops : governs k s.dev = true ∧ (s.dev.rail[k]).state = .live
  · rw [if_pos stops] at work
    obtain ⟨drains, -⟩ := beginStop_spec k (onOut k Outlet.stopTaken s.dev)
    refine gives_of_done work (by simp) ⟨?_, fun _ _ => drains⟩
    rw [(within_beginStop k).out_eq (by decide), taken]
  · rw [if_neg stops] at work
    exact gives_of_done work le_rfl ⟨taken, fun governs live => absurd ⟨governs, live⟩ stops⟩

theorem winddownTimeout_holds : Claims.winddownTimeout := fun _ _ => cause_when_due rfl

theorem weldCheckPass_holds : Claims.weldCheckPass := by
  refine fun k s => ⟨fun state dead => ?_, fun rests => rests_of_done (congrArg (done s) (if_neg ?_))⟩
  · have work : exec (.weldCheckPass k) s = done s (raiseEvent k .pass s.dev) := congrArg (done s) (if_pos ⟨state, dead⟩)
    exact gives_of_done work le_rfl (eventNoted_raiseEvent rfl)
  · rintro ⟨state, dead⟩
    obtain other | few := rests
    · exact other state
    · omega

/-- Whether the cable stays near its rail's voltage, so that a contactor is taken for welded (R202). -/
def welded (k : Fin 12) (d : Dev) : Bool := match (d.out[k]).cableV, measured k d with
  | some c, some v => decide (|c - v| ≤ 20000 * num d (railIdx k 4) 0x03)
  | _, _ => false

theorem welded_iff : welded k d = true
    ↔ ∃ c v, (d.out[k]).cableV = some c ∧ measured k d = some v ∧ |c - v| ≤ 20000 * num d (railIdx k 4) 0x03 := by
  unfold welded
  cases (d.out[k]).cableV <;> cases measured k d <;> simp

theorem exec_cableDischargeExpiry (weldCheck : (s.dev.out[k]).state = .weldCheck) : exec (.cableDischargeExpiry k) s
    = done s (raiseCause k (bif welded k s.dev then 19 else 20) (reach ((s.dev.out[k]).since + ms (nat s.dev (outIdx k 2) 0x0D)) s.dev)) :=
  congrArg (done s) (if_pos weldCheck)

theorem cableDischargeExpiry_holds : Claims.cableDischargeExpiry := by
  refine fun k s => ⟨fun weldCheck => ?_, fun other => rests_of_done (congrArg (done s) (if_neg other))⟩
  refine gives_of_done (exec_cableDischargeExpiry weldCheck) (by simp) ⟨fun weld => ?_, fun sound => ?_, by simp⟩
  · rw [welded_iff.2 weld]
    exact causeNoted_raiseCause rfl
  · rw [Bool.eq_false_iff.2 fun weld => sound (welded_iff.1 weld)]
    exact causeNoted_raiseCause rfl

end Sys2Proof.Machine
end

section
/-! The claims on the commands to an outlet: its stop, its service and its fault reset (R181 to R183, R209). -/
namespace Sys2Proof.Machine
variable {d e : Dev} {c : Instr} {a : Ask} {s : State} {w : WriteCall} {k : Fin 12} {n sub : Nat} {x : OutEvent}

/-! An outlet's commands. -/

theorem outIdx_command : ∀ k : Fin 12, 0x3003 + 16 * k.val = outIdx k 3 := by decide
theorem outOfIdx_outIdx : ∀ k : Fin 12, outOfIdx (outIdx k 3) 0x3000 = k := by decide
theorem outIdx_command_table : ∀ k : Fin 12, outIdx k 3 / 256 = 0x30 := by decide

theorem outOfIdx_command (idx : w.idx = outIdx k 3) : outOfIdx w.idx 0x3000 = k := (congrArg (outOfIdx · 0x3000) idx).trans (outOfIdx_outIdx k)

theorem fieldHeld_outlet (k : Fin 12) : fieldHeld (outIdx k 3) sub = true := by
  unfold fieldHeld islandOf
  rw [outIdx_command_table]
  rfl

/-- An outlet's record with a cause raised, and with an event come. -/
def Outlet.causeRaised (n : Nat) (o : Outlet) : Outlet := { o with raised := o.raised ||| 2 ^ n }
def Outlet.eventCome (x : OutEvent) (o : Outlet) : Outlet := { o with events := o.events ++ [x] }

theorem causeNoted_of_out (h : e.out[k] = (d.out[k]).causeRaised n) : Claims.causeNoted k n d e :=
  ⟨congrArg Outlet.raised h, (congrArg Outlet.state h).trans rfl, (congrArg Outlet.cause h).trans rfl⟩

theorem eventNoted_of_out (h : e.out[k] = (d.out[k]).eventCome x) : Claims.eventNoted k x d e :=
  ⟨congrArg Outlet.events h, (congrArg Outlet.state h).trans rfl, (congrArg Outlet.cause h).trans rfl⟩

/-- What a command to an outlet gives, whose handler changes the outlet's record alone: the command shows done, and every other outlet stands. -/
theorem takes_of_outletCommand {H : Handler} {P : WriteCall → Dev → Prop} {r : Row} (f : WriteCall → Outlet → Outlet)
    (asked : askedBy c = some (.named (0x3003 + 16 * k.val) sub a)) (run : exec c s = done s (serveWrite (0x3003 + 16 * k.val) sub a s.dev))
    (handler : handlerOf (0x3003 + 16 * k.val) sub = H) (low : sub < 256) (row : rowOf (0x3003 + 16 * k.val) sub = some r)
    (cmd : r.acc = .cmd) (keep : r.keep = .v)
    (work : ∀ w, outOfIdx w.idx 0x3000 = k → H.checks w s.dev = [] → (∀ d, H.act w d = onOut k (f w) d)
      ∧ ∀ e : Dev, e.out[k] = f w s.dev.out[k] → w.val = bytesVal r.ty a.data →
        (Claims.Shown (outIdx k 3) sub e ∧ ∀ j, j ≠ k → e.out[j] = s.dev.out[j]) → P w e) :
    Claims.Takes c s [.out] [0x30] P := by
  rw [outIdx_command] at asked run handler row
  refine takes_of_value asked (fieldHeld_outlet k) row (takes_at_port asked (fieldHeld_outlet k) run fun w r' own own' row' passes => ?_)
  obtain rfl := Option.some.inj (row.symm.trans row')
  have checks := checks_of_passes passes
  rw [accept_of_cmd cmd keep]
  rw [own, own', handler] at checks ⊢
  obtain ⟨act, holds⟩ := work w (outOfIdx_command own) checks
  have shown : Within [] [0x30] s.dev (setNum (outIdx k 3) sub 2 s.dev) := outIdx_group (t := 3) k (by decide) low ▸ within_setNum ..
  rw [act]
  exact ⟨(shown.mono (by simp) (by simp)).trans ((within_onOut ..).mono (by simp) (by simp)),
    fun b val => holds _ (upd_get_same ..) val ⟨num_setNum_same .., fun j other => onOut_other other⟩⟩

/-! The rows and the handlers of the commands. -/

theorem outletStop_row : ∀ k : Fin 12, rowOf (0x3003 + 16 * k.val) 0x01 = some (row 0x3003 16 12 0x01 0x01 .u8 .cmd .v (.k 0) (.oneOf [1])) := by
  decide
theorem outletService_row : ∀ k : Fin 12,
    rowOf (0x3003 + 16 * k.val) 0x02 = some (row 0x3003 16 12 0x02 0x02 .u8 .cmd .v (.k 0) (.oneOf [1, 2])) := by decide
theorem outletReset_row : ∀ k : Fin 12, rowOf (0x3003 + 16 * k.val) 0x03 = some (row 0x3003 16 12 0x03 0x03 .u8 .cmd .v (.k 0) (.oneOf [1])) := by
  decide

theorem handlerOf_outlet (k : Fin 12) : handlerOf (0x3003 + 16 * k.val) 0x01 = outletStopHandler
    ∧ handlerOf (0x3003 + 16 * k.val) 0x02 = outletServiceHandler ∧ handlerOf (0x3003 + 16 * k.val) 0x03 = outletResetHandler := by
  fin_cases k <;> exact ⟨rfl, rfl, rfl⟩

/-! The claims. -/

theorem outletStop_passes (own : outOfIdx w.idx 0x3000 = k) (passes : outletStopHandler.checks w d = []) :
    2 ≤ outCode (d.out[k]).state ∧ outCode (d.out[k]).state ≤ 6 := by
  simpa only [outletStopHandler, own, failing_eq_nil, Bool.not_eq_false', Bool.and_eq_true, decide_eq_true_eq] using passes

theorem outletStop_holds : Claims.outletStop := by
  intro a k s
  refine takes_of_outletCommand (fun _ => Outlet.causeRaised 2) rfl rfl (handlerOf_outlet k).1 (by decide) (outletStop_row k) rfl rfl
    fun w own passes => ⟨fun d => congrArg (raiseCause · 2 d) own, fun e out _ ⟨shown, others⟩ => ?_⟩
  obtain ⟨low, high⟩ := outletStop_passes own passes
  exact ⟨low, high, causeNoted_of_out out, shown, others⟩

/-- The service command finds the conditions of the event that its value names. -/
theorem outletService_passes (own : outOfIdx w.idx 0x3000 = k) (passes : outletServiceHandler.checks w d = []) :
    eventHolds k d (serviceEvent w.nat) = true := by
  simpa only [outletServiceHandler, own, failing_eq_nil, Bool.not_eq_false'] using passes

/-- What the service command gives: the event that its value names is noted, and its conditions hold. -/
theorem takes_of_outletService {v : Nat} {P : Dev → Prop} (asked : askedBy c = some (.named (0x3003 + 16 * k.val) 0x02 { a with data := leBytes 1 v }))
    (run : exec c s = done s (serveWrite (0x3003 + 16 * k.val) 0x02 { a with data := leBytes 1 v } s.dev)) (named : serviceEvent (leNat (leBytes 1 v)) = x)
    (work : ∀ e : Dev, eventHolds k s.dev x = true → Claims.eventNoted k x s.dev e →
      (Claims.Shown (outIdx k 3) 0x02 e ∧ ∀ j, j ≠ k → e.out[j] = s.dev.out[j]) → P e) : Claims.Takes c s [.out] [0x30] fun _ => P := by
  refine takes_of_outletCommand (fun w => Outlet.eventCome (serviceEvent w.nat)) asked run (handlerOf_outlet k).2.1 (by decide)
    (outletService_row k) rfl rfl fun w own passes => ⟨fun d => congrArg (raiseEvent · (serviceEvent w.nat) d) own, fun e out val beside => ?_⟩
  have event : serviceEvent w.nat = x := by
    rw [← named, WriteCall.nat, WriteCall.num, val]
    rfl
  have holds := outletService_passes own passes
  rw [event] at out holds
  exact work e holds (eventNoted_of_out out) beside

theorem outletOutOfService_holds : Claims.outletOutOfService := by
  refine fun a k s => takes_of_outletService (x := .outOfService) rfl rfl rfl fun e holds noted ⟨shown, others⟩ => ?_
  rw [eventHolds_outOfService_eq] at holds
  simp only [Bool.and_eq_true, Bool.or_eq_true, beq_iff_eq, or_assoc] at holds
  obtain ⟨state, open_⟩ := holds
  exact ⟨state, open_, noted, shown, others⟩

theorem outletReturnToService_holds : Claims.outletReturnToService := by
  refine fun a k s => takes_of_outletService (x := .toService) rfl rfl rfl fun e holds noted ⟨shown, others⟩ => ?_
  rw [eventHolds_toService_eq] at holds
  simp only [Bool.and_eq_true, beq_iff_eq] at holds
  obtain ⟨state, serves⟩ := holds
  exact ⟨state, serves, noted, shown, others⟩

theorem outletReset_passes (own : outOfIdx w.idx 0x3000 = k) (passes : outletResetHandler.checks w d = []) :
    mayReset k d = true ∧ faultPresent k d = false := by
  simpa only [outletResetHandler, own, List.append_eq_nil_iff, failing_eq_nil, Bool.not_eq_false'] using passes

theorem outletFaultReset_holds : Claims.outletFaultReset := by
  intro a k s
  refine takes_of_outletCommand (fun _ => Outlet.eventCome .reset) rfl rfl (handlerOf_outlet k).2.2 (by decide) (outletReset_row k) rfl rfl
    fun w own passes => ⟨fun d => congrArg (raiseEvent · .reset d) own, fun e out _ ⟨shown, others⟩ => ?_⟩
  obtain ⟨may, clear⟩ := outletReset_passes own passes
  simp only [mayReset, Bool.and_eq_true, Bool.or_eq_true, beq_iff_eq, Bool.not_eq_true'] at may
  obtain ⟨⟨⟨state, open_⟩, sound⟩, rail⟩ := may
  exact ⟨state, clear, open_, sound, rail, eventNoted_of_out out, shown, others⟩

/-- Settles O42: what ends a time by the cause or the event that it notes, each command by its checks and by the one record that it changes. -/
theorem outletEndCommands : Obligations.OutletEndCommands :=
  ⟨fastStopEnd_holds, outletContactorOpen_holds, faultedRailStop_holds, winddownTimeout_holds, weldCheckPass_holds,
    cableDischargeExpiry_holds, outletStop_holds, outletOutOfService_holds, outletReturnToService_holds, outletFaultReset_holds⟩

end Sys2Proof.Machine
end

section
/-! What the transitions of an outlet leave: the outlet's course, and the parts that they do not touch (R182 to R184, R201 to R203, R502). -/
namespace Sys2Proof.Machine
variable {d e : Dev} {j k : Fin 12} {n : Nat} {st : OutState}

theorem course_onOut (f : Outlet → Outlet) : ((onOut k f d).out[k]).course = (f d.out[k]).course := congrArg Outlet.course (upd_get_same ..)

theorem course_of_out (h : e.out = d.out) : (e.out[k]).course = (d.out[k]).course := by rw [h]

/-! A choice of two devices is read alike where both are. -/

theorem out_ite {p : Prop} [Decidable p] {out : Vector Outlet 12} (yes : d.out = out) (no : e.out = out) : (if p then d else e).out = out :=
  iteInduction (motive := fun e : Dev => e.out = out) (fun _ => yes) fun _ => no

theorem course_ite {p : Prop} [Decidable p] {c : Course} (yes : (d.out[k]).course = c) (no : (e.out[k]).course = c) :
    ((if p then d else e).out[k]).course = c :=
  iteInduction (motive := fun e : Dev => (e.out[k]).course = c) (fun _ => yes) fun _ => no

/-! The course through the operations on a session. -/

/-- A change of an outlet that keeps its course. -/
theorem course_onOut_of_keeps {f : Outlet → Outlet} (h : ∀ o, (f o).course = o.course) : ((onOut k f d).out[k]).course = (d.out[k]).course :=
  onOut_keeps Outlet.course h

theorem sendStatus_course : ((sendStatus k d).out[k]).course = (d.out[k]).course := by
  unfold sendStatus
  extract_lets queued
  exact (course_onOut_of_keeps fun _ => by rfl).trans (course_of_out (onLane_out ..))

theorem statusPeriod_course : ((statusPeriod k d).out[k]).course = (d.out[k]).course := by
  unfold statusPeriod
  extract_lets o due
  exact course_ite sendStatus_course (course_of_out rfl)

theorem outEnter_course : ((outEnter k st d).out[k]).course = (d.out[k]).course.enters st := (sendStatus_course).trans (course_onOut _)

theorem recordCause_course : ((recordCause k n d).out[k]).course = (d.out[k]).course.ended n := course_onOut _

theorem dropTarget_course : ((dropTarget k d).out[k]).course = (d.out[k]).course.dropped := course_onOut _

theorem keepLimit_course : ((keepLimit k d).out[k]).course = (d.out[k]).course := course_ite rfl (course_onOut _)

theorem beginFast_course : ((beginFast k d).out[k]).course = (d.out[k]).course := course_ite (course_onOut _) rfl

/-! Parts that the operations do not touch. -/

theorem within_beginStops (rails : List (Fin 12)) : Within [.leg, .rail, .ratio, .eng] [] d (beginStops rails d) := by
  have par_ (d : Dev) (j : Fin 12) : Within [.leg, .rail, .ratio, .eng] [] d (latchPar j d) := (within_latchPar j).mono (by simp) (by simp)
  unfold beginStops
  extract_lets waits now waiting taken
  have waits_ : Within [.leg, .rail, .ratio, .eng] [] d waiting := within_foldl fun d j =>
    ((par_ d j).trans ((within_genTarget ..).mono (by simp) (by simp))).trans ((within_onRail ..).mono (by simp) (by simp))
  have taken_ : Within [.leg, .rail, .ratio, .eng] [] waiting taken := within_foldl fun d j =>
    (Within.ite .rfl (within_endEpisode ..)).trans (par_ _ _)
  refine waits_.trans (taken_.trans ?_)
  cases now with
  | nil => exact .rfl
  | cons j l => exact within_beginRatio ..

theorem within_holdSetPoint (k : Fin 12) : Within [.rail] [] d (holdSetPoint k d) := within_onRail ..

theorem within_endCheck (k : Fin 12) : Within [.leg, .rail, .ratio, .eng, .ring, .brick] [] d (endCheck k d) := by
  have ends (d : Dev) (j : Fin 12) : Within [.leg, .rail, .ratio, .eng, .ring, .brick] [] d (endEpisode j .stopForced d) :=
    (within_endEpisode ..).mono (by simp) (by simp)
  have stops (d : Dev) (l : List (Fin 12)) : Within [.leg, .rail, .ratio, .eng, .ring, .brick] [] d (beginStops l d) :=
    (within_beginStops l).mono (by simp) (by simp)
  have held (d : Dev) : Within [.leg, .rail, .ratio, .eng, .ring, .brick] [] d (holdSetPoint k d) :=
    (within_holdSetPoint k).mono (by simp) (by simp)
  have opens (d : Dev) (f : Contactor → Contactor) : Within [.leg, .rail, .ratio, .eng, .ring, .brick] [] d (onContactor (.outlet k) f d) :=
    (within_onContactor ..).mono (by simp) (by simp)
  unfold endCheck
  extract_lets r followers ended
  have ended_ : Within [.leg, .rail, .ratio, .eng, .ring, .brick] [] d ended := within_foldl fun d j => ends d j
  refine ended_.trans (.ite ?_ (.ite ?_ (stops ..)))
  · exact (Within.trans (.ite .rfl (ends ..)) (held _)).trans (stops ..)
  · exact ((opens ..).trans (ends ..)).trans (stops ..)

theorem endCheck_out : (endCheck k d).out = d.out := (within_endCheck k).out_eq (by decide)
theorem holdSetPoint_out : (holdSetPoint k d).out = d.out := rfl

theorem within_weldStop (k : Fin 12) : Within [.leg, .rail, .ratio, .eng] [] d (weldStop k d) := .ite (within_beginStop k) .rfl

theorem weldStop_out : (weldStop k d).out = d.out := (within_weldStop k).out_eq (by decide)

theorem within_sendStatus (k : Fin 12) : Within [.barrier, .out] [] d (sendStatus k d) := by
  have queued : Within [.barrier] [] d (enqueue .fh (tenonBytes 0x09 0 0 1 k.val (outletStatus k d) d) d) := within_onLane ..
  exact (queued.mono (by simp) (by simp)).trans ((within_onOut ..).mono (by simp) (by simp))

theorem within_outEnter (k : Fin 12) (st : OutState) : Within [.barrier, .out] [] d (outEnter k st d) :=
  Within.trans ((within_onOut ..).mono (by simp) (by simp)) (within_sendStatus k)

theorem within_statusPeriod (k : Fin 12) : Within [.barrier, .out] [] d (statusPeriod k d) := .ite (within_sendStatus k) .rfl

theorem within_laterCause (k : Fin 12) (n : Nat) : Within eventParts [0x19] d (laterCause k n d) := within_raise ..

theorem within_laterCauses (k : Fin 12) (l : List Nat) : Within eventParts [0x19] d (l.foldl (fun d c => laterCause k c d) d) :=
  within_foldl fun _ c => within_laterCause k c

theorem laterCauses_out (l : List Nat) : (l.foldl (fun d c => laterCause k c d) d).out = d.out := (within_laterCauses k l).out_eq (by decide)

/-! The course through the ends of a session. -/

theorem enterFaulted_course : ((enterFaulted k n d).out[k]).course = (d.out[k]).course.faulted n := by
  unfold enterFaulted
  extract_lets o live limited checked held dropped faulted entered
  have limited_ : (limited.out[k]).course = (d.out[k]).course := course_ite keepLimit_course rfl
  have checked_ : (checked.out[k]).course = (limited.out[k]).course := course_ite (course_of_out endCheck_out) rfl
  have held_ : (held.out[k]).course = (checked.out[k]).course :=
    course_ite ((beginFast_course).trans (course_of_out holdSetPoint_out)) rfl
  have dropped_ : (dropped.out[k]).course = (d.out[k]).course.dropped.ended n := by
    rw [recordCause_course, dropTarget_course, held_, checked_, limited_]
  have faulted_ : (faulted.out[k]).course = (dropped.out[k]).course.withFaults ((dropped.out[k]).course.faults ||| 2 ^ n) :=
    course_onOut _
  have entered_ : (entered.out[k]).course = (faulted.out[k]).course.enters .faulted := outEnter_course
  rw [faulted_, dropped_] at entered_
  exact course_ite ((course_of_out weldStop_out).trans entered_) entered_

theorem enterWinddown_course : ((enterWinddown k n d).out[k]).course = ((d.out[k]).course.dropped.ended n).enters .winddown := by
  unfold enterWinddown
  extract_lets limited checked fast
  have checked_ : (checked.out[k]).course = (limited.out[k]).course := course_ite (course_of_out endCheck_out) rfl
  have fast_ : (fast.out[k]).course = (checked.out[k]).course := course_ite beginFast_course rfl
  rw [outEnter_course, recordCause_course, dropTarget_course, fast_, checked_, keepLimit_course]

end Sys2Proof.Machine
end

section
/-! What the causes of a period make of an outlet (R182, R183). -/
namespace Sys2Proof.Machine
variable {d e : Dev} {k : Fin 12} {l : List Nat} {n : Nat} {st : OutState}

/-! Fault causes recorded. -/

theorem bit_or_two_pow (a n : Nat) : bit (a ||| 2 ^ n) n = true := by simp [bit]

theorem bit_foldl_or {a : Nat} (mem : n ∈ l) : bit (l.foldl (fun a c => a ||| 2 ^ c) a) n = true := by
  induction l generalizing a with
  | nil => cases mem
  | cons c l ih =>
    obtain rfl | mem := List.mem_cons.1 mem
    · exact List.foldlRecOn (motive := fun b => bit b n = true) l _ (bit_or_two_pow a n) fun b set c _ =>
        (Nat.testBit_or ..).trans ((Bool.or_eq_true ..).mpr (.inl set))
    · exact ih mem

/-! The causes by the outlet's state. -/

/-- A cause by which safety ends what has no session. -/
def safetyCause (c : Nat) : Bool := c == 11 || c == 12 || c == 21

theorem safetyCause_iff {c : Nat} : safetyCause c = true ↔ c = 11 ∨ c = 12 ∨ c = 21 := by simp [safetyCause, or_assoc]

theorem takeCauses_of_outOfService (state : (d.out[k]).state = .outOfService) : takeCauses k l d = d := by
  unfold takeCauses
  rw [state]

theorem takeCauses_of_faulted (state : (d.out[k]).state = .faulted) : takeCauses k l d
    = onOut k (fun o => { o with faults := (l.filter pathF).foldl (fun a c => a ||| 2 ^ c) o.faults }) d := by
  unfold takeCauses
  rw [state]

/-- What the first cause that satisfies a condition does. -/
def firstCause (l : List Nat) (p : Nat → Bool) (f : Nat → Dev) (d : Dev) : Dev := match l.find? p with
  | some c => f c
  | none => d

theorem firstCause_eq {p : Nat → Bool} {f : Nat → Dev} : firstCause l p f d = (l.find? p).elim d f := by
  unfold firstCause
  cases l.find? p <;> rfl

theorem firstCause_of_some {p : Nat → Bool} {f : Nat → Dev} (found : l.find? p = some n) : firstCause l p f d = f n :=
  (firstCause_eq).trans (congrArg (Option.elim · d f) found)

theorem firstCause_of_none {p : Nat → Bool} {f : Nat → Dev} (none_ : l.find? p = none) : firstCause l p f d = d :=
  (firstCause_eq).trans (congrArg (Option.elim · d f) none_)

/-- The highest cause of a list is the first that any condition met by all of them finds. -/
theorem find?_true (l : List Nat) : l.find? (fun _ => true) = l.head? := by cases l <;> rfl

theorem takeCauses_of_free (state : (d.out[k]).state = .idle ∨ (d.out[k]).state = .ended) : takeCauses k l d
    = firstCause l safetyCause (fun c => enterFaulted k c d) d := by
  unfold takeCauses
  obtain state | state := state <;> rw [state] <;> rfl

/-- The end of a session that has not begun to charge. -/
def endPlugged (k : Fin 12) (c : Nat) (d : Dev) : Dev :=
  if c = 11 ∨ c = 12 ∨ c = 21 then enterFaulted k c d else outEnter k .ended (recordCause k c (dropTarget k d))

theorem takeCauses_of_plugged (state : (d.out[k]).state = .plugged ∨ (d.out[k]).state = .handshake) : takeCauses k l d
    = firstCause l (fun _ => true) (fun c => endPlugged k c d) d := by
  unfold takeCauses
  obtain state | state := state <;> rw [state] <;> rfl

theorem takeCauses_of_ending (state : (d.out[k]).state = .winddown ∨ (d.out[k]).state = .weldCheck) : takeCauses k l d
    = firstCause l pathF (fun c => enterFaulted k c (l.foldl (fun d c => laterCause k c d) d)) (l.foldl (fun d c => laterCause k c d) d) := by
  unfold takeCauses
  obtain state | state := state <;> rw [state] <;> rfl

/-- The end of a session in charge. -/
def endCharge (k : Fin 12) (c : Nat) (d : Dev) : Dev := if pathF c then enterFaulted k c d else enterWinddown k c d

theorem inCharge_iff : inCharge st = true ↔ st = .cableCheck ∨ st = .precharge ∨ st = .delivering ∨ st = .returning := by
  simp [inCharge, or_assoc]

theorem takeCauses_of_charge (charge : inCharge (d.out[k]).state = true) : takeCauses k l d
    = firstCause l (fun _ => true) (fun c => endCharge k c d) d := by
  unfold takeCauses
  obtain state | state | state | state := inCharge_iff.1 charge <;> rw [state] <;> rfl

/-- The states by what a cause makes of them. -/
theorem outState_cases (st : OutState) : st = .outOfService ∨ st = .faulted ∨ (st = .idle ∨ st = .ended) ∨ (st = .plugged ∨ st = .handshake)
    ∨ (st = .winddown ∨ st = .weldCheck) ∨ inCharge st = true := by
  cases st <;> decide

/-! The causes of a period (R182, R183). -/

theorem enterFaulted_state : ((enterFaulted k n d).out[k]).state = .faulted := congrArg Course.state enterFaulted_course
theorem enterFaulted_faults : bit ((enterFaulted k n d).out[k]).faults n = true :=
  (congrArg (bit · n) (congrArg Course.faults enterFaulted_course)).trans (bit_or_two_pow ..)

theorem endPlugged_course : ((endPlugged k n d).out[k]).course
    = if safetyCause n then (d.out[k]).course.faulted n else ((d.out[k]).course.dropped.ended n).enters .ended := by
  unfold endPlugged
  by_cases safety : n = 11 ∨ n = 12 ∨ n = 21
  · rw [if_pos safety, if_pos (safetyCause_iff.2 safety), enterFaulted_course]
  · rw [if_neg safety, if_neg (mt safetyCause_iff.1 safety), outEnter_course, recordCause_course, dropTarget_course]

theorem endCharge_course : ((endCharge k n d).out[k]).course
    = if pathF n then (d.out[k]).course.faulted n else ((d.out[k]).course.dropped.ended n).enters .winddown := by
  unfold endCharge
  split
  · exact enterFaulted_course
  · exact enterWinddown_course

/-- The course's state and end cause after an end of a session. -/
theorem Course.end_spec {p : Prop} [Decidable p] {c : Course} (h : e.out[k].course = if p then c.faulted n else (c.dropped.ended n).enters st)
    (ends : st ≠ .plugged) : (e.out[k]).state = (if p then .faulted else st) ∧ (e.out[k]).cause = if c.cause = 0 then n else c.cause := by
  have state : (e.out[k]).state = (e.out[k].course).state := rfl
  have cause : (e.out[k]).cause = (e.out[k].course).cause := rfl
  rw [state, cause, h]
  split
  · exact ⟨rfl, rfl⟩
  · exact ⟨rfl, if_neg ends⟩

/-- What the causes of a period, the highest first, make of an outlet (R182, R183). -/
theorem takeCauses_caused : Claims.caused k l d (takeCauses k l d) := by
  unfold Claims.caused
  dsimp only
  obtain out | faulted | free | plugged | ending | charge := outState_cases (d.out[k]).state
  · rw [out]
    exact takeCauses_of_outOfService out
  · rw [faulted, takeCauses_of_faulted faulted, onOut_out, upd_get_same]
    exact ⟨faulted, rfl, fun c mem path => bit_foldl_or (List.mem_filter.2 ⟨mem, path⟩)⟩
  · have found : ∀ c, l.find? safetyCause = some c → ((takeCauses k l d).out[k]).state = .faulted ∧ bit ((takeCauses k l d).out[k]).faults c = true :=
      fun c found => by
        rw [takeCauses_of_free free, firstCause_of_some found]
        exact ⟨enterFaulted_state, enterFaulted_faults⟩
    obtain state | state := free <;> rw [state] <;> exact found
  · have found : ∀ c, l.head? = some c → ((takeCauses k l d).out[k]).state = (if safetyCause c then .faulted else .ended)
        ∧ ((takeCauses k l d).out[k]).cause = if (d.out[k]).cause = 0 then c else (d.out[k]).cause := fun c found => by
      rw [takeCauses_of_plugged plugged, firstCause_of_some ((find?_true l).trans found)]
      exact Course.end_spec endPlugged_course (by decide)
    obtain state | state := plugged <;> rw [state] <;> exact found
  · have found : ∀ c, l.find? pathF = some c → ((takeCauses k l d).out[k]).state = .faulted ∧ bit ((takeCauses k l d).out[k]).faults c = true :=
      fun c found => by
        rw [takeCauses_of_ending ending, firstCause_of_some found]
        exact ⟨enterFaulted_state, enterFaulted_faults⟩
    obtain state | state := ending <;> rw [state] <;> exact found
  · have found : ∀ c, l.head? = some c → ((takeCauses k l d).out[k]).state = (if pathF c then .faulted else .winddown)
        ∧ ((takeCauses k l d).out[k]).cause = if (d.out[k]).cause = 0 then c else (d.out[k]).cause := fun c found => by
      rw [takeCauses_of_charge charge, firstCause_of_some ((find?_true l).trans found)]
      exact Course.end_spec endCharge_course (by decide)
    obtain state | state | state | state := inCharge_iff.1 charge <;> rw [state] <;> exact found

/-- What causes make of an outlet in service is told from its state and end cause before and from its course after. -/
theorem caused_congr {d' e' : Dev} (state : (d'.out[k]).state = (d.out[k]).state) (cause : (d'.out[k]).cause = (d.out[k]).cause)
    (after : (e'.out[k]).course = (e.out[k]).course) (serves : (d.out[k]).state ≠ .outOfService) (h : Claims.caused k l d e) :
    Claims.caused k l d' e' := by
  obtain ⟨state', cause', faults', -⟩ := Outlet.course_eq_iff.1 after
  revert h
  unfold Claims.caused
  dsimp only
  rw [state, cause, state', cause', faults']
  cases st : (d.out[k]).state
  case outOfService => exact absurd st serves
  all_goals exact id

end Sys2Proof.Machine
end

section
/-! An outlet at a period boundary (R182, Table 7.4). -/
namespace Sys2Proof.Machine
variable {d e t : Dev} {k : Fin 12} {l : List Nat} {n : Nat} {x : OutEvent} {f : Outlet → Outlet}

/-! What events make of an outlet. -/

theorem enterPlugged_course : ((enterPlugged k d).out[k]).course = (d.out[k]).course.begins := (outEnter_course).trans
  (congrArg (Course.enters · .plugged) (course_onOut _))

theorem outEnter_num {idx sub : Nat} (st : OutState) : num (outEnter k st d) idx sub = num d idx sub := (within_outEnter k st).num_eq (by simp)

theorem enterPlugged_num {idx sub : Nat} : num (enterPlugged k d) idx sub = num d idx sub := outEnter_num _

theorem plugged_iff : plugged n = true ↔ n = 1 ∨ n = 2 := by simp [plugged]

theorem weldStop_draining (governed : governs k d = true) (live : (d.rail[k]).state = .live) : ((weldStop k d).rail[k]).state = .draining := by
  rw [weldStop, if_pos ⟨governed, live⟩]
  exact (beginStop_spec k d).1

/-- Where an outlet whose faults are reset goes (Table 7.4). -/
def resets (k : Fin 12) (d : Dev) : Dev := if plugged (d.out[k]).conn then enterPlugged k d else outEnter k .idle d

theorem returnToService_course : ((returnToService k d).out[k]).course = (d.out[k]).course.enters .idle :=
  (outEnter_course).trans (congrArg (Course.enters · .idle) (course_onOut _))

theorem resets_course : ((resets k d).out[k]).course = if plugged (d.out[k]).conn then (d.out[k]).course.begins else (d.out[k]).course.enters .idle := by
  unfold resets
  split
  · exact enterPlugged_course
  · exact outEnter_course

theorem takeEvent_course : ((takeEvent k x d).out[k]).course = (d.out[k]).course.after x := by
  cases x with
  | plug => exact enterPlugged_course
  | unplug =>
    unfold takeEvent
    rw [outEnter_course, recordCause_course, dropTarget_course]
    rfl
  | pass => exact (course_of_out weldStop_out).trans outEnter_course
  | turned =>
    refine (outEnter_course).trans ?_
    rw [course_onOut]
    rfl
  | outOfService => exact outEnter_course
  | toService => exact returnToService_course
  | reset =>
    have healed : ((onOut k (fun o => { o with faults := 0 }) d).out[k]).course = (d.out[k]).course.withFaults 0 := course_onOut _
    have conn : ((onOut k (fun o => { o with faults := 0 }) d).out[k]).conn = (d.out[k]).conn := congrArg Course.conn healed
    have reset : takeEvent k .reset d = resets k (onOut k (fun o => { o with faults := 0 }) d) := rfl
    rw [reset, resets_course, healed, conn]
    rfl

theorem governs_of_rail {e : Dev} (h : e.rail = d.rail) : governs k e = governs k d := congrArg (fun r => (r[k]).governing == k) h

/-- What each event makes of an outlet (Table 7.4). -/
theorem takeEvent_evented : Claims.evented k x d (takeEvent k x d) := by
  have course := takeEvent_course (k := k) (x := x) (d := d)
  cases x with
  | plug =>
    exact ⟨congrArg Course.state course, congrArg Course.cause course, congrArg Course.reqI course, congrArg Course.vehMax course,
      (enterPlugged_num).trans (num_bump_same ..)⟩
  | unplug => exact ⟨congrArg Course.state course, congrArg Course.reqI course, congrArg Course.cause course⟩
  | pass =>
    have rail : (outEnter k .ended d).rail = d.rail := (within_outEnter k .ended).rail_eq (by decide)
    refine ⟨congrArg Course.state course, congrArg Course.cause course, fun governed live => weldStop_draining ?_ ?_⟩
    · exact (governs_of_rail rail).trans governed
    · rw [rail]
      exact live
  | turned => exact ⟨congrArg Course.turning course, congrArg Course.state course⟩
  | outOfService => exact congrArg Course.state course
  | toService => exact ⟨congrArg Course.state course, (outEnter_num .idle).trans (num_setNum_same ..)⟩
  | reset =>
    rw [Course.after_reset] at course
    by_cases connected : plugged (d.out[k]).conn = true
    · have begins := course.trans (if_pos connected)
      exact ⟨congrArg Course.faults begins, (congrArg Course.state begins).trans (if_pos (plugged_iff.1 connected)).symm⟩
    · have idles := course.trans (if_neg connected)
      exact ⟨congrArg Course.faults idles, (congrArg Course.state idles).trans (if_neg (mt plugged_iff.2 connected)).symm⟩

/-- What the conditions of an outlet's events, its conditions that are causes, and what its transitions make of it read of its record. -/
def Outlet.judged (o : Outlet) : OutState × Nat × Nat × Bool × Option Int × Bool := (o.state, o.conn, o.cause, o.turning, o.pin, o.headStale)

theorem Outlet.judged_eq_iff {o p : Outlet} : o.judged = p.judged ↔ o.state = p.state ∧ o.conn = p.conn ∧ o.cause = p.cause ∧ o.turning = p.turning
    ∧ o.pin = p.pin ∧ o.headStale = p.headStale := by
  simp only [judged, Prod.mk.injEq]

/-- What an event makes of an outlet is told from what is judged of it before, and from its course after, beside other parts. -/
theorem evented_congr {e' : Dev} (within : Within (.out :: eventParts) [0x19] d t) (judged : (t.out[k]).judged = (d.out[k]).judged)
    (after : Within [.barrier, .out] [] e e') (course : (e'.out[k]).course = (e.out[k]).course) (h : Claims.evented k x t e) :
    Claims.evented k x d e' := by
  obtain ⟨state, conn, cause, -, -, -⟩ := Outlet.judged_eq_iff.1 judged
  obtain ⟨state', cause', faults', -, -, reqI', vehMax', turning'⟩ := Outlet.course_eq_iff.1 course
  have plugs : num t (outIdx k 0) 0x09 = num d (outIdx k 0) 0x09 := within.num_eq (by simp [outIdx_group k])
  have plugs' : num e' (outIdx k 0) 0x09 = num e (outIdx k 0) 0x09 := after.num_eq (by simp)
  have source' : num e' (railIdx k 1) 0x01 = num e (railIdx k 1) 0x01 := after.num_eq (by simp)
  have rail : t.rail = d.rail := within.rail_eq (by decide)
  have rail' : e'.rail = e.rail := after.rail_eq (by decide)
  cases x <;> simp only [Claims.evented, governs, state, conn, cause, state', cause', faults', reqI', vehMax', turning', plugs, plugs', source',
    rail, rail'] at h ⊢ <;> exact h

/-! Conditions judged. -/

theorem causeHolds_onOut (h : ∀ o, (f o).judged = o.judged) : causeHolds k (onOut k f d) n = causeHolds k d n := by
  have judged : (((onOut k f d).out[k]).judged) = (d.out[k]).judged := onOut_keeps Outlet.judged h
  obtain ⟨state, conn, -, -, pin, stale⟩ := Outlet.judged_eq_iff.1 judged
  unfold causeHolds
  dsimp only
  rw [state, conn, pin, stale]
  rfl

theorem faultPresent_onOut (h : ∀ o, (f o).judged = o.judged) : faultPresent k (onOut k f d) = faultPresent k d :=
  congrArg (List.any [11, 12, 21, 16]) (funext fun _ => causeHolds_onOut h)

theorem eventHolds_onOut (h : ∀ o, (f o).judged = o.judged) : eventHolds k (onOut k f d) x = eventHolds k d x := by
  have judged : (((onOut k f d).out[k]).judged) = (d.out[k]).judged := onOut_keeps Outlet.judged h
  obtain ⟨state, conn, -, turning, -, -⟩ := Outlet.judged_eq_iff.1 judged
  unfold eventHolds mayLeave mayReset
  dsimp only
  rw [faultPresent_onOut h, state, conn, turning]
  rfl

end Sys2Proof.Machine
end

section
/-! What an outlet's period does beside a cable check (R182). -/
namespace Sys2Proof.Machine
variable {d e : Dev} {k : Fin 12} {l : List Nat} {x : OutEvent} {f : Outlet → Outlet}

/-! Causes that do not move an outlet. -/

/-- A part of the period that moves the outlet nowhere: what is judged of it, the conditions of its events and the other parts stand. -/
def Quiet (k : Fin 12) (d e : Dev) : Prop :=
  Within (.out :: eventParts) [0x19] d e ∧ (e.out[k]).judged = (d.out[k]).judged ∧ ∀ x, eventHolds k e x = eventHolds k d x

theorem Quiet.within (h : Quiet k d e) : Within (.out :: eventParts) [0x19] d e := h.1
theorem Quiet.judged (h : Quiet k d e) : (e.out[k]).judged = (d.out[k]).judged := h.2.1
theorem Quiet.holds (h : Quiet k d e) (x : OutEvent) : eventHolds k e x = eventHolds k d x := h.2.2 x
theorem Quiet.refl : Quiet k d d := ⟨.rfl, rfl, fun _ => rfl⟩
theorem Quiet.trans {c : Dev} (h : Quiet k d e) (h' : Quiet k e c) : Quiet k d c :=
  ⟨h.within.trans h'.within, h'.judged.trans h.judged, fun x => (h'.holds x).trans (h.holds x)⟩
theorem Quiet.state (h : Quiet k d e) : (e.out[k]).state = (d.out[k]).state := congrArg Prod.fst h.judged
theorem Quiet.cause (h : Quiet k d e) : (e.out[k]).cause = (d.out[k]).cause := congrArg (·.2.2.1) h.judged

theorem quiet_onOut (h : ∀ o, (f o).judged = o.judged) : Quiet k d (onOut k f d) :=
  ⟨(within_onOut ..).mono (by simp) (by simp), onOut_keeps Outlet.judged h, fun _ => eventHolds_onOut h⟩

/-- While a session ends, nothing but the pass of the weld check is an event. -/
theorem eventHolds_of_ending (ending : (d.out[k]).state = .winddown ∨ (d.out[k]).state = .weldCheck) :
    eventHolds k d x = (x == .pass && (d.out[k]).state == .weldCheck) := by
  unfold eventHolds mayLeave mayReset
  dsimp only
  obtain state | state := ending <;> rw [state] <;> cases x
  case inl.turned | inr.turned => exact Bool.and_false _
  all_goals rfl

theorem quiet_laterCauses (ending : (d.out[k]).state = .winddown ∨ (d.out[k]).state = .weldCheck) :
    Quiet k d (l.foldl (fun d c => laterCause k c d) d) := by
  have out : ((l.foldl (fun d c => laterCause k c d) d).out[k]) = d.out[k] := by rw [laterCauses_out]
  exact ⟨(within_laterCauses k l).mono (by simp) (by simp), congrArg Outlet.judged out, fun x => by
    rw [eventHolds_of_ending (by rw [out]; exact ending), eventHolds_of_ending ending, out]⟩

theorem find?_none_of_any {p : Nat → Bool} (h : l.any p = false) : l.find? p = none := by simpa using h

theorem causesMove_of_state (h : (e.out[k]).state = (d.out[k]).state) : causesMove k l e = causesMove k l d := by
  rw [causesMove, causesMove, h]

/-- Causes that do not move an outlet record no more than later causes and, in FAULTED, further faults (R182). -/
theorem quiet_takeCauses (quiet : causesMove k l d = false) : Quiet k d (takeCauses k l d) := by
  obtain out | faulted | free | plugged | ending | charge := outState_cases (d.out[k]).state
  · rw [takeCauses_of_outOfService out]
    exact .refl
  · rw [takeCauses_of_faulted faulted]
    exact quiet_onOut fun _ => rfl
  · have none_ : l.find? safetyCause = none := find?_none_of_any (by
      unfold causesMove at quiet
      obtain state | state := free <;> rw [state] at quiet <;> exact quiet)
    rw [takeCauses_of_free free, firstCause_of_none none_]
    exact .refl
  · have nil : l = [] := by
      unfold causesMove at quiet
      obtain state | state := plugged <;> rw [state] at quiet <;> simpa using quiet
    rw [takeCauses_of_plugged plugged, nil]
    exact .refl
  · have none_ : l.find? pathF = none := find?_none_of_any (by
      unfold causesMove at quiet
      obtain state | state := ending <;> rw [state] at quiet <;> exact quiet)
    rw [takeCauses_of_ending ending, firstCause_of_none none_]
    exact quiet_laterCauses ending
  · have nil : l = [] := by
      unfold causesMove at quiet
      obtain state | state | state | state := inCharge_iff.1 charge <;> rw [state] at quiet <;> simpa using quiet
    rw [takeCauses_of_charge charge, nil]
    exact .refl

/-! The causes of a period. -/

/-- What an outlet's causes read of its record beside what is judged of it: the causes raised and the phase asked for. -/
def Outlet.asked (o : Outlet) : Nat × Bool × Nat × Nat := (o.raised, o.phaseWaits, o.phase, o.flags)

theorem phaseCause_onOut (judged : ∀ o, (f o).judged = o.judged) (asked : ∀ o, (f o).asked = o.asked) :
    phaseCause k (onOut k f d) = phaseCause k d := by
  have state : ((onOut k f d).out[k]).state = (d.out[k]).state := congrArg Prod.fst (onOut_keeps Outlet.judged judged)
  have asks : ((onOut k f d).out[k]).asked = (d.out[k]).asked := onOut_keeps Outlet.asked asked
  simp only [Outlet.asked, Prod.mk.injEq] at asks
  obtain ⟨-, waits, phase, flags⟩ := asks
  unfold phaseCause
  dsimp only
  rw [state, waits, phase, flags]

theorem causesNow_onOut (judged : ∀ o, (f o).judged = o.judged) (asked : ∀ o, (f o).asked = o.asked) :
    causesNow k (onOut k f d) = causesNow k d := by
  have raised : ((onOut k f d).out[k]).raised = (d.out[k]).raised := congrArg Prod.fst (onOut_keeps Outlet.asked asked)
  unfold causesNow
  rw [raised, phaseCause_onOut judged asked]
  exact congrArg (causeRank.filter ·) (funext fun c => by rw [causeHolds_onOut judged])

/-! What was noted for a boundary. -/

theorem course_notes_of_eq {c : Course} (h : (e.out[k]).course = c) (kept : c.notes = (d.out[k]).course.notes) :
    (e.out[k]).course.notes = (d.out[k]).course.notes := (congrArg Course.notes h).trans kept

theorem outEnter_notes (st : OutState) : ((outEnter k st d).out[k]).course.notes = (d.out[k]).course.notes :=
  course_notes_of_eq outEnter_course rfl

theorem enterFaulted_notes (n : Nat) : ((enterFaulted k n d).out[k]).course.notes = (d.out[k]).course.notes :=
  course_notes_of_eq enterFaulted_course rfl

theorem endPlugged_notes (n : Nat) : ((endPlugged k n d).out[k]).course.notes = (d.out[k]).course.notes :=
  course_notes_of_eq endPlugged_course (by split <;> rfl)

theorem endCharge_notes (n : Nat) : ((endCharge k n d).out[k]).course.notes = (d.out[k]).course.notes :=
  course_notes_of_eq endCharge_course (by split <;> rfl)

theorem notes_of_out (h : e.out = d.out) : (e.out[k]).course.notes = (d.out[k]).course.notes := congrArg Course.notes (course_of_out h)

theorem firstCause_notes {p : Nat → Bool} {g : Nat → Dev → Dev} (h : ∀ n, ((g n d).out[k]).course.notes = (d.out[k]).course.notes) :
    ((firstCause l p (g · d) d).out[k]).course.notes = (d.out[k]).course.notes := by
  cases found : l.find? p with
  | some n =>
    rw [firstCause_of_some found]
    exact h n
  | none => rw [firstCause_of_none found]

theorem takeCauses_notes : ((takeCauses k l d).out[k]).course.notes = (d.out[k]).course.notes := by
  obtain out | faulted | free | plugged | ending | charge := outState_cases (d.out[k]).state
  · rw [takeCauses_of_outOfService out]
  · rw [takeCauses_of_faulted faulted]
    exact course_notes_of_eq (course_onOut _) rfl
  · rw [takeCauses_of_free free]
    exact firstCause_notes enterFaulted_notes
  · rw [takeCauses_of_plugged plugged]
    exact firstCause_notes endPlugged_notes
  · rw [takeCauses_of_ending ending]
    exact (firstCause_notes enterFaulted_notes).trans (notes_of_out (laterCauses_out l))
  · rw [takeCauses_of_charge charge]
    exact firstCause_notes endCharge_notes

theorem takeEvent_notes : ((takeEvent k x d).out[k]).course.notes = (d.out[k]).course.notes := by
  refine course_notes_of_eq takeEvent_course ?_
  cases x with
  | reset =>
    rw [Course.after_reset]
    split <;> rfl
  | _ => rfl

theorem notes_ite {p : Prop} [Decidable p] {a b : Dev} {notes : Nat × List OutEvent} (yes : (a.out[k]).course.notes = notes)
    (no : (b.out[k]).course.notes = notes) : ((if p then a else b).out[k]).course.notes = notes :=
  iteInduction (motive := fun e : Dev => (e.out[k]).course.notes = notes) (fun _ => yes) fun _ => no

theorem sessionVoltage_out (k : Fin 12) (v : Int) : (sessionVoltage k v d).out = d.out := by
  unfold sessionVoltage
  refine out_ite rfl ?_
  extract_lets bumped
  have out : bumped.out = d.out := out_ite rfl rfl
  exact out

theorem enterWeld_notes : ((enterWeld k d).out[k]).course.notes = (d.out[k]).course.notes := by
  unfold enterWeld
  extract_lets v0 o vw voltage
  have voltage_ : voltage.out = d.out := out_ite rfl rfl
  exact ((notes_of_out (sessionVoltage_out ..)).trans (outEnter_notes .weldCheck)).trans
    ((course_notes_of_eq (course_onOut _) rfl).trans (notes_of_out voltage_))

theorem applyPhase_notes : ((applyPhase k d).out[k]).course.notes = (d.out[k]).course.notes := by
  unfold applyPhase
  extract_lets o spent turn
  have spent_ (d : Dev) : ((spent d).out[k]).course.notes = (d.out[k]).course.notes := course_notes_of_eq (course_onOut _) rfl
  have turn_ (x : Bool) : ((turn x).out[k]).course.notes = (d.out[k]).course.notes :=
    (spent_ _).trans (course_notes_of_eq (course_onOut _) rfl)
  have enters {st : OutState} {e : Dev} (h : (e.out[k]).course.notes = (d.out[k]).course.notes) :
      ((outEnter k st (spent e)).out[k]).course.notes = (d.out[k]).course.notes :=
    (outEnter_notes st).trans ((spent_ e).trans h)
  refine notes_ite rfl (notes_ite (notes_ite rfl (spent_ d)) ?_)
  generalize o.state = st
  cases st with
  | plugged => exact notes_ite (enters (notes_of_out rfl)) rfl
  | handshake => exact notes_ite (enters (course_notes_of_eq (course_onOut _) rfl)) rfl
  | cableCheck => exact notes_ite ((notes_of_out (sessionVoltage_out ..)).trans (enters rfl)) rfl
  | precharge => exact notes_ite (enters (notes_of_out rfl)) (notes_ite (enters (notes_of_out rfl)) rfl)
  | delivering | returning => exact notes_ite (turn_ false) (notes_ite (turn_ true) (spent_ d))
  | idle | winddown | weldCheck | ended | faulted | outOfService => rfl

theorem quietPeriod_notes (events : List OutEvent) : ((quietPeriod k events d).out[k]).course.notes = (d.out[k]).course.notes := by
  unfold quietPeriod
  split
  · exact takeEvent_notes
  split
  · exact notes_ite (course_notes_of_eq returnToService_course rfl) rfl
  · exact notes_ite enterWeld_notes rfl
  · exact applyPhase_notes

/-! The period. -/

/-- The transition of an outlet in a period (R182): of the causes that move it, or else of what is quiet. -/
def transition (k : Fin 12) (l : List Nat) (events : List OutEvent) (d : Dev) : Dev :=
  if causesMove k l d then takeCauses k l d else quietPeriod k events (takeCauses k l d)

theorem transition_notes (events : List OutEvent) : ((transition k l events d).out[k]).course.notes = (d.out[k]).course.notes :=
  notes_ite takeCauses_notes ((quietPeriod_notes events).trans takeCauses_notes)

/-- Beside a cable check, a period samples the outlet, spends what was noted for it, makes the transition of the causes and events of its
start, and sends the status (R182, R187). -/
theorem outletPeriod_beside_check (beside : (d.out[k]).state ≠ .cableCheck) : ∃ b, Quiet k d b ∧ (b.out[k]).course.notes = (0, [])
    ∧ outletPeriod k d = statusPeriod k (transition k (causesNow k d) (d.out[k]).events b) := by
  unfold outletPeriod
  extract_lets i sampled checked causes events begun moved
  have quiet : Quiet k d sampled := quiet_onOut fun _ => Outlet.judged_eq_iff.2 ⟨rfl, rfl, rfl, rfl, rfl, rfl⟩
  have checked_ : checked = sampled := if_neg (quiet.state ▸ beside)
  have causes_ : causes = causesNow k d := by
    unfold causes
    rw [checked_]
    exact causesNow_onOut (fun _ => Outlet.judged_eq_iff.2 ⟨rfl, rfl, rfl, rfl, rfl, rfl⟩) fun _ => rfl
  have events_ : events = (d.out[k]).events := by
    unfold events
    rw [checked_]
    exact onOut_keeps Outlet.events fun _ => rfl
  refine ⟨begun, ?_, congrArg Course.notes (course_onOut _), ?_⟩
  · unfold begun
    rw [checked_]
    exact quiet.trans (quiet_onOut fun _ => Outlet.judged_eq_iff.2 ⟨rfl, rfl, rfl, rfl, rfl, rfl⟩)
  · rw [← causes_, ← events_]
    rfl

/-- An outlet makes one transition at most in a period, of the highest cause that its state knows, else of an event (R182). -/
theorem outletBoundary_holds : Claims.outletBoundary := by
  intro k s d l
  refine ⟨takeCauses_caused, fun beside moves => ?_, fun beside quiet x found => ?_, fun beside => ?_⟩ <;>
    obtain ⟨b, begun, spent, period_⟩ := outletPeriod_beside_check beside <;> rw [period_]
  · have moves_ : causesMove k l b = true := (causesMove_of_state begun.state).trans moves
    have serves : (b.out[k]).state ≠ .outOfService := fun out => by
      unfold causesMove at moves_
      rw [out] at moves_
      exact Bool.false_ne_true moves_
    rw [transition, if_pos moves_]
    exact caused_congr begun.state.symm begun.cause.symm statusPeriod_course serves takeCauses_caused
  · have quiet_ : causesMove k l b = false := (causesMove_of_state begun.state).trans quiet
    have taken : Quiet k d (takeCauses k l b) := begun.trans (quiet_takeCauses quiet_)
    have holds : eventHolds k (takeCauses k l b) = eventHolds k d := funext taken.holds
    rw [transition, if_neg (ne_true_of_eq_false quiet_), quietPeriod, holds, found]
    exact evented_congr taken.within taken.judged (within_statusPeriod k) statusPeriod_course takeEvent_evented
  · have notes : ((statusPeriod k (transition k l (d.out[k]).events b)).out[k]).course.notes = (0, []) :=
      (congrArg Course.notes statusPeriod_course).trans ((transition_notes _).trans spent)
    exact ⟨congrArg Prod.fst notes, congrArg Prod.snd notes⟩

end Sys2Proof.Machine
end

section
/-! The claims on the commands of an outlet's session at the field side (Table 7.4, R186, R187, R336). -/
namespace Sys2Proof.Machine
variable {d : Dev} {s : State} {k : Fin 12} {b : List Byte}

theorem eventHolds_plug : eventHolds k d .plug = true ↔ (d.out[k]).state = .idle ∧ ((d.out[k]).conn = 1 ∨ (d.out[k]).conn = 2)
    ∧ fxWaits d = false ∧ noNewSession d = false := by
  rw [eventHolds_plug_eq]
  simp only [Bool.and_eq_true, beq_iff_eq, plugged_iff, Bool.not_eq_true', and_assoc]

theorem connectionDetected_holds : Claims.connectionDetected := by
  intro k s
  obtain ⟨noted, rests⟩ := event_when_due (c := .connectionDetected k) (p := eventHolds k s.dev .plug = true) rfl
  refine ⟨fun idle conn fx session => noted (eventHolds_plug.2 ⟨idle, conn, fx, session⟩), fun not_ => rests fun holds => ?_⟩
  obtain ⟨idle, conn, fx, session⟩ := eventHolds_plug.1 holds
  obtain other | ⟨none1, none2⟩ | waits | no := not_
  · exact other idle
  · exact conn.elim none1 none2
  · exact Bool.false_ne_true (fx.symm.trans waits)
  · exact Bool.false_ne_true (session.symm.trans no)

theorem eventHolds_unplug : eventHolds k d .unplug = true
    ↔ ((d.out[k]).state = .plugged ∨ (d.out[k]).state = .handshake ∨ (d.out[k]).state = .ended) ∧ (d.out[k]).conn = 0 := by
  rw [eventHolds_unplug_eq]
  simp only [Bool.and_eq_true, Bool.or_eq_true, beq_iff_eq, or_assoc]

theorem unplugDetected_holds : Claims.unplugDetected := by
  intro k s o may
  obtain ⟨noted, rests⟩ := event_when_due (c := .unplugDetected k) (p := eventHolds k s.dev .unplug = true) rfl
  refine ⟨fun state conn => noted (eventHolds_unplug.2 ⟨state, conn⟩), fun not_ => rests fun holds => ?_⟩
  obtain ⟨state, conn⟩ := eventHolds_unplug.1 holds
  exact not_.elim (· state) (· conn)

theorem plugTimeout_holds : Claims.plugTimeout := fun _ _ => cause_when_due rfl

theorem targetTimeout_holds : Claims.targetTimeout := fun _ _ => (cause_when_due rfl).imp_right fun rests no => rests (ne_true_of_eq_false no)

/-- The record of an outlet whose hold of a switch-over has ended. -/
def Outlet.holdEnded (o : Outlet) : Outlet := { o with swHold := none, grantCap := none }

theorem exec_switchOverTargetHoldExpiry : exec (.switchOverTargetHoldExpiry k) s = done s ((s.dev.out[k]).swHold.elim s.dev fun t =>
    let e := onOut k Outlet.holdEnded (reach (t + ms (nat s.dev 0x1C01 0x03)) s.dev)
    if inCharge (e.out[k]).state then raiseCause k 5 e else e) := by
  change execSwitchOverTargetHoldExpiry k s = _
  unfold execSwitchOverTargetHoldExpiry
  dsimp only
  cases (s.dev.out[k]).swHold <;> rfl

theorem switchOverTargetHoldExpiry_holds : Claims.switchOverTargetHoldExpiry := by
  refine fun k s => ⟨fun t hold => ?_, fun none_ => rests_of_none exec_switchOverTargetHoldExpiry none_⟩
  have same : ((onOut k Outlet.holdEnded (reach (t + ms (nat s.dev 0x1C01 0x03)) s.dev)).out[k]) = (s.dev.out[k]).holdEnded :=
    upd_get_same s.dev.out k Outlet.holdEnded
  have state : ((onOut k Outlet.holdEnded (reach (t + ms (nat s.dev 0x1C01 0x03)) s.dev)).out[k]).state = (s.dev.out[k]).state :=
    (congrArg Outlet.state same).trans rfl
  have work := acts_of_some exec_switchOverTargetHoldExpiry hold
  dsimp only at work
  rw [state] at work
  split at work <;> rename_i charge
  · refine gives_of_done work (le_max_left ..) ⟨?_, ?_, le_max_right .., fun _ => causeNoted_raiseCause ?_⟩
    · rw [raiseCause_keeps Outlet.swHold fun _ _ => rfl, same]
      rfl
    · rw [raiseCause_keeps Outlet.grantCap fun _ _ => rfl, same]
      rfl
    · rw [same]
      rfl
  · exact gives_of_done work (le_max_left ..) ⟨congrArg Outlet.swHold same, congrArg Outlet.grantCap same, le_max_right ..,
      fun yes => absurd yes charge⟩

/-! Target updates (R186). -/

theorem targetUpdate_of_outlet (own : fieldAt b 0 1 = k.val) : targetUpdate b d = if updateBad k b d then bump (outIdx k 0) 0x0E d
    else if ((acceptUpdate k b d).out[k]).state = .precharge ∧ ((acceptUpdate k b d).out[k]).phase = 2
      then sessionVoltage k (100 * ((acceptUpdate k b d).out[k]).targetV) (acceptUpdate k b d) else acceptUpdate k b d := by
  have low : fieldAt b 0 1 < 12 := own ▸ k.isLt
  obtain rfl : k = ⟨fieldAt b 0 1, low⟩ := Fin.ext own.symm
  exact dif_pos low

/-- What an accepted update makes of an outlet's record, the session's targets and limits (R186). -/
theorem acceptUpdate_out : ((acceptUpdate k b d).out[k]).updCount = some (fieldAt b 34 4) ∧ ((acceptUpdate k b d).out[k]).updAt = d.time.now
    ∧ ((acceptUpdate k b d).out[k]).phase = fieldAt b 1 1 ∧ ((acceptUpdate k b d).out[k]).targetV = fieldAt b 4 4
    ∧ ((acceptUpdate k b d).out[k]).reqI = clamp (-num d (outIdx k 1) 0x02) (num d (outIdx k 1) 0x02) (signed 16 (fieldAt b 8 2))
    ∧ (inCharge (d.out[k]).state = true →
        ((acceptUpdate k b d).out[k]).vehMax = some (min (fieldAt b 14 4 : Int) (num d (outIdx k 1) 0x03)))
    ∧ ((acceptUpdate k b d).out[k]).state = (d.out[k]).state := by
  unfold acceptUpdate
  extract_lets max_ vmax req cur vm v counted minV session
  have out : counted.out = d.out := out_ite rfl rfl
  have time : counted.time = d.time := iteInduction (motive := fun e : Dev => e.time = d.time) (fun _ => rfl) fun _ => rfl
  rw [onOut_out, upd_get_same, out, time]
  refine ⟨rfl, rfl, rfl, rfl, rfl, fun charge => if_pos ?_, rfl⟩
  simp only [session, charge, Bool.true_or]

theorem targetUpdate_accepted (own : fieldAt b 0 1 = k.val) (good : updateBad k b d = false) : (targetUpdate b d).out = (acceptUpdate k b d).out := by
  rw [targetUpdate_of_outlet own, if_neg (ne_true_of_eq_false good)]
  split
  · exact sessionVoltage_out ..
  · rfl

theorem updateBad_receive {m : TenonMsg} : updateBad k b (receive .hf m d).1 = updateBad k b d := by
  have returns : on (receive .hf m d).1 (outIdx k 1) 0x07 = on d (outIdx k 1) 0x07 := by
    rw [on, on, receive_outNum (by decide) (by decide)]
  rw [updateBad, updateBad, receive_outlet, returns]

theorem vehicleTargetUpdate_holds : Claims.vehicleTargetUpdate := by
  intro k m s b max_
  obtain ⟨acts, receives⟩ := message_cases (c := .vehicleTargetUpdate m) (s := s) (n := 0x08) (f := targetUpdate m.payload) rfl
  refine ⟨fun heard runs own bad => ?_, fun heard runs own good => ?_, receives⟩
  · refine gives_of_done (acts heard runs) (by simp) ?_
    rw [targetUpdate_of_outlet own, if_pos ((updateBad_receive).trans bad), num_bump_same, receive_outNum (by decide) (by decide)]
    exact ⟨receive_outlet, rfl⟩
  · refine gives_of_done (acts heard runs) (by simp) ?_
    have accepted := acceptUpdate_out (k := k) (b := b) (d := (receive .hf m s.dev).1)
    rw [receive_outNum (by decide) (by decide), receive_outNum (by decide) (by decide), receive_time, receive_outlet] at accepted
    rw [targetUpdate_accepted own ((updateBad_receive).trans good)]
    exact accepted

/-! The status at the host (R187). -/

/-- What the host keeps of an outlet's status (R187). -/
def statusHeld (b : List Byte) (d : Dev) : Dev :=
  if h : fieldAt b 0 1 < 12 then onVehicle ⟨fieldAt b 0 1, h⟩ (fun v => { v with status := b }) d else d

theorem statusHeld_of_outlet (own : fieldAt b 0 1 = k.val) : ((statusHeld b d).vehicle[k]).status = b := by
  have low : fieldAt b 0 1 < 12 := own ▸ k.isLt
  obtain rfl : k = ⟨fieldAt b 0 1, low⟩ := Fin.ext own.symm
  have held : statusHeld b d = onVehicle ⟨fieldAt b 0 1, low⟩ (fun v => { v with status := b }) d := dif_pos low
  rw [held]
  exact congrArg Vehicle.status (upd_get_same ..)

theorem outletStatus_holds : Claims.outletStatus := by
  intro k m s
  obtain ⟨acts, receives⟩ := message_cases (c := .outletStatus m) (s := s) (n := 0x09) (f := statusHeld m.payload) rfl
  exact ⟨fun heard runs own => gives_of_done (acts heard runs) (by simp [statusHeld]) (statusHeld_of_outlet own), receives⟩

end Sys2Proof.Machine
end

section
/-! What a vehicle's message touches: the answer on its line, the target update sent, and the session's record (R186, R188 to R192). -/
namespace Sys2Proof.Machine
variable {d e : Dev} {k : Fin 12} {r : VehicleRequest} {rejected : Bool} {b : List Byte} {i : Nat}

theorem Within.vehicle_eq {parts groups} (h : Within parts groups d e) (out : Part.vehicle ∉ parts) : e.vehicle = d.vehicle := h.1 .vehicle out
theorem Within.metro_eq {parts groups} (h : Within parts groups d e) (out : Part.metro ∉ parts) : e.metro = d.metro := h.1 .metro out

theorem within_onVehicle (k : Fin 12) (f : Vehicle → Vehicle) : Within [.vehicle] [] d (onVehicle k f d) := by
  refine ⟨fun p out => ?_, fun _ _ => rfl⟩
  cases p
  case vehicle => exact absurd (List.mem_singleton_self _) out
  case time => exact ⟨le_rfl, rfl⟩
  all_goals rfl

theorem within_onEave (f : Eave → Eave) : Within [.eave] [] d (onEave f d) := by
  refine ⟨fun p out => ?_, fun _ _ => rfl⟩
  cases p
  case eave => exact absurd (List.mem_singleton_self _) out
  case time => exact ⟨le_rfl, rfl⟩
  all_goals rfl

theorem within_freeNat : Within [.freeCount] [] d (freeNat d).2 := by
  refine ⟨fun p out => ?_, fun _ _ => rfl⟩
  cases p
  case freeCount => exact absurd (List.mem_singleton_self _) out
  case time => exact ⟨le_rfl, rfl⟩
  all_goals rfl

theorem within_queueMsg (n : Fin 16) (cls type : Nat) (content : List Byte) : Within [.eave] [] d (queueMsg n cls type content d) :=
  .ite .rfl (within_onEave _)

theorem within_sendFrame (k : Fin 12) : Within [.eave, .freeCount] [] d (sendFrame k d) := by
  have free (d : Dev) : Within [.eave, .freeCount] [] d (freeNat d).2 := (within_freeNat).mono (by simp) (by simp)
  unfold sendFrame
  split
  · extract_lets n
    split
    · exact (within_onEave _).mono (by simp) (by simp)
    · exact ((free d).trans (free _)).trans ((within_queueMsg n 2 0x1 _).mono (by simp) (by simp))
  · exact .rfl

/-- The device whose answer's code stands in the vehicle's entry. -/
def coded (k : Fin 12) (d : Dev) : Dev := setNum (vehIdx k) 0x05 ((freeNat d).1 % 65536 : Nat) (freeNat d).2

theorem within_coded (k : Fin 12) : Within [.freeCount] [key (vehIdx k) 0x05 / 65536] d (coded k d) :=
  ((within_freeNat).mono (by simp) (by simp)).trans ((within_setNum ..).mono (by simp) (by simp))

/-- The answer to a vehicle changes its entry of the answer's code and no other, and what its line queues. -/
theorem within_answerVehicle (k : Fin 12) : Within [.eave, .freeCount] [key (vehIdx k) 0x05 / 65536] d (answerVehicle k d) :=
  ((within_coded k).mono (by simp) (by simp)).trans ((within_sendFrame k).mono (by simp) (by simp))

theorem answerVehicle_getVal (other : i ≠ key (vehIdx k) 0x05) : getVal (answerVehicle k d) i = getVal d i :=
  ((within_sendFrame k).2 i (by simp)).trans (getVal_setVal_other _ _ _ _ other)

theorem answerVehicle_num {idx sub : Nat} (other : key idx sub ≠ key (vehIdx k) 0x05) : num (answerVehicle k d) idx sub = num d idx sub :=
  congrArg intOf (answerVehicle_getVal other)

theorem answerVehicle_vehicle : (answerVehicle k d).vehicle = d.vehicle := (within_answerVehicle k).vehicle_eq (by decide)
theorem answerVehicle_metro : (answerVehicle k d).metro = d.metro := (within_answerVehicle k).metro_eq (by decide)

theorem key_lt_key {idx idx' sub sub' : Nat} (low : sub < 256) (before : idx < idx') : key idx sub < key idx' sub' :=
  calc idx * 256 + sub < idx * 256 + 256 := Nat.add_lt_add_left low _
    _ = (idx + 1) * 256 := (Nat.succ_mul ..).symm
    _ ≤ idx' * 256 := Nat.mul_le_mul_right _ before
    _ ≤ idx' * 256 + sub' := Nat.le_add_right ..

theorem key_mod {idx sub : Nat} (low : sub < 256) : key idx sub % 256 = sub := (Nat.mul_add_mod_self_right ..).trans (Nat.mod_eq_of_lt low)

/-- The entry of an answer's code is none of the tables before it, and none of another sub-index. -/
theorem key_ne_answer {idx sub : Nat} (low : sub < 256) (other : idx < 0x3110 ∨ sub ≠ 0x05) : key idx sub ≠ key (vehIdx k) 0x05 := by
  obtain before | other := other
  · exact (key_lt_key low (before.trans_le (Nat.le_add_right ..))).ne
  · exact fun same => other ((key_mod low).symm.trans ((congrArg (· % 256) same).trans (key_mod (by decide))))

/-- The selection of a protocol reads no answer (R189). -/
theorem selectProtocol_answerVehicle {l : List Nat} {tls : Bool} : selectProtocol k l tls (answerVehicle k d) = selectProtocol k l tls d := by
  have settings (sub : Nat) (low : sub < 256) : num (answerVehicle k d) 0x3100 sub = num d 0x3100 sub :=
    answerVehicle_num (key_ne_answer low (.inl (by decide)))
  have type : num (answerVehicle k d) (outIdx k 1) 0x01 = num d (outIdx k 1) 0x01 :=
    answerVehicle_num (key_ne_answer (by decide) (.inr (by decide)))
  have fits (p : Nat) : protocolFits k tls p (answerVehicle k d) = protocolFits k tls p d := by
    unfold protocolFits on
    rw [settings 0x03 (by decide), settings 0x02 (by decide), settings 0x05 (by decide), type]
  unfold selectProtocol nat
  rw [settings 0x01 (by decide)]
  simp only [fits]

/-! Target updates sent (R186). -/

/-- The record of a vehicle's session for which an update was sent. -/
def Vehicle.updateSent (t : Nat) (b : List Byte) (v : Vehicle) : Vehicle := { v with count := (v.count + 1) % 2 ^ 32, lastSent := t, update := b }

/-- The next update of a vehicle's session (R186). -/
def nextUpdate (k : Fin 12) (r : VehicleRequest) (rejected : Bool) (d : Dev) : List Byte :=
  updateBytes k r (d.vehicle[k]).authorized rejected (d.vehicle[k]).protocol d.time.now (((d.vehicle[k]).count + 1) % 2 ^ 32)

theorem sendUpdate_eq : sendUpdate k r rejected d = if updateFields (nextUpdate k r rejected d) = updateFields (d.vehicle[k]).update then d
    else onVehicle k (Vehicle.updateSent d.time.now (nextUpdate k r rejected d))
      (enqueue .hf (tenonBytes 0x08 0 0 1 k.val (nextUpdate k r rejected d) d) d) := rfl

theorem within_enqueue (l : Lane) (m : TenonOut) : Within [.barrier] [] d (enqueue l m d) := within_onLane ..

theorem enqueue_vehicle (l : Lane) (m : TenonOut) : (enqueue l m d).vehicle = d.vehicle := (within_enqueue l m).vehicle_eq (by decide)

theorem within_sendUpdate : Within [.vehicle, .barrier] [] d (sendUpdate k r rejected d) := by
  rw [sendUpdate_eq]
  exact .ite .rfl (((within_enqueue ..).mono (by simp) (by simp)).trans ((within_onVehicle ..).mono (by simp) (by simp)))

/-- The record of a vehicle's session after an update: sent where it changes a field. -/
theorem sendUpdate_vehicle : (sendUpdate k r rejected d).vehicle[k]
    = if updateFields (nextUpdate k r rejected d) = updateFields (d.vehicle[k]).update then d.vehicle[k]
      else (d.vehicle[k]).updateSent d.time.now (nextUpdate k r rejected d) := by
  rw [sendUpdate_eq]
  split
  · rfl
  · exact (upd_get_same ..).trans (congrArg (Vehicle.updateSent _ _) (congrArg (·[k]) (enqueue_vehicle ..)))

/-- What a vehicle's session is: its protocol and security, its authorization and the question for it. -/
def Vehicle.session (v : Vehicle) : Nat × Bool × Bool × Option Nat := (v.protocol, v.tls, v.authorized, v.pendingSince)

theorem sendUpdate_session : ((sendUpdate k r rejected d).vehicle[k]).session = (d.vehicle[k]).session := by
  rw [sendUpdate_vehicle]
  split <;> rfl

theorem length_leBytes (n v : Nat) : (leBytes n v).length = n := by
  induction n generalizing v with
  | zero => rfl
  | succ n ih => exact congrArg Nat.succ (ih _)

theorem length_evData (l : List (Nat × Int)) : (evData l).length = (l.map Prod.fst).sum := by
  simp [evData, List.length_flatMap, length_leBytes]

theorem evData_append (l l' : List (Nat × Int)) : evData (l ++ l') = evData l ++ evData l' := List.flatMap_append

/-- The fields of an update before its time and count, and those after them (Table 7.5). -/
def updateHead (k : Fin 12) (r : VehicleRequest) (authorized rejected : Bool) : List (Nat × Int) :=
  [(1, (k.val : Int)), (1, (r.phase.val : Int)), (2, flag authorized + 2 * flag r.bidirectional + 4 * flag r.dynamic + 8 * flag rejected),
    (4, (r.targetV : Int)), (2, r.current), (2, (r.maxI : Int)), (2, (r.maxDis : Int)), (4, (r.maxV : Int)), (4, (r.minV : Int)),
    (4, (r.presentV : Int))]
def updateTail (protocol : Nat) : List (Nat × Int) := [(1, (protocol : Int)), (9, 0)]

theorem updateBytes_eq (authorized rejected : Bool) (protocol time count : Nat) : updateBytes k r authorized rejected protocol time count
    = evData (updateHead k r authorized rejected ++ ([(8, (time : Int)), (4, (count : Int))] ++ updateTail protocol)) := rfl

/-- The fields that a request can change do not hold the request's time and count. -/
theorem updateFields_updateBytes (authorized rejected : Bool) (protocol time count : Nat) :
    updateFields (updateBytes k r authorized rejected protocol time count) = evData (updateHead k r authorized rejected) ++ evData (updateTail protocol) := by
  have head : (evData (updateHead k r authorized rejected)).length = 26 := length_evData _
  have upTo : (evData (updateHead k r authorized rejected ++ [(8, (time : Int)), (4, (count : Int))])).length = 38 := length_evData _
  have takes (l : List (Nat × Int)) : (evData (updateHead k r authorized rejected ++ l)).take 26 = evData (updateHead k r authorized rejected) := by
    rw [evData_append]
    exact List.take_left' head
  have drops (l : List (Nat × Int)) :
      (evData ((updateHead k r authorized rejected ++ [(8, (time : Int)), (4, (count : Int))]) ++ l)).drop 38 = evData l := by
    rw [evData_append]
    exact List.drop_left' upTo
  rw [updateFields, updateBytes_eq, takes, ← List.append_assoc, drops]

theorem sendUpdate_update : updateFields ((sendUpdate k r rejected d).vehicle[k]).update
    = updateFields (updateBytes k r (d.vehicle[k]).authorized rejected (d.vehicle[k]).protocol 0 0) := by
  have next : updateFields (nextUpdate k r rejected d)
      = updateFields (updateBytes k r (d.vehicle[k]).authorized rejected (d.vehicle[k]).protocol 0 0) :=
    (updateFields_updateBytes ..).trans (updateFields_updateBytes ..).symm
  rw [sendUpdate_vehicle]
  split <;> rename_i same
  · exact same.symm.trans next
  · exact next

/-- The end of a session leaves no protocol, security or authorization (R188, R191). -/
theorem endVehicle_session : ((endVehicle k rejected d).vehicle[k]).session = (0, false, false, none) := congrArg Vehicle.session (upd_get_same ..)

theorem within_endVehicle : Within [.vehicle, .barrier] [] d (endVehicle k rejected d) := by
  unfold endVehicle
  exact (Within.ite .rfl within_sendUpdate).trans ((within_onVehicle ..).mono (by simp) (by simp))

end Sys2Proof.Machine
end

section
/-! The claims on a vehicle's messages and on the time for its authorization (R188 to R192). -/
namespace Sys2Proof.Machine
variable {d e : Dev} {s : State} {k : Fin 12} {m : VehicleMsg}

theorem exec_vehicleMessage (runs : up 0 s.dev = true) : exec (.vehicleMessage k m) s = done s (vehicleMessage k m s.dev) :=
  congrArg (done s) (if_pos runs)

/-- What a vehicle's message gives: what the host makes of it after the answer. -/
theorem gives_of_vehicleMessage {P : Dev → Prop} (runs : up 0 s.dev = true) (holds : P (vehicleMessage k m s.dev)) :
    Gives (.vehicleMessage k m) s P := gives_of_done (exec_vehicleMessage runs) (by simp) holds

theorem vehicle_of_session {v : Vehicle} {p : Nat} {tls auth : Bool} {t : Option Nat} (h : v.session = (p, tls, auth, t)) :
    v.protocol = p ∧ v.tls = tls ∧ v.authorized = auth ∧ v.pendingSince = t := by
  simpa [Vehicle.session] using h

/-- The record of a vehicle's session that begins with a protocol. -/
def Vehicle.begun (p : Nat) (tls : Bool) (v : Vehicle) : Vehicle :=
  { v with tls := tls, protocol := p, pendingSince := none, authorized := false, update := [] }

theorem vehicleMessage_offer {l : List Nat} {tls : Bool} {p : Nat} (selected : selectProtocol k l tls d = some p) :
    vehicleMessage k (.offer l tls) d = sendUpdate k (bareRequest 0) false (onVehicle k (Vehicle.begun p tls) (answerVehicle k d)) := by
  unfold vehicleMessage
  dsimp only
  rw [selectProtocol_answerVehicle, selected]
  rfl

theorem vehicleMessage_offer_none {l : List Nat} {tls : Bool} (none_ : selectProtocol k l tls d = none) :
    vehicleMessage k (.offer l tls) d = answerVehicle k d := by
  unfold vehicleMessage
  dsimp only
  rw [selectProtocol_answerVehicle, none_]

theorem key_ne_of_sub {idx a b : Nat} (other : a ≠ b) : key idx a ≠ key idx b := fun same => other (Nat.add_left_cancel same)

theorem askAuthorization_num {mode idx sub : Nat} :
    num (askAuthorization k mode d) idx sub = num (setNum (authIdx k) 0x01 0 (setNum (authIdx k) 0x02 mode d)) idx sub :=
  (within_onVehicle ..).num_eq (by simp)

/-- The messages that end a session (R188, R192). -/
theorem vehicleMessage_ends (ends : m = .closed ∨ m = .unsupported ∨ ∃ n, m = .oversize n ∧ 8192 < n) :
    vehicleMessage k m d = endVehicle k false (answerVehicle k d) := by
  obtain rfl | rfl | ⟨n, rfl, long⟩ := ends
  · rfl
  · rfl
  · exact if_neg (not_le.2 long)

theorem vehicleMessage_identify {chain ident : List Byte} {root : Option (Fin 8)} (session : (d.vehicle[k]).protocol ≠ 0) (eim : on d 0x3100 0x03 = true) :
    vehicleMessage k (.identify false root chain ident) d = askAuthorization k 1 (answerVehicle k d) := by
  have eim' : on (answerVehicle k d) 0x3100 0x03 = true := by
    rw [on, answerVehicle_num (key_ne_answer (by decide) (.inl (by decide)))]
    exact eim
  unfold vehicleMessage
  dsimp only
  rw [if_neg session, if_neg Bool.false_ne_true, eim']
  rfl

theorem vehicleMessage_request {r : VehicleRequest} (session : (d.vehicle[k]).protocol ≠ 0) (room : ¬ (r.phase = 1 ∧ 48 ≤ d.metro.ring.length)) :
    vehicleMessage k (.request r) d = sendUpdate k r false
      (setNum (vehIdx k) 0x03 (flag (r.dynamic && (d.vehicle[k]).protocol == 3)) (answerVehicle k d)) := by
  unfold vehicleMessage
  dsimp only
  rw [if_neg session, answerVehicle_metro, if_neg room]

theorem vehicleMessage_holds : Claims.vehicleMessage := by
  intro k s ended
  refine ⟨fun l tls p runs selected => gives_of_vehicleMessage runs ?_, fun l tls runs none_ => gives_of_vehicleMessage runs ?_,
    fun v runs ends => gives_of_vehicleMessage runs ?_, fun i sv soc runs => gives_of_vehicleMessage runs ?_,
    fun ok ch i runs session eim => gives_of_vehicleMessage runs ?_, fun r runs session room => gives_of_vehicleMessage runs ?_,
    fun v stopped => rests_of_done (congrArg (done s) (if_neg (ne_true_of_eq_false stopped)))⟩
  · rw [vehicleMessage_offer selected]
    have begins : ((onVehicle k (Vehicle.begun p tls) (answerVehicle k s.dev)).vehicle[k]) = ((answerVehicle k s.dev).vehicle[k]).begun p tls :=
      upd_get_same (answerVehicle k s.dev).vehicle k (Vehicle.begun p tls)
    exact vehicle_of_session ((sendUpdate_session).trans ((congrArg Vehicle.session begins).trans rfl))
  · rw [vehicleMessage_offer_none none_]
    exact congrArg (·[k]) answerVehicle_vehicle
  · rw [vehicleMessage_ends ends]
    obtain ⟨protocol, tls, authorized, pending⟩ := vehicle_of_session endVehicle_session
    exact ⟨protocol, tls, authorized, pending⟩
  · exact ⟨congrArg (·[k]) answerVehicle_vehicle, (num_setNum_other _ _ _ _ _ _ (key_ne_of_sub (by decide))).trans (num_setNum_same ..),
      num_setNum_same .., (getVal_setVal_other _ _ _ _ (key_ne_of_sub (by decide))).trans
        ((getVal_setVal_other _ _ _ _ (key_ne_of_sub (by decide))).trans (getVal_setVal_same ..))⟩
  · rw [vehicleMessage_identify session eim]
    rw [askAuthorization_num, askAuthorization_num, num_setNum_same, num_setNum_other _ _ _ _ _ _ (key_ne_of_sub (by decide)), num_setNum_same]
    exact ⟨(congrArg Vehicle.pendingSince (upd_get_same ..)).trans (by simp), rfl, rfl⟩
  · rw [vehicleMessage_request session room]
    refine ⟨((within_sendUpdate).num_eq (by simp)).trans (num_setNum_same ..), ?_⟩
    have vehicle : ((setNum (vehIdx k) 0x03 (flag (r.dynamic && (s.dev.vehicle[k]).protocol == 3)) (answerVehicle k s.dev)).vehicle[k])
        = s.dev.vehicle[k] := congrArg (·[k]) answerVehicle_vehicle
    rw [sendUpdate_update, vehicle]

/-! The time for an authorization (R191). -/

theorem exec_authorizationTimeout : exec (.authorizationTimeout k) s = done s ((s.dev.vehicle[k]).pendingSince.elim s.dev fun t =>
    endVehicle k true (setNum (authIdx k) 0x01 2 (reach (t + ms (nat s.dev 0x3100 0x04)) s.dev))) := by
  change execAuthorizationTimeout k s = _
  unfold execAuthorizationTimeout
  dsimp only
  cases (s.dev.vehicle[k]).pendingSince <;> rfl

theorem authorizationTimeout_holds : Claims.authorizationTimeout := by
  refine fun k s => ⟨fun t pending => ?_, fun none_ => rests_of_none exec_authorizationTimeout none_⟩
  obtain ⟨protocol, -, authorized, asked⟩ := vehicle_of_session (endVehicle_session (k := k) (rejected := true)
    (d := setNum (authIdx k) 0x01 2 (reach (t + ms (nat s.dev 0x3100 0x04)) s.dev)))
  exact gives_of_done (acts_of_some exec_authorizationTimeout pending) (by simp)
    ⟨((within_endVehicle).num_eq (by simp)).trans (num_setNum_same ..), authorized, asked, protocol, by simp⟩

end Sys2Proof.Machine
end

section
/-! A write to an entry of the host side, from the command that is named for it to its answer (R18, R367 to R369). -/
namespace Sys2Proof.Machine
variable {d e : Dev} {c : Instr} {idx sub : Nat} {a : Ask} {h : Served} {r : Row} {s : State} {n : Fin 6} {m : DictMsg} {q : Asked} {conn : Conn}

/-! The parts that a request's way touches. -/

theorem within_onSite (f : HostSite → HostSite) : Within [.site] [] d (onSite f d) := by
  refine ⟨fun p out => ?_, fun _ _ => rfl⟩
  cases p
  case site => exact absurd (List.mem_singleton_self _) out
  case time => exact ⟨le_rfl, rfl⟩
  all_goals rfl

theorem within_onSlot (n : Fin 6) (f : Session → Session) : Within [.site] [] d (onSlot n f d) := within_onSite _

theorem onSlot_session (n : Fin 6) (f : Session → Session) : (onSlot n f d).site.sessions[n] = f d.site.sessions[n] := upd_get_same ..

theorem within_note (n : Fin 6) (m : DictMsg) : Within [.site] [] d (note n m d) := within_onSlot ..

theorem within_onCan (k : Fin 2) (f : CanCtl → CanCtl) : Within [.site] [] d (onCan k f d) :=
  within_onSite fun s => { s with can := upd s.can k f }

/-- A request is taken from a controller's queue, or from none. -/
theorem takeRequest_cases (a : Ask) (m : DictMsg) (d : Dev) : takeRequest a m d = d ∨ ∃ k f, takeRequest a m d = onCan k f d := by
  unfold takeRequest
  cases a.conn with
  | can k node =>
    dsimp only
    split
    · exact .inr ⟨_, _, rfl⟩
    · split
      · exact .inr ⟨_, _, rfl⟩
      · exact .inl rfl
  | tls | usb | peer => exact .inl rfl

theorem within_takeRequest (a : Ask) (m : DictMsg) : Within [.site] [] d (takeRequest a m d) := by
  obtain same | ⟨k, f, taken⟩ := takeRequest_cases a m d
  · rw [same]
    exact .rfl
  · rw [taken]
    exact within_onCan k f

theorem takeRequest_sessions : (takeRequest a m d).site.sessions = d.site.sessions := by
  obtain same | ⟨k, f, taken⟩ := takeRequest_cases a m d
  · rw [same]
  · rw [taken]
    rfl

/-- The way of a request up to its checks changes the server's own part alone. -/
theorem within_arrive (n : Fin 6) (q : Asked) : Within [.site] [] d (arrive n q d) :=
  ((within_takeRequest ..).trans (within_onSlot ..)).trans (within_note ..)

theorem canIdx_group {sub : Nat} (k : Fin 2) (low : sub < 256) : key (canIdx k) sub / 65536 = 0x12 := (key_group low).trans (by revert k; decide)

theorem within_stage (k : Fin 2) (urgent : Bool) (f : CanFrame) : Within [.site] [0x12] d (stage k urgent f d) := by
  have counted : Within [.site] [0x12] d (bump (canIdx k) 0x0D d) := canIdx_group k (sub := 0x0D) (by decide) ▸ (within_bump ..).mono (by simp) (by simp)
  have queued (f : CanCtl → CanCtl) : Within [.site] [0x12] d (onCan k f d) := (within_onCan k f).mono (by simp) (by simp)
  unfold stage
  dsimp only
  exact .ite .rfl (.ite (.ite (queued _) counted) (.ite (queued _) counted))

theorem within_deliver (conn : Conn) (code : Nat) (m : DictMsg) : Within [.site] [0x12] d (deliver conn code m d) := by
  unfold deliver
  cases conn with
  | can k node => exact .ite .rfl (within_stage ..)
  | tls | usb | peer => exact .rfl

/-- The answer on its way to its session changes the server's own part alone. -/
theorem within_respond (n : Fin 6) (conn : Conn) (m : DictMsg) : Within [.site] [0x12] d (respond n conn m d) :=
  .ite (((within_onSlot ..).mono (by simp) (by simp)).trans (within_deliver ..)) .rfl

/-! The request at the server. -/

/-- A write to an entry of the host side does not cross the barrier. -/
theorem crosses_of_host (write : m.service = 0x11) (host : fieldHeld m.index m.sub = false) : crosses m d = false := by
  simp [crosses, write, host]

theorem newRequest_spec (got : newRequest q d = some n) : slotOf q.ask.session.toNat = some n ∧ reaches q.ask.conn d = true
    ∧ q.ask.flags.toNat / 8 = 0 ∧ hostService q.service = true ∧ (d.site.sessions[n]).conn = some q.ask.conn
    ∧ repeats d.site.sessions[n] q.msg d.time.now = false ∧ tooBusy n q.msg d = false := by
  unfold newRequest at got
  cases found : slotOf q.ask.session.toNat with
  | none =>
    rw [found] at got
    cases got
  | some slot =>
    rw [found] at got
    dsimp only at got
    split at got
    · rename_i new
      obtain rfl := Option.some.inj got
      simp only [Bool.and_eq_true, beq_iff_eq, Bool.not_eq_true'] at new
      obtain ⟨⟨⟨⟨⟨reaches_, flags⟩, host⟩, conn⟩, fresh⟩, free⟩ := new
      exact ⟨rfl, reaches_, flags, host, conn, fresh, free⟩
    · cases got

/-- A new request of an open session that does not cross the barrier is noted and done. -/
theorem serveMsg_new (flags : m.flags / 8 = 0) (host : hostService m.service = true) (slot : slotOf m.session = some n)
    (open_ : (d.site.sessions[n]).conn = some conn) (fresh : repeats d.site.sessions[n] m d.time.now = false)
    (free : decide (8 ≤ (d.site.sessions[n]).outstanding.length) = false) (here : ∀ d, crosses m d = false) (goes : m.service ≠ 0x02) :
    serveMsg conn m d = answered n conn m (perform conn n m (note n m (onSlot n (fun x => { x with last := d.time.now }) d))) := by
  have session := onSlot_session (d := d) n fun x => { x with last := d.time.now }
  have fresh' : repeats ((onSlot n (fun x => { x with last := d.time.now }) d).site.sessions[n]) m d.time.now = false := by
    rw [session]
    exact fresh
  have free' : tooBusy n m (onSlot n (fun x => { x with last := d.time.now }) d) = false := by
    rw [tooBusy, session, here]
    simpa using free
  unfold serveMsg
  rw [if_neg (not_not.2 flags), host, slot]
  dsimp only
  rw [if_neg (by decide), if_neg (not_not.2 open_)]
  rw [onSlot_time, if_neg (ne_true_of_eq_false fresh'), serveNew, if_neg (ne_true_of_eq_false free'), if_neg goes,
    if_neg (ne_true_of_eq_false (here _))]

/-- A write that the server does. -/
theorem perform_write (write : m.service = 0x11) (host : fieldHeld m.index m.sub = false) :
    perform conn n m d = writeService (n.val + 1) m.index m.sub m.data d := by
  unfold perform
  dsimp only
  rw [write, if_pos (by decide), host]
  simp only [entryService, write]
  rfl

/-- What a command named for a host-side entry asks of the server, and what the server does with it. -/
theorem served_at_server (asked : askedBy c = some (.named idx sub a)) (host : fieldHeld idx sub = false) (got : served c d = some h) :
    ∃ n can, h = ⟨n, requestMsg 0x11 idx sub a, can, false, arrive n (.named idx sub a) d⟩
      ∧ serveWrite idx sub a d = answered n a.conn h.msg (writeService (h.slot.val + 1) h.msg.index h.msg.sub h.msg.data h.dev) := by
  unfold served at got
  split at got
  · simp [askedBy] at asked
  · simp only [asked, Asked.named, host] at got
    split at got
    · contradiction
    split at got
    · rename_i n new
      split at got
      · cases got
      · obtain ⟨slot, reaches_, flags, service, open_, fresh, free⟩ := newRequest_spec new
        refine ⟨n, _, (Option.some.inj got).symm, ?_⟩
        obtain rfl := Option.some.inj got
        have host' : fieldHeld (requestMsg 0x11 idx sub a).index (requestMsg 0x11 idx sub a).sub = false := host
        have new_ := serveMsg_new (d := takeRequest a (requestMsg 0x11 idx sub a) d) (conn := a.conn) flags service slot
          (by rw [takeRequest_sessions]; exact open_) (by rw [takeRequest_sessions, takeRequest_time]; exact fresh)
          (by rw [takeRequest_sessions]; exact (Bool.or_eq_false_iff.1 free).1) (fun d => crosses_of_host rfl host')
          (show 0x11 ≠ 0x02 by decide)
        rw [perform_write rfl host', takeRequest_time] at new_
        rw [serveWrite, if_neg (ne_true_of_eq_false host), if_neg (by simp [reaches_])]
        exact new_
    · cases got

/-- What a command named for a host-side entry gives where its write is taken: what the entry's chapter says, with the request noted in its session
before and the answer on its way after. -/
theorem takes_at_server {parts : List Part} {groups : List Nat} {P : WriteCall → Dev → Prop}
    (asked : askedBy c = some (.named idx sub a)) (host : fieldHeld idx sub = false) (run : exec c s = done s (serveWrite idx sub a s.dev))
    (work : ∀ w r d, Within [.site] [] s.dev d → w.idx = idx → w.sub = sub → rowOf idx sub = some r → subjectChecks w r d = [] →
      Within (writeParts ++ parts) (0x12 :: groups) d (accept w r d)
        ∧ ∀ e, Within [.site] [0x12] (accept w r d) e → P w e) : Claims.Takes c s parts groups P := by
  intro h got taken
  obtain ⟨n, can, rfl, served⟩ := served_at_server asked host got
  obtain ⟨r, found, access, valid, passes⟩ := Served.taken_spec taken
  rw [Served.write_eq found] at passes ⊢
  rw [writeService_accept found access valid passes] at served
  have arrived : Within [.site] [] s.dev (arrive n (.named idx sub a) s.dev) := within_arrive ..
  obtain ⟨within, holds⟩ := work _ r _ arrived rfl rfl (rowOf_of_findEntry found) passes
  have goes {w : WriteCall} : Within [.site] [0x12] (accept w r (arrive n (.named idx sub a) s.dev))
      (answered n a.conn (requestMsg 0x11 idx sub a) (accept w r (arrive n (.named idx sub a) s.dev), reply [])) := within_respond ..
  refine gives_of_done run (by simp) ?_
  rw [served]
  exact ⟨holds _ goes, ((arrived.mono (by simp [writeParts]) (by simp)).trans within).trans (goes.mono (by simp [writeParts]) (by simp))⟩

end Sys2Proof.Machine
end

section
/-! The claim on the result of an authorization (R191). -/
namespace Sys2Proof.Machine
variable {d e : Dev} {w : WriteCall} {k : Fin 12} {j : Fin 12} {n : Nat}

theorem authorizationResult_row : ∀ k : Fin 12, rowOf (authIdx k) 0x01 = some (row 0x3120 1 12 0x01 0x01 .u8 .own .v (.k 0) (.upto 2)) := by decide

theorem handlerOf_authorizationResult (k : Fin 12) : handlerOf (authIdx k) 0x01 = authorizationHandler := by fin_cases k <;> rfl

theorem outletOfIdx_authIdx : ∀ k : Fin 12, outletOfIdx (authIdx k) 0x3120 = k := by decide

theorem outletOfIdx_authorization (idx : w.idx = authIdx k) : outletOfIdx w.idx 0x3120 = k :=
  (congrArg (outletOfIdx · 0x3120) idx).trans (outletOfIdx_authIdx k)

theorem fieldHeld_authorization : ∀ k : Fin 12, fieldHeld (authIdx k) 0x01 = false := by decide

theorem authorizationResult_passes (own : outletOfIdx w.idx 0x3120 = k) (passes : authorizationHandler.checks w d = []) :
    (d.vehicle[k]).pendingSince.isSome = true := by
  have pending : (d.vehicle[k]).pendingSince.isNone = false := by
    simpa only [authorizationHandler, own, failing_eq_nil] using passes
  simpa using pending

/-- The record of a vehicle that is authorized. -/
def Vehicle.accepted (v : Vehicle) : Vehicle := { v with pendingSince := none, authorized := true }

theorem authKey_group (k : Fin 12) {sub : Nat} (low : sub < 256) : key (authIdx k) sub / 65536 = 0x31 := (key_group low).trans (by revert k; decide)

theorem within_authorize (k : Fin 12) (n : Nat) : Within [.vehicle, .barrier] [0x31] d (authorize k n d) := by
  have shown : Within [.vehicle, .barrier] [0x31] d (setNum (authIdx k) 0x01 n d) :=
    authKey_group k (sub := 0x01) (by decide) ▸ (within_setNum ..).mono (by simp) (by simp)
  unfold authorize
  exact .ite (shown.trans ((within_onVehicle ..).mono (by simp) (by simp)))
    (.ite (shown.trans ((within_endVehicle).mono (by simp) (by simp))) shown)

theorem onVehicle_other {f : Vehicle → Vehicle} (other : j ≠ k) : (onVehicle k f d).vehicle[j] = d.vehicle[j] := upd_get_other _ _ _ _ other

theorem sendUpdate_other {r : VehicleRequest} {rejected : Bool} (other : j ≠ k) : (sendUpdate k r rejected d).vehicle[j] = d.vehicle[j] := by
  rw [sendUpdate_eq]
  split
  · rfl
  · rw [onVehicle_other other, enqueue_vehicle]

theorem endVehicle_other {rejected : Bool} (other : j ≠ k) : (endVehicle k rejected d).vehicle[j] = d.vehicle[j] := by
  rw [endVehicle, onVehicle_other other]
  split
  · rfl
  · exact sendUpdate_other other

/-- What the result of an authorization makes of the vehicles: 1 authorises, 2 ends the session (R191). -/
theorem authorize_spec : num (authorize k n d) (authIdx k) 0x01 = n
    ∧ (n = 1 → (authorize k n d).vehicle[k] = (d.vehicle[k]).accepted)
    ∧ (n = 2 → ((authorize k n d).vehicle[k]).session = (0, false, false, none))
    ∧ ∀ j, j ≠ k → (authorize k n d).vehicle[j] = d.vehicle[j] := by
  unfold authorize
  by_cases accepted : n = 1
  · subst accepted
    refine ⟨((within_onVehicle ..).num_eq (by simp)).trans (num_setNum_same ..), fun _ => upd_get_same .., fun rejected => ?_,
      fun j other => onVehicle_other other⟩
    cases rejected
  dsimp only
  rw [if_neg accepted]
  by_cases rejected : n = 2
  · rw [if_pos rejected]
    exact ⟨((within_endVehicle).num_eq (by simp)).trans (num_setNum_same ..), fun yes => absurd yes accepted, fun _ => endVehicle_session,
      fun j other => endVehicle_other other⟩
  · rw [if_neg rejected]
    exact ⟨num_setNum_same .., fun yes => absurd yes accepted, fun yes => absurd yes rejected, fun _ _ => rfl⟩

theorem authorizationResultWrite_holds : Claims.authorizationResultWrite := by
  intro a k s
  refine takes_at_server rfl (fieldHeld_authorization k) rfl fun w r d arrived own own' row passes => ?_
  obtain ⟨acc, keep⟩ : r.acc = .own ∧ r.keep = .v := Option.some.inj ((authorizationResult_row k).symm.trans row) ▸ ⟨rfl, rfl⟩
  have handler : handlerOf w.idx w.sub = authorizationHandler := by
    rw [own, own']
    exact handlerOf_authorizationResult k
  have outlet : outletOfIdx w.idx 0x3120 = k := outletOfIdx_authorization own
  have checks := checks_of_passes passes
  rw [handler] at checks
  rw [accept_of_value (by rw [acc]; decide) keep, handler, show authorizationHandler.act w d = authorize k w.nat d from
    congrArg (authorize · w.nat d) outlet]
  have vehicle : d.vehicle = s.dev.vehicle := arrived.vehicle_eq (by decide)
  obtain ⟨shown, accepted, rejected, others⟩ := authorize_spec (k := k) (n := w.nat) (d := d)
  have pending := authorizationResult_passes outlet checks
  simp only [vehicle] at accepted others pending
  refine ⟨(within_authorize k w.nat).mono (by simp [writeParts]) (by simp), fun e answered => ?_⟩
  have vehicle' : e.vehicle = (authorize k w.nat d).vehicle := answered.vehicle_eq (by decide)
  have shown' : num e (authIdx k) 0x01 = num (authorize k w.nat d) (authIdx k) 0x01 :=
    answered.num_eq (by rw [authKey_group k (by decide)]; decide)
  rw [vehicle']
  refine ⟨pending, shown'.trans shown, accepted, fun two => ?_, others⟩
  obtain ⟨protocol, tls, authorized, asked⟩ := vehicle_of_session (rejected two)
  exact ⟨asked, authorized, protocol, tls⟩

end Sys2Proof.Machine
end

section
/-! How an outlet is plugged, authorised and given its targets (R181 to R193, R336). -/
namespace Sys2Proof.Machine

/-- Settles O40: each command by the one record or message that it changes, and a boundary by the causes and events that an outlet's state knows. -/
theorem outletSessionCommands : Obligations.OutletSessionCommands :=
  ⟨connectionDetected_holds, unplugDetected_holds, plugTimeout_holds, targetTimeout_holds, switchOverTargetHoldExpiry_holds,
    vehicleTargetUpdate_holds, outletStatus_holds, vehicleMessage_holds, authorizationTimeout_holds, authorizationResultWrite_holds,
    outletBoundary_holds⟩

end Sys2Proof.Machine
end
